-- ==== Sys2Proof/Word.lean ====
section
/-!
DEFINITION. The words of the machine (R5): bytes, 32-bit register words, 64-bit values, and the sparse store that holds
registers and memories as plain data.
-/
namespace Sys2Proof

/-- One byte. -/
abbrev Byte := BitVec 8

/-- One 32-bit register word (R31). -/
abbrev Word := BitVec 32

/-- One 64-bit value (R42). -/
abbrev Word64 := BitVec 64

/-- A sparse store of `w`-bit cells by number. It lists rising numbers and no zero cell; a number it does not list reads zero. -/
abbrev Sparse (w : Nat) := List (Nat × BitVec w)

end Sys2Proof
end

