-- ==== Sys2Proof/Syntax.lean ====
section
/-!
DEFINITION. The commands of the block: one constructor of `Instr` for each row of the table of operations and events, with the
operands the outside world supplies (an address, a value, the data a board or a host drives, the verdict of an external check).
-/
namespace Sys2Proof

/-- A requester number (R21). -/
abbrev Requester := Fin 64

/-- The base address register an inbound PCIe request hits (R61, R94). -/
inductive Bar where
  | bar0 | bar2 | bar4 | noBar
  deriving DecidableEq, Repr

/-- The four window families (R63). -/
inductive WinFam where
  | iw | ow | lw | lz
  deriving DecidableEq, Repr

/-- The posted-write paths of R209. -/
inductive WPath where
  | h2l | l2h | itm (n : Fin 5) | direct
  deriving DecidableEq, Repr

/-- The error types of R278. -/
inductive ErrType where
  | decode | timeout | berr | parity | decUncorr | lockBroken | ageDrop | perm | peerDown | replayDup | prefDiscardSide
  deriving DecidableEq, Repr

/-- Write data: one entry per byte, `none` where the byte enable is off. -/
abbrev WData := List (Option Byte)

/-- An inbound PCIe memory request (R94, R99): BAR and offset, PCIe requester ID, PCIe tag, EP, Relaxed Ordering and attributes. -/
structure HostReq where
  bar : Bar
  off : Nat
  rid : BitVec 16
  ptag : Nat := 0
  ep : Bool := false
  ro : Bool := false
  deriving DecidableEq, Repr

/-- What a configuration request to function 0 does (R92, R106, R108): it reads a named item or writes a control the device acts on. -/
inductive CfgReq where
  | readId | readRevClass | readSubsys | readCaps | readCommand
  | writeBme (on : Bool)
  | writeMsix (enable fmask : Bool)
  | writeDevCtl (mps mrrs : Fin 6) (extTag tag10 : Bool)
  | writeCplTimeout (disable : Bool)
  | writePower (d3hot : Bool)
  | other
  deriving DecidableEq, Repr

/-- How a device-issued read ends at the host (R105). -/
inductive CplStatus where
  | success | unsupported | abort | crs
  deriving DecidableEq, Repr

/-- What takes the host link away (R108). -/
inductive LinkLossCause where
  | perst | hotReset | linkDown
  deriving DecidableEq, Repr

/-- Who issues a barrier, and for whom (R220). -/
inductive BarrierSrc where
  | win (writer : Requester) (host : Fin 32)   -- a write of WIN_BARRIER
  | lw (k : Fin 2)                             -- a write into an LW with BARRIER = 1
  | gzb (ch : Fin 16)                          -- descriptor flag BF
  | fw (r : Requester)                         -- a firmware service of the Lodge or an Arcade core
  deriving DecidableEq, Repr

/-- How a beat on the L-bus ends at an eligible edge (R116). -/
inductive Termination where
  | normal | wait | retry | busError | cfail
  deriving DecidableEq, Repr

/-- The three requesters of the internal L-bus arbiter, in requester order (R135). -/
inductive BusOwner where
  | lbm0 | lbm1 | orangery | other
  deriving DecidableEq, Repr

/-- A slave cycle an external master drives through an LW (R113, R115): who, where, with which enables, over how many beats. -/
structure SlaveCycle where
  master : Fin 2
  addr : Word
  beN : BitVec 4
  burst : Bool := false
  beats : Nat := 1
  beat : Nat := 0
  lock : Bool := false
  addrBad : BitVec 4 := 0                     -- LPAR lanes that fail in the address phase (R208)
  dataBad : BitVec 4 := 0                     -- LPAR lanes that fail in this beat
  deriving DecidableEq, Repr

/-- The descriptor of an Itmos transfer with its data (R160, R161). -/
structure Transfer where
  op : Nat
  tag : Nat := 0
  addr : Nat := 0
  ts : Nat := 0
  orig : Nat := 0
  dst : Nat := 0
  status : Nat := 0
  length : Nat := 0
  fbe : Nat := 0
  lbe : Nat := 0
  csFail : Bool := false
  failDw : Nat := 0
  poison : Bool := false
  tc : Nat := 0
  data : List Byte := []
  deriving DecidableEq, Repr

/-- The HELLO payload (R176). -/
structure Hello where
  version : Nat
  devid : Nat
  link : Nat
  role : Nat
  expDevid : Nat
  expRole : Nat
  twin : Nat
  epoch : Nat
  lanes : Nat
  credits : List Nat
  result : Nat
  silicon : Nat
  deriving DecidableEq, Repr

/-- A time source (R243, R249): the primary, the secondary, or the ACTIVE twin that a STANDBY twin follows. -/
inductive BlvSource where
  | primary | secondary | twin
  deriving DecidableEq, Repr

/-- What an Itmos receiver finds: a whole transfer, a DATA flit without its HDR, or a flit of a reserved type (R162). -/
inductive RxFlits where
  | whole (t : Transfer)
  | strayData
  | reservedType
  deriving DecidableEq, Repr


/-- The CAN frame record (R334). -/
structure CanRecord where
  id : BitVec 29
  ide : Bool := false
  rtr : Bool := false
  fmt : Fin 4 := 0
  brs : Bool := false
  esi : Bool := false
  sec : Bool := false
  sdt : Byte := 0
  vcid : Byte := 0
  af : Word := 0
  deriving DecidableEq, Repr

/-- A frame as it stands at a receive pin: its data and its start-of-frame stamp in ns with the fraction in 2^-16 ns (R329, R333). -/
structure Received where
  data : List Byte
  sof : Nat
  frac : Fin 65536 := 0
  deriving DecidableEq, Repr

/-- What reaches a MAC for transmission: a frame transfer from the Pergola, or a gPTP frame of the Arcade (R250, R343). -/
inductive EthIn where
  | xfer (n : Nat)
  | gptp (data : List Byte)
  deriving DecidableEq, Repr

/-- What an age promotion concerns (R19): a requester of the L-bus arbiter, or a frame transfer at its Pergola output. -/
inductive Promoted where
  | bus (o : BusOwner)
  | xfer (n : Nat)
  deriving DecidableEq, Repr

/-- What the scrubber finds in a word (R429). -/
inductive ScrubFind where
  | clean
  | corrected (bit : Fin 79)
  | uncorrectable
  deriving DecidableEq, Repr
/-- The commands of the block, one constructor per row of the table of operations and events. -/
inductive Instr where
  /-- REGISTER_WRITE (R37): A write to a register that has no row of its own is performed according to its access class. -/
  | registerWrite (who : Requester) (off : Nat) (v : Word) (be : BitVec 4)
  /-- SET_ALIAS_WRITE (R38): A write at the SET alias ORs the value into an RWA register in one indivisible read-modify-write. -/
  | setAliasWrite (who : Requester) (off : Nat) (v : Word)
  /-- CLEAR_ALIAS_WRITE (R38): A write at the CLEAR alias clears the written bits of an RWA register in one indivisible read-modify-write. -/
  | clearAliasWrite (who : Requester) (off : Nat) (v : Word)
  /-- TOGGLE_ALIAS_WRITE (R38): A write at the TOGGLE alias XORs the value into an RWA register in one indivisible read-modify-write. -/
  | toggleAliasWrite (who : Requester) (off : Nat) (v : Word)
  /-- MASKED_WRITE (R39): A write to an RWM register changes only the bits that bits [31:16] select. -/
  | maskedWrite (who : Requester) (off : Nat) (v : Word)
  /-- KEYED_ARM (R40): A write of V at a keyed register arms an attempt and replaces any attempt already armed. -/
  | keyedArm (who : Requester) (off : Nat) (v : Word)
  /-- KEYED_COMMIT (R40): A companion write of NOT V by the arming requester commits V; any other companion write discards the attempt and counts it. -/
  | keyedCommit (who : Requester) (off : Nat) (v : Word)
  /-- KEYED_EXPIRY (R40): An armed keyed attempt with no companion write within 64 CORE cycles is discarded and counted in SYS_KEY_REJECT. -/
  | keyedExpiry (off : Nat)
  /-- RWS_APPLY (R41): The slow domain applies a posted RWS write, and SYNC_BUSY returns to 0. -/
  | rwsApply (frame : Nat)
  /-- RW64_LOW_WRITE (R42): A low-word write of a writable RW64 value is held in the value's holding register with the writer's number. -/
  | rw64LowWrite (who : Requester) (off : Nat) (v : Word)
  /-- RW64_HIGH_WRITE (R42): A high-word write commits the new high word together with the held low word of the same requester, or with the current low word. -/
  | rw64HighWrite (who : Requester) (off : Nat) (v : Word)
  /-- RW64_FULL_WRITE (R42): An aligned 64-bit write commits both halves of an RW64 value in one CORE cycle. -/
  | rw64FullWrite (who : Requester) (off : Nat) (lo hi : Word)
  /-- CFG_PARITY_MISMATCH (R47): The parity checker finds a configuration register whose parity fails, raises CFG_PARITY and logs PARITY. -/
  | cfgParityMismatch (off : Nat) (v : Word) (shadowOk : Bool)
  /-- WARM_RESET (R465): A committed WARM drains the buffers, places the DRAM in self-refresh, resets the blocks and restarts the Lodge ROM. -/
  | warmReset
  /-- BLOCK_RESET (R466): A committed BLOCK_RST returns the named block to its power-on state after any drain. -/
  | blockReset (b : Fin 32)
  /-- RESTORE_FACTORY (R491): A committed RESTORE_FACTORY starts erasure of both user calibration copies. -/
  | restoreFactory
  /-- CAL_ERASE_DONE (R491): Erasure of the user calibration area ends and ERASE_BUSY returns to 0. -/
  | calEraseDone
  /-- VT_LO_READ (R242): A read of BLV_VT_LO returns the low word of VT and latches the fraction for the reading requester. -/
  | vtLoRead (who : Requester)
  /-- HOST_MWR (R95): An inbound PCIe posted write is decoded by BAR and window and becomes cells, or is posted, or is refused. -/
  | hostMwr (r : HostReq) (data : WData)
  /-- HOST_MRD (R95): An inbound PCIe read takes a TT entry and crosses the Pergola as one non-posted request. -/
  | hostMrd (r : HostReq) (len : Nat)
  /-- HOST_FETCHADD (R97): An inbound FetchAdd AtomicOp is performed indivisibly at its target and returns the original value. -/
  | hostFetchadd (r : HostReq) (len : Nat) (add : List Byte)
  /-- HOST_SWAP (R97): An inbound Swap AtomicOp is performed indivisibly at its target and returns the original value. -/
  | hostSwap (r : HostReq) (len : Nat) (new : List Byte)
  /-- HOST_CAS (R97): An inbound 32- or 64-bit CAS AtomicOp is performed indivisibly at its target and returns the original value. -/
  | hostCas (r : HostReq) (len : Nat) (compare new : List Byte)
  /-- HOST_CONFIG_REQUEST (R107): A configuration request to the function is served, or receives Configuration Request Retry Status before CFG_DONE. -/
  | hostConfigRequest (c : CfgReq)
  /-- HOST_IO_REQUEST (R96): An I/O request or a configuration request to another function ends with Unsupported Request and is logged as DECODE. -/
  | hostIoRequest (rid : BitVec 16) (ptag : Nat) (write : Bool)
  /-- HOST_MESSAGE (R96): An inbound PCIe message is discarded if Vendor_Defined Type 1 and otherwise handled as the specification requires. -/
  | hostMessage (vendorType1 : Bool)
  /-- HOST_BAR4_ACCESS (R61): An access to BAR 4 reads or writes the MSI-X table or pending-bit array inside the host port. -/
  | hostBar4Access (r : HostReq) (len : Nat) (w : Option WData)
  /-- MSIX_UNMASK (R106): Removal of a vector mask or Function Mask sends the messages held as pending bits. -/
  | msixUnmask (v : Option (Fin 64))
  /-- HOST_COMPLETION_RETURN (R100): A completion reaching P0 is returned to the host split at Max Payload Size, or discarded as late. -/
  | hostCompletionReturn (tag : Nat)
  /-- INB_WATCHDOG_EXPIRY (R102): The host port's inbound watchdog expires, ends the request as TIMEOUT and frees its TT entry. -/
  | inbWatchdogExpiry (tag : Nat)
  /-- OUTBOUND_WRITE (R103): A write reaching P0 through an outbound window leaves as memory write TLPs split at MPS and 4 KiB. -/
  | outboundWrite (seq : Nat)
  /-- OUTBOUND_READ_ISSUE (R104): A device-issued read leaves as a TLP once a tag and completion-buffer room are free. -/
  | outboundReadIssue (seq : Nat)
  /-- OUTBOUND_COMPLETION (R105): A host completion to a device-issued read is delivered, or ends the read as TIMEOUT for UR, CA or CRS. -/
  | outboundCompletion (ptag : Nat) (st : CplStatus) (data : List Byte)
  /-- OUTBOUND_CPL_TIMEOUT (R105): No completion arrives within the host's Completion Timeout, and the read ends as TIMEOUT. -/
  | outboundCplTimeout (ptag : Nat)
  /-- MSIX_MESSAGE_SEND (R106): An interrupt message cell reaching P0 is sent as MSI-X, set pending if masked, or dropped and counted. -/
  | msixMessageSend
  /-- HOST_LINK_LOSS (R108): PCIE_PERST_N assertion, hot reset or link down resets the function and discards traffic toward the host. -/
  | hostLinkLoss (c : LinkLossCause)
  /-- FUNCTION_LEVEL_RESET (R108): A Function Level Reset resets the function as host link loss does, within 10 ms. -/
  | functionLevelReset
  /-- D3HOT_ENTRY (R108): Entry to D3hot keeps configuration, discards writes toward the host and refuses BAR accesses. -/
  | d3hotEntry
  /-- HOST_LINK_UP (R107): The PCIe link finishes training after PCIE_PERST_N deassertion with LTSSM_EN = 1. -/
  | hostLinkUp (speed width : Nat)
  /-- HP_RECONFIG (R108): After a host-side event ends, the Lodge re-applies the image's HP records and sets CFG_DONE. -/
  | hpReconfig
  /-- LINK_RETRAIN (R110): Writing HP_LINK_CTL.RETRAIN retrains the PCIe link. -/
  | linkRetrain (speed width : Nat)
  /-- WINDOW_DISABLE (R67): A window's EN going from 1 to 0 emits its combining lines and discards its prefetched data. -/
  | windowDisable (f : WinFam) (n : Fin 32)
  /-- ORDER_BARRIER (R221): An ORDER barrier is accepted for a requester and orders its later writes after all covered writes. -/
  | orderBarrier (src : BarrierSrc)
  /-- COMPLETE_BARRIER (R222): A COMPLETE barrier is accepted and holds every later request of its requester until it is done. -/
  | completeBarrier (src : BarrierSrc)
  /-- BARRIER_DONE (R223): Every covered write has been performed or has failed, and the barrier is done with its ERR. -/
  | barrierDone (seq : Nat)
  /-- LW_BARRIER_READ (R81): A read from an LW with BARRIER = 1 returns the barrier status word of that master's latest barrier. -/
  | lwBarrierRead (c : SlaveCycle)
  /-- HOST_SEM_CLAIM (R235): Setting a CLAIM bit of WIN_HOST_SEM_CLAIM requests a semaphore slot for the host. -/
  | hostSemClaim (who : Requester) (sem : Fin 16)
  /-- HOST_SEM_RELEASE (R235): Clearing a CLAIM bit releases the host's semaphore slot. -/
  | hostSemRelease (who : Requester) (sem : Fin 16)
  /-- HOST_SEM_GRANT (R235): A pending host claim is granted once no locked sequence holds the granule. -/
  | hostSemGrant (sem : Fin 16)
  /-- ENDPOINT_REQUEST (R212): A request reaching DRAM, SRAM or register space is performed there and acknowledged or completed. -/
  | endpointRequest (seq : Nat)
  /-- WRITE_PERFORMED (R212): The end point's internal acknowledgement of a performed write reaches the write's ingress block. -/
  | writePerformed (seq : Nat)
  /-- PWB_ENTRY_FREE (R210): A posted write buffer entry is freed and a write waiting for room is accepted. -/
  | pwbEntryFree (p : WPath)
  /-- CWB_LINE_AGE_EXPIRY (R218): A combining line taken 2 µs ago is emitted. -/
  | cwbLineAgeExpiry (p : WPath) (k : Nat)
  /-- WAITING_READ_RELEASE (R213): A read that waited for its requester's earlier writes proceeds once they are performed. -/
  | waitingReadRelease (seq : Nat)
  /-- RESERVATION_EXPIRY (R229): A reservation lapses 100 µs after its reserved load was performed. -/
  | reservationExpiry (agent ident : Nat)
  /-- PREFETCH_EXPIRY (R237): A prefetched block unused for 1 µs is discarded and counted or logged. -/
  | prefetchExpiry (k : Nat)
  /-- ZONE_REQUEST_ARRIVE (R211): A request for an L-bus zone reaches the Orangery and is queued in acceptance order. -/
  | zoneRequestArrive (seq : Nat)
  /-- ZONE_REQUEST_START (R197): The Orangery starts the next request that can proceed and shapes its cycles. -/
  | zoneRequestStart
  /-- ZONE_LOCKED_RMW (R123): The Orangery performs an AtomicOp in a zone as a locked read-modify-write sequence. -/
  | zoneLockedRmw
  /-- LBUS_CYCLE_TERMINATION (R116): A beat terminates normally, by retry, by bus error or by CFAIL at an eligible edge. -/
  | lbusCycleTermination (t : Termination) (lad : Word) (lpar : BitVec 4)
  /-- RETRY_REISSUE (R126): After a retry the Orangery arbitrates again and re-issues the beats not yet transferred. -/
  | retryReissue
  /-- ZONE_TIMEOUT (R126): A zone timeout expires, the cycle is cut and the request ends as TIMEOUT. -/
  | zoneTimeout (seq : Nat)
  /-- BUS_REQUEST (R135): An external master asserts LREQ_N to request the bus. -/
  | busRequest (k : Fin 2)
  /-- ARBITRATION (R135): The internal arbiter grants the bus by guard window, age promotion or rotating order. -/
  | arbitration
  /-- EXT_GRANT (R137): In external-arbiter mode the Orangery samples LGNT_N[0] and may start its cycles. -/
  | extGrant (low : Bool)
  /-- GUARD_WINDOW_START (R138): A timed cycle's guard window begins and the Orangery takes the bus. -/
  | guardWindowStart
  /-- BUS_MONITOR_OBSERVE (R139): The monitor observes an external cycle's address phase and first beat and records it. -/
  | busMonitorObserve (master : BusOwner) (addr : Word) (beN : BitVec 4) (write burst : Bool) (t : Termination) (data : Word)
  /-- SLAVE_POSTED_WRITE (R128): An external master's write beat through an EA = 1 LW is posted, held or retried. -/
  | slavePostedWrite (c : SlaveCycle) (data : Word)
  /-- SLAVE_READ (R130): An external master's read through an LW allocates a delayed-read slot and is held with LWAIT_N. -/
  | slaveRead (c : SlaveCycle)
  /-- SLAVE_DELAYED_WRITE (R130): A write handled as a delayed write allocates a slot and waits for its end point. -/
  | slaveDelayedWrite (c : SlaveCycle) (data : Word)
  /-- SLAVE_COND_STORE (R125): A conditional store through an LW's conditional-store view is performed through a slot. -/
  | slaveCondStore (c : SlaveCycle) (data : Word)
  /-- SLAVE_LOCKED_CYCLE (R124): A cycle with LLOCK_N low takes or uses a semaphore slot for its granule. -/
  | slaveLockedCycle (c : SlaveCycle) (w : Option Word)
  /-- SLAVE_FLUSH_CYCLE (R122): A read with all byte enables high waits until that master's earlier posted writes are performed. -/
  | slaveFlushCycle (c : SlaveCycle)
  /-- LW_BARRIER_WRITE (R81): A write into an LW with BARRIER = 1 issues an ORDER or COMPLETE barrier for the master. -/
  | lwBarrierWrite (c : SlaveCycle) (data : Word)
  /-- SLAVE_SLOT_COLLECT (R131): A repeated cycle matching a slot is served from it, or held again. -/
  | slaveSlotCollect (c : SlaveCycle) (w : Option Word)
  /-- DR_COMPLETION (R130): The far-side completion of a delayed-read slot arrives and is driven or held. -/
  | drCompletion (slot : Fin 16)
  /-- LHOLD_EXPIRY (R130): LHOLD_MAX expires on a held slave cycle and it is terminated with retry. -/
  | lholdExpiry
  /-- DR_DISCARD_EXPIRY (R133): A slot whose completion stays uncollected for DR_DISCARD is freed and counted. -/
  | drDiscardExpiry (slot : Fin 16)
  /-- LOCK_RELEASE (R124): The master drives LLOCK_N high, ending its locked sequence and releasing the slot. -/
  | lockRelease (k : Fin 2)
  /-- LOCK_LIMIT_EXPIRY (R124): A locked sequence still holding its slot after 10 µs is broken and LOCK_BROKEN is logged. -/
  | lockLimitExpiry (k : Fin 2)
  /-- LRESET_RELEASE (R140): 100 µs after BUS_EN becomes 1, LRESET_N is released. -/
  | lresetRelease
  /-- LCLK_LOSS (R142): A monitor window with out-of-range LCLK edges detects loss and ends zone requests as TIMEOUT. -/
  | lclkLoss
  /-- LCLK_RECOVERY (R142): Ten consecutive good monitor windows let the Orangery resume. -/
  | lclkRecovery
  /-- LIRQ_SAMPLE (R297): The synchroniser's first stage captures a new level of LIRQ_N[k] at its sampling instant. -/
  | lirqSample (k : Fin 8) (low : Bool)
  /-- LIRQ_ACCEPT (R297): A change held for DEBOUNCE cycles is accepted and queued. -/
  | lirqAccept (k : Fin 8)
  /-- LIRQ_EFFECT (R298): A queued change takes effect in its source once the covered posted writes are performed. -/
  | lirqEffect
  /-- LIRQ_QUEUE_ROOM (R298): Room in the 32-change queue frees and differing pin levels are queued. -/
  | lirqQueueRoom
  /-- LINK_TRAINED (R153): An Itmos link's lanes lock, deskew and find flit boundaries, and the link starts HELLO. -/
  | linkTrained (n : Fin 5) (lock : BitVec 3)
  /-- TRAINING_RETRY (R153): A link without a responding peer repeats training every 1 ms. -/
  | trainingRetry (n : Fin 5)
  /-- HELLO_SEND (R177): Every 1 µs after training each side sends a HELLO flit. -/
  | helloSend (n : Fin 5)
  /-- HELLO_RECEIVE (R177): A received HELLO is checked and the link enters UP or HELD. -/
  | helloReceive (n : Fin 5) (h : Hello)
  /-- ITM_LINK_RESTART (R188): Writing ITMn_CTL.RESTART, or changing ITMn_CTL or ITMn_PEER, takes the link DOWN and retrains. -/
  | itmLinkRestart (n : Fin 5)
  /-- FLIT_CRC_FAIL (R157): A received flit whose CRC fails is discarded and counted. -/
  | flitCrcFail (n : Fin 5)
  /-- REPLAY_NAK (R171): A received NAK makes the sender replay from the oldest unacknowledged flit. -/
  | replayNak (n : Fin 5) (same : Bool)
  /-- REPLAY_TIMEOUT (R171): 1 µs without ACK progress makes the sender replay. -/
  | replayTimeout (n : Fin 5) (same : Bool)
  /-- RETRAIN_TIMEOUT (R171): A link not UP within 1 ms of entering RETRAIN goes DOWN. -/
  | retrainTimeout (n : Fin 5)
  /-- LANE_FAILURE (R173): A receiving lane loses block lock or exceeds ERR_LIMIT and is retired. -/
  | laneFailure (n : Fin 5) (phys : Fin 3)
  /-- LANE_SWAP (R174): A received LANE_SWAP flit makes the sender remap the lane onto the spare or single-lane mode. -/
  | laneSwap (n : Fin 5) (k : Fin 2)
  /-- LANE_SWAP_RESEND (R174): LANE_SWAP is repeated every 1 µs until the new map appears, then RETRAIN. -/
  | laneSwapResend (n : Fin 5) (mapSeen : Bool)
  /-- ROLE (R184): A received ROLE flit records the peer's twin state and switches routes. -/
  | role (n : Fin 5) (twin : Fin 3)
  /-- RETRAIN_REQ (R169): A received RETRAIN_REQ flit makes the link retrain. -/
  | retrainReq (n : Fin 5)
  /-- ITM_MWR (R164): A received MWR transfer is performed locally or relayed in TC1 order. -/
  | itmMwr (n : Fin 5) (x : RxFlits)
  /-- ITM_MWR_NP (R161): A received non-posted write is performed or relayed and answered. -/
  | itmMwrNp (n : Fin 5) (t : Transfer)
  /-- ITM_MRD (R161): A received read is performed or relayed with a TT entry and answered with data. -/
  | itmMrd (n : Fin 5) (t : Transfer)
  /-- ITM_RSV_LD (R227): A received reserved load sets a peer reservation at the owning device. -/
  | itmRsvLd (n : Fin 5) (t : Transfer)
  /-- ITM_COND_ST (R227): A received conditional store is checked against the peer reservation and answered with CS_FAIL. -/
  | itmCondSt (n : Fin 5) (t : Transfer)
  /-- ITM_FETCHADD (R97): A received FETCHADD is performed indivisibly and answered with the original value. -/
  | itmFetchadd (n : Fin 5) (t : Transfer)
  /-- ITM_SWAP (R97): A received SWAP is performed indivisibly and answered with the original value. -/
  | itmSwap (n : Fin 5) (t : Transfer)
  /-- ITM_CAS (R97): A received CAS is performed indivisibly and answered with the original value. -/
  | itmCas (n : Fin 5) (t : Transfer)
  /-- ITM_WBAR (R166): A received WBAR is relayed with a barrier entry or completes once earlier writes are performed. -/
  | itmWbar (n : Fin 5) (t : Transfer)
  /-- ITM_COMPLETION (R163): A received completion is matched by TAG and delivered, relayed back or discarded as late. -/
  | itmCompletion (n : Fin 5) (t : Transfer)
  /-- ITM_REQ_TIMEOUT (R164): A request sent or relayed over Itmos has no completion within REQ_TIMEOUT and ends as TIMEOUT. -/
  | itmReqTimeout (tag : Nat)
  /-- WBAR_TIMEOUT (R224): A WBAR without completion within REQ_TIMEOUT ends with STATUS TIMEOUT. -/
  | wbarTimeout (n : Fin 5) (entry : Fin 32)
  /-- INT_ASSERT (R296): A received INT_ASSERT sets the remote bit of its source node after earlier writes. -/
  | intAssert (n : Fin 5) (t : Transfer)
  /-- INT_DEASSERT (R296): A received INT_DEASSERT clears the remote bit of its source node after earlier writes. -/
  | intDeassert (n : Fin 5) (t : Transfer)
  /-- FAULT_NOTE (R457): A received fault-manager note is placed in the note FIFO or counted as lost. -/
  | faultNote (n : Fin 5) (t : Transfer)
  /-- ITM_FRAME (R329): A received FRAME transfer is parsed and looked up as this device's ingress traffic. -/
  | itmFrame (n : Fin 5) (t : Transfer)
  /-- TIME_SYNC_SEND (R182): A parent sends SYNC on each DN or TWIN link every 2^SYNC_LOG × 125 µs. -/
  | timeSyncSend (n : Fin 5)
  /-- TIME_SYNC (R252): A received SYNC gives one update of the Itmos time source. -/
  | timeSync (n : Fin 5) (seqid tx : Nat) (rate : Int) (source steps gm : Nat)
  /-- DELAY_REQ_SEND (R182): A child sends DELAY_REQ on its UP and UP_ALT links every 2^DELAY_LOG × 125 µs. -/
  | delayReqSend (n : Fin 5)
  /-- DELAY_REQ (R182): A received DELAY_REQ is answered with DELAY_RESP. -/
  | delayReq (n : Fin 5) (seqid : Nat)
  /-- DELAY_RESP (R182): A received DELAY_RESP yields a link delay that is averaged or discarded. -/
  | delayResp (n : Fin 5) (seqid t2 t3 : Nat)
  /-- STATE_REG (R440): A received REG state record applies a register write in the standby twin. -/
  | stateReg (seq off : Nat) (v : Word) (form : Fin 6)
  /-- STATE_MEM (R440): A received MEM state record applies a memory write in the standby twin. -/
  | stateMem (seq a : Nat) (data : List Byte)
  /-- STATE_MIRROR (R440): A received MIRROR record stores a posted write entry in the standby's mirror. -/
  | stateMirror (seq path idx agent orig win ga : Nat) (data : WData)
  /-- STATE_STARTED (R440): A received STARTED record marks a mirrored entry as possibly performed. -/
  | stateStarted (seq path idx : Nat)
  /-- STATE_RETIRED (R440): A received RETIRED record marks a mirrored entry as performed or failed. -/
  | stateRetired (seq path idx failure : Nat)
  /-- STATE_EXECUTED (R440): A received EXECUTED record marks a timed bus or CAN event as done. -/
  | stateExecuted (seq : Nat) (slot : Fin 4096) (n type : Nat)
  /-- STATE_HEARTBEAT (R440): A received HEARTBEAT record keeps the standby in sync. -/
  | stateHeartbeat (seq : Nat)
  /-- STATE_BULK (R441): A received BULK record applies a resynchronisation copy. -/
  | stateBulk (seq a : Nat) (data : List Byte)
  /-- STATE_SYNC_DONE (R437): The SYNC_DONE record ends resynchronisation and the device enters STANDBY. -/
  | stateSyncDone (seq : Nat)
  /-- COUNTER_MISMATCH (R241): The VT counter pair disagrees; a failed counter is reloaded or VT_VALID drops. -/
  | counterMismatch (second check : Nat)
  /-- SOURCE_VALID (R243): A time source becomes valid and the servo leaves FREE or HOLDOVER for ACQUIRE. -/
  | sourceValid (src : BlvSource)
  /-- SOURCE_INVALID (R244): The source in use becomes invalid, and the Belvedere switches source or enters HOLDOVER. -/
  | sourceInvalid (src : BlvSource)
  /-- REVERT_HOLD_EXPIRY (R243): The primary has been valid for REVERT_HOLD seconds and becomes the source again. -/
  | revertHoldExpiry
  /-- HOLDOVER_LIMIT (R244): After 10 s in HOLDOVER VT_VALID drops and HOLD_EXCEEDED is set. -/
  | holdoverLimit
  /-- PPS_EDGE (R253): A rising edge on a PPS_IN pin gives one servo update and a capture. -/
  | ppsEdge (pin : Fin 48)
  /-- RATE_WRITE (R246): A write to BLV_RATE sets the servo rate, or is refused outside FREE and type-1 use. -/
  | rateWrite (v : Word)
  /-- SLEW_WRITE (R246): A write to BLV_SLEW adds to the pending slew, or is refused. -/
  | slewWrite (v : Word)
  /-- VT_STEP (R247): Writing BLV_STEP_CTL.GO steps VT by a delta or to an absolute value. -/
  | vtStep (abs force : Bool)
  /-- SLOT_WRITE (R254): A write to a scheduler slot is accepted, or refused while the slot is armed. -/
  | slotWrite (slot : Fin 4096) (w : Fin 8) (v : Word) (be : BitVec 4)
  /-- SLOT_ARM (R254): BLV_ARM with OP arm checks the slot and arms it, skipping events already past. -/
  | slotArm (slot : Fin 4096)
  /-- SLOT_DISARM (R254): BLV_ARM with OP disarm stops every undispatched event of the slot. -/
  | slotDisarm (slot : Fin 4096)
  /-- SCHEDULER_ENABLE (R259): Setting BLV_SCHED_CFG.EN skips past events and starts dispatching. -/
  | schedulerEnable
  /-- EVENT_DISPATCH (R258): The dispatcher hands an event to its executing unit LEAD before it is due. -/
  | eventDispatch
  /-- TRIGGER_EXECUTE (R263): A TRIGGER event drives its pin edge at the due time, or records NOT_READY. -/
  | triggerExecute
  /-- PULSE_RETURN (R263): WIDTH ns after a pulse edge the pin returns to its opposite level. -/
  | pulseReturn (pin : Fin 48)
  /-- TIMED_WRITE_EXECUTE (R264): A TIMED_WRITE starts its access at the due time as requester BLVT. -/
  | timedWriteExecute
  /-- TIMED_READ_EXECUTE (R264): A TIMED_READ starts its access at the due time as requester BLVT. -/
  | timedReadExecute
  /-- CAN_RELEASE_EXECUTE (R266): A CAN_RELEASE makes its timed transmit buffer pending, or records NOT_READY. -/
  | canReleaseExecute
  /-- TIMED_ACCESS_COMPLETE (R264): A timed access finishes and its result record is written. -/
  | timedAccessComplete
  /-- TIO_CAPTURE (R268): A selected edge on an input pin is stamped and added to the capture FIFO. -/
  | tioCapture (pin : Fin 48) (falling : Bool)
  /-- RESULT_POP (R276): A POP write removes the head of the result FIFO. -/
  | resultPop
  /-- CAPTURE_POP (R276): A POP write removes the head of the capture FIFO. -/
  | capturePop
  /-- TXTS_POP (R276): A POP write removes the head of the transmit-timestamp FIFO. -/
  | txtsPop
  /-- EL_POP (R285): A write of the head's SEQ to INT_EL_POP removes the head entry, otherwise counts a miss. -/
  | elPop (seq : BitVec 16)
  /-- INT_EOI (R294): A write of a vector to INT_EOI sends another message if its level is still 1. -/
  | intEoi (v : Fin 64)
  /-- INT_VECTOR_WRITE (R293): A write to INT_VECTORs reroutes a source, refused as PERM for non-Lodge Lodge destinations. -/
  | intVectorWrite (who : Requester) (node : Bool) (n : Fin 256) (v : Word)
  /-- RESET_DRAIN_END (R290): The reset drain ends when the PWBs are empty or at 20 µs, discarding what remains. -/
  | resetDrainEnd (peer : Bool)
  /-- SUPPLY_COLLAPSE (R291): A supply collapse forces power-on reset without draining. -/
  | supplyCollapse
  /-- GZB_PI_WRITE (R305): A write advancing GZBn_PI hands descriptors to the engine and releases stops. -/
  | gzbPiWrite (c : Fin 16) (v : Word)
  /-- GZB_CHANNEL_CTL (R320): A write of GZBn_CTL enables, holds or disables a channel. -/
  | gzbChannelCtl (c : Fin 16) (v : Word)
  /-- GZB_RUN_START (R319): The engine starts the next run with the highest-priority waiting channel. -/
  | gzbRunStart
  /-- GZB_DESC_FETCH_DONE (R307): A descriptor fetch completes and the descriptor is used or found not owned. -/
  | gzbDescFetchDone (tag : Nat)
  /-- GZB_READ_COMPLETION (R313): A completion of a Gazebo data or index read returns into the queue. -/
  | gzbReadCompletion (tag : Nat)
  /-- GZB_HANDBACK (R316): A descriptor's write-back is issued once its conditions hold, and CI advances when performed. -/
  | gzbHandback (c : Fin 16)
  /-- GZB_HALT (R321): A failed completion of a Gazebo request halts every enabled channel. -/
  | gzbHalt (tag : Nat)
  /-- GZB_DRAIN_DONE (R321): The Gazebo holds no TT entry and DRAINING returns to 0. -/
  | gzbDrainDone
  /-- RESTART_RESUME (R322): A GZB_RESTART commit with SKIP = 0 resumes halted channels at the descriptor at CI. -/
  | restartResume (chans : BitVec 16)
  /-- RESTART_SKIP (R322): A GZB_RESTART commit with SKIP = 1 hands back the descriptor at CI with ERR and resumes. -/
  | restartSkip (chans : BitVec 16)
  /-- CAN_FRAME_RX (R333): A CAN frame received without error is guarded, stamped, buffered and looked up. -/
  | canFrameRx (ch : Fin 64) (r : CanRecord) (x : Received)
  /-- LIN_FRAME_RX (R340): A complete LIN frame observed on the bus is looked up by channel and frame ID. -/
  | linFrameRx (l : Fin 32) (id : Fin 64) (enhanced ok : Bool) (x : Received)
  /-- LIN_HEADER_RX (R340): A slave channel answers a received header from its response table or stays silent. -/
  | linHeaderRx (l : Fin 32) (id : Fin 64)
  /-- ETH_FRAME_RX (R342): A received Ethernet frame is checked, stamped and parsed for lookup. -/
  | ethFrameRx (mac : Fin 14) (fcsOk : Bool) (x : Received)
  /-- TRL_LOOKUP (R373): A key on the lookup bus is looked up in the active area's two candidate buckets. -/
  | trlLookup
  /-- LOOKUP_RESULT (R346): A returned action is applied to the frame stage by stage and the frame is forwarded. -/
  | lookupResult (id : Nat)
  /-- AUTH_VERIFY (R402): The Gatehouse verifies a frame's freshness value and MAC under its profile. -/
  | authVerify (id : Nat)
  /-- AUTH_GENERATE (R401): The Gatehouse appends a freshness value and MAC to a frame or PDU. -/
  | authGenerate (id : Nat)
  /-- MACSEC_RX (R411): A received MACsec frame is validated and decrypted at P12 and returned for lookup. -/
  | macsecRx (mac : Fin 14)
  /-- MACSEC_TX (R411): A frame for a MACsec port is protected at P12 and sent on to P7. -/
  | macsecTx (x : Nat)
  /-- CAN_EGRESS (R336): A frame arriving from P8 for a CAN channel is taken into a buffer or dropped. -/
  | canEgress (x : Nat) (ch : Fin 64)
  /-- CAN_TRANSMIT (R336): At a SOF opportunity the channel offers its winning pending frame after the age check. -/
  | canTransmit (ch : Fin 64)
  /-- CAN_TX_DONE (R337): A frame is sent and its buffer is emptied or kept. -/
  | canTxDone (ch : Fin 64)
  /-- CAN_BUS_OFF (R338): A CAN channel enters bus-off and empties its non-timed buffers. -/
  | canBusOff (ch : Fin 64)
  /-- CAN_BUS_RECOVERY (R338): A bus-off channel returns after 128 × 11 recessive bits or an EN write. -/
  | canBusRecovery (ch : Fin 64)
  /-- TXLOAD (R337): A write of PAVi_CANc_TXLOAD copies the staging area into a timed buffer. -/
  | txload (ch : Fin 64) (b : Fin 32)
  /-- LIN_EGRESS (R340): A frame reaching a LIN egress writes its response-table entry. -/
  | linEgress (x : Nat) (l : Fin 32)
  /-- LIN_SCHEDULE_ENTRY (R340): A master's schedule entry delay expires and the next header is sent. -/
  | linScheduleEntry (l : Fin 32)
  /-- ETH_EGRESS (R343): A frame reaching a MAC is placed in one of eight queues. -/
  | ethEgress (x : EthIn) (mac : Fin 14)
  /-- ETH_TRANSMIT (R343): The MAC starts a frame from the highest allowed queue after the age check. -/
  | ethTransmit (mac : Fin 14)
  /-- TAS_GATE_CHANGE (R344): A gate control list interval ends and the next gate mask applies. -/
  | tasGateChange (mac : Fin 14)
  /-- TUNNEL_EGRESS (R349): A frame for a tunnel is packed as an ACF message or dropped. -/
  | tunnelEgress (x : Nat) (t : Fin 4)
  /-- TUNNEL_FLUSH (R349): MAX_WAIT after the first queued message the AVTP frame leaves. -/
  | tunnelFlush (t : Fin 4)
  /-- CAPTURE_RECORD_COMMIT (R348): A capture ring's WI advances once every write of a record is performed. -/
  | captureRecordCommit (r : Fin 8)
  /-- PDU_TRIGGERED_SEND (R353): A triggered PDU send copies the image and emits a frame or loads a timed buffer. -/
  | pduTriggeredSend (n : Fin 2048)
  /-- PDU_CYCLIC_SEND (R353): A cyclic PDU send falls due at its period and phase. -/
  | pduCyclicSend (n : Fin 2048)
  /-- PDU_GAP_END (R353): MIN_GAP ends and a waiting PDU send is performed. -/
  | pduGapEnd (n : Fin 2048)
  /-- AGE_PROMOTE_EXPIRY (R19): A request that has waited longer than AGE_PROMOTE is promoted at the next arbitration. -/
  | agePromoteExpiry (x : Promoted)
  /-- SEQ_LOSS_TIMEOUT (R357): A SEQ still missing 2 µs after a later one is declared lost and skipped. -/
  | seqLossTimeout (x : Nat) (forced : Bool)
  /-- PLANE_DISABLE (R360): A plane disabled by PLANE_EN or the fault manager stops receiving cells. -/
  | planeDisable (k : Fin 2) (frames reqs : List Nat)
  /-- TRL_INSERT (R378): Command INSERT places an entry, relocating by a cuckoo path or ending FULL. -/
  | trlInsert
  /-- TRL_DELETE (R381): Command DELETE clears VALID on the matching unlocked entry. -/
  | trlDelete
  /-- TRL_FIND (R381): Command FIND copies the matching entry into TRL_CMD_ENTRY. -/
  | trlFind
  /-- SWEEPER_VISIT (R382): The sweeper visits a bucket, clearing HIT, setting AGE_FLAG or removing stale entries. -/
  | sweeperVisit
  /-- PARK_RETRY (R384): A parked lookup is retried on invalidation of its buckets or every 1 µs. -/
  | parkRetry (k : Nat)
  /-- PARK_LOCK_LIMIT (R384): A lookup parked past TRL_LOCK_LIMIT takes its channel's miss handling. -/
  | parkLockLimit (k : Nat)
  /-- TABLE_SWITCH (R386): A TRL_TABLE_SELECT commit makes the shadow area active and advances the generation. -/
  | tableSwitch (who : Requester) (area : Fin 2)
  /-- GEN_ADVANCE (R387): A write of 1 to TRL_GEN_ADV advances the table generation, or is refused. -/
  | genAdvance
  /-- REHASH_POP (R380): A write of 1 to TRL_RQ_POP removes the rehash FIFO head. -/
  | rehashPop
  /-- KEY_SLOT_LOAD (R409): GTH_KEY_CTL LOAD unwraps the blob window into a key slot after its checks. -/
  | keySlotLoad (who : Requester) (slot : Fin 1024)
  /-- KEY_SLOT_ERASE (R409): GTH_KEY_CTL ERASE, by the Lodge only, empties a key slot. -/
  | keySlotErase (who : Requester) (slot : Fin 1024)
  /-- KEY_SLOT_EXPORT (R409): GTH_KEY_CTL EXPORT wraps a slot's key into the blob window. -/
  | keySlotExport (who : Requester) (slot : Fin 1024)
  /-- KEY_OP_DONE (R409): A key-store operation ends and GTH_KEY_STATUS reports its result. -/
  | keyOpDone
  /-- FAIL_POP (R404): A write of 1 to GTH_FAIL_POP removes the failure FIFO head. -/
  | failPop
  /-- CAN_WUP (R414): A dominant phase of at least WUP_MIN on a CAN input gives a wake event. -/
  | canWup (ch : Fin 64) (us : Nat) (stale : Bool)
  /-- CAN_WAKE_FRAME (R414): A decoded classical frame matching a wake pattern gives a wake event. -/
  | canWakeFrame (ch : Fin 64) (rate : Fin 4) (id : BitVec 29) (ide rtr : Bool) (dlc : Fin 16) (data : List Byte)
  /-- LIN_WAKE (R415): A dominant LIN pulse of at least MIN_PULSE gives a wake event. -/
  | linWake (l : Fin 32) (us : Nat) (stale : Bool)
  /-- PHY_WAKE (R415): A PHY_WAKE input held active for its debounce gives a wake event. -/
  | phyWake (mac : Fin 14) (high : Bool) (us : Nat) (stale : Bool)
  /-- WAKE_PIN (R415): A WAKE pin held active for its debounce gives a wake event. -/
  | wakePin (k : Fin 8) (high : Bool) (us : Nat) (stale : Bool)
  /-- WAKE_TIMER (R415): The wake timer expires WKT_TIMER ticks after STANDBY or SLEEP entry. -/
  | wakeTimer
  /-- ITEM_START (R418): At a tick the Wicket starts one wanted item within the wake-current budget. -/
  | itemStart
  /-- ITEM_READY (R417): An item's SETTLE elapses with power-good and it becomes ready. -/
  | itemReady (j : Fin 16) (peer : Bool)
  /-- STANDBY_ENTRY (R419): A WKT_SLEEP_CTL commit with MODE STANDBY starts switching items off. -/
  | standbyEntry (who : Requester)
  /-- SLEEP_ENTRY (R419): A WKT_SLEEP_CTL commit with MODE SLEEP starts switching items off. -/
  | sleepEntry (who : Requester)
  /-- ITEM_SWITCH_OFF (R419): At a tick the Wicket switches one item off, highest number first. -/
  | itemSwitchOff
  /-- EVT_POP (R416): A write to WKT_EVT_POP removes the event FIFO head. -/
  | evtPop
  /-- XTAL_FAIL (R413): The 32.768 kHz crystal fails and the Wicket keeps time from the RC oscillator. -/
  | xtalFail
  /-- LOCKSTEP_MISMATCH (R426): The Lodge lockstep or fault-manager duplicate disagrees and LOCKSTEP rises. -/
  | lockstepMismatch
  /-- CLOCK_OUT_OF_RANGE (R426): A monitored clock stops or leaves 1 % and CLOCK rises. -/
  | clockOutOfRange (out : Bool)
  /-- SUPPLY_OUT_OF_RANGE (R511): A rail leaves its range by more than 3 % for 0.5 µs and SUPPLY rises. -/
  | supplyOutOfRange (out : Bool)
  /-- PLANE_FAULT (R426): A Pergola plane is found faulted and PLANE rises. -/
  | planeFault (k : Fin 2)
  /-- ARCADE_HEARTBEAT_MISSING (R494): The Arcade heartbeat is missing for 5 µs and the Lodge restarts the Arcade. -/
  | arcadeHeartbeatMissing
  /-- UNIT_FAULT (R431): A unit checker mismatch sets the unit's FAULT bit and UNIT. -/
  | unitFault (kind : Fin 16) (unit : Nat)
  /-- SAFE_RESTART (R434): RESTART_MS after entering the safe state the device restarts. -/
  | safeRestart (peer : Bool)
  /-- SCRUB_VISIT (R429): The scrubber reads a word and writes back any correction. -/
  | scrubVisit (m : Fin 15) (w : Nat) (f : ScrubFind)
  /-- SWAP_IN (R450): A DEP_SPARE_CMD SWAP_IN moves a unit onto its spare. -/
  | swapIn (kind : Fin 16) (unit : BitVec 24)
  /-- NOTE_POP (R463): A write of 1 to DEP_NOTE_POP removes the head note. -/
  | notePop
  /-- TWIN_PREFER_WAIT (R438): A PREFER = 0 member's 100 µs wait ends and it enters ACTIVE or SYNCING. -/
  | twinPreferWait (rose : Bool)
  /-- TWIN_DUAL_ACTIVE (R438): Both TWIN_ACT lines high for over 1 µs make a member yield. -/
  | twinDualActive (same : Bool)
  /-- TWIN_TIE_ROUND (R438): A tie-break round's wait ends and the member enters ACTIVE or SYNCING. -/
  | twinTieRound (rose : Bool)
  /-- TAKEOVER (R444): TWIN_PEER_ACT stays low for PEER_FILTER and a STANDBY twin becomes ACTIVE. -/
  | takeover
  /-- STATE_STREAM_TIMEOUT (R437): No HEARTBEAT for 5 µs puts the standby into UNSYNC. -/
  | stateStreamTimeout
  /-- HEARTBEAT_SEND (R440): Every 1 µs the ACTIVE twin sends a HEARTBEAT record. -/
  | heartbeatSend
  /-- RESYNC_START (R441): The peer enters SYNCING and the ACTIVE twin starts the state stream and BULK copy. -/
  | resyncStart
  /-- MIRROR_ACK (R443): The TWIN link acknowledges an entry's MIRROR and STARTED records and the entry is performed. -/
  | mirrorAck (seq : Nat)
  /-- MIRROR_ACK_TIMEOUT (R443): An entry waits over 10 µs for acknowledgement and PROTECTED drops. -/
  | mirrorAckTimeout (seq : Nat)
  /-- PLANNED_HANDOVER (R447): A committed DEP_TWIN_ROLE.SWITCH drains and hands the ACTIVE role to the peer. -/
  | plannedHandover
  /-- ALWAYS_ON_POWER_UP (R464): VDD_AON is applied and nothing is kept. -/
  | alwaysOnPowerUp (straps : Fin 4) (image : List (Nat × List Byte))
  /-- POWER_ON_RESET (R467): The device starts from power-on reset through the Lodge start-up steps. -/
  | powerOnReset (peer : Bool)
  /-- DRAM_TRAINING_DONE (R472): DRAM training completes or fails at a step. -/
  | dramTrainingDone (fail : Fin 6) (peer : Bool)
  /-- DRAM_INIT_DONE (R469): Background DRAM initialisation ends and the first scrub pass begins. -/
  | dramInitDone
  /-- DRAM_DRIFT_CHECK (R472): A periodic or requested drift check corrects drift or raises PHY_ERR. -/
  | dramDriftCheck (beyond : Bool) (rate : Byte) (hot : Nat)
  /-- CFG_REAPPLY (R499): The mailbox command re-applies the image's records for the named blocks. -/
  | cfgReapply
  /-- FLASH_READ (R499): The mailbox command copies flash bytes to a GA. -/
  | flashRead (fails : Bool)
  /-- FLASH_WRITE (R499): The mailbox command erases and programs a flash range from a GA. -/
  | flashWrite (ext : Option (List Byte)) (fails : Bool)
  /-- SLOT_STATE (R499): The mailbox command rewrites a header copy with a slot's STATE, PRIO and CFG_CRC. -/
  | slotState (fails : Bool)
  /-- KEY_LOAD (R499): The mailbox command loads a key blob from a GA. -/
  | keyLoad (ext : Option (List Byte))
  /-- KEY_PROVISION (R495): The mailbox command unwraps a provisioning envelope and installs a plaintext key. -/
  | keyProvision (ext : Option (List Byte))
  /-- DEVKEY_PUB (R499): The mailbox command returns the provisioning public key. -/
  | devkeyPub
  /-- CAL_WRITE (R499): The mailbox command merges calibration items into a new user copy. -/
  | calWrite (ext : Option (List Byte)) (fails : Bool)
  /-- SLEEP (R496): The mailbox command prepares the device and commits STANDBY or SLEEP. -/
  | sleep (expired : Bool)
  /-- ARC_RESTART (R499): The mailbox command restarts a failed Arcade. -/
  | arcRestart
  /-- KIOSK_RD (R503): The Kiosk reads up to 256 words. -/
  | kioskRd (dev : Option (Fin 1024)) (a n : Nat)
  /-- KIOSK_DUMP (R503): The Kiosk prints a hex dump of up to 4 KiB. -/
  | kioskDump (dev : Option (Fin 1024)) (a len : Nat)
  /-- KIOSK_WR (R503): The Kiosk performs a 32-bit or keyed write at SERVICE level. -/
  | kioskWr (dev : Option (Fin 1024)) (a : Nat) (v : Word) (keyed : Bool)
  /-- KIOSK_WIN (R503): The Kiosk prints window settings and HITS. -/
  | kioskWin (w : Option (WinFam × Fin 32))
  /-- KIOSK_TAB (R503): The Kiosk runs a Trellis FIND and prints the entry. -/
  | kioskTab (key : List Byte)
  /-- KIOSK_TIME (R503): The Kiosk prints time status, VT, offset and source. -/
  | kioskTime
  /-- KIOSK_TWIN (R503): The Kiosk prints DEP_TWIN_STATUS. -/
  | kioskTwin
  /-- KIOSK_TWIN_SWITCH (R503): The Kiosk commits a planned handover. -/
  | kioskTwinSwitch
  /-- KIOSK_SPARE (R503): The Kiosk lists DEP_SPARE_MAP. -/
  | kioskSpare
  /-- KIOSK_SPARE_SWAP (R503): The Kiosk commits a DEP_SPARE_CMD swap-in. -/
  | kioskSpareSwap (kind : Fin 16) (unit : BitVec 24)
  /-- KIOSK_LOG (R503): The Kiosk prints the error-log head. -/
  | kioskLog
  /-- KIOSK_LOG_POP (R503): The Kiosk removes the error-log head. -/
  | kioskLogPop
  /-- KIOSK_RESTORE_FACTORY (R491): The Kiosk starts erasure of the user calibration area. -/
  | kioskRestoreFactory
  /-- KIOSK_UNLOCK (R502): The Kiosk prints a fresh SERVICE challenge. -/
  | kioskUnlock
  /-- KIOSK_UNLOCK_RESPONSE (R502): The Kiosk checks a challenge response and grants SERVICE or counts a failure. -/
  | kioskUnlockResponse (r : BitVec 64)
  /-- KIOSK_LOCK (R502): The Kiosk ends SERVICE level. -/
  | kioskLock
  /-- KIOSK_REBOOT (R503): The Kiosk starts a warm reset. -/
  | kioskReboot
  /-- KIOSK_REBOOT_COLD (R503): The Kiosk starts a power-on reset. -/
  | kioskRebootCold (peer : Bool)
  /-- KIOSK_LOCKOUT_EXPIRY (R502): The 60 s unlock lockout ends. -/
  | kioskLockoutExpiry
  /-- KIOSK_IDLE_TIMEOUT (R502): 15 minutes without input end SERVICE level. -/
  | kioskIdleTimeout
  /-- ETH_LINK_CHANGE (R341): A MAC's PHY link comes up or goes down, or an in-band control word reports another speed, changing ETHi_STATUS.LINK, LINK_DOWN and SPEED_ERR. -/
  | ethLinkChange (mac : Fin 14) (up otherSpeed : Bool)
  /-- TWIN_FAIL_N_CHANGE (R436): The peer pulls the shared TWIN_FAIL_N line low or releases it, setting or clearing PEER_UNFIT and dropping PROTECTED. -/
  | twinFailNChange (low : Bool)
  /-- CAN_BUS_ERROR (R363): A CAN controller detects or signals a bus error, changing TEC and REC, counting BUS_ERR and moving ERR_WARN and ERR_PASSIVE. -/
  | canBusError (ch : Fin 64) (transmitting eight : Bool)
  /-- CAN_BUS_INTEGRATION (R450): An enabled or swapped-in CAN controller integrates on the bus and its STATUS.SYNC becomes 1, after which it may send and acknowledge. -/
  | canBusIntegration (ch : Fin 64)
  /-- LIN_DOM_STUCK (R363): A LIN bus held dominant for over 100 bit times sets PAVi_LINl_STATUS.DOM_STUCK. -/
  | linDomStuck (l : Fin 32) (stuck : Bool)
  /-- LIN_NO_RESPONSE (R340): A LIN header observed on the bus receives no response in time and is counted in NO_RESP. -/
  | linNoResponse (l : Fin 32)
  deriving DecidableEq, Repr

end Sys2Proof
end

