-- ==== Sys2Proof/WellFormed.lean ====
section
/-!
DEFINITION. What a command's operands must satisfy for the outside world to be able to send it: register words lie on word addresses (R31), a
TLP's length stays within PCI Express's limits (R95, R97), a slave cycle without a burst has one beat (R115, R121), an Itmos transfer's data fills its LENGTH
(R160), and a frame's data fits its format (R329, R334).
-/
namespace Sys2Proof

/-- A register-space offset of a word (R31). -/
def wordOffset (off : Nat) : Bool := off % 4 == 0 && decide (off < 0x1100000)

/-- A memory TLP of `len` bytes at an offset: 1 to 4,096 bytes that do not cross a 4 KiB boundary (R95). -/
def tlpLength (off len : Nat) : Bool := decide (1 ≤ len) && decide (off % 4096 + len ≤ 4096)

/-- The operands of an AtomicOp of `len` bytes: 4 or 8, aligned, as many bytes as it names; a CAS may have 16 (R97). -/
def atomicOperands (off len : Nat) (operands : List (List Byte)) (cas : Bool) : Bool :=
  (len == 4 || len == 8 || (cas && len == 16)) && off % len == 0 && operands.all fun x => x.length == len

/-- A slave cycle: the beat it stands at is one of its beats, and without a burst it has one (R115, R121). -/
def SlaveCycle.wf (c : SlaveCycle) : Bool := decide (c.beat < c.beats) && (c.burst || c.beats == 1)

/-- An Itmos transfer: ADDR of a word, data of LENGTH words where it carries any, and fields within their widths (R160). -/
def Transfer.wf (t : Transfer) : Bool :=
  decide (t.op < 64) && decide (t.tag < 512) && decide (t.addr < 2 ^ 48) && decide (t.ts < 2 ^ 40) && decide (t.orig < 1024) &&
    decide (t.dst < 1024) && decide (t.length ≤ 1024) && decide (t.fbe < 16) && decide (t.lbe < 16) && decide (t.tc < 8) &&
    (t.data.isEmpty || t.data.length == 4 * t.length)

/-- A frame's data fits its CAN format (R334). -/
def canLength (r : CanRecord) (n : Nat) : Bool :=
  match r.fmt with
  | 0 => decide (n ≤ 8)
  | 1 => decide (n ≤ 8) || [12, 16, 20, 24, 32, 48, 64].contains n
  | 2 => decide (1 ≤ n) && decide (n ≤ 2048)
  | _ => false

/-- An Ethernet frame as it stands at a receive pin, without its FCS: its addresses and type at least, 9,216 bytes with the FCS at most (R341). -/
def ethLength (n : Nat) : Bool := decide (14 ≤ n) && decide (n ≤ 9212)

/-- A command whose operands the outside world can form. -/
def Instr.wf : Instr → Bool
  | .registerWrite _ off _ _ => wordOffset off
  | .setAliasWrite _ off _ => wordOffset off
  | .clearAliasWrite _ off _ => wordOffset off
  | .toggleAliasWrite _ off _ => wordOffset off
  | .maskedWrite _ off _ => wordOffset off
  | .keyedArm _ off _ => wordOffset off
  | .keyedCommit _ off _ => wordOffset off
  | .keyedExpiry off => wordOffset off
  | .rw64LowWrite _ off _ => wordOffset off
  | .rw64HighWrite _ off _ => wordOffset off
  | .rw64FullWrite _ off _ _ => wordOffset off && off % 8 == 0
  | .cfgParityMismatch off _ _ => wordOffset off
  | .hostMwr r data => tlpLength r.off data.length
  | .hostMrd r len => len == 0 || tlpLength r.off len
  | .hostFetchadd r len add => atomicOperands r.off len [add] false
  | .hostSwap r len new => atomicOperands r.off len [new] false
  | .hostCas r len compare new => atomicOperands r.off len [compare, new] true
  | .slavePostedWrite c _ => c.wf
  | .slaveRead c => c.wf
  | .slaveDelayedWrite c _ => c.wf
  | .slaveCondStore c _ => c.wf
  | .slaveLockedCycle c _ => c.wf
  | .slaveFlushCycle c => c.wf
  | .lwBarrierWrite c _ => c.wf
  | .lwBarrierRead c => c.wf
  | .slaveSlotCollect c _ => c.wf
  | .itmMwrNp _ t => t.wf
  | .itmMrd _ t => t.wf
  | .itmRsvLd _ t => t.wf
  | .itmCondSt _ t => t.wf
  | .itmFetchadd _ t => t.wf
  | .itmSwap _ t => t.wf
  | .itmCas _ t => t.wf
  | .itmWbar _ t => t.wf
  | .itmCompletion _ t => t.wf
  | .intAssert _ t => t.wf
  | .intDeassert _ t => t.wf
  | .faultNote _ t => t.wf
  | .itmFrame _ t => t.wf
  | .canFrameRx _ r x => canLength r x.data.length
  | .canWakeFrame _ _ _ _ _ _ data => decide (data.length ≤ 8)
  | .linFrameRx _ _ _ _ x => decide (x.data.length ≤ 8)
  | .ethFrameRx _ _ x => ethLength x.data.length
  | .kioskTab key => key.length == 16
  | .kioskRd _ _ n => decide (1 ≤ n) && decide (n ≤ 256)
  | .kioskDump _ _ len => decide (len ≤ 4096)
  | _ => true

end Sys2Proof
end

