-- ==== Sys2Proof/Config.lean ====
section
/-!
DEFINITION. What an implementation fixes and the spec leaves open: the free values, opaque so that no proof can see them, and the
cryptographic functions of external standards.
-/
namespace Sys2Proof.Config

/-- A 32-bit value the spec does not state; the argument is the device's count of free values taken. -/
opaque freeWord : Nat → BitVec 32

/-- A byte the spec does not state. -/
opaque freeByte : Nat → BitVec 8

/-- A number the spec does not state, by its count and the bound it stays below where the spec gives one. -/
opaque freeNat : Nat → Nat

/-- The identity a device gives itself as a time source (GM_ID of SYNC), by its device ID and source type. -/
opaque gmIdentity : Nat → Nat → Nat

/-- The row of its 64 KiB bank, 12 bits, that holds a word of an on-chip memory: the spec gives no bank geometry (R449, R462). -/
opaque bankRow : Nat → Nat → BitVec 12

/-- The column of its bank, 12 bits, that holds a bit of a word of an on-chip memory. -/
opaque bankCol : Nat → Nat → Nat → BitVec 12

/-- The device-unique key set at test (R408), 32 bytes as one number. -/
opaque deviceKey : Nat → BitVec 256

/-- Whether a firmware section's bytes carry a signature that verifies under one of the two keys in the Lodge ROM (R478): the spec gives
neither key. -/
opaque signatureOk : List (BitVec 8) → Bool

/-- The public half of the provisioning key pair set at Drelum test (R495), 64 bytes as one number. -/
opaque provisioningKey : Nat → BitVec 512

/-- The 32-byte wrapping key that HKDF-SHA-256 yields from the ECDH secret of an envelope's ephemeral key and the provisioning key pair, the
device ID as its salt (R495); the spec gives no private half. -/
opaque wrapKey : List (BitVec 8) → Nat → BitVec 256

end Sys2Proof.Config
end

