-- ==== Sys2Proof/Machine/RegNames.lean ====
section
/-!
DEFINITION. The register offsets of the spec's register tables, by name (R48, R83, R110, R143, R186, R271, R299, R324, R362, R363,
R390, R421, R422, R459, R471, R504): each name is the register-space offset of the register, or of instance 0 of a replicated one.
-/
namespace Sys2Proof.Reg

/-- SYS_ID (R49). -/
abbrev sysId : Nat := 0x0
/-- SYS_DEVID (R50). -/
abbrev sysDevid : Nat := 0x4
/-- SYS_BOOT_STATUS (R51). -/
abbrev sysBootStatus : Nat := 0x10
/-- SYS_RESET_CTL (R52). -/
abbrev sysResetCtl : Nat := 0x20
/-- SYS_KEY_REJECT (R54). -/
abbrev sysKeyReject : Nat := 0x30
/-- SYS_ACCESS_REJECT (R54). -/
abbrev sysAccessReject : Nat := 0x34
/-- SYS_CAL_CTL (R53). -/
abbrev sysCalCtl : Nat := 0x40
/-- HP_STATUS (R110). -/
abbrev hpStatus : Nat := 0x100000
/-- HP_LINK_CTL (R110). -/
abbrev hpLinkCtl : Nat := 0x100004
/-- HP_INB_TIMEOUT (R110). -/
abbrev hpInbTimeout : Nat := 0x100008
/-- HP_OUT_CTL (R110). -/
abbrev hpOutCtl : Nat := 0x10000C
/-- HP_SUBSYS (R110). -/
abbrev hpSubsys : Nat := 0x100010
/-- HP_TT_INUSE (R110). -/
abbrev hpTtInuse : Nat := 0x100018
/-- HP_TAGS_INUSE (R110). -/
abbrev hpTagsInuse : Nat := 0x10001C
/-- HP_INB_TIMEOUT_COUNT (R110). -/
abbrev hpInbTimeoutCount : Nat := 0x100020
/-- HP_LATE_CPL (R110). -/
abbrev hpLateCpl : Nat := 0x100024
/-- HP_OUT_TIMEOUT_COUNT (R110). -/
abbrev hpOutTimeoutCount : Nat := 0x100028
/-- HP_LINK_DOWN_COUNT (R110). -/
abbrev hpLinkDownCount : Nat := 0x10002C
/-- HP_LINK_DROP (R110). -/
abbrev hpLinkDrop : Nat := 0x100030
/-- HP_MSIX_DROP (R110). -/
abbrev hpMsixDrop : Nat := 0x100034
/-- HP_UR_COUNT (R110). -/
abbrev hpUrCount : Nat := 0x100038
/-- HP_CA_COUNT (R110). -/
abbrev hpCaCount : Nat := 0x10003C
/-- WIN_BARRIER (R84). -/
abbrev winBarrier : Nat := 0x300000
/-- WIN_BARRIER_STATUS (R85). -/
abbrev winBarrierStatus : Nat := 0x300004
/-- WIN_BAR_CFG (R88). -/
abbrev winBarCfg : Nat := 0x300010
/-- WIN_BAR0_REQ (R88). -/
abbrev winBar0Req : Nat := 0x300014
/-- WIN_DRAM_SIZE (R88). -/
abbrev winDramSize : Nat := 0x300018
/-- WIN_SYNCERR_USE (R88). -/
abbrev winSyncerrUse : Nat := 0x30001C
/-- WIN_DECODE_MISS (R88). -/
abbrev winDecodeMiss : Nat := 0x300020
/-- WIN_RSV_STATUS (R86, one of 64, stride 0x4). -/
abbrev winRsvStatus : Nat := 0x300100
/-- WIN_HOST_SEM (R87). -/
abbrev winHostSem : Nat := 0x300200
/-- WIN_HOST_SEM_CLAIM (R87). -/
abbrev winHostSemClaim : Nat := 0x300204
/-- WIN_SEM_ADDR (R87, one of 16, stride 0x8). -/
abbrev winSemAddr : Nat := 0x300280
/-- WIN_SEM_ADDR_HI (R87, one of 16, stride 0x8). -/
abbrev winSemAddrHi : Nat := 0x300284
/-- WIN_IW_CTL (R89, one of 32, stride 0x20). -/
abbrev winIwCtl : Nat := 0x301000
/-- WIN_IW_AGE (R89, one of 32, stride 0x20). -/
abbrev winIwAge : Nat := 0x301004
/-- WIN_IW_FMT (R89, one of 32, stride 0x20). -/
abbrev winIwFmt : Nat := 0x301008
/-- WIN_IW_BASE (R90, one of 32, stride 0x20). -/
abbrev winIwBase : Nat := 0x30100C
/-- WIN_IW_TGT (R90, one of 32, stride 0x20). -/
abbrev winIwTgt : Nat := 0x301010
/-- WIN_IW_TGT_HI (R90, one of 32, stride 0x20). -/
abbrev winIwTgtHi : Nat := 0x301014
/-- WIN_IW_HITS (R90, one of 32, stride 0x20). -/
abbrev winIwHits : Nat := 0x301018
/-- WIN_OW_CTL (R89, one of 32, stride 0x20). -/
abbrev winOwCtl : Nat := 0x301400
/-- WIN_OW_AGE (R89, one of 32, stride 0x20). -/
abbrev winOwAge : Nat := 0x301404
/-- WIN_OW_FMT (R89, one of 32, stride 0x20). -/
abbrev winOwFmt : Nat := 0x301408
/-- WIN_OW_BASE (R90, one of 32, stride 0x20). -/
abbrev winOwBase : Nat := 0x30140C
/-- WIN_OW_TGT (R90, one of 32, stride 0x20). -/
abbrev winOwTgt : Nat := 0x301410
/-- WIN_OW_TGT_HI (R90, one of 32, stride 0x20). -/
abbrev winOwTgtHi : Nat := 0x301414
/-- WIN_OW_HITS (R90, one of 32, stride 0x20). -/
abbrev winOwHits : Nat := 0x301418
/-- WIN_LW_CTL (R89, one of 16, stride 0x20). -/
abbrev winLwCtl : Nat := 0x301800
/-- WIN_LW_AGE (R89, one of 16, stride 0x20). -/
abbrev winLwAge : Nat := 0x301804
/-- WIN_LW_FMT (R89, one of 16, stride 0x20). -/
abbrev winLwFmt : Nat := 0x301808
/-- WIN_LW_BASE (R90, one of 16, stride 0x20). -/
abbrev winLwBase : Nat := 0x30180C
/-- WIN_LW_TGT (R90, one of 16, stride 0x20). -/
abbrev winLwTgt : Nat := 0x301810
/-- WIN_LW_TGT_HI (R90, one of 16, stride 0x20). -/
abbrev winLwTgtHi : Nat := 0x301814
/-- WIN_LW_HITS (R90, one of 16, stride 0x20). -/
abbrev winLwHits : Nat := 0x301818
/-- WIN_LZ_CTL (R89, one of 8, stride 0x20). -/
abbrev winLzCtl : Nat := 0x301C00
/-- WIN_LZ_AGE (R89, one of 8, stride 0x20). -/
abbrev winLzAge : Nat := 0x301C04
/-- WIN_LZ_FMT (R89, one of 8, stride 0x20). -/
abbrev winLzFmt : Nat := 0x301C08
/-- WIN_LZ_BASE (R90, one of 8, stride 0x20). -/
abbrev winLzBase : Nat := 0x301C0C
/-- WIN_LZ_HITS (R90, one of 8, stride 0x20). -/
abbrev winLzHits : Nat := 0x301C18
/-- INT_STATUS (R300). -/
abbrev intStatus : Nat := 0xE00000
/-- INT_SW (R300). -/
abbrev intSw : Nat := 0xE00008
/-- INT_EL_POP (R300). -/
abbrev intElPop : Nat := 0xE00010
/-- INT_EL_OVF (R302). -/
abbrev intElOvf : Nat := 0xE00014
/-- INT_EL_POP_MISS (R302). -/
abbrev intElPopMiss : Nat := 0xE00018
/-- INT_EL_WRITTEN (R302). -/
abbrev intElWritten : Nat := 0xE0001C
/-- INT_EOI (R300). -/
abbrev intEoi : Nat := 0xE00020
/-- INT_MSG_SENT (R302). -/
abbrev intMsgSent : Nat := 0xE00024
/-- INT_BROWNOUT_LOST (R302). -/
abbrev intBrownoutLost : Nat := 0xE00030
/-- INT_RST_DISCARD (R302). -/
abbrev intRstDiscard : Nat := 0xE00034
/-- INT_LIRQ_CFG (R301, one of 8, stride 0x4). -/
abbrev intLirqCfg : Nat := 0xE00040
/-- INT_TYPE_COUNT (R302, one of 12, stride 0x4). -/
abbrev intTypeCount : Nat := 0xE00080
/-- INT_LEVEL (R302, one of 8, stride 0x4). -/
abbrev intLevel : Nat := 0xE00100
/-- INT_VEC_LEVEL (R302, one of 2, stride 0x4). -/
abbrev intVecLevel : Nat := 0xE00140
/-- INT_NODE_LEVEL (R302, one of 2, stride 0x4). -/
abbrev intNodeLevel : Nat := 0xE00148
/-- INT_NODE_MAP (R301, one of 64, stride 0x4). -/
abbrev intNodeMap : Nat := 0xE00200
/-- INT_VECTOR (R301, one of 256, stride 0x4). -/
abbrev intVector : Nat := 0xE00400
/-- LBU_CTL (R144). -/
abbrev lbuCtl : Nat := 0x200000
/-- LBU_STATUS (R145). -/
abbrev lbuStatus : Nat := 0x200004
/-- LBU_SLV_CFG (R146). -/
abbrev lbuSlvCfg : Nat := 0x200008
/-- LBU_PATH_CFG (R146). -/
abbrev lbuPathCfg : Nat := 0x20000C
/-- LBU_DR_INUSE (R148). -/
abbrev lbuDrInuse : Nat := 0x200010
/-- LBU_ZONE_CFG (R147, one of 8, stride 0x4). -/
abbrev lbuZoneCfg : Nat := 0x200020
/-- LBU_RETRY_ISSUED (R148). -/
abbrev lbuRetryIssued : Nat := 0x200100
/-- LBU_RETRY_RCVD (R148). -/
abbrev lbuRetryRcvd : Nat := 0x200104
/-- LBU_TIMEOUT_COUNT (R148). -/
abbrev lbuTimeoutCount : Nat := 0x200108
/-- LBU_BERR_COUNT (R148). -/
abbrev lbuBerrCount : Nat := 0x20010C
/-- LBU_PAR_ERR_COUNT (R148). -/
abbrev lbuParErrCount : Nat := 0x200110
/-- LBU_LOCK_BROKEN (R148). -/
abbrev lbuLockBroken : Nat := 0x200114
/-- LBU_DR_FULL (R148). -/
abbrev lbuDrFull : Nat := 0x200118
/-- LBU_DR_DISCARD (R148). -/
abbrev lbuDrDiscard : Nat := 0x20011C
/-- LBU_DR_STALE (R148). -/
abbrev lbuDrStale : Nat := 0x200120
/-- LBU_PREF_DISCARD (R148). -/
abbrev lbuPrefDiscard : Nat := 0x200124
/-- LBU_PROMOTE_COUNT (R148). -/
abbrev lbuPromoteCount : Nat := 0x200128
/-- ITM_CTL (R187). -/
abbrev itmCtl : Nat := 0x400000
/-- ITM_STATUS (R187). -/
abbrev itmStatus : Nat := 0x400004
/-- ITM_LINK_CTL (R188, one of 5, stride 0x40). -/
abbrev itmLinkCtl : Nat := 0x400100
/-- ITM_PEER (R188, one of 5, stride 0x40). -/
abbrev itmPeer : Nat := 0x400104
/-- ITM_LINK_STATUS (R189, one of 5, stride 0x40). -/
abbrev itmLinkStatus : Nat := 0x400108
/-- ITM_TIME_CFG (R189, one of 5, stride 0x40). -/
abbrev itmTimeCfg : Nat := 0x40010C
/-- ITM_LANE_CFG (R189, one of 5, stride 0x40). -/
abbrev itmLaneCfg : Nat := 0x400110
/-- ITM_LINK_DELAY (R189, one of 5, stride 0x40). -/
abbrev itmLinkDelay : Nat := 0x400114
/-- ITM_OUTSTANDING (R189, one of 5, stride 0x40). -/
abbrev itmOutstanding : Nat := 0x400118
/-- ITM_CRC_ERR (R189, one of 5, stride 0x40). -/
abbrev itmCrcErr : Nat := 0x40011C
/-- ITM_REPLAY (R189, one of 5, stride 0x40). -/
abbrev itmReplay : Nat := 0x400120
/-- ITM_RETRAIN (R189, one of 5, stride 0x40). -/
abbrev itmRetrain : Nat := 0x400124
/-- ITM_LANE_SWAP (R189, one of 5, stride 0x40). -/
abbrev itmLaneSwap : Nat := 0x400128
/-- ITM_PEER_DOWN_COUNT (R189, one of 5, stride 0x40). -/
abbrev itmPeerDownCount : Nat := 0x40012C
/-- ITM_PROTO_ERR (R189, one of 5, stride 0x40). -/
abbrev itmProtoErr : Nat := 0x400130
/-- ITM_LATE_CPL (R189, one of 5, stride 0x40). -/
abbrev itmLateCpl : Nat := 0x400134
/-- ITM_TIME_DROP (R189, one of 5, stride 0x40). -/
abbrev itmTimeDrop : Nat := 0x400138
/-- ITM_REQ_TIMEOUT (R189, one of 5, stride 0x40). -/
abbrev itmReqTimeout : Nat := 0x40013C
/-- ITM_ROUTE (R190, one of 64, stride 0x4). -/
abbrev itmRoute : Nat := 0x440000
/-- DEP_TWIN_ROLE (R460). -/
abbrev depTwinRole : Nat := 0xD00000
/-- DEP_TWIN_STATUS (R460). -/
abbrev depTwinStatus : Nat := 0xD00008
/-- DEP_TWIN_CFG (R460). -/
abbrev depTwinCfg : Nat := 0xD0000C
/-- DEP_FAULT_STATUS (R461). -/
abbrev depFaultStatus : Nat := 0xD00010
/-- DEP_FAULT_LAST (R461). -/
abbrev depFaultLast : Nat := 0xD00014
/-- DEP_FAULT_ACT (R461). -/
abbrev depFaultAct : Nat := 0xD00018
/-- DEP_WEAR_CFG (R462). -/
abbrev depWearCfg : Nat := 0xD00020
/-- DEP_SCRUB_CFG (R462). -/
abbrev depScrubCfg : Nat := 0xD00024
/-- DEP_SPARE_CMD (R462). -/
abbrev depSpareCmd : Nat := 0xD00028
/-- DEP_SPARE_SUMMARY (R462). -/
abbrev depSpareSummary : Nat := 0xD00030
/-- DEP_SAFE_CFG (R461). -/
abbrev depSafeCfg : Nat := 0xD00034
/-- DEP_NOTE_POP (R463). -/
abbrev depNotePop : Nat := 0xD00038
/-- DEP_NOTE_STATUS (R463). -/
abbrev depNoteStatus : Nat := 0xD0003C
/-- DEP_TWIN_TAKEOVERS (R463). -/
abbrev depTwinTakeovers : Nat := 0xD00040
/-- DEP_TWIN_ACK (R463). -/
abbrev depTwinAck : Nat := 0xD00044
/-- DEP_SPARE_COUNT (R463). -/
abbrev depSpareCount : Nat := 0xD00048
/-- DEP_SPARE_ACK (R463). -/
abbrev depSpareAck : Nat := 0xD0004C
/-- DEP_CORR_COUNT (R463). -/
abbrev depCorrCount : Nat := 0xD00050
/-- DEP_CORR_ACK (R463). -/
abbrev depCorrAck : Nat := 0xD00054
/-- DEP_UNCORR_COUNT (R463). -/
abbrev depUncorrCount : Nat := 0xD00058
/-- DEP_UNCORR_ACK (R463). -/
abbrev depUncorrAck : Nat := 0xD0005C
/-- DEP_DRAM_CORR (R463). -/
abbrev depDramCorr : Nat := 0xD00060
/-- DEP_DRAM_CORR_ACK (R463). -/
abbrev depDramCorrAck : Nat := 0xD00064
/-- DEP_DRAM_UNCORR (R463). -/
abbrev depDramUncorr : Nat := 0xD00068
/-- DEP_DRAM_UNCORR_ACK (R463). -/
abbrev depDramUncorrAck : Nat := 0xD0006C
/-- DEP_TWIN_LOST (R460). -/
abbrev depTwinLost : Nat := 0xD00070
/-- DEP_TWIN_LOST_HI (R460). -/
abbrev depTwinLostHi : Nat := 0xD00074
/-- DEP_REPLAY_COUNT (R463). -/
abbrev depReplayCount : Nat := 0xD00078
/-- DEP_REPLAY_ACK (R463). -/
abbrev depReplayAck : Nat := 0xD0007C
/-- DEP_DUAL_ACTIVE (R463). -/
abbrev depDualActive : Nat := 0xD00080
/-- DEP_NOTE_OVF (R463). -/
abbrev depNoteOvf : Nat := 0xD00084
/-- DEP_SPARE_LOST (R463). -/
abbrev depSpareLost : Nat := 0xD00088
/-- DEP_SPARE_MAP (R462, one of 64, stride 0x8). -/
abbrev depSpareMap : Nat := 0xD00100
/-- DEP_SPARE_MAP_HI (R462, one of 64, stride 0x8). -/
abbrev depSpareMapHi : Nat := 0xD00104
/-- PGL_CTL (R362). -/
abbrev pglCtl : Nat := 0x500000
/-- PGL_STATUS (R362). -/
abbrev pglStatus : Nat := 0x500004
/-- PGL_CLASS_RSV (R362). -/
abbrev pglClassRsv : Nat := 0x500008
/-- PGL_VOQ_MAX (R362). -/
abbrev pglVoqMax : Nat := 0x50000C
/-- PGL_PDU_BASE (R362). -/
abbrev pglPduBase : Nat := 0x500010
/-- PGL_LOST_SUM (R362). -/
abbrev pglLostSum : Nat := 0x500014
/-- PGL_LOST_ACK (R362). -/
abbrev pglLostAck : Nat := 0x500018
/-- PGL_SIG_SHORT (R362). -/
abbrev pglSigShort : Nat := 0x50001C
/-- PGL_CR_BASE (R362, one of 8, stride 0x20). -/
abbrev pglCrBase : Nat := 0x500100
/-- PGL_CR_BASE_HI (R362, one of 8, stride 0x20). -/
abbrev pglCrBaseHi : Nat := 0x500104
/-- PGL_CR_CFG (R362, one of 8, stride 0x20). -/
abbrev pglCrCfg : Nat := 0x500108
/-- PGL_CR_WI (R362, one of 8, stride 0x20). -/
abbrev pglCrWi : Nat := 0x50010C
/-- PGL_CR_RI (R362, one of 8, stride 0x20). -/
abbrev pglCrRi : Nat := 0x500110
/-- PGL_CR_DROP (R362, one of 8, stride 0x20). -/
abbrev pglCrDrop : Nat := 0x500114
/-- PGL_IN_CFG (R362, one of 16, stride 0x40). -/
abbrev pglInCfg : Nat := 0x501000
/-- PGL_OUT_WRR0 (R362, one of 16, stride 0x40). -/
abbrev pglOutWrr0 : Nat := 0x501004
/-- PGL_OUT_WRR1 (R362, one of 16, stride 0x40). -/
abbrev pglOutWrr1 : Nat := 0x501008
/-- PGL_IN_USED (R362, one of 16, stride 0x40). -/
abbrev pglInUsed : Nat := 0x50100C
/-- PGL_IN_CELLS (R362, one of 16, stride 0x40). -/
abbrev pglInCells : Nat := 0x501010
/-- PGL_OUT_CELLS (R362, one of 16, stride 0x40). -/
abbrev pglOutCells : Nat := 0x501014
/-- PGL_IN_ADMIT_DROP (R362, one of 16, stride 0x40). -/
abbrev pglInAdmitDrop : Nat := 0x501018
/-- PGL_OUT_LOST (R362, one of 16, stride 0x40). -/
abbrev pglOutLost : Nat := 0x50101C
/-- PGL_OUT_LATE (R362, one of 16, stride 0x40). -/
abbrev pglOutLate : Nat := 0x501020
/-- PGL_OUT_FORCED (R362, one of 16, stride 0x40). -/
abbrev pglOutForced : Nat := 0x501024
/-- PGL_OUT_XFER_DROP (R362, one of 16, stride 0x40). -/
abbrev pglOutXferDrop : Nat := 0x501028
/-- PGL_OUT_PROMOTE (R362, one of 16, stride 0x40). -/
abbrev pglOutPromote : Nat := 0x50102C
/-- PAV_STATUS (R363, one of 8, stride 0x10000). -/
abbrev pavStatus : Nat := 0xA00000
/-- PAV_CAN_CTL (R363, one of 8, stride 0x10000, each of 8, stride 0x80). -/
abbrev pavCanCtl : Nat := 0xA00100
/-- PAV_CAN_NBT (R363, one of 8, stride 0x10000, each of 8, stride 0x80). -/
abbrev pavCanNbt : Nat := 0xA00104
/-- PAV_CAN_DBT (R363, one of 8, stride 0x10000, each of 8, stride 0x80). -/
abbrev pavCanDbt : Nat := 0xA00108
/-- PAV_CAN_XBT (R363, one of 8, stride 0x10000, each of 8, stride 0x80). -/
abbrev pavCanXbt : Nat := 0xA0010C
/-- PAV_CAN_TDC (R363, one of 8, stride 0x10000, each of 8, stride 0x80). -/
abbrev pavCanTdc : Nat := 0xA00110
/-- PAV_CAN_TXTIMED (R363, one of 8, stride 0x10000, each of 8, stride 0x80). -/
abbrev pavCanTxtimed : Nat := 0xA00114
/-- PAV_CAN_TXKEEP (R363, one of 8, stride 0x10000, each of 8, stride 0x80). -/
abbrev pavCanTxkeep : Nat := 0xA00118
/-- PAV_CAN_TXLOAD (R363, one of 8, stride 0x10000, each of 8, stride 0x80). -/
abbrev pavCanTxload : Nat := 0xA0011C
/-- PAV_CAN_TXSTAT (R363, one of 8, stride 0x10000, each of 8, stride 0x80). -/
abbrev pavCanTxstat : Nat := 0xA00120
/-- PAV_CAN_STATUS (R363, one of 8, stride 0x10000, each of 8, stride 0x80). -/
abbrev pavCanStatus : Nat := 0xA00124
/-- PAV_CAN_RX_OK (R363, one of 8, stride 0x10000, each of 8, stride 0x80). -/
abbrev pavCanRxOk : Nat := 0xA00128
/-- PAV_CAN_RX_NOBUF (R363, one of 8, stride 0x10000, each of 8, stride 0x80). -/
abbrev pavCanRxNobuf : Nat := 0xA0012C
/-- PAV_CAN_BUS_ERR (R363, one of 8, stride 0x10000, each of 8, stride 0x80). -/
abbrev pavCanBusErr : Nat := 0xA00130
/-- PAV_CAN_TX_OK (R363, one of 8, stride 0x10000, each of 8, stride 0x80). -/
abbrev pavCanTxOk : Nat := 0xA00134
/-- PAV_CAN_TX_DROP (R363, one of 8, stride 0x10000, each of 8, stride 0x80). -/
abbrev pavCanTxDrop : Nat := 0xA00138
/-- PAV_CAN_TX_AGE_DROP (R363, one of 8, stride 0x10000, each of 8, stride 0x80). -/
abbrev pavCanTxAgeDrop : Nat := 0xA0013C
/-- PAV_CAN_BUS_OFF_COUNT (R363, one of 8, stride 0x10000, each of 8, stride 0x80). -/
abbrev pavCanBusOffCount : Nat := 0xA00140
/-- PAV_LIN_CTL (R363, one of 8, stride 0x10000, each of 4, stride 0x40). -/
abbrev pavLinCtl : Nat := 0xA00800
/-- PAV_LIN_SCHED_CFG (R363, one of 8, stride 0x10000, each of 4, stride 0x40). -/
abbrev pavLinSchedCfg : Nat := 0xA00804
/-- PAV_LIN_STATUS (R363, one of 8, stride 0x10000, each of 4, stride 0x40). -/
abbrev pavLinStatus : Nat := 0xA00808
/-- PAV_LIN_RX_OK (R363, one of 8, stride 0x10000, each of 4, stride 0x40). -/
abbrev pavLinRxOk : Nat := 0xA0080C
/-- PAV_LIN_RX_ERR (R363, one of 8, stride 0x10000, each of 4, stride 0x40). -/
abbrev pavLinRxErr : Nat := 0xA00810
/-- PAV_LIN_NO_RESP (R363, one of 8, stride 0x10000, each of 4, stride 0x40). -/
abbrev pavLinNoResp : Nat := 0xA00814
/-- PAV_LIN_TX_OK (R363, one of 8, stride 0x10000, each of 4, stride 0x40). -/
abbrev pavLinTxOk : Nat := 0xA00818
/-- ETH_CTL (R364, one of 15, stride 0x10000). -/
abbrev ethCtl : Nat := 0xB00000
/-- ETH_STATUS (R364, one of 15, stride 0x10000). -/
abbrev ethStatus : Nat := 0xB00004
/-- ETH_CFG (R364, one of 15, stride 0x10000). -/
abbrev ethCfg : Nat := 0xB00008
/-- ETH_TAS_CTL (R364, one of 15, stride 0x10000). -/
abbrev ethTasCtl : Nat := 0xB00010
/-- ETH_TAS_CYCLE (R364, one of 15, stride 0x10000). -/
abbrev ethTasCycle : Nat := 0xB00014
/-- ETH_TAS_BASE_LO (R364, one of 15, stride 0x10000). -/
abbrev ethTasBaseLo : Nat := 0xB00018
/-- ETH_TAS_BASE_HI (R364, one of 15, stride 0x10000). -/
abbrev ethTasBaseHi : Nat := 0xB0001C
/-- ETH_CBS (R364, one of 15, stride 0x10000, each of 8, stride 0x4). -/
abbrev ethCbs : Nat := 0xB00020
/-- ETH_RX_OK (R364, one of 15, stride 0x10000). -/
abbrev ethRxOk : Nat := 0xB00040
/-- ETH_RX_FCS_ERR (R364, one of 15, stride 0x10000). -/
abbrev ethRxFcsErr : Nat := 0xB00044
/-- ETH_RX_LEN_ERR (R364, one of 15, stride 0x10000). -/
abbrev ethRxLenErr : Nat := 0xB00048
/-- ETH_RX_CTRL (R364, one of 15, stride 0x10000). -/
abbrev ethRxCtrl : Nat := 0xB0004C
/-- ETH_RX_ADMIT_DROP (R364, one of 15, stride 0x10000). -/
abbrev ethRxAdmitDrop : Nat := 0xB00050
/-- ETH_RX_QCI_DROP (R364, one of 15, stride 0x10000). -/
abbrev ethRxQciDrop : Nat := 0xB00054
/-- ETH_TX_OK (R364, one of 15, stride 0x10000). -/
abbrev ethTxOk : Nat := 0xB00058
/-- ETH_TX_STOMP (R364, one of 15, stride 0x10000). -/
abbrev ethTxStomp : Nat := 0xB0005C
/-- ETH_TX_AGE_DROP (R364, one of 15, stride 0x10000). -/
abbrev ethTxAgeDrop : Nat := 0xB00060
/-- ETH_TX_DROP (R364, one of 15, stride 0x10000). -/
abbrev ethTxDrop : Nat := 0xB00064
/-- ETH_ADDR_LO (R364, one of 15, stride 0x10000). -/
abbrev ethAddrLo : Nat := 0xB00068
/-- ETH_ADDR_HI (R364, one of 15, stride 0x10000). -/
abbrev ethAddrHi : Nat := 0xB0006C
/-- ETH_TUN_CTL (R364, one of 4, stride 0x20). -/
abbrev ethTunCtl : Nat := 0xBF0000
/-- ETH_TUN_VID (R364, one of 4, stride 0x20). -/
abbrev ethTunVid : Nat := 0xBF0004
/-- ETH_TUN_SID_LO (R364, one of 4, stride 0x20). -/
abbrev ethTunSidLo : Nat := 0xBF0008
/-- ETH_TUN_SID_HI (R364, one of 4, stride 0x20). -/
abbrev ethTunSidHi : Nat := 0xBF000C
/-- ETH_TUN_DMAC_LO (R364, one of 4, stride 0x20). -/
abbrev ethTunDmacLo : Nat := 0xBF0010
/-- ETH_TUN_DMAC_HI (R364, one of 4, stride 0x20). -/
abbrev ethTunDmacHi : Nat := 0xBF0014
/-- ETH_TUN_SEQ_GAP (R364, one of 4, stride 0x20). -/
abbrev ethTunSeqGap : Nat := 0xBF0018
/-- ETH_TUN_XL_DROP (R364, one of 4, stride 0x20). -/
abbrev ethTunXlDrop : Nat := 0xBF001C
/-- GZB_CTL (R325). -/
abbrev gzbCtl : Nat := 0x900000
/-- GZB_STATUS (R325). -/
abbrev gzbStatus : Nat := 0x900004
/-- GZB_HALT_CAUSE (R325). -/
abbrev gzbHaltCause : Nat := 0x900008
/-- GZB_QUEUE_INUSE (R325). -/
abbrev gzbQueueInuse : Nat := 0x90000C
/-- GZB_HALT_GA (R325). -/
abbrev gzbHaltGa : Nat := 0x900010
/-- GZB_HALT_GA_HI (R325). -/
abbrev gzbHaltGaHi : Nat := 0x900014
/-- GZB_RESTART (R325). -/
abbrev gzbRestart : Nat := 0x900020
/-- GZB_HALT_COUNT (R325). -/
abbrev gzbHaltCount : Nat := 0x900030
/-- GZB_CH_CTL (R326, one of 16, stride 0x40). -/
abbrev gzbChCtl : Nat := 0x901000
/-- GZB_CH_PI (R326, one of 16, stride 0x40). -/
abbrev gzbChPi : Nat := 0x901004
/-- GZB_CH_CI (R326, one of 16, stride 0x40). -/
abbrev gzbChCi : Nat := 0x901008
/-- GZB_CH_STATUS (R327, one of 16, stride 0x40). -/
abbrev gzbChStatus : Nat := 0x90100C
/-- GZB_CH_RING (R326, one of 16, stride 0x40). -/
abbrev gzbChRing : Nat := 0x901010
/-- GZB_CH_RING_HI (R326, one of 16, stride 0x40). -/
abbrev gzbChRingHi : Nat := 0x901014
/-- GZB_CH_EVT (R326, one of 16, stride 0x40). -/
abbrev gzbChEvt : Nat := 0x901018
/-- GZB_CH_EVT_ACK (R326, one of 16, stride 0x40). -/
abbrev gzbChEvtAck : Nat := 0x90101C
/-- GZB_CH_CRC (R327, one of 16, stride 0x40). -/
abbrev gzbChCrc : Nat := 0x901020
/-- GZB_CH_DESC_DONE (R327, one of 16, stride 0x40). -/
abbrev gzbChDescDone : Nat := 0x901024
/-- GZB_CH_BAD_DESC (R327, one of 16, stride 0x40). -/
abbrev gzbChBadDesc : Nat := 0x901028
/-- GZB_CH_OWN_MISS (R327, one of 16, stride 0x40). -/
abbrev gzbChOwnMiss : Nat := 0x90102C
/-- GZB_CH_WR_FAIL (R327, one of 16, stride 0x40). -/
abbrev gzbChWrFail : Nat := 0x901030
/-- GZB_CH_BYTES (R327, one of 16, stride 0x40). -/
abbrev gzbChBytes : Nat := 0x901038
/-- GZB_CH_BYTES_HI (R327, one of 16, stride 0x40). -/
abbrev gzbChBytesHi : Nat := 0x90103C
/-- BLV_STATUS (R272). -/
abbrev blvStatus : Nat := 0x800000
/-- BLV_SRC_CFG (R273). -/
abbrev blvSrcCfg : Nat := 0x800004
/-- BLV_SERVO_CFG (R273). -/
abbrev blvServoCfg : Nat := 0x800008
/-- BLV_SCHED_CFG (R274). -/
abbrev blvSchedCfg : Nat := 0x80000C
/-- BLV_VT_LO (R275). -/
abbrev blvVtLo : Nat := 0x800010
/-- BLV_VT_HI (R275). -/
abbrev blvVtHi : Nat := 0x800014
/-- BLV_VT_FRAC (R275). -/
abbrev blvVtFrac : Nat := 0x800018
/-- BLV_OFFSET (R275). -/
abbrev blvOffset : Nat := 0x80001C
/-- BLV_RATE (R275). -/
abbrev blvRate : Nat := 0x800020
/-- BLV_RATE_TRIM (R275). -/
abbrev blvRateTrim : Nat := 0x800024
/-- BLV_SLEW (R275). -/
abbrev blvSlew : Nat := 0x800028
/-- BLV_STEP_LO (R275). -/
abbrev blvStepLo : Nat := 0x800030
/-- BLV_STEP_HI (R275). -/
abbrev blvStepHi : Nat := 0x800034
/-- BLV_STEP_CTL (R275). -/
abbrev blvStepCtl : Nat := 0x800038
/-- BLV_ARM (R274). -/
abbrev blvArm : Nat := 0x800040
/-- BLV_RES_STATUS (R276). -/
abbrev blvResStatus : Nat := 0x800044
/-- BLV_RES_POP (R276). -/
abbrev blvResPop : Nat := 0x800048
/-- BLV_CAP_STATUS (R276). -/
abbrev blvCapStatus : Nat := 0x80004C
/-- BLV_CAP_POP (R276). -/
abbrev blvCapPop : Nat := 0x800050
/-- BLV_TXTS_STATUS (R276). -/
abbrev blvTxtsStatus : Nat := 0x800054
/-- BLV_TXTS_POP (R276). -/
abbrev blvTxtsPop : Nat := 0x800058
/-- BLV_PPS_CFG (R275). -/
abbrev blvPpsCfg : Nat := 0x80005C
/-- BLV_LATE_COUNT (R277). -/
abbrev blvLateCount : Nat := 0x800080
/-- BLV_DROP_COUNT (R277). -/
abbrev blvDropCount : Nat := 0x800084
/-- BLV_SKIP_COUNT (R277). -/
abbrev blvSkipCount : Nat := 0x800088
/-- BLV_ARM_REJECT (R277). -/
abbrev blvArmReject : Nat := 0x80008C
/-- BLV_RES_OVF (R277). -/
abbrev blvResOvf : Nat := 0x800090
/-- BLV_CAP_OVF (R277). -/
abbrev blvCapOvf : Nat := 0x800094
/-- BLV_TXTS_OVF (R277). -/
abbrev blvTxtsOvf : Nat := 0x800098
/-- BLV_SRC_SWITCH (R277). -/
abbrev blvSrcSwitch : Nat := 0x80009C
/-- BLV_STEP_COUNT (R277). -/
abbrev blvStepCount : Nat := 0x8000A0
/-- BLV_CTR_MISMATCH (R277). -/
abbrev blvCtrMismatch : Nat := 0x8000A4
/-- BLV_NOT_READY (R277). -/
abbrev blvNotReady : Nat := 0x8000A8
/-- BLV_TIO_CFG (R276, one of 48, stride 0x4). -/
abbrev blvTioCfg : Nat := 0x800100
/-- BLV_PTP_LAT (R276, one of 15, stride 0x4). -/
abbrev blvPtpLat : Nat := 0x800200
/-- TRL_CTRL (R391). -/
abbrev trlCtrl : Nat := 0x600000
/-- TRL_STATUS (R391). -/
abbrev trlStatus : Nat := 0x600004
/-- TRL_TABLE_SELECT (R391). -/
abbrev trlTableSelect : Nat := 0x600008
/-- TRL_AGE_PERIOD (R391). -/
abbrev trlAgePeriod : Nat := 0x600010
/-- TRL_LOCK_LIMIT (R391). -/
abbrev trlLockLimit : Nat := 0x600014
/-- TRL_LEARN_CFG (R391). -/
abbrev trlLearnCfg : Nat := 0x600018
/-- TRL_GEN (R392). -/
abbrev trlGen : Nat := 0x60001C
/-- TRL_GEN_ADV (R392). -/
abbrev trlGenAdv : Nat := 0x600020
/-- TRL_GEN_FENCE (R392). -/
abbrev trlGenFence : Nat := 0x600024
/-- TRL_RELOC_EPOCH (R392). -/
abbrev trlRelocEpoch : Nat := 0x600028
/-- TRL_CMD (R392). -/
abbrev trlCmd : Nat := 0x60002C
/-- TRL_CMD_STATUS (R392). -/
abbrev trlCmdStatus : Nat := 0x600030
/-- TRL_CMD_BUCKET (R392). -/
abbrev trlCmdBucket : Nat := 0x600034
/-- TRL_RQ_POP (R392). -/
abbrev trlRqPop : Nat := 0x600038
/-- TRL_LOCK_OVERRUN_ACK (R392). -/
abbrev trlLockOverrunAck : Nat := 0x60003C
/-- TRL_TAB_BASE (R392, one of 2, stride 0x20). -/
abbrev trlTabBase : Nat := 0x600040
/-- TRL_TAB_BASE_HI (R392, one of 2, stride 0x20). -/
abbrev trlTabBaseHi : Nat := 0x600044
/-- TRL_TAB_CFG (R392, one of 2, stride 0x20). -/
abbrev trlTabCfg : Nat := 0x600048
/-- TRL_TAB_SEED0 (R392, one of 2, stride 0x20). -/
abbrev trlTabSeed0 : Nat := 0x60004C
/-- TRL_TAB_SEED1 (R392, one of 2, stride 0x20). -/
abbrev trlTabSeed1 : Nat := 0x600050
/-- TRL_WATCH_BASE (R392). -/
abbrev trlWatchBase : Nat := 0x600080
/-- TRL_WATCH_BASE_HI (R392). -/
abbrev trlWatchBaseHi : Nat := 0x600084
/-- TRL_WATCH_CFG (R392). -/
abbrev trlWatchCfg : Nat := 0x600088
/-- TRL_WATCH_WI (R392). -/
abbrev trlWatchWi : Nat := 0x60008C
/-- TRL_WATCH_RI (R392). -/
abbrev trlWatchRi : Nat := 0x600090
/-- TRL_LOOKUPS (R393). -/
abbrev trlLookups : Nat := 0x600100
/-- TRL_LOOKUPS_HI (R393). -/
abbrev trlLookupsHi : Nat := 0x600104
/-- TRL_CACHE_MISS (R393). -/
abbrev trlCacheMiss : Nat := 0x600108
/-- TRL_CACHE_MISS_HI (R393). -/
abbrev trlCacheMissHi : Nat := 0x60010C
/-- TRL_LEARNED (R393). -/
abbrev trlLearned : Nat := 0x600110
/-- TRL_LEARN_MOVE (R393). -/
abbrev trlLearnMove : Nat := 0x600114
/-- TRL_LEARN_SKIP (R393). -/
abbrev trlLearnSkip : Nat := 0x600118
/-- TRL_INSERT_FAIL (R393). -/
abbrev trlInsertFail : Nat := 0x60011C
/-- TRL_REHASH_OVF (R393). -/
abbrev trlRehashOvf : Nat := 0x600120
/-- TRL_AGE_REMOVE (R393). -/
abbrev trlAgeRemove : Nat := 0x600124
/-- TRL_RELOC_RETRY (R393). -/
abbrev trlRelocRetry : Nat := 0x600128
/-- TRL_PARKED (R393). -/
abbrev trlParked : Nat := 0x60012C
/-- TRL_PARK_FULL (R393). -/
abbrev trlParkFull : Nat := 0x600130
/-- TRL_WATCH_DROP (R393). -/
abbrev trlWatchDrop : Nat := 0x600134
/-- TRL_LOCK_OVERRUN (R393). -/
abbrev trlLockOverrun : Nat := 0x600138
/-- GTH_CTL (R421). -/
abbrev gthCtl : Nat := 0x700000
/-- GTH_STATUS (R421). -/
abbrev gthStatus : Nat := 0x700004
/-- GTH_FAIL_POP (R421). -/
abbrev gthFailPop : Nat := 0x700008
/-- GTH_GUARD_ACK (R421). -/
abbrev gthGuardAck : Nat := 0x70000C
/-- GTH_KEY_CTL (R421). -/
abbrev gthKeyCtl : Nat := 0x700010
/-- GTH_KEY_STATUS (R421). -/
abbrev gthKeyStatus : Nat := 0x700018
/-- GTH_AUTH_OK (R421). -/
abbrev gthAuthOk : Nat := 0x700100
/-- GTH_AUTH_FAIL (R421). -/
abbrev gthAuthFail : Nat := 0x700104
/-- GTH_GEN_COUNT (R421). -/
abbrev gthGenCount : Nat := 0x700108
/-- GTH_FAIL_OVF (R421). -/
abbrev gthFailOvf : Nat := 0x70010C
/-- GTH_GUARD_DROP (R421). -/
abbrev gthGuardDrop : Nat := 0x700110
/-- GTH_METER_RED (R421). -/
abbrev gthMeterRed : Nat := 0x700114
/-- GTH_MS_CTL (R421, one of 14, stride 0x40). -/
abbrev gthMsCtl : Nat := 0x701000
/-- GTH_MS_WINDOW (R421, one of 14, stride 0x40). -/
abbrev gthMsWindow : Nat := 0x701004
/-- GTH_MS_TX_SCI (R421, one of 14, stride 0x40). -/
abbrev gthMsTxSci : Nat := 0x701008
/-- GTH_MS_TX_SCI_HI (R421, one of 14, stride 0x40). -/
abbrev gthMsTxSciHi : Nat := 0x70100C
/-- GTH_MS_IN_OK (R421, one of 14, stride 0x40). -/
abbrev gthMsInOk : Nat := 0x701010
/-- GTH_MS_IN_INVALID (R421, one of 14, stride 0x40). -/
abbrev gthMsInInvalid : Nat := 0x701014
/-- GTH_MS_IN_NOT_VALID (R421, one of 14, stride 0x40). -/
abbrev gthMsInNotValid : Nat := 0x701018
/-- GTH_MS_IN_LATE (R421, one of 14, stride 0x40). -/
abbrev gthMsInLate : Nat := 0x70101C
/-- GTH_MS_IN_NO_SA (R421, one of 14, stride 0x40). -/
abbrev gthMsInNoSa : Nat := 0x701020
/-- GTH_MS_IN_UNTAGGED (R421, one of 14, stride 0x40). -/
abbrev gthMsInUntagged : Nat := 0x701024
/-- GTH_MS_OUT_PROTECTED (R421, one of 14, stride 0x40). -/
abbrev gthMsOutProtected : Nat := 0x701028
/-- GTH_MS_OUT_PN_EXHAUST (R421, one of 14, stride 0x40). -/
abbrev gthMsOutPnExhaust : Nat := 0x70102C
/-- WKT_STATUS (R422). -/
abbrev wktStatus : Nat := 0xC00000
/-- WKT_WCU_BUDGET (R422). -/
abbrev wktWcuBudget : Nat := 0xC00004
/-- WKT_SLEEP_CTL (R422). -/
abbrev wktSleepCtl : Nat := 0xC00008
/-- WKT_SLEEP_CTL_KEY (R422). -/
abbrev wktSleepCtlKey : Nat := 0xC0000C
/-- WKT_EVT_POP (R422). -/
abbrev wktEvtPop : Nat := 0xC00010
/-- WKT_TIMER (R422). -/
abbrev wktTimer : Nat := 0xC00014
/-- WKT_KEEP (R422). -/
abbrev wktKeep : Nat := 0xC00018
/-- WKT_AON_TIME (R422). -/
abbrev wktAonTime : Nat := 0xC00020
/-- WKT_AON_TIME_HI (R422). -/
abbrev wktAonTimeHi : Nat := 0xC00024
/-- WKT_PLAN (R422, one of 6, stride 0x4). -/
abbrev wktPlan : Nat := 0xC00034
/-- WKT_CAN_CFG (R422, one of 64, stride 0x4). -/
abbrev wktCanCfg : Nat := 0xC00100
/-- WKT_LIN_CFG (R422, one of 32, stride 0x4). -/
abbrev wktLinCfg : Nat := 0xC00200
/-- WKT_PHY_CFG (R422). -/
abbrev wktPhyCfg : Nat := 0xC00280
/-- WKT_PIN_CFG (R422). -/
abbrev wktPinCfg : Nat := 0xC00284
/-- WKT_ITEM_CFG (R422, one of 8, stride 0x4). -/
abbrev wktItemCfg : Nat := 0xC00300
/-- WKT_ITEM8_CFG (R422). -/
abbrev wktItem8Cfg : Nat := 0xC00320
/-- WKT_ITEM9_CFG (R422, one of 7, stride 0x4). -/
abbrev wktItem9Cfg : Nat := 0xC00324
/-- WKT_ITEM_STATE (R422). -/
abbrev wktItemState : Nat := 0xC00340
/-- WKT_WAKE_COUNT (R422). -/
abbrev wktWakeCount : Nat := 0xC00380
/-- WKT_SLEEP_ABORT (R422). -/
abbrev wktSleepAbort : Nat := 0xC00384
/-- WKT_EVT_OVF (R422). -/
abbrev wktEvtOvf : Nat := 0xC00388
/-- WKT_BUDGET_WAIT (R422). -/
abbrev wktBudgetWait : Nat := 0xC0038C
/-- DMC_CFG (R471). -/
abbrev dmcCfg : Nat := 0xF00000
/-- DMC_TIMING0 (R471). -/
abbrev dmcTiming0 : Nat := 0xF00004
/-- DMC_TIMING1 (R471). -/
abbrev dmcTiming1 : Nat := 0xF00008
/-- DMC_TIMING2 (R471). -/
abbrev dmcTiming2 : Nat := 0xF0000C
/-- DMC_TIMING3 (R471). -/
abbrev dmcTiming3 : Nat := 0xF00010
/-- DMC_ODT (R471). -/
abbrev dmcOdt : Nat := 0xF00014
/-- DMC_VREF (R471). -/
abbrev dmcVref : Nat := 0xF00018
/-- DMC_TRAIN (R471). -/
abbrev dmcTrain : Nat := 0xF0001C
/-- DMC_CTL (R471). -/
abbrev dmcCtl : Nat := 0xF00020
/-- DMC_STATUS (R471). -/
abbrev dmcStatus : Nat := 0xF00024
/-- DMC_DRIFT_CHECKS (R471). -/
abbrev dmcDriftChecks : Nat := 0xF00040
/-- DMC_TRAIN_FAIL (R471). -/
abbrev dmcTrainFail : Nat := 0xF00044
/-- DMC_REFRESH_HOT (R471). -/
abbrev dmcRefreshHot : Nat := 0xF00048
/-- LDG_STATUS (R505). -/
abbrev ldgStatus : Nat := 0x1000000
/-- LDG_BOOT_REPORT (R505). -/
abbrev ldgBootReport : Nat := 0x1000004
/-- LDG_FW_VERSION (R505). -/
abbrev ldgFwVersion : Nat := 0x1000008
/-- LDG_MBX_CMD (R505). -/
abbrev ldgMbxCmd : Nat := 0x1000010
/-- LDG_MBX_STATUS (R505). -/
abbrev ldgMbxStatus : Nat := 0x1000014
/-- LDG_BOOT_REJECTS (R505). -/
abbrev ldgBootRejects : Nat := 0x1000020
/-- LDG_MBX_REJECT (R505). -/
abbrev ldgMbxReject : Nat := 0x1000024
/-- LDG_ARC_RESTARTS (R505). -/
abbrev ldgArcRestarts : Nat := 0x1000028
/-- LDG_KIOSK_FAIL (R505). -/
abbrev ldgKioskFail : Nat := 0x100002C
end Sys2Proof.Reg
end

