-- ==== Sys2Proof/Machine/State.lean ====
section
/-!
DEFINITION. The state of the device as plain data: every register, queue, buffer, counter, mode and pin the spec gives it, the queue of
commands waiting, and the state after power-on reset.
-/
namespace Sys2Proof.Machine

/-- The access classes of R37; `key` is the companion word of an RWK register, `rwsk` and `keys` the same for a keyed register of
class RWS, `lo64` and `hi64` the halves of a writable RW64 value. -/
inductive RegClass where
  | ro | wo | rw | rwa | rwm | rwk | key | rws | rwsk | keys | lo64 | hi64
  deriving DecidableEq, Repr

/-- Who may write a register at all (R84, R235, R283). -/
inductive RegWriter where
  | any | lodge | host
  deriving DecidableEq, Repr

/-- One row of the register map; a replicated register repeats `count1` times by `stride1`, and each of those `count2` times by
`stride2`. -/
structure RegRow where
  name : String
  base : Nat
  stride1 : Nat
  count1 : Nat
  stride2 : Nat
  count2 : Nat
  cls : RegClass
  mask : Word
  reset : Word
  writer : RegWriter
  deriving DecidableEq, Repr

/-- An armed keyed attempt: register, requester and value (R40). -/
structure Armed where
  off : Nat
  who : Nat
  val : Word
  deriving DecidableEq, Repr

/-- A posted RWS write in flight: the block or instance frame it occupies, the register and the value (R41). -/
structure RwsWrite where
  frame : Nat
  off : Nat
  val : Word
  who : Nat
  deriving DecidableEq, Repr

/-- The holding register of a writable RW64 value (R42). -/
structure Held64 where
  off : Nat
  who : Nat
  low : Word
  deriving DecidableEq, Repr

/-- A register that fails its parity check: its offset, the hub's shadow copy and whether that copy is intact (R47, R435). -/
structure Damage where
  off : Nat
  shadow : Word
  ok : Bool
  deriving DecidableEq, Repr

/-- The register hub: armed keyed attempts, RWS writes in flight, held low words and registers whose parity fails (R40–R42, R47). -/
structure Hub where
  armed : List Armed := []
  rws : List RwsWrite := []
  held64 : List Held64 := []
  damaged : List Damage := []
  vtFrac : List (Nat × Nat) := []     -- the fraction latched for each requester that read BLV_VT_LO (R242)
  deriving DecidableEq, Repr

/-- One error-log entry (R282). -/
structure LogEntry where
  vt : Nat
  ga : Nat
  orig : Nat
  type : ErrType
  agent : Nat
  path : Nat
  posted : Bool
  write : Bool
  errResp : Bool
  timed : Bool
  remote : Bool
  lost : Bool
  winNum : Nat
  winFam : Nat
  count : Nat
  detail : Nat
  seq : Nat
  deriving DecidableEq, Repr

/-- The error log, oldest entry first (R282, R284). -/
structure ErrLog where
  entries : List LogEntry := []
  nextSeq : Nat := 0
  lost : Bool := false
  deriving DecidableEq, Repr

/-- Where a request entered the device. -/
inductive Ingress where
  | bar0
  | iw (n : Nat)
  | lw (n : Nat) (k : Nat)
  | link (n : Nat) (tag : Nat)
  | gzb (ch : Nat)
  | arcade
  | lodge
  | blvt (slot : Nat)
  | cap (ring : Nat)      -- the frame path writing a capture ring (R348)
  | svc                   -- a firmware service's copy between the flash and a GA (R499)
  deriving DecidableEq, Repr

/-- What a request does at its end point (R95, R161). -/
inductive ReqOp where
  | read | write | rsvLoad | condStore | fetchAdd | swap | cas
  deriving DecidableEq, Repr

/-- Where a request is performed, or sent (R56, R57). -/
inductive Target where
  | reg | sram | dram | zone (n : Nat) | ow (n : Nat) | link (n dst : Nat)
  deriving DecidableEq, Repr

/-- How far an accepted request is. -/
inductive ReqState where
  | ready     -- may be performed
  | waiting   -- a read waiting under R213
  | started   -- its end point has begun it, or its transfer or TLP has left
  | ended     -- performed or failed; its answer is in `status`
  deriving DecidableEq, Repr

/-- Why a request waits at its ingress, before it is accepted. -/
inductive HoldWhy where
  | barrier | ea0 | semaphore | tt | room
  deriving DecidableEq, Repr

/-- A bridge request or posted write from its ingress to its completion (R11–R13, R25, R209). -/
structure Req where
  seq : Nat                    -- acceptance number
  agent : Nat                  -- requester 0–63 (R21)
  ident : Nat                  -- the identity of R22
  orig : Nat                   -- ORIG_DEV
  ing : Ingress
  op : ReqOp
  posted : Bool
  ga : Nat
  len : Nat
  data : WData := []           -- write data, or the AtomicOp's operand (CAS: compare value, then swap value)
  poison : Bool := false
  tgt : Target := .reg
  path : WPath := .direct
  entries : Nat := 0           -- PWB entries held (R210)
  tag : Nat := 0               -- TT entry of a non-posted request (R25)
  otag : Nat := 0              -- the requester's own tag: PCIe tag, Itmos tag, delayed-read slot
  ts : Nat                     -- ingress stamp, 40 bits (R13)
  gen : Nat := 0               -- table generation (R16)
  strict : Bool := false       -- an implicit ORDER barrier stands before it (R75)
  mirrored : Bool := false     -- waits for the twin's acknowledgement (R443)
  mirIdx : List Nat := []      -- entry indices of its MIRROR records, one per 64-byte block (R440)
  startedSent : Bool := false  -- its STARTED records have been sent
  why : HoldWhy := .room       -- while it is held at its ingress
  st : ReqState := .ready
  status : Option ErrType := none
  failAt : Nat := 0            -- first failed byte of a failed read (R202)
  remote : Bool := false       -- the failure came from another device (R279)
  csFail : Bool := false
  rdata : List Byte := []      -- data of the completion
  rts : Nat := 0               -- completion stamp (R13)
  noComb : Bool := false       -- an emitted combining line (R218)
  orphan : Nat := 0            -- 1: ended by its watchdog (R102), 2: by a host-side event (R108), 3: its link went DOWN (R172); its completion will be discarded
  sentLen : Nat := 0           -- bytes of a device-issued read whose TLPs have left (R103); runs of a write not yet answered by a peer (R206)
  known : List (Nat × Byte) := []   -- bytes already served from a prefetched block, by GA (R236)
  deriving DecidableEq, Repr

/-- A combining-buffer line (R217), oldest first in its list. -/
structure CwbLine where
  path : WPath
  agent : Nat
  ident : Nat
  orig : Nat
  ing : Ingress
  granule : Nat
  data : WData
  ts : Nat
  deriving DecidableEq, Repr

/-- A pending barrier (R220). -/
structure Barrier where
  agent : Nat
  complete : Bool
  seq : Nat              -- acceptance number: it covers the writes of `agent` accepted before it
  src : BarrierSrc
  err : Bool := false
  deriving DecidableEq, Repr

/-- Writes of a requester sent to a peer that no completed WBAR covers yet (R221, R224). -/
structure SentMark where
  agent : Nat
  ing : Ingress
  link : Nat
  dst : Nat
  first : Nat            -- acceptance numbers of the first and the latest of them
  last : Nat
  deriving DecidableEq, Repr

/-- An open WBAR: one this device issued (`origin`), or one it relays for `from` (R166, R224). -/
structure Wbar where
  link : Nat
  entry : Nat
  dst : Nat
  last : Nat
  backLink : Option Nat := none
  backTag : Nat := 0
  orig : Nat := 0
  deriving DecidableEq, Repr

/-- A message received in TC1 on a link that waits for the posted writes which arrived there before it: INT_ASSERT, INT_DEASSERT or WBAR,
here or on its way onward (R164, R166, R296). -/
structure WaitMsg where
  link : Nat
  t : Transfer
  mark : Nat             -- acceptance number: writes of the link below it came before
  lost : Bool := false   -- the link has been DOWN since (R172)
  deriving DecidableEq, Repr

/-- A window stopped for a requester under STOP_ON_ERR (R76). -/
structure StopMark where
  agent : Nat
  ing : Ingress
  type : ErrType
  deriving DecidableEq, Repr

/-- A reservation (R228): the holder's requester number and identity, its granule, and for a peer its link. -/
structure Rsv where
  agent : Nat
  ident : Nat
  granule : Nat
  link : Option Nat := none
  setAt : Nat := 0
  deriving DecidableEq, Repr

/-- What WIN_RSV_STATUSn shows of a requester beside HELD (R86). -/
structure RsvInfo where
  agent : Nat
  held : Bool := false
  granule : Nat := 0
  csOk : Bool := false
  csSeq : Nat := 0
  ident : Nat := 0
  deriving DecidableEq, Repr

/-- A prefetched block (R236), in the order the blocks were filled. -/
structure PrefBlock where
  agent : Nat
  ing : Ingress
  ga : Nat
  data : List Byte
  left : List Nat          -- offsets not yet delivered
  zone : Option Nat        -- the zone, or none for host memory
  deriving DecidableEq, Repr

/-- A failed posted write of a Gazebo channel: the acceptance numbers it may have (a WBAR reports a range), and whether its descriptor has been
told (R315). -/
structure GzbFail where
  agent : Nat
  lo : Nat
  hi : Nat
  type : ErrType
  seen : Bool := false
  deriving DecidableEq, Repr

/-- The bridge fabric: requests in flight, held requests, combining buffers, barriers, reservations and prefetched data. -/
structure Fabric where
  nextSeq : Nat := 1
  reqs : List Req := []
  held : List Req := []
  cwb : List CwbLine := []
  barriers : List Barrier := []
  wbars : List Wbar := []
  wbarNeed : List (Nat × Nat) := []     -- WBARs waiting for a free barrier entry: link and device
  waitMsgs : List WaitMsg := []         -- received TC1 messages waiting behind earlier posted writes
  sent : List SentMark := []
  failed : List Nat := []       -- requesters with a failed write no barrier has reported (R223)
  peerFail : List (Nat × Nat × ErrType) := []  -- first failed posted write per link and ORIG_DEV (R166)
  gzbFail : List GzbFail := []
  stops : List StopMark := []
  rsv : List Rsv := []
  rsvInfo : List RsvInfo := []
  breaks : List Nat := []       -- requesters with a recorded break (R230)
  semLocks : List (Nat × Nat) := []   -- semaphore slot and the L-bus master whose locked sequence holds it (R232)
  semGranted : BitVec 16 := 0   -- slots held by a host claim (R235)
  pref : List PrefBlock := []
  winBarSeq : Nat := 0          -- barriers accepted at WIN_BARRIER (R85)
  lwBar : List (Nat × Nat × Bool × Bool) := []  -- per master: SEQ, DONE, ERR of its latest barrier (R81)
  deriving DecidableEq, Repr

/-- A device-issued read TLP outstanding at the host (R103, R104). -/
structure OutRead where
  ptag : Nat
  seq : Nat
  addr : Nat
  len : Nat
  pos : Nat
  data : Option (List Byte) := none
  deriving DecidableEq, Repr

/-- The host port beside its registers (R92, R106–R108). -/
structure HostPort where
  linkUp : Bool := false
  speed : Nat := 0
  width : Nat := 0
  perst : Bool := false
  bme : Bool := false
  msixEn : Bool := false
  msixFmask : Bool := false
  d3hot : Bool := false
  mps : Nat := 128
  mrrs : Nat := 512
  extTag : Bool := true
  tag10 : Bool := false
  cplTimeoutOff : Bool := false
  msix : Sparse 32 := []          -- the MSI-X table: word w of vector v at 4v + w (address low, address high, data)
  msixMask : BitVec 64 := BitVec.allOnes 64   -- the mask bits of the vector control words
  pending : BitVec 64 := 0        -- the pending-bit array
  reads : List OutRead := []
  flushes : List Nat := []        -- writes whose zero-length read is still to come (R70)
  msgs : List Nat := []           -- interrupt message cells on their way to P0, oldest first
  downLogged : List (Nat × Nat) := []   -- windows whose discards since the port went quiet are logged (R108)
  reconfig : Bool := false        -- a host-side event awaits the Lodge's re-application (R108)
  deriving DecidableEq, Repr

/-- One beat the Orangery drives: the word address and the L-bus byte addresses it enables (R196, R197). -/
structure Beat where
  bytes : List Nat
  deriving DecidableEq, Repr

/-- One L-bus cycle the Orangery drives (R115, R197). -/
structure BusCycle where
  write : Bool
  lock : Bool := false
  beats : List Beat
  deriving DecidableEq, Repr

/-- The zone request the Orangery is performing or has to re-issue (R126, R197, R198). -/
structure ZoneJob where
  seq : Nat
  zone : Nat
  cycles : List BusCycle
  map : List (Nat × Nat) := []      -- L-bus address and GA of every byte of the request (R191)
  paused : Bool := false            -- its next cycle waits for the bus
  got : List (Nat × Byte) := []     -- bytes read so far, by Pergola address
  locked : Bool := false
  wrote : Bool := false             -- the write phase of a locked sequence has begun
  parBad : Option (Nat × Nat) := none   -- first beat with a parity mismatch: lowest GA it carried, failing lanes
  beat : Nat := 0                   -- beats completed of the current cycle
  deriving DecidableEq, Repr

/-- What a slave cycle that holds a delayed-read slot does (R130). -/
inductive DrOp where
  | read | rsvLoad | flush | write | condStore | barrier
  deriving DecidableEq, Repr

/-- State of a delayed-read slot (R149). -/
inductive DrState where
  | waiting | held | stale
  deriving DecidableEq, Repr

/-- A delayed-read slot (R130, R149). -/
structure DrSlot where
  idx : Nat
  master : Nat
  lw : Nat
  addr : Word
  beN : BitVec 4
  burst : Bool
  beats : Nat
  locked : Bool
  op : DrOp
  data : Word
  seq : Nat
  tag : Nat
  state : DrState := .waiting
  status : Option ErrType := none
  csFail : Bool := false
  rdata : List Byte := []
  first : Nat := 0                  -- Pergola address of the first byte asked for
  allocVt : Nat
  deriving DecidableEq, Repr

/-- An external master's locked sequence (R124, R232). -/
structure LockSeq where
  master : Nat
  granule : Nat
  slot : Option Nat                 -- none once broken or ended by a violation
  deriving DecidableEq, Repr

/-- A change of an interrupt pin waiting to take effect (R298). -/
structure LirqChange where
  pin : Nat
  low : Bool
  mark : Nat                        -- acceptance number at its sampling instant
  deriving DecidableEq, Repr

/-- One LIRQ_N pin (R297, R298). -/
structure LirqPin where
  level : Bool := false             -- the level of source 8 + k: pin low, after R298
  sampled : Bool := false           -- last level the first stage captured (true: low)
  sampleMark : Nat := 0
  accepted : Bool := false          -- present debounced level
  acceptMark : Nat := 0
  queued : Bool := false            -- level last queued
  deriving DecidableEq, Repr

/-- The Orangery beside its registers. -/
structure Lbu where
  io3v3 : Bool := false
  clkGood : Nat := 0                -- consecutive good monitor windows, at most 10 (R142)
  clkOk : Bool := false
  lreset : Bool := true             -- LRESET_N held low (R140)
  owner : BusOwner := .orangery
  requests : List BusOwner := []    -- bus requests waiting, oldest first
  promoted : List BusOwner := []    -- those that have waited beyond AGE_PROMOTE
  guard : Bool := false             -- a timed cycle's guard window has begun
  locked : Option BusOwner := none  -- who holds LLOCK_N low
  zoneQ : List Nat := []            -- zone requests in acceptance order
  job : Option ZoneJob := none
  retried : List ZoneJob := []      -- requests whose cycle was retried, waiting for re-issue
  slots : List DrSlot := []
  cyc : Option (Nat × Nat) := none  -- a slave cycle held with LWAIT_N: master and slot
  wburst : Option (Nat × Nat × Bool) := none   -- a write burst in progress: master, LW of its first beat, first beat posted (R205)
  heldWrite : Option (SlaveCycle × Word) := none   -- a posted beat held for a PWB entry (R128)
  locks : List LockSeq := []
  pins : List LirqPin := List.replicate 8 {}
  lirqQ : List LirqChange := []
  draining : Bool := false          -- the reset drain of R290 runs
  deriving DecidableEq, Repr

/-- The states of an Itmos link (R189). -/
inductive LinkState where
  | off | train | hello | up | retrain | held | down
  deriving DecidableEq, Repr

/-- One direction of an Itmos link (R150, R152, R174): the physical lanes of logical lanes 0 and 1, the lane that carries single-lane mode,
whether a usable spare is left, and the map epoch. -/
structure LaneDir where
  lane0 : Nat := 0
  lane1 : Nat := 1
  single : Option Nat := none
  spareOk : Bool := true
  mapEpoch : Nat := 0
  deriving DecidableEq, Repr

/-- A message, frame or state record sent on a link and not yet acknowledged: the acceptance number before which writes were sent earlier, and
the generation its cells carried (R387). -/
structure LinkMsg where
  mark : Nat
  t : Transfer
  gen : Nat
  deriving DecidableEq, Repr

/-- One Itmos link beside its registers (R150–R190). -/
structure Link where
  state : LinkState := .off
  cause : Nat := 0
  peerTwin : Nat := 0
  trained : Bool := false           -- lanes locked; HELLO is exchanged
  rx : LaneDir := {}
  tx : LaneDir := {}
  peerDevid : Nat := 0
  epoch : Nat := 0
  peerEpoch : Nat := 0
  peerCredits : List Nat := []
  verdict : Nat := 0                -- the RESULT this side sends (R176)
  sentOk : Bool := false            -- has sent RESULT = 1 since training
  peerResult : Nat := 0
  fromUp : Bool := false            -- in RETRAIN: its epoch goes on
  rxAny : Bool := false             -- has accepted a sequenced flit of this epoch
  replays : Nat := 0                -- consecutive replays of the same oldest flit
  swapLane : Option Nat := none     -- LANE_SWAP being repeated for this logical lane
  swapTries : Nat := 0
  nakSent : Bool := false
  msgs : List LinkMsg := []         -- messages, frames and state records sent and not yet acknowledged
  delays : List Int := []           -- the last 16 valid link delays, units of 2^-16 ns
  delayReq : Option (Nat × Nat) := none   -- SEQID and t1 of the open DELAY_REQ
  timeSeq : Nat := 0
  deriving DecidableEq, Repr
/-- How the Orangery as slave answers a beat (R129): held with LWAIT_N, or terminated with the data it drives. -/
inductive SlaveAns where
  | hold
  | normal (data : List Word)
  | retry
  | busError
  | cfail
  deriving DecidableEq, Repr

/-- What the device sends out in one command, in order: TLPs, bus phases, flits, frames, firmware interrupts, console output. The list
is the model's own record of its outputs, emptied at each command. -/
inductive Emit where
  | hostCpl (rid ptag : Nat) (status : CplStatus) (byteCount lower : Nat) (data : List Byte)
  | hostWr (addr : Nat) (data : List Byte) (noSnoop : Bool)
  | hostRd (ptag addr len : Nat) (noSnoop : Bool)
  | cfgAnswer (v : Word)
  | cfgCrs
  | msix (vec : Nat) (addrHi addrLo data : Word)
  | busAddr (addr : Nat) (beN lpar : Nat) (burst write lock : Bool) (cs : Nat)
  | busData (lad : Nat) (beN : Nat) (lpar : Nat)
  | slave (a : SlaveAns)
  | grant (o : BusOwner)
  | itm (link : Nat) (t : Transfer)
  | hello (link : Nat) (h : Hello)
  | linkFlit (link sub arg : Nat)
  | timeFlit (link sub seqid tx rx : Nat)     -- stamps in 2^-16 ns (R181)
  | sync (link seqid tx rate source steps gm : Nat)
  | tio (pin : Nat) (level : Bool) (vt : Nat)
  | replay (link : Nat)
  | nak (link : Nat)
  | fwAnswer (agent : Nat) (status : Option ErrType) (csFail : Bool) (data : List Byte)
  | fwIrq (core : Nat) (source : Nat)
  | word (w : Word)
  | can (ch : Nat) (record data : List Byte)            -- a frame on a CAN bus
  | linHeader (ch id : Nat)
  | linResponse (ch id : Nat) (enhanced : Bool) (data : List Byte)
  | eth (mac : Nat) (data : List Byte) (stomp : Bool)   -- a frame on a MAC; `stomp`: ended with the complemented FCS
  | gptp (mac : Nat) (data : List Byte) (vt frac : Nat) -- a received gPTP frame to the Arcade
  | pwrEn (item : Nat) (on : Bool)                      -- PWR_EN[0–7] and the internal switches
  | text (line : String)                                -- a line the Kiosk prints
  deriving DecidableEq, Repr


/-- A frame on its way through the frame path: the header of R329, data, trailer (R330) and the cell fields that travel with it. -/
structure Frame where
  kind : Nat                      -- 1 CAN, 2 LIN, 3 Ethernet
  src : Nat                       -- SRC_CH
  data : List Byte
  group : Nat := 0
  critical : Bool := false
  authOk : Bool := false
  authFail : Bool := false
  yellow : Bool := false
  pdu : Bool := false
  tunnelled : Bool := false
  dropped : Bool := false
  eq : Option Nat := none
  sof : Nat := 0
  sofFrac : Nat := 0
  fmeta : List Byte := List.replicate 12 0
  dmask : Nat := 0
  status : Nat := 0
  eofDelta : Nat := 0
  ts : Nat := 0
  orig : Nat := 0
  gen : Nat := 0                  -- generation of the action applied to it (R16)
  maxAge : Nat := 0               -- MAX_AGE of that action, ns; 0: none
  more : List Nat := []           -- generations of further frames it carries (a tunnel's, R349)
  deriving DecidableEq, Repr

/-- A CAN transmit buffer that holds a frame (R336, R337). -/
structure CanBuf where
  frame : Frame
  pending : Bool := true          -- a timed buffer is pending from its release to its sending
  deriving DecidableEq, Repr

/-- A CAN channel beside its registers (R333–R339). -/
structure CanCh where
  bufs : List (Nat × CanBuf) := []   -- by rising buffer number
  offer : Option Nat := none      -- the buffer whose frame is offered on the bus
  busOff : Bool := false
  sync : Bool := false
  txErr : Nat := 0
  rxErr : Nat := 0
  deriving DecidableEq, Repr

/-- A LIN channel beside its registers (R340). -/
structure LinCh where
  active : Bool := false
  pos : Nat := 0
  header : Option Nat := none     -- the frame ID of the header on the bus that waits for its response
  domStuck : Bool := false
  deriving DecidableEq, Repr

/-- A queue of a MAC under the credit-based shaper (R345): its credit in millionths of a bit and when it was brought up to date. -/
structure Shaper where
  credit : Int := 0
  since : Nat := 0
  deriving DecidableEq, Repr

/-- A MAC beside its registers (R341–R345). -/
structure Mac where
  link : Bool := false
  speedErr : Bool := false
  queue : List (Nat × Frame) := []    -- queue number and frame, oldest first
  gates : Nat := 255                  -- gates open now, bit q for queue q
  tasRun : Bool := false
  busyTo : Nat := 0                   -- VT at which the running transmission ends
  shapers : List Shaper := List.replicate 8 {}
  deriving DecidableEq, Repr

/-- A tunnel beside its registers (R349, R350). -/
structure Tunnel where
  msgs : List (List Byte) := []       -- ACF messages queued
  since : Nat := 0                    -- VT at which the first of them was queued
  gens : List Nat := []               -- generations of the frames they carry
  txSeq : Nat := 0
  rxSeq : Option Nat := none          -- sequence_num of the last AVTP frame received
  deriving DecidableEq, Repr

/-- Where a received frame is before it is forwarded (R346): its keys wait on the lookup bus, its action has returned, or it is at the
Gatehouse for stage 4. -/
inductive FrameStage where
  | lookup | ready | verify
  deriving DecidableEq, Repr

/-- A frame in its ingress path (R346), or a PDU send at the Gatehouse (R405). -/
structure InFrame where
  id : Nat
  chan : Nat                      -- the ingress channel whose order it keeps (R332): egress number, tunnel code, or 112 + link
  port : Nat                      -- the Pergola input it enters by
  frame : Frame
  stage : FrameStage := .lookup
  hit : Nat := 0                  -- TYPE of the entry that matched; 0: a miss
  action : Nat := 0               -- its 112-bit action
  left : Nat := 0                 -- SIGNAL lookups still to return
  sigs : List (Nat × Nat) := []   -- ORD and action of the SIGNAL entries found
  blocks : Nat := 0               -- pool blocks it holds in its Pavilion (R335)
  pdu : Option Nat := none        -- the PDU of a send that waits to be signed
  deriving DecidableEq, Repr

/-- A key on the lookup bus (R373, R374). -/
structure LookupKey where
  id : Nat                        -- the frame
  ord : Option Nat                -- ORD of a SIGNAL key
  chan : Nat
  key : List Byte
  alt : Option (List Byte) := none    -- the ETH_L2 key that follows a STREAM miss (R342)
  deriving DecidableEq, Repr

/-- A parked lookup (R384) and when it first parked. -/
structure ParkedKey where
  key : LookupKey
  since : Nat
  deriving DecidableEq, Repr

/-- A frame transfer in the Pergola (R347, R354): the egresses of its output port it is still to reach, and the cells it holds at its input. -/
structure Xfer where
  id : Nat
  frame : Frame
  inPort : Nat
  outPort : Nat
  cls : Nat
  left : List Nat
  cells : Nat
  secured : Option Nat := none    -- bound for P12, to be protected for this MAC (R411)
  lost : Nat := 0                 -- its cells lost in a disabled plane (R360)
  lostPlane : Nat := 0
  promoted : Bool := false
  deriving DecidableEq, Repr

/-- A received frame that crosses to P12 for MACsec (R411). -/
structure SecFrame where
  mac : Nat
  data : List Byte
  sof : Nat
  frac : Nat
  ts : Nat
  eofDelta : Nat
  deriving DecidableEq, Repr

/-- A capture record whose writes are not all performed (R348): its number, ring and slots. -/
structure CapRec where
  id : Nat
  ring : Nat
  slots : Nat
  gen : Nat
  deriving DecidableEq, Repr

/-- A PDU beside its descriptor and image (R353): a triggered send marked, a send waiting for MIN_GAP, and the VT of its last send. -/
structure PduSt where
  n : Nat
  trig : Bool := false
  wait : Bool := false
  last : Option Nat := none
  deriving DecidableEq, Repr

/-- The frame path: frames in ingress, the lookup bus, the park queue, transfers in the Pergola, capture records and PDUs. -/
structure FramePath where
  nextId : Nat := 0
  ins : List InFrame := []
  keys : List LookupKey := []
  parked : List ParkedKey := []
  xfers : List Xfer := []
  sec : List SecFrame := []
  caps : List CapRec := []
  pdus : List PduSt := []
  deriving DecidableEq, Repr

/-- The Trellis beside its registers and its table in DRAM (R365–R393). -/
structure Trl where
  active : Nat := 0               -- the active area
  cmd : Option (Nat × Bool) := none   -- the running command: OP and TABLE
  fifo : List (List Byte) := []   -- the rehash request FIFO, 32 bytes each
  ptr : Nat := 0                  -- the rotating slot pointer of the cuckoo search
  sweep : Nat := 0                -- the bucket the sweeper visits next
  deriving DecidableEq, Repr

/-- A key-store slot that is not empty (R407). -/
structure KeySlot where
  slot : Nat
  use : Nat
  key : List Byte
  version : Nat
  deriving DecidableEq, Repr

/-- The buckets of a meter (R395), in 1/256 token, and the VT of its previous operation. -/
structure MeterTok where
  m : Nat
  c : Nat
  e : Nat
  since : Nat
  deriving DecidableEq, Repr

/-- The tokens of a flood guard (R397) and the SOF_VT its next gain counts from. -/
structure GuardTok where
  g : Nat
  tokens : Nat
  since : Nat
  deriving DecidableEq, Repr

/-- The Gatehouse and the meter unit beside their registers and tables (R394–R412). -/
structure Gth where
  slots : List KeySlot := []      -- by rising slot
  fails : List (List Byte) := []  -- the failure FIFO, 16 bytes each
  keyOp : Option Nat := none      -- the running key-store operation's RESULT
  meters : List MeterTok := []
  guards : List GuardTok := []
  deriving DecidableEq, Repr

/-- The Wicket's modes (R416, R422). -/
inductive WktMode where
  | run | standby | sleep | entering
  deriving DecidableEq, Repr

/-- A power item of the Wicket (R417): it is on, ready or wanted, and when it was started. -/
structure Item where
  on : Bool := true
  ready : Bool := true
  wanted : Bool := true
  since : Nat := 0
  waited : Bool := false          -- counted in WKT_BUDGET_WAIT since it was wanted
  deriving DecidableEq, Repr

/-- The Wicket beside its registers (R413–R422). -/
structure Wkt where
  mode : WktMode := .run
  target : WktMode := .run        -- the mode being entered
  lastEntry : Nat := 0
  events : List (List Byte) := [] -- the event FIFO, 16 bytes each
  items : List Item := List.replicate 16 {}
  starts : List (Nat × Nat) := [] -- starts in the last 100 µs: time and cost
  vtLost : Bool := false          -- the Belvedere's item has been off since the last start, so VT is lost (R240)
  entered : Option Nat := none    -- AON ticks at the entry into STANDBY or SLEEP, until the wake timer has fired
  xtalOk : Bool := true
  now : Nat := 0                  -- the Wicket's own time, ns
  acc : Nat := 0                  -- fraction of an AON tick
  deriving DecidableEq, Repr

/-- DEP_TWIN_STATUS.STATE (R437). -/
inductive TwinState where
  | none | starting | active | syncing | standby | unsync | failed
  deriving DecidableEq, Repr

/-- An entry of the standby's mirror (R440, R445): PATH and entry index, the write and what is known of it. -/
structure MirrorEntry where
  path : Nat
  idx : Nat
  agent : Nat
  orig : Nat
  win : Nat
  ga : Nat
  data : WData
  started : Bool := false
  deriving DecidableEq, Repr

/-- The twin unit (R436–R447). -/
structure Twin where
  en : Bool := false                 -- TWIN_EN and PREFER as they took effect at the last start (R460)
  prefer : Bool := false
  state : TwinState := .none
  prot : Bool := false               -- PROTECTED
  peerAct : Bool := false            -- filtered TWIN_PEER_ACT
  peerUnfit : Bool := false          -- the peer pulls TWIN_FAIL_N low
  lastCause : Nat := 15
  planned : Bool := false
  streaming : Bool := false          -- this ACTIVE device sends the state stream
  sendSeq : Nat := 0
  recvSeq : Nat := 0                 -- the next record number expected
  recvAny : Bool := false            -- a record of this stream has been received
  tieRound : Option Nat := none
  handover : Bool := false           -- the drain of a planned handover runs
  mirror : List MirrorEntry := []
  executed : List (Nat × Nat) := []  -- slot and event number the active twin reported EXECUTED
  replayLog : List (List Byte) := [] -- DEP_TWIN_REPLAY_LOG, 32 bytes each
  deriving DecidableEq, Repr

/-- A wear-tracker entry (R453): memory code, location (a word, or a 2 KiB row of the DRAM), the bit column of its latest correction,
corrections counted and the VT of the first. -/
structure Wear where
  memory : Nat
  loc : Nat
  col : Nat
  count : Nat
  vt : Nat
  deriving DecidableEq, Repr

/-- A spare in use (R449, R455): kind, unit and spare index. -/
structure SpareUse where
  kind : Nat
  unit : Nat
  spare : Nat
  deriving DecidableEq, Repr

/-- The dependability block beside its registers (R426–R463). -/
structure Dep where
  lockstep : Bool := false
  clockBad : Bool := false
  supplyBad : Bool := false
  arcadeMissing : Bool := false
  dramPhy : Bool := false
  exhausted : Bool := false          -- a faulted unit or location has no spare left
  planeOk : Nat := 3                 -- PGL_STATUS.PLANE_OK (R360)
  mapUsed : Nat := 0                 -- entries of DEP_SPARE_MAP written
  unitFaults : List (Nat × Nat) := []   -- kind and unit whose FAULT bit is 1 (R431)
  spares : List SpareUse := []
  dramFree : Nat := 0
  wear : List Wear := []
  safe : Bool := false               -- the safe state (R434)
  notes : List (List Byte) := []     -- the note FIFO, 32 bytes each (R457)
  scrubbed : List Nat := []          -- uncorrectable words the scrubber has logged
  deriving DecidableEq, Repr
/-- A read of the Gazebo in flight (R313): its number, channel, KIND of R325 (0 fetch, 1 index, 2 data, 3 reserved load or conditional store),
descriptor index, stream position and length. -/
structure GzbRead where
  id : Nat
  ch : Nat
  kind : Nat
  idx : Nat
  pos : Nat
  len : Nat
  deriving DecidableEq, Repr

/-- A descriptor in processing (R308–R318). -/
structure GzbDesc where
  idx : Nat                        -- index, modulo 65,536
  raw : Nat                        -- its 32 bytes as one number
  lo : Nat                         -- acceptance number when it began; its writes lie from here on
  rpos : Nat := 0                  -- data bytes asked for
  inpos : Nat := 0                 -- data bytes returned in order
  wpos : Nat := 0                  -- data bytes whose writes are issued
  parts : List (Nat × List Byte) := []   -- returned pieces ahead of `inpos`
  data : List Byte := []           -- bytes read and not yet written
  offs : List Nat := []            -- index-table offsets fetched
  idxAsked : Nat := 0
  crc : Nat := 0                   -- running CRC of this descriptor
  appended : Bool := false
  stored : Bool := false           -- COND_ST: its store is issued
  storeDone : Bool := false
  csFail : Bool := false
  ihHi : Option Nat := none        -- acceptance number when the first half of its writes was accepted
  ihDone : Bool := false
  hi : Option Nat := none          -- acceptance number when all its writes were accepted
  bar : Nat := 0                   -- its BF barrier: 0 not issued, 1 pending, 2 done
  err : Option ErrType := none
  noData : Bool := false           -- it failed its check or is skipped: DONE is 0
  wb : Option (Nat × Option Nat) := none   -- its write-back is issued: acceptance numbers before and after
  deriving DecidableEq, Repr

/-- A Gazebo channel beside its registers (R305, R307, R320). -/
structure GzbChan where
  fetched : List (Nat × Nat) := []  -- descriptors fetched ahead, by index
  work : List GzbDesc := []         -- descriptors in processing, in ring order
  ownWait : Bool := false
  crcAlg : Nat := 0
  held : Bool := false              -- stopped by HOLD
  stopped : Bool := false           -- stopped by another cause
  cause : Nat := 0                  -- STOP_CAUSE
  pend : Nat := 0                   -- a cause that acts at the next boundary
  off : Bool := true                -- the channel is OFF
  skipNext : Bool := false          -- the next descriptor is skipped (R322)
  lastRaw : Option (Nat × Nat) := none   -- the interrupted descriptor at CI, kept by a halt
  tails : List (Nat × Nat) := []    -- writes of handed-back IH descriptors still watched (R315)
  deriving DecidableEq, Repr

/-- The Gazebo beside its registers (R303–R323). -/
structure Gzb where
  chans : List GzbChan := List.replicate 16 {}
  running : Option Nat := none
  runDone : Nat := 0                -- descriptors started in this run
  served : List Nat := [15, 15, 15, 15]  -- the channel last served in each priority
  halted : BitVec 16 := 0           -- CH_HALTED
  draining : Bool := false
  restart : Option (BitVec 16 × Bool) := none   -- a restart commit held while DRAINING = 1
  reads : List GzbRead := []
  nextId : Nat := 0
  deriving DecidableEq, Repr


/-- A mailbox command accepted and not finished (R498): its code, its owner, its parameter block and the SRAM address of that block. -/
structure MbxCmd where
  cmd : Nat
  owner : Nat
  addr : Nat
  params : List Byte
  late : Bool := false            -- it arrived while an erasure ran (R491)
  deriving DecidableEq, Repr

/-- A start-up that waits for DRAM training (R467, R472): the header's flash offset and the slot whose firmware runs. -/
structure Boot where
  hdr : Nat
  fwSlot : Nat
  deriving DecidableEq, Repr

/-- An entry of the Arcade access table (R493). -/
structure AccessEntry where
  lo : Nat
  hi : Nat
  read : Bool
  write : Bool
  remote : Bool
  deriving DecidableEq, Repr

/-- Why the Lodge runs start-up (R464). -/
inductive StartKind where
  | powerOn | restart | standbyWake | warm
  deriving DecidableEq, Repr

/-- The Lodge beside its registers: the flash, start-up, the mailbox, the Arcade and the Kiosk (R464–R506). -/
structure Lodge where
  flash : Sparse 8 := []          -- the flash by offset, every byte complemented: an unlisted byte is erased, 0xFF
  straps : Nat := 0               -- BOOT_MODE[1:0] as the board drives it (R468)
  boot : Option Boot := none
  recovery : Bool := false
  config : List Byte := []        -- the applied CONFIG section (R497)
  access : Option (List AccessEntry) := none   -- the ACCESS records' entries; none: the default table
  svcSlot : Option Nat := none    -- SERVICE_SLOT where SVC_VALID = 1 (R502)
  mbx : Option MbxCmd := none
  mbxIe : Bool := false           -- IE of the latest command
  erasing : Bool := false         -- restore-factory runs (R491)
  eraseWait : Bool := false       -- an erasure waits for a CAL_WRITE to end
  warm : Bool := false            -- the drain of a warm reset runs (R290, R465)
  resetBlocks : List Nat := []    -- blocks whose reset waits for the drain
  remaps : List (Nat × Nat) := [] -- kind and unit of the memory remaps kept in the flash's user area (R451)
  restarts : List Nat := []       -- VT of the Arcade's latest restarts (R494)
  challenge : Option Nat := none  -- the Kiosk's latest challenge (R502)
  wrong : Nat := 0
  itmLat : List Nat := List.replicate 5 0xC80   -- TIME flit path latency of each link, 1/16 ns (R180, R489)
  lbusTap : List Nat := List.replicate 64 16    -- L-bus input sampling delays (R489)
  tempTrim : List Byte := [0, 0, 0, 0, 0, 0x10, 0, 0]   -- temperature sensor offset and slope (R489)
  ptpLat : List Nat := List.replicate 15 0      -- the calibrated reset values of BLV_PTP0_LAT–BLV_PTP14_LAT (R489)
  brownout : Option Nat := none   -- the always-on brown-out record (R291)
  deriving DecidableEq, Repr
/-- The servo states (R244). -/
inductive ServoState where
  | free | acquire | locked | holdover
  deriving DecidableEq, Repr

/-- An armed scheduler slot (R254): its next event number, how many events are left to it, and the reference instant of ORDER (R260). -/
structure ArmedSlot where
  slot : Nat
  next : Nat := 0
  ref : Nat
  deriving DecidableEq, Repr

/-- A dispatched event (R258): the slot's 32 bytes as one number, event number, due time, and how far it is. -/
structure BlvEvent where
  slot : Nat
  img : Nat
  n : Nat
  due : Nat
  ref : Nat
  id : Nat := 0                   -- its dispatch number
  issued : Bool := false          -- its access has started
  execVt : Nat := 0
  late : Int := 0                 -- by how much it began after it was due, ns
  deriving DecidableEq, Repr

/-- A TIO pin as output (R263): its level, the last edge and a pending return edge. -/
structure TioPin where
  level : Bool := false
  lastEdge : Option Nat := none
  returnAt : Option (Nat × Bool) := none
  lastCap : Option Nat := none
  ovr : Bool := false             -- a capture of the pin was lost (R268)
  deriving DecidableEq, Repr

/-- The vehicle-time unit beside its registers (R239–R277). -/
structure Blv where
  vt : Nat := 0                   -- VT, 64-bit ns (R239)
  acc : Nat := 0                  -- its fraction, units of 2^-48 ns
  ctrFault : Bool := false        -- CTR_FAULT (R241)
  ctrInvalid : Bool := false      -- VT_VALID is 0 because of the counter pair
  servo : ServoState := .free
  use : Option BlvSource := none  -- the source in use
  priOk : Bool := false           -- the primary, the secondary and the ACTIVE twin are valid as sources (R243, R249)
  secOk : Bool := false
  twinOk : Bool := false
  steps : Nat := 0
  gm : Nat := 0
  inLock : Nat := 0               -- consecutive updates at or below the lock threshold
  outLock : Nat := 0              -- consecutive updates above four times the threshold
  everLocked : Bool := false      -- has been LOCKED since VT started
  firstUpd : Bool := false        -- the next update is the first in ACQUIRE
  alarm : Bool := false           -- OFFSET_ALARM (R247)
  holdExc : Bool := false         -- HOLD_EXCEEDED (R244)
  rates : List Int := []          -- servo rates of the last 16 updates
  slew : Int := 0                 -- pending slew, units of 2^-32 ns
  armed : List ArmedSlot := []
  events : List BlvEvent := []    -- dispatched events, in dispatch order
  nextId : Nat := 0
  res : List (List Byte) := []    -- the result FIFO, 32 bytes each (R262)
  caps : List (List Byte) := []   -- the capture FIFO, 16 bytes each (R268)
  txts : List (List Byte) := []   -- the transmit-timestamp FIFO, 16 bytes each (R251)
  pins : List TioPin := List.replicate 48 {}
  trimIn : Sparse 32 := []        -- the pins' input trims, signed, units of 1/16 ns (R268, R270, R489)
  trimOut : Sparse 32 := []
  deriving DecidableEq, Repr

/-- The interrupt block beside its registers: the remote bits of R296, each as node and source. -/
structure IntBlock where
  remote : List (Nat × Nat) := []
  deriving DecidableEq, Repr

/-- The whole device. -/
structure Dev where
  regs : Sparse 32
  mem : Sparse 8 := []
  bad : List Nat := []            -- 8-byte words holding an uncorrectable code, by local address (R427)
  hub : Hub := {}
  elog : ErrLog := {}
  fab : Fabric := {}
  hp : HostPort := {}
  lbu : Lbu := {}
  itm : List Link := List.replicate 5 {}
  intb : IntBlock := {}
  can : List CanCh := List.replicate 64 {}
  lin : List LinCh := List.replicate 32 {}
  mac : List Mac := List.replicate 15 {}
  tun : List Tunnel := List.replicate 4 {}
  frm : FramePath := {}
  trl : Trl := {}
  gth : Gth := {}
  wkt : Wkt := {}
  dep : Dep := {}
  twin : Twin := {}
  gzb : Gzb := {}
  blv : Blv := {}
  ldg : Lodge := {}
  fresh : Nat := 0                -- the model's own counter of free values taken
  out : List Emit := []           -- the model's own record of what the last command sent out
  deriving DecidableEq, Repr

/-- Why the block stops with a fault: it never does, since the spec gives every command of the table its effect. -/
inductive Fault where
  deriving DecidableEq, Repr

/-- Why the block refuses a command. -/
inductive Refusal where
  /-- No meaning is written for the command yet; raised only by a refused arm of exec; safe, since the block then does nothing. -/
  | notModelled (mnemonic : String)
  deriving DecidableEq, Repr

/-- The state of the block: the commands waiting, first in, first out, and the device. -/
structure State where
  pending : List Instr
  dev : Dev
  deriving DecidableEq, Repr

/-- Registers whose reset value is not zero, part 1 (R7). -/
def resetRegs0 : Sparse 32 := [
  (0x0, 0x9640B020),
  (0x100004, 0x1B),
  (0x100008, 0x50),
  (0x10000C, 0x100),
  (0x100010, 0x1F4C),
  (0x200000, 0x30),
  (0x200008, 0xA14),
  (0x200020, 0x3E8),
  (0x200024, 0x3E8),
  (0x200028, 0x3E8),
  (0x20002C, 0x3E8),
  (0x200030, 0x3E8),
  (0x200034, 0x3E8),
  (0x200038, 0x3E8),
  (0x20003C, 0x3E8),
  (0x300004, 0x1),
  (0x400000, 0x3C00),
  (0x400100, 0x380),
  (0x40010C, 0x163),
  (0x400110, 0x10),
  (0x400140, 0x380),
  (0x40014C, 0x163),
  (0x400150, 0x10),
  (0x400180, 0x380)]
/-- Registers whose reset value is not zero, part 2 (R7). -/
def resetRegs1 : Sparse 32 := [
  (0x40018C, 0x163),
  (0x400190, 0x10),
  (0x4001C0, 0x380),
  (0x4001CC, 0x163),
  (0x4001D0, 0x10),
  (0x400200, 0x380),
  (0x40020C, 0x163),
  (0x400210, 0x10),
  (0x440000, 0x5),
  (0x440004, 0x5),
  (0x440008, 0x5),
  (0x44000C, 0x5),
  (0x440010, 0x5),
  (0x440014, 0x5),
  (0x440018, 0x5),
  (0x44001C, 0x5),
  (0x440020, 0x5),
  (0x440024, 0x5),
  (0x440028, 0x5),
  (0x44002C, 0x5),
  (0x440030, 0x5),
  (0x440034, 0x5),
  (0x440038, 0x5),
  (0x44003C, 0x5)]
/-- Registers whose reset value is not zero, part 3 (R7). -/
def resetRegs2 : Sparse 32 := [
  (0x440040, 0x5),
  (0x440044, 0x5),
  (0x440048, 0x5),
  (0x44004C, 0x5),
  (0x440050, 0x5),
  (0x440054, 0x5),
  (0x440058, 0x5),
  (0x44005C, 0x5),
  (0x440060, 0x5),
  (0x440064, 0x5),
  (0x440068, 0x5),
  (0x44006C, 0x5),
  (0x440070, 0x5),
  (0x440074, 0x5),
  (0x440078, 0x5),
  (0x44007C, 0x5),
  (0x440080, 0x5),
  (0x440084, 0x5),
  (0x440088, 0x5),
  (0x44008C, 0x5),
  (0x440090, 0x5),
  (0x440094, 0x5),
  (0x440098, 0x5),
  (0x44009C, 0x5)]
/-- Registers whose reset value is not zero, part 4 (R7). -/
def resetRegs3 : Sparse 32 := [
  (0x4400A0, 0x5),
  (0x4400A4, 0x5),
  (0x4400A8, 0x5),
  (0x4400AC, 0x5),
  (0x4400B0, 0x5),
  (0x4400B4, 0x5),
  (0x4400B8, 0x5),
  (0x4400BC, 0x5),
  (0x4400C0, 0x5),
  (0x4400C4, 0x5),
  (0x4400C8, 0x5),
  (0x4400CC, 0x5),
  (0x4400D0, 0x5),
  (0x4400D4, 0x5),
  (0x4400D8, 0x5),
  (0x4400DC, 0x5),
  (0x4400E0, 0x5),
  (0x4400E4, 0x5),
  (0x4400E8, 0x5),
  (0x4400EC, 0x5),
  (0x4400F0, 0x5),
  (0x4400F4, 0x5),
  (0x4400F8, 0x5),
  (0x4400FC, 0x5)]
/-- Registers whose reset value is not zero, part 5 (R7). -/
def resetRegs4 : Sparse 32 := [
  (0x500000, 0x2803),
  (0x500004, 0x3),
  (0x500008, 0x22222222),
  (0x50000C, 0x800),
  (0x500108, 0xC),
  (0x500128, 0xC),
  (0x500148, 0xC),
  (0x500168, 0xC),
  (0x500188, 0xC),
  (0x5001A8, 0xC),
  (0x5001C8, 0xC),
  (0x5001E8, 0xC),
  (0x501004, 0x8424),
  (0x501008, 0x124),
  (0x501044, 0x8424),
  (0x501048, 0x124),
  (0x501084, 0x8424),
  (0x501088, 0x124),
  (0x5010C4, 0x8424),
  (0x5010C8, 0x124),
  (0x501104, 0x8424),
  (0x501108, 0x124),
  (0x501144, 0x8424),
  (0x501148, 0x124)]
/-- Registers whose reset value is not zero, part 6 (R7). -/
def resetRegs5 : Sparse 32 := [
  (0x501184, 0x8424),
  (0x501188, 0x124),
  (0x5011C4, 0x8424),
  (0x5011C8, 0x124),
  (0x501204, 0x8424),
  (0x501208, 0x124),
  (0x501244, 0x8424),
  (0x501248, 0x124),
  (0x501284, 0x8424),
  (0x501288, 0x124),
  (0x5012C4, 0x8424),
  (0x5012C8, 0x124),
  (0x501304, 0x8424),
  (0x501308, 0x124),
  (0x501344, 0x8424),
  (0x501348, 0x124),
  (0x501384, 0x8424),
  (0x501388, 0x124),
  (0x5013C4, 0x8424),
  (0x5013C8, 0x124),
  (0x600010, 0x12C),
  (0x600014, 0x32),
  (0x600024, 0x100),
  (0x600048, 0xA)]
/-- Registers whose reset value is not zero, part 7 (R7). -/
def resetRegs6 : Sparse 32 := [
  (0x600068, 0xA),
  (0x600088, 0x14),
  (0x701000, 0x6C),
  (0x701040, 0x6C),
  (0x701080, 0x6C),
  (0x7010C0, 0x6C),
  (0x701100, 0x6C),
  (0x701140, 0x6C),
  (0x701180, 0x6C),
  (0x7011C0, 0x6C),
  (0x701200, 0x6C),
  (0x701240, 0x6C),
  (0x701280, 0x6C),
  (0x7012C0, 0x6C),
  (0x701300, 0x6C),
  (0x701340, 0x6C),
  (0x800008, 0x324644A),
  (0x80000C, 0x140A),
  (0xA00000, 0xE00000),
  (0xA00100, 0x50),
  (0xA00104, 0x1F1F7E00),
  (0xA00108, 0x9091C00),
  (0xA0010C, 0x1010400),
  (0xA00110, 0x100)]
/-- Registers whose reset value is not zero, part 8 (R7). -/
def resetRegs7 : Sparse 32 := [
  (0xA00180, 0x50),
  (0xA00184, 0x1F1F7E00),
  (0xA00188, 0x9091C00),
  (0xA0018C, 0x1010400),
  (0xA00190, 0x100),
  (0xA00200, 0x50),
  (0xA00204, 0x1F1F7E00),
  (0xA00208, 0x9091C00),
  (0xA0020C, 0x1010400),
  (0xA00210, 0x100),
  (0xA00280, 0x50),
  (0xA00284, 0x1F1F7E00),
  (0xA00288, 0x9091C00),
  (0xA0028C, 0x1010400),
  (0xA00290, 0x100),
  (0xA00300, 0x50),
  (0xA00304, 0x1F1F7E00),
  (0xA00308, 0x9091C00),
  (0xA0030C, 0x1010400),
  (0xA00310, 0x100),
  (0xA00380, 0x50),
  (0xA00384, 0x1F1F7E00),
  (0xA00388, 0x9091C00),
  (0xA0038C, 0x1010400)]
/-- Registers whose reset value is not zero, part 9 (R7). -/
def resetRegs8 : Sparse 32 := [
  (0xA00390, 0x100),
  (0xA00400, 0x50),
  (0xA00404, 0x1F1F7E00),
  (0xA00408, 0x9091C00),
  (0xA0040C, 0x1010400),
  (0xA00410, 0x100),
  (0xA00480, 0x50),
  (0xA00484, 0x1F1F7E00),
  (0xA00488, 0x9091C00),
  (0xA0048C, 0x1010400),
  (0xA00490, 0x100),
  (0xA00800, 0x4B000000),
  (0xA00804, 0x1),
  (0xA00840, 0x4B000000),
  (0xA00844, 0x1),
  (0xA00880, 0x4B000000),
  (0xA00884, 0x1),
  (0xA008C0, 0x4B000000),
  (0xA008C4, 0x1),
  (0xA10000, 0xE00000),
  (0xA10100, 0x50),
  (0xA10104, 0x1F1F7E00),
  (0xA10108, 0x9091C00),
  (0xA1010C, 0x1010400)]
/-- Registers whose reset value is not zero, part 10 (R7). -/
def resetRegs9 : Sparse 32 := [
  (0xA10110, 0x100),
  (0xA10180, 0x50),
  (0xA10184, 0x1F1F7E00),
  (0xA10188, 0x9091C00),
  (0xA1018C, 0x1010400),
  (0xA10190, 0x100),
  (0xA10200, 0x50),
  (0xA10204, 0x1F1F7E00),
  (0xA10208, 0x9091C00),
  (0xA1020C, 0x1010400),
  (0xA10210, 0x100),
  (0xA10280, 0x50),
  (0xA10284, 0x1F1F7E00),
  (0xA10288, 0x9091C00),
  (0xA1028C, 0x1010400),
  (0xA10290, 0x100),
  (0xA10300, 0x50),
  (0xA10304, 0x1F1F7E00),
  (0xA10308, 0x9091C00),
  (0xA1030C, 0x1010400),
  (0xA10310, 0x100),
  (0xA10380, 0x50),
  (0xA10384, 0x1F1F7E00),
  (0xA10388, 0x9091C00)]
/-- Registers whose reset value is not zero, part 11 (R7). -/
def resetRegs10 : Sparse 32 := [
  (0xA1038C, 0x1010400),
  (0xA10390, 0x100),
  (0xA10400, 0x50),
  (0xA10404, 0x1F1F7E00),
  (0xA10408, 0x9091C00),
  (0xA1040C, 0x1010400),
  (0xA10410, 0x100),
  (0xA10480, 0x50),
  (0xA10484, 0x1F1F7E00),
  (0xA10488, 0x9091C00),
  (0xA1048C, 0x1010400),
  (0xA10490, 0x100),
  (0xA10800, 0x4B000000),
  (0xA10804, 0x1),
  (0xA10840, 0x4B000000),
  (0xA10844, 0x1),
  (0xA10880, 0x4B000000),
  (0xA10884, 0x1),
  (0xA108C0, 0x4B000000),
  (0xA108C4, 0x1),
  (0xA20000, 0xE00000),
  (0xA20100, 0x50),
  (0xA20104, 0x1F1F7E00),
  (0xA20108, 0x9091C00)]
/-- Registers whose reset value is not zero, part 12 (R7). -/
def resetRegs11 : Sparse 32 := [
  (0xA2010C, 0x1010400),
  (0xA20110, 0x100),
  (0xA20180, 0x50),
  (0xA20184, 0x1F1F7E00),
  (0xA20188, 0x9091C00),
  (0xA2018C, 0x1010400),
  (0xA20190, 0x100),
  (0xA20200, 0x50),
  (0xA20204, 0x1F1F7E00),
  (0xA20208, 0x9091C00),
  (0xA2020C, 0x1010400),
  (0xA20210, 0x100),
  (0xA20280, 0x50),
  (0xA20284, 0x1F1F7E00),
  (0xA20288, 0x9091C00),
  (0xA2028C, 0x1010400),
  (0xA20290, 0x100),
  (0xA20300, 0x50),
  (0xA20304, 0x1F1F7E00),
  (0xA20308, 0x9091C00),
  (0xA2030C, 0x1010400),
  (0xA20310, 0x100),
  (0xA20380, 0x50),
  (0xA20384, 0x1F1F7E00)]
/-- Registers whose reset value is not zero, part 13 (R7). -/
def resetRegs12 : Sparse 32 := [
  (0xA20388, 0x9091C00),
  (0xA2038C, 0x1010400),
  (0xA20390, 0x100),
  (0xA20400, 0x50),
  (0xA20404, 0x1F1F7E00),
  (0xA20408, 0x9091C00),
  (0xA2040C, 0x1010400),
  (0xA20410, 0x100),
  (0xA20480, 0x50),
  (0xA20484, 0x1F1F7E00),
  (0xA20488, 0x9091C00),
  (0xA2048C, 0x1010400),
  (0xA20490, 0x100),
  (0xA20800, 0x4B000000),
  (0xA20804, 0x1),
  (0xA20840, 0x4B000000),
  (0xA20844, 0x1),
  (0xA20880, 0x4B000000),
  (0xA20884, 0x1),
  (0xA208C0, 0x4B000000),
  (0xA208C4, 0x1),
  (0xA30000, 0xE00000),
  (0xA30100, 0x50),
  (0xA30104, 0x1F1F7E00)]
/-- Registers whose reset value is not zero, part 14 (R7). -/
def resetRegs13 : Sparse 32 := [
  (0xA30108, 0x9091C00),
  (0xA3010C, 0x1010400),
  (0xA30110, 0x100),
  (0xA30180, 0x50),
  (0xA30184, 0x1F1F7E00),
  (0xA30188, 0x9091C00),
  (0xA3018C, 0x1010400),
  (0xA30190, 0x100),
  (0xA30200, 0x50),
  (0xA30204, 0x1F1F7E00),
  (0xA30208, 0x9091C00),
  (0xA3020C, 0x1010400),
  (0xA30210, 0x100),
  (0xA30280, 0x50),
  (0xA30284, 0x1F1F7E00),
  (0xA30288, 0x9091C00),
  (0xA3028C, 0x1010400),
  (0xA30290, 0x100),
  (0xA30300, 0x50),
  (0xA30304, 0x1F1F7E00),
  (0xA30308, 0x9091C00),
  (0xA3030C, 0x1010400),
  (0xA30310, 0x100),
  (0xA30380, 0x50)]
/-- Registers whose reset value is not zero, part 15 (R7). -/
def resetRegs14 : Sparse 32 := [
  (0xA30384, 0x1F1F7E00),
  (0xA30388, 0x9091C00),
  (0xA3038C, 0x1010400),
  (0xA30390, 0x100),
  (0xA30400, 0x50),
  (0xA30404, 0x1F1F7E00),
  (0xA30408, 0x9091C00),
  (0xA3040C, 0x1010400),
  (0xA30410, 0x100),
  (0xA30480, 0x50),
  (0xA30484, 0x1F1F7E00),
  (0xA30488, 0x9091C00),
  (0xA3048C, 0x1010400),
  (0xA30490, 0x100),
  (0xA30800, 0x4B000000),
  (0xA30804, 0x1),
  (0xA30840, 0x4B000000),
  (0xA30844, 0x1),
  (0xA30880, 0x4B000000),
  (0xA30884, 0x1),
  (0xA308C0, 0x4B000000),
  (0xA308C4, 0x1),
  (0xA40000, 0xE00000),
  (0xA40100, 0x50)]
/-- Registers whose reset value is not zero, part 16 (R7). -/
def resetRegs15 : Sparse 32 := [
  (0xA40104, 0x1F1F7E00),
  (0xA40108, 0x9091C00),
  (0xA4010C, 0x1010400),
  (0xA40110, 0x100),
  (0xA40180, 0x50),
  (0xA40184, 0x1F1F7E00),
  (0xA40188, 0x9091C00),
  (0xA4018C, 0x1010400),
  (0xA40190, 0x100),
  (0xA40200, 0x50),
  (0xA40204, 0x1F1F7E00),
  (0xA40208, 0x9091C00),
  (0xA4020C, 0x1010400),
  (0xA40210, 0x100),
  (0xA40280, 0x50),
  (0xA40284, 0x1F1F7E00),
  (0xA40288, 0x9091C00),
  (0xA4028C, 0x1010400),
  (0xA40290, 0x100),
  (0xA40300, 0x50),
  (0xA40304, 0x1F1F7E00),
  (0xA40308, 0x9091C00),
  (0xA4030C, 0x1010400),
  (0xA40310, 0x100)]
/-- Registers whose reset value is not zero, part 17 (R7). -/
def resetRegs16 : Sparse 32 := [
  (0xA40380, 0x50),
  (0xA40384, 0x1F1F7E00),
  (0xA40388, 0x9091C00),
  (0xA4038C, 0x1010400),
  (0xA40390, 0x100),
  (0xA40400, 0x50),
  (0xA40404, 0x1F1F7E00),
  (0xA40408, 0x9091C00),
  (0xA4040C, 0x1010400),
  (0xA40410, 0x100),
  (0xA40480, 0x50),
  (0xA40484, 0x1F1F7E00),
  (0xA40488, 0x9091C00),
  (0xA4048C, 0x1010400),
  (0xA40490, 0x100),
  (0xA40800, 0x4B000000),
  (0xA40804, 0x1),
  (0xA40840, 0x4B000000),
  (0xA40844, 0x1),
  (0xA40880, 0x4B000000),
  (0xA40884, 0x1),
  (0xA408C0, 0x4B000000),
  (0xA408C4, 0x1),
  (0xA50000, 0xE00000)]
/-- Registers whose reset value is not zero, part 18 (R7). -/
def resetRegs17 : Sparse 32 := [
  (0xA50100, 0x50),
  (0xA50104, 0x1F1F7E00),
  (0xA50108, 0x9091C00),
  (0xA5010C, 0x1010400),
  (0xA50110, 0x100),
  (0xA50180, 0x50),
  (0xA50184, 0x1F1F7E00),
  (0xA50188, 0x9091C00),
  (0xA5018C, 0x1010400),
  (0xA50190, 0x100),
  (0xA50200, 0x50),
  (0xA50204, 0x1F1F7E00),
  (0xA50208, 0x9091C00),
  (0xA5020C, 0x1010400),
  (0xA50210, 0x100),
  (0xA50280, 0x50),
  (0xA50284, 0x1F1F7E00),
  (0xA50288, 0x9091C00),
  (0xA5028C, 0x1010400),
  (0xA50290, 0x100),
  (0xA50300, 0x50),
  (0xA50304, 0x1F1F7E00),
  (0xA50308, 0x9091C00),
  (0xA5030C, 0x1010400)]
/-- Registers whose reset value is not zero, part 19 (R7). -/
def resetRegs18 : Sparse 32 := [
  (0xA50310, 0x100),
  (0xA50380, 0x50),
  (0xA50384, 0x1F1F7E00),
  (0xA50388, 0x9091C00),
  (0xA5038C, 0x1010400),
  (0xA50390, 0x100),
  (0xA50400, 0x50),
  (0xA50404, 0x1F1F7E00),
  (0xA50408, 0x9091C00),
  (0xA5040C, 0x1010400),
  (0xA50410, 0x100),
  (0xA50480, 0x50),
  (0xA50484, 0x1F1F7E00),
  (0xA50488, 0x9091C00),
  (0xA5048C, 0x1010400),
  (0xA50490, 0x100),
  (0xA50800, 0x4B000000),
  (0xA50804, 0x1),
  (0xA50840, 0x4B000000),
  (0xA50844, 0x1),
  (0xA50880, 0x4B000000),
  (0xA50884, 0x1),
  (0xA508C0, 0x4B000000),
  (0xA508C4, 0x1)]
/-- Registers whose reset value is not zero, part 20 (R7). -/
def resetRegs19 : Sparse 32 := [
  (0xA60000, 0xE00000),
  (0xA60100, 0x50),
  (0xA60104, 0x1F1F7E00),
  (0xA60108, 0x9091C00),
  (0xA6010C, 0x1010400),
  (0xA60110, 0x100),
  (0xA60180, 0x50),
  (0xA60184, 0x1F1F7E00),
  (0xA60188, 0x9091C00),
  (0xA6018C, 0x1010400),
  (0xA60190, 0x100),
  (0xA60200, 0x50),
  (0xA60204, 0x1F1F7E00),
  (0xA60208, 0x9091C00),
  (0xA6020C, 0x1010400),
  (0xA60210, 0x100),
  (0xA60280, 0x50),
  (0xA60284, 0x1F1F7E00),
  (0xA60288, 0x9091C00),
  (0xA6028C, 0x1010400),
  (0xA60290, 0x100),
  (0xA60300, 0x50),
  (0xA60304, 0x1F1F7E00),
  (0xA60308, 0x9091C00)]
/-- Registers whose reset value is not zero, part 21 (R7). -/
def resetRegs20 : Sparse 32 := [
  (0xA6030C, 0x1010400),
  (0xA60310, 0x100),
  (0xA60380, 0x50),
  (0xA60384, 0x1F1F7E00),
  (0xA60388, 0x9091C00),
  (0xA6038C, 0x1010400),
  (0xA60390, 0x100),
  (0xA60400, 0x50),
  (0xA60404, 0x1F1F7E00),
  (0xA60408, 0x9091C00),
  (0xA6040C, 0x1010400),
  (0xA60410, 0x100),
  (0xA60480, 0x50),
  (0xA60484, 0x1F1F7E00),
  (0xA60488, 0x9091C00),
  (0xA6048C, 0x1010400),
  (0xA60490, 0x100),
  (0xA60800, 0x4B000000),
  (0xA60804, 0x1),
  (0xA60840, 0x4B000000),
  (0xA60844, 0x1),
  (0xA60880, 0x4B000000),
  (0xA60884, 0x1),
  (0xA608C0, 0x4B000000)]
/-- Registers whose reset value is not zero, part 22 (R7). -/
def resetRegs21 : Sparse 32 := [
  (0xA608C4, 0x1),
  (0xA70000, 0xE00000),
  (0xA70100, 0x50),
  (0xA70104, 0x1F1F7E00),
  (0xA70108, 0x9091C00),
  (0xA7010C, 0x1010400),
  (0xA70110, 0x100),
  (0xA70180, 0x50),
  (0xA70184, 0x1F1F7E00),
  (0xA70188, 0x9091C00),
  (0xA7018C, 0x1010400),
  (0xA70190, 0x100),
  (0xA70200, 0x50),
  (0xA70204, 0x1F1F7E00),
  (0xA70208, 0x9091C00),
  (0xA7020C, 0x1010400),
  (0xA70210, 0x100),
  (0xA70280, 0x50),
  (0xA70284, 0x1F1F7E00),
  (0xA70288, 0x9091C00),
  (0xA7028C, 0x1010400),
  (0xA70290, 0x100),
  (0xA70300, 0x50),
  (0xA70304, 0x1F1F7E00)]
/-- Registers whose reset value is not zero, part 23 (R7). -/
def resetRegs22 : Sparse 32 := [
  (0xA70308, 0x9091C00),
  (0xA7030C, 0x1010400),
  (0xA70310, 0x100),
  (0xA70380, 0x50),
  (0xA70384, 0x1F1F7E00),
  (0xA70388, 0x9091C00),
  (0xA7038C, 0x1010400),
  (0xA70390, 0x100),
  (0xA70400, 0x50),
  (0xA70404, 0x1F1F7E00),
  (0xA70408, 0x9091C00),
  (0xA7040C, 0x1010400),
  (0xA70410, 0x100),
  (0xA70480, 0x50),
  (0xA70484, 0x1F1F7E00),
  (0xA70488, 0x9091C00),
  (0xA7048C, 0x1010400),
  (0xA70490, 0x100),
  (0xA70800, 0x4B000000),
  (0xA70804, 0x1),
  (0xA70840, 0x4B000000),
  (0xA70844, 0x1),
  (0xA70880, 0x4B000000),
  (0xA70884, 0x1)]
/-- Registers whose reset value is not zero, part 24 (R7). -/
def resetRegs23 : Sparse 32 := [
  (0xA708C0, 0x4B000000),
  (0xA708C4, 0x1),
  (0xB00000, 0x10000004),
  (0xB00008, 0x105F2),
  (0xB00010, 0x100),
  (0xB00014, 0xF4240),
  (0xB10000, 0x10000004),
  (0xB10008, 0x105F2),
  (0xB10010, 0x100),
  (0xB10014, 0xF4240),
  (0xB20000, 0x10000004),
  (0xB20008, 0x105F2),
  (0xB20010, 0x100),
  (0xB20014, 0xF4240),
  (0xB30000, 0x10000004),
  (0xB30008, 0x105F2),
  (0xB30010, 0x100),
  (0xB30014, 0xF4240),
  (0xB40000, 0x10000004),
  (0xB40008, 0x105F2),
  (0xB40010, 0x100),
  (0xB40014, 0xF4240),
  (0xB50000, 0x10000004),
  (0xB50008, 0x105F2)]
/-- Registers whose reset value is not zero, part 25 (R7). -/
def resetRegs24 : Sparse 32 := [
  (0xB50010, 0x100),
  (0xB50014, 0xF4240),
  (0xB60000, 0x10000004),
  (0xB60008, 0x105F2),
  (0xB60010, 0x100),
  (0xB60014, 0xF4240),
  (0xB70000, 0x10000004),
  (0xB70008, 0x105F2),
  (0xB70010, 0x100),
  (0xB70014, 0xF4240),
  (0xB80000, 0x10000004),
  (0xB80008, 0x105F2),
  (0xB80010, 0x100),
  (0xB80014, 0xF4240),
  (0xB90000, 0x10000004),
  (0xB90008, 0x105F2),
  (0xB90010, 0x100),
  (0xB90014, 0xF4240),
  (0xBA0000, 0x10000004),
  (0xBA0008, 0x105F2),
  (0xBA0010, 0x100),
  (0xBA0014, 0xF4240),
  (0xBB0000, 0x10000004),
  (0xBB0008, 0x105F2)]
/-- Registers whose reset value is not zero, part 26 (R7). -/
def resetRegs25 : Sparse 32 := [
  (0xBB0010, 0x100),
  (0xBB0014, 0xF4240),
  (0xBC0000, 0x10000004),
  (0xBC0008, 0x105F2),
  (0xBC0010, 0x100),
  (0xBC0014, 0xF4240),
  (0xBD0000, 0x10000004),
  (0xBD0008, 0x105F2),
  (0xBD0010, 0x100),
  (0xBD0014, 0xF4240),
  (0xBE0000, 0x10000004),
  (0xBE0008, 0x105F2),
  (0xBE0010, 0x100),
  (0xBE0014, 0xF4240),
  (0xBF0000, 0x5DC00),
  (0xBF0020, 0x5DC00),
  (0xBF0040, 0x5DC00),
  (0xBF0060, 0x5DC00),
  (0xC00000, 0x400),
  (0xC00004, 0x64),
  (0xC00018, 0x8804),
  (0xC00034, 0xFFFF),
  (0xC00038, 0xFFFF),
  (0xC0003C, 0xFFFF)]
/-- Registers whose reset value is not zero, part 27 (R7). -/
def resetRegs26 : Sparse 32 := [
  (0xC00040, 0xFFFF),
  (0xC00044, 0xFFFF),
  (0xC00048, 0xFFFF),
  (0xC00100, 0x508),
  (0xC00104, 0x508),
  (0xC00108, 0x508),
  (0xC0010C, 0x508),
  (0xC00110, 0x508),
  (0xC00114, 0x508),
  (0xC00118, 0x508),
  (0xC0011C, 0x508),
  (0xC00120, 0x508),
  (0xC00124, 0x508),
  (0xC00128, 0x508),
  (0xC0012C, 0x508),
  (0xC00130, 0x508),
  (0xC00134, 0x508),
  (0xC00138, 0x508),
  (0xC0013C, 0x508),
  (0xC00140, 0x508),
  (0xC00144, 0x508),
  (0xC00148, 0x508),
  (0xC0014C, 0x508),
  (0xC00150, 0x508)]
/-- Registers whose reset value is not zero, part 28 (R7). -/
def resetRegs27 : Sparse 32 := [
  (0xC00154, 0x508),
  (0xC00158, 0x508),
  (0xC0015C, 0x508),
  (0xC00160, 0x508),
  (0xC00164, 0x508),
  (0xC00168, 0x508),
  (0xC0016C, 0x508),
  (0xC00170, 0x508),
  (0xC00174, 0x508),
  (0xC00178, 0x508),
  (0xC0017C, 0x508),
  (0xC00180, 0x508),
  (0xC00184, 0x508),
  (0xC00188, 0x508),
  (0xC0018C, 0x508),
  (0xC00190, 0x508),
  (0xC00194, 0x508),
  (0xC00198, 0x508),
  (0xC0019C, 0x508),
  (0xC001A0, 0x508),
  (0xC001A4, 0x508),
  (0xC001A8, 0x508),
  (0xC001AC, 0x508),
  (0xC001B0, 0x508)]
/-- Registers whose reset value is not zero, part 29 (R7). -/
def resetRegs28 : Sparse 32 := [
  (0xC001B4, 0x508),
  (0xC001B8, 0x508),
  (0xC001BC, 0x508),
  (0xC001C0, 0x508),
  (0xC001C4, 0x508),
  (0xC001C8, 0x508),
  (0xC001CC, 0x508),
  (0xC001D0, 0x508),
  (0xC001D4, 0x508),
  (0xC001D8, 0x508),
  (0xC001DC, 0x508),
  (0xC001E0, 0x508),
  (0xC001E4, 0x508),
  (0xC001E8, 0x508),
  (0xC001EC, 0x508),
  (0xC001F0, 0x508),
  (0xC001F4, 0x508),
  (0xC001F8, 0x508),
  (0xC001FC, 0x508),
  (0xC00200, 0xF00),
  (0xC00204, 0xF00),
  (0xC00208, 0xF00),
  (0xC0020C, 0xF00),
  (0xC00210, 0xF00)]
/-- Registers whose reset value is not zero, part 30 (R7). -/
def resetRegs29 : Sparse 32 := [
  (0xC00214, 0xF00),
  (0xC00218, 0xF00),
  (0xC0021C, 0xF00),
  (0xC00220, 0xF00),
  (0xC00224, 0xF00),
  (0xC00228, 0xF00),
  (0xC0022C, 0xF00),
  (0xC00230, 0xF00),
  (0xC00234, 0xF00),
  (0xC00238, 0xF00),
  (0xC0023C, 0xF00),
  (0xC00240, 0xF00),
  (0xC00244, 0xF00),
  (0xC00248, 0xF00),
  (0xC0024C, 0xF00),
  (0xC00250, 0xF00),
  (0xC00254, 0xF00),
  (0xC00258, 0xF00),
  (0xC0025C, 0xF00),
  (0xC00260, 0xF00),
  (0xC00264, 0xF00),
  (0xC00268, 0xF00),
  (0xC0026C, 0xF00),
  (0xC00270, 0xF00)]
/-- Registers whose reset value is not zero, part 31 (R7). -/
def resetRegs30 : Sparse 32 := [
  (0xC00274, 0xF00),
  (0xC00278, 0xF00),
  (0xC0027C, 0xF00),
  (0xC00284, 0xA0000),
  (0xC00300, 0x280A),
  (0xC00304, 0x280A),
  (0xC00308, 0x280A),
  (0xC0030C, 0x280A),
  (0xC00310, 0x280A),
  (0xC00314, 0x280A),
  (0xC00318, 0x280A),
  (0xC0031C, 0x280A),
  (0xC00320, 0xFF280A),
  (0xC00324, 0x1FF280A),
  (0xC00328, 0x1FF280A),
  (0xC0032C, 0x1FF280A),
  (0xC00330, 0x1FF280A),
  (0xC00334, 0x1FF280A),
  (0xC00338, 0x1FF280A),
  (0xC0033C, 0x1FF280A),
  (0xD00008, 0xF000),
  (0xD0000C, 0x1401),
  (0xD00018, 0x20116219),
  (0xD00020, 0x303C10)]
/-- Registers whose reset value is not zero, part 32 (R7). -/
def resetRegs31 : Sparse 32 := [
  (0xD00024, 0x3C0A),
  (0xD00030, 0x80000),
  (0xD00034, 0x64),
  (0xF00000, 0x83),
  (0xF00004, 0x220F0F),
  (0xF00008, 0x30C0E0),
  (0xF0000C, 0xA1C251),
  (0xF00010, 0x60410),
  (0xF00014, 0x323),
  (0xF00018, 0x5050),
  (0xF0001C, 0x641F)]
/-- The register file after power-on reset: every register whose reset value is not zero, by rising offset (R7). -/
def resetRegs : Sparse 32 :=
  resetRegs0 ++ resetRegs1 ++ resetRegs2 ++ resetRegs3 ++ resetRegs4 ++ resetRegs5 ++ resetRegs6 ++ resetRegs7 ++ resetRegs8 ++ resetRegs9 ++ resetRegs10 ++ resetRegs11 ++ resetRegs12 ++ resetRegs13 ++ resetRegs14 ++ resetRegs15 ++ resetRegs16 ++ resetRegs17 ++ resetRegs18 ++ resetRegs19 ++ resetRegs20 ++ resetRegs21 ++ resetRegs22 ++ resetRegs23 ++ resetRegs24 ++ resetRegs25 ++ resetRegs26 ++ resetRegs27 ++ resetRegs28 ++ resetRegs29 ++ resetRegs30 ++ resetRegs31

/-- The device right after power-on reset. -/
def Dev.reset : Dev := { regs := resetRegs }

/-- The machine right after reset: no command waits. -/
def State.reset : State := { pending := [], dev := Dev.reset }

end Sys2Proof.Machine
end

