-- ==== Sys2Proof/Machine/RegMap.lean ====
section
/-!
DEFINITION. The register map: for every register of the spec its access class (R37), the bits a write reaches, its value after
power-on reset (R7) and who alone may write it (R283).
-/
namespace Sys2Proof.Machine

open RegClass in
/-- Registers of block 0 (R32), part 1. -/
def regRows00a : List RegRow := [
  ⟨"SYS_ID", 0x0, 0x0, 1, 0x0, 1, ro, 0x0, 0x9640B020, .any⟩,
  ⟨"SYS_DEVID", 0x4, 0x0, 1, 0x0, 1, ro, 0x0, 0x0, .any⟩,
  ⟨"SYS_BOOT_STATUS", 0x10, 0x0, 1, 0x0, 1, ro, 0x0, 0x0, .any⟩,
  ⟨"SYS_RESET_CTL", 0x20, 0x0, 1, 0x0, 1, rwk, 0x1F3, 0x0, .any⟩,
  ⟨"SYS_RESET_CTL_KEY", 0x24, 0x0, 1, 0x0, 1, key, 0x0, 0x0, .any⟩,
  ⟨"SYS_KEY_REJECT", 0x30, 0x0, 1, 0x0, 1, ro, 0x0, 0x0, .any⟩,
  ⟨"SYS_ACCESS_REJECT", 0x34, 0x0, 1, 0x0, 1, ro, 0x0, 0x0, .any⟩,
  ⟨"SYS_CAL_CTL", 0x40, 0x0, 1, 0x0, 1, rwk, 0x1, 0x0, .any⟩,
  ⟨"SYS_CAL_CTL_KEY", 0x44, 0x0, 1, 0x0, 1, key, 0x0, 0x0, .any⟩]
open RegClass in
/-- Registers of block 1 (R32), part 1. -/
def regRows01a : List RegRow := [
  ⟨"HP_STATUS", 0x100000, 0x0, 1, 0x0, 1, ro, 0x0, 0x0, .any⟩,
  ⟨"HP_LINK_CTL", 0x100004, 0x0, 1, 0x0, 1, rws, 0x3F, 0x1B, .any⟩,
  ⟨"HP_INB_TIMEOUT", 0x100008, 0x0, 1, 0x0, 1, rws, 0x3FF, 0x50, .any⟩,
  ⟨"HP_OUT_CTL", 0x10000C, 0x0, 1, 0x0, 1, rws, 0x1FF, 0x100, .any⟩,
  ⟨"HP_SUBSYS", 0x100010, 0x0, 1, 0x0, 1, rws, 0xFFFFFFFF, 0x1F4C, .lodge⟩,
  ⟨"HP_TT_INUSE", 0x100018, 0x0, 1, 0x0, 1, ro, 0x0, 0x0, .any⟩,
  ⟨"HP_TAGS_INUSE", 0x10001C, 0x0, 1, 0x0, 1, ro, 0x0, 0x0, .any⟩,
  ⟨"HP_INB_TIMEOUT_COUNT", 0x100020, 0x0, 1, 0x0, 1, ro, 0x0, 0x0, .any⟩,
  ⟨"HP_LATE_CPL", 0x100024, 0x0, 1, 0x0, 1, ro, 0x0, 0x0, .any⟩,
  ⟨"HP_OUT_TIMEOUT_COUNT", 0x100028, 0x0, 1, 0x0, 1, ro, 0x0, 0x0, .any⟩,
  ⟨"HP_LINK_DOWN_COUNT", 0x10002C, 0x0, 1, 0x0, 1, ro, 0x0, 0x0, .any⟩,
  ⟨"HP_LINK_DROP", 0x100030, 0x0, 1, 0x0, 1, ro, 0x0, 0x0, .any⟩,
  ⟨"HP_MSIX_DROP", 0x100034, 0x0, 1, 0x0, 1, ro, 0x0, 0x0, .any⟩,
  ⟨"HP_UR_COUNT", 0x100038, 0x0, 1, 0x0, 1, ro, 0x0, 0x0, .any⟩,
  ⟨"HP_CA_COUNT", 0x10003C, 0x0, 1, 0x0, 1, ro, 0x0, 0x0, .any⟩]
open RegClass in
/-- Registers of block 2 (R32), part 1. -/
def regRows02a : List RegRow := [
  ⟨"LBU_CTL", 0x200000, 0x0, 1, 0x0, 1, rwa, 0x3FFF, 0x30, .any⟩,
  ⟨"LBU_STATUS", 0x200004, 0x0, 1, 0x0, 1, ro, 0x0, 0x0, .any⟩,
  ⟨"LBU_SLV_CFG", 0x200008, 0x0, 1, 0x0, 1, rwa, 0xFF7F, 0xA14, .any⟩,
  ⟨"LBU_PATH_CFG", 0x20000C, 0x0, 1, 0x0, 1, rwa, 0x7F, 0x0, .any⟩,
  ⟨"LBU_DR_INUSE", 0x200010, 0x0, 1, 0x0, 1, ro, 0x0, 0x0, .any⟩,
  ⟨"LBU_ZONE_CFG", 0x200020, 0x4, 8, 0x0, 1, rw, 0xFFFFFFFF, 0x3E8, .any⟩,
  ⟨"LBU_RETRY_ISSUED", 0x200100, 0x0, 1, 0x0, 1, ro, 0x0, 0x0, .any⟩,
  ⟨"LBU_RETRY_RCVD", 0x200104, 0x0, 1, 0x0, 1, ro, 0x0, 0x0, .any⟩,
  ⟨"LBU_TIMEOUT_COUNT", 0x200108, 0x0, 1, 0x0, 1, ro, 0x0, 0x0, .any⟩,
  ⟨"LBU_BERR_COUNT", 0x20010C, 0x0, 1, 0x0, 1, ro, 0x0, 0x0, .any⟩,
  ⟨"LBU_PAR_ERR_COUNT", 0x200110, 0x0, 1, 0x0, 1, ro, 0x0, 0x0, .any⟩,
  ⟨"LBU_LOCK_BROKEN", 0x200114, 0x0, 1, 0x0, 1, ro, 0x0, 0x0, .any⟩,
  ⟨"LBU_DR_FULL", 0x200118, 0x0, 1, 0x0, 1, ro, 0x0, 0x0, .any⟩,
  ⟨"LBU_DR_DISCARD", 0x20011C, 0x0, 1, 0x0, 1, ro, 0x0, 0x0, .any⟩,
  ⟨"LBU_DR_STALE", 0x200120, 0x0, 1, 0x0, 1, ro, 0x0, 0x0, .any⟩,
  ⟨"LBU_PREF_DISCARD", 0x200124, 0x0, 1, 0x0, 1, ro, 0x0, 0x0, .any⟩,
  ⟨"LBU_PROMOTE_COUNT", 0x200128, 0x0, 1, 0x0, 1, ro, 0x0, 0x0, .any⟩]
open RegClass in
/-- Registers of block 3 (R32), part 1. -/
def regRows03a : List RegRow := [
  ⟨"WIN_BARRIER", 0x300000, 0x0, 1, 0x0, 1, wo, 0x1F1, 0x0, .host⟩,
  ⟨"WIN_BARRIER_STATUS", 0x300004, 0x0, 1, 0x0, 1, ro, 0x0, 0x1, .any⟩,
  ⟨"WIN_BAR_CFG", 0x300010, 0x0, 1, 0x0, 1, ro, 0x0, 0x0, .any⟩,
  ⟨"WIN_BAR0_REQ", 0x300014, 0x0, 1, 0x0, 1, rwa, 0x1F, 0x0, .any⟩,
  ⟨"WIN_DRAM_SIZE", 0x300018, 0x0, 1, 0x0, 1, ro, 0x0, 0x0, .any⟩,
  ⟨"WIN_SYNCERR_USE", 0x30001C, 0x0, 1, 0x0, 1, ro, 0x0, 0x0, .any⟩,
  ⟨"WIN_DECODE_MISS", 0x300020, 0x0, 1, 0x0, 1, ro, 0x0, 0x0, .any⟩,
  ⟨"WIN_RSV_STATUS", 0x300100, 0x4, 64, 0x0, 1, ro, 0x0, 0x0, .any⟩,
  ⟨"WIN_HOST_SEM", 0x300200, 0x0, 1, 0x0, 1, ro, 0x0, 0x0, .any⟩,
  ⟨"WIN_HOST_SEM_CLAIM", 0x300204, 0x0, 1, 0x0, 1, rwm, 0xFFFF, 0x0, .host⟩,
  ⟨"WIN_SEM_ADDR", 0x300280, 0x8, 16, 0x0, 1, lo64, 0xFFFFFFC0, 0x0, .any⟩,
  ⟨"WIN_SEM_ADDR_HI", 0x300284, 0x8, 16, 0x0, 1, hi64, 0xFFFF, 0x0, .any⟩,
  ⟨"WIN_IW_CTL", 0x301000, 0x20, 32, 0x0, 1, rwm, 0x1FFF, 0x0, .any⟩,
  ⟨"WIN_IW_AGE", 0x301004, 0x20, 32, 0x0, 1, rwm, 0xFFFF, 0x0, .any⟩,
  ⟨"WIN_IW_FMT", 0x301008, 0x20, 32, 0x0, 1, rwm, 0xC000, 0x0, .any⟩,
  ⟨"WIN_IW_BASE", 0x30100C, 0x20, 32, 0x0, 1, rw, 0x7FFFFFF, 0x0, .any⟩,
  ⟨"WIN_IW_TGT", 0x301010, 0x20, 32, 0x0, 1, lo64, 0xFFFFF000, 0x0, .any⟩,
  ⟨"WIN_IW_TGT_HI", 0x301014, 0x20, 32, 0x0, 1, hi64, 0xFFFF, 0x0, .any⟩,
  ⟨"WIN_IW_HITS", 0x301018, 0x20, 32, 0x0, 1, ro, 0x0, 0x0, .any⟩,
  ⟨"WIN_OW_CTL", 0x301400, 0x20, 32, 0x0, 1, rwm, 0x61FF, 0x0, .any⟩,
  ⟨"WIN_OW_AGE", 0x301404, 0x20, 32, 0x0, 1, rwm, 0xFFFF, 0x0, .any⟩,
  ⟨"WIN_OW_FMT", 0x301408, 0x20, 32, 0x0, 1, rwm, 0xC000, 0x0, .any⟩,
  ⟨"WIN_OW_BASE", 0x30140C, 0x20, 32, 0x0, 1, rw, 0xFFFFFF, 0x0, .any⟩,
  ⟨"WIN_OW_TGT", 0x301410, 0x20, 32, 0x0, 1, lo64, 0xFFFFF000, 0x0, .any⟩,
  ⟨"WIN_OW_TGT_HI", 0x301414, 0x20, 32, 0x0, 1, hi64, 0xFFFFFFFF, 0x0, .any⟩,
  ⟨"WIN_OW_HITS", 0x301418, 0x20, 32, 0x0, 1, ro, 0x0, 0x0, .any⟩,
  ⟨"WIN_LW_CTL", 0x301800, 0x20, 16, 0x0, 1, rwm, 0x3FFF, 0x0, .any⟩,
  ⟨"WIN_LW_AGE", 0x301804, 0x20, 16, 0x0, 1, rwm, 0xFFFF, 0x0, .any⟩,
  ⟨"WIN_LW_FMT", 0x301808, 0x20, 16, 0x0, 1, rwm, 0xC00F, 0x0, .any⟩,
  ⟨"WIN_LW_BASE", 0x30180C, 0x20, 16, 0x0, 1, rw, 0xFFFFF, 0x0, .any⟩,
  ⟨"WIN_LW_TGT", 0x301810, 0x20, 16, 0x0, 1, lo64, 0xFFFFF000, 0x0, .any⟩,
  ⟨"WIN_LW_TGT_HI", 0x301814, 0x20, 16, 0x0, 1, hi64, 0xFFFF, 0x0, .any⟩,
  ⟨"WIN_LW_HITS", 0x301818, 0x20, 16, 0x0, 1, ro, 0x0, 0x0, .any⟩,
  ⟨"WIN_LZ_CTL", 0x301C00, 0x20, 8, 0x0, 1, rwm, 0xFF, 0x0, .any⟩,
  ⟨"WIN_LZ_AGE", 0x301C04, 0x20, 8, 0x0, 1, rwm, 0xFFFF, 0x0, .any⟩,
  ⟨"WIN_LZ_FMT", 0x301C08, 0x20, 8, 0x0, 1, rwm, 0x3FFF, 0x0, .any⟩,
  ⟨"WIN_LZ_BASE", 0x301C0C, 0x20, 8, 0x0, 1, rw, 0xFFFFF, 0x0, .any⟩,
  ⟨"WIN_LZ_HITS", 0x301C18, 0x20, 8, 0x0, 1, ro, 0x0, 0x0, .any⟩]
open RegClass in
/-- Registers of block 4 (R32), part 1. -/
def regRows04a : List RegRow := [
  ⟨"ITM_CTL", 0x400000, 0x0, 1, 0x0, 1, rws, 0x3FF3F, 0x3C00, .any⟩,
  ⟨"ITM_STATUS", 0x400004, 0x0, 1, 0x0, 1, ro, 0x0, 0x0, .any⟩,
  ⟨"ITM_LINK_CTL", 0x400100, 0x40, 5, 0x0, 1, rws, 0x3F7, 0x380, .any⟩,
  ⟨"ITM_PEER", 0x400104, 0x40, 5, 0x0, 1, rws, 0x7FF, 0x0, .any⟩,
  ⟨"ITM_LINK_STATUS", 0x400108, 0x40, 5, 0x0, 1, ro, 0x0, 0x0, .any⟩,
  ⟨"ITM_TIME_CFG", 0x40010C, 0x40, 5, 0x0, 1, rws, 0xFFFF01FF, 0x163, .any⟩,
  ⟨"ITM_LANE_CFG", 0x400110, 0x40, 5, 0x0, 1, rws, 0xFFFF, 0x10, .any⟩,
  ⟨"ITM_LINK_DELAY", 0x400114, 0x40, 5, 0x0, 1, ro, 0x0, 0x0, .any⟩,
  ⟨"ITM_OUTSTANDING", 0x400118, 0x40, 5, 0x0, 1, ro, 0x0, 0x0, .any⟩,
  ⟨"ITM_CRC_ERR", 0x40011C, 0x40, 5, 0x0, 1, ro, 0x0, 0x0, .any⟩,
  ⟨"ITM_REPLAY", 0x400120, 0x40, 5, 0x0, 1, ro, 0x0, 0x0, .any⟩,
  ⟨"ITM_RETRAIN", 0x400124, 0x40, 5, 0x0, 1, ro, 0x0, 0x0, .any⟩,
  ⟨"ITM_LANE_SWAP", 0x400128, 0x40, 5, 0x0, 1, ro, 0x0, 0x0, .any⟩,
  ⟨"ITM_PEER_DOWN_COUNT", 0x40012C, 0x40, 5, 0x0, 1, ro, 0x0, 0x0, .any⟩,
  ⟨"ITM_PROTO_ERR", 0x400130, 0x40, 5, 0x0, 1, ro, 0x0, 0x0, .any⟩,
  ⟨"ITM_LATE_CPL", 0x400134, 0x40, 5, 0x0, 1, ro, 0x0, 0x0, .any⟩,
  ⟨"ITM_TIME_DROP", 0x400138, 0x40, 5, 0x0, 1, ro, 0x0, 0x0, .any⟩,
  ⟨"ITM_REQ_TIMEOUT", 0x40013C, 0x40, 5, 0x0, 1, ro, 0x0, 0x0, .any⟩,
  ⟨"ITM_ROUTE", 0x440000, 0x4, 64, 0x0, 1, rws, 0x7F, 0x5, .any⟩]
open RegClass in
/-- Registers of block 5 (R32), part 1. -/
def regRows05a : List RegRow := [
  ⟨"PGL_CTL", 0x500000, 0x0, 1, 0x0, 1, rwa, 0xFF03, 0x2803, .any⟩,
  ⟨"PGL_STATUS", 0x500004, 0x0, 1, 0x0, 1, ro, 0x0, 0x3, .any⟩,
  ⟨"PGL_CLASS_RSV", 0x500008, 0x0, 1, 0x0, 1, rwa, 0xFFFFFFFF, 0x22222222, .any⟩,
  ⟨"PGL_VOQ_MAX", 0x50000C, 0x0, 1, 0x0, 1, rwa, 0x1FFF, 0x800, .any⟩,
  ⟨"PGL_PDU_BASE", 0x500010, 0x0, 1, 0x0, 1, rwa, 0xFFFF, 0x0, .any⟩,
  ⟨"PGL_LOST_SUM", 0x500014, 0x0, 1, 0x0, 1, ro, 0x0, 0x0, .any⟩,
  ⟨"PGL_LOST_ACK", 0x500018, 0x0, 1, 0x0, 1, rwa, 0xFFFFFFFF, 0x0, .any⟩,
  ⟨"PGL_SIG_SHORT", 0x50001C, 0x0, 1, 0x0, 1, ro, 0x0, 0x0, .any⟩,
  ⟨"PGL_CR_BASE", 0x500100, 0x20, 8, 0x0, 1, lo64, 0xFFFFFFC0, 0x0, .any⟩,
  ⟨"PGL_CR_BASE_HI", 0x500104, 0x20, 8, 0x0, 1, hi64, 0xFFFF, 0x0, .any⟩,
  ⟨"PGL_CR_CFG", 0x500108, 0x20, 8, 0x0, 1, rwm, 0x3F, 0xC, .any⟩,
  ⟨"PGL_CR_WI", 0x50010C, 0x20, 8, 0x0, 1, ro, 0x0, 0x0, .any⟩,
  ⟨"PGL_CR_RI", 0x500110, 0x20, 8, 0x0, 1, rwm, 0xFFFF, 0x0, .any⟩,
  ⟨"PGL_CR_DROP", 0x500114, 0x20, 8, 0x0, 1, ro, 0x0, 0x0, .any⟩,
  ⟨"PGL_IN_CFG", 0x501000, 0x40, 16, 0x0, 1, rwm, 0xFF, 0x0, .any⟩,
  ⟨"PGL_OUT_WRR0", 0x501004, 0x40, 16, 0x0, 1, rwm, 0xFFFF, 0x8424, .any⟩,
  ⟨"PGL_OUT_WRR1", 0x501008, 0x40, 16, 0x0, 1, rwm, 0xFFF, 0x124, .any⟩,
  ⟨"PGL_IN_USED", 0x50100C, 0x40, 16, 0x0, 1, ro, 0x0, 0x0, .any⟩,
  ⟨"PGL_IN_CELLS", 0x501010, 0x40, 16, 0x0, 1, ro, 0x0, 0x0, .any⟩,
  ⟨"PGL_OUT_CELLS", 0x501014, 0x40, 16, 0x0, 1, ro, 0x0, 0x0, .any⟩,
  ⟨"PGL_IN_ADMIT_DROP", 0x501018, 0x40, 16, 0x0, 1, ro, 0x0, 0x0, .any⟩,
  ⟨"PGL_OUT_LOST", 0x50101C, 0x40, 16, 0x0, 1, ro, 0x0, 0x0, .any⟩,
  ⟨"PGL_OUT_LATE", 0x501020, 0x40, 16, 0x0, 1, ro, 0x0, 0x0, .any⟩,
  ⟨"PGL_OUT_FORCED", 0x501024, 0x40, 16, 0x0, 1, ro, 0x0, 0x0, .any⟩,
  ⟨"PGL_OUT_XFER_DROP", 0x501028, 0x40, 16, 0x0, 1, ro, 0x0, 0x0, .any⟩,
  ⟨"PGL_OUT_PROMOTE", 0x50102C, 0x40, 16, 0x0, 1, ro, 0x0, 0x0, .any⟩]
open RegClass in
/-- Registers of block 6 (R32), part 1. -/
def regRows06a : List RegRow := [
  ⟨"TRL_CTRL", 0x600000, 0x0, 1, 0x0, 1, rwa, 0x1F, 0x0, .any⟩,
  ⟨"TRL_STATUS", 0x600004, 0x0, 1, 0x0, 1, ro, 0x0, 0x0, .any⟩,
  ⟨"TRL_TABLE_SELECT", 0x600008, 0x0, 1, 0x0, 1, rwk, 0xFFFFFFFF, 0x0, .any⟩,
  ⟨"TRL_TABLE_SELECT_KEY", 0x60000C, 0x0, 1, 0x0, 1, key, 0x0, 0x0, .any⟩,
  ⟨"TRL_AGE_PERIOD", 0x600010, 0x0, 1, 0x0, 1, rwa, 0x1FFF, 0x12C, .any⟩,
  ⟨"TRL_LOCK_LIMIT", 0x600014, 0x0, 1, 0x0, 1, rwa, 0xFFF, 0x32, .any⟩,
  ⟨"TRL_LEARN_CFG", 0x600018, 0x0, 1, 0x0, 1, rwa, 0xFFF3FFF, 0x0, .any⟩,
  ⟨"TRL_GEN", 0x60001C, 0x0, 1, 0x0, 1, ro, 0x0, 0x0, .any⟩,
  ⟨"TRL_GEN_ADV", 0x600020, 0x0, 1, 0x0, 1, wo, 0x1, 0x0, .any⟩,
  ⟨"TRL_GEN_FENCE", 0x600024, 0x0, 1, 0x0, 1, ro, 0x0, 0x100, .any⟩,
  ⟨"TRL_RELOC_EPOCH", 0x600028, 0x0, 1, 0x0, 1, ro, 0x0, 0x0, .any⟩,
  ⟨"TRL_CMD", 0x60002C, 0x0, 1, 0x0, 1, wo, 0x7, 0x0, .any⟩,
  ⟨"TRL_CMD_STATUS", 0x600030, 0x0, 1, 0x0, 1, ro, 0x0, 0x0, .any⟩,
  ⟨"TRL_CMD_BUCKET", 0x600034, 0x0, 1, 0x0, 1, ro, 0x0, 0x0, .any⟩,
  ⟨"TRL_RQ_POP", 0x600038, 0x0, 1, 0x0, 1, wo, 0x1, 0x0, .any⟩,
  ⟨"TRL_LOCK_OVERRUN_ACK", 0x60003C, 0x0, 1, 0x0, 1, rwa, 0xFFFFFFFF, 0x0, .any⟩,
  ⟨"TRL_TAB_BASE", 0x600040, 0x20, 2, 0x0, 1, lo64, 0xFFFFFFFF, 0x0, .any⟩,
  ⟨"TRL_TAB_BASE_HI", 0x600044, 0x20, 2, 0x0, 1, hi64, 0x3, 0x0, .any⟩,
  ⟨"TRL_TAB_CFG", 0x600048, 0x20, 2, 0x0, 1, rwa, 0x1F, 0xA, .any⟩,
  ⟨"TRL_TAB_SEED0", 0x60004C, 0x20, 2, 0x0, 1, rwa, 0xFFFFFFFF, 0x0, .any⟩,
  ⟨"TRL_TAB_SEED1", 0x600050, 0x20, 2, 0x0, 1, rwa, 0xFFFFFFFF, 0x0, .any⟩,
  ⟨"TRL_WATCH_BASE", 0x600080, 0x0, 1, 0x0, 1, lo64, 0xFFFFFFFF, 0x0, .any⟩,
  ⟨"TRL_WATCH_BASE_HI", 0x600084, 0x0, 1, 0x0, 1, hi64, 0x3, 0x0, .any⟩,
  ⟨"TRL_WATCH_CFG", 0x600088, 0x0, 1, 0x0, 1, rwa, 0x3F, 0x14, .any⟩,
  ⟨"TRL_WATCH_WI", 0x60008C, 0x0, 1, 0x0, 1, ro, 0x0, 0x0, .any⟩,
  ⟨"TRL_WATCH_RI", 0x600090, 0x0, 1, 0x0, 1, rwa, 0xFFFF, 0x0, .any⟩,
  ⟨"TRL_LOOKUPS", 0x600100, 0x0, 1, 0x0, 1, ro, 0x0, 0x0, .any⟩,
  ⟨"TRL_LOOKUPS_HI", 0x600104, 0x0, 1, 0x0, 1, ro, 0x0, 0x0, .any⟩,
  ⟨"TRL_CACHE_MISS", 0x600108, 0x0, 1, 0x0, 1, ro, 0x0, 0x0, .any⟩,
  ⟨"TRL_CACHE_MISS_HI", 0x60010C, 0x0, 1, 0x0, 1, ro, 0x0, 0x0, .any⟩,
  ⟨"TRL_LEARNED", 0x600110, 0x0, 1, 0x0, 1, ro, 0x0, 0x0, .any⟩,
  ⟨"TRL_LEARN_MOVE", 0x600114, 0x0, 1, 0x0, 1, ro, 0x0, 0x0, .any⟩,
  ⟨"TRL_LEARN_SKIP", 0x600118, 0x0, 1, 0x0, 1, ro, 0x0, 0x0, .any⟩,
  ⟨"TRL_INSERT_FAIL", 0x60011C, 0x0, 1, 0x0, 1, ro, 0x0, 0x0, .any⟩,
  ⟨"TRL_REHASH_OVF", 0x600120, 0x0, 1, 0x0, 1, ro, 0x0, 0x0, .any⟩,
  ⟨"TRL_AGE_REMOVE", 0x600124, 0x0, 1, 0x0, 1, ro, 0x0, 0x0, .any⟩,
  ⟨"TRL_RELOC_RETRY", 0x600128, 0x0, 1, 0x0, 1, ro, 0x0, 0x0, .any⟩,
  ⟨"TRL_PARKED", 0x60012C, 0x0, 1, 0x0, 1, ro, 0x0, 0x0, .any⟩,
  ⟨"TRL_PARK_FULL", 0x600130, 0x0, 1, 0x0, 1, ro, 0x0, 0x0, .any⟩,
  ⟨"TRL_WATCH_DROP", 0x600134, 0x0, 1, 0x0, 1, ro, 0x0, 0x0, .any⟩]
open RegClass in
/-- Registers of block 6 (R32), part 2. -/
def regRows06b : List RegRow := [
  ⟨"TRL_LOCK_OVERRUN", 0x600138, 0x0, 1, 0x0, 1, ro, 0x0, 0x0, .any⟩]
open RegClass in
/-- Registers of block 7 (R32), part 1. -/
def regRows07a : List RegRow := [
  ⟨"GTH_CTL", 0x700000, 0x0, 1, 0x0, 1, rwa, 0x7, 0x0, .any⟩,
  ⟨"GTH_STATUS", 0x700004, 0x0, 1, 0x0, 1, ro, 0x0, 0x0, .any⟩,
  ⟨"GTH_FAIL_POP", 0x700008, 0x0, 1, 0x0, 1, wo, 0x1, 0x0, .any⟩,
  ⟨"GTH_GUARD_ACK", 0x70000C, 0x0, 1, 0x0, 1, rwa, 0xFFFFFFFF, 0x0, .any⟩,
  ⟨"GTH_KEY_CTL", 0x700010, 0x0, 1, 0x0, 1, rwk, 0xFFFFFFFF, 0x0, .any⟩,
  ⟨"GTH_KEY_CTL_KEY", 0x700014, 0x0, 1, 0x0, 1, key, 0x0, 0x0, .any⟩,
  ⟨"GTH_KEY_STATUS", 0x700018, 0x0, 1, 0x0, 1, ro, 0x0, 0x0, .any⟩,
  ⟨"GTH_AUTH_OK", 0x700100, 0x0, 1, 0x0, 1, ro, 0x0, 0x0, .any⟩,
  ⟨"GTH_AUTH_FAIL", 0x700104, 0x0, 1, 0x0, 1, ro, 0x0, 0x0, .any⟩,
  ⟨"GTH_GEN_COUNT", 0x700108, 0x0, 1, 0x0, 1, ro, 0x0, 0x0, .any⟩,
  ⟨"GTH_FAIL_OVF", 0x70010C, 0x0, 1, 0x0, 1, ro, 0x0, 0x0, .any⟩,
  ⟨"GTH_GUARD_DROP", 0x700110, 0x0, 1, 0x0, 1, ro, 0x0, 0x0, .any⟩,
  ⟨"GTH_METER_RED", 0x700114, 0x0, 1, 0x0, 1, ro, 0x0, 0x0, .any⟩,
  ⟨"GTH_MS_CTL", 0x701000, 0x40, 14, 0x0, 1, rwm, 0xFFFF, 0x6C, .any⟩,
  ⟨"GTH_MS_WINDOW", 0x701004, 0x40, 14, 0x0, 1, rw, 0xFFFFFFFF, 0x0, .any⟩,
  ⟨"GTH_MS_TX_SCI", 0x701008, 0x40, 14, 0x0, 1, lo64, 0xFFFFFFFF, 0x0, .any⟩,
  ⟨"GTH_MS_TX_SCI_HI", 0x70100C, 0x40, 14, 0x0, 1, hi64, 0xFFFFFFFF, 0x0, .any⟩,
  ⟨"GTH_MS_IN_OK", 0x701010, 0x40, 14, 0x0, 1, ro, 0x0, 0x0, .any⟩,
  ⟨"GTH_MS_IN_INVALID", 0x701014, 0x40, 14, 0x0, 1, ro, 0x0, 0x0, .any⟩,
  ⟨"GTH_MS_IN_NOT_VALID", 0x701018, 0x40, 14, 0x0, 1, ro, 0x0, 0x0, .any⟩,
  ⟨"GTH_MS_IN_LATE", 0x70101C, 0x40, 14, 0x0, 1, ro, 0x0, 0x0, .any⟩,
  ⟨"GTH_MS_IN_NO_SA", 0x701020, 0x40, 14, 0x0, 1, ro, 0x0, 0x0, .any⟩,
  ⟨"GTH_MS_IN_UNTAGGED", 0x701024, 0x40, 14, 0x0, 1, ro, 0x0, 0x0, .any⟩,
  ⟨"GTH_MS_OUT_PROTECTED", 0x701028, 0x40, 14, 0x0, 1, ro, 0x0, 0x0, .any⟩,
  ⟨"GTH_MS_OUT_PN_EXHAUST", 0x70102C, 0x40, 14, 0x0, 1, ro, 0x0, 0x0, .any⟩]
open RegClass in
/-- Registers of block 8 (R32), part 1. -/
def regRows08a : List RegRow := [
  ⟨"BLV_STATUS", 0x800000, 0x0, 1, 0x0, 1, ro, 0x0, 0x0, .any⟩,
  ⟨"BLV_SRC_CFG", 0x800004, 0x0, 1, 0x0, 1, rws, 0x3FFFFFF, 0x0, .any⟩,
  ⟨"BLV_SERVO_CFG", 0x800008, 0x0, 1, 0x0, 1, rws, 0xFFFFFFF, 0x324644A, .any⟩,
  ⟨"BLV_SCHED_CFG", 0x80000C, 0x0, 1, 0x0, 1, rws, 0x1FFFF, 0x140A, .any⟩,
  ⟨"BLV_VT_LO", 0x800010, 0x0, 1, 0x0, 1, ro, 0x0, 0x0, .any⟩,
  ⟨"BLV_VT_HI", 0x800014, 0x0, 1, 0x0, 1, ro, 0x0, 0x0, .any⟩,
  ⟨"BLV_VT_FRAC", 0x800018, 0x0, 1, 0x0, 1, ro, 0x0, 0x0, .any⟩,
  ⟨"BLV_OFFSET", 0x80001C, 0x0, 1, 0x0, 1, ro, 0x0, 0x0, .any⟩,
  ⟨"BLV_RATE", 0x800020, 0x0, 1, 0x0, 1, rws, 0xFFFFFFFF, 0x0, .any⟩,
  ⟨"BLV_RATE_TRIM", 0x800024, 0x0, 1, 0x0, 1, ro, 0x0, 0x0, .any⟩,
  ⟨"BLV_SLEW", 0x800028, 0x0, 1, 0x0, 1, rws, 0xFFFFFFFF, 0x0, .any⟩,
  ⟨"BLV_STEP_LO", 0x800030, 0x0, 1, 0x0, 1, rws, 0xFFFFFFFF, 0x0, .any⟩,
  ⟨"BLV_STEP_HI", 0x800034, 0x0, 1, 0x0, 1, rws, 0xFFFFFFFF, 0x0, .any⟩,
  ⟨"BLV_STEP_CTL", 0x800038, 0x0, 1, 0x0, 1, rws, 0x7, 0x0, .any⟩,
  ⟨"BLV_ARM", 0x800040, 0x0, 1, 0x0, 1, rws, 0x3FFF, 0x0, .any⟩,
  ⟨"BLV_RES_STATUS", 0x800044, 0x0, 1, 0x0, 1, ro, 0x0, 0x0, .any⟩,
  ⟨"BLV_RES_POP", 0x800048, 0x0, 1, 0x0, 1, rws, 0x1, 0x0, .any⟩,
  ⟨"BLV_CAP_STATUS", 0x80004C, 0x0, 1, 0x0, 1, ro, 0x0, 0x0, .any⟩,
  ⟨"BLV_CAP_POP", 0x800050, 0x0, 1, 0x0, 1, rws, 0x1, 0x0, .any⟩,
  ⟨"BLV_TXTS_STATUS", 0x800054, 0x0, 1, 0x0, 1, ro, 0x0, 0x0, .any⟩,
  ⟨"BLV_TXTS_POP", 0x800058, 0x0, 1, 0x0, 1, rws, 0x1, 0x0, .any⟩,
  ⟨"BLV_PPS_CFG", 0x80005C, 0x0, 1, 0x0, 1, rws, 0x3FFFFFFF, 0x0, .any⟩,
  ⟨"BLV_LATE_COUNT", 0x800080, 0x0, 1, 0x0, 1, ro, 0x0, 0x0, .any⟩,
  ⟨"BLV_DROP_COUNT", 0x800084, 0x0, 1, 0x0, 1, ro, 0x0, 0x0, .any⟩,
  ⟨"BLV_SKIP_COUNT", 0x800088, 0x0, 1, 0x0, 1, ro, 0x0, 0x0, .any⟩,
  ⟨"BLV_ARM_REJECT", 0x80008C, 0x0, 1, 0x0, 1, ro, 0x0, 0x0, .any⟩,
  ⟨"BLV_RES_OVF", 0x800090, 0x0, 1, 0x0, 1, ro, 0x0, 0x0, .any⟩,
  ⟨"BLV_CAP_OVF", 0x800094, 0x0, 1, 0x0, 1, ro, 0x0, 0x0, .any⟩,
  ⟨"BLV_TXTS_OVF", 0x800098, 0x0, 1, 0x0, 1, ro, 0x0, 0x0, .any⟩,
  ⟨"BLV_SRC_SWITCH", 0x80009C, 0x0, 1, 0x0, 1, ro, 0x0, 0x0, .any⟩,
  ⟨"BLV_STEP_COUNT", 0x8000A0, 0x0, 1, 0x0, 1, ro, 0x0, 0x0, .any⟩,
  ⟨"BLV_CTR_MISMATCH", 0x8000A4, 0x0, 1, 0x0, 1, ro, 0x0, 0x0, .any⟩,
  ⟨"BLV_NOT_READY", 0x8000A8, 0x0, 1, 0x0, 1, ro, 0x0, 0x0, .any⟩,
  ⟨"BLV_TIO_CFG", 0x800100, 0x4, 48, 0x0, 1, rws, 0xFFFF3F, 0x0, .any⟩,
  ⟨"BLV_PTP_LAT", 0x800200, 0x4, 15, 0x0, 1, rws, 0xFFFFFFFF, 0x0, .any⟩]
open RegClass in
/-- Registers of block 9 (R32), part 1. -/
def regRows09a : List RegRow := [
  ⟨"GZB_CTL", 0x900000, 0x0, 1, 0x0, 1, rwa, 0xFF01, 0x0, .any⟩,
  ⟨"GZB_STATUS", 0x900004, 0x0, 1, 0x0, 1, ro, 0x0, 0x0, .any⟩,
  ⟨"GZB_HALT_CAUSE", 0x900008, 0x0, 1, 0x0, 1, ro, 0x0, 0x0, .any⟩,
  ⟨"GZB_QUEUE_INUSE", 0x90000C, 0x0, 1, 0x0, 1, ro, 0x0, 0x0, .any⟩,
  ⟨"GZB_HALT_GA", 0x900010, 0x0, 1, 0x0, 1, ro, 0x0, 0x0, .any⟩,
  ⟨"GZB_HALT_GA_HI", 0x900014, 0x0, 1, 0x0, 1, ro, 0x0, 0x0, .any⟩,
  ⟨"GZB_RESTART", 0x900020, 0x0, 1, 0x0, 1, rwk, 0xFFFFFFFF, 0x0, .any⟩,
  ⟨"GZB_RESTART_KEY", 0x900024, 0x0, 1, 0x0, 1, key, 0x0, 0x0, .any⟩,
  ⟨"GZB_HALT_COUNT", 0x900030, 0x0, 1, 0x0, 1, ro, 0x0, 0x0, .any⟩,
  ⟨"GZB_CH_CTL", 0x901000, 0x40, 16, 0x0, 1, rwm, 0x1FF, 0x0, .any⟩,
  ⟨"GZB_CH_PI", 0x901004, 0x40, 16, 0x0, 1, rwm, 0xFFFF, 0x0, .any⟩,
  ⟨"GZB_CH_CI", 0x901008, 0x40, 16, 0x0, 1, ro, 0x0, 0x0, .any⟩,
  ⟨"GZB_CH_STATUS", 0x90100C, 0x40, 16, 0x0, 1, ro, 0x0, 0x0, .any⟩,
  ⟨"GZB_CH_RING", 0x901010, 0x40, 16, 0x0, 1, lo64, 0xFFFFFFC0, 0x0, .any⟩,
  ⟨"GZB_CH_RING_HI", 0x901014, 0x40, 16, 0x0, 1, hi64, 0xFFFF, 0x0, .any⟩,
  ⟨"GZB_CH_EVT", 0x901018, 0x40, 16, 0x0, 1, ro, 0x0, 0x0, .any⟩,
  ⟨"GZB_CH_EVT_ACK", 0x90101C, 0x40, 16, 0x0, 1, rwm, 0xFFFF, 0x0, .any⟩,
  ⟨"GZB_CH_CRC", 0x901020, 0x40, 16, 0x0, 1, ro, 0x0, 0x0, .any⟩,
  ⟨"GZB_CH_DESC_DONE", 0x901024, 0x40, 16, 0x0, 1, ro, 0x0, 0x0, .any⟩,
  ⟨"GZB_CH_BAD_DESC", 0x901028, 0x40, 16, 0x0, 1, ro, 0x0, 0x0, .any⟩,
  ⟨"GZB_CH_OWN_MISS", 0x90102C, 0x40, 16, 0x0, 1, ro, 0x0, 0x0, .any⟩,
  ⟨"GZB_CH_WR_FAIL", 0x901030, 0x40, 16, 0x0, 1, ro, 0x0, 0x0, .any⟩,
  ⟨"GZB_CH_BYTES", 0x901038, 0x40, 16, 0x0, 1, ro, 0x0, 0x0, .any⟩,
  ⟨"GZB_CH_BYTES_HI", 0x90103C, 0x40, 16, 0x0, 1, ro, 0x0, 0x0, .any⟩]
open RegClass in
/-- Registers of block 10 (R32), part 1. -/
def regRows10a : List RegRow := [
  ⟨"PAV_STATUS", 0xA00000, 0x10000, 8, 0x0, 1, ro, 0x0, 0xE00000, .any⟩,
  ⟨"PAV_CAN_CTL", 0xA00100, 0x10000, 8, 0x80, 8, rws, 0xFFF0F7F, 0x50, .any⟩,
  ⟨"PAV_CAN_NBT", 0xA00104, 0x10000, 8, 0x80, 8, rws, 0x7F7FFFFF, 0x1F1F7E00, .any⟩,
  ⟨"PAV_CAN_DBT", 0xA00108, 0x10000, 8, 0x80, 8, rws, 0x7F7FFFFF, 0x9091C00, .any⟩,
  ⟨"PAV_CAN_XBT", 0xA0010C, 0x10000, 8, 0x80, 8, rws, 0x7F7FFFFF, 0x1010400, .any⟩,
  ⟨"PAV_CAN_TDC", 0xA00110, 0x10000, 8, 0x80, 8, rws, 0x1FF, 0x100, .any⟩,
  ⟨"PAV_CAN_TXTIMED", 0xA00114, 0x10000, 8, 0x80, 8, rws, 0xFFFFFFFF, 0x0, .any⟩,
  ⟨"PAV_CAN_TXKEEP", 0xA00118, 0x10000, 8, 0x80, 8, rws, 0xFFFFFFFF, 0x0, .any⟩,
  ⟨"PAV_CAN_TXLOAD", 0xA0011C, 0x10000, 8, 0x80, 8, rws, 0x1F, 0x0, .any⟩,
  ⟨"PAV_CAN_TXSTAT", 0xA00120, 0x10000, 8, 0x80, 8, ro, 0x0, 0x0, .any⟩,
  ⟨"PAV_CAN_STATUS", 0xA00124, 0x10000, 8, 0x80, 8, ro, 0x0, 0x0, .any⟩,
  ⟨"PAV_CAN_RX_OK", 0xA00128, 0x10000, 8, 0x80, 8, ro, 0x0, 0x0, .any⟩,
  ⟨"PAV_CAN_RX_NOBUF", 0xA0012C, 0x10000, 8, 0x80, 8, ro, 0x0, 0x0, .any⟩,
  ⟨"PAV_CAN_BUS_ERR", 0xA00130, 0x10000, 8, 0x80, 8, ro, 0x0, 0x0, .any⟩,
  ⟨"PAV_CAN_TX_OK", 0xA00134, 0x10000, 8, 0x80, 8, ro, 0x0, 0x0, .any⟩,
  ⟨"PAV_CAN_TX_DROP", 0xA00138, 0x10000, 8, 0x80, 8, ro, 0x0, 0x0, .any⟩,
  ⟨"PAV_CAN_TX_AGE_DROP", 0xA0013C, 0x10000, 8, 0x80, 8, ro, 0x0, 0x0, .any⟩,
  ⟨"PAV_CAN_BUS_OFF_COUNT", 0xA00140, 0x10000, 8, 0x80, 8, ro, 0x0, 0x0, .any⟩,
  ⟨"PAV_LIN_CTL", 0xA00800, 0x10000, 8, 0x40, 4, rws, 0xFFFF0037, 0x4B000000, .any⟩,
  ⟨"PAV_LIN_SCHED_CFG", 0xA00804, 0x10000, 8, 0x40, 4, rws, 0x7F, 0x1, .any⟩,
  ⟨"PAV_LIN_STATUS", 0xA00808, 0x10000, 8, 0x40, 4, ro, 0x0, 0x0, .any⟩,
  ⟨"PAV_LIN_RX_OK", 0xA0080C, 0x10000, 8, 0x40, 4, ro, 0x0, 0x0, .any⟩,
  ⟨"PAV_LIN_RX_ERR", 0xA00810, 0x10000, 8, 0x40, 4, ro, 0x0, 0x0, .any⟩,
  ⟨"PAV_LIN_NO_RESP", 0xA00814, 0x10000, 8, 0x40, 4, ro, 0x0, 0x0, .any⟩,
  ⟨"PAV_LIN_TX_OK", 0xA00818, 0x10000, 8, 0x40, 4, ro, 0x0, 0x0, .any⟩]
open RegClass in
/-- Registers of block 11 (R32), part 1. -/
def regRows11a : List RegRow := [
  ⟨"ETH_CTL", 0xB00000, 0x10000, 15, 0x0, 1, rws, 0x1FFF077F, 0x10000004, .any⟩,
  ⟨"ETH_STATUS", 0xB00004, 0x10000, 15, 0x0, 1, ro, 0x0, 0x0, .any⟩,
  ⟨"ETH_CFG", 0xB00008, 0x10000, 15, 0x0, 1, rws, 0x7FFF3FFF, 0x105F2, .any⟩,
  ⟨"ETH_TAS_CTL", 0xB00010, 0x10000, 15, 0x0, 1, rws, 0x1FF01, 0x100, .any⟩,
  ⟨"ETH_TAS_CYCLE", 0xB00014, 0x10000, 15, 0x0, 1, rws, 0x3FFFFFFF, 0xF4240, .any⟩,
  ⟨"ETH_TAS_BASE_LO", 0xB00018, 0x10000, 15, 0x0, 1, rws, 0xFFFFFFFF, 0x0, .any⟩,
  ⟨"ETH_TAS_BASE_HI", 0xB0001C, 0x10000, 15, 0x0, 1, rws, 0xFFFFFFFF, 0x0, .any⟩,
  ⟨"ETH_CBS", 0xB00020, 0x10000, 15, 0x4, 8, rws, 0xFFFFFF, 0x0, .any⟩,
  ⟨"ETH_RX_OK", 0xB00040, 0x10000, 15, 0x0, 1, ro, 0x0, 0x0, .any⟩,
  ⟨"ETH_RX_FCS_ERR", 0xB00044, 0x10000, 15, 0x0, 1, ro, 0x0, 0x0, .any⟩,
  ⟨"ETH_RX_LEN_ERR", 0xB00048, 0x10000, 15, 0x0, 1, ro, 0x0, 0x0, .any⟩,
  ⟨"ETH_RX_CTRL", 0xB0004C, 0x10000, 15, 0x0, 1, ro, 0x0, 0x0, .any⟩,
  ⟨"ETH_RX_ADMIT_DROP", 0xB00050, 0x10000, 15, 0x0, 1, ro, 0x0, 0x0, .any⟩,
  ⟨"ETH_RX_QCI_DROP", 0xB00054, 0x10000, 15, 0x0, 1, ro, 0x0, 0x0, .any⟩,
  ⟨"ETH_TX_OK", 0xB00058, 0x10000, 15, 0x0, 1, ro, 0x0, 0x0, .any⟩,
  ⟨"ETH_TX_STOMP", 0xB0005C, 0x10000, 15, 0x0, 1, ro, 0x0, 0x0, .any⟩,
  ⟨"ETH_TX_AGE_DROP", 0xB00060, 0x10000, 15, 0x0, 1, ro, 0x0, 0x0, .any⟩,
  ⟨"ETH_TX_DROP", 0xB00064, 0x10000, 15, 0x0, 1, ro, 0x0, 0x0, .any⟩,
  ⟨"ETH_ADDR_LO", 0xB00068, 0x10000, 15, 0x0, 1, rws, 0xFFFFFFFF, 0x0, .any⟩,
  ⟨"ETH_ADDR_HI", 0xB0006C, 0x10000, 15, 0x0, 1, rws, 0xFFFF, 0x0, .any⟩,
  ⟨"ETH_TUN_CTL", 0xBF0000, 0x20, 4, 0x0, 1, rws, 0xFFFFFFFF, 0x5DC00, .any⟩,
  ⟨"ETH_TUN_VID", 0xBF0004, 0x20, 4, 0x0, 1, rws, 0x1FFF, 0x0, .any⟩,
  ⟨"ETH_TUN_SID_LO", 0xBF0008, 0x20, 4, 0x0, 1, rws, 0xFFFFFFFF, 0x0, .any⟩,
  ⟨"ETH_TUN_SID_HI", 0xBF000C, 0x20, 4, 0x0, 1, rws, 0xFFFFFFFF, 0x0, .any⟩,
  ⟨"ETH_TUN_DMAC_LO", 0xBF0010, 0x20, 4, 0x0, 1, rws, 0xFFFFFFFF, 0x0, .any⟩,
  ⟨"ETH_TUN_DMAC_HI", 0xBF0014, 0x20, 4, 0x0, 1, rws, 0xFFFF, 0x0, .any⟩,
  ⟨"ETH_TUN_SEQ_GAP", 0xBF0018, 0x20, 4, 0x0, 1, ro, 0x0, 0x0, .any⟩,
  ⟨"ETH_TUN_XL_DROP", 0xBF001C, 0x20, 4, 0x0, 1, ro, 0x0, 0x0, .any⟩]
open RegClass in
/-- Registers of block 12 (R32), part 1. -/
def regRows12a : List RegRow := [
  ⟨"WKT_STATUS", 0xC00000, 0x0, 1, 0x0, 1, ro, 0x0, 0x400, .any⟩,
  ⟨"WKT_WCU_BUDGET", 0xC00004, 0x0, 1, 0x0, 1, rws, 0xFFF, 0x64, .any⟩,
  ⟨"WKT_SLEEP_CTL", 0xC00008, 0x0, 1, 0x0, 1, rwsk, 0x3, 0x0, .any⟩,
  ⟨"WKT_SLEEP_CTL_KEY", 0xC0000C, 0x0, 1, 0x0, 1, keys, 0x0, 0x0, .any⟩,
  ⟨"WKT_EVT_POP", 0xC00010, 0x0, 1, 0x0, 1, rws, 0x1, 0x0, .any⟩,
  ⟨"WKT_TIMER", 0xC00014, 0x0, 1, 0x0, 1, rws, 0xFFFFFFFF, 0x0, .any⟩,
  ⟨"WKT_KEEP", 0xC00018, 0x0, 1, 0x0, 1, rws, 0xFFFF, 0x8804, .any⟩,
  ⟨"WKT_AON_TIME", 0xC00020, 0x0, 1, 0x0, 1, ro, 0x0, 0x0, .any⟩,
  ⟨"WKT_AON_TIME_HI", 0xC00024, 0x0, 1, 0x0, 1, ro, 0x0, 0x0, .any⟩,
  ⟨"WKT_PLAN", 0xC00034, 0x4, 6, 0x0, 1, rws, 0xFFFF, 0xFFFF, .any⟩,
  ⟨"WKT_CAN_CFG", 0xC00100, 0x4, 64, 0x0, 1, rws, 0xFF0F, 0x508, .any⟩,
  ⟨"WKT_LIN_CFG", 0xC00200, 0x4, 32, 0x0, 1, rws, 0xFF01, 0xF00, .any⟩,
  ⟨"WKT_PHY_CFG", 0xC00280, 0x0, 1, 0x0, 1, rws, 0x3FFF3FFF, 0x0, .any⟩,
  ⟨"WKT_PIN_CFG", 0xC00284, 0x0, 1, 0x0, 1, rws, 0xFFFFFF, 0xA0000, .any⟩,
  ⟨"WKT_ITEM_CFG", 0xC00300, 0x4, 8, 0x0, 1, rws, 0xFFFFFFFF, 0x280A, .any⟩,
  ⟨"WKT_ITEM8_CFG", 0xC00320, 0x0, 1, 0x0, 1, rws, 0xFFFFFFFF, 0xFF280A, .any⟩,
  ⟨"WKT_ITEM9_CFG", 0xC00324, 0x4, 7, 0x0, 1, rws, 0xFFFFFFFF, 0x1FF280A, .any⟩,
  ⟨"WKT_ITEM_STATE", 0xC00340, 0x0, 1, 0x0, 1, ro, 0x0, 0x0, .any⟩,
  ⟨"WKT_WAKE_COUNT", 0xC00380, 0x0, 1, 0x0, 1, ro, 0x0, 0x0, .any⟩,
  ⟨"WKT_SLEEP_ABORT", 0xC00384, 0x0, 1, 0x0, 1, ro, 0x0, 0x0, .any⟩,
  ⟨"WKT_EVT_OVF", 0xC00388, 0x0, 1, 0x0, 1, ro, 0x0, 0x0, .any⟩,
  ⟨"WKT_BUDGET_WAIT", 0xC0038C, 0x0, 1, 0x0, 1, ro, 0x0, 0x0, .any⟩]
open RegClass in
/-- Registers of block 13 (R32), part 1. -/
def regRows13a : List RegRow := [
  ⟨"DEP_TWIN_ROLE", 0xD00000, 0x0, 1, 0x0, 1, rwk, 0xFFFFFFFF, 0x0, .any⟩,
  ⟨"DEP_TWIN_ROLE_KEY", 0xD00004, 0x0, 1, 0x0, 1, key, 0x0, 0x0, .any⟩,
  ⟨"DEP_TWIN_STATUS", 0xD00008, 0x0, 1, 0x0, 1, ro, 0x0, 0xF000, .any⟩,
  ⟨"DEP_TWIN_CFG", 0xD0000C, 0x0, 1, 0x0, 1, rwa, 0xFF01, 0x1401, .any⟩,
  ⟨"DEP_FAULT_STATUS", 0xD00010, 0x0, 1, 0x0, 1, ro, 0x0, 0x0, .any⟩,
  ⟨"DEP_FAULT_LAST", 0xD00014, 0x0, 1, 0x0, 1, ro, 0x0, 0x0, .any⟩,
  ⟨"DEP_FAULT_ACT", 0xD00018, 0x0, 1, 0x0, 1, rwk, 0xFFFFFFFF, 0x20116219, .any⟩,
  ⟨"DEP_FAULT_ACT_KEY", 0xD0001C, 0x0, 1, 0x0, 1, key, 0x0, 0x0, .any⟩,
  ⟨"DEP_WEAR_CFG", 0xD00020, 0x0, 1, 0x0, 1, rwa, 0x3FFFFF, 0x303C10, .any⟩,
  ⟨"DEP_SCRUB_CFG", 0xD00024, 0x0, 1, 0x0, 1, rwa, 0xFFFFFF, 0x3C0A, .any⟩,
  ⟨"DEP_SPARE_CMD", 0xD00028, 0x0, 1, 0x0, 1, rwk, 0xFFFFFFFF, 0x0, .any⟩,
  ⟨"DEP_SPARE_CMD_KEY", 0xD0002C, 0x0, 1, 0x0, 1, key, 0x0, 0x0, .any⟩,
  ⟨"DEP_SPARE_SUMMARY", 0xD00030, 0x0, 1, 0x0, 1, ro, 0x0, 0x80000, .any⟩,
  ⟨"DEP_SAFE_CFG", 0xD00034, 0x0, 1, 0x0, 1, rwa, 0xFFFF, 0x64, .any⟩,
  ⟨"DEP_NOTE_POP", 0xD00038, 0x0, 1, 0x0, 1, wo, 0x1, 0x0, .any⟩,
  ⟨"DEP_NOTE_STATUS", 0xD0003C, 0x0, 1, 0x0, 1, ro, 0x0, 0x0, .any⟩,
  ⟨"DEP_TWIN_TAKEOVERS", 0xD00040, 0x0, 1, 0x0, 1, ro, 0x0, 0x0, .any⟩,
  ⟨"DEP_TWIN_ACK", 0xD00044, 0x0, 1, 0x0, 1, rwa, 0xFFFFFFFF, 0x0, .any⟩,
  ⟨"DEP_SPARE_COUNT", 0xD00048, 0x0, 1, 0x0, 1, ro, 0x0, 0x0, .any⟩,
  ⟨"DEP_SPARE_ACK", 0xD0004C, 0x0, 1, 0x0, 1, rwa, 0xFFFFFFFF, 0x0, .any⟩,
  ⟨"DEP_CORR_COUNT", 0xD00050, 0x0, 1, 0x0, 1, ro, 0x0, 0x0, .any⟩,
  ⟨"DEP_CORR_ACK", 0xD00054, 0x0, 1, 0x0, 1, rwa, 0xFFFFFFFF, 0x0, .any⟩,
  ⟨"DEP_UNCORR_COUNT", 0xD00058, 0x0, 1, 0x0, 1, ro, 0x0, 0x0, .any⟩,
  ⟨"DEP_UNCORR_ACK", 0xD0005C, 0x0, 1, 0x0, 1, rwa, 0xFFFFFFFF, 0x0, .any⟩,
  ⟨"DEP_DRAM_CORR", 0xD00060, 0x0, 1, 0x0, 1, ro, 0x0, 0x0, .any⟩,
  ⟨"DEP_DRAM_CORR_ACK", 0xD00064, 0x0, 1, 0x0, 1, rwa, 0xFFFFFFFF, 0x0, .any⟩,
  ⟨"DEP_DRAM_UNCORR", 0xD00068, 0x0, 1, 0x0, 1, ro, 0x0, 0x0, .any⟩,
  ⟨"DEP_DRAM_UNCORR_ACK", 0xD0006C, 0x0, 1, 0x0, 1, rwa, 0xFFFFFFFF, 0x0, .any⟩,
  ⟨"DEP_TWIN_LOST", 0xD00070, 0x0, 1, 0x0, 1, ro, 0x0, 0x0, .any⟩,
  ⟨"DEP_TWIN_LOST_HI", 0xD00074, 0x0, 1, 0x0, 1, ro, 0x0, 0x0, .any⟩,
  ⟨"DEP_REPLAY_COUNT", 0xD00078, 0x0, 1, 0x0, 1, ro, 0x0, 0x0, .any⟩,
  ⟨"DEP_REPLAY_ACK", 0xD0007C, 0x0, 1, 0x0, 1, rwa, 0xFFFFFFFF, 0x0, .any⟩,
  ⟨"DEP_DUAL_ACTIVE", 0xD00080, 0x0, 1, 0x0, 1, ro, 0x0, 0x0, .any⟩,
  ⟨"DEP_NOTE_OVF", 0xD00084, 0x0, 1, 0x0, 1, ro, 0x0, 0x0, .any⟩,
  ⟨"DEP_SPARE_LOST", 0xD00088, 0x0, 1, 0x0, 1, ro, 0x0, 0x0, .any⟩,
  ⟨"DEP_SPARE_MAP", 0xD00100, 0x8, 64, 0x0, 1, ro, 0x0, 0x0, .any⟩,
  ⟨"DEP_SPARE_MAP_HI", 0xD00104, 0x8, 64, 0x0, 1, ro, 0x0, 0x0, .any⟩]
open RegClass in
/-- Registers of block 14 (R32), part 1. -/
def regRows14a : List RegRow := [
  ⟨"INT_STATUS", 0xE00000, 0x0, 1, 0x0, 1, ro, 0x0, 0x0, .any⟩,
  ⟨"INT_SW", 0xE00008, 0x0, 1, 0x0, 1, rwa, 0xFFFF, 0x0, .any⟩,
  ⟨"INT_EL_POP", 0xE00010, 0x0, 1, 0x0, 1, wo, 0xFFFF, 0x0, .any⟩,
  ⟨"INT_EL_OVF", 0xE00014, 0x0, 1, 0x0, 1, ro, 0x0, 0x0, .any⟩,
  ⟨"INT_EL_POP_MISS", 0xE00018, 0x0, 1, 0x0, 1, ro, 0x0, 0x0, .any⟩,
  ⟨"INT_EL_WRITTEN", 0xE0001C, 0x0, 1, 0x0, 1, ro, 0x0, 0x0, .any⟩,
  ⟨"INT_EOI", 0xE00020, 0x0, 1, 0x0, 1, wo, 0x3F, 0x0, .any⟩,
  ⟨"INT_MSG_SENT", 0xE00024, 0x0, 1, 0x0, 1, ro, 0x0, 0x0, .any⟩,
  ⟨"INT_BROWNOUT_LOST", 0xE00030, 0x0, 1, 0x0, 1, ro, 0x0, 0x0, .any⟩,
  ⟨"INT_RST_DISCARD", 0xE00034, 0x0, 1, 0x0, 1, ro, 0x0, 0x0, .any⟩,
  ⟨"INT_LIRQ_CFG", 0xE00040, 0x4, 8, 0x0, 1, rwm, 0x1FF, 0x0, .any⟩,
  ⟨"INT_TYPE_COUNT", 0xE00080, 0x4, 12, 0x0, 1, ro, 0x0, 0x0, .any⟩,
  ⟨"INT_LEVEL", 0xE00100, 0x4, 8, 0x0, 1, ro, 0x0, 0x0, .any⟩,
  ⟨"INT_VEC_LEVEL", 0xE00140, 0x4, 2, 0x0, 1, ro, 0x0, 0x0, .any⟩,
  ⟨"INT_NODE_LEVEL", 0xE00148, 0x4, 2, 0x0, 1, ro, 0x0, 0x0, .any⟩,
  ⟨"INT_NODE_MAP", 0xE00200, 0x4, 64, 0x0, 1, rwm, 0x1FF, 0x0, .any⟩,
  ⟨"INT_VECTOR", 0xE00400, 0x4, 256, 0x0, 1, rwm, 0x1FF, 0x0, .any⟩]
open RegClass in
/-- Registers of block 15 (R32), part 1. -/
def regRows15a : List RegRow := [
  ⟨"DMC_CFG", 0xF00000, 0x0, 1, 0x0, 1, rws, 0x3FF, 0x83, .lodge⟩,
  ⟨"DMC_TIMING0", 0xF00004, 0x0, 1, 0x0, 1, rws, 0xFFFFFF, 0x220F0F, .lodge⟩,
  ⟨"DMC_TIMING1", 0xF00008, 0x0, 1, 0x0, 1, rws, 0x3FFFFFF, 0x30C0E0, .lodge⟩,
  ⟨"DMC_TIMING2", 0xF0000C, 0x0, 1, 0x0, 1, rws, 0xFFFFFFF, 0xA1C251, .lodge⟩,
  ⟨"DMC_TIMING3", 0xF00010, 0x0, 1, 0x0, 1, rws, 0xFFFFFF, 0x60410, .lodge⟩,
  ⟨"DMC_ODT", 0xF00014, 0x0, 1, 0x0, 1, rws, 0x1777, 0x323, .lodge⟩,
  ⟨"DMC_VREF", 0xF00018, 0x0, 1, 0x0, 1, rws, 0x7F7F, 0x5050, .lodge⟩,
  ⟨"DMC_TRAIN", 0xF0001C, 0x0, 1, 0x0, 1, rws, 0xFF1F, 0x641F, .lodge⟩,
  ⟨"DMC_CTL", 0xF00020, 0x0, 1, 0x0, 1, rws, 0x1, 0x0, .lodge⟩,
  ⟨"DMC_STATUS", 0xF00024, 0x0, 1, 0x0, 1, ro, 0x0, 0x0, .any⟩,
  ⟨"DMC_DRIFT_CHECKS", 0xF00040, 0x0, 1, 0x0, 1, ro, 0x0, 0x0, .any⟩,
  ⟨"DMC_TRAIN_FAIL", 0xF00044, 0x0, 1, 0x0, 1, ro, 0x0, 0x0, .any⟩,
  ⟨"DMC_REFRESH_HOT", 0xF00048, 0x0, 1, 0x0, 1, ro, 0x0, 0x0, .any⟩]
open RegClass in
/-- Registers of block 16 (R32), part 1. -/
def regRows16a : List RegRow := [
  ⟨"LDG_STATUS", 0x1000000, 0x0, 1, 0x0, 1, ro, 0x0, 0x0, .any⟩,
  ⟨"LDG_BOOT_REPORT", 0x1000004, 0x0, 1, 0x0, 1, ro, 0x0, 0x0, .any⟩,
  ⟨"LDG_FW_VERSION", 0x1000008, 0x0, 1, 0x0, 1, ro, 0x0, 0x0, .any⟩,
  ⟨"LDG_MBX_CMD", 0x1000010, 0x0, 1, 0x0, 1, rws, 0xFFFFFF, 0x0, .any⟩,
  ⟨"LDG_MBX_STATUS", 0x1000014, 0x0, 1, 0x0, 1, ro, 0x0, 0x0, .any⟩,
  ⟨"LDG_BOOT_REJECTS", 0x1000020, 0x0, 1, 0x0, 1, ro, 0x0, 0x0, .any⟩,
  ⟨"LDG_MBX_REJECT", 0x1000024, 0x0, 1, 0x0, 1, ro, 0x0, 0x0, .any⟩,
  ⟨"LDG_ARC_RESTARTS", 0x1000028, 0x0, 1, 0x0, 1, ro, 0x0, 0x0, .any⟩,
  ⟨"LDG_KIOSK_FAIL", 0x100002C, 0x0, 1, 0x0, 1, ro, 0x0, 0x0, .any⟩]

/-- The rows of one block (R32). -/
def regRowsOf (b : Nat) : List RegRow :=
  match b with
  | 0 => regRows00a
  | 1 => regRows01a
  | 2 => regRows02a
  | 3 => regRows03a
  | 4 => regRows04a
  | 5 => regRows05a
  | 6 => regRows06a ++ regRows06b
  | 7 => regRows07a
  | 8 => regRows08a
  | 9 => regRows09a
  | 10 => regRows10a
  | 11 => regRows11a
  | 12 => regRows12a
  | 13 => regRows13a
  | 14 => regRows14a
  | 15 => regRows15a
  | 16 => regRows16a
  | _ => []
end Sys2Proof.Machine
end

