-- ==== Sys2Proof/Machine/Ops.lean ====
section
/-!
DEFINITION. The named operations over the device's plain data: sparse stores, registers and their fields, counters, memory bytes, the
outputs of a command, fresh numbers and the error log. Every later operation reads and writes the device through these.
-/
namespace Sys2Proof.Machine

/-! ### Sparse stores -/

/-- The cell numbered `a`; zero where none is listed. -/
def cellGet {w : Nat} : Sparse w → Nat → BitVec w
  | [], _ => 0
  | (k, v) :: t, a => if k = a then v else if a < k then 0 else cellGet t a

/-- The store with cell `a` set to `v`; setting zero removes the entry, so equal contents are equal lists. -/
def cellSet {w : Nat} : Sparse w → Nat → BitVec w → Sparse w
  | [], a, v => if v = 0 then [] else [(a, v)]
  | (k, x) :: t, a, v =>
    if a < k then (if v = 0 then (k, x) :: t else (a, v) :: (k, x) :: t)
    else if a = k then (if v = 0 then t else (a, v) :: t)
    else (k, x) :: cellSet t a v

/-- Every listed number lies above `b`, the numbers rise and no cell is zero. -/
def cellsAbove {w : Nat} : Nat → Sparse w → Bool
  | _, [] => true
  | b, (k, v) :: t => b ≤ k && v != 0 && cellsAbove (k + 1) t

/-- The canonical form of a sparse store. -/
def cellsWf {w : Nat} (m : Sparse w) : Bool := cellsAbove 0 m

/-- The store without the cells numbered `lo` up to but not including `hi`. -/
def cellsClear {w : Nat} (m : Sparse w) (lo hi : Nat) : Sparse w := m.filter fun c => decide (c.1 < lo) || decide (hi ≤ c.1)

/-- The cells numbered `lo` up to but not including `hi`. -/
def cellsIn {w : Nat} (m : Sparse w) (lo hi : Nat) : Sparse w := m.filter fun c => decide (lo ≤ c.1) && decide (c.1 < hi)

/-- The store with the listed cells set one after the other. -/
def cellsPut {w : Nat} (m new : Sparse w) : Sparse w := new.foldl (fun acc c => cellSet acc c.1 c.2) m

/-! ### Fields of words -/

/-- Bits `lo` up to `lo + n − 1` of a number. -/
def bitsOf (x lo n : Nat) : Nat := x / 2 ^ lo % 2 ^ n

/-- Field [lo+n−1:lo] of a word. -/
def fieldOf (v : Word) (lo n : Nat) : Nat := bitsOf v.toNat lo n

/-- The word with field [lo+n−1:lo] set to `x` (modulo its width). -/
def setField (v : Word) (lo n x : Nat) : Word :=
  BitVec.ofNat 32 (v.toNat - fieldOf v lo n * 2 ^ lo + x % 2 ^ n * 2 ^ lo)

/-- A bit as a number. -/
def b2n (b : Bool) : Nat := if b then 1 else 0

/-- The number whose bit `i` is `p i`, for `i` below `n`. -/
def maskOf (n : Nat) (p : Nat → Bool) : Nat := (List.range n).foldl (fun acc i => if p i then acc + 2 ^ i else acc) 0

/-- `n` bytes of a number, least significant first (R5). -/
def leBytes : Nat → Nat → List Byte
  | 0, _ => []
  | n + 1, x => BitVec.ofNat 8 x :: leBytes n (x / 256)

/-- The number that bytes spell, least significant first (R5). -/
def leNat : List Byte → Nat
  | [] => 0
  | b :: t => b.toNat + 256 * leNat t

/-- A word with the bytes its byte enables name replaced. -/
def mergeWord (old new : Word) (be : BitVec 4) : Word :=
  let m : Nat := maskOf 32 fun i => be.getLsbD (i / 8)
  (old &&& ~~~(BitVec.ofNat 32 m)) ||| (new &&& BitVec.ofNat 32 m)

/-! ### Registers -/

/-- The stored value of the register at a register-space offset. -/
def Dev.rd (d : Dev) (off : Nat) : Word := cellGet d.regs off

/-- The device with the stored value of a register set. -/
def Dev.wr (d : Dev) (off : Nat) (v : Word) : Dev := { d with regs := cellSet d.regs off v }

/-- Field [lo+n−1:lo] of a stored register. -/
def Dev.fld (d : Dev) (off lo n : Nat) : Nat := fieldOf (d.rd off) lo n

/-- One bit of a stored register. -/
def Dev.flag (d : Dev) (off i : Nat) : Bool := d.fld off i 1 == 1

/-- The device with field [lo+n−1:lo] of a register set to `x`. -/
def Dev.setFld (d : Dev) (off lo n x : Nat) : Dev := d.wr off (setField (d.rd off) lo n x)

/-- A free-running 32-bit counter advances by `n`, wrapping to zero (R44). -/
def Dev.bump (d : Dev) (off : Nat) (n : Nat := 1) : Dev := d.wr off (d.rd off + BitVec.ofNat 32 n)

/-- A 64-bit counter held in the two words at `off` and `off + 4` advances by `n` (R44). -/
def Dev.bump64 (d : Dev) (off : Nat) (n : Nat := 1) : Dev :=
  let x := (d.rd off).toNat + 2 ^ 32 * (d.rd (off + 4)).toNat + n
  (d.wr off (BitVec.ofNat 32 x)).wr (off + 4) (BitVec.ofNat 32 (x / 2 ^ 32))

/-- The 64-bit value in the words at `off` and `off + 4`. -/
def Dev.rd64 (d : Dev) (off : Nat) : Nat := (d.rd off).toNat + 2 ^ 32 * (d.rd (off + 4)).toNat

/-- The device with the 64-bit value at `off` set. -/
def Dev.wr64 (d : Dev) (off x : Nat) : Dev := (d.wr off (BitVec.ofNat 32 x)).wr (off + 4) (BitVec.ofNat 32 (x / 2 ^ 32))

/-! ### Memory -/

/-- The byte at a local address (R57). -/
def Dev.byteAt (d : Dev) (a : Nat) : Byte := cellGet d.mem a

/-- The device with one byte of memory set. -/
def Dev.setByte (d : Dev) (a : Nat) (b : Byte) : Dev := { d with mem := cellSet d.mem a b }

/-- `n` bytes from a local address on. -/
def Dev.bytesAt (d : Dev) : Nat → Nat → List Byte
  | _, 0 => []
  | a, n + 1 => d.byteAt a :: d.bytesAt (a + 1) n

/-- The device with the enabled bytes stored from a local address on. -/
def Dev.setBytes (d : Dev) : Nat → WData → Dev
  | _, [] => d
  | a, none :: t => d.setBytes (a + 1) t
  | a, some b :: t => (d.setByte a b).setBytes (a + 1) t

/-- The little-endian number in `n` bytes of memory. -/
def Dev.numAt (d : Dev) (a n : Nat) : Nat := leNat (d.bytesAt a n)

/-- The device with `n` bytes of memory set to a little-endian number. -/
def Dev.setNum (d : Dev) (a n x : Nat) : Dev := d.setBytes a ((leBytes n x).map some)

/-- Bytes with every byte enable on. -/
def allOn (l : List Byte) : WData := l.map some

/-! ### Outputs, fresh numbers and time -/

/-- The device with an output recorded after those before it. -/
def Dev.emit (d : Dev) (e : Emit) : Dev := { d with out := d.out ++ [e] }

/-- The device with a next fresh number taken: the argument of the next free value. -/
def Dev.tick (d : Dev) : Dev := { d with fresh := d.fresh + 1 }

/-- The device ID, SYS_DEVID[9:0] (R50, R55). -/
def Dev.devid (d : Dev) : Nat := d.fld Reg.sysDevid 0 10

/-- The stamp of a cell that enters the Pergola now, VT[39:0] (R13). -/
def Dev.stamp (d : Dev) : Nat := d.blv.vt % 2 ^ 40

/-- A cell's age (R14); an age of 2^39 ns or more exceeds every limit. -/
def Dev.age (d : Dev) (ts : Nat) : Nat := (d.stamp + 2 ^ 40 - ts % 2 ^ 40) % 2 ^ 40

/-! ### Error log -/

/-- The code of an error type (R278). -/
def errCode : ErrType → Nat
  | .decode => 1 | .timeout => 2 | .berr => 3 | .parity => 4 | .decUncorr => 5 | .lockBroken => 6 | .ageDrop => 7
  | .perm => 8 | .peerDown => 9 | .replayDup => 10 | .prefDiscardSide => 11

/-- The error type of a code, where one has it (R278). -/
def errOfCode : Nat → Option ErrType
  | 1 => some .decode | 2 => some .timeout | 3 => some .berr | 4 => some .parity | 5 => some .decUncorr
  | 6 => some .lockBroken | 7 => some .ageDrop | 8 => some .perm | 9 => some .peerDown | 10 => some .replayDup
  | 11 => some .prefDiscardSide | _ => none

/-- Whose access failed and how, as a log entry shows it (R282). -/
structure Culprit where
  agent : Nat := 0x7F
  orig : Nat := 0
  path : Nat := 11
  posted : Bool := false
  write : Bool := false
  errResp : Bool := false
  timed : Bool := false
  remote : Bool := false
  winNum : Nat := 0
  winFam : Nat := 0

/-- One failure, or `count` failures in one entry, is logged (R279, R282, R284). A full log keeps its oldest entries, counts the report
in INT_EL_OVF and marks the next entry LOST. -/
def Dev.log (d : Dev) (c : Culprit) (type : ErrType) (ga detail : Nat) (count : Nat := 1) : Dev :=
  let d := d.bump (Reg.intTypeCount + 4 * errCode type) count
  if 64 ≤ d.elog.entries.length then
    { d with elog := { d.elog with lost := true } }.bump Reg.intElOvf
  else
    let e : LogEntry :=
      { vt := d.blv.vt, ga := ga, orig := c.orig, type := type, agent := c.agent, path := c.path, posted := c.posted,
        write := c.write, errResp := c.errResp, timed := c.timed, remote := c.remote, lost := d.elog.lost,
        winNum := c.winNum, winFam := c.winFam, count := min count 65535, detail := detail, seq := d.elog.nextSeq }
    { d with elog := { entries := d.elog.entries ++ [e], nextSeq := (d.elog.nextSeq + 1) % 65536, lost := false } }.bump
      Reg.intElWritten

/-- The 32 bytes of a log entry (R282). -/
def LogEntry.bytes (e : LogEntry) : List Byte :=
  leBytes 8 e.vt ++ leBytes 6 e.ga ++ leBytes 2 e.orig ++ leBytes 1 (errCode e.type) ++ leBytes 1 e.agent ++ leBytes 1 e.path ++
    leBytes 1 (b2n e.posted + 2 * b2n e.write + 4 * b2n e.errResp + 8 * b2n e.timed + 16 * b2n e.remote + 32 * b2n e.lost) ++
    leBytes 2 (e.winNum % 32 + 32 * e.winFam) ++ leBytes 2 e.count ++ leBytes 6 e.detail ++ leBytes 2 e.seq

end Sys2Proof.Machine
end

