-- ==== Sys2Proof/Machine/Operands.lean ====
section
/-!
DEFINITION. Every operand form of the bridge: address windows and zones and their attributes (R61–R82), the local map and the routing of
global addresses (R55–R60, R165), byte lanes and the shaping of L-bus cycles (R191–R203), and the split of transfers (R100, R103, R206).
-/
namespace Sys2Proof.Machine

/-! ### Windows and zones -/

/-- How many windows a family has (R63). -/
def winCount : WinFam → Nat
  | .iw => 32 | .ow => 32 | .lw => 16 | .lz => 8

/-- The register-space offset of a window's registers (R83). -/
def winBase : WinFam → Nat → Nat
  | .iw, n => Reg.winIwCtl + 0x20 * n
  | .ow, n => Reg.winOwCtl + 0x20 * n
  | .lw, n => Reg.winLwCtl + 0x20 * n
  | .lz, n => Reg.winLzCtl + 0x20 * n

/-- Bit `i` of WIN_xxn_CTL (R89). -/
def Dev.winBit (d : Dev) (f : WinFam) (n i : Nat) : Bool := d.flag (winBase f n) i

/-- EN of a window or zone. -/
def Dev.winEn (d : Dev) (f : WinFam) (n : Nat) : Bool := d.winBit f n 0

/-- The size S of a window or zone in bytes, 2^(SIZE+12) (R63). -/
def Dev.winSize (d : Dev) (f : WinFam) (n : Nat) : Nat := 2 ^ (d.fld (winBase f n) 1 5 + 12)

/-- The base address B of a window or zone (R90). -/
def Dev.winBaseAddr (d : Dev) (f : WinFam) (n : Nat) : Nat := (d.rd (winBase f n + 0x0C)).toNat * 4096

/-- The 64-bit TGT of a window (R90). -/
def Dev.winTgt (d : Dev) (f : WinFam) (n : Nat) : Nat := d.rd64 (winBase f n + 0x10)

/-- A window or zone matches an address (R63); a DOMAIN_GW window decodes no aperture address (R82). -/
def Dev.winMatches (d : Dev) (f : WinFam) (n a : Nat) : Bool :=
  d.winEn f n && a / d.winSize f n == d.winBaseAddr f n / d.winSize f n && !(f == .ow && d.winBit f n 13)

/-- The lowest-numbered matching window (R64). -/
def Dev.winFind (d : Dev) (f : WinFam) (a : Nat) : Option Nat := (List.range (winCount f)).find? fun n => d.winMatches f n a

/-- The views of a window (R74). -/
inductive View where
  | plain | rsvLoad | condStore | none
  deriving DecidableEq, Repr

/-- The view of a window an address lies in (R74); a window with RSV = 0 is one plain view. -/
def Dev.winView (d : Dev) (f : WinFam) (n a : Nat) : View :=
  if d.winBit f n 9 then
    match a % d.winSize f n / (d.winSize f n / 4) with
    | 0 => .plain
    | 1 => .rsvLoad
    | 2 => .condStore
    | _ => .none
  else .plain

/-- The GA a matched window gives an address (R63, R74). -/
def Dev.winGa (d : Dev) (f : WinFam) (n a : Nat) : Nat :=
  let s := d.winSize f n
  let off := if d.winBit f n 9 then a % (s / 4) else a % s
  (d.winTgt f n / s * s + off) % 2 ^ 48

/-- The PCIe address an outbound window gives an aperture offset, or, with DOMAIN_GW = 1, a foreign GA (R63, R82). -/
def Dev.owAddr (d : Dev) (n ga : Nat) : Nat :=
  if d.winBit .ow n 13 then d.winTgt .ow n / 2 ^ 48 * 2 ^ 48 + ga % 2 ^ 48
  else
    let s := d.winSize .ow n
    d.winTgt .ow n / s * s + (ga % 2 ^ 38 - 0x30_0000_0000) % s

/-- MAX_AGE of a window or zone in ns; 0 means no limit (R77, R89). -/
def Dev.winAge (d : Dev) (f : WinFam) (n : Nat) : Nat :=
  d.fld (winBase f n + 4) 0 14 *
    match d.fld (winBase f n + 4) 14 2 with
    | 0 => 100 | 1 => 1000 | 2 => 10000 | _ => 100000

/-- A cell stamped `ts` exceeds an age limit (R14, R77). -/
def Dev.tooOld (d : Dev) (ts limit : Nat) : Bool := limit != 0 && (limit < d.age ts || 2 ^ 39 ≤ d.age ts)

/-- PREF_SIZE in bytes (R89). -/
def Dev.prefSize (d : Dev) (f : WinFam) (n : Nat) : Nat :=
  match d.fld (winBase f n + 8) 14 2 with
  | 1 => 128 | 2 => 256 | _ => 64

/-- The smaller of two limits of which 0 means none (R77). -/
def minLimit (a b : Nat) : Nat := if a = 0 then b else if b = 0 then a else min a b

/-! ### Attributes of an ingress -/

/-- The window family and number of an ingress, where it entered through a window (R68). -/
def Ingress.window : Ingress → Option (WinFam × Nat)
  | .iw n => some (.iw, n)
  | .lw n _ => some (.lw, n)
  | _ => none

/-- Bit `i` of the ingress window's CTL; `dflt` for an ingress without a window (R69, R94). -/
def Dev.ingBit (d : Dev) (g : Ingress) (i : Nat) (dflt : Bool) : Bool :=
  match g.window with
  | some (f, n) => d.winBit f n i
  | none => dflt

/-- EA of the ingress (R69, R70, R94). -/
def Dev.ingEa (d : Dev) (g : Ingress) : Bool := d.ingBit g 6 true

/-- The requester receives failures as errors: SYNCERR = 1, BAR 0, and every requester without a window (R69, R73, R94). -/
def Dev.ingSyncErr (d : Dev) (g : Ingress) : Bool := d.ingBit g 10 true

/-- ORDER_STRICT of the ingress (R75). -/
def Dev.ingStrict (d : Dev) (g : Ingress) : Bool := d.ingBit g 11 false

/-- STOP_ON_ERR of the ingress (R76). -/
def Dev.ingStop (d : Dev) (g : Ingress) : Bool := d.ingBit g 12 false

/-- MAX_AGE of the ingress (R69, R77). -/
def Dev.ingAge (d : Dev) (g : Ingress) : Nat :=
  match g.window with
  | some (f, n) => d.winAge f n
  | none => 0

/-- WIN_FAM and WIN_NUM of a log entry for an ingress (R282). -/
def Ingress.logWin : Ingress → Nat × Nat
  | .bar0 => (5, 0)
  | .iw n => (1, n)
  | .lw n _ => (3, n)
  | .link n _ => (6, n)
  | _ => (0, 0)

/-- The window of a log entry: the ingress window, otherwise the zone, outbound window or link of the target (R282). -/
def logWinOf (g : Ingress) (t : Target) : Nat × Nat :=
  match g.logWin with
  | (0, _) =>
    match t with
    | .zone n => (4, n)
    | .ow n => (2, n)
    | .link n _ => (6, n)
    | _ => (0, 0)
  | w => w

/-- The PATH code of a posted-write path (R282). -/
def wpathCode : WPath → Nat
  | .h2l => 2 | .l2h => 3 | .itm n => 4 + n.val | .direct => 9

/-- The PATH code of a request: a posted write's path; otherwise the side it entered from (R282, DEDUCED, log 12). -/
def Req.pathCode (r : Req) : Nat :=
  if r.posted then wpathCode r.path
  else
    match r.ing with
    | .bar0 | .iw _ => 0
    | .lw _ _ => 3
    | .link n _ => 4 + n
    | _ =>
      match r.tgt with
      | .zone _ => 2 | .ow _ => 1 | .link n _ => 4 + n | .reg => 10 | _ => 9

/-- The requester of a non-posted write through a host window gets no answer (R280). -/
def Req.answered (r : Req) : Bool :=
  !r.posted && !((r.op == .write || r.op == .condStore) && r.agent < 32)

/-- What the log shows of a request (R279–R282). -/
def Req.culprit (d : Dev) (r : Req) : Culprit :=
  { agent := r.agent, orig := r.orig, path := r.pathCode, posted := r.posted,
    write := decide (r.op ≠ .read) && decide (r.op ≠ .rsvLoad),
    errResp := r.answered && d.ingSyncErr r.ing,
    timed := r.agent == 62, remote := r.remote,
    winFam := (logWinOf r.ing r.tgt).1, winNum := (logWinOf r.ing r.tgt).2 }

/-! ### The local map and routing -/

/-- The target one local address decodes to, or the DETAIL of the DECODE (R57, R283). -/
def Dev.localByte (d : Dev) (l : Nat) : Except Nat Target :=
  if l < 0x00_1000_0000 then .ok .reg
  else if 0x01_0000_0000 ≤ l ∧ l < 0x01_0040_0000 then .ok .sram
  else if 0x10_0000_0000 ≤ l ∧ l < 0x14_0000_0000 then
    if l - 0x10_0000_0000 < d.fld Reg.winDramSize 0 9 * 2 ^ 26 then .ok .dram else .error 1
  else if 0x20_0000_0000 ≤ l ∧ l < 0x21_0000_0000 then
    match d.winFind .lz (l % 2 ^ 32) with
    | some n => .ok (.zone n)
    | none => .error 2
  else if 0x30_0000_0000 ≤ l ∧ l < 0x40_0000_0000 then
    match d.winFind .ow (l - 0x30_0000_0000) with
    | some n => .ok (.ow n)
    | none => .error 3
  else .error 1

/-- The target of a local access of `len` bytes; one that spans two regions, windows or zones ends as DECODE with DETAIL 4 (R59). -/
def Dev.localTarget (d : Dev) (l len : Nat) : Except Nat Target :=
  match d.localByte l with
  | .error e => .error e
  | .ok t =>
    match d.localByte (l + (len - 1)) with
    | .ok t' => if t = t' then .ok t else .error 4
    | .error _ => .error 4

/-- The role of an Itmos link (R188): 1 UP, 2 UP_ALT, 3 DN, 4 TWIN, anything else OFF. -/
def Dev.linkRole (d : Dev) (n : Nat) : Nat := d.fld (Reg.itmLinkCtl + 0x40 * n) 0 3

/-- The link record of link `n`. -/
def Dev.link (d : Dev) (n : Nat) : Link := d.itm.getD n {}

/-- A link that carries requests: UP, and its peer reports ACTIVE or no twin state (R165). -/
def Dev.linkUsable (d : Dev) (n : Nat) : Bool := (d.link n).state == .up && (d.link n).peerTwin != 2

/-- The lowest link with a role. -/
def Dev.roleLink (d : Dev) (role : Nat) : Option Nat := (List.range 5).find? fun n => d.linkRole n == role

/-- The up route: the UP link where usable, otherwise the UP_ALT link (R165). -/
def Dev.upRoute (d : Dev) : Option Nat :=
  match (d.roleLink 1).filter (d.linkUsable ·) with
  | some n => some n
  | none => (d.roleLink 2).filter (d.linkUsable ·)

/-- The link toward node `m` of the own domain, or the way the request ends (R165). -/
def Dev.routeNode (d : Dev) (m : Nat) : Except ErrType Nat :=
  let e := Reg.itmRoute + 4 * m
  if d.fld e 0 3 ≤ 4 then
    if d.linkUsable (d.fld e 0 3) then .ok (d.fld e 0 3)
    else if d.flag e 6 && decide (d.fld e 3 3 ≤ 4) && d.linkUsable (d.fld e 3 3) then .ok (d.fld e 3 3)
    else .error .peerDown
  else
    match d.upRoute with
    | some n => .ok n
    | none => if (d.roleLink 1).isSome || (d.roleLink 2).isSome then .error .peerDown else .error .decode

/-- The lowest-numbered enabled outbound window with DOMAIN_GW = 1 (R82). -/
def Dev.domainGw (d : Dev) : Option Nat := (List.range 32).find? fun n => d.winEn .ow n && d.winBit .ow n 13

/-- The route of a GA: the first case of R56 that matches, or the error type and DETAIL it ends with. -/
def Dev.route (d : Dev) (ga len : Nat) : Except (ErrType × Nat) Target :=
  let dst := ga / 2 ^ 38 % 1024
  if dst = d.devid then
    match d.localTarget (ga % 2 ^ 38) len with
    | .ok t => .ok t
    | .error e => .error (.decode, e)
  else if dst / 64 = d.devid / 64 then
    match d.routeNode (dst % 64) with
    | .ok n => .ok (.link n dst)
    | .error .peerDown => .error (.peerDown, d.fld (Reg.itmRoute + 4 * (dst % 64)) 0 3)
    | .error e => .error (e, 1)
  else
    match d.domainGw with
    | some n => .ok (.ow n)
    | none =>
      match d.upRoute with
      | some n => .ok (.link n dst)
      | none => .error (.decode, 3)

/-! ### Byte lanes and the shaping of cycles -/

/-- The size of the ADDR_INV piece that holds offset `a` of a run of bytes `lo` to `hi` of one 8-byte group (R192). -/
def pieceSize (lo hi a : Nat) : Nat → Nat
  | 0 => 1
  | fuel + 1 =>
    let n := if lo % 8 = 0 ∧ lo + 7 ≤ hi then 8 else if lo % 4 = 0 ∧ lo + 3 ≤ hi then 4
      else if lo % 2 = 0 ∧ lo + 1 ≤ hi then 2 else 1
    if a < lo + n then n else pieceSize (lo + n) hi a fuel

/-- The run of enabled offsets of an 8-byte group that holds `a`. -/
def runOf (en : Nat → Bool) (a : Nat) : Nat × Nat :=
  let lo := (List.range (a + 1)).foldl (fun acc i => if en i then acc else i + 1) 0
  let hi := (List.range (8 - a)).foldl (fun acc i => if acc.2 && en (a + i) then (a + i, true) else (acc.1, false)) (a, true)
  (lo, hi.1)

/-- Step 1 of R191: the L-bus offset of the byte at offset `a` of an 8-byte group, under a SWAP value, where `en` are the enabled
offsets of the group. -/
def swapOff (swap : Nat) (en : Nat → Bool) (a : Nat) : Nat :=
  match swap with
  | 1 => let r := runOf en a; a ^^^ (8 - pieceSize r.1 r.2 a 8)
  | 2 => a ^^^ 1
  | 3 => a ^^^ 3
  | 4 => a ^^^ 7
  | _ => a

/-- The L-bus address of the byte at GA[31:0] = `g` of a request that enables the bytes `en` (R191). -/
def swapAddr (swap : Nat) (en : Nat → Bool) (g : Nat) : Nat :=
  g / 8 * 8 + swapOff swap (fun i => en (g / 8 * 8 + i)) (g % 8)

/-- The lane of the byte at L-bus address `a` for a port of `w` bytes (R193). -/
def laneOf (big : Bool) (w a : Nat) : Nat := if big then w - 1 - a % w else a % w

/-- The port width of a zone in bytes (R89). -/
def Dev.zoneW (d : Dev) (n : Nat) : Nat :=
  match d.fld (winBase .lz n + 8) 4 2 with
  | 0 => 1 | 1 => 2 | _ => 4

/-- The burst boundary of a zone in bytes (R89). -/
def Dev.zoneBb (d : Dev) (n : Nat) : Nat :=
  match d.fld (winBase .lz n + 8) 6 3 with
  | 0 => 16 | 1 => 32 | 2 => 64 | 3 => 128 | _ => 256

/-- BO = BIG of a window or zone (R89). -/
def Dev.winBig (d : Dev) (f : WinFam) (n : Nat) : Bool := d.flag (winBase f n + 8) 0

/-- SWAP of a window or zone (R89). -/
def Dev.winSwap (d : Dev) (f : WinFam) (n : Nat) : Nat := d.fld (winBase f n + 8) 1 3

/-- A list of byte addresses is contiguous and rising. -/
def contiguous : List Nat → Bool
  | a :: b :: t => b == a + 1 && contiguous (b :: t)
  | _ => true

/-- An address put into a rising list that does not repeat it. -/
def insAddr (a : Nat) : List Nat → List Nat
  | [] => [a]
  | b :: t => if a < b then a :: b :: t else if a = b then b :: t else b :: insAddr a t

/-- Addresses in rising order, each once. -/
def sortAddrs (l : List Nat) : List Nat := l.foldr insAddr []

/-- The bytes of a rising address list grouped by `w`-aligned word (R193). -/
def groupWords (w : Nat) : List Nat → List (List Nat)
  | [] => []
  | a :: t =>
    match groupWords w t with
    | (b :: g) :: r => if a / w = b / w then (a :: b :: g) :: r else [a] :: (b :: g) :: r
    | r => [a] :: r

/-- Consecutive words joined into runs (R197): a word whose bytes have a hole stands alone, and a run goes on while its bytes stay
contiguous within one burst-boundary chunk. -/
def groupRuns (bb : Nat) : List (List Nat) → List (List (List Nat))
  | [] => []
  | g :: t =>
    match groupRuns bb t with
    | (h :: q) :: r =>
      if contiguous g && contiguous h && decide (g.getLast?.getD 0 + 1 = h.headD 0) && decide (g.headD 0 / bb = h.headD 0 / bb)
      then (g :: h :: q) :: r else [g] :: (h :: q) :: r
    | r => [g] :: r

/-- A run of words cut into 8-beat bursts, then a 4-beat burst, then single beats (R197). -/
def cutRun : Nat → List (List Nat) → List (List (List Nat))
  | 0, _ => []
  | _ + 1, [] => []
  | fuel + 1, ws =>
    let k := if 8 ≤ ws.length then 8 else if 4 ≤ ws.length then 4 else 1
    ws.take k :: cutRun fuel (ws.drop k)

/-- The cycles of one run (R197): a word with a hole takes one single-beat cycle per byte. -/
def runCycles (single : Bool) (run : List (List Nat)) : List (List (List Nat)) :=
  match run with
  | [g] => if contiguous g then [[g]] else g.map fun a => [[a]]
  | ws => if single then ws.map fun g => [g] else cutRun ws.length ws

/-- The cycles of a set of L-bus byte addresses (R197); `single` for a locked sequence, whose cycles are single-beat (R198). -/
def shape (w bb : Nat) (single write : Bool) (s : List Nat) : List BusCycle :=
  ((groupRuns bb (groupWords w (sortAddrs s))).flatMap (runCycles single)).map fun c =>
    { write := write, lock := single, beats := c.map fun b => { bytes := b } }

/-- LBE_N of a beat: low on the lanes of its bytes (R193, R203). -/
def beatBeN (big : Bool) (w : Nat) (bytes : List Nat) : Nat :=
  15 - maskOf 4 fun i => bytes.any fun a => laneOf big w a == i

/-- LAD of a write beat: each byte on its lane, zero elsewhere (R193). -/
def beatLad (big : Bool) (w : Nat) (val : Nat → Byte) (bytes : List Nat) : Nat :=
  bytes.foldl (fun acc a => acc + (val a).toNat * 2 ^ (8 * laneOf big w a)) 0

/-- The byte a beat's LAD carries for L-bus address `a`. -/
def ladByte (big : Bool) (w : Nat) (lad : Word) (a : Nat) : Byte := BitVec.ofNat 8 (bitsOf lad.toNat (8 * laneOf big w a) 8)

/-- LPAR of a LAD value: even parity per lane (R208). -/
def lparOf (lad : Nat) : Nat := maskOf 4 fun i => (List.range 8).foldl (fun p j => xor p (lad.testBit (8 * i + j))) false

/-! ### Splitting transfers -/

/-- An access cut at multiples of `chunk`: start and length of each part (R100, R103). -/
def splitAt (chunk : Nat) : Nat → Nat → Nat → List (Nat × Nat)
  | 0, _, _ => []
  | fuel + 1, a, n =>
    if n = 0 then []
    else
      let k := min n (chunk - a % chunk)
      (a, k) :: splitAt chunk fuel (a + k) (n - k)

/-- The contiguous runs of enabled bytes of a write: offset and bytes of each (R206). -/
def wruns : Nat → WData → List (Nat × List Byte)
  | _, [] => []
  | i, none :: t => wruns (i + 1) t
  | i, some b :: t =>
    match wruns (i + 1) t with
    | (j, bs) :: r => if j = i + 1 then (i, b :: bs) :: r else (i, [b]) :: (j, bs) :: r
    | [] => [(i, [b])]

/-- A contiguous run cut so that no part exceeds `mps` bytes or crosses a 4 KiB boundary, from an address on (R103). -/
def splitRun (mps addr : Nat) (bs : List Byte) : List (Nat × List Byte) :=
  ((splitAt 4096 (bs.length + 1) addr bs.length).flatMap fun p =>
    (List.range ((p.2 + mps - 1) / mps)).map fun i => (p.1 + i * mps, min mps (p.2 - i * mps))).map
      fun p => (p.1, (bs.drop (p.1 - addr)).take p.2)

/-- First and last byte enables of a transfer of `n` bytes from an address on (R160). -/
def byteEnables (addr n : Nat) : Nat × Nat × Nat :=
  let dw := if n = 0 then 0 else (addr % 4 + n + 3) / 4
  let fbe := if n = 0 then 0 else maskOf 4 fun i => addr % 4 ≤ i && (decide (1 < dw) || i < addr % 4 + n)
  let lbe := if dw ≤ 1 then 0 else maskOf 4 fun i => i ≤ (addr + n - 1) % 4
  (dw, fbe, lbe)

end Sys2Proof.Machine
end

