-- ==== Sys2Proof/Machine/Flags.lean ====
section
/-!
DEFINITION. Levels and derived state: the interrupt sources (R292), vectors, pins and node summaries (R293–R296), and what a change of a
level sends at once (R179, R294).
-/
namespace Sys2Proof.Machine

/-- The table generation current now (R16). -/
def Dev.generation (d : Dev) : Nat := d.fld Reg.trlGen 0 8

/-- The path's posted writes are mirrored while PROTECTED = 1 (R440, R443). -/
def Dev.mirrors (d : Dev) (p : WPath) : Bool :=
  match p with
  | .h2l => true
  | .l2h => true
  | .itm _ => d.flag Reg.depTwinCfg 0
  | .direct => false

/-- A twin that has started and is not ACTIVE: STANDBY, and SYNCING and UNSYNC, which drive nothing either (R437, R439; DEDUCED, log 13). -/
def Dev.standby (d : Dev) : Bool := d.twin.state == .starting || d.twin.state == .syncing || d.twin.state == .standby || d.twin.state == .unsync

/-- The device has silenced its outputs and stopped forwarding and bridging: safe state (R434), FAILED until its restart (R437, R442), or the
item that holds the bridge and its blocks, item 8, is off (R417). -/
def Dev.silent (d : Dev) : Bool := d.dep.safe || d.twin.state == .failed || !(d.wkt.items.getD 8 {}).on

/-- The device drives its buses: it is not silent and no STANDBY twin. -/
def Dev.live (d : Dev) : Bool := !d.silent && !d.standby

/-! ### Registers and levels of the blocks -/

/-- A register of channel `c` (R324). -/
def gzbReg (base c : Nat) : Nat := base + 0x40 * c

/-- A register of CAN channel `ch`, numbered as its egress (R363). -/
def canReg (r ch : Nat) : Nat := r + 0x1_0000 * (ch / 8) + 0x80 * (ch % 8)

/-- A register of LIN channel `l` (R363). -/
def linReg (r l : Nat) : Nat := r + 0x1_0000 * (l / 4) + 0x40 * (l % 4)

/-- A register of MAC `i` (R364). -/
def ethReg (r i : Nat) : Nat := r + 0x1_0000 * i

/-- A register of ring `r` (R362). -/
def capReg (r n : Nat) : Nat := r + 0x20 * n

/-- The slots of a ring (R362): SIZE_LOG 6–16, others act as 6. -/
def Dev.capSize (d : Dev) (r : Nat) : Nat := let n := d.fld (capReg Reg.pglCrCfg r) 1 5; 2 ^ (if 6 ≤ n ∧ n ≤ 16 then n else 6)

/-- The slots that records not yet committed will take. -/
def Dev.capAhead (d : Dev) (r : Nat) : Nat := ((d.frm.caps.filter fun c => c.ring == r).map (·.slots)).foldl (· + ·) 0

/-- Cells an input holds, of one class or of all (R354). -/
def Dev.inCells (d : Dev) (port : Nat) (p : Xfer → Bool) : Nat :=
  ((d.frm.xfers.filter fun x => x.inPort == port && p x).map (·.cells)).foldl (· + ·) 0

/-- The cells reserved at an input for a class (R362). -/
def Dev.classRsv (d : Dev) (c : Nat) : Nat := 32 * d.fld Reg.pglClassRsv (4 * c) 4

/-- Shared cells free at an input (R354). -/
def Dev.sharedFree (d : Dev) (port : Nat) : Nat :=
  let rsv := ((List.range 8).map d.classRsv).foldl (· + ·) 0
  let used := ((List.range 8).map fun c => d.inCells port (fun x => x.cls == c) - d.classRsv c).foldl (· + ·) 0
  8192 - rsv - used

/-- PAVi_CANc_STATUS (R363). -/
def Dev.canStatus (d : Dev) (ch : Nat) : Word :=
  let c := d.can.getD ch {}
  let atLeast := fun n => decide (n ≤ c.txErr) || decide (n ≤ c.rxErr)
  BitVec.ofNat 32 (b2n c.busOff + 2 * b2n (atLeast 128) + 4 * b2n (atLeast 96) + 8 * b2n (d.dep.unitFaults.contains (5, ch)) + 16 * b2n c.sync +
    2 ^ 8 * c.txErr + 2 ^ 16 * c.rxErr)

/-- Link `n` is UP. -/
def Dev.linkUp (d : Dev) (n : Nat) : Bool := (d.link n).state == .up

/-- The TWIN link is UP. -/
def Dev.twinLinkUp (d : Dev) : Bool := match d.roleLink 4 with | some n => d.linkUp n | none => false

/-- The level of a fault bit (R433). -/
def Dev.faultLevel (d : Dev) (b : Nat) : Bool :=
  match b with
  | 0 => !d.hub.damaged.isEmpty
  | 1 => d.dep.lockstep
  | 2 => d.dep.planeOk != 3
  | 3 => d.itm.any fun l => l.state == .held
  | 4 => d.dep.clockBad
  | 5 => d.flag Reg.lbuCtl 2 && !d.lbu.clkOk
  | 6 => d.dep.supplyBad
  | 7 => d.dep.arcadeMissing
  | 8 => d.blv.ctrFault
  | 9 => d.rd Reg.depUncorrCount != d.rd Reg.depUncorrAck
  | 10 => !d.dep.unitFaults.isEmpty
  | 11 => d.dep.exhausted
  | 12 => d.twin.en && !d.twinLinkUp
  | 13 => d.twin.en && d.twin.peerUnfit
  | 14 => d.dep.dramPhy
  | _ => false

/-- DEP_FAULT_STATUS (R461). -/
def Dev.faultStatus (d : Dev) : Nat := maskOf 15 d.faultLevel

/-- The transmit buffers of a CAN channel that are not timed (R337). -/
def Dev.untimed (d : Dev) (ch : Nat) : List CanBuf :=
  let timed := d.rd (Reg.pavCanTxtimed + 0x10000 * (ch / 8) + 0x80 * (ch % 8))
  ((d.can.getD ch {}).bufs.filter fun b => !timed.getLsbD b.1).map (·.2)

/-- The generation of every transfer inside the device that R387 counts: requests, transfers sent over a link and not acknowledged, frames in
the Pergola, in transmit buffers, MAC queues and tunnels, and capture records. -/
def Dev.genList (d : Dev) : List Nat :=
  (d.fab.reqs.filter fun r => r.st != .ended).map (·.gen) ++ d.itm.flatMap (fun l => l.msgs.map (·.gen)) ++
    d.frm.xfers.flatMap (fun x => x.frame.gen :: x.frame.more) ++ (List.range 64).flatMap (fun c => (d.untimed c).map fun b => b.frame.gen) ++
    d.mac.flatMap (fun m => m.queue.flatMap fun f => f.2.gen :: f.2.more) ++ d.tun.flatMap (·.gens) ++ d.frm.caps.map (·.gen)

/-- TRL_GEN_FENCE (R387, R392): the oldest generation with a transfer inside, or CUR. -/
def Dev.genOldest (d : Dev) : Nat :=
  let l := d.genList
  let cur := d.generation
  ((List.range 256).map fun i => (cur + 1 + i) % 256).find? (fun g => l.contains g || g == cur) |>.getD cur

/-- TRL_GEN_FENCE as it reads (R392). -/
def Dev.genFence (d : Dev) : Word :=
  let o := d.genOldest
  if o = d.generation then BitVec.ofNat 32 (o + 256)
  else BitVec.ofNat 32 (o + 65536 * min 65535 (d.genList.filter (· == o)).length)

/-! ### Interrupt sources -/

/-- A level that compares a counter with its acknowledgement. -/
def Dev.unacked (d : Dev) (count ack : Nat) : Bool := d.rd count != d.rd ack

/-- A capture ring is enabled and has no free slot: it holds at most one slot less than its size (R348). -/
def Dev.ringFull (d : Dev) (r : Nat) : Bool :=
  d.flag (capReg Reg.pglCrCfg r) 0 &&
    decide (d.capSize r - 1 ≤ (d.fld (capReg Reg.pglCrWi r) 0 16 + 65536 - d.fld (capReg Reg.pglCrRi r) 0 16) % 65536 + d.capAhead r)

/-- The level of a Gazebo channel's source (R317): events not acknowledged, or STOPPED with IE_STOP. -/
def Dev.gzbLevel (d : Dev) (c : Nat) : Bool :=
  let y := d.gzb.chans.getD c {}
  let stopped := !d.gzb.halted.getLsbD c && d.gzb.running != some c && !y.off && (y.held || y.stopped)
  d.fld (gzbReg Reg.gzbChEvt c) 0 16 != d.fld (gzbReg Reg.gzbChEvtAck c) 0 16 || (stopped && d.flag (gzbReg Reg.gzbChCtl c) 8)

/-- PAVi_LINl_STATUS (R363). -/
def Dev.linStatus (d : Dev) (l : Nat) : Word :=
  let c := d.lin.getD l {}
  BitVec.ofNat 32 (b2n c.domStuck + 2 * b2n (d.dep.unitFaults.contains (6, l)) + 4 * b2n c.active + 8 * c.pos)

/-- ETHi_STATUS (R364). -/
def Dev.ethStatus (d : Dev) (i : Nat) : Word :=
  let m := d.mac.getD i {}
  BitVec.ofNat 32 (b2n m.link + 2 * b2n (d.flag (ethReg Reg.ethCtl i) 0 && !m.link) + 4 * b2n m.speedErr +
    8 * b2n (d.dep.unitFaults.contains (7, i)) + 16 * b2n (d.dep.spares.any fun s => s.kind == 7 && s.unit == i) + 32 * b2n m.tasRun)

/-- Some input has fewer than 1,024 shared cells free (R362). -/
def Dev.congested (d : Dev) : Bool := (List.range 16).any fun p => decide (d.sharedFree p < 1024)

/-- A port's current TX SA has NEXT_PN at 0xF000_0000 or above (R421). -/
def Dev.pnWarn (d : Dev) : Bool := (List.range 14).any fun i =>
  decide (0xF000_0000 ≤ (d.rd (0x77_0004 + 0x200 * i + 0x10 * d.fld (Reg.gthMsCtl + 0x40 * i) 7 2)).toNat)

/-- GTH_STATUS (R421). -/
def Dev.gthStatus (d : Dev) : Word :=
  BitVec.ofNat 32 (b2n (!d.gth.fails.isEmpty) + 2 * d.gth.fails.length + 256 * b2n d.pnWarn)

/-- A wanted power item is not yet started (R418). -/
def Dev.wktQueued (d : Dev) : Bool := d.wkt.items.any fun x => x.wanted && !x.on

/-- The level of an interrupt source (R292). -/
def Dev.srcLevel (d : Dev) (s : Nat) : Bool :=
  if s < 8 then (s == 0 && !d.elog.entries.isEmpty) || (s == 1 && decide (64 ≤ d.elog.entries.length))
  else if s < 16 then d.flag (Reg.intLirqCfg + 4 * (s - 8)) 8 && (d.lbu.pins.getD (s - 8) {}).level
  else if s < 24 then
    match s with
    | 16 => d.faultStatus != 0
    | 17 => d.unacked Reg.depTwinTakeovers Reg.depTwinAck
    | 18 => d.unacked Reg.depSpareCount Reg.depSpareAck
    | 19 => d.unacked Reg.depReplayCount Reg.depReplayAck
    | 20 => d.twin.en && d.twin.state == .active && !d.twin.prot
    | 21 => !d.dep.notes.isEmpty
    | 22 => d.unacked Reg.depCorrCount Reg.depCorrAck
    | _ => false
  else if s < 29 then d.linkRole (s - 24) != 0 && !d.linkUp (s - 24)
  else if s = 29 then d.flag Reg.hpLinkCtl 4 && !d.hp.linkUp
  else if s < 32 then false
  else if s < 48 then d.gzbLevel (s - 32)
  else if s < 64 then
    match s with
    | 48 => d.gzb.halted != 0
    | 56 => !d.blv.res.isEmpty
    | 57 => !d.blv.caps.isEmpty
    | 58 => !d.blv.txts.isEmpty
    | 59 => d.blv.servo == .holdover
    | 60 => d.blv.ctrFault
    | 61 => d.blv.alarm
    | _ => false
  else if s < 128 then fieldOf (d.canStatus (s - 64)) 0 4 &&& d.fld (canReg Reg.pavCanCtl (s - 64)) 8 4 != 0
  else if s < 160 then fieldOf (d.linStatus (s - 128)) 0 2 &&& d.fld (linReg Reg.pavLinCtl (s - 128)) 4 2 != 0
  else if s < 175 then fieldOf (d.ethStatus (s - 160)) 1 3 &&& d.fld (ethReg Reg.ethCtl (s - 160)) 4 3 != 0
  else
    match s with
    | 176 => !d.trl.fifo.isEmpty
    | 177 => d.flag Reg.trlWatchCfg 0 && d.fld Reg.trlWatchWi 0 16 != d.fld Reg.trlWatchRi 0 16
    | 178 => d.genOldest == d.generation && d.flag Reg.trlCtrl 2
    | 179 => d.flag Reg.trlCmdStatus 0 && d.flag Reg.trlCtrl 3
    | 180 => d.unacked Reg.trlLockOverrun Reg.trlLockOverrunAck
    | 184 => !d.gth.fails.isEmpty
    | 185 => d.unacked Reg.gthGuardDrop Reg.gthGuardAck
    | 186 => d.flag Reg.gthKeyStatus 1 && d.flag Reg.gthCtl 2
    | 187 => d.pnWarn
    | 192 => !d.wkt.events.isEmpty
    | 193 => d.wktQueued
    | 194 => !d.wkt.xtalOk
    | 200 => d.flag Reg.lbuCtl 2 && !d.lbu.clkOk
    | 201 => decide (16 ≤ d.lbu.slots.length)
    | 202 => d.lbu.locked.isSome
    | 208 => d.dep.planeOk != d.fld Reg.pglCtl 0 2
    | 209 => d.unacked Reg.pglLostSum Reg.pglLostAck
    | 210 => d.congested
    | 211 => (List.range 8).any d.ringFull
    | 216 => d.unacked Reg.depDramUncorr Reg.depDramUncorrAck
    | 217 => d.unacked Reg.depDramCorr Reg.depDramCorrAck
    | 218 => d.flag Reg.depWearCfg 20 && d.dep.dramFree == 0
    | 219 => d.dep.dramPhy
    | 224 => d.flag Reg.sysBootStatus 0
    | 225 => d.flag Reg.ldgMbxStatus 1 && d.ldg.mbxIe
    | 226 => d.fld Reg.ldgStatus 3 3 == 4
    | _ => decide (240 ≤ s) && d.flag Reg.intSw (s - 240)

/-- Source numbers and NUM of every source routed to a destination (R293). -/
def Dev.routed (d : Dev) (dest : Nat) : List (Nat × Nat) :=
  (cellsIn d.regs Reg.intVector (Reg.intVector + 0x400)).filterMap fun c =>
    if fieldOf c.2 6 3 = dest then some ((c.1 - Reg.intVector) / 4, fieldOf c.2 0 6) else none

/-- Node m's summary: the OR of its remote bits (R296). -/
def Dev.nodeLevel (d : Dev) (m : Nat) : Bool := d.intb.remote.any fun x => x.1 == m

/-- NUM of every node summary at 1 that INT_NODE_MAP routes to a destination (R296). -/
def Dev.nodesRouted (d : Dev) (dest : Nat) : List Nat :=
  (cellsIn d.regs Reg.intNodeMap (Reg.intNodeMap + 0x100)).filterMap fun c =>
    if fieldOf c.2 6 3 = dest ∧ d.nodeLevel ((c.1 - Reg.intNodeMap) / 4) then some (fieldOf c.2 0 6) else none

/-- The MSI-X vectors whose level is 1 (R294). -/
def Dev.vecsHigh (d : Dev) : List Nat :=
  (((d.routed 1).filter fun x => d.srcLevel x.1).map (·.2) ++ d.nodesRouted 1).eraseDups

/-- LINT_N[k] is driven low (R295). -/
def Dev.lintLow (d : Dev) (k : Nat) : Bool :=
  (((d.routed 2).filter fun x => d.srcLevel x.1).map (·.2) ++ d.nodesRouted 2).any fun n => n % 2 == k

/-- An interrupt message cell for vector `v` is sent to P0 (R294). -/
def Dev.sendVec (d : Dev) (v : Nat) : Dev :=
  ({ d with hp := { d.hp with msgs := d.hp.msgs ++ [v] } }).bump Reg.intMsgSent

/-- A message or frame is sent on a link, to be kept until it is acknowledged; `gen` is the generation its cells carry. -/
def Dev.sendGen (d : Dev) (n : Nat) (t : Transfer) (gen : Nat) : Dev :=
  let m : LinkMsg := { mark := d.fab.nextSeq, t := t, gen := gen }
  ({ d with itm := d.itm.modify n fun l => { l with msgs := l.msgs ++ [m] } }).emit (.itm n t)

/-- A message is sent on a link under the current generation. -/
def Dev.sendMsg (d : Dev) (n : Nat) (t : Transfer) : Dev := d.sendGen n t d.generation

/-- The remote bit of a source of a node is set or cleared (R296). -/
def Dev.setRemote (d : Dev) (m s : Nat) (on : Bool) : Dev :=
  let rest := d.intb.remote.filter fun x => x != (m, s)
  { d with intb := { d.intb with remote := if on then rest ++ [(m, s)] else rest } }

/-- A level change of a source mapped to Itmos: toward node INT_ROOT, or into the own node's remote bits (R179, R293); dropped where no
route is usable. -/
def Dev.itmosLevel (d : Dev) (s : Nat) (on : Bool) : Dev :=
  let root := d.fld Reg.itmCtl 0 6
  if root = d.devid % 64 then d.setRemote root s on
  else
    match d.routeNode root with
    | .ok n => d.sendMsg n { op := if on then 0x20 else 0x21, addr := s, ts := d.stamp, orig := d.devid, dst := d.devid / 64 * 64 + root, tc := 1 }
    | .error _ => d

/-- The sources at level 1 that are routed to a destination, with their NUM. -/
def Dev.activeAt (d : Dev) (dest : Nat) : List (Nat × Nat) := (d.routed dest).filter fun x => d.srcLevel x.1

end Sys2Proof.Machine
end

