-- ==== Sys2Proof/Machine/Flash.lean ====
section
/-!
DEFINITION. The flash image as the Lodge reads it: bytes and fields, slot entries, directories and firmware signatures (R473–R478), and the
fabric's reservations, which a restart of the Arcade ends (R229).
-/
namespace Sys2Proof.Machine

/-! ### The flash -/

/-- One byte of the flash; an erased byte reads 0xFF. -/
def Dev.flashByte (d : Dev) (off : Nat) : Byte := ~~~ (cellGet d.ldg.flash off)

/-- `n` bytes of the flash from an offset on. -/
def Dev.flashBytes (d : Dev) : Nat → Nat → List Byte
  | _, 0 => []
  | off, n + 1 => d.flashByte off :: d.flashBytes (off + 1) n

/-- The little-endian number in `n` bytes of the flash (R473). -/
def Dev.flashNum (d : Dev) (off n : Nat) : Nat := leNat (d.flashBytes off n)

/-- The device with bytes of the flash programmed from an offset on. -/
def Dev.flashPut (d : Dev) (off : Nat) (bs : List Byte) : Dev :=
  { d with ldg := { d.ldg with flash := bs.zipIdx.foldl (fun m p => cellSet m (off + p.2) (~~~ p.1)) d.ldg.flash } }

/-- The device with `n` bytes of the flash erased from an offset on. -/
def Dev.flashErase (d : Dev) (off n : Nat) : Dev :=
  { d with ldg := { d.ldg with flash := cellsClear d.ldg.flash off (off + n) } }

/-- The ASCII bytes of a string. -/
def ascii (s : String) : List Byte := s.toList.map fun c => BitVec.ofNat 8 c.toNat

/-- Where the slot-table entry of a slot lies in the header at a flash offset (R474). -/
def slotEntry (hdr slot : Nat) : Nat := hdr + 64 + 32 * slot

/-- OFFSET of a slot (R476). -/
def Dev.slotOff (d : Dev) (hdr slot : Nat) : Nat := d.flashNum (slotEntry hdr slot) 4

/-- LENGTH of a slot (R476). -/
def Dev.slotLen (d : Dev) (hdr slot : Nat) : Nat := d.flashNum (slotEntry hdr slot + 4) 4

/-- A directory entry (R477): TYPE, OFFSET, LENGTH and VERSION. -/
structure Section where
  type : Nat
  off : Nat
  len : Nat
  version : Nat
  deriving DecidableEq, Repr

/-- The five directory entries of a slot (R477), OFFSET as a flash offset. -/
def Dev.sections (d : Dev) (hdr slot : Nat) : List Section :=
  let o := d.slotOff hdr slot
  (List.range 5).map fun k =>
    { type := d.flashNum (o + 16 + 16 * k) 4, off := o + d.flashNum (o + 20 + 16 * k) 4, len := d.flashNum (o + 24 + 16 * k) 4,
      version := d.flashNum (o + 28 + 16 * k) 4 }

/-- The section of a type in a slot. -/
def Dev.section? (d : Dev) (hdr slot type : Nat) : Option Section := (d.sections hdr slot).find? fun s => s.type == type

/-- The limit of a section's length by its type (R477). -/
def sectionLimit (type : Nat) : Nat :=
  match type with
  | 1 => 448 * 1024
  | 2 => 2 ^ 21
  | 3 => 256 * 1024
  | 4 => 2 ^ 25 + 32
  | 5 => 16 + 1024 * 64
  | _ => 0

/-- A slot's directory is well formed (R476, R477). -/
def Dev.dirOk (d : Dev) (hdr slot : Nat) : Bool :=
  let o := d.slotOff hdr slot
  let ss := d.sections hdr slot
  o % 65536 == 0 && decide (0x20000 ≤ o) && d.flashBytes o 4 == ascii "GSLT" &&
    [1, 2, 3, 4, 5].all (fun t => (ss.filter fun s => s.type == t).length == 1) &&
    ss.all (fun s => (s.off - o) % 256 == 0 && decide (s.len ≤ sectionLimit s.type) && decide (s.off + s.len ≤ o + d.slotLen hdr slot)) &&
    ss.all fun s => ss.all fun u => s.type == u.type || s.len == 0 || u.len == 0 || decide (s.off + s.len ≤ u.off) || decide (u.off + u.len ≤ s.off)

/-- A firmware section is laid out as R478 states and its signature verifies. -/
def Dev.firmwareOk (d : Dev) (s : Section) : Bool :=
  d.flashBytes s.off 4 == ascii (if s.type = 1 then "GFWL" else "GFWA") && s.len == d.flashNum (s.off + 4) 4 + 128 &&
    Config.signatureOk (d.flashBytes s.off s.len)

/-- The flash offset of the header copy that this start used, by LDG_BOOT_REPORT.HDR (R505). -/
def Dev.headerUsed (d : Dev) : Option Nat :=
  match d.fld Reg.ldgBootReport 0 2 with
  | 0 => some 0
  | 1 => some 0xF000
  | _ => none

/-! ### Reservations and the fabric -/

/-- The device with the fabric changed. -/
def Dev.onFab (d : Dev) (f : Fabric → Fabric) : Dev := { d with fab := f d.fab }

/-- What WIN_RSV_STATUSn holds of a requester (R86). -/
def Dev.rsvInfoOf (d : Dev) (a : Nat) : RsvInfo := (d.fab.rsvInfo.find? fun i => i.agent == a).getD { agent := a }

/-- The device with a requester's reservation information changed. -/
def Dev.updRsvInfo (d : Dev) (a : Nat) (f : RsvInfo → RsvInfo) : Dev :=
  let i := f (d.rsvInfoOf a)
  d.onFab fun b => { b with rsvInfo := i :: b.rsvInfo.filter fun j => j.agent != a }

/-- Reservations end for the holders the predicate names; HELD of a granule this device owns falls with them (R229, R230). -/
def Dev.loseRsv (d : Dev) (p : Rsv → Bool) : Dev :=
  (d.fab.rsv.filter p).foldl (fun d r => d.updRsvInfo r.agent fun i => if i.granule = r.granule then { i with held := false } else i)
    (d.onFab fun b => { b with rsv := b.rsv.filter fun r => !p r })

/-! ### Restart of the Arcade -/

/-- The requesters ARC0–ARC3 (R21). -/
def isArc (a : Nat) : Bool := decide (58 ≤ a) && decide (a < 62)

/-- The Arcade is held in reset: the requests of ARC0–ARC3 in flight end, their completions to be discarded, and their reservations are lost
(R494). -/
def Dev.arcHeld (d : Dev) : Dev :=
  (d.onFab fun b =>
    { b with reqs := (b.reqs.filter fun r => !(isArc r.agent && !r.posted && r.st == .ended)).map fun r =>
               if isArc r.agent && !r.posted then { r with orphan := 2 } else r
             held := b.held.filter fun r => !(isArc r.agent && !r.posted) }).loseRsv fun r => isArc r.agent && r.link.isNone

/-- The Arcade image of FW_SLOT still verifies (R494). -/
def Dev.arcImageOk (d : Dev) : Bool :=
  match d.headerUsed with
  | some h => match d.section? h (d.fld Reg.sysBootStatus 3 2) 2 with
    | some s => d.firmwareOk s
    | none => false
  | none => false

/-- The Lodge restarts the Arcade (R494). A fourth restart within 60 s, or an image that does not verify, leaves it FAILED with the ARCADE fault
bit at 1. -/
def Dev.arcRestart (d : Dev) : Dev :=
  let d := d.arcHeld.bump Reg.ldgArcRestarts
  let recent := d.ldg.restarts.filter fun t => decide (d.blv.vt < t + 60000000000)
  let d := { d with ldg := { d.ldg with restarts := recent ++ [d.blv.vt] } }
  if 3 ≤ recent.length ∨ !d.arcImageOk then d.setFld Reg.ldgStatus 3 3 4
  else { d.setFld Reg.ldgStatus 3 3 2 with dep := { d.dep with arcadeMissing := false } }

end Sys2Proof.Machine
end

