-- ==== Sys2Proof/Machine/FaultManager.lean ====
section
/-!
DEFINITION. The fault manager and the Conservatory's records: fault levels (R433), notes (R457), the spare map (R455), unit swap-in (R450),
leaving ACTIVE (R442) and the safe state (R434), and the sending side of the state stream (R440).
-/
namespace Sys2Proof.Machine

/-! ### Fault levels -/

/-- The device with the dependability block changed. -/
def Dev.onDep (d : Dev) (f : Dep → Dep) : Dev := { d with dep := f d.dep }

/-- The device with the twin unit changed. -/
def Dev.onTwin (d : Dev) (f : Twin → Twin) : Dev := { d with twin := f d.twin }

/-- The code of a twin state (R460). -/
def twinCode : TwinState → Nat
  | .none => 0 | .starting => 1 | .active => 2 | .syncing => 3 | .standby => 4 | .unsync => 5 | .failed => 6

/-! ### Notes and the spare map -/

/-- The 32 bytes of a note (R457). -/
def Dev.noteBytes (d : Dev) (ntype bit : Nat) (map : Nat) : List Byte :=
  leBytes 8 d.blv.vt ++ leBytes 1 ntype ++ leBytes 1 bit ++ leBytes 2 d.devid ++ leBytes 2 d.faultStatus ++
    leBytes 1 (twinCode d.twin.state) ++ leBytes 1 0 ++ leBytes 8 map ++ leBytes 8 0

/-- A note enters the note FIFO, or counts in DEP_NOTE_OVF when that is full (R457). -/
def Dev.placeNote (d : Dev) (note : List Byte) : Dev :=
  if 64 ≤ d.dep.notes.length then d.bump Reg.depNoteOvf else d.onDep fun p => { p with notes := p.notes ++ [note] }

/-- A note is sent to node INT_ROOT, or placed here when that is the own node (R457). -/
def Dev.sendNote (d : Dev) (ntype bit : Nat) (map : Nat := 0) : Dev :=
  let note := d.noteBytes ntype bit map
  let root := d.fld Reg.itmCtl 0 6
  if root = d.devid % 64 then d.placeNote note
  else
    match d.routeNode root with
    | .ok n => d.sendMsg n { op := 0x22, ts := d.stamp, orig := d.devid, dst := d.devid / 64 * 64 + root, tc := 7, data := note }
    | .error _ => d

/-- A swap-in is recorded and announced (R455): the next free DEP_SPARE_MAP entry, DEP_SPARE_COUNT and a note. -/
def Dev.recordSpare (d : Dev) (kind cause unit spare : Nat) : Dev :=
  let e := 1 + 2 * kind + 2 ^ 5 * cause + 2 ^ 8 * unit + 2 ^ 32 * spare + 2 ^ 40 * (d.blv.vt / 2 ^ 32 % 2 ^ 24)
  let d := if d.dep.mapUsed < 64
    then (d.wr64 (Reg.depSpareMap + 8 * d.dep.mapUsed) e).onDep fun p => { p with mapUsed := p.mapUsed + 1 }
    else d
  (d.bump Reg.depSpareCount).sendNote 2 0xFF e

/-! ### Unit swap-in -/

/-- The units of one kind that share one pool of spares: the Pavilion of a CAN or LIN channel, or all of the kind. -/
def sparePool (kind unit : Nat) : Nat :=
  match kind with
  | 5 => unit / 8
  | 6 => unit / 4
  | _ => 0

/-- How many spares a pool of a kind has (R449). -/
def spareTotal (kind : Nat) : Nat := if kind = 8 then 4 else 1

/-- A unit has a free spare and is not on one already (R449, R462); E0 and E1 have no spare. -/
def Dev.spareFree (d : Dev) (kind unit : Nat) : Bool :=
  let used := d.dep.spares.filter fun s => s.kind == kind && sparePool kind s.unit == sparePool kind unit
  decide (used.length < spareTotal kind) && !(used.any fun s => s.unit == unit) &&
    match kind with
    | 5 => decide (unit < 64)
    | 6 => decide (unit < 32)
    | 7 => decide (2 ≤ unit) && decide (unit < 14)
    | 8 => decide (unit < 48)
    | _ => false

/-- A unit moves onto its spare (R450): the frames it held are lost, a CAN spare integrates anew, a LIN spare goes on at the next schedule
entry, and the swap is recorded and announced. -/
def Dev.swapUnit (d : Dev) (kind unit cause : Nat) : Dev :=
  let spare := (d.dep.spares.filter fun s => s.kind == kind && sparePool kind s.unit == sparePool kind unit).length
  let d := d.onDep fun p =>
    { p with spares := p.spares ++ [{ kind := kind, unit := unit, spare := spare }],
             unitFaults := p.unitFaults.filter fun u => u != (kind, unit) }
  let d : Dev := match kind with
    | 5 =>
      let c := d.can.getD unit {}
      let held := (d.frm.ins.filter fun x => x.port == 8 && x.chan == unit).map (·.id)
      let frm : FramePath := { d.frm with ins := d.frm.ins.filter (fun x => !held.contains x.id),
                                          keys := d.frm.keys.filter (fun k => !held.contains k.id),
                                          parked := d.frm.parked.filter fun k => !held.contains k.key.id }
      { d with can := d.can.set unit {}, frm := frm }.bump Reg.depSpareLost (c.bufs.length + held.length)
    | 6 => { d with lin := d.lin.modify unit fun l => { l with pos := (l.pos + 1) % max 1 (min 64 (d.fld (Reg.pavLinSchedCfg + 0x10000 * (unit / 4) + 0x40 * (unit % 4)) 0 7)) } }
    | 7 =>
      let m := d.mac.getD unit {}
      { d with mac := d.mac.modify unit fun m => { m with queue := [] } }.bump Reg.depSpareLost m.queue.length
    | _ => d
  d.recordSpare kind cause unit spare

/-! ### The state stream, sending side -/

/-- A record of the state stream is sent over the TWIN link (R440). -/
def Dev.sendRec (d : Dev) (rtype : Nat) (body : List Byte) : Dev :=
  if d.twin.streaming && d.twin.state == .active then
    match d.roleLink 4 with
    | some n =>
      let bytes := leBytes 1 rtype ++ leBytes 1 0 ++ leBytes 2 d.twin.sendSeq ++ leBytes 4 0 ++ body
      let data := bytes ++ List.replicate ((4 - bytes.length % 4) % 4) 0
      (d.sendMsg n { op := 0x38, ts := d.stamp, orig := d.devid, dst := d.devid, length := data.length / 4, tc := 7, data := data }).onTwin
        fun t => { t with sendSeq := (t.sendSeq + 1) % 65536 }
    | none => d
  else d

/-! ### Leaving ACTIVE and the safe state -/

/-- The L-bus is let go: a running cycle is cut. -/
def Dev.cutBus (d : Dev) : Dev :=
  { d with lbu := { d.lbu with job := none, cyc := none, heldWrite := none, locked := none } }

/-- Posted writes, combining lines, held writes and barriers of a device that is no longer ACTIVE are lost (R443, R446). -/
def Dev.loseWrites (d : Dev) : Dev :=
  d.onFab fun b =>
    { b with reqs := b.reqs.filter (fun r => !r.posted), held := b.held.filter (fun r => !r.posted), cwb := [], barriers := [] }

/-- Leaving ACTIVE (R442): TWIN_ACT falls, outputs go silent, posted writes are no longer performed, and DEP_TWIN_LOST records what was
held. A device that stays in operation as SYNCING or UNSYNC drops the writes it held. -/
def Dev.leaveActive (d : Dev) (dest : TwinState) : Dev :=
  let cells := min 65535 (d.fab.held.length + d.hp.msgs.length)
  let tt := (d.fab.reqs.filter fun r => !r.posted).length
  let d := d.wr64 Reg.depTwinLost (cells + 2 ^ 16 * min tt 512 + 2 ^ 32 * min 255 d.fab.cwb.length)
  let d := (d.onTwin fun t => { t with state := dest, prot := false, streaming := false, handover := false }).cutBus
  if dest = .failed then d else d.loseWrites

/-- Entry to the safe state (R434), announced by a note (R457). -/
def Dev.enterSafe (d : Dev) (bit : Nat) : Dev :=
  if d.dep.safe then d
  else
    let d := (d.onDep fun p => { p with safe := true }).cutBus
    ({ d with lbu := { d.lbu with lreset := true } }.onTwin fun t => { t with prot := false, streaming := false }).sendNote 4 bit

/-- A twin stands ready: this device is ACTIVE, its stream runs and the peer is fit (R433, R437). -/
def Dev.peerStandby (d : Dev) : Bool := d.twin.state == .active && d.twin.streaming && !d.twin.peerUnfit

/-- The register hub restores every damaged register whose shadow copy is intact (R435). -/
def Dev.restoreShadows (d : Dev) : Dev :=
  let ok := d.hub.damaged.filter (·.ok)
  let d := ok.foldl (fun d x => d.wr x.off x.shadow) d
  { d with hub := { d.hub with damaged := d.hub.damaged.filter fun x => !x.ok } }

/-- The fault bits whose action is fixed (R433). -/
def fixedFault (b : Nat) : Bool := [1, 2, 4, 5, 6, 12, 13].contains b

/-- The CONTAIN action of a fault bit (R433): the bits not listed mask their fault where it is found. -/
def Dev.contain (d : Dev) (b : Nat) : Dev :=
  match b with
  | 0 => d.restoreShadows
  | 7 => d.arcRestart
  | 10 => d.dep.unitFaults.foldl (fun d u =>
      if d.spareFree u.1 u.2 then d.swapUnit u.1 u.2 2 else d.onDep fun p => { p with exhausted := true }) d
  | _ => d

/-- The fault manager acts on a fault bit that rises (R432, R433): its action, DEP_FAULT_LAST and a note. -/
def Dev.faultRise (d : Dev) (b : Nat) : Dev :=
  let set := d.fld Reg.depFaultAct (2 * b) 2
  let act := if (b = 2 ∧ d.dep.planeOk = 0) ∨ (b = 8 ∧ d.blv.ctrInvalid) then 2 else set
  let code := if act = 2 then (if d.peerStandby then 2 else if fixedFault b then 3 else 0) else if act = 1 then 1 else 0
  let rises := (d.fld Reg.depFaultLast 16 16 + 1) % 65536
  let d := (d.wr Reg.depFaultLast (BitVec.ofNat 32 (b + 16 * code + 65536 * rises))).sendNote 1 b
  match code with
  | 1 => d.contain b
  | 2 => (d.leaveActive .failed).onTwin fun t => { t with lastCause := b }
  | 3 => d.enterSafe b
  | _ => d

/-- The fault bits that rose between two states, lowest first. -/
def faultRises (old new : Dev) : List Nat := (List.range 15).filter fun b => new.faultLevel b && !old.faultLevel b

/-- The fault manager acts on every rise a command caused, and on a rise its own actions cause (R432). -/
def faultSettle (old new : Dev) : Dev :=
  let d := (faultRises old new).foldl (fun d b => d.faultRise b) new
  (faultRises new d).foldl (fun d b => d.faultRise b) d

end Sys2Proof.Machine
end

