-- ==== Sys2Proof/Machine/MemErrors.lean ====
section
/-!
DEFINITION. Errors of the coded memories (R427–R429): counters, the wear tracker (R453), row and column spares (R449) and retired DRAM rows
(R454).
-/
namespace Sys2Proof.Machine

/-- The memory code of R283 and the word index of a local memory address. -/
def memWord (a : Nat) : Nat × Nat :=
  if a < 0x10_0000_0000 then (1, (a - 0x01_0000_0000) / 8) else (2, (a - 0x10_0000_0000) / 8)

/-- DETAIL of a DEC_UNCORR entry (R283). -/
def eccDetail (m w : Nat) : Nat := m + 2 ^ 8 * w

/-- A word that holds an uncorrectable code lies among `len` bytes from a local address on. -/
def Dev.badIn (d : Dev) (a len : Nat) : Option Nat := d.bad.find? fun b => decide (a / 8 * 8 ≤ b) && decide (b < a + len)

/-- Words wholly written are encoded afresh (R427, R428). -/
def Dev.freshWords (d : Dev) (a len : Nat) : Dev := { d with bad := d.bad.filter fun b => !(decide (a ≤ b) && decide (b + 8 ≤ a + len)) }

/-- The Lodge keeps a copy of a memory remap in the flash's user area (R451); a restored one (CAUSE 4) is there already. -/
def Dev.keepRemap (d : Dev) (kind unit cause : Nat) : Dev :=
  if cause = 4 then d else { d with ldg := { d.ldg with remaps := d.ldg.remaps ++ [(kind, unit)] } }

/-- A DRAM row is retired to a spare row (R454), or none is left. -/
def Dev.retireRow (d : Dev) (row cause : Nat) : Dev :=
  if d.dep.dramFree = 0 then d.onDep fun p => { p with exhausted := true }
  else
    let spare := 256 - d.dep.dramFree
    (((d.onDep fun p =>
      { p with dramFree := p.dramFree - 1, spares := p.spares ++ [{ kind := 9, unit := row, spare := spare }] }).keepRemap 9 row cause).recordSpare
        9 cause row spare)

/-- A bank of an on-chip memory takes a spare row or column (R449), where on-chip remaps are enabled and one is left. -/
def Dev.swapBank (d : Dev) (m word : Nat) (column : Option Nat) (cause : Nat) : Dev :=
  if !d.flag Reg.depWearCfg 21 then d
  else
    let bank := word / 8192
    let kind := if column.isSome then 2 else 1
    let idx := column.getD (Config.bankRow m word).toNat
    let unit := 2 ^ 20 * m + 2 ^ 12 * (bank % 256) + idx
    let used := (d.dep.spares.filter fun s => s.kind == kind && s.unit / 2 ^ 12 == unit / 2 ^ 12).length
    if (if column.isSome then 2 else 4) ≤ used then d.onDep fun p => { p with exhausted := true }
    else
      (((d.onDep fun p => { p with spares := p.spares ++ [{ kind := kind, unit := unit, spare := used }] }).keepRemap kind unit cause).recordSpare
        kind cause unit used)

/-- The wear tracker enters a correction (R453): the entry it counts in is made, reset when its window has passed, or incremented. -/
def Dev.wearEntry (d : Dev) (m loc col : Nat) : Dev :=
  let window := max 1 (d.fld Reg.depWearCfg 8 12) * 60_000_000_000
  let hit := fun (w : Wear) => w.memory == m && w.loc == loc
  match d.dep.wear.find? hit with
  | some w =>
    let w' : Wear := if window < d.blv.vt - w.vt then { w with count := 1, vt := d.blv.vt, col := col } else { w with count := w.count + 1, col := col }
    d.onDep fun p => { p with wear := p.wear.map fun x => if hit x then w' else x }
  | none =>
    let oldest := d.dep.wear.foldl (fun m x => min m x.vt) d.blv.vt
    let keep := if d.dep.wear.length < 64 then d.dep.wear else d.dep.wear.eraseP fun x => x.vt == oldest
    d.onDep fun p => { p with wear := keep ++ [{ memory := m, loc := loc, col := col, count := 1, vt := d.blv.vt }] }

/-- The swap-in of a wear entry that reaches COUNT (R453). -/
def Dev.wearSwap (d : Dev) (m loc col : Nat) : Dev :=
  let limit := d.fld Reg.depWearCfg 0 8
  match d.dep.wear.find? fun w => w.memory == m && w.loc == loc with
  | none => d
  | some w =>
    if limit = 0 ∨ w.count ≠ limit then d
    else if m = 2 then d.retireRow loc 0
    else
      let same := d.dep.wear.filter fun x => x.memory == m && x.loc / 8192 == loc / 8192 && x.col == col && decide (limit ≤ x.count)
      let rows := (same.map fun x => (Config.bankRow m x.loc).toNat).eraseDups
      d.swapBank m loc (if 4 ≤ rows.length then some col else none) 0

/-- A word of a memory is corrected, by a reader or the scrubber (R427–R429, R453). -/
def Dev.eccCorrected (d : Dev) (m word bit : Nat) : Dev :=
  let d := d.bump (if m = 2 then Reg.depDramCorr else Reg.depCorrCount)
  let loc := if m = 2 then word / 256 else word
  let col := (Config.bankCol m word bit).toNat
  (d.wearEntry m loc col).wearSwap m loc col

/-- A word of a memory is found uncorrectable: it is counted, and its row is taken out of use (R428, R449, R454). -/
def Dev.eccUncorr (d : Dev) (m word : Nat) : Dev :=
  let d := d.bump Reg.depUncorrCount
  if m = 2 then (d.bump Reg.depDramUncorr).retireRow (word / 256) 1 else d.swapBank m word none 1

/-- A reader finds the word of the local address `a` uncorrectable for the first time. -/
def Dev.markBad (d : Dev) (a : Nat) : Dev :=
  let w := a / 8 * 8
  if d.bad.contains w then d
  else ({ d with bad := d.bad ++ [w] }).eccUncorr (memWord w).1 (memWord w).2

end Sys2Proof.Machine
end

