-- ==== Sys2Proof/Machine/Fabric.lean ====
section
/-!
DEFINITION. The bridge fabric that every family shares: the transaction tracker (R25), posted write buffers and combining buffers
(R209–R219), the acceptance, holding and ending of requests (R59, R60, R70–R78, R213), barriers and WBARs (R220–R224), reservations
(R227–R230), semaphore slots (R233) and prefetched data (R236, R237).
-/
namespace Sys2Proof.Machine

/-! ### Requests in flight -/

/-- The request with an acceptance number. -/
def Dev.req? (d : Dev) (seq : Nat) : Option Req := d.fab.reqs.find? fun r => r.seq == seq

/-- The device with the request numbered `seq` changed. -/
def Dev.updReq (d : Dev) (seq : Nat) (f : Req → Req) : Dev :=
  d.onFab fun b => { b with reqs := b.reqs.map fun r => if r.seq = seq then f r else r }

/-- The device without the request numbered `seq`: its TT entry and its PWB entries are free. -/
def Dev.dropReq (d : Dev) (seq : Nat) : Dev := d.onFab fun b => { b with reqs := b.reqs.filter fun r => r.seq != seq }

/-- The ingress whose TT reserve a request is charged to (R25). -/
def ttClass : Ingress → Nat
  | .bar0 | .iw _ => 0
  | .lw _ _ => 1
  | .link n _ => 2 + n
  | .gzb _ => 7
  | .arcade => 8
  | .lodge => 9
  | .blvt _ => 10
  | .cap _ => 11
  | .svc => 9

/-- The reserved TT entries of an ingress (R25). -/
def ttReserve : Nat → Nat
  | 0 => 96 | 1 => 16 | 7 => 64 | 8 => 16 | 9 => 8 | 10 => 8 | _ => 32

/-- A request holds a TT entry: a non-posted one, also after the link it came by went DOWN (R172). -/
def Req.inTt (r : Req) : Bool := !r.posted && (r.orphan == 0 || r.orphan == 3)

/-- TT entries an ingress holds. -/
def Dev.ttUsed (d : Dev) (c : Nat) : Nat := (d.fab.reqs.filter fun r => r.inTt && ttClass r.ing == c).length

/-- Entries charged to the shared pool: each ingress's excess over its reserve (R25). -/
def Dev.ttShared (d : Dev) : Nat := ((List.range 11).map fun c => d.ttUsed c - ttReserve c).foldl (· + ·) 0

/-- An ingress may take a TT entry: from its reserve, otherwise from the shared pool of 144 (R25). -/
def Dev.ttRoom (d : Dev) (c : Nat) : Bool := d.ttUsed c < ttReserve c || d.ttShared < 144

/-- The lowest-numbered free TT entry (R25). -/
def Dev.ttLowest (d : Dev) : Nat :=
  let used := (d.fab.reqs.filter Req.inTt).map (·.tag)
  ((List.range 512).find? fun i => !used.contains i).getD 512

/-- Capacity of a posted write buffer (R209); the direct path has none. -/
def pwbSize : WPath → Nat
  | .h2l => 64 | .l2h => 32 | .itm _ => 64 | .direct => 0

/-- Entries held in a posted write buffer. -/
def Dev.pwbUsed (d : Dev) (p : WPath) : Nat := ((d.fab.reqs.filter fun r => r.path == p).map (·.entries)).foldl (· + ·) 0

/-- The naturally aligned 64-byte blocks an access touches (R210). -/
def blocksOf (ga len : Nat) : Nat := if len = 0 then 1 else (ga + len - 1) / 64 - ga / 64 + 1

/-- The path of a posted write (R209). -/
def writePath (g : Ingress) (t : Target) : WPath :=
  match g, t with
  | .lw _ _, _ => .l2h
  | _, .zone _ => .h2l
  | _, .link n _ => if h : n < 5 then .itm ⟨n, h⟩ else .direct
  | _, _ => .direct

/-- A posted write finds room on its path; a write that needs `k` entries needs them free at once (R210). -/
def Dev.pwbRoom (d : Dev) (p : WPath) (k : Nat) : Bool := p == .direct || d.pwbUsed p + k ≤ pwbSize p

/-! ### Failures -/

/-- A requester's own device (a requester without an Itmos ingress). -/
def Ingress.local : Ingress → Bool
  | .link _ _ => false
  | _ => true

/-- An exception on a holder (R229): its reservation is lost, and where it sits at another device a break is recorded (R230). -/
def Dev.rsvException (d : Dev) (agent ident : Nat) : Dev :=
  let i := d.rsvInfoOf agent
  let away := i.held && i.granule * 64 / 2 ^ 38 % 1024 != d.devid
  let d := d.loseRsv fun r => r.agent == agent && (agent < 32 || 40 ≤ agent || r.ident == ident)
  if away then
    (d.updRsvInfo agent fun i => { i with held := false }).onFab fun b =>
      { b with breaks := agent :: b.breaks.filter fun a => a != agent }
  else d

/-- A store to `len` bytes from a GA on ends every reservation of another agent on a granule it touches (R229). `internal` marks a store
of an internal agent, which never counts as a holder's own. -/
def Dev.rsvStore (d : Dev) (agent ident : Nat) (internal : Bool) (ga len : Nat) : Dev :=
  d.loseRsv fun r => decide (ga / 64 ≤ r.granule) && decide (r.granule ≤ (ga + len - 1) / 64) &&
    !(r.agent == agent && r.ident == ident && !internal)

/-- A failed write of a requester is remembered for barriers (R223), stops its window under STOP_ON_ERR (R76) and is an exception on its
reservation (R229). -/
def Dev.noteFail (d : Dev) (agent ident : Nat) (ing : Ingress) (seq : Nat) (t : ErrType) (hi : Nat := seq) : Dev :=
  let covers := fun (b : Barrier) => b.agent == agent && seq < b.seq
  let d := d.onFab fun b =>
    { b with
      barriers := b.barriers.map fun x => if covers x then { x with err := true } else x
      failed := if b.barriers.any covers then b.failed else agent :: b.failed.filter (· != agent)
      peerFail := match ing with
        | .link n _ => if b.peerFail.any (fun p => p.1 == n && p.2.1 == ident) then b.peerFail else b.peerFail ++ [(n, ident, t)]
        | _ => b.peerFail
      gzbFail := if 40 ≤ agent ∧ agent < 56 then b.gzbFail ++ [{ agent := agent, lo := seq, hi := hi, type := t }] else b.gzbFail
      stops := if d.ingStop ing && !(b.stops.any fun s => s.agent == agent && s.ing == ing)
        then { agent := agent, ing := ing, type := t } :: b.stops else b.stops }
  d.rsvException agent ident

/-- DECODE counts in WIN_DECODE_MISS (R60); every failure is logged once (R279), with the first byte of its failed part (R282). -/
def Dev.logFail (d : Dev) (r : Req) (t : ErrType) (detail : Nat) (failAt : Nat := 0) : Dev :=
  let d : Dev := if t = .decode then d.bump Reg.winDecodeMiss else d
  d.log (r.culprit d) t (r.ga + failAt) detail

/-! ### Ending requests -/

/-- Bytes from an address on, padded with zeros to whole 4-byte words (R160). -/
def padWords (addr : Nat) (bs : List Byte) : List Byte :=
  List.replicate (addr % 4) 0 ++ bs ++ List.replicate ((4 - (addr + bs.length) % 4) % 4) 0

/-- The completion transfer of a request that arrived over a link (R160, R161, R163, R202). -/
def Req.completion (d : Dev) (r : Req) : Transfer :=
  let op := match r.op, r.posted with
    | .read, _ => 0x42
    | .write, _ => 0x41
    | .rsvLoad, _ => 0x43
    | .condStore, _ => 0x44
    | .fetchAdd, _ => 0x45
    | .swap, _ => 0x46
    | .cas, _ => 0x47
  let st := match r.status with | some t => errCode t | none => 0
  let data := if r.op = .write ∨ r.op = .condStore ∨ r.len = 0 then []
    else if st = 0 then padWords r.ga r.rdata
    else padWords r.ga (r.rdata.take r.failAt ++ List.replicate (r.len - r.failAt) 0xFF)
  { op := op, tag := match r.ing with | .link _ t => t | _ => 0, ts := r.rts, orig := d.devid, dst := r.orig, status := st,
    length := data.length / 4, csFail := r.csFail,
    failDw := if st = 0 then 0 else (r.ga % 4 + r.failAt) / 4, tc := 3, data := data }

/-- What WIN_RSV_STATUSn records when a reserved load or a conditional store of requester n completes (R86, R230). -/
def Dev.rsvRecord (d : Dev) (r : Req) : Dev :=
  match r.op with
  | .rsvLoad =>
    if r.status.isSome then d
    else (d.updRsvInfo r.agent fun i => { i with held := true, granule := r.ga / 64, ident := r.ident }).onFab fun b =>
      { b with breaks := b.breaks.filter (· != r.agent) }
  | .condStore =>
    d.updRsvInfo r.agent fun i => { i with held := false, csOk := r.status.isNone && !r.csFail, csSeq := (i.csSeq + 1) % 256 }
  | _ => d

/-- A request that another device performs. -/
def Req.toPeer (r : Req) : Bool := match r.tgt with | .link _ _ => true | _ => false

/-- An ended non-posted request whose answer leaves at once (an Itmos completion, a firmware service's answer); any other waits in its TT
entry for the step that returns it. A completion returns on the link its request came by, and is discarded when that link is not UP
(R164). A failure is an exception on the requester's reservation (R229). -/
def Dev.deliver (d : Dev) (r : Req) : Dev :=
  if r.orphan ≠ 0 then
    let d := d.dropReq r.seq
    if r.orphan = 1 then d.bump Reg.hpLateCpl else d
  else
  let d : Dev := if r.status.isSome then d.rsvException r.agent r.ident else d
  match r.ing with
  | .link n _ =>
    let d := d.dropReq r.seq
    let d := if r.toPeer then d else d.rsvRecord r
    if (d.link n).state == .up then d.emit (.itm n (r.completion d)) else d
  | .arcade | .lodge => ((d.dropReq r.seq).rsvRecord r).emit (.fwAnswer r.agent r.status r.csFail r.rdata)
  | .cap _ => d.dropReq r.seq
  | _ => d

/-- A request ends with a status, for a read its data, and the stamp of its completion (R13). -/
def Dev.finishAt (d : Dev) (seq : Nat) (status : Option ErrType) (failAt : Nat) (data : List Byte) (rts : Nat) : Dev :=
  let d := d.updReq seq fun r => { r with st := .ended, status := status, failAt := failAt, rdata := data, rts := rts }
  match d.req? seq with
  | some r => if r.posted then d else d.deliver r
  | none => d

/-- A request ends at its end point; its completion is stamped now (R13). -/
def Dev.finish (d : Dev) (seq : Nat) (status : Option ErrType) (failAt : Nat) (data : List Byte) : Dev :=
  d.finishAt seq status failAt data d.stamp

/-- A request fails at its end point: it is logged and ends (R279–R281). -/
def Dev.failReq (d : Dev) (r : Req) (t : ErrType) (detail : Nat) (failAt : Nat := 0) (data : List Byte := []) : Dev :=
  (d.logFail r t detail failAt).finish r.seq (some t) failAt data

/-! ### Peers: sending transfers and WBARs -/

/-- A write that barriers and reads wait for: accepted and not yet known to be performed (R212). -/
def Req.pendingWrite (r : Req) : Bool := r.op == .write && (r.posted || r.st != .ended)

/-- Some write of a requester accepted before `seq` is not yet performed (R220, R223). -/
def Dev.coveredLeft (d : Dev) (agent seq : Nat) : Bool :=
  (d.fab.reqs.any fun r => r.agent == agent && decide (r.seq < seq) && r.pendingWrite) ||
    (d.fab.sent.any fun s => s.agent == agent && decide (s.first < seq)) ||
    d.fab.held.any fun r => r.noComb && r.agent == agent && decide (r.seq < seq)

/-- A barrier before it, or the implicit one of its ORDER_STRICT window, keeps a write from being performed (R75, R221). -/
def Dev.barred (d : Dev) (r : Req) : Bool :=
  (d.fab.barriers.any fun b => b.agent == r.agent && decide (b.seq < r.seq) && d.coveredLeft r.agent b.seq) ||
    (r.strict && d.coveredLeft r.agent r.seq)

/-- The Itmos operation of a request (R161). -/
def Req.itmOp (r : Req) : Nat :=
  match r.op, r.posted with
  | .write, true => 0x00
  | .write, false => 0x01
  | .read, _ => 0x02
  | .rsvLoad, _ => 0x03
  | .condStore, _ => 0x04
  | .fetchAdd, _ => 0x05
  | .swap, _ => 0x06
  | .cas, _ => 0x07

/-- The transfers of a request toward a peer: one, or for a write with gaps one MWR or MWR_NP per contiguous run of bytes, and for a
non-posted write with no enabled byte one of LENGTH 0 (R160, R206). -/
def Req.transfers (r : Req) (dst : Nat) : List Transfer :=
  let mk := fun (a n : Nat) (bs : List Byte) =>
    let be := byteEnables a n
    { op := r.itmOp, tag := r.tag, addr := a / 4 * 4, ts := r.ts, orig := r.orig, dst := dst, length := be.1, fbe := be.2.1, lbe := be.2.2,
      poison := r.poison, tc := if r.posted then 1 else 2, data := if bs.isEmpty then [] else padWords a bs : Transfer }
  match r.op with
  | .read | .rsvLoad => [mk r.ga r.len []]
  | .write =>
    let runs := (wruns 0 r.data).map fun p => mk (r.ga + p.1) p.2.length p.2
    if !r.posted && runs.isEmpty then [mk r.ga 0 []] else runs
  | _ => [mk r.ga (r.data.length) (r.data.map (·.getD 0))]

/-- Non-posted requests outstanding on a link (R163). -/
def Dev.linkOutstanding (d : Dev) (n : Nat) : Nat :=
  (d.fab.reqs.filter fun r => !r.posted && r.st == .started && match r.tgt with | .link m _ => m == n | _ => false).length

/-- A request toward a peer is sent over its link while that is UP; a non-posted one waits in its TT entry while 256 are
outstanding (R163). -/
def Dev.sendPeer (d : Dev) (r : Req) : Dev :=
  match r.tgt with
  | .link n dst =>
    if (d.link n).state != .up || (!r.posted && 256 ≤ d.linkOutstanding n) then d
    else ((r.transfers dst).foldl (fun d t => d.emit (.itm n t)) d).updReq r.seq fun r =>
      { r with st := .started, sentLen := if r.op = .write then (r.transfers dst).length else 0 }
  | _ => d

/-- A free barrier entry of a link (R166). -/
def Dev.barrierEntry (d : Dev) (n : Nat) : Option Nat :=
  (List.range 32).find? fun i => !(d.fab.wbars.any fun w => w.link == n && w.entry == i)

/-- A Gazebo descriptor whose writes are tracked: IH, IF or BF, or COND_ST (R315). -/
def GzbDesc.tracked (x : GzbDesc) : Bool :=
  decide (bitsOf x.raw 185 3 ≠ 0) || bitsOf x.raw 176 3 == 3

/-- A Gazebo channel follows the performance of its writes: it processes a tracked descriptor or watches those of one handed back (R315). -/
def Dev.gzbTracks (d : Dev) (agent : Nat) : Bool :=
  decide (40 ≤ agent) && (match d.gzb.chans[agent - 40]? with
    | some c => c.work.any (fun x => x.tracked || x.wb.isSome) || !c.tails.isEmpty
    | none => false)

/-- A requester waits on the WBARs of writes from acceptance number `first` on: a barrier covers them, or a read or a write of an ORDER_STRICT
window waits (R75, R224). -/
def Dev.waitsOn (d : Dev) (agent first : Nat) : Bool :=
  (d.fab.barriers.any fun b => b.agent == agent && decide (first < b.seq)) ||
    (d.fab.reqs.any fun r => r.agent == agent && (r.st == .waiting || r.strict)) || d.gzbTracks agent || agent == 64 || agent == 65

/-- A WBAR of this device toward a device ends (R224): success covers the writes it followed; another STATUS counts as a failure of them for
each requester that waits on it. -/
def Dev.wbarEnd (d : Dev) (n dst last : Nat) (status : Option ErrType) : Dev :=
  let mine := d.fab.sent.filter fun s => s.link == n && s.dst == dst && decide (s.first ≤ last) &&
    (status.isNone || d.waitsOn s.agent s.first)
  let d : Dev := match status with
    | some t => mine.foldl (fun d s => d.noteFail s.agent 0 s.ing s.first t (min s.last last)) d
    | none => d
  let keep := fun (s : SentMark) =>
    if !mine.contains s then some s else if s.last ≤ last then none else some { s with first := last + 1 }
  d.onFab fun b => { b with sent := b.sent.filterMap keep }

/-- A WBAR toward a device, unless one in flight already covers every write sent there (R224). It follows the writes it is to cover: while one
of them has not left, it waits, and where a barrier holds writes back, another one follows them. It waits for a free barrier entry, or for the
end of a retrain; toward a link that is down it ends as PEER_DOWN (R165). -/
def Dev.sendWbar (d : Dev) (n dst : Nat) : Dev :=
  let ws := d.fab.reqs.filter fun r => r.posted && r.op == .write && r.tgt == .link n dst
  let marks := (d.fab.sent.filter fun s => s.link == n && s.dst == dst).map (·.last)
  let later := fun (d : Dev) => d.onFab fun b => { b with wbarNeed := (n, dst) :: b.wbarNeed.filter (· != (n, dst)) }
  match (d.link n).state with
  | .up =>
    let unsent := ws.filter fun r => r.st != .started
    if unsent.any fun r => !d.barred r then later d
    else
      let d := if unsent.isEmpty then d.onFab fun b => { b with wbarNeed := b.wbarNeed.filter (· != (n, dst)) } else later d
      let left := (ws.filter fun r => r.st == .started).map (·.seq) ++ marks
      let last := left.foldl max 0
      if left.isEmpty || d.fab.wbars.any fun w => w.link == n && w.dst == dst && w.backLink.isNone && last ≤ w.last then d
      else
        match d.barrierEntry n with
        | some e =>
          (d.onFab fun b => { b with wbars := b.wbars ++ [{ link := n, entry := e, dst := dst, last := last }] }).emit
            (.itm n { op := 0x08, tag := e, ts := d.stamp, orig := d.devid, dst := dst, tc := 1 })
        | none => later d
  | .retrain => later d
  | _ => d.wbarEnd n dst ((ws.map (·.seq) ++ marks).foldl max 0) (some .peerDown)

/-- A request toward a peer is sent; a WBAR that waited for it follows. -/
def Dev.sendOut (d : Dev) (r : Req) : Dev :=
  let d := d.sendPeer r
  match r.tgt with
  | .link n dst => if r.posted && d.fab.wbarNeed.contains (n, dst) then d.sendWbar n dst else d
  | _ => d

/-- The WBARs of a link that wait for a barrier entry or a retrain are sent. -/
def Dev.pumpWbars (d : Dev) (n : Nat) : Dev :=
  (d.fab.wbarNeed.filter fun x => x.1 == n).foldl (fun d x =>
    (d.onFab fun b => { b with wbarNeed := b.wbarNeed.filter (· != x) }).sendWbar x.1 x.2) d

/-- WBARs toward every device a requester has sent uncovered writes to (R221, R224). -/
def Dev.wbarsFor (d : Dev) (agent : Nat) : Dev :=
  let dsts := (d.fab.sent.filter fun s => s.agent == agent).map (fun s => (s.link, s.dst)) ++
    d.fab.reqs.filterMap fun r =>
      if r.agent = agent ∧ r.posted then (match r.tgt with | .link n dst => some (n, dst) | _ => none) else none
  dsts.eraseDups.foldl (fun d p => d.sendWbar p.1 p.2) d

/-! ### Barriers -/

/-- A pending COMPLETE barrier holds a requester's later requests at its ingress (R222); masters of the L-bus are retried and Gazebo
channels wait with the hand-back instead. -/
def Dev.barrierHolds (d : Dev) (agent : Nat) : Bool :=
  d.fab.barriers.any fun b => b.complete && b.agent == agent && match b.src with | .win _ _ => true | .fw _ => true | _ => false

/-! ### Semaphores -/

/-- The granule a semaphore slot names (R87). -/
def Dev.semGranule (d : Dev) (i : Nat) : Nat := d.rd64 (Reg.winSemAddr + 8 * i) / 64

/-- A request waits for a semaphore slot: a locked sequence of another agent, or a host claim, holds a granule it touches (R233). -/
def Dev.semBlocked (d : Dev) (agent ga len : Nat) : Bool :=
  (List.range 16).any fun i =>
    decide (ga / 64 ≤ d.semGranule i) && decide (d.semGranule i ≤ (ga + (len - 1)) / 64) &&
      ((d.fab.semLocks.any fun l => l.1 == i && agent != 56 + l.2) || (d.fab.semGranted.getLsbD i && decide (32 ≤ agent)))

/-! ### Combining -/

/-- The path's CWB_EN bit (R146, R209). -/
def Dev.cwbEn (d : Dev) (p : WPath) : Bool :=
  match p with
  | .h2l => d.flag Reg.lbuPathCfg 0
  | .l2h => d.flag Reg.lbuPathCfg 1
  | .itm n => d.flag Reg.lbuPathCfg (2 + n.val)
  | .direct => false

/-- A write passes through the combining buffer of its path (R72). -/
def Dev.combines (d : Dev) (r : Req) : Bool :=
  !r.noComb && d.ingBit r.ing 8 false && d.ingEa r.ing && !d.ingStrict r.ing && d.cwbEn (writePath r.ing r.tgt) &&
    match r.tgt with
    | .zone _ => true
    | .link _ _ => true
    | .ow n => d.winBit .ow n 8
    | _ => false

/-- The bytes of a line with a write merged over them; the later write's value stands (R217). -/
def mergeData : WData → WData → WData
  | old, [] => old
  | [], new => new
  | o :: os, n :: ns => (match n with | some b => some b | none => o) :: mergeData os ns

/-- The end point of a target, as writes are ordered per end point: each zone, each register block, DRAM, SRAM, host memory, each
device (R211). -/
def endPoint (t : Target) (ga : Nat) : Nat × Nat :=
  match t with
  | .reg => (0, ga % 2 ^ 38 / 2 ^ 20)
  | .sram => (1, 0)
  | .dram => (2, 0)
  | .zone n => (3, n)
  | .ow _ => (4, 0)
  | .link _ dst => (5, dst)

/-! ### Performing -/

/-- A request may be performed, or sent to its peer, now: it is ready, each earlier write of its requester to the same end point is done, or on its link (R211), no pending
barrier stands before it with covered writes left (R221, R75), and a mirrored entry has its twin's acknowledgement (R443). -/
def Dev.mayPerform (d : Dev) (r : Req) : Bool :=
  r.st == .ready && !r.mirrored &&
    (!(r.op == .write && r.posted) ||
      (!(d.fab.reqs.any fun w => w.posted && w.agent == r.agent && decide (w.seq < r.seq) && w.st != .ended &&
          !(w.st == .started && (match w.tgt with | .link _ _ => true | _ => false)) &&
          endPoint w.tgt w.ga == endPoint r.tgt r.ga) &&
        !d.barred r))

/-- The lowest `k` entry indices of a path no mirrored write holds. -/
def Dev.freeIdx (d : Dev) (p : WPath) (k : Nat) : List Nat :=
  let used := (d.fab.reqs.filter fun r => r.posted && r.path == p).flatMap (·.mirIdx)
  ((List.range 64).filter fun i => !used.contains i).take k

/-- The MIRROR entry indices a request takes while PROTECTED = 1 (R440, R443): those of its PWB entries, or of a delayed-write or
conditional-store slot; none for a request that is not mirrored. -/
def Dev.mirrorIdx (d : Dev) (r : Req) : List Nat :=
  if !d.twin.prot || r.st == .ended then []
  else if r.posted then (if d.mirrors r.path then d.freeIdx r.path r.entries else [])
  else
    match r.ing, r.op with
    | .lw _ _, .write => [32 + r.otag]
    | .lw _ _, .condStore => [48 + r.otag]
    | _, _ => []

/-- A request takes its place among those in flight, with its acceptance number and, when non-posted, its TT entry. A write toward a peer
leaves over its link at once. -/
def Dev.place (d : Dev) (r : Req) : Dev :=
  let idx := d.mirrorIdx r
  let r := { r with seq := if r.noComb && r.seq != 0 then r.seq else d.fab.nextSeq, tag := if r.posted then 0 else d.ttLowest, gen := d.generation, mirIdx := idx,
                    mirrored := !idx.isEmpty }
  let d := d.onFab fun b => { b with reqs := b.reqs ++ [r], nextSeq := b.nextSeq + 1 }
  match r.tgt with
  | .link _ _ => if r.path ≠ .l2h ∧ d.mayPerform r then d.sendOut r else d
  | _ => d

/-- A combining line is emitted: it takes an entry of its path's PWB and goes out as one write (R218). While the buffer is full it waits with the
acceptance number it has. -/
def Dev.emitLine (d : Dev) (l : CwbLine) : Dev :=
  let d := d.onFab fun b => { b with cwb := b.cwb.filter fun x => x != l }
  match d.route (l.granule * 64) 64 with
  | .ok t =>
    let r : Req := { seq := 0, agent := l.agent, ident := l.ident, orig := l.orig, ing := l.ing, op := .write, posted := true,
                     ga := l.granule * 64, len := 64, data := l.data, tgt := t, path := l.path, entries := 1, ts := l.ts, noComb := true }
    if d.pwbRoom l.path 1 then d.place r
    else d.onFab fun b => { b with held := b.held ++ [{ r with why := .room, seq := b.nextSeq }], nextSeq := b.nextSeq + 1 }
  | .error e =>
    let r : Req := { seq := d.fab.nextSeq, agent := l.agent, ident := l.ident, orig := l.orig, ing := l.ing, op := .write,
                     posted := true, ga := l.granule * 64, len := 64, data := l.data, path := l.path, ts := l.ts }
    (d.logFail r e.1 e.2).noteFail l.agent l.ident l.ing d.fab.nextSeq e.1

/-- Every line the predicate names is emitted, oldest first (R218). -/
def Dev.emitLines (d : Dev) (p : CwbLine → Bool) : Dev := (d.fab.cwb.filter p).foldl (fun d l => d.emitLine l) d

/-- One 64-byte block of a combinable write: it merges into its line or takes one, the oldest line giving way when all eight are in use;
a line written in full is emitted (R217, R218). -/
def Dev.combineBlock (d : Dev) (r : Req) (granule : Nat) (data : WData) : Dev :=
  let p := writePath r.ing r.tgt
  let key := fun (l : CwbLine) => l.path == p && l.agent == r.agent && l.ing == r.ing && l.granule == granule && l.ident == r.ident
  let full := fun (l : WData) => l.all (·.isSome)
  match d.fab.cwb.find? key with
  | some l =>
    let l' := { l with data := mergeData l.data data }
    let d := d.onFab fun b => { b with cwb := b.cwb.map fun x => if x == l then l' else x }
    if full l'.data then d.emitLine l' else d
  | none =>
    let d : Dev := match d.fab.cwb.filter (fun l => l.path == p) with
      | o :: rest => if 7 ≤ rest.length then d.emitLine o else d
      | [] => d
    let l : CwbLine := { path := p, agent := r.agent, ident := r.ident, orig := r.orig, ing := r.ing, granule := granule, data := data,
                         ts := r.ts }
    let d := d.onFab fun b => { b with cwb := b.cwb ++ [l] }
    if full data then d.emitLine l else d

/-- The part of a write's data in one 64-byte granule, as 64 entries. -/
def Req.granuleData (r : Req) (g : Nat) : WData :=
  (List.range 64).map fun i => if r.ga ≤ g * 64 + i then (r.data.getD (g * 64 + i - r.ga) none) else none

/-- A combinable write enters its combining buffer, granule by granule (R217). -/
def Dev.combine (d : Dev) (r : Req) : Dev :=
  (List.range (blocksOf r.ga r.len)).foldl (fun d i => d.combineBlock r (r.ga / 64 + i) (r.granuleData (r.ga / 64 + i))) d

/-! ### Prefetched data -/

/-- A prefetched block is discarded (R237): undelivered bytes of a zone block count in LBU_PREF_DISCARD, and are logged where the zone has
SIDEFX = 1. -/
def Dev.dropBlock (d : Dev) (b : PrefBlock) : Dev :=
  let d := d.onFab fun f => { f with pref := f.pref.filter fun x => x != b }
  match b.zone with
  | some z =>
    if b.left.isEmpty then d
    else
      let d := d.bump Reg.lbuPrefDiscard
      if d.winBit .lz z 7 then
        d.log { agent := b.agent, orig := d.devid, path := 2, winFam := 4, winNum := z } .prefDiscardSide b.ga b.left.length
      else d
  | none => d

/-- Every prefetched block the predicate names is discarded. -/
def Dev.dropBlocks (d : Dev) (p : PrefBlock → Bool) : Dev := (d.fab.pref.filter p).foldl (fun d b => d.dropBlock b) d

/-- A write through a window, or of bytes of a block, discards the prefetched data it touches (R237). -/
def Dev.prefWrite (d : Dev) (ing : Option Ingress) (ga len : Nat) : Dev :=
  let sameWin := fun (b : PrefBlock) => match ing with
    | some g => g.window.isSome && g.window == b.ing.window
    | none => false
  d.dropBlocks fun b => sameWin b || (decide (ga < b.ga + b.data.length) && decide (b.ga < ga + len))

/-- The bytes of a read that a prefetched block of the same requester and window holds, by GA (R236). -/
def Dev.prefKnown (d : Dev) (r : Req) : List (Nat × Byte) :=
  (d.fab.pref.filter fun b => b.agent == r.agent && b.ing == r.ing).flatMap fun b =>
    (List.range r.len).filterMap fun i =>
      if b.ga ≤ r.ga + i ∧ r.ga + i < b.ga + b.data.length then some (r.ga + i, b.data.getD (r.ga + i - b.ga) 0) else none

/-- Served bytes of prefetched blocks are delivered (R236). -/
def Dev.prefServe (d : Dev) (r : Req) : Dev :=
  d.onFab fun f => { f with pref := f.pref.map fun b =>
    if b.agent == r.agent && b.ing == r.ing then { b with left := b.left.filter fun o => !(decide (r.ga ≤ b.ga + o) && decide (b.ga + o < r.ga + r.len)) }
    else b }

/-! ### Own writes and reads -/

/-- An earlier write of the requester that a read does not pass: through the same window, or to the same end point for a requester without
one, or every earlier write when the window has ORDER_STRICT = 1 (R75, R213). -/
def Dev.readBlockedBy (d : Dev) (r w : Req) : Bool :=
  w.agent == r.agent && w.pendingWrite && (decide (w.seq < r.seq) || r.seq == 0) &&
    (d.ingStrict r.ing ||
      match r.ing.window with
      | some _ => w.ing == r.ing
      | none => endPoint w.tgt w.ga == endPoint r.tgt r.ga)

/-- Writes sent to a peer that a read waits for (R213). -/
def Dev.readSentBlocks (d : Dev) (r : Req) (s : SentMark) : Bool :=
  s.agent == r.agent && (decide (s.first < r.seq) || r.seq == 0) &&
    (d.ingStrict r.ing ||
      match r.ing.window with
      | some _ => s.ing == r.ing
      | none => r.tgt == .link s.link s.dst)

/-- WBARs toward every device a waiting read has earlier writes at (R213, R224). -/
def Dev.wbarsForRead (d : Dev) (r : Req) : Dev :=
  let dsts := (d.fab.sent.filter (d.readSentBlocks r)).map (fun s => (s.link, s.dst)) ++
    (d.fab.reqs.filter fun w => w.posted && d.readBlockedBy r w).filterMap fun w => match w.tgt with | .link n dst => some (n, dst) | _ => none
  dsts.eraseDups.foldl (fun d p => d.sendWbar p.1 p.2) d

/-- The posted write buffer on a read's route from which it may be forwarded (R213). -/
def Dev.forwardPath (r : Req) : Option WPath :=
  match writePath r.ing r.tgt with
  | .direct => none
  | p => some p

/-- The newest value of each byte of a read in the requester's own writes held in one posted write buffer; none where a byte is
missing (R213). -/
def Dev.forwarded (d : Dev) (r : Req) : Option (List Byte) :=
  match Dev.forwardPath r with
  | none => none
  | some p =>
    let ws := d.fab.reqs.filter fun w => w.posted && w.agent == r.agent && w.path == p && d.readBlockedBy r w
    (List.range r.len).mapM fun i =>
      ws.foldl (fun acc w => if w.ga ≤ r.ga + i then (match w.data.getD (r.ga + i - w.ga) none with | some b => some b | none => acc) else acc)
        none

/-- The state an accepted non-posted request starts in (R213): it proceeds, or waits for the requester's earlier writes. -/
def Dev.readState (d : Dev) (r : Req) : ReqState :=
  if ((d.fab.reqs ++ d.fab.held.filter (·.noComb)).any fun w => d.readBlockedBy r w) || d.fab.sent.any (d.readSentBlocks r) then .waiting
  else .ready

/-! ### Acceptance -/

/-- An operation that breaks a size or target rule of R227 ends as DECODE with DETAIL 4. -/
def Req.sizeRule (r : Req) (t : Target) : Bool :=
  match r.op with
  | .rsvLoad => t == .reg || r.ga / 64 != (r.ga + (r.len - 1)) / 64
  | .condStore => t == .reg || !([1, 2, 4, 8].contains r.len && r.ga % r.len == 0 && r.data.all (·.isSome))
  | .fetchAdd | .swap | .cas =>
    t == .reg || (match t with | .ow _ => true | _ => false) || !([4, 8].contains r.len && r.ga % r.len == 0) ||
      r.data.length != (if r.op = .cas then 2 * r.len else r.len)
  | _ => false

/-- A request that fails before it reaches an end point: a posted write is lost and remembered, any other takes a TT entry and holds its
failure for the step that answers it. -/
def Dev.failEarly (d : Dev) (r : Req) (t : ErrType) (detail : Nat) : Dev :=
  let d := d.logFail r t detail
  if r.posted then (d.noteFail r.agent r.ident r.ing d.fab.nextSeq t).onFab fun b => { b with nextSeq := b.nextSeq + 1 }
  else
    let d := d.place { r with tgt := .reg, st := .ended, status := some t, rts := d.stamp }
    match d.req? (d.fab.nextSeq - 1) with
    | some r => d.deliver r
    | none => d

/-- A request stays behind an earlier one of its requester that waits at its ingress. Behind a write that waits for room, reads through other
windows, or to other end points for a requester without one, go on (R75, R213). -/
def Dev.behind (d : Dev) (r h : Req) : Bool :=
  h.agent == r.agent && (h.why != .room || r.posted || d.ingStrict r.ing ||
    match r.ing.window with
    | some _ => h.ing == r.ing
    | none =>
      match d.route h.ga (max h.len 1), d.route r.ga (max r.len 1) with
      | .ok a, .ok b => endPoint a h.ga == endPoint b r.ga
      | _, _ => false)

/-- Why a request waits at its ingress, if it does (R25, R70, R210, R222, R233). -/
def Dev.holdReason (d : Dev) (r : Req) (earlier : List Req) : Option HoldWhy :=
  match earlier.find? (d.behind r) with
  | some h => some h.why
  | none =>
    if d.barrierHolds r.agent then some .barrier
    else if !d.ingEa r.ing && d.fab.reqs.any (fun w => w.agent == r.agent && w.ing == r.ing && w.op == .write && !w.posted && w.st != .ended)
    then some .ea0
    else if d.semBlocked r.agent r.ga r.len then some .semaphore
    else if !r.posted && !d.ttRoom (ttClass r.ing) then some .tt
    else none

/-- The host requester a posted write of WIN_BARRIER names (R84); its combining lines go out before the write (R218, R220). -/
def Req.barrierOf (r : Req) : Option Nat :=
  let at' := r.ga % 2 ^ 38
  if r.tgt = .reg ∧ r.agent < 32 ∧ at' ≤ Reg.winBarrier ∧ Reg.winBarrier + 4 ≤ at' + r.len then
    let b := fun i => ((r.data.getD (Reg.winBarrier - at' + i) none).getD 0).toNat
    some ((b 0 + 256 * b 1) / 16 % 32)
  else none

/-- A request that nothing holds is routed and accepted, combined, forwarded or refused. The requester's combining lines go out before any
non-posted access (R218). -/
def Dev.acceptRouted (d : Dev) (r : Req) (t : Target) : Dev :=
  let r := { r with tgt := t, path := if r.posted then writePath r.ing t else .direct }
  let d : Dev := match t with
    | .zone n => d.bump (winBase .lz n + 0x18)
    | .ow n => d.bump (winBase .ow n + 0x18)
    | _ => d
  if r.posted then
    if d.combines r then d.combine r
    else
      let d := if r.strict then (d.emitLines fun l => l.agent == r.agent).wbarsFor r.agent else d
      let d := match r.barrierOf with | some h => d.emitLines fun l => l.agent == h | none => d
      d.place { r with entries := if r.path = .direct then 0 else blocksOf r.ga r.len }
  else
    let d := d.emitLines fun l => l.agent == r.agent
    if r.op = .condStore ∧ r.agent ∈ d.fab.breaks then
      -- R230: a recorded break fails the store at the origin
      let d := d.onFab fun b => { b with breaks := b.breaks.filter (· != r.agent) }
      let d := d.place { r with tgt := .reg, st := .ended, csFail := true, rts := d.stamp }
      match d.req? (d.fab.nextSeq - 1) with
      | some r => d.deliver r
      | none => d
    else
      let known := if r.op = .read then d.prefKnown r else []
      if r.op = .read ∧ known.length = r.len ∧ 0 < r.len ∧ d.readState r = .ready then
        let d := (d.prefServe r).place { r with st := .ended, rdata := known.map (·.2), rts := d.stamp }
        match d.req? (d.fab.nextSeq - 1) with
        | some r => d.deliver r
        | none => d
      else
        match (if r.op = .read ∧ 0 < r.len then d.forwarded r else none) with
        | some bs =>
          let d := d.place { r with st := .ended, rdata := bs, rts := d.stamp }
          match d.req? (d.fab.nextSeq - 1) with
          | some r => d.deliver r
          | none => d
        | none =>
          let flush : Bool := match r.ing with | .lw _ _ => r.op == .read && r.len == 0 | _ => false
          let st := if d.readState r = .ready ∧ flush then .ended else d.readState r
          let d := d.place { r with st := st, known := known }
          if st = .waiting then d.wbarsForRead r else d

/-! ### The Arcade access table -/

/-- A span of a register-space access lies in an entry of the Arcade access table, with the right it needs (R493). -/
def AccessEntry.allows (e : AccessEntry) (lo hi : Nat) (write remote : Bool) : Bool :=
  decide (e.lo ≤ lo) && decide (hi ≤ e.hi) && (if write then e.write else e.read) && (!remote || e.remote)

/-- The default access table (R493). -/
def defaultAccess : List AccessEntry :=
  [{ lo := 0, hi := 0xFFF_FFFF, read := true, write := false, remote := false },
   { lo := 0x80_0020, hi := 0x80_002B, read := false, write := true, remote := false },
   { lo := 0x60_0000, hi := 0x60_FFFF, read := false, write := true, remote := false },
   { lo := 0x90_0000, hi := 0x90_FFFF, read := false, write := true, remote := false },
   { lo := 0x50_0100, hi := 0x50_01FF, read := false, write := true, remote := false }]

/-- What the Arcade is refused whatever the table holds (R493). -/
def arcNever (lo hi : Nat) : Bool :=
  let touches := fun (a b : Nat) => decide (lo ≤ b) && decide (a ≤ hi)
  touches 0x100_0000 0x10F_FFFF || touches Reg.sysResetCtl (Reg.sysResetCtl + 7) || touches Reg.sysCalCtl (Reg.sysCalCtl + 7) ||
    touches Reg.hpLinkCtl (Reg.hpLinkCtl + 3) || touches 0x77_9000 0x77_903F

/-- An access of the Arcade to register space passes the access table (R493). LDG_MBX_CMD takes its writes and LDG_MBX_STATUS its reads
(DEDUCED, log 40). -/
def Dev.arcAllowed (d : Dev) (lo len : Nat) (write remote : Bool) : Bool :=
  let hi := lo + len - 1
  if !remote ∧ ((write ∧ lo = Reg.ldgMbxCmd ∧ len = 4) ∨ (!write ∧ Reg.ldgMbxStatus ≤ lo ∧ hi < Reg.ldgMbxStatus + 4)) then true
  else !arcNever lo hi && ((d.ldg.access.getD defaultAccess).any fun e => e.allows lo hi write remote)

/-- The Arcade's own device refuses an access to another device's register space that the table does not allow (R493). -/
def Dev.arcRefused (d : Dev) (r : Req) : Bool :=
  let lo := r.ga % 2 ^ 38
  let reads := r.op != .write && r.op != .condStore
  let writes := r.op != .read && r.op != .rsvLoad
  isArc r.agent && r.ing.local && r.ga / 2 ^ 38 % 1024 != d.devid && decide (lo < 0x1000_0000) &&
    ((reads && !d.arcAllowed lo (max r.len 1) false true) || (writes && !d.arcAllowed lo (max r.len 1) true true))

/-- A request that nothing holds at its ingress: STOP_ON_ERR, age, the Arcade access table, routing and size rules apply in turn (R56–R60, R76,
R77, R227, R493). -/
def Dev.accept (d : Dev) (r : Req) : Dev :=
  match d.fab.stops.find? fun s => s.agent == r.agent && s.ing == r.ing && r.posted with
  | some s => (d.log (r.culprit d) s.type r.ga 0).noteFail r.agent r.ident r.ing d.fab.nextSeq s.type
  | none =>
    if d.tooOld r.ts (d.ingAge r.ing) then d.failEarly r .ageDrop (d.age r.ts)
    else if d.arcRefused r then d.failEarly r .perm 0
    else
      match d.route r.ga (max r.len 1) with
      | .error e => d.failEarly r e.1 e.2
      | .ok t =>
        if r.sizeRule t then d.failEarly r .decode 4
        else d.acceptRouted { r with strict := r.posted && d.ingStrict r.ing } t

/-- A path takes no new write: the drain of a reset or of a planned handover runs (R290, R447); an LBU reset drains H→L and L→H only. -/
def Dev.pathDrains (d : Dev) (p : WPath) : Bool :=
  match p with
  | .h2l | .l2h => d.lbu.draining || d.twin.handover
  | .itm _ => d.ldg.warm || d.twin.handover
  | .direct => false

/-- A posted write that finds no room in the buffer of its first path, or finds that path draining, waits where it stands (R210, R290). -/
def Dev.needsRoom (d : Dev) (r : Req) : Bool :=
  r.posted &&
    match d.route r.ga (max r.len 1) with
    | .ok t =>
      let q := { r with tgt := t }
      d.pathDrains (writePath r.ing t) || (!d.combines q && !d.pwbRoom (writePath r.ing t) (blocksOf r.ga r.len))
    | .error _ => false

/-- A write that must wait for its end point crosses as a non-posted write (R70): through an ingress with EA = 0, or into an outbound
window with EA = 0 of the device it enters. -/
def Dev.asWrite (d : Dev) (r : Req) : Req :=
  if r.op = .write ∧ r.posted ∧ r.ing.local then
    let owWaits := match d.route r.ga (max r.len 1) with
      | .ok (.ow n) => !d.winBit .ow n 6
      | _ => false
    if !d.ingEa r.ing || owWaits then { r with posted := false } else r
  else r

/-- A request arrives at its ingress: it is held there, or accepted. -/
def Dev.issue (d : Dev) (r : Req) : Dev :=
  let r := d.asWrite r
  match d.holdReason r d.fab.held with
  | some w => d.onFab fun b => { b with held := b.held ++ [{ r with why := w }] }
  | none =>
    if d.needsRoom r then d.onFab fun b => { b with held := b.held ++ [{ r with why := .room }] }
    else d.accept r

/-- Held requests are tried again in the order they arrived; each requester keeps its own order (R222, R233). -/
def Dev.retryHeldFrom (d : Dev) : List Req → List Req → Dev
  | _, [] => d
  | still, r :: t =>
    match d.holdReason r still with
    | some w => (d.onFab fun b => { b with held := b.held ++ [{ r with why := w }] }).retryHeldFrom (still ++ [{ r with why := w }]) t
    | none =>
      if d.needsRoom r then
        (d.onFab fun b => { b with held := b.held ++ [{ r with why := .room }] }).retryHeldFrom (still ++ [{ r with why := .room }]) t
      else (d.accept r).retryHeldFrom still t

/-- Requests toward peers that a barrier, a mirror or the limit of 256 held in their buffer or TT entry, and that may leave now, are sent in
acceptance order. -/
def Dev.pumpPeers (d : Dev) : Dev :=
  d.fab.reqs.foldl (fun d r =>
    match r.tgt with
    | .link _ _ => if r.path ≠ .l2h ∧ d.mayPerform r then d.sendOut r else d
    | _ => d) d

/-! ### Messages received in TC1 -/

/-- The link a received message leaves by toward its DST_DEV (R164). -/
def Dev.msgRoute (d : Dev) (dst : Nat) : Option Nat :=
  if dst / 64 = d.devid / 64 then (match d.routeNode (dst % 64) with | .ok n => some n | .error _ => none) else d.upRoute

/-- What a waiting message waits for is done: here, the posted writes that arrived before it on its link (for a WBAR those of its ORIG_DEV) are
performed or relayed; on its way onward, those toward the same outgoing link are sent (R164, R166, R296). -/
def Dev.msgReady (d : Dev) (w : WaitMsg) : Bool :=
  let from' := fun (r : Req) => r.posted && decide (r.seq < w.mark) && (match r.ing with | .link n _ => n == w.link | _ => false)
  let toLink := fun (r : Req) => match r.tgt with | .link _ _ => true | _ => false
  if w.t.dst = d.devid then
    if w.t.op = 0x08 then !(d.fab.reqs.any fun r => from' r && r.orig == w.t.orig && !toLink r)
    else !(d.fab.reqs.any fun r => from' r && !(toLink r && r.st == .started))
  else !(d.fab.reqs.any fun r => from' r && r.st == .ready &&
    match r.tgt, d.msgRoute w.t.dst with | .link m _, some n => m == n | _, _ => false)

/-- The completion of a WBAR goes back on a link, where that is UP (R164, R166). -/
def Dev.wbarAnswer (d : Dev) (n tag orig : Nat) (status : Option ErrType) : Dev :=
  if (d.link n).state == .up then
    d.emit (.itm n { op := 0x48, tag := tag, ts := d.stamp, orig := d.devid, dst := orig, status := (status.map errCode).getD 0, tc := 3 })
  else d

/-- The link the completion of a waiting WBAR goes back on: none of the five where the link it came by has been DOWN since (R172). -/
def WaitMsg.back (w : WaitMsg) : Nat := if w.lost then 5 else w.link

/-- A waiting message whose writes are done takes effect or goes on; `none` while a WBAR finds no free barrier entry. -/
def Dev.actMsg (d : Dev) (w : WaitMsg) : Option Dev :=
  if w.t.dst = d.devid then
    if w.t.op = 0x08 then
      let fail := (d.fab.peerFail.find? fun p => p.1 == w.link && p.2.1 == w.t.orig).map (·.2.2)
      some ((d.onFab fun b => { b with peerFail := b.peerFail.filter fun p => !(p.1 == w.link && p.2.1 == w.t.orig) }).wbarAnswer
        w.back w.t.tag w.t.orig fail)
    else some (d.setRemote (w.t.orig % 64) (w.t.addr % 256) (w.t.op == 0x20))
  else
    match d.msgRoute w.t.dst with
    | none => some (if w.t.op = 0x08 then d.wbarAnswer w.back w.t.tag w.t.orig (some .peerDown) else d)
    | some m =>
      if w.t.op = 0x08 then
        (d.barrierEntry m).map fun e =>
          (d.onFab fun b => { b with wbars := b.wbars ++
            [{ link := m, entry := e, dst := w.t.dst, last := 0, backLink := some w.back, backTag := w.t.tag, orig := w.t.orig }] }).emit
            (.itm m { w.t with tag := e })
      else some (d.sendMsg m w.t)

/-- Waiting messages are tried in the order they arrived; one toward a link where an earlier one of the same link waits keeps its place. -/
def Dev.pumpMsgsFrom (d : Dev) : List WaitMsg → List WaitMsg → Dev
  | still, [] => d.onFab fun b => { b with waitMsgs := still }
  | still, w :: t =>
    let behind := w.t.dst != d.devid && still.any fun x => x.link == w.link && x.t.dst != d.devid && d.msgRoute x.t.dst == d.msgRoute w.t.dst
    if behind || !d.msgReady w then d.pumpMsgsFrom (still ++ [w]) t
    else
      match d.actMsg w with
      | some d' => d'.pumpMsgsFrom still t
      | none => d.pumpMsgsFrom (still ++ [w]) t

/-- Every waiting message is tried. -/
def Dev.pumpMsgs (d : Dev) : Dev := d.pumpMsgsFrom [] d.fab.waitMsgs

/-- Every held request is tried again, and requests and messages toward peers go on. -/
def Dev.retryHeld (d : Dev) : Dev :=
  let hs := d.fab.held
  ((d.onFab fun b => { b with held := [] }).retryHeldFrom [] hs).pumpPeers.pumpMsgs

/-! ### After a write -/

/-- A write that has been performed or has failed is known at its ingress block: it leaves its buffers, counts for barriers and the window
stop, and what waited for it goes on (R212, R223, R76). -/
def Dev.writeDone (d : Dev) (r : Req) : Dev :=
  let d := d.dropReq r.seq
  let d : Dev := match r.status with
    | some t => d.noteFail r.agent r.ident r.ing r.seq t
    | none => d
  d.retryHeld

/-- The messages, frames and records sent on a link before the write numbered `seq` are acknowledged (R170). -/
def Dev.ackMsgs (d : Dev) (n seq : Nat) : Dev :=
  { d with itm := d.itm.modify n fun l => { l with msgs := l.msgs.filter fun m => seq < m.mark } }

/-- A write toward a peer is acknowledged on its link: its buffer entries are free and the writes of its requester there wait for a
WBAR (R210, R224). -/
def Dev.peerAcked (d : Dev) (r : Req) : Dev :=
  match r.tgt with
  | .link n dst =>
    let d := d.dropReq r.seq
    d.onFab fun b =>
      match b.sent.find? fun s => s.agent == r.agent && s.ing == r.ing && s.link == n && s.dst == dst with
      | some s => { b with sent := { s with last := max s.last r.seq } :: b.sent.filter fun x => x != s }
      | none => { b with sent := { agent := r.agent, ing := r.ing, link := n, dst := dst, first := r.seq, last := r.seq } :: b.sent }
  | _ => d

end Sys2Proof.Machine
end

