-- ==== Sys2Proof/Machine/Settle.lean ====
section
/-!
DEFINITION. What follows a command at once: the fault manager's actions (R432), the state-stream records of posted write entries (R440) and
the messages of changed interrupt levels (R179, R293, R294). `State.act` makes a command's effect into a step.
-/
namespace Sys2Proof.Machine

/-! ### Mirroring posted write entries -/

/-- PATH of a mirrored request (R440): its posted-write path, L→H for a slot. -/
def Req.mirPath (r : Req) : Nat := if r.posted then wpathCode r.path else 3

/-- The part of a request's write data in its `k`-th 64-byte block, as 64 entries. -/
def Req.blockData (r : Req) (k : Nat) : WData :=
  (List.range 64).map fun i =>
    let g := (r.ga / 64 + k) * 64 + i
    if r.ga ≤ g then r.data.getD (g - r.ga) none else none

/-- The MIRROR records of a request, one per entry (R440). -/
def Dev.sendMirror (d : Dev) (r : Req) : Dev :=
  r.mirIdx.zipIdx.foldl (fun d p =>
    let block := r.blockData p.2
    let first := (block.findIdx? (·.isSome)).getD 0
    let used := block.drop first
    let bytes := ((used.reverse.dropWhile (·.isNone)).reverse).map fun b => b.getD 0
    let win := (logWinOf r.ing r.tgt).2 + 32 * (logWinOf r.ing r.tgt).1
    d.sendRec 3 (leBytes 1 r.mirPath ++ leBytes 1 p.1 ++ leBytes 1 r.agent ++ leBytes 1 0 ++ leBytes 2 r.orig ++ leBytes 2 win ++
      leBytes 6 ((r.ga / 64 + p.2) * 64 + first) ++ leBytes 2 bytes.length ++
      leBytes 8 (maskOf 64 fun i => (block.getD i none).isSome) ++ bytes)) d

/-- A mirrored entry is next to be performed at its end point: every earlier one there has started or ended (R440). -/
def Dev.nextThere (d : Dev) (r : Req) : Bool :=
  !(d.fab.reqs.any fun w => w.posted && decide (w.seq < r.seq) && w.st == .ready && endPoint w.tgt w.ga == endPoint r.tgt r.ga)

/-- The STARTED records of the entries that became next (R440, R443). -/
def Dev.sendStarted (d : Dev) : Dev :=
  (d.fab.reqs.filter fun r => !r.mirIdx.isEmpty && !r.startedSent && r.st != .ended && d.nextThere r).foldl (fun d r =>
    (r.mirIdx.foldl (fun d i => d.sendRec 4 (leBytes 1 r.mirPath ++ leBytes 1 i)) d).updReq r.seq fun r => { r with startedSent := true }) d

/-- The records that posted write entries taken, started and retired by a command send (R440). -/
def mirrorSettle (old new : Dev) : Dev :=
  if !new.twin.streaming then new
  else
    let fresh := new.fab.reqs.filter fun r => !r.mirIdx.isEmpty && !(old.fab.reqs.any fun q => q.seq == r.seq)
    let d := (fresh.foldl (fun d r => d.sendMirror r) new).sendStarted
    let gone := old.fab.reqs.filter fun r => !r.mirIdx.isEmpty && r.st != .ended &&
      (match new.req? r.seq with | some q => q.st == .ended | none => true)
    gone.foldl (fun d r =>
      let t := match new.req? r.seq with | some q => (q.status.map errCode).getD 0 | none => 0
      r.mirIdx.foldl (fun d i => d.sendRec 5 (leBytes 1 r.mirPath ++ leBytes 1 i ++ leBytes 1 t)) d) d

/-! ### Interrupts -/

/-- What the interrupt levels a command has changed send at once: Itmos level messages (R179), firmware interrupts (R293) and one interrupt
message cell for each vector that rises (R294). -/
def intSettle (old new : Dev) : Dev :=
  let was := (old.activeAt 5).map (·.1)
  let now := (new.activeAt 5).map (·.1)
  let d := (now.filter fun s => !was.contains s).foldl (fun d s => d.itmosLevel s true) new
  let d := (was.filter fun s => !now.contains s).foldl (fun d s => d.itmosLevel s false) d
  let fwWas := old.activeAt 3 ++ old.activeAt 4
  let d := ((new.activeAt 3).filter fun x => !fwWas.contains x).foldl (fun d x => d.emit (.fwIrq 4 x.1)) d
  let d := ((new.activeAt 4).filter fun x => !fwWas.contains x).foldl (fun d x => d.emit (.fwIrq (x.2 % 4) x.1)) d
  let vWas := old.vecsHigh
  (d.vecsHigh.filter fun v => !vWas.contains v).foldl (fun d v => d.sendVec v) d

/-! ### Gazebo writes -/

/-- The device with a Gazebo channel changed. -/
def Dev.onChan (d : Dev) (c : Nat) (f : GzbChan → GzbChan) : Dev :=
  { d with gzb := { d.gzb with chans := d.gzb.chans.modify c f } }

/-- Some write of a channel accepted with a number from `lo` up to below `hi` is not yet performed, or not yet covered by a WBAR (R315). -/
def Dev.gzbPending (d : Dev) (c lo hi : Nat) : Bool :=
  (d.fab.reqs.any fun r => r.agent == 40 + c && r.pendingWrite && decide (lo ≤ r.seq) && decide (r.seq < hi)) ||
    d.fab.sent.any fun s => s.agent == 40 + c && decide (s.first < hi) && decide (lo ≤ s.last)

/-- A failure touches the acceptance numbers from `lo` up to below `hi`. -/
def GzbFail.touches (f : GzbFail) (c lo hi : Nat) : Bool := f.agent == 40 + c && decide (f.lo < hi) && decide (lo ≤ f.hi)

/-- A failed write of a channel reaches the descriptor that tracks it, or stops the channel after its handback (R315). -/
def Dev.gzbFailed (d : Dev) (f : GzbFail) : Dev :=
  let c := f.agent - 40
  match d.gzb.chans[c]? with
  | none => d
  | some y =>
    let mine := fun (x : GzbDesc) => x.tracked && x.wb.isNone && x.err.isNone && f.touches c x.lo (x.hi.getD d.fab.nextSeq)
    if y.work.any mine then
      (d.onChan c fun y => { y with work := y.work.map fun x => if mine x then { x with err := some f.type } else x }).bump
        (gzbReg Reg.gzbChWrFail c)
    else if y.tails.any fun t => f.touches c t.1 t.2 then
      (d.onChan c fun y => if y.work.isEmpty then { y with stopped := true, cause := 4 } else { y with pend := 4 }).bump
        (gzbReg Reg.gzbChWrFail c)
    else d

/-- A channel counts an event (R317). -/
def Dev.gzbEvent (d : Dev) (c : Nat) : Dev := d.setFld (gzbReg Reg.gzbChEvt c) 0 16 (d.fld (gzbReg Reg.gzbChEvt c) 0 16 + 1)

/-- The IH event of a channel whose first half has been performed, and the watch over handed-back writes (R315, R317). -/
def Dev.gzbWatch (d : Dev) (c : Nat) : Dev :=
  match d.gzb.chans[c]? with
  | none => d
  | some y =>
    let half := fun (x : GzbDesc) => x.raw.testBit 185 && !x.ihDone &&
      (match x.ihHi with
        | some h => !d.gzbPending c x.lo h && !(d.fab.gzbFail.any fun f => f.touches c x.lo h)
        | none => false)
    let n := (y.work.filter half).length
    let d := (List.range n).foldl (fun d _ => d.gzbEvent c) d
    d.onChan c fun y => { y with work := y.work.map (fun x => if half x then { x with ihDone := true } else x),
                                 tails := y.tails.filter fun t => d.gzbPending c t.1 t.2 }

/-- What follows at once in the Gazebo (R315, R317). -/
def gzbSettle (d : Dev) : Dev :=
  let new := d.fab.gzbFail.filter fun f => !f.seen
  let d := new.foldl (fun d f => d.gzbFailed f) d
  let d := d.onFab fun b => { b with gzbFail := b.gzbFail.map fun f => { f with seen := true } }
  (List.range 16).foldl (fun d c =>
    if (match d.gzb.chans[c]? with | some y => !y.work.isEmpty || !y.tails.isEmpty | none => false) then d.gzbWatch c else d) d

/-- An UNSYNC device enters SYNCING as soon as the TWIN link is UP and the peer is ACTIVE, unless it waits out a tie-break round (R437,
R438). -/
def twinSettle (d : Dev) : Dev :=
  if d.twin.state = .unsync ∧ d.twinLinkUp ∧ d.twin.peerAct ∧ d.twin.tieRound.isNone then
    d.onTwin fun t => { t with state := .syncing, recvAny := false, recvSeq := 0, mirror := [], executed := [] }
  else d

/-- Everything that follows a command at once. -/
def settle (old new : Dev) : Dev := intSettle old (mirrorSettle old (twinSettle (faultSettle old (gzbSettle new))))

/-- A step of the device: the command's effect on everything but the queue of pending commands, its outputs collected from an empty list,
and what follows at once in the interrupt block. -/
def State.act (s : State) (f : Dev → Dev) : Host.Outcome State Fault Refusal :=
  .next { s with dev := settle s.dev (f { s.dev with out := [] }) }

end Sys2Proof.Machine
end

