-- ==== Sys2Proof/Machine/HostPort.lean ====
section
/-!
DEFINITION. The PCI Express host port: inbound requests and their answers (R91–R102), requests toward the host (R103–R105), interrupt
messages (R106), link, power and reset events (R107–R110).
-/
namespace Sys2Proof.Machine

/-- The device with the host port's own state changed. -/
def Dev.onHp (d : Dev) (f : HostPort → HostPort) : Dev := { d with hp := f d.hp }

/-! ### Answers to the host -/

/-- The completion status of a failure on a SYNCERR = 1 window (R98). -/
def cplOf : ErrType → CplStatus
  | .decode => .unsupported
  | .perm => .unsupported
  | _ => .abort

/-- An error completion is sent and counted in HP_UR_COUNT or HP_CA_COUNT (R110). -/
def Dev.errCpl (d : Dev) (rid ptag : Nat) (st : CplStatus) (owed lower : Nat) : Dev :=
  (d.emit (.hostCpl rid ptag st owed lower [])).bump (if st = .unsupported then Reg.hpUrCount else Reg.hpCaCount)

/-- The data of a read goes back split at every multiple of Max Payload Size (R100). -/
def Dev.dataCpls (d : Dev) (rid ptag addr len : Nat) (data : List Byte) : Dev :=
  if len = 0 then d.emit (.hostCpl rid ptag .success 1 (addr % 128) [])
  else (splitAt d.hp.mps (len + 1) addr len).foldl (fun d p =>
    d.emit (.hostCpl rid ptag .success (addr + len - p.1) (p.1 % 128) ((data.drop (p.1 - addr)).take p.2))) d

/-- The answer to an inbound read or AtomicOp (R98, R100): its data; on failure all-ones for the failed bytes, or, with SYNCERR = 1, the
completions before the failure and one with the failure's status. -/
def Dev.hostAnswer (d : Dev) (rid ptag addr len : Nat) (status : Option ErrType) (failAt : Nat) (data : List Byte) (sync : Bool) : Dev :=
  match status with
  | none => d.dataCpls rid ptag addr len data
  | some t =>
    if sync then
      let whole := (splitAt d.hp.mps (len + 1) addr len).filter fun p => p.1 + p.2 ≤ addr + failAt
      let d := whole.foldl (fun d p =>
        d.emit (.hostCpl rid ptag .success (addr + len - p.1) (p.1 % 128) ((data.drop (p.1 - addr)).take p.2))) d
      let sent := whole.foldl (fun n p => n + p.2) 0
      d.errCpl rid ptag (cplOf t) (len - sent) ((addr + sent) % 128)
    else d.dataCpls rid ptag addr len (data.take failAt ++ List.replicate (len - failAt) 0xFF)

/-- A request the host port itself ends with Unsupported Request, logged as DECODE (R96). -/
def Dev.hostRefuse (d : Dev) (rid ptag ga : Nat) (write answered : Bool) (c : Culprit) (detail : Nat := 7) : Dev :=
  let d := (d.bump Reg.winDecodeMiss).log { c with path := 0, orig := d.devid, write := write, errResp := answered } .decode ga detail
  if answered then d.errCpl rid ptag .unsupported 0 (ga % 128) else d

/-! ### BAR 4 -/

/-- The 32-bit word of BAR 4 at an offset (R61): the MSI-X table, the pending-bit array, zero elsewhere. -/
def Dev.bar4Word (d : Dev) (off : Nat) : Nat :=
  if off < 0x400 then
    if off % 16 = 12 then b2n (d.hp.msixMask.getLsbD (off / 16)) else (cellGet d.hp.msix (off / 4)).toNat
  else if off = 0x8000 then d.hp.pending.toNat % 2 ^ 32
  else if off = 0x8004 then d.hp.pending.toNat / 2 ^ 32
  else 0

/-- Interrupt messages may leave: MSI-X Enable and Bus Master Enable are 1 and the function is in D0 on a working link (R106). -/
def Dev.msixOpen (d : Dev) : Bool := d.hp.msixEn && d.hp.bme && !d.hp.d3hot && d.hp.linkUp

/-- Vector `v` is masked, by its own mask bit or by Function Mask (R106). -/
def Dev.vecMasked (d : Dev) (v : Nat) : Bool := d.hp.msixFmask || d.hp.msixMask.getLsbD v

/-- The message of a vector leaves with the address and data of the table (R106). -/
def Dev.emitMsix (d : Dev) (v : Nat) : Dev :=
  d.emit (.msix v (cellGet d.hp.msix (4 * v + 1)) (cellGet d.hp.msix (4 * v)) (cellGet d.hp.msix (4 * v + 2)))

/-- The messages held as pending bits of vectors no longer masked are sent (R106). -/
def Dev.sendPending (d : Dev) : Dev :=
  if d.msixOpen then
    ((List.range 64).filter fun v => d.hp.pending.getLsbD v && !d.vecMasked v).foldl
      (fun d v => (d.onHp fun h => { h with pending := h.pending &&& ~~~(1#64 <<< v) }).emitMsix v) d
  else d

/-- A 32-bit write of BAR 4 (R61): the table's words; the pending-bit array and all else ignore it. -/
def Dev.bar4Write (d : Dev) (off : Nat) (v : Nat) : Dev :=
  if off < 0x400 then
    if off % 16 = 12 then
      (d.onHp fun h => { h with msixMask := if v % 2 = 1 then h.msixMask ||| (1#64 <<< (off / 16)) else h.msixMask &&& ~~~(1#64 <<< (off / 16)) }).sendPending
    else d.onHp fun h => { h with msix := cellSet h.msix (off / 4) (BitVec.ofNat 32 (if off % 16 = 0 then v / 4 * 4 else v)) }
  else d

/-- An access to BAR 4 (R61, R96): only aligned 32-bit and 64-bit accesses are performed. -/
def Dev.bar4Access (d : Dev) (r : HostReq) (len : Nat) (w : Option WData) : Dev :=
  let ok := (len = 4 ∧ r.off % 4 = 0) ∨ (len = 8 ∧ r.off % 8 = 0)
  let whole := match w with | some bs => bs.length == len && bs.all (·.isSome) | none => true
  if d.hp.d3hot then (if w.isNone then d.errCpl r.rid.toNat r.ptag .unsupported 0 0 else d)
  else if ¬ ok ∨ !whole then d.hostRefuse r.rid.toNat r.ptag 0 w.isSome w.isNone {}
  else
    match w with
    | some bs =>
      let x := leNat (bs.map (·.getD 0))
      let d := d.bar4Write r.off (x % 2 ^ 32)
      if len = 8 then d.bar4Write (r.off + 4) (x / 2 ^ 32) else d
    | none =>
      d.dataCpls r.rid.toNat r.ptag r.off len (leBytes len (d.bar4Word r.off + 2 ^ 32 * (if len = 8 then d.bar4Word (r.off + 4) else 0)))

/-! ### Inbound memory requests -/

/-- A twin in STANDBY role refuses a BAR 2 request, and a BAR 0 write outside the DEP block (R109). -/
def Dev.standbyRefuses (d : Dev) (bar : Bar) (off : Nat) (write : Bool) : Bool :=
  d.standby && (bar == .bar2 || (bar == .bar0 && write && off / 2 ^ 20 != 13))

/-- The requester, ingress and GA of a request through BAR 0 (R62, R94). -/
def Dev.bar0Req (d : Dev) (r : HostReq) : Req :=
  { seq := 0, agent := d.fld Reg.winBar0Req 0 5, ident := r.rid.toNat, orig := d.devid, ing := .bar0, op := .read, posted := false,
    ga := d.devid * 2 ^ 38 + r.off, len := 0, otag := r.ptag, ts := d.stamp }

/-- The same of a request through inbound window `n` (R63, R94). -/
def Dev.iwReq (d : Dev) (r : HostReq) (n : Nat) : Req :=
  { seq := 0, agent := n, ident := r.rid.toNat, orig := d.devid, ing := .iw n, op := .read, posted := false,
    ga := d.winGa .iw n r.off, len := 0, otag := r.ptag, ts := d.stamp }

/-- A request through an inbound window into the own device's host aperture is a loop (R66). -/
def Dev.iwLoop (d : Dev) (ga : Nat) : Bool :=
  ga / 2 ^ 38 % 1024 == d.devid && decide (0x30_0000_0000 ≤ ga % 2 ^ 38) && decide (ga % 2 ^ 38 < 0x40_0000_0000)

/-- Two offsets lie in the same view of a window (R59). -/
def Dev.sameView (d : Dev) (f : WinFam) (n a len : Nat) : Bool :=
  d.winFind f (a + (len - 1)) == some n && d.winView f n a == d.winView f n (a + (len - 1))

/-- A failure of a host request before it takes a TT entry: logged, and answered by the window's SYNCERR (R60, R98); a read's answer goes
at once. -/
def Dev.hostFail (d : Dev) (r : Req) (t : ErrType) (detail : Nat) : Dev :=
  let d := d.logFail r t detail
  if r.posted || r.op == .write || r.op == .condStore then
    (d.noteFail r.agent r.ident r.ing d.fab.nextSeq t).onFab fun b => { b with nextSeq := b.nextSeq + 1 }
  else (d.rsvException r.agent r.ident).hostAnswer r.ident r.otag r.ga r.len (some t) 0 [] (d.ingSyncErr r.ing)

/-- A BAR 2 offset that no inbound window matches ends as DECODE, answered as on a SYNCERR = 0 window (R60, R94). -/
def Dev.bar2Miss (d : Dev) (r : HostReq) (len : Nat) (write : Bool) : Dev :=
  let d := (d.bump Reg.winDecodeMiss).log { path := 0, orig := d.devid, posted := write, write := write } .decode 0 0
  if write then d else d.hostAnswer r.rid.toNat r.ptag r.off len (some .decode) 0 [] false

/-- An inbound posted write (R94–R96, R99, R109). -/
def Dev.hostWrite (d : Dev) (r : HostReq) (data : WData) : Dev :=
  if d.hp.d3hot || d.silent then d
  else
    match r.bar with
    | .noBar => d
    | .bar4 => d.bar4Access r data.length (some data)
    | .bar0 =>
      let q := { d.bar0Req r with op := .write, posted := true, len := data.length, data := data }
      if r.ep then d.log { q.culprit d with path := 0 } .decUncorr q.ga 8
      else if d.standbyRefuses .bar0 r.off true then d.hostFail q .perm 2
      else (d.prefWrite none q.ga q.len).issue q
    | .bar2 =>
      match d.winFind .iw r.off with
      | none => d.bar2Miss r data.length true
      | some n =>
        let q := { d.iwReq r n with op := .write, posted := d.winBit .iw n 6, len := data.length, data := data }
        let d := d.bump (winBase .iw n + 0x18)
        if r.ep then d.log { q.culprit d with path := 0 } .decUncorr q.ga 8
        else if d.standby then d.hostFail q .perm 2
        else if !d.sameView .iw n r.off (max data.length 1) then d.hostFail q .decode 4
        else if d.iwLoop q.ga then d.hostFail q .decode 6
        else
          let d := d.prefWrite (some (.iw n)) q.ga q.len
          match d.winView .iw n r.off with
          | .plain => d.issue q
          | .condStore => d.issue { q with op := .condStore, posted := false }
          | _ => d.hostFail q .decode 4

/-- An inbound read (R94–R96, R109). -/
def Dev.hostRead (d : Dev) (r : HostReq) (len : Nat) : Dev :=
  if d.hp.d3hot || r.bar == .noBar then d.errCpl r.rid.toNat r.ptag .unsupported len (r.off % 128)
  else if d.silent && r.bar != .bar0 then d
  else
    match r.bar with
    | .bar4 => d.bar4Access r len none
    | .bar2 =>
      match d.winFind .iw r.off with
      | none => d.bar2Miss r len false
      | some n =>
        let q := { d.iwReq r n with len := len }
        let d := d.bump (winBase .iw n + 0x18)
        if d.standby then d.hostFail q .perm 2
        else if !d.sameView .iw n r.off (max len 1) then d.hostFail q .decode 4
        else if d.iwLoop q.ga then d.hostFail q .decode 6
        else
          match d.winView .iw n r.off with
          | .plain => d.issue q
          | .rsvLoad => d.issue { q with op := .rsvLoad }
          | _ => d.hostFail q .decode 4
    | _ => d.issue { d.bar0Req r with len := len }

/-- An inbound AtomicOp of operand width `len` (R96, R97, R99). -/
def Dev.hostAtomic (d : Dev) (r : HostReq) (op : ReqOp) (len : Nat) (operand : List Byte) : Dev :=
  let refuse := fun (d : Dev) (ga : Nat) (c : Culprit) (detail : Nat) => d.hostRefuse r.rid.toNat r.ptag ga true true c detail
  if d.hp.d3hot || r.bar == .noBar then d.errCpl r.rid.toNat r.ptag .unsupported len (r.off % 128)
  else if d.silent then d
  else
    match r.bar with
    | .bar2 =>
      match d.winFind .iw r.off with
      | none => d.bar2Miss r len false
      | some n =>
        let q := { d.iwReq r n with op := op, len := len, data := allOn operand }
        let d := d.bump (winBase .iw n + 0x18)
        let own := q.ga / 2 ^ 38 % 1024 == d.devid
        if r.ep then
          (d.log { q.culprit d with path := 0 } .decUncorr q.ga 8).hostAnswer r.rid.toNat r.ptag q.ga len (some .decUncorr) 0 []
            (d.ingSyncErr q.ing)
        else if d.standby then d.hostFail q .perm 2
        else if len = 16 ∨ (own ∧ q.ga % 2 ^ 38 < 0x1000_0000) ∨ d.iwLoop q.ga then refuse d q.ga (q.culprit d) 7
        else if ¬ ((len = 4 ∨ len = 8) ∧ q.ga % len = 0) ∨ operand.length ≠ (if op = .cas then 2 * len else len) then
          refuse d q.ga (q.culprit d) 4
        else if d.winView .iw n r.off != .plain || !d.sameView .iw n r.off len then d.hostFail q .decode 4
        else (d.prefWrite (some (.iw n)) q.ga len).issue q
    | _ => refuse d (d.bar0Req r).ga {} 7

/-! ### Completions reaching P0 -/

/-- The TT entry of an open host request. -/
def Dev.hostReq? (d : Dev) (tag : Nat) : Option Req :=
  d.fab.reqs.find? fun r => !r.posted && r.orphan == 0 && ttClass r.ing == 0 && r.tag == tag

/-- A failed open write of a host requester has no answer; it counts for barriers and the window stop (R223, R280). -/
def Dev.writeFail (d : Dev) (r : Req) : Dev :=
  match r.status with
  | some t => if r.op == .write then d.noteFail r.agent r.ident r.ing r.seq t else d
  | none => d

/-- The completion of an open host request is returned, after the age check of its window (R77, R100). -/
def Dev.hostReturn (d : Dev) (r : Req) : Dev :=
  let old := r.status.isNone && d.tooOld r.rts (d.ingAge r.ing)
  let d := if old then d.log (r.culprit d) .ageDrop r.ga (d.age r.rts + 2 * 2 ^ 40) else d
  let r := if old then { r with status := some .ageDrop, failAt := 0 } else r
  let d := ((d.dropReq r.seq).rsvRecord r).writeFail r
  let d := if r.op = .write ∨ r.op = .condStore then d
    else d.hostAnswer r.ident r.otag r.ga r.len r.status r.failAt r.rdata (d.ingSyncErr r.ing)
  d.retryHeld

/-- The inbound watchdog ends a request as TIMEOUT; its completion will be discarded as late (R102). -/
def Dev.watchdog (d : Dev) (r : Req) : Dev :=
  let d := ((d.bump Reg.hpInbTimeoutCount).log (r.culprit d) .timeout r.ga 1).updReq r.seq fun r => { r with orphan := 1 }
  let r := { r with status := some .timeout, failAt := 0 }
  let d := ((d.rsvException r.agent r.ident).rsvRecord r).writeFail r
  let d := if r.op = .write ∨ r.op = .condStore then d
    else d.hostAnswer r.ident r.otag r.ga r.len (some .timeout) 0 [] (d.ingSyncErr r.ing)
  d.retryHeld

/-! ### Requests toward the host -/

/-- The function may issue memory requests: link up, Bus Master Enable 1 (R108); D3hot forbids writes only. -/
def Dev.hostOpen (d : Dev) : Bool := d.hp.linkUp && d.hp.bme

/-- A request toward the host that the port cannot send (R108): a write or message is discarded, counted in HP_LINK_DROP and logged once per
window as PEER_DOWN; a read ends as PEER_DOWN. -/
def Dev.hostDown (d : Dev) (r : Req) : Dev :=
  let key := logWinOf r.ing r.tgt
  if r.op = .read ∨ r.op = .rsvLoad then (d.failReq r .peerDown 7)
  else
    let d := d.bump Reg.hpLinkDrop
    let d := if d.hp.downLogged.contains key then d
      else (d.log { r.culprit d with path := 1 } .peerDown r.ga 7).onHp fun h => { h with downLogged := key :: h.downLogged }
    d.finish r.seq (some .peerDown) 0 []

/-- The outbound window of a request. -/
def Req.owOf (r : Req) : Nat := match r.tgt with | .ow n => n | _ => 0

/-- A conditional store at its end point checks the reservation, which ends in either case (R227, R229). -/
def Dev.condCheck (d : Dev) (r : Req) : Bool × Dev :=
  let mine := fun (x : Rsv) => x.agent == r.agent && (r.agent < 32 || 40 ≤ r.agent || x.ident == r.ident)
  let ok := d.fab.rsv.any fun x => mine x && x.ident == r.ident && x.granule == r.ga / 64
  (ok, d.onFab fun b => { b with rsv := b.rsv.filter fun x => !mine x })

/-- A reserved load performed at its end point sets its holder's reservation; a 65th replaces the oldest (R227, R228). -/
def Dev.setRsv (d : Dev) (r : Req) : Dev :=
  let mine := fun (x : Rsv) => x.agent == r.agent && (r.agent < 32 || 40 ≤ r.agent || x.ident == r.ident)
  let new : Rsv := { agent := r.agent, ident := r.ident, granule := r.ga / 64,
                     link := (match r.ing with | .link n _ => some n | _ => none), setAt := d.blv.vt }
  let d := d.onFab fun b => { b with rsv := b.rsv.filter fun x => !mine x }
  let d := match d.fab.rsv with
    | o :: _ => if 64 ≤ d.fab.rsv.length then d.loseRsv (· == o) else d
    | [] => d
  d.onFab fun b => { b with rsv := b.rsv ++ [new] }

/-- A write reaching P0 leaves as memory write TLPs (R103, R206): each contiguous run split at Max Payload Size and 4 KiB. -/
def Dev.emitHostWrite (d : Dev) (r : Req) : Dev :=
  let n := r.owOf
  let parts := (wruns 0 r.data).flatMap fun p => splitRun d.hp.mps (d.owAddr n (r.ga + p.1)) p.2
  parts.foldl (fun d p => d.emit (.hostWr p.1 p.2 (d.winBit .ow n 14))) d

/-- A write into an outbound window is followed by a zero-length read when the window or its ingress has EA = 0 (R70, R103). -/
def Dev.needsFlush (d : Dev) (r : Req) : Bool := !d.winBit .ow r.owOf 6 || (!r.posted && r.op == .write)

/-- A write reaching P0 through an outbound window (R103, R77, R99). -/
def Dev.outboundWrite (d : Dev) (r : Req) : Dev :=
  if !d.hostOpen || d.hp.d3hot then d.hostDown r
  else if d.tooOld r.ts (d.winAge .ow r.owOf) then d.failReq r .ageDrop (d.age r.ts + 2 ^ 40)
  else if r.poison then d.failReq r .decUncorr 9
  else
    let send := fun (d : Dev) =>
      let d := (d.emitHostWrite r).rsvStore r.agent r.ident false r.ga r.len
      if d.needsFlush r then (d.updReq r.seq fun r => { r with st := .started }).onHp fun h => { h with flushes := h.flushes ++ [r.seq] }
      else d.finish r.seq none 0 []
    if r.op = .condStore then
      let c := d.condCheck r
      if c.1 then send c.2 else (c.2.updReq r.seq fun r => { r with csFail := true }).finish r.seq none 0 []
    else send d

/-- The bytes a device-issued read asks the host for: the request, or with prefetch in effect every whole block of PREF_SIZE it
reaches (R71, R200). -/
def Dev.hostReadRange (d : Dev) (r : Req) : Nat × Nat :=
  let n := r.owOf
  let pref := r.op == .read && d.winBit .ow n 7 && d.ingBit r.ing 7 true && 0 < r.len
  if pref then
    let ps := match r.ing.window with | some (f, m) => d.prefSize f m | none => d.prefSize .ow n
    (r.ga / ps * ps, (r.ga + r.len + ps - 1) / ps * ps)
  else (r.ga, r.ga + r.len)

/-- Outstanding device-issued non-posted requests allowed (R104). -/
def Dev.tagLimit (d : Dev) : Nat :=
  let t := max 1 (min 256 (d.fld Reg.hpOutCtl 0 9))
  if !d.hp.extTag && !d.hp.tag10 then min t 32 else t

/-- The next read TLP of a request leaves, once a tag and completion-buffer room are free (R103, R104). -/
def Dev.outboundRead (d : Dev) (r : Req) : Dev :=
  let flush := r.op == .write || r.op == .condStore
  let rng := d.hostReadRange r
  let a := d.owAddr r.owOf (rng.1 + r.sentLen)
  let left := rng.2 - rng.1 - r.sentLen
  let k := if flush then 0 else min (min left d.hp.mrrs) (4096 - a % 4096)
  let used := d.hp.reads.foldl (fun n x => n + x.len) 0
  if !d.hostOpen then
    if flush then (d.failReq r .peerDown 7).onHp fun h => { h with flushes := h.flushes.filter (· != r.seq) } else d.hostDown r
  else if !flush && d.tooOld r.ts (d.winAge .ow r.owOf) then d.failReq r .ageDrop (d.age r.ts + 2 ^ 40)
  else if d.tagLimit ≤ d.hp.reads.length ∨ 32768 < used + k ∨ (!flush ∧ left = 0 ∧ 0 < rng.2 - rng.1) then d
  else
    let tag := ((List.range 512).find? fun i => !(d.hp.reads.any fun x => x.ptag == i)).getD 0
    let d := if r.op = .rsvLoad ∧ r.sentLen = 0 then d.setRsv r else d
    let d := d.updReq r.seq fun r => { r with st := .started, sentLen := r.sentLen + k }
    (d.onHp fun h => { h with flushes := h.flushes.filter (· != r.seq),
                              reads := h.reads ++ [{ ptag := tag, seq := r.seq, addr := a, len := k, pos := r.sentLen }] }).emit
      (.hostRd tag a k (d.winBit .ow r.owOf 14))

/-- The read TLPs of a request are forgotten: their completions will match no tag. -/
def Dev.dropReads (d : Dev) (seq : Nat) : Dev := d.onHp fun h => { h with reads := h.reads.filter fun x => x.seq != seq }

/-- A device-issued read ends as a failure of type TIMEOUT with the given timer (R105). -/
def Dev.outboundFail (d : Dev) (seq timer : Nat) : Dev :=
  match d.req? seq with
  | some r => (d.dropReads seq).failReq r .timeout timer
  | none => d.dropReads seq

/-- Prefetched bytes of a host read are kept as blocks (R236); a 17th block replaces the oldest. -/
def Dev.keepBlocks (d : Dev) (r : Req) (zone : Option Nat) (ps lo : Nat) (data : List Byte) : Dev :=
  (List.range (data.length / ps)).foldl (fun d i =>
    let g := lo + i * ps
    let mine := d.fab.pref.filter fun b => b.zone.isSome == zone.isSome
    let d := match mine with | o :: _ => if 16 ≤ mine.length then d.dropBlock o else d | [] => d
    d.onFab fun b => { b with pref := b.pref ++
      [{ agent := r.agent, ing := r.ing, ga := g, data := (data.drop (i * ps)).take ps,
         left := (List.range ps).filter (fun o => !(decide (r.ga ≤ g + o) && decide (g + o < r.ga + r.len))), zone := zone }] }) d

/-- A completion of a device-issued read arrives (R105): data, or a status that ends the read as TIMEOUT. -/
def Dev.outboundCpl (d : Dev) (x : OutRead) (st : CplStatus) (data : List Byte) : Dev :=
  match st with
  | .success =>
    match d.req? x.seq with
    | none => d.dropReads x.seq
    | some r =>
      if r.op = .write ∨ r.op = .condStore then (d.dropReads x.seq).finish x.seq none 0 []
      else
        let d := d.onHp fun h => { h with reads := h.reads.map fun y => if y.ptag = x.ptag then { y with data := some (data.take x.len) } else y }
        let mine := d.hp.reads.filter fun y => y.seq == x.seq
        let rng := d.hostReadRange r
        if r.sentLen = rng.2 - rng.1 ∧ mine.all (fun y => y.data.isSome) then
          let all := mine.flatMap fun y => y.data.getD []
          let d := d.dropReads x.seq
          let d := if rng = (r.ga, r.ga + r.len) then d
            else d.keepBlocks r none (match r.ing.window with | some (f, m) => d.prefSize f m | none => d.prefSize .ow r.owOf) rng.1 all
          d.finish x.seq none 0 ((all.drop (r.ga - rng.1)).take r.len)
        else d
  | _ => d.outboundFail x.seq 3

/-! ### Host-side events -/

/-- Posted writes toward the host are discarded, logged once per window and counted in HP_LINK_DROP; interrupt messages count only in
HP_MSIX_DROP (R108). -/
def Dev.discardHostWrites (d : Dev) : Dev :=
  let ws := d.fab.reqs.filter fun r => r.op == .write && r.st != .ended && (match r.tgt with | .ow _ => true | _ => false)
  let keys := (ws.map fun r => logWinOf r.ing r.tgt).eraseDups
  let d := keys.foldl (fun d k =>
    let mine := ws.filter fun r => logWinOf r.ing r.tgt == k
    match mine with
    | r :: _ => (d.log { r.culprit d with path := 1 } .peerDown r.ga 7 mine.length).onHp fun h => { h with downLogged := k :: h.downLogged }
    | [] => d) d
  let d := ws.foldl (fun d r => (d.bump Reg.hpLinkDrop).finish r.seq (some .peerDown) 0 []) d
  (d.bump Reg.hpMsixDrop d.hp.msgs.length).onHp fun h => { h with msgs := [], flushes := [] }

/-- The function is reset (R108, first two rows): configuration space and MSI-X table at R92 values, CFG_DONE cleared, open inbound requests
forgotten, outstanding device-issued reads ended as PEER_DOWN, writes toward the host discarded; the Lodge's re-application is due. -/
def Dev.functionReset (d : Dev) : Dev :=
  let d := d.onHp fun h =>
    { h with bme := false, msixEn := false, msixFmask := false, d3hot := false, mps := 128, mrrs := 512, extTag := true, tag10 := false,
             cplTimeoutOff := false, msix := [], msixMask := BitVec.allOnes 64, pending := 0, reconfig := true, downLogged := [] }
  let d := d.setFld Reg.hpLinkCtl 5 1 0
  let d := d.onFab fun b =>
    { b with
      reqs := (b.reqs.filter fun r => !(ttClass r.ing == 0 && !r.posted && r.st == .ended)).map fun r =>
        if ttClass r.ing == 0 && !r.posted then { r with orphan := 2 } else r
      held := b.held.filter fun r => !(ttClass r.ing == 0 && !r.posted) }
  let rs := d.fab.reqs.filter fun r => (r.op == .read || r.op == .rsvLoad) && r.st == .started && (match r.tgt with | .ow _ => true | _ => false)
  let d := rs.foldl (fun d r => (d.dropReads r.seq).failReq r .peerDown 7) d
  d.discardHostWrites

/-- The link goes down: HP_STATUS.LINK_UP falls and is counted (R108). -/
def Dev.hostLinkDown (d : Dev) : Dev :=
  let d := if d.hp.linkUp then d.bump Reg.hpLinkDownCount else d
  d.onHp fun h => { h with linkUp := false, speed := 0, width := 0 }

/-- Entry to D3hot (R108, third row). -/
def Dev.enterD3 (d : Dev) : Dev := (d.onHp fun h => { h with d3hot := true }).discardHostWrites

/-- The negotiated speed and width within HP_LINK_CTL's limits (R107, R110). -/
def Dev.trainHost (d : Dev) (speed width : Nat) : Dev :=
  let maxW := match d.fld Reg.hpLinkCtl 2 2 with | 0 => 1 | 1 => 2 | _ => 4
  d.onHp fun h => { h with speed := min (max speed 1) (d.fld Reg.hpLinkCtl 0 2 + 1), width := min (max width 1) maxW }

/-- A window's EN going from 1 to 0 emits its combining lines and discards its prefetched data (R67). -/
def Dev.windowOff (d : Dev) (f : WinFam) (n : Nat) : Dev :=
  let d := d.setFld (winBase f n) 0 1 0
  let mine := fun (g : Ingress) => g.window == some (f, n)
  (d.emitLines fun l => mine l.ing).dropBlocks fun b => mine b.ing

/-! ### Meanings -/

/-- HOST_MWR (R95). -/
def execHostMwr (r : HostReq) (data : WData) (s : State) : Host.Outcome State Fault Refusal := s.act fun d => d.hostWrite r data

/-- HOST_MRD (R95). -/
def execHostMrd (r : HostReq) (len : Nat) (s : State) : Host.Outcome State Fault Refusal := s.act fun d => d.hostRead r len

/-- HOST_FETCHADD (R97). -/
def execHostFetchadd (r : HostReq) (len : Nat) (add : List Byte) (s : State) : Host.Outcome State Fault Refusal :=
  s.act fun d => d.hostAtomic r .fetchAdd len add

/-- HOST_SWAP (R97). -/
def execHostSwap (r : HostReq) (len : Nat) (new : List Byte) (s : State) : Host.Outcome State Fault Refusal :=
  s.act fun d => d.hostAtomic r .swap len new

/-- HOST_CAS (R96, R97). -/
def execHostCas (r : HostReq) (len : Nat) (compare new : List Byte) (s : State) : Host.Outcome State Fault Refusal :=
  s.act fun d => d.hostAtomic r .cas len (compare ++ new)

/-- HOST_CONFIG_REQUEST (R92, R106, R107). -/
def execHostConfigRequest (c : CfgReq) (s : State) : Host.Outcome State Fault Refusal :=
  s.act fun d =>
    if !d.flag Reg.hpLinkCtl 5 then d.emit .cfgCrs
    else
      match c with
      | .readId => d.emit (.cfgAnswer 0x96401F4C)
      | .readRevClass => d.emit (.cfgAnswer 0x068000B0)
      | .readSubsys => d.emit (.cfgAnswer (d.rd Reg.hpSubsys))
      | .readCommand => d.emit (.cfgAnswer (BitVec.ofNat 32 (4 * b2n d.hp.bme)))
      | .writeBme on => (d.onHp fun h => { h with bme := on, downLogged := if on then [] else h.downLogged }).sendPending
      | .writeMsix en fm => (d.onHp fun h => { h with msixEn := en, msixFmask := fm }).sendPending
      | .writeDevCtl mps mrrs ext t10 =>
        d.onHp fun h => { h with mps := min 512 (128 * 2 ^ mps.val), mrrs := 128 * 2 ^ mrrs.val, extTag := ext, tag10 := t10 }
      | .writeCplTimeout off => d.onHp fun h => { h with cplTimeoutOff := off }
      | .writePower d3 => if d3 then d.enterD3 else (d.onHp fun h => { h with d3hot := false, downLogged := [] }).sendPending
      | .readCaps | .other => (d.emit (.cfgAnswer (Config.freeWord d.fresh))).tick

/-- HOST_IO_REQUEST (R96). -/
def execHostIoRequest (rid : BitVec 16) (ptag : Nat) (write : Bool) (s : State) : Host.Outcome State Fault Refusal :=
  s.act fun d => d.hostRefuse rid.toNat ptag 0 write true {}

/-- HOST_MESSAGE (R96): neither kind changes the device's state. -/
def execHostMessage (_vendorType1 : Bool) (s : State) : Host.Outcome State Fault Refusal := s.act id

/-- HOST_BAR4_ACCESS (R61, R96). -/
def execHostBar4Access (r : HostReq) (len : Nat) (w : Option WData) (s : State) : Host.Outcome State Fault Refusal :=
  s.act fun d => d.bar4Access r len w

/-- MSIX_UNMASK (R106): the mask of one vector, or Function Mask, is removed. -/
def execMsixUnmask (v : Option (Fin 64)) (s : State) : Host.Outcome State Fault Refusal :=
  s.act fun d =>
    (d.onHp fun h => match v with
      | some v => { h with msixMask := h.msixMask &&& ~~~(1#64 <<< v.val) }
      | none => { h with msixFmask := false }).sendPending

/-- HOST_COMPLETION_RETURN (R100, R102). -/
def execHostCompletionReturn (tag : Nat) (s : State) : Host.Outcome State Fault Refusal :=
  s.act fun d =>
    match d.hostReq? tag with
    | some r => if r.st = .ended then d.hostReturn r else d
    | none => d.bump Reg.hpLateCpl

/-- INB_WATCHDOG_EXPIRY (R102): a completion that has arrived takes precedence. -/
def execInbWatchdogExpiry (tag : Nat) (s : State) : Host.Outcome State Fault Refusal :=
  s.act fun d =>
    match d.hostReq? tag with
    | some r => if r.st = .ended then d else d.watchdog r
    | none => d

/-- A request of a target class that may be performed now. -/
def Dev.owReq? (d : Dev) (seq : Nat) : Option Req :=
  match d.req? seq with
  | some r => match r.tgt with | .ow _ => some r | _ => none
  | none => none

/-- OUTBOUND_WRITE (R103). -/
def execOutboundWrite (seq : Nat) (s : State) : Host.Outcome State Fault Refusal :=
  s.act fun d =>
    match d.owReq? seq with
    | some r => if (r.op = .write ∨ r.op = .condStore) ∧ d.mayPerform r ∧ !d.silent then d.outboundWrite r else d
    | none => d

/-- OUTBOUND_READ_ISSUE (R104): a read, or the zero-length read that follows a write. -/
def execOutboundReadIssue (seq : Nat) (s : State) : Host.Outcome State Fault Refusal :=
  s.act fun d =>
    match d.owReq? seq with
    | some r =>
      if d.silent then d
      else if r.op = .write ∨ r.op = .condStore then (if d.hp.flushes.contains seq then d.outboundRead r else d)
      else if d.mayPerform r ∨ r.st = .started then d.outboundRead r else d
    | none => d

/-- OUTBOUND_COMPLETION (R105). -/
def execOutboundCompletion (ptag : Nat) (st : CplStatus) (data : List Byte) (s : State) : Host.Outcome State Fault Refusal :=
  s.act fun d =>
    match d.hp.reads.find? fun x => x.ptag == ptag with
    | some x => d.outboundCpl x st data
    | none => d

/-- OUTBOUND_CPL_TIMEOUT (R105). -/
def execOutboundCplTimeout (ptag : Nat) (s : State) : Host.Outcome State Fault Refusal :=
  s.act fun d =>
    match d.hp.reads.find? fun x => x.ptag == ptag with
    | some x => (d.bump Reg.hpOutTimeoutCount).outboundFail x.seq 2
    | none => d

/-- MSIX_MESSAGE_SEND (R106): the oldest interrupt message cell is sent, set pending, or dropped and counted. -/
def execMsixMessageSend (s : State) : Host.Outcome State Fault Refusal :=
  s.act fun d =>
    match d.hp.msgs with
    | [] => d
    | v :: t =>
      let d := d.onHp fun h => { h with msgs := t }
      if !d.msixOpen then d.bump Reg.hpMsixDrop
      else if d.vecMasked v then d.onHp fun h => { h with pending := h.pending ||| (1#64 <<< v) }
      else d.emitMsix v

/-- HOST_LINK_LOSS (R108). -/
def execHostLinkLoss (c : LinkLossCause) (s : State) : Host.Outcome State Fault Refusal :=
  s.act fun d => ((d.onHp fun h => { h with perst := decide (c = .perst) || h.perst }).functionReset).hostLinkDown

/-- FUNCTION_LEVEL_RESET (R108). -/
def execFunctionLevelReset (s : State) : Host.Outcome State Fault Refusal := s.act fun d => d.functionReset

/-- D3HOT_ENTRY (R108). -/
def execD3hotEntry (s : State) : Host.Outcome State Fault Refusal := s.act fun d => d.enterD3

/-- HOST_LINK_UP (R107): PCIE_PERST_N is high and the link finishes training while LTSSM_EN = 1. -/
def execHostLinkUp (speed width : Nat) (s : State) : Host.Outcome State Fault Refusal :=
  s.act fun d =>
    if d.flag Reg.hpLinkCtl 4 then (d.onHp fun h => { h with perst := false, linkUp := true, downLogged := [] }).trainHost speed width
    else d

/-- LINK_RETRAIN (R110): the limits of HP_LINK_CTL act at this training. -/
def execLinkRetrain (speed width : Nat) (s : State) : Host.Outcome State Fault Refusal :=
  s.act fun d => if d.hp.linkUp then d.trainHost speed width else d

/-- WINDOW_DISABLE (R67). -/
def execWindowDisable (f : WinFam) (n : Fin 32) (s : State) : Host.Outcome State Fault Refusal :=
  s.act fun d => if n.val < winCount f ∧ d.winEn f n.val then d.windowOff f n.val else d

end Sys2Proof.Machine
end

