-- ==== Sys2Proof/Machine/Ordering.lean ====
section
/-!
DEFINITION. Barriers (R220–R224), host semaphores (R235), buffers and waiting reads (R210, R213, R218), expiries of reservations and
prefetched data (R229, R237).
-/
namespace Sys2Proof.Machine

/-! ### Barriers -/

/-- The requester a barrier covers (R220). -/
def barrierAgent : BarrierSrc → Nat
  | .win _ h => h.val
  | .lw k => 56 + k.val
  | .gzb c => 40 + c.val
  | .fw r => r.val

/-- The status of a master's latest barrier: SEQ, DONE and ERR; a master that has issued none reads SEQ 0, DONE 1 (R81). -/
def Dev.lwBarOf (d : Dev) (k : Nat) : Nat × Bool × Bool :=
  match d.fab.lwBar.find? fun x => x.1 == k with
  | some x => x.2
  | none => (0, true, false)

/-- The device with a master's barrier status set. -/
def Dev.setLwBar (d : Dev) (k : Nat) (x : Nat × Bool × Bool) : Dev :=
  d.onFab fun b => { b with lwBar := (k, x) :: b.lwBar.filter fun y => y.1 != k }

/-- A barrier is accepted (R218, R220–R222, R224): the requester's combining lines go out first, WBARs cover its writes sent to peers, and a
failure no barrier has reported is its to report (R223). -/
def Dev.takeBarrier (d : Dev) (src : BarrierSrc) (complete : Bool) : Dev :=
  let q := barrierAgent src
  let d := (d.emitLines fun l => l.agent == q).wbarsFor q
  let err := d.fab.failed.contains q || d.fab.barriers.any fun b => b.agent == q && b.err
  let d := d.onFab fun b =>
    { b with barriers := b.barriers ++ [{ agent := q, complete := complete, seq := b.nextSeq, src := src, err := err }],
             nextSeq := b.nextSeq + 1, failed := b.failed.filter (· != q) }
  match src with
  | .win _ h =>
    let d := d.onFab fun b => { b with winBarSeq := (b.winBarSeq + 1) % 65536 }
    d.wr Reg.winBarrierStatus (BitVec.ofNat 32 (h.val * 256 + d.fab.winBarSeq * 65536))
  | .lw k => d.setLwBar k.val (((d.lwBarOf k.val).1 + 1) % 65536, false, false)
  | _ => d

/-- A write of WIN_BARRIER by a requester other than a host ends as PERM with DETAIL 4 (R84, R283). -/
def Dev.barrierFrom (d : Dev) (src : BarrierSrc) (complete : Bool) : Dev :=
  match src with
  | .win w _ =>
    if 32 ≤ w.val then
      d.log { agent := w.val, orig := d.devid, path := 10, posted := true, write := true } .perm (d.devid * 2 ^ 38 + Reg.winBarrier) 4
    else d.takeBarrier src complete
  | _ => d.takeBarrier src complete

/-- A WIN_BARRIER barrier (R85). -/
def isWinBarrier : BarrierSrc → Bool
  | .win _ _ => true
  | _ => false

/-- A barrier may be done: every covered write is performed or has failed, and WIN_BARRIER barriers are done in acceptance order
(R85, R223). -/
def Dev.barrierReady (d : Dev) (b : Barrier) : Bool :=
  !d.coveredLeft b.agent b.seq && !(isWinBarrier b.src && d.fab.barriers.any fun c => isWinBarrier c.src && decide (c.seq < b.seq))

/-- The BF barrier of a Gazebo channel's descriptor is done (R318): an error hands it back with the type of the first failed write the barrier
covered. -/
def Dev.gzbBarDone (d : Dev) (c : Nat) (b : Barrier) : Dev :=
  let old := d
  let first := (d.fab.gzbFail.find? fun f => f.agent == 40 + c && decide (f.lo < b.seq)).map (·.type)
  let mark := fun (x : GzbDesc) =>
    if x.bar = 1 then { x with bar := 2, err := if b.err && x.err.isNone then some (first.getD .timeout) else x.err } else x
  let d : Dev := { d with gzb := { d.gzb with chans := d.gzb.chans.modify c fun y => { y with work := y.work.map mark } } }
  let fresh : Bool := match old.gzb.chans[c]? with | some y => y.work.any (fun x => x.bar == 1 && x.err.isNone) | none => false
  let d := if b.err ∧ fresh then d.bump (Reg.gzbChWrFail + 0x40 * c) else d
  d.onFab fun f => { f with gzbFail := f.gzbFail.filter fun x => !(x.agent == 40 + c && decide (x.lo < b.seq)) }

/-- A barrier is done with its ERR (R223): its status shows it, a window stop of its requester ends after COMPLETE (R76), an error is an
exception on the holder's reservation (R229), and what it held goes on. -/
def Dev.barrierDone (d : Dev) (b : Barrier) : Dev :=
  let d := d.onFab fun f =>
    { f with barriers := f.barriers.filter fun c => c.seq != b.seq,
             stops := if b.complete then f.stops.filter fun s => s.agent != b.agent else f.stops }
  let d : Dev := match b.src with
    | .win _ _ =>
      if d.fab.barriers.any fun c => isWinBarrier c.src then d
      else d.setFld Reg.winBarrierStatus 0 2 (1 + 2 * b2n b.err)
    | .lw k =>
      let d := if d.fab.barriers.any fun c => c.src == b.src then d else d.setLwBar k.val ((d.lwBarOf k.val).1, true, b.err)
      { d with lbu := { d.lbu with slots := d.lbu.slots.map fun x =>
          if x.op = .barrier ∧ x.seq = b.seq then { x with state := .held } else x } }
    | .fw r => d.emit (.fwAnswer r.val (if b.err then some .timeout else none) false [])
    | .gzb c => d.gzbBarDone c.val b
  let d := if b.err then d.rsvException b.agent 0 else d
  d.retryHeld

/-- ORDER_BARRIER (R221). -/
def execOrderBarrier (src : BarrierSrc) (s : State) : Host.Outcome State Fault Refusal := s.act fun d => d.barrierFrom src false

/-- COMPLETE_BARRIER (R222). -/
def execCompleteBarrier (src : BarrierSrc) (s : State) : Host.Outcome State Fault Refusal := s.act fun d => d.barrierFrom src true

/-- BARRIER_DONE (R223): the barrier with an acceptance number. -/
def execBarrierDone (seq : Nat) (s : State) : Host.Outcome State Fault Refusal :=
  s.act fun d =>
    match d.fab.barriers.find? fun b => b.seq == seq with
    | some b => if d.barrierReady b then d.barrierDone b else d
    | none => d

/-- The word a BARRIER window returns to master k (R81, R85). -/
def Dev.lwBarWord (d : Dev) (k : Nat) : Word :=
  let x := d.lwBarOf k
  BitVec.ofNat 32 (b2n x.2.1 + 2 * b2n x.2.2 + 256 * k + 65536 * x.1)

/-! ### Host semaphores -/

/-- CLAIM bits are written by host requesters only; any other write ends as PERM with DETAIL 4 (R235). -/
def Dev.semClaim (d : Dev) (who i : Nat) (on : Bool) : Dev :=
  if 32 ≤ who then
    d.log { agent := who, orig := d.devid, path := 10, posted := true, write := true } .perm (d.devid * 2 ^ 38 + Reg.winHostSemClaim) 4
  else
    let d := d.setFld Reg.winHostSemClaim i 1 (b2n on)
    if on then d
    else (d.onFab fun b => { b with semGranted := b.semGranted &&& ~~~(1#16 <<< i) }).retryHeld

/-- A pending claim of slot i may be granted: no locked sequence holds the slot or its granule (R235). -/
def Dev.semGrantable (d : Dev) (i : Nat) : Bool :=
  d.flag Reg.winHostSemClaim i && !d.fab.semGranted.getLsbD i &&
    !(d.fab.semLocks.any fun l => l.1 == i || d.semGranule l.1 == d.semGranule i)

/-- HOST_SEM_CLAIM (R235). -/
def execHostSemClaim (who : Requester) (i : Fin 16) (s : State) : Host.Outcome State Fault Refusal :=
  s.act fun d => d.semClaim who.val i.val true

/-- HOST_SEM_RELEASE (R235). -/
def execHostSemRelease (who : Requester) (i : Fin 16) (s : State) : Host.Outcome State Fault Refusal :=
  s.act fun d => d.semClaim who.val i.val false

/-- HOST_SEM_GRANT (R235). -/
def execHostSemGrant (i : Fin 16) (s : State) : Host.Outcome State Fault Refusal :=
  s.act fun d =>
    if d.semGrantable i.val then d.onFab fun b => { b with semGranted := b.semGranted ||| (1#16 <<< i.val) } else d

/-! ### Buffers and waiting reads -/

/-- The oldest write of a master toward a peer moves from L→H into the ITMn buffer when that has room, and leaves over the link (R209, R210). -/
def Dev.l2hMove (d : Dev) : Dev :=
  match d.fab.reqs.find? fun r => r.path == .l2h && r.posted && d.mayPerform r && (match r.tgt with | .link _ _ => true | _ => false) with
  | some r =>
    match r.tgt with
    | .link n _ =>
      if h : n < 5 then
        if d.pwbRoom (.itm ⟨n, h⟩) r.entries then
          let r' := { r with path := .itm ⟨n, h⟩ }
          (d.updReq r.seq fun _ => r').sendOut r'
        else d
      else d
    | _ => d
  | none => d

/-- CWB_LINE_AGE_EXPIRY (R218): the `i`-th line of a path, oldest first, is emitted. -/
def execCwbLineAgeExpiry (p : WPath) (i : Nat) (s : State) : Host.Outcome State Fault Refusal :=
  s.act fun d =>
    match (d.fab.cwb.filter fun l => l.path == p)[i]? with
    | some l => d.emitLine l
    | none => d

/-- WAITING_READ_RELEASE (R213). -/
def execWaitingReadRelease (seq : Nat) (s : State) : Host.Outcome State Fault Refusal :=
  s.act fun d =>
    match d.req? seq with
    | some r =>
      if r.st = .waiting ∧ d.readState r = .ready then
        let d := d.updReq seq fun r => { r with st := .ready }
        match r.ing, r.tgt with
        | .lw _ _, _ => if r.len = 0 ∧ r.op = .read then d.finish seq none 0 [] else
          match r.tgt with
          | .link _ _ => d.sendPeer r
          | _ => d
        | _, .link _ _ => d.sendPeer r
        | _, _ => d
      else d
    | none => d

/-- RESERVATION_EXPIRY (R229): 100 µs have passed since the reserved load. -/
def execReservationExpiry (agent ident : Nat) (s : State) : Host.Outcome State Fault Refusal :=
  s.act fun d => d.loseRsv fun r => r.agent == agent && r.ident == ident

/-- PREFETCH_EXPIRY (R237): the `i`-th block held has been unused for 1 µs. -/
def execPrefetchExpiry (i : Nat) (s : State) : Host.Outcome State Fault Refusal :=
  s.act fun d =>
    match d.fab.pref[i]? with
    | some b => d.dropBlock b
    | none => d

end Sys2Proof.Machine
end

