-- ==== Sys2Proof/Machine/LBusMaster.lean ====
section
/-!
DEFINITION. The Orangery as master: zone requests in acceptance order (R211), the cycles it drives and their terminations (R115, R116,
R123, R126, R127, R191–R207), zone timeouts (R126, R225), the arbiter (R135–R138) and the bus monitor's stores (R139).
-/
namespace Sys2Proof.Machine

/-- The device with the Orangery's own state changed. -/
def Dev.onLbu (d : Dev) (f : Lbu → Lbu) : Dev := { d with lbu := f d.lbu }

/-- The bus runs: BUS_EN = 1, LRESET_N released, a received LCLK in range (R140, R142), and the device drives its outputs (R434, R439). -/
def Dev.busRuns (d : Dev) : Bool :=
  d.live && d.flag Reg.lbuCtl 0 && !d.lbu.lreset && (!d.flag Reg.lbuCtl 2 || d.lbu.clkOk)

/-- The zone of a request. -/
def Req.zoneOf (r : Req) : Nat := match r.tgt with | .zone n => n | _ => 0

/-- The AtomicOps (R97). -/
def isAtomic : ReqOp → Bool
  | .fetchAdd => true
  | .swap => true
  | .cas => true
  | _ => false

/-! ### Shaping a request -/

/-- Prefetch is in effect for a zone read: an ordinary read through an ingress window with PREF = 1 (R71). -/
def Dev.zonePref (d : Dev) (r : Req) : Bool := r.op == .read && 0 < r.len && r.data.isEmpty && d.ingBit r.ing 7 false

/-- The GA range a zone read covers (R200). -/
def Dev.zoneRange (d : Dev) (r : Req) : Nat × Nat :=
  if d.zonePref r then
    let ps := match r.ing.window with | some (f, m) => d.prefSize f m | none => 64
    (r.ga / ps * ps, (r.ga + r.len + ps - 1) / ps * ps)
  else (r.ga, r.ga + r.len)

/-- The enabled bytes of a request by GA: those of a write, or the bytes a read asks for, but for those a prefetched block serves. -/
def Dev.zoneBytes (d : Dev) (r : Req) (write : Bool) : List Nat :=
  let rng := if write then (r.ga, r.ga + r.len) else d.zoneRange r
  (List.range (rng.2 - rng.1)).filterMap fun i =>
    let g := rng.1 + i
    if (write && !isAtomic r.op) || !r.data.isEmpty && !isAtomic r.op then
      (if (r.data.getD i none).isSome then some g else none)
    else if r.known.any (fun k => k.1 == g) then none else some g

/-- L-bus address and GA of every byte of a request (R191, R192). -/
def Dev.zoneMap (d : Dev) (n : Nat) (gs : List Nat) : List (Nat × Nat) :=
  let en := fun (x : Nat) => gs.any fun g => g % 2 ^ 32 == x
  gs.map fun g => (swapAddr (d.winSwap .lz n) en (g % 2 ^ 32), g)

/-- The cycles of a zone request (R197, R198). -/
def Dev.zoneCycles (d : Dev) (n : Nat) (single write : Bool) (m : List (Nat × Nat)) : List BusCycle :=
  shape (d.zoneW n) (d.zoneBb n) single write (m.map (·.1))

/-- The byte a write drives at an L-bus address. -/
def writeByte (m : List (Nat × Nat)) (ga : Nat) (data : WData) (a : Nat) : Byte :=
  match m.find? fun x => x.1 == a with
  | some x => (data.getD (x.2 - ga) none).getD 0
  | none => 0

/-- The write data of the current beat is driven on its lanes, with parity where the zone has PAR_EN = 1 (R193, R208). -/
def Dev.driveBeat (d : Dev) (j : ZoneJob) (data : WData) (ga : Nat) (b : Beat) : Dev :=
  let big := d.winBig .lz j.zone
  let w := d.zoneW j.zone
  let lad := beatLad big w (writeByte j.map ga data) b.bytes
  d.emit (.busData lad (beatBeN big w b.bytes) (if d.flag (Reg.lbuZoneCfg + 4 * j.zone) 16 then lparOf lad else 0))

/-- The data a write cycle of a job drives: the request's, or the result of an AtomicOp. -/
def Dev.jobData (d : Dev) (j : ZoneJob) : WData × Nat :=
  match d.req? j.seq with
  | some r => if j.locked then (allOn r.rdata, r.ga) else (r.data, r.ga)
  | none => ([], 0)

/-- The address phase of the job's current cycle, and the first write beat after it (R115, R195). -/
def Dev.driveCycle (d : Dev) (j : ZoneJob) : Dev :=
  match j.cycles with
  | [] => d
  | c :: _ =>
    match c.beats with
    | [] => d
    | b :: _ =>
      let big := d.winBig .lz j.zone
      let w := d.zoneW j.zone
      let a := b.bytes.headD 0
      let par := if d.flag (Reg.lbuZoneCfg + 4 * j.zone) 16 then lparOf a else 0
      let d := d.emit (.busAddr a (beatBeN big w b.bytes) par (decide (1 < c.beats.length)) c.write (j.locked) j.zone)
      if c.write then
        let x := d.jobData j
        d.driveBeat j x.1 x.2 b
      else d

/-! ### The queue -/

/-- A queued request that cannot proceed (R211). -/
def Dev.zoneStuck (d : Dev) (r : Req) : Bool :=
  !d.mayPerform r || d.lbu.retried.any fun j => j.seq == r.seq

/-- The next request to start (R211): the earliest accepted that can proceed. One that cannot is passed by later requests of other
requesters, and by later posted writes of its own requester when it is a read; a retried write is not passed within its zone. -/
def Dev.nextZone (d : Dev) : Option Req :=
  let q := d.lbu.zoneQ.filterMap d.req?
  (q.find? fun r =>
    !d.zoneStuck r && (!d.lbu.guard || r.agent == 62) &&
      (q.all fun e => !(decide (e.seq ≠ r.seq)) || e.zoneOf != r.zoneOf || !(d.lbu.zoneQ.idxOf e.seq < d.lbu.zoneQ.idxOf r.seq) ||
        !d.zoneStuck e || e.agent != r.agent || (e.op == .read && r.posted)) &&
      !(d.lbu.retried.any fun j => j.zone == r.zoneOf && (match d.req? j.seq with | some e => e.op == .write | none => false)))

/-- The request numbered `seq` is a timed access of the Belvedere. -/
def Dev.isTimed (d : Dev) (seq : Nat) : Bool := match d.req? seq with | some r => r.agent == 62 | none => false

/-- A zone request leaves the Orangery's queue; a timed one ends its guard window (R138). -/
def Dev.zoneLeave (d : Dev) (seq : Nat) : Dev :=
  let timed := d.isTimed seq
  d.onLbu fun l => { l with
    guard := l.guard && !timed
    zoneQ := l.zoneQ.filter (· != seq)
    job := if (l.job.map (·.seq)) = some seq then none else l.job
    retried := l.retried.filter fun j => j.seq != seq
    locked := if (l.job.map (·.seq)) = some seq ∧ l.locked = some .orangery then none else l.locked }

/-- A zone write, performed or failed, counts as a store for reservations (R212, R229). -/
def Dev.zoneStored (d : Dev) (r : Req) : Dev :=
  if r.op = .read ∨ r.op = .rsvLoad then d
  else (d.rsvStore r.agent r.ident false r.ga r.len).prefWrite none r.ga r.len

/-- Where a failed zone request's failed part starts, and the bytes of a read below it, which stand (R202). -/
def failBound (r : Req) (j : ZoneJob) (lowest : Nat) : Nat × List Byte :=
  let low := if r.op = .write ∨ r.op = .condStore then lowest else lowest / 8 * 8
  let f := max r.ga (min low (r.ga + r.len))
  let val := fun (g : Nat) => ((j.got ++ r.known).find? fun x => x.1 == g).elim 0 (·.2)
  (f - r.ga, (List.range (f - r.ga)).map fun i => val (r.ga + i))

/-- The lowest GA the job's current beat carries, or of its first beat not yet transferred (R202). -/
def ZoneJob.beatGa (j : ZoneJob) (dflt : Nat) : Nat :=
  match j.cycles with
  | c :: _ =>
    match c.beats.drop j.beat with
    | b :: _ => ((j.map.filter fun x => b.bytes.contains x.1).map (·.2)).foldl min (2 ^ 48)
    | [] => dflt
  | [] => dflt

/-- A zone request fails: no further cycle of it is issued, the bytes below the failing beat stand (R202). -/
def Dev.zoneFail (d : Dev) (j : ZoneJob) (t : ErrType) (detail lowest : Nat) : Dev :=
  match d.req? j.seq with
  | some r =>
    let f := failBound r j lowest
    let d := (d.zoneLeave j.seq).zoneStored r
    d.failReq r t detail f.1 f.2
  | none => d.zoneLeave j.seq

/-- A queued zone request ends as TIMEOUT without a bus cycle, counted in LBU_TIMEOUT_COUNT (R142, R225, R290). -/
def Dev.zoneEnd (d : Dev) (r : Req) (timer : Nat) : Dev :=
  let d := (d.bump Reg.lbuTimeoutCount).zoneLeave r.seq
  d.failReq r .timeout (timer + 16 * r.zoneOf)

/-- A zone request completes (R204, R212): a read's bytes in Pergola order, prefetched blocks kept, a reserved load's reservation set. -/
def Dev.zoneFinish (d : Dev) (j : ZoneJob) : Dev :=
  match d.req? j.seq with
  | none => d.zoneLeave j.seq
  | some r =>
    let d := d.zoneLeave j.seq
    let val := fun (g : Nat) => ((j.got ++ r.known).find? fun x => x.1 == g).elim 0 (·.2)
    if r.op = .read ∨ r.op = .rsvLoad then
      let d := if r.op = .rsvLoad then d.setRsv r else d
      let rng := d.zoneRange r
      let d := if d.zonePref r then
          d.keepBlocks r (some j.zone) (match r.ing.window with | some (f, m) => d.prefSize f m | none => 64) rng.1
            ((List.range (rng.2 - rng.1)).map fun i => val (rng.1 + i))
        else d
      d.finish r.seq none 0 ((List.range r.len).map fun i => val (r.ga + i))
    else (d.zoneStored r).finish r.seq none 0 []

/-- The result of an AtomicOp of `n` bytes on an old value: the new value, or none where a CAS compare fails (R97, R207). -/
def atomicResult (op : ReqOp) (n old : Nat) (operand : List Byte) : Option Nat :=
  match op with
  | .fetchAdd => some ((old + leNat operand) % 2 ^ (8 * n))
  | .swap => some (leNat operand)
  | .cas => if old = leNat (operand.take n) then some (leNat (operand.drop n)) else none
  | _ => none

/-- The reads of a locked sequence are done (R123, R207): the writes follow, or, after a failed compare, the sequence ends with the original
value. The request's data keeps the original value behind its result. -/
def Dev.lockedReads (d : Dev) (j : ZoneJob) : Dev :=
  match d.req? j.seq with
  | none => d.zoneLeave j.seq
  | some r =>
    let old := (List.range r.len).map fun i => ((j.got.find? fun x => x.1 == r.ga + i).elim 0 (·.2))
    match atomicResult r.op r.len (leNat old) (r.data.map (·.getD 0)) with
    | none => (d.zoneLeave j.seq).finish r.seq none 0 old
    | some new =>
      let d := d.updReq j.seq fun r => { r with rdata := leBytes r.len new }
      let j := { j with wrote := true, beat := 0, cycles := d.zoneCycles j.zone true true j.map }
      (d.onLbu fun l => { l with job := some j }).driveCycle j

/-- The current cycle's beats not yet transferred, and the later cycles, shaped again from the first byte not transferred (R201). -/
def Dev.reshape (d : Dev) (j : ZoneJob) : List BusCycle :=
  match j.cycles with
  | c :: rest =>
    let left := (c.beats.drop j.beat).flatMap (·.bytes) ++ rest.flatMap fun x => x.beats.flatMap (·.bytes)
    shape (d.zoneW j.zone) (d.zoneBb j.zone) c.lock c.write left
  | [] => []

/-- The job goes on after a beat: the next beat, the next cycle, or the end of the request; a guard window cuts a burst at the beat
boundary (R138, R198, R201). -/
def Dev.zoneNext (d : Dev) (j : ZoneJob) : Dev :=
  match j.cycles with
  | [] => d.zoneFinish j
  | c :: rest =>
    if j.beat < c.beats.length then
      if d.lbu.guard ∧ ¬ j.locked then
        let j := { j with cycles := d.reshape j, beat := 0, paused := true }
        d.onLbu fun l => { l with job := some j }
      else
        let d := d.onLbu fun l => { l with job := some j }
        if c.write then
          let x := d.jobData j
          (c.beats.drop j.beat).head?.elim d fun b => d.driveBeat j x.1 x.2 b
        else d
    else
      match j.parBad with
      | some p => d.zoneFail j .parity p.2 p.1
      | none =>
        let j := { j with cycles := rest, beat := 0 }
        if rest.isEmpty then
          if j.locked ∧ ¬ j.wrote then d.lockedReads j
          else if j.locked then
            match d.req? j.seq with
            | some r => ((d.zoneLeave j.seq).zoneStored r).finish r.seq none 0
                ((List.range r.len).map fun i => ((j.got.find? fun x => x.1 == r.ga + i).elim 0 (·.2)))
            | none => d.zoneLeave j.seq
          else d.zoneFinish j
        else if (d.lbu.guard ∨ d.lbu.owner ≠ .orangery) ∧ ¬ j.locked then
          d.onLbu fun l => { l with job := some { j with paused := true } }
        else (d.onLbu fun l => { l with job := some j }).driveCycle j

/-- The lanes of a read beat whose parity does not match, where the zone checks it (R127, R208). -/
def Dev.badLanes (d : Dev) (j : ZoneJob) (b : Beat) (lad : Word) (lpar : BitVec 4) : Nat :=
  if d.flag (Reg.lbuZoneCfg + 4 * j.zone) 16 then
    let be := beatBeN (d.winBig .lz j.zone) (d.zoneW j.zone) b.bytes
    maskOf 4 fun i => !be.testBit i && (lparOf lad.toNat).testBit i != lpar.getLsbD i
  else 0

/-- A beat of the job in progress terminates (R116, R123, R126, R127). -/
def Dev.terminate (d : Dev) (j : ZoneJob) (t : Termination) (lad : Word) (lpar : BitVec 4) : Dev :=
  match j.cycles with
  | [] => d
  | c :: _ =>
    match (c.beats.drop j.beat).head? with
    | none => d
    | some b =>
      match t with
      | .wait => d
      | .normal =>
        if c.write then d.zoneNext { j with beat := j.beat + 1 }
        else
          let big := d.winBig .lz j.zone
          let w := d.zoneW j.zone
          let new := (j.map.filter fun x => b.bytes.contains x.1).map fun x => (x.2, ladByte big w lad x.1)
          let bad := d.badLanes j b lad lpar
          let d := if bad = 0 then d else d.bump Reg.lbuParErrCount
          let pb := match j.parBad with
            | some p => some p
            | none => if bad = 0 then none else some (j.beatGa 0, bad)
          d.zoneNext { j with beat := j.beat + 1, got := j.got ++ new, parBad := pb }
      | .retry =>
        let d := d.bump Reg.lbuRetryRcvd
        if j.locked ∧ j.wrote then
          let j := { j with cycles := d.reshape j, beat := 0 }
          (d.onLbu fun l => { l with job := some j }).driveCycle j
        else
          let j := if j.locked then { j with cycles := d.zoneCycles j.zone true false j.map, beat := 0, got := [] }
            else { j with cycles := d.reshape j, beat := 0 }
          let timed := d.isTimed j.seq
          d.onLbu fun l => { l with job := none, retried := l.retried ++ [j], locked := if j.locked then none else l.locked,
                                    guard := l.guard && !timed }
      | .busError | .cfail =>
        let d := d.bump Reg.lbuBerrCount
        d.zoneFail j .berr (j.zone + 16 * j.beat) (j.beatGa 0)

/-- A zone request starts (R77, R99, R197, R199): after the age check its cycles are shaped and its first address phase begins. -/
def Dev.zoneStart (d : Dev) (r : Req) : Dev :=
  let n := r.zoneOf
  if d.tooOld r.ts (d.winAge .lz n) then (d.zoneLeave r.seq).failReq r .ageDrop (d.age r.ts + 2 ^ 40)
  else if r.poison then (d.zoneLeave r.seq).failReq r .decUncorr 9
  else
    let c := if r.op = .condStore then d.condCheck r else (true, d)
    let d := c.2
    let write := r.op == .write || r.op == .condStore
    if !c.1 then ((d.zoneLeave r.seq).updReq r.seq fun r => { r with csFail := true }).finish r.seq none 0 []
    else
      let m := d.zoneMap n (d.zoneBytes r write)
      let j : ZoneJob := { seq := r.seq, zone := n, cycles := d.zoneCycles n false write m, map := m }
      let d := d.updReq r.seq fun r => { r with st := .started }
      if m.isEmpty then d.zoneFinish j
      else (d.onLbu fun l => { l with job := some j }).driveCycle j

/-- The locked sequence of an AtomicOp starts with its reads; a zone with LOCKOK = 0 refuses it as BERR (R80, R123). -/
def Dev.lockedStart (d : Dev) (r : Req) : Dev :=
  let n := r.zoneOf
  if !d.winBit .lz n 6 then (d.zoneLeave r.seq).failReq r .berr (n + 256)
  else if d.tooOld r.ts (d.winAge .lz n) then (d.zoneLeave r.seq).failReq r .ageDrop (d.age r.ts + 2 ^ 40)
  else
    let m := d.zoneMap n (d.zoneBytes r false)
    let j : ZoneJob := { seq := r.seq, zone := n, cycles := d.zoneCycles n true false m, map := m, locked := true }
    let d := d.updReq r.seq fun r => { r with st := .started }
    (d.onLbu fun l => { l with job := some j, locked := some .orangery }).driveCycle j

/-- The zone timeout of a request in progress, with the collateral ends of every request for the zone accepted before (R126, R225). -/
def Dev.zoneTimeout (d : Dev) (j : ZoneJob) : Dev :=
  let others := d.lbu.zoneQ.filter fun q => q != j.seq
  let d := (d.bump Reg.lbuTimeoutCount).zoneFail j .timeout (16 * j.zone) (j.beatGa (2 ^ 48))
  (others.filterMap d.req?).foldl (fun d r => if r.zoneOf = j.zone ∧ r.agent ≠ 62 then d.zoneEnd r 6 else d) d

/-! ### Arbitration -/

/-- The Orangery has master requests (R135). -/
def Dev.wantsBus (d : Dev) : Bool := !d.lbu.zoneQ.isEmpty

/-- External master `k` is present (R144). -/
def Dev.masterEn (d : Dev) (k : Nat) : Bool := d.flag Reg.lbuCtl (10 + k)

/-- The bus owner a parked grant goes to (R136). -/
def Dev.parkOwner (d : Dev) : BusOwner :=
  let named := match d.fld Reg.lbuCtl 7 2 with
    | 1 => d.lbu.owner
    | 2 => if d.flag Reg.lbuCtl 9 then .lbm1 else .lbm0
    | _ => .orangery
  match named with
  | .lbm0 => if d.masterEn 0 then .lbm0 else .orangery
  | .lbm1 => if d.masterEn 1 then .lbm1 else .orangery
  | _ => .orangery

/-- The rotating order after an owner: LBM0, LBM1, Orangery (R24, R135). -/
def rotation : BusOwner → List BusOwner
  | .lbm0 => [.lbm1, .orangery, .lbm0]
  | .lbm1 => [.orangery, .lbm0, .lbm1]
  | _ => [.lbm0, .lbm1, .orangery]

/-- The requesters of the internal arbiter that want the bus now. -/
def Dev.bidders (d : Dev) (o : BusOwner) : Bool :=
  match o with
  | .orangery => d.wantsBus
  | .lbm0 => d.lbu.requests.contains .lbm0 && d.masterEn 0
  | .lbm1 => d.lbu.requests.contains .lbm1 && d.masterEn 1
  | .other => false

/-- One arbitration (R135, R136). -/
def Dev.arbitrate (d : Dev) : Dev :=
  if d.lbu.locked.isSome ∧ d.lbu.locked = some d.lbu.owner then d
  else
    let pick := if d.lbu.guard then (some BusOwner.orangery, false)
      else
        match d.lbu.promoted.find? d.bidders with
        | some o => (some o, true)
        | none => ((rotation d.lbu.owner).find? d.bidders, false)
    let o := pick.1.getD d.parkOwner
    let d : Dev := if pick.2 then d.bump Reg.lbuPromoteCount else d
    (d.onLbu fun l => { l with owner := o, requests := l.requests.filter (· != o), promoted := l.promoted.filter (· != o) }).emit (.grant o)

/-- A write the bus monitor observes from an external master inside an enabled zone counts as that master's store (R139): the bytes its first
beat enables, or for a burst every byte up to eight port widths within the burst-boundary chunk. -/
def Dev.monitorStore (d : Dev) (k addr beN : Nat) (burst : Bool) : Dev :=
  match d.winFind .lz addr with
  | none => d
  | some z =>
    let w := d.zoneW z
    let bb := d.zoneBb z
    let base := d.devid * 2 ^ 38 + 0x20_0000_0000
    if burst then
      let n := min (8 * w) (bb - addr % bb)
      d.rsvStore (56 + k) 0 false (base + addr) n
    else
      let big := d.winBig .lz z
      (List.range w).foldl (fun d o =>
        if beN.testBit (laneOf big w o) then d else d.rsvStore (56 + k) 0 false (base + addr / w * w + o) 1) d

/-! ### Meanings -/

/-- ZONE_REQUEST_ARRIVE (R211): during a reset drain it waits at its Pergola input (R290). -/
def execZoneRequestArrive (seq : Nat) (s : State) : Host.Outcome State Fault Refusal :=
  s.act fun d =>
    match d.req? seq with
    | some r =>
      match r.tgt with
      | .zone _ =>
        if d.lbu.zoneQ.contains seq ∨ d.lbu.draining ∧ !r.posted then d
        else if r.st = .ready ∨ r.st = .waiting then d.onLbu fun l => { l with zoneQ := l.zoneQ ++ [seq] } else d
      | _ => d
    | none => d

/-- ZONE_REQUEST_START (R197): a paused request goes on first; otherwise the next request that can proceed starts. -/
def execZoneRequestStart (s : State) : Host.Outcome State Fault Refusal :=
  s.act fun d =>
    if !d.busRuns || d.lbu.owner != .orangery then d
    else
      match d.lbu.job with
      | some j =>
        if j.paused ∧ !d.lbu.guard then
          let j := { j with paused := false }
          (d.onLbu fun l => { l with job := some j }).driveCycle j
        else d
      | none =>
        match d.nextZone with
        | some r => if isAtomic r.op then d else d.zoneStart r
        | none => d

/-- ZONE_LOCKED_RMW (R123). -/
def execZoneLockedRmw (s : State) : Host.Outcome State Fault Refusal :=
  s.act fun d =>
    if !d.busRuns || d.lbu.owner != .orangery || d.lbu.job.isSome then d
    else
      match d.nextZone with
      | some r => if isAtomic r.op then d.lockedStart r else d
      | none => d

/-- LBUS_CYCLE_TERMINATION (R116). -/
def execLbusCycleTermination (t : Termination) (lad : Word) (lpar : BitVec 4) (s : State) : Host.Outcome State Fault Refusal :=
  s.act fun d =>
    match d.lbu.job with
    | some j => if j.paused then d else d.terminate j t lad lpar
    | none => d

/-- A retried timed access is re-issued: its event counts as late by the delay (R265). -/
def Dev.timedRetried (d : Dev) (seq : Nat) : Dev :=
  match d.req? seq with
  | some { ing := .blvt slot, otag := n, .. } =>
    { d with blv := { d.blv with events := d.blv.events.map fun e =>
        if e.slot = slot ∧ e.id = n then { e with late := (d.blv.vt : Int) - e.due } else e } }
  | _ => d

/-- RETRY_REISSUE (R126): the oldest retried request starts again with the beats not yet transferred. -/
def execRetryReissue (s : State) : Host.Outcome State Fault Refusal :=
  s.act fun d =>
    if !d.busRuns || d.lbu.owner != .orangery || d.lbu.job.isSome || d.lbu.guard then d
    else
      match d.lbu.retried with
      | j :: t =>
        let d := d.timedRetried j.seq
        (d.onLbu fun l => { l with job := some j, retried := t, locked := if j.locked then some .orangery else l.locked }).driveCycle j
      | [] => d

/-- ZONE_TIMEOUT (R126, R225): the request numbered `seq`, in progress or retried, has run out of its zone timeout. -/
def execZoneTimeout (seq : Nat) (s : State) : Host.Outcome State Fault Refusal :=
  s.act fun d =>
    match (d.lbu.job.toList ++ d.lbu.retried).find? fun j => j.seq == seq with
    | some j => d.zoneTimeout j
    | none => d

/-- BUS_REQUEST (R135): the request of a master whose MASTER_EN bit is 0 is ignored. -/
def execBusRequest (k : Fin 2) (s : State) : Host.Outcome State Fault Refusal :=
  s.act fun d =>
    let o : BusOwner := if k = 0 then .lbm0 else .lbm1
    if d.masterEn k.val ∧ !d.flag Reg.lbuCtl 6 ∧ !d.lbu.requests.contains o then
      d.onLbu fun l => { l with requests := l.requests ++ [o] }
    else d

/-- ARBITRATION (R135): in internal-arbiter mode. -/
def execArbitration (s : State) : Host.Outcome State Fault Refusal :=
  s.act fun d => if d.flag Reg.lbuCtl 6 then d else d.arbitrate

/-- EXT_GRANT (R137): LGNT_N[0] is sampled in external-arbiter mode. -/
def execExtGrant (low : Bool) (s : State) : Host.Outcome State Fault Refusal :=
  s.act fun d =>
    if d.flag Reg.lbuCtl 6 then d.onLbu fun l => { l with owner := if low then .orangery else .other } else d

/-- GUARD_WINDOW_START (R138): external grants are withdrawn, unless the owner holds LLOCK_N low. -/
def execGuardWindowStart (s : State) : Host.Outcome State Fault Refusal :=
  s.act fun d =>
    let d := d.onLbu fun l => { l with guard := true }
    if d.flag Reg.lbuCtl 6 then d else d.arbitrate

end Sys2Proof.Machine
end

