-- ==== Sys2Proof/Machine/LBusSlave.lean ====
section
/-!
DEFINITION. The Orangery as slave: posted beats, delayed reads and writes, conditional stores, locked sequences and flush cycles of external
masters (R113, R122, R124, R125, R128–R134, R205), LRESET_N and the clock monitor (R140, R142), and the LIRQ_N pins (R297, R298).
-/
namespace Sys2Proof.Machine

/-- The slave answer leaves the pins; a retry is counted in LBU_RETRY_ISSUED (R148). -/
def Dev.answer (d : Dev) (a : SlaveAns) : Dev :=
  (match a with | .retry => d.bump Reg.lbuRetryIssued | _ => d).emit (.slave a)

/-- What the log shows of a slave cycle. -/
def Dev.slaveCulprit (d : Dev) (c : SlaveCycle) (lw : Option Nat) (posted write err : Bool) : Culprit :=
  { agent := 56 + c.master.val, orig := d.devid, path := 3, posted := posted, write := write, errResp := err,
    winFam := if lw.isSome then 3 else 0, winNum := lw.getD 0 }

/-- LHOLD_MAX is zero: every held cycle is retried at once (R130). -/
def Dev.lholdZero (d : Dev) : Bool := d.fld Reg.lbuSlvCfg 0 6 == 0

/-! ### Byte lanes as slave -/

/-- The L-bus addresses a beat's LBE_N enables, for a 32-bit port (R194, R195). -/
def laneAddrs (big : Bool) (addr : Nat) (beN : BitVec 4) : List Nat :=
  (List.range 4).filterMap fun o => if beN.getLsbD (laneOf big 4 o) then none else some (addr / 4 * 4 + o)

/-- The window addresses of a beat's bytes, after undoing the LW's SWAP, each with the lane that carries it (R191). -/
def Dev.slaveBytes (d : Dev) (lw addr : Nat) (beN : BitVec 4) : List (Nat × Nat) :=
  let big := d.winBig .lw lw
  let as := laneAddrs big addr beN
  as.map fun a => (swapAddr (d.winSwap .lw lw) (fun x => as.contains x) a, laneOf big 4 a)

/-- An LBE_N pattern of a write beat is contiguous (R196, R205). -/
def beContiguous (beN : BitVec 4) : Bool := contiguous ((List.range 4).filter fun i => !beN.getLsbD i)

/-- The write data of a beat as a range of GAs: first GA and one entry per byte. -/
def Dev.slaveData (d : Dev) (lw addr : Nat) (beN : BitVec 4) (data : Word) : Nat × WData :=
  let bs := (d.slaveBytes lw addr beN).map fun x => (d.winGa .lw lw x.1, BitVec.ofNat 8 (bitsOf data.toNat (8 * x.2) 8))
  let lo := (bs.map (·.1)).foldl min (2 ^ 48)
  let hi := (bs.map (·.1)).foldl max 0
  if bs.isEmpty then (0, [])
  else (lo, (List.range (hi + 1 - lo)).map fun i => (bs.find? fun b => b.1 == lo + i).map (·.2))

/-- The GAs a read cycle asks for: the enabled bytes of its first beat and all four bytes of each later beat inside the first beat's
LW (R205). -/
def Dev.slaveReadGas (d : Dev) (lw : Nat) (c : SlaveCycle) : List Nat :=
  (List.range (min c.beats 8)).flatMap fun i =>
    let a := c.addr.toNat + 4 * i
    if d.winFind .lw a = some lw then (d.slaveBytes lw a (if i = 0 then c.beN else 0)).map fun x => d.winGa .lw lw x.1 else []

/-- The words the Orangery drives for a read: each byte on its lane, zero on every other lane, all-ones for beats outside the LW (R205). -/
def Dev.slaveWords (d : Dev) (lw addr : Nat) (beN : BitVec 4) (beats : Nat) (val : Nat → Byte) : List Word :=
  (List.range beats).map fun i =>
    let a := addr + 4 * i
    if d.winFind .lw a = some lw then
      BitVec.ofNat 32 ((d.slaveBytes lw a (if i = 0 then beN else 0)).foldl
        (fun acc x => acc + (val (d.winGa .lw lw x.1)).toNat * 2 ^ (8 * x.2)) 0)
    else BitVec.allOnes 32

/-! ### Delayed-read slots -/

/-- The lowest-numbered free slot (R130). -/
def Dev.freeSlot (d : Dev) : Option Nat := (List.range 16).find? fun i => !(d.lbu.slots.any fun x => x.idx == i)

/-- The device with a slot changed. -/
def Dev.updSlot (d : Dev) (i : Nat) (f : DrSlot → DrSlot) : Dev :=
  d.onLbu fun l => { l with slots := l.slots.map fun x => if x.idx = i then f x else x }

/-- A later cycle matches a slot (R131): the same master, LW, address, enables, burst flag and operation, for a write also the same data. -/
def DrSlot.repeats (x : DrSlot) (c : SlaveCycle) (lw : Nat) (w : Option Word) : Bool :=
  x.master == c.master.val && x.lw == lw && x.addr == c.addr && x.beN == c.beN && x.burst == c.burst && x.state != .stale &&
    (match w with
      | some v => (x.op == .write || x.op == .condStore || x.op == .barrier) && x.data == v
      | none => x.op == .read || x.op == .rsvLoad || x.op == .flush)

/-- A slot is freed with its TT entry; a request still under way completes to nobody. -/
def Dev.freeDr (d : Dev) (i : Nat) : Dev :=
  match d.lbu.slots.find? fun x => x.idx == i with
  | some x =>
    let d := d.onLbu fun l => { l with slots := l.slots.filter (fun y => y.idx != i),
                                       cyc := if (l.cyc.map (·.2)) = some i then none else l.cyc }
    match d.req? x.seq with
    | some r => if x.op = .barrier then d else if r.st = .ended then d.dropReq x.seq else d.updReq x.seq fun r => { r with orphan := 2 }
    | none => d
  | none => d

/-- The master has a COMPLETE barrier, or through this EA = 0 window a delayed write, outstanding: its other cycles are retried
(R134, R222). -/
def Dev.slaveBusy (d : Dev) (k lw : Nat) : Bool :=
  d.lbu.slots.any fun x => x.master == k && (x.op == .barrier || (x.lw == lw && x.op == .write && !d.winBit .lw lw 6)) && x.state != .held

/-- The answer a slot's completion gives the collecting cycle (R129, R131), after the age check of its window (R77). -/
def Dev.slotAnswer (d : Dev) (x : DrSlot) (beats : Nat) : Dev :=
  let r := d.req? x.seq
  let old := x.status.isNone && (match r with | some r => d.tooOld r.rts (d.winAge .lw x.lw) | none => false)
  let d : Dev := match r with
    | some r => if old then d.log (r.culprit d) .ageDrop r.ga (d.age r.rts + 2 * 2 ^ 40) else d
    | none => d
  let st := if old then some ErrType.ageDrop else x.status
  let d : Dev := match st, r with
    | some t, some r => if x.op = .write then d.noteFail r.agent r.ident r.ing r.seq t else d
    | _, _ => d
  let sync := d.winBit .lw x.lw 10
  let ones : List Word := List.replicate beats (BitVec.allOnes 32)
  match x.op with
  | .flush | .barrier => d.answer (.normal [])
  | .write => d.answer (if st.isSome && sync then .busError else .normal [])
  | .condStore => d.answer (if x.csFail then .cfail else if st.isSome && sync then .busError else .normal [])
  | .read | .rsvLoad =>
    match st with
    | none => d.answer (.normal (d.slaveWords x.lw x.addr.toNat x.beN beats fun g => x.rdata.getD (g - x.first) 0))
    | some _ =>
      if sync then d.answer .busError
      else if old then d.answer (.normal ones)
      else d.answer (.normal (d.slaveWords x.lw x.addr.toNat x.beN beats fun g => x.rdata.getD (g - x.first) 0xFF))

/-- A slot with its completion serves the cycle and is freed; a collection that ends early frees it too (R131). A reserved load's or
conditional store's result is recorded (R86). -/
def Dev.serveSlot (d : Dev) (x : DrSlot) (beats : Nat) : Dev :=
  let d : Dev := match d.req? x.seq with | some r => d.rsvRecord r | none => d
  (d.slotAnswer x beats).freeDr x.idx

/-- A cycle is held with LWAIT_N on a slot, or retried at once when LHOLD is zero (R130). -/
def Dev.holdOn (d : Dev) (k i : Nat) : Dev :=
  if d.lholdZero then d.answer .retry else (d.onLbu fun l => { l with cyc := some (k, i) }).emit (.slave .hold)

/-- A new cycle that needs a slot allocates the lowest-numbered free one, sends its request to the far side and is held; without a free
slot it is retried and counted in LBU_DR_FULL (R130). -/
def Dev.allocSlot (d : Dev) (c : SlaveCycle) (lw : Nat) (op : DrOp) (data : Word) (r : Req) : Dev :=
  match d.freeSlot with
  | none => (d.bump Reg.lbuDrFull).answer .retry
  | some i =>
    if !d.ttRoom 1 then d.answer .retry
    else if d.semBlocked r.agent r.ga r.len then d.answer .retry
    else
      let d := d.issue { r with otag := i }
      match d.fab.reqs.getLast? with
      | some q =>
        let x : DrSlot := { idx := i, master := c.master.val, lw := lw, addr := c.addr, beN := c.beN, burst := c.burst, beats := min c.beats 8,
                            locked := c.lock, op := op, data := data, seq := q.seq, tag := q.tag, first := r.ga, allocVt := d.blv.vt }
        (d.onLbu fun l => { l with slots := l.slots ++ [x] }).holdOn c.master.val i
      | none => d.answer .retry

/-- A write of a master that overlaps one of its own read slots makes the slot stale (R132). -/
def Dev.markStale (d : Dev) (k ga : Nat) (len : Nat) : Dev :=
  let hit := fun (x : DrSlot) => x.master == k && x.op == .read && x.state != .stale &&
    (match d.req? x.seq with | some r => decide (ga < r.ga + r.len) && decide (r.ga < ga + len) | none => false)
  let n := (d.lbu.slots.filter hit).length
  let heldOnes := (d.lbu.slots.filter fun x => hit x && x.state == .held).map (·.idx)
  let d := d.onLbu fun l => { l with slots := l.slots.map fun x => if hit x then { x with state := .stale } else x }
  let d := heldOnes.foldl (fun d i => d.freeDr i) d
  if n = 0 then d else d.bump Reg.lbuDrStale n

/-- A cycle matches a slot (R131): one with its completion serves it, one without holds it again. -/
def Dev.collect (d : Dev) (c : SlaveCycle) (x : DrSlot) : Dev :=
  if x.state = .held then d.serveSlot x (min c.beats 8) else d.holdOn c.master.val x.idx

/-! ### Locked sequences -/

/-- The locked sequence of master k. -/
def Dev.lockOf (d : Dev) (k : Nat) : Option LockSeq := d.lbu.locks.find? fun x => x.master == k

/-- A semaphore slot held by a locked sequence is released and the waiting requests proceed (R234). -/
def Dev.releaseLock (d : Dev) (k : Nat) : Dev :=
  (d.onFab fun b => { b with semLocks := b.semLocks.filter fun l => l.2 != k }).retryHeld

/-- A locked sequence loses its slot but LLOCK_N stays low: its master's further cycles end with LBERR_N (R124). -/
def Dev.breakLock (d : Dev) (k : Nat) : Dev :=
  (d.onLbu fun l => { l with locks := l.locks.map fun x => if x.master = k then { x with slot := none } else x }).releaseLock k

/-- A master drives LLOCK_N high: its locked sequence ends, its semaphore slot is released, and so is every unfinished delayed-read slot of the
sequence (R124). -/
def Dev.lockEnd (d : Dev) (k : Nat) : Dev :=
  let mine := (d.lbu.slots.filter fun x => x.master == k && x.locked).map (·.idx)
  let d := mine.foldl (fun d i => d.freeDr i) d
  (d.onLbu fun l => { l with locks := l.locks.filter (fun x => x.master != k),
                             locked := if l.locked = some .orangery then l.locked else none }).releaseLock k

/-- The level of LLOCK_N in a cycle's address phase: high, it ends the master's locked sequence (R115, R124). -/
def Dev.lockLevel (d : Dev) (c : SlaveCycle) : Dev :=
  if !c.lock && (d.lockOf c.master.val).isSome then d.lockEnd c.master.val else d

/-- The lowest-numbered slot a locked sequence may take: not held, not claimed by the host (R232). -/
def Dev.semFree (d : Dev) : Option Nat :=
  (List.range 16).find? fun i => !(d.fab.semLocks.any fun l => l.1 == i) && !d.fab.semGranted.getLsbD i && !d.flag Reg.winHostSemClaim i

/-- Another slot, or a pending or granted host claim, holds a granule (R232). -/
def Dev.granuleTaken (d : Dev) (g : Nat) : Bool :=
  (List.range 16).any fun i => d.semGranule i == g &&
    ((d.fab.semLocks.any fun l => l.1 == i) || d.fab.semGranted.getLsbD i || d.flag Reg.winHostSemClaim i)

/-- The check a locked cycle meets first (R124): it takes a slot for its granule, goes on in its sequence, or is answered at once. -/
def Dev.lockCheck (d : Dev) (c : SlaveCycle) (lw g : Nat) : Dev × Option SlaveAns :=
  let k := c.master.val
  match d.lockOf k with
  | some q =>
    match q.slot with
    | none => (d, some .busError)
    | some _ =>
      if q.granule = g then (d, none)
      else ((d.log (d.slaveCulprit c (some lw) false false true) .berr (g * 64) 8).breakLock k, some .busError)
  | none =>
    if d.granuleTaken g then (d, some .retry)
    else
      match d.semFree with
      | none => (d, some .retry)
      | some i =>
        let d := (d.wr64 (Reg.winSemAddr + 8 * i) (g * 64)).onFab fun b => { b with semLocks := b.semLocks ++ [(i, k)] }
        (d.onLbu fun l => { l with locks := l.locks ++ [{ master := k, granule := g, slot := some i }],
                                   locked := some (if k = 0 then .lbm0 else .lbm1) }, none)

/-! ### A slave cycle -/

/-- The request of a slave cycle through an LW. -/
def Dev.lwReq (d : Dev) (c : SlaveCycle) (lw : Nat) : Req :=
  { seq := 0, agent := 56 + c.master.val, ident := 0, orig := d.devid, ing := .lw lw c.master.val, op := .read, posted := false,
    ga := d.winGa .lw lw c.addr.toNat, len := 0, ts := d.stamp }

/-- A beat refused with LBERR_N is logged with the GA of its LW, zero where none matches (R129, R282). -/
def Dev.beatErr (d : Dev) (c : SlaveCycle) (write : Bool) (t : ErrType) (detail : Nat) : Dev :=
  match d.winFind .lw c.addr.toNat with
  | some lw => d.log (d.slaveCulprit c (some lw) false write true) t (d.lwReq c lw).ga detail
  | none => d.log (d.slaveCulprit c none false write true) t 0 detail

/-- The lanes of a write beat whose LPAR fails: enabled lanes only (R208). -/
def slaveBadLanes (c : SlaveCycle) (write : Bool) : BitVec 4 := if write then c.dataBad &&& ~~~c.beN else 0

/-- The checks every slave cycle meets before decoding (R113, R121, R124, R129, R138, R208, R290). -/
def Dev.slaveGate (d : Dev) (c : SlaveCycle) (write : Bool) : Option (Dev × SlaveAns) :=
  let k := c.master.val
  if d.lbu.draining then some (d, .retry)
  else if !d.masterEn k then some (d.beatErr c write .perm 3, .busError)
  else if d.flag Reg.lbuSlvCfg 6 ∧ c.addrBad ≠ 0 then
    some ((d.bump Reg.lbuParErrCount).beatErr c write .parity (16 + c.addrBad.toNat), .busError)
  else if d.lbu.guard ∧ c.burst then some (d, .retry)
  else if c.lock ∧ (d.lockOf k).any (fun q => q.slot.isNone) then some (d, .busError)
  else if 8 ≤ c.beat then some (d.beatErr c write .berr (8 + 16 * 8), .busError)
  else if d.flag Reg.lbuSlvCfg 6 ∧ slaveBadLanes c write ≠ 0 then
    some ((d.bump Reg.lbuParErrCount).beatErr c write .parity (slaveBadLanes c write).toNat, .busError)
  else none

/-- The bus answers slave cycles at all (R113, R140). -/
def Dev.slaveOn (d : Dev) : Bool := d.live && d.flag Reg.lbuCtl 12 && d.flag Reg.lbuCtl 0 && !d.lbu.lreset

/-- A GA an LW forms lies in the own device's L-bus space: a loop (R66). -/
def Dev.lwLoop (d : Dev) (ga : Nat) : Bool :=
  ga / 2 ^ 38 % 1024 == d.devid && decide (0x20_0000_0000 ≤ ga % 2 ^ 38) && decide (ga % 2 ^ 38 < 0x21_0000_0000)

/-- A slave cycle that fails before it takes a slot: logged, terminated by the window's SYNCERR (R129). -/
def Dev.slaveFail (d : Dev) (c : SlaveCycle) (lw : Option Nat) (write posted : Bool) (ga detail : Nat) : Dev :=
  let sync := match lw with | some n => d.winBit .lw n 10 | none => false
  let d := (d.bump Reg.winDecodeMiss).log (d.slaveCulprit c lw posted write (sync && !posted)) .decode ga detail
  if sync && !posted then d.answer .busError
  else d.answer (.normal (if write then [] else List.replicate (min c.beats 8) (BitVec.allOnes 32)))

/-- A write is handled as a delayed write: through an LW with EA = 0, in a locked sequence, or into an outbound window with EA = 0 of this
device (R124, R128, R130). -/
def Dev.delaysWrite (d : Dev) (c : SlaveCycle) (lw ga len : Nat) : Bool :=
  !d.winBit .lw lw 6 || c.lock || (match d.route ga len with | .ok (.ow n) => !d.winBit .ow n 6 | _ => false)

/-- A posted beat through an LW with EA = 1 (R128): it is taken into the buffer, or held while the buffer has no room. -/
def Dev.slavePost (d : Dev) (c : SlaveCycle) (lw : Nat) (data : Word) : Dev :=
  let p := d.slaveData lw c.addr.toNat c.beN data
  let r := { d.lwReq c lw with op := .write, posted := true, ga := p.1, len := p.2.length, data := p.2 }
  let d := (d.markStale c.master.val p.1 p.2.length).prefWrite (some (.lw lw c.master.val)) p.1 p.2.length
  if d.needsRoom r then
    if d.lholdZero then d.answer .retry
    else (d.onLbu fun l => { l with heldWrite := some (c, data) }).emit (.slave .hold)
  else
    let d := d.issue r
    (d.onLbu fun l => { l with heldWrite := none, wburst := if l.wburst.isNone then some (c.master.val, lw, true) else l.wburst }).answer (.normal [])

/-- A write into a BARRIER window (R81): ORDER when data bit 0 is 0, COMPLETE when it is 1; a COMPLETE write is held as a delayed
write (R222). -/
def Dev.lwBarrier (d : Dev) (c : SlaveCycle) (lw : Nat) (data : Word) : Dev :=
  if data.getLsbD 0 then
    match d.freeSlot with
    | none => (d.bump Reg.lbuDrFull).answer .retry
    | some i =>
      let seq := (d.emitLines fun l => l.agent == 56 + c.master.val).wbarsFor (56 + c.master.val) |>.fab.nextSeq
      let d := d.takeBarrier (.lw c.master) true
      let x : DrSlot := { idx := i, master := c.master.val, lw := lw, addr := c.addr, beN := c.beN, burst := c.burst, beats := 1,
                          locked := c.lock, op := .barrier, data := data, seq := seq, tag := 0, allocVt := d.blv.vt }
      (d.onLbu fun l => { l with slots := l.slots ++ [x] }).holdOn c.master.val i
  else (d.takeBarrier (.lw c.master) false).answer (.normal [])

/-- A beat that its LW decodes and that matches no slot, with contiguous enables that are not all off (R128–R130, R134, R205). -/
def Dev.slaveBeat (d : Dev) (c : SlaveCycle) (lw : Nat) (data : Word) : Dev :=
  let p := d.slaveData lw c.addr.toNat c.beN data
  let r := { d.lwReq c lw with op := .write, ga := p.1, len := p.2.length, data := p.2 }
  let view := d.winView .lw lw c.addr.toNat
  let delayed := d.delaysWrite c lw p.1 (max p.2.length 1)
  let odd := decide (0 < c.beat) && (match d.lbu.wburst with
    | some (_, l0, posted) => d.winBit .lw lw 13 || view != .plain || (if posted then delayed else lw != l0)
    | none => false)
  if odd then
    ((d.bump Reg.winDecodeMiss).log (d.slaveCulprit c (some lw) false true true) .decode p.1 4).answer .busError
  else if d.winBit .lw lw 13 then
    if d.slaveBusy c.master.val lw then d.answer .retry else d.lwBarrier c lw data
  else if d.lwLoop p.1 then d.slaveFail c (some lw) true (!delayed) p.1 6
  else if d.slaveBusy c.master.val lw then d.answer .retry
  else
    match view with
    | .plain =>
      if delayed then
        let k : Dev × Option SlaveAns := if c.lock then d.lockCheck c lw (p.1 / 64) else (d, none)
        match k.2 with
        | some a => k.1.answer a
        | none =>
          ((k.1.markStale c.master.val p.1 p.2.length).onLbu fun l => { l with wburst := some (c.master.val, lw, false) }).allocSlot
            c lw .write data r
      else if d.barrierHolds (56 + c.master.val) then d.answer .retry
      else d.slavePost c lw data
    | .condStore => d.allocSlot c lw .condStore data { r with op := .condStore }
    | _ => d.slaveFail c (some lw) true false p.1 4

/-- A write beat an external master drives to the Orangery (R113, R131, R205). -/
def Dev.slaveWrite (d : Dev) (c : SlaveCycle) (data : Word) : Dev :=
  let d := d.lockLevel c
  if !d.slaveOn then d
  else
    match d.slaveGate c true with
    | some (d, a) => d.answer a
    | none =>
      let d := d.onLbu fun l => { l with wburst := if c.beat = 0 then none else l.wburst }
      match d.winFind .lw c.addr.toNat with
      | none => d.slaveFail c none true true 0 0
      | some lw =>
        match d.lbu.slots.find? fun x => x.repeats c lw (some data) with
        | some x => (d.onLbu fun l => { l with wburst := some (c.master.val, lw, false) }).collect c x
        | none =>
          let d := d.bump (winBase .lw lw + 0x18)
          if !beContiguous c.beN then
            (d.log (d.slaveCulprit c (some lw) false true true) .berr (d.lwReq c lw).ga (8 + 16 * c.beat)).answer .busError
          else if c.beN = 15 then d.answer (.normal [])
          else d.slaveBeat c lw data

/-- The data bits of the lanes LBE_N enables. -/
def laneMask (beN : BitVec 4) : Word :=
  (List.range 4).foldl (fun m o => if beN.getLsbD o then m else m ||| (0xFF#32 <<< (8 * o))) 0

/-- The status of a master's latest barrier in the words of a read from a BARRIER window (R81, R205). -/
def Dev.lwBarWords (d : Dev) (lw : Nat) (c : SlaveCycle) : List Word :=
  (List.range (min c.beats 8)).map fun i =>
    if d.winFind .lw (c.addr.toNat + 4 * i) = some lw then d.lwBarWord c.master.val &&& laneMask (if i = 0 then c.beN else 0)
    else BitVec.allOnes 32

/-- A read cycle its LW decodes and that matches no slot (R122, R130). -/
def Dev.slaveFetch (d : Dev) (c : SlaveCycle) (lw : Nat) : Dev :=
  let flush := c.beN == 15
  let gas := if flush then [] else d.slaveReadGas lw c
  let lo := gas.foldl min (2 ^ 48)
  let hi := gas.foldl max 0
  let base := d.lwReq c lw
  let r := if flush then base
    else
      let en : WData := (List.range (hi + 1 - lo)).map fun i => if gas.contains (lo + i) then some 0 else none
      { base with ga := lo, len := hi + 1 - lo, data := if en.all (·.isSome) then [] else en }
  if d.lwLoop r.ga then d.slaveFail c (some lw) false false r.ga 6
  else
    let k : Dev × Option SlaveAns := if c.lock then d.lockCheck c lw (r.ga / 64) else (d, none)
    match k.2 with
    | some a => k.1.answer a
    | none =>
      match d.winView .lw lw c.addr.toNat with
      | .plain => k.1.allocSlot c lw (if flush then .flush else .read) 0 r
      | .rsvLoad => k.1.allocSlot c lw .rsvLoad 0 { r with op := .rsvLoad }
      | _ => k.1.slaveFail c (some lw) false false r.ga 4

/-- A read an external master drives to the Orangery (R81, R113, R129, R131, R205). -/
def Dev.slaveRead (d : Dev) (c : SlaveCycle) : Dev :=
  let d := d.lockLevel c
  if !d.slaveOn then d
  else
    match d.slaveGate c false with
    | some (d, a) => d.answer a
    | none =>
      match d.winFind .lw c.addr.toNat with
      | none => d.slaveFail c none false false 0 0
      | some lw =>
        match d.lbu.slots.find? fun x => x.repeats c lw none with
        | some x => d.collect c x
        | none =>
          let d := d.bump (winBase .lw lw + 0x18)
          let out := ((List.range (min c.beats 8)).filter fun i => d.winFind .lw (c.addr.toNat + 4 * i) != some lw)
          let d := match out with
            | [] => d
            | i :: _ => (d.bump Reg.winDecodeMiss).log (d.slaveCulprit c (some lw) false false false) .decode
                (d.winGa .lw lw c.addr.toNat + 4 * i) 4 out.length
          if d.slaveBusy c.master.val lw then d.answer .retry
          else if d.winBit .lw lw 13 then d.answer (.normal (d.lwBarWords lw c))
          else d.slaveFetch c lw

/-- A cycle with its data when it writes. -/
def Dev.slaveNew (d : Dev) (c : SlaveCycle) (w : Option Word) : Dev :=
  match w with
  | some v => d.slaveWrite c v
  | none => d.slaveRead c

/-- The far-side completion of a slot arrives (R130, R132): driven when its cycle is held, otherwise kept; discarded when stale. -/
def Dev.drArrive (d : Dev) (x : DrSlot) : Dev :=
  match d.req? x.seq with
  | some r =>
    if r.st ≠ .ended then d
    else if x.state = .stale then d.freeDr x.idx
    else
      let bytes := if r.status.isSome then r.rdata.take r.failAt else r.rdata
      let x := { x with state := .held, status := r.status, csFail := r.csFail, rdata := bytes, first := r.ga }
      let d := d.updSlot x.idx fun _ => x
      if d.lbu.cyc.any (fun c => c.2 == x.idx) then d.serveSlot x x.beats else d
  | none =>
    if x.op = .barrier ∧ x.state = .held ∧ d.lbu.cyc.any (fun c => c.2 == x.idx) then d.serveSlot x x.beats else d

/-! ### LIRQ_N -/

/-- The device with a pin changed. -/
def Dev.updPin (d : Dev) (k : Nat) (f : LirqPin → LirqPin) : Dev := d.onLbu fun l => { l with pins := l.pins.modify k f }

/-- Pin k. -/
def Dev.pin (d : Dev) (k : Nat) : LirqPin := d.lbu.pins.getD k {}

/-- A change is queued in the order of the sampling instants, while fewer than 32 wait (R298). -/
def Dev.queueLirq (d : Dev) (k : Nat) : Dev :=
  if 32 ≤ d.lbu.lirqQ.length then d
  else
    let p := d.pin k
    let c : LirqChange := { pin := k, low := p.accepted, mark := p.acceptMark }
    let d := d.onLbu fun l => { l with lirqQ := l.lirqQ.takeWhile (fun x => x.mark ≤ c.mark) ++ [c] ++ l.lirqQ.dropWhile (fun x => x.mark ≤ c.mark) }
    d.updPin k fun p => { p with queued := p.accepted }

/-- Every posted write of LBM0 and LBM1 accepted before a sampling instant has been performed, or is covered by a completed WBAR (R298). -/
def Dev.lirqCovered (d : Dev) (mark : Nat) : Bool :=
  !(d.fab.reqs.any fun r => r.posted && (r.agent == 56 || r.agent == 57) && decide (r.seq < mark)) &&
    !(d.fab.sent.any fun s => (s.agent == 56 || s.agent == 57) && decide (s.first < mark))

/-! ### Meanings -/

/-- SLAVE_POSTED_WRITE (R128). -/
def execSlavePostedWrite (c : SlaveCycle) (data : Word) (s : State) : Host.Outcome State Fault Refusal :=
  s.act fun d => d.slaveWrite c data

/-- SLAVE_READ (R130). -/
def execSlaveRead (c : SlaveCycle) (s : State) : Host.Outcome State Fault Refusal := s.act fun d => d.slaveRead c

/-- SLAVE_DELAYED_WRITE (R130). -/
def execSlaveDelayedWrite (c : SlaveCycle) (data : Word) (s : State) : Host.Outcome State Fault Refusal :=
  s.act fun d => d.slaveWrite c data

/-- SLAVE_COND_STORE (R125). -/
def execSlaveCondStore (c : SlaveCycle) (data : Word) (s : State) : Host.Outcome State Fault Refusal :=
  s.act fun d => d.slaveWrite c data

/-- SLAVE_LOCKED_CYCLE (R124): a cycle with LLOCK_N low. -/
def execSlaveLockedCycle (c : SlaveCycle) (w : Option Word) (s : State) : Host.Outcome State Fault Refusal :=
  s.act fun d => d.slaveNew { c with lock := true } w

/-- SLAVE_FLUSH_CYCLE (R122): a read with every bit of LBE_N high. -/
def execSlaveFlushCycle (c : SlaveCycle) (s : State) : Host.Outcome State Fault Refusal :=
  s.act fun d => d.slaveRead { c with beN := 15 }

/-- LW_BARRIER_WRITE (R81). -/
def execLwBarrierWrite (c : SlaveCycle) (data : Word) (s : State) : Host.Outcome State Fault Refusal :=
  s.act fun d => d.slaveWrite c data

/-- LW_BARRIER_READ (R81). -/
def execLwBarrierRead (c : SlaveCycle) (s : State) : Host.Outcome State Fault Refusal := s.act fun d => d.slaveRead c

/-- SLAVE_SLOT_COLLECT (R131): a repeated cycle; one that matches no slot is a new one. -/
def execSlaveSlotCollect (c : SlaveCycle) (w : Option Word) (s : State) : Host.Outcome State Fault Refusal :=
  s.act fun d => d.slaveNew c w

/-- DR_COMPLETION (R130). -/
def execDrCompletion (slot : Fin 16) (s : State) : Host.Outcome State Fault Refusal :=
  s.act fun d =>
    match d.lbu.slots.find? fun x => x.idx == slot.val with
    | some x => d.drArrive x
    | none => d

/-- LHOLD_EXPIRY (R128, R130): the held cycle is terminated with retry; its slot stays allocated. -/
def execLholdExpiry (s : State) : Host.Outcome State Fault Refusal :=
  s.act fun d =>
    if d.lbu.cyc.isSome ∨ d.lbu.heldWrite.isSome then (d.onLbu fun l => { l with cyc := none, heldWrite := none }).answer .retry else d

/-- DR_DISCARD_EXPIRY (R133). -/
def execDrDiscardExpiry (slot : Fin 16) (s : State) : Host.Outcome State Fault Refusal :=
  s.act fun d =>
    if d.lbu.slots.any fun x => x.idx == slot.val && x.state == .held then (d.bump Reg.lbuDrDiscard).freeDr slot.val else d

/-- LOCK_RELEASE (R124). -/
def execLockRelease (k : Fin 2) (s : State) : Host.Outcome State Fault Refusal := s.act fun d => d.lockEnd k.val

/-- LOCK_LIMIT_EXPIRY (R124): a sequence still holding its slot after 10 µs is broken and LOCK_BROKEN is logged. -/
def execLockLimitExpiry (k : Fin 2) (s : State) : Host.Outcome State Fault Refusal :=
  s.act fun d =>
    match d.lockOf k.val with
    | some { slot := some i, granule := g, .. } =>
      ((d.bump Reg.lbuLockBroken).log { agent := 56 + k.val, orig := d.devid, path := 3, winFam := 3 } .lockBroken (g * 64)
        (i + 16 * k.val)).breakLock k.val
    | _ => d

/-- LRESET_RELEASE (R140): 100 µs after BUS_EN became 1. -/
def execLresetRelease (s : State) : Host.Outcome State Fault Refusal :=
  s.act fun d => if d.flag Reg.lbuCtl 0 ∧ !d.lbu.draining ∧ d.live then d.onLbu fun l => { l with lreset := false } else d

/-- Clock loss ends every zone request as TIMEOUT and retries a held slave cycle (R142). -/
def Dev.clockLost (d : Dev) : Dev :=
  let d := d.onLbu fun l => { l with clkOk := false, clkGood := 0 }
  let d := (d.lbu.zoneQ.filterMap d.req?).foldl (fun d r => d.zoneEnd r 8) d
  if d.lbu.cyc.isSome ∨ d.lbu.heldWrite.isSome then (d.onLbu fun l => { l with cyc := none, heldWrite := none }).answer .retry else d

/-- LCLK_RECOVERY (R142): ten consecutive good windows. -/
def execLclkRecovery (s : State) : Host.Outcome State Fault Refusal :=
  s.act fun d => d.onLbu fun l => { l with clkOk := true, clkGood := 10 }

/-- LIRQ_SAMPLE (R297): the first stage captures a new level of a pin whose EN is 1; this is the sampling instant of a change. -/
def execLirqSample (k : Fin 8) (low : Bool) (s : State) : Host.Outcome State Fault Refusal :=
  s.act fun d =>
    if d.flag (Reg.intLirqCfg + 4 * k.val) 8 then
      let m := d.fab.nextSeq
      (d.updPin k.val fun p => { p with sampled := low, sampleMark := m }).onFab fun b => { b with nextSeq := b.nextSeq + 1 }
    else d

/-- LIRQ_ACCEPT (R297, R298): the captured level has held for DEBOUNCE cycles. -/
def execLirqAccept (k : Fin 8) (s : State) : Host.Outcome State Fault Refusal :=
  s.act fun d =>
    let p := d.pin k.val
    if d.flag (Reg.intLirqCfg + 4 * k.val) 8 ∧ p.sampled ≠ p.accepted then
      let d := d.updPin k.val fun p => { p with accepted := p.sampled, acceptMark := p.sampleMark }
      ((d.queueLirq k.val).wbarsFor 56).wbarsFor 57
    else d

/-- LIRQ_EFFECT (R298): the oldest queued change takes effect once the writes it covers are performed. -/
def execLirqEffect (s : State) : Host.Outcome State Fault Refusal :=
  s.act fun d =>
    match d.lbu.lirqQ with
    | [] => d
    | c :: t =>
      if d.lirqCovered c.mark then (d.onLbu fun l => { l with lirqQ := t }).updPin c.pin fun p => { p with level := c.low } else d

/-- LIRQ_QUEUE_ROOM (R298): each pin whose debounced level differs from the level last queued is queued, in the order of the sampling
instants, one per free place. -/
def execLirqQueueRoom (s : State) : Host.Outcome State Fault Refusal :=
  s.act fun d =>
    let ks := (List.range 8).filter fun k => (d.pin k).accepted != (d.pin k).queued
    let byMark := ks.foldl (fun acc k => acc.takeWhile (fun j => (d.pin j).acceptMark ≤ (d.pin k).acceptMark) ++ [k] ++
      acc.dropWhile (fun j => (d.pin j).acceptMark ≤ (d.pin k).acceptMark)) []
    byMark.foldl (fun d k => d.queueLirq k) d

/-- PWB_ENTRY_FREE (R210): on an Itmos path the link's ACK covers the oldest write; elsewhere the oldest write whose blocks have ended
gives back an entry. A write waiting for room is then accepted, a posted beat held with LWAIT_N among them (R128). -/
def execPwbEntryFree (p : WPath) (s : State) : Host.Outcome State Fault Refusal :=
  s.act fun d =>
    let d : Dev := match p with
      | .itm n =>
        match d.fab.reqs.find? fun r => r.path == p && r.posted && r.st == .started with
        | some r => (d.peerAcked r).ackMsgs n.val r.seq
        | none => d.ackMsgs n.val d.fab.nextSeq
      | _ =>
        match d.fab.reqs.find? fun r => r.path == p && r.st == .ended && decide (0 < r.entries) with
        | some r => d.updReq r.seq fun r => { r with entries := r.entries - 1 }
        | none => d
    let d := d.l2hMove.retryHeld
    match p, d.lbu.heldWrite with
    | .l2h, some (c, v) =>
      match d.winFind .lw c.addr.toNat with
      | some lw => d.slavePost c lw v
      | none => d
    | _, _ => d

end Sys2Proof.Machine
end

