-- ==== Sys2Proof/Machine/Itmos.lean ====
section
/-!
DEFINITION. The Itmos links: training, HELLO and roles (R153, R173–R178), replay and DOWN (R170–R172), transfers received from peers
(R159–R166), interrupt and fault messages (R179, R296, R457) and time flits (R180–R182).
-/
namespace Sys2Proof.Machine

/-- The device with link `n` changed. -/
def Dev.onLink (d : Dev) (n : Nat) (f : Link → Link) : Dev := { d with itm := d.itm.modify n f }

/-- A register of link `n` (R186). -/
def itmReg (base n : Nat) : Nat := base + 0x40 * n

/-- ROLE of a link is not OFF (R175, R188). -/
def Dev.linkOn (d : Dev) (n : Nat) : Bool := decide (1 ≤ d.linkRole n) && decide (d.linkRole n ≤ 4)

/-! ### Leaving UP -/

/-- The node whose ITM_ROUTE entry the device reaches through link `n` (R165, R296). -/
def Dev.viaLink (d : Dev) (n m : Nat) : Bool :=
  let e := Reg.itmRoute + 4 * m
  if m = d.devid % 64 then false
  else if d.fld e 0 3 ≤ 4 then
    d.fld e 0 3 == n || (!d.linkUsable (d.fld e 0 3) && d.flag e 6 && d.fld e 3 3 == n)
  else d.roleLink 1 == some n || (d.roleLink 2 == some n && !(match d.roleLink 1 with | some u => d.linkUsable u | none => false))

/-- A twin's TWIN link leaves UP: PROTECTED drops and a twin that follows becomes UNSYNC (R437, R443). -/
def Dev.twinLinkLost (d : Dev) (n : Nat) : Dev :=
  if d.linkRole n = 4 then
    d.onTwin fun t => { t with prot := false, streaming := false,
                               state := if t.state = .standby ∨ t.state = .syncing then .unsync else t.state }
  else d

/-- The link enters RETRAIN (R171): its replay buffer, SEQ and credits stay. -/
def Dev.enterRetrain (d : Dev) (n : Nat) : Dev :=
  ((d.onLink n fun l => { l with state := .retrain, trained := false, fromUp := true, replays := 0, verdict := 0, sentOk := false,
                                 peerResult := 0, swapLane := none }).bump (itmReg Reg.itmRetrain n)).twinLinkLost n

/-- The open non-posted requests over a link end as PEER_DOWN (R172, R184). -/
def Dev.endPeerReqs (d : Dev) (n : Nat) (started : Bool) : Dev :=
  (d.fab.reqs.filter fun r => !r.posted && r.st != .ended && (!started || r.st == .started) &&
      (match r.tgt with | .link m _ => m == n | _ => false)).foldl
    (fun d r => (d.bump (itmReg Reg.itmPeerDownCount n)).failReq r .peerDown n) d

/-- A link goes DOWN (R172): its epoch increments, open requests end as PEER_DOWN, unacknowledged writes and messages are discarded under one
log entry, open WBARs end, and reservations and remote interrupt bits behind the link are lost (R229, R296). -/
def Dev.linkDown (d : Dev) (n : Nat) : Dev :=
  let nodes := (List.range 64).filter fun m => d.viaLink n m
  let msgs := (d.link n).msgs.length
  let d := (d.onLink n fun l =>
    { state := .down, peerTwin := l.peerTwin, peerDevid := l.peerDevid, epoch := (l.epoch + 1) % 65536,
      rx := l.rx, tx := l.tx, timeSeq := l.timeSeq, delays := l.delays }).twinLinkLost n
  let d := d.endPeerReqs n false
  let ws := d.fab.reqs.filter fun r => r.posted && (match r.tgt with | .link m _ => m == n | _ => false)
  let lost := ws.length + msgs
  let d : Dev := if lost = 0 then d
    else
      let c : Culprit := match ws with
        | r :: _ => { r.culprit d with path := 4 + n, winFam := 6, winNum := n }
        | [] => { agent := 71, orig := d.devid, path := 4 + n, posted := true, write := true, winFam := 6, winNum := n }
      (d.bump (itmReg Reg.itmPeerDownCount n) lost).log c .peerDown (match ws with | r :: _ => r.ga | [] => 0) n lost
  let d := ws.foldl (fun d r => (d.dropReq r.seq).noteFail r.agent r.ident r.ing r.seq .peerDown) d
  let open' := d.fab.wbars.filter fun w => w.link == n
  let d := d.onFab fun b =>
    { b with wbars := b.wbars.filter (fun w => w.link != n), wbarNeed := b.wbarNeed.filter (fun x => x.1 != n),
             waitMsgs := (b.waitMsgs.filter fun w => w.link != n || w.t.dst != d.devid).map fun w => if w.link = n then { w with lost := true } else w,
             peerFail := b.peerFail.filter fun p => p.1 != n }
  -- requests that came by the link are still performed; their completions have no way back (R172)
  let cameBy := fun (r : Req) => !r.posted && (match r.ing with | .link m _ => m == n | _ => false)
  let noAnswer := fun (r : Req) => if cameBy r then { r with orphan := 3 } else r
  let d := d.onFab fun b =>
    { b with reqs := b.reqs.map noAnswer, held := b.held.map noAnswer,
             wbars := b.wbars.map fun w => if w.backLink = some n then { w with backLink := some 5 } else w }
  let d := open'.foldl (fun d w =>
    match w.backLink with
    | some k => d.wbarAnswer k w.backTag w.orig (some .peerDown)
    | none => d.wbarEnd n w.dst w.last (some .peerDown)) d
  let d := d.loseRsv fun r => r.link == some n
  let d := { d with intb := { d.intb with remote := d.intb.remote.filter fun x => !nodes.contains x.1 } }
  d.retryHeld

/-- The link goes DOWN and trains again (R188); with role OFF its lanes are powered down (R175). -/
def Dev.linkRestart (d : Dev) (n : Nat) : Dev :=
  let d : Dev := if (d.link n).state = .off then d else d.linkDown n
  d.onLink n fun l => { l with state := if d.linkOn n then .train else .off, cause := 0 }

/-! ### Training and HELLO -/

/-- The lanes in use after training, from the lanes that lock (R153): all three keep the pair in use, two become the pair, one runs alone where
ALLOW_SINGLE = 1. -/
def trainLanes (old : LaneDir) (lock : BitVec 3) (allowSingle : Bool) : Option LaneDir :=
  match (List.range 3).filter fun k => lock.getLsbD k with
  | [_, _, _] => some { old with single := none, spareOk := true, mapEpoch := (old.mapEpoch + 1) % 256 }
  | [a, b] => some { lane0 := a, lane1 := b, single := none, spareOk := false, mapEpoch := (old.mapEpoch + 1) % 256 }
  | [a] => if allowSingle then some { lane0 := a, lane1 := a, single := some a, spareOk := false, mapEpoch := (old.mapEpoch + 1) % 256 } else none
  | _ => none

/-- The active physical lanes of a direction, bit k for lane k. -/
def LaneDir.mask (l : LaneDir) : Nat :=
  match l.single with
  | some k => 2 ^ k
  | none => maskOf 3 fun k => k == l.lane0 || k == l.lane1

/-- TWIN_STATE of HELLO and ROLE (R176): 0 none, 1 ACTIVE, 2 STANDBY. -/
def Dev.twinWord (d : Dev) : Nat := if !d.twin.en then 0 else if d.twin.state == .active then 1 else 2

/-- The HELLO this side sends (R176). -/
def Dev.helloOf (d : Dev) (n : Nat) : Hello :=
  let l := d.link n
  let role := d.linkRole n
  { version := 1, devid := d.devid, link := n, role := role, expDevid := d.fld (itmReg Reg.itmPeer n) 0 10,
    expRole := match role with
      | 1 => 3
      | 2 => 3
      | 3 => if d.flag (itmReg Reg.itmPeer n) 10 then 2 else 1
      | _ => 4
    twin := d.twinWord, epoch := l.epoch, lanes := l.rx.mask, credits := [16, 64, 32, 64, 32, 32, 64, 16], result := l.verdict,
    silicon := (d.rd Reg.sysId).toNat }

/-- The first check of R177 a received HELLO fails, as its code; 1 when it passes all. -/
def Dev.helloCheck (d : Dev) (n : Nat) (h : Hello) : Nat :=
  let mine := d.helloOf n
  if h.version ≠ 1 then 6
  else if h.devid ≠ mine.expDevid then 2
  else if h.role ≠ mine.expRole then 3
  else if h.expDevid ≠ d.devid then 4
  else if h.expRole ≠ mine.role then 5
  else 1

/-- The present level of every source mapped to Itmos is sent again (R179). -/
def Dev.levelResend (d : Dev) : Dev :=
  (d.routed 5).foldl (fun d x => d.itmosLevel x.1 (d.srcLevel x.1)) d

/-- The link enters UP (R171, R177): after a retrain with its traffic intact, otherwise in a new epoch, when interrupt levels are sent again
(R179). -/
def Dev.linkEnterUp (d : Dev) (n : Nat) : Dev :=
  let fresh := !(d.link n).fromUp
  let d := d.onLink n fun l => { l with state := .up, fromUp := false, cause := 0, delays := [], rxAny := l.rxAny && !fresh, nakSent := false }
  let d : Dev := if fresh then d.levelResend else d
  let d : Dev := if d.linkRole n = 4 ∧ d.twin.state = .unsync ∧ (d.twin.peerAct ∨ (d.link n).peerTwin = 1)
    then d.onTwin fun t => { t with state := .syncing, recvAny := false } else d
  (d.pumpWbars n).retryHeld

/-- A received HELLO (R177, R178). -/
def Dev.hello (d : Dev) (n : Nat) (h : Hello) : Dev :=
  let l := d.link n
  if !l.trained then d
  else
    let d := d.onLink n fun l => { l with peerDevid := h.devid, peerTwin := h.twin, peerCredits := h.credits, peerResult := h.result }
    let code := d.helloCheck n h
    if l.state = .retrain ∧ h.epoch ≠ l.peerEpoch then d.linkDown n
    else if l.state = .hello ∨ l.state = .retrain then
      if code ≠ 1 then d.onLink n fun l => { l with state := .held, cause := code, verdict := code }
      else if 2 ≤ h.result ∧ h.result ≤ 6 then d.onLink n fun l => { l with state := .held, cause := 1, verdict := 1 }
      else
        let d := d.onLink n fun l => { l with verdict := 1, peerEpoch := h.epoch }
        if l.sentOk ∧ h.result = 1 then d.linkEnterUp n else d
    else d

/-! ### Meanings of the link layer -/

/-- LINK_TRAINED (R153): the receive lanes that lock give the lanes in use. -/
def execLinkTrained (n : Fin 5) (lock : BitVec 3) (s : State) : Host.Outcome State Fault Refusal :=
  s.act fun d =>
    let l := d.link n.val
    if d.linkOn n.val ∧ (l.state = .train ∨ l.state = .down ∨ (l.state = .retrain ∧ !l.trained) ∨ l.state = .off) then
      match trainLanes l.rx lock (d.flag (itmReg Reg.itmLinkCtl n.val) 9) with
      | some rx => d.onLink n.val fun l => { l with state := if l.state = .retrain then .retrain else .hello, trained := true, rx := rx,
                                                    verdict := 0, sentOk := false, peerResult := 0, cause := 0 }
      | none => d
    else d

/-- TRAINING_RETRY (R153): 1 ms without a responding peer, training starts again. -/
def execTrainingRetry (n : Fin 5) (s : State) : Host.Outcome State Fault Refusal :=
  s.act fun d =>
    let l := d.link n.val
    if d.linkOn n.val ∧ (l.state = .off ∨ l.state = .train ∨ l.state = .down ∨ l.state = .hello) then
      d.onLink n.val fun l => { l with state := .train, trained := false }
    else d

/-- HELLO_SEND (R177): the payload of R176; a link whose sides have both sent and received RESULT = 1 enters UP. -/
def execHelloSend (n : Fin 5) (s : State) : Host.Outcome State Fault Refusal :=
  s.act fun d =>
    let l := d.link n.val
    if l.trained ∧ (l.state = .hello ∨ l.state = .retrain ∨ l.state = .held) then
      let d := (d.emit (.hello n.val (d.helloOf n.val))).onLink n.val fun l => { l with sentOk := l.sentOk || l.verdict == 1 }
      if l.state ≠ .held ∧ l.verdict = 1 ∧ l.peerResult = 1 then d.linkEnterUp n.val else d
    else d

/-- HELLO_RECEIVE (R177). -/
def execHelloReceive (n : Fin 5) (h : Hello) (s : State) : Host.Outcome State Fault Refusal := s.act fun d => d.hello n.val h

/-- ITM_LINK_RESTART (R188). -/
def execItmLinkRestart (n : Fin 5) (s : State) : Host.Outcome State Fault Refusal := s.act fun d => d.linkRestart n.val

/-- FLIT_CRC_FAIL (R157, R170): the flit is discarded and counted; the first since the expected SEQ was accepted asks for replay. -/
def execFlitCrcFail (n : Fin 5) (s : State) : Host.Outcome State Fault Refusal :=
  s.act fun d =>
    let d := d.bump (itmReg Reg.itmCrcErr n.val)
    if d.linkUp n.val ∧ !(d.link n.val).nakSent then (d.emit (.nak n.val)).onLink n.val fun l => { l with nakSent := true } else d

/-- A replay starts (R171); `same` when the oldest unacknowledged flit is that of the replay before. -/
def Dev.replayFrom (d : Dev) (n : Nat) (same : Bool) : Dev :=
  if !d.linkUp n then d
  else
    let k := if same then (d.link n).replays + 1 else 1
    let d := ((d.bump (itmReg Reg.itmReplay n)).emit (.replay n)).onLink n fun l => { l with replays := k }
    if max 1 (d.fld (itmReg Reg.itmLinkCtl n) 4 4) ≤ k then d.enterRetrain n else d

/-- REPLAY_NAK (R171). -/
def execReplayNak (n : Fin 5) (same : Bool) (s : State) : Host.Outcome State Fault Refusal := s.act fun d => d.replayFrom n.val same

/-- REPLAY_TIMEOUT (R171). -/
def execReplayTimeout (n : Fin 5) (same : Bool) (s : State) : Host.Outcome State Fault Refusal :=
  s.act fun d => d.replayFrom n.val same

/-- RETRAIN_TIMEOUT (R171, R172). -/
def execRetrainTimeout (n : Fin 5) (s : State) : Host.Outcome State Fault Refusal :=
  s.act fun d => if (d.link n.val).state = .retrain then d.linkDown n.val else d

/-- LANE_FAILURE (R173, R174): a receiving lane is retired. A spare is marked unusable; for an active lane LANE_SWAP is sent, or the link
retrains. -/
def execLaneFailure (n : Fin 5) (phys : Fin 3) (s : State) : Host.Outcome State Fault Refusal :=
  s.act fun d =>
    let l := d.link n.val
    let ctl := itmReg Reg.itmLinkCtl n.val
    if l.state ≠ .up then d
    else if !l.rx.mask.testBit phys.val then d.onLink n.val fun l => { l with rx := { l.rx with spareOk := false } }
    else if l.rx.single.isNone ∧ ((l.rx.spareOk ∧ d.flag ctl 8) ∨ d.flag ctl 9) then
      let k := if l.rx.lane0 = phys.val then 0 else 1
      (d.onLink n.val fun l => { l with swapLane := some k, swapTries := 1 }).emit (.linkFlit n.val 2 k)
    else d.enterRetrain n.val

/-- A direction with logical lane `k` retired (R174): the spare takes it, or the other lane runs alone, or none of both. -/
def LaneDir.retire (l : LaneDir) (k : Nat) (spareEn single : Bool) : Option LaneDir :=
  if l.single.isSome then none
  else if l.spareOk && spareEn then
    let spare := 3 - l.lane0 - l.lane1
    some { l with lane0 := if k = 0 then spare else l.lane0, lane1 := if k = 0 then l.lane1 else spare, spareOk := false,
                  mapEpoch := (l.mapEpoch + 1) % 256 }
  else if single then
    let other := if k = 0 then l.lane1 else l.lane0
    some { l with single := some other, spareOk := false, mapEpoch := (l.mapEpoch + 1) % 256 }
  else none

/-- A lane swap of a link is counted and recorded (R174, R455). -/
def Dev.laneSwapped (d : Dev) (n phys : Nat) : Dev :=
  (d.bump (itmReg Reg.itmLaneSwap n)).recordSpare 3 2 (n + 8 * phys) 0

/-- LANE_SWAP (R174): the sender of the direction remaps the lane at its next flit boundary. -/
def execLaneSwap (n : Fin 5) (k : Fin 2) (s : State) : Host.Outcome State Fault Refusal :=
  s.act fun d =>
    let l := d.link n.val
    if l.state ≠ .up then d
    else
      match l.tx.retire k.val true (d.flag (itmReg Reg.itmLinkCtl n.val) 9) with
      | some tx => (d.onLink n.val fun l => { l with tx := tx }).laneSwapped n.val (if k.val = 0 then l.tx.lane0 else l.tx.lane1)
      | none => d.enterRetrain n.val

/-- LANE_SWAP_RESEND (R174): the new map has appeared, or LANE_SWAP is sent again, four times in all, and then the link retrains. -/
def execLaneSwapResend (n : Fin 5) (mapSeen : Bool) (s : State) : Host.Outcome State Fault Refusal :=
  s.act fun d =>
    let l := d.link n.val
    let ctl := itmReg Reg.itmLinkCtl n.val
    match l.swapLane with
    | none => d
    | some k =>
      if mapSeen then
        match l.rx.retire k (d.flag ctl 8) (d.flag ctl 9) with
        | some rx => (d.onLink n.val fun l => { l with rx := rx, swapLane := none, swapTries := 0 }).laneSwapped n.val
            (if k = 0 then l.rx.lane0 else l.rx.lane1)
        | none => d.enterRetrain n.val
      else if l.swapTries < 4 then (d.onLink n.val fun l => { l with swapTries := l.swapTries + 1 }).emit (.linkFlit n.val 2 k)
      else d.enterRetrain n.val

/-- ROLE (R184): the peer's twin state; requests outstanding toward a peer that now reports STANDBY end as PEER_DOWN. -/
def execRole (n : Fin 5) (twin : Fin 3) (s : State) : Host.Outcome State Fault Refusal :=
  s.act fun d =>
    if !d.linkUp n.val then d
    else
      let d := d.onLink n.val fun l => { l with peerTwin := twin.val }
      if twin.val = 2 ∧ d.linkRole n.val ≠ 4 then (d.endPeerReqs n.val true).retryHeld else d

/-- RETRAIN_REQ (R169). -/
def execRetrainReq (n : Fin 5) (s : State) : Host.Outcome State Fault Refusal :=
  s.act fun d => if d.linkUp n.val then d.enterRetrain n.val else d

/-! ### Transfers received -/

/-- The enabled bytes of a request's data words (R160). -/
def enablesOf (t : Transfer) : List Bool :=
  (List.range (4 * t.length)).map fun i =>
    if i / 4 = 0 then t.fbe.testBit (i % 4)
    else if i / 4 = t.length - 1 then t.lbe.testBit (i % 4)
    else true

/-- LENGTH and data agree (R162): requests with data carry LENGTH words, others none. -/
def wellSized (t : Transfer) (hasData : Bool) : Bool :=
  decide (t.length ≤ 1024) && t.data.length == (if hasData then 4 * t.length else 0)

/-- A transfer that breaks the protocol is dropped, counted and logged as DECODE; a non-posted request is answered so (R162). -/
def Dev.protoErr (d : Dev) (n : Nat) (t : Option Transfer) : Dev :=
  let c : Culprit := match t with
    | some t => { agent := 32 + t.orig % 8, orig := t.orig, path := 4 + n, winFam := 6, winNum := n,
                  write := [0x00, 0x01, 0x04, 0x05, 0x06, 0x07].contains t.op, posted := t.op == 0,
                  errResp := decide (1 ≤ t.op) && decide (t.op ≤ 8) }
    | none => { agent := 71, orig := d.devid, path := 4 + n, winFam := 6, winNum := n }
  let d := (d.bump (itmReg Reg.itmProtoErr n)).log c .decode ((t.map (·.addr)).getD 0) 5
  match t with
  | some t =>
    if 1 ≤ t.op ∧ t.op ≤ 8 then
      d.emit (.itm n { op := t.op + 0x40, tag := t.tag, ts := d.stamp, orig := d.devid, dst := t.orig, status := 1,
                       length := if t.op = 1 ∨ t.op = 4 ∨ t.op = 8 then 0 else t.length, tc := 3,
                       data := if t.op = 1 ∨ t.op = 4 ∨ t.op = 8 then [] else List.replicate (4 * t.length) 0xFF })
    else d
  | none => d

/-- The device takes a transfer from a link: the link is UP, and its sequence goes on (R170, R172). -/
def Dev.rxOn (d : Dev) (n : Nat) : Dev := d.onLink n fun l => { l with rxAny := true, nakSent := false }

/-- The request a received transfer makes (R160, R161). -/
def peerReq (n : Nat) (t : Transfer) (op : ReqOp) : Req :=
  let en := enablesOf t
  let lo := (en.findIdx? id).getD 0
  let len := ((en.drop lo).reverse.dropWhile (!·)).length
  let base : Req := { seq := 0, agent := 32 + t.orig % 8, ident := t.orig, orig := t.orig, ing := .link n t.tag, op := op,
                      posted := t.op == 0, ga := t.dst % 1024 * 2 ^ 38 + t.addr % 2 ^ 38 + lo, len := len, ts := t.ts % 2 ^ 40,
                      poison := t.poison }
  match op with
  | .write | .condStore => { base with data := (List.range len).map fun i => if en.getD (lo + i) false then some (t.data.getD (lo + i) 0) else none }
  | .read | .rsvLoad =>
    let w : WData := (List.range len).map fun i => if en.getD (lo + i) false then some 0 else none
    { base with data := if w.all (·.isSome) then [] else w }
  | .cas => { base with ga := t.dst % 1024 * 2 ^ 38 + t.addr % 2 ^ 38, len := 2 * t.length, data := allOn t.data }
  | _ => { base with ga := t.dst % 1024 * 2 ^ 38 + t.addr % 2 ^ 38, len := 4 * t.length, data := allOn t.data }

/-- A bridge request arrives over a link (R161, R162, R164, R184): performed here or relayed; refused by a STANDBY twin. -/
def Dev.peerRequest (d : Dev) (n : Nat) (t : Transfer) (code : Nat) (op : ReqOp) : Dev :=
  if !d.linkUp n || d.silent then d
  else
    let d := d.rxOn n
    if t.op ≠ code ∨ !wellSized t (op != .read && op != .rsvLoad) then d.protoErr n (some t)
    else
      let r := peerReq n t op
      if d.standby then (if r.posted then d.bump (itmReg Reg.itmPeerDownCount n) else d).failEarly r .peerDown n
      else (d.prefWrite none r.ga (if op = .read ∨ op = .rsvLoad then 0 else r.len)).issue r

/-- A message arrives over a link (R166, R296): it waits for the posted writes before it. A STANDBY twin discards and counts it (R184). -/
def Dev.peerMessage (d : Dev) (n : Nat) (t : Transfer) (code : Nat) : Dev :=
  if !d.linkUp n || d.silent then d
  else
    let d := d.rxOn n
    if t.op ≠ code ∨ t.length ≠ 0 then d.protoErr n (some t)
    else if d.standby then
      if code = 0x08 then d.wbarAnswer n t.tag t.orig (some .peerDown) else d.bump (itmReg Reg.itmPeerDownCount n)
    else
      (d.onFab fun b => { b with waitMsgs := b.waitMsgs ++ [{ link := n, t := t, mark := b.nextSeq }], nextSeq := b.nextSeq + 1 }).pumpMsgs

/-- A completion that matches a request outstanding over link `n` (R163). -/
def Dev.peerMatch (d : Dev) (n : Nat) (t : Transfer) : Option Req :=
  d.fab.reqs.find? fun r => !r.posted && r.st == .started && r.tag == t.tag && t.op == r.itmOp + 0x40 &&
    (match r.tgt with | .link m _ => m == n | _ => false)

/-- The error type a STATUS names (R160, R278). -/
def statusOf (st : Nat) : Option ErrType := if st = 0 then none else some ((errOfCode st).getD .peerDown)

/-- Where the transfer that a completion answers starts within its request: the runs of a write with gaps complete in the order they were
sent (R206). -/
def Req.runBase (r : Req) : Nat :=
  let runs := if r.op = .write then wruns 0 r.data else []
  (runs.getD (runs.length - r.sentLen) (0, [])).1

/-- A completion ends the request it matches (R163, R279, R280): delivered, or relayed back; a failure another device reported is logged where
its requester is local, and a poisoned payload fails as DEC_UNCORR (R17). A write sent as several runs (R206) ends with its last run's
completion, with the first failure among them. -/
def Dev.peerComplete (d : Dev) (r : Req) (t : Transfer) : Dev :=
  let bytes := (List.range r.len).map fun i => t.data.getD (r.ga % 4 + i) 0
  let data := if r.op = .write ∨ r.op = .condStore then [] else bytes
  match statusOf t.status with
  | some e =>
    let failAt := min r.len (r.runBase + (4 * t.failDw - (r.ga + r.runBase) % 4))
    let d : Dev := if r.ing.local then d.log { r.culprit d with remote := true } e (r.ga + failAt) 0 else d
    let first : Option ErrType × Nat := if r.status.isSome then (r.status, r.failAt) else (some e, failAt)
    if 1 < r.sentLen then
      d.updReq r.seq fun r => { r with remote := true, status := first.1, failAt := first.2, sentLen := r.sentLen - 1 }
    else ((d.updReq r.seq fun r => { r with remote := true }).finishAt r.seq first.1 first.2 (data.take failAt) t.ts).retryHeld
  | none =>
    if 1 < r.sentLen then d.updReq r.seq fun r => { r with sentLen := r.sentLen - 1 }
    else
      let d : Dev := if t.poison then d.failReq r .decUncorr 9
        else (d.updReq r.seq fun r => { r with csFail := t.csFail }).finishAt r.seq r.status r.failAt data t.ts
      d.retryHeld

/-- A WBAR's barrier entry is freed with a STATUS (R166, R224). -/
def Dev.wbarDone (d : Dev) (w : Wbar) (status : Option ErrType) : Dev :=
  let d := d.onFab fun b => { b with wbars := b.wbars.filter fun x => !(x.link == w.link && x.entry == w.entry) }
  let d : Dev := match w.backLink with
    | some k => d.wbarAnswer k w.backTag w.orig status
    | none => d.wbarEnd w.link w.dst w.last status
  (d.pumpWbars w.link).retryHeld

/-- ITM_MWR (R164); a stray DATA flit or a reserved FTYPE is dropped (R162). -/
def execItmMwr (n : Fin 5) (x : RxFlits) (s : State) : Host.Outcome State Fault Refusal :=
  s.act fun d =>
    match x with
    | .whole t => d.peerRequest n.val t 0x00 .write
    | .strayData | .reservedType => if d.linkUp n.val then d.protoErr n.val none else d

/-- ITM_MWR_NP (R161). -/
def execItmMwrNp (n : Fin 5) (t : Transfer) (s : State) : Host.Outcome State Fault Refusal :=
  s.act fun d => d.peerRequest n.val t 0x01 .write

/-- ITM_MRD (R161). -/
def execItmMrd (n : Fin 5) (t : Transfer) (s : State) : Host.Outcome State Fault Refusal :=
  s.act fun d => d.peerRequest n.val t 0x02 .read

/-- ITM_RSV_LD (R227). -/
def execItmRsvLd (n : Fin 5) (t : Transfer) (s : State) : Host.Outcome State Fault Refusal :=
  s.act fun d => d.peerRequest n.val t 0x03 .rsvLoad

/-- ITM_COND_ST (R227). -/
def execItmCondSt (n : Fin 5) (t : Transfer) (s : State) : Host.Outcome State Fault Refusal :=
  s.act fun d => d.peerRequest n.val t 0x04 .condStore

/-- ITM_FETCHADD (R97). -/
def execItmFetchadd (n : Fin 5) (t : Transfer) (s : State) : Host.Outcome State Fault Refusal :=
  s.act fun d => d.peerRequest n.val t 0x05 .fetchAdd

/-- ITM_SWAP (R97). -/
def execItmSwap (n : Fin 5) (t : Transfer) (s : State) : Host.Outcome State Fault Refusal :=
  s.act fun d => d.peerRequest n.val t 0x06 .swap

/-- ITM_CAS (R97). -/
def execItmCas (n : Fin 5) (t : Transfer) (s : State) : Host.Outcome State Fault Refusal :=
  s.act fun d => d.peerRequest n.val t 0x07 .cas

/-- ITM_WBAR (R166). -/
def execItmWbar (n : Fin 5) (t : Transfer) (s : State) : Host.Outcome State Fault Refusal :=
  s.act fun d => d.peerMessage n.val t 0x08

/-- ITM_COMPLETION (R163). -/
def execItmCompletion (n : Fin 5) (t : Transfer) (s : State) : Host.Outcome State Fault Refusal :=
  s.act fun d =>
    if !d.linkUp n.val then d
    else
      let d := d.rxOn n.val
      if t.op = 0x48 then
        match d.fab.wbars.find? fun w => w.link == n.val && w.entry == t.tag with
        | some w => d.wbarDone w (statusOf t.status)
        | none => d.bump (itmReg Reg.itmLateCpl n.val)
      else
        match d.peerMatch n.val t with
        | some r => d.peerComplete r t
        | none => d.bump (itmReg Reg.itmLateCpl n.val)

/-- ITM_REQ_TIMEOUT (R164): the TT entry's request over a link ends as TIMEOUT. -/
def execItmReqTimeout (tag : Nat) (s : State) : Host.Outcome State Fault Refusal :=
  s.act fun d =>
    match d.fab.reqs.find? fun r => !r.posted && r.st == .started && r.tag == tag && (match r.tgt with | .link _ _ => true | _ => false) with
    | some r =>
      let n := match r.tgt with | .link n _ => n | _ => 0
      ((d.bump (itmReg Reg.itmReqTimeout n)).failReq r .timeout 4).retryHeld
    | none => d

/-- WBAR_TIMEOUT (R224): the WBAR ends with STATUS TIMEOUT and is logged with timer 5 (R283). -/
def execWbarTimeout (n : Fin 5) (entry : Fin 32) (s : State) : Host.Outcome State Fault Refusal :=
  s.act fun d =>
    match d.fab.wbars.find? fun w => w.link == n.val && w.entry == entry.val with
    | some w =>
      let c : Culprit :=
        { agent := 71, orig := if w.backLink.isSome then w.orig else d.devid, path := 4 + n.val, winFam := 6, winNum := n.val }
      (d.log c .timeout 0 5).wbarDone w (some .timeout)
    | none => d

/-- INT_ASSERT (R296). -/
def execIntAssert (n : Fin 5) (t : Transfer) (s : State) : Host.Outcome State Fault Refusal :=
  s.act fun d => d.peerMessage n.val t 0x20

/-- INT_DEASSERT (R296). -/
def execIntDeassert (n : Fin 5) (t : Transfer) (s : State) : Host.Outcome State Fault Refusal :=
  s.act fun d => d.peerMessage n.val t 0x21

/-- FAULT_NOTE (R457): placed in the note FIFO at its DST_DEV, relayed on the way; a STANDBY twin discards and counts it (R184). -/
def execFaultNote (n : Fin 5) (t : Transfer) (s : State) : Host.Outcome State Fault Refusal :=
  s.act fun d =>
    if !d.linkUp n.val || d.silent then d
    else
      let d := d.rxOn n.val
      if t.op ≠ 0x22 ∨ t.length ≠ 0 ∨ t.data.length ≠ 32 then d.protoErr n.val (some t)
      else if d.standby then d.bump (itmReg Reg.itmPeerDownCount n.val)
      else if t.dst = d.devid then d.placeNote t.data
      else
        match d.msgRoute t.dst with
        | some m => d.sendMsg m t
        | none => d

/-! ### Time flits -/

/-- The vehicle time at the pins now, in units of 2^-16 ns (R180, R181). -/
def Dev.vtStamp (d : Dev) : Nat := d.blv.vt * 65536 + d.blv.acc / 2 ^ 32

/-- TIME_EN = 1 and the link is UP (R182). -/
def Dev.timeOn (d : Dev) (n : Nat) : Bool := d.linkUp n && d.flag (itmReg Reg.itmTimeCfg n) 8

/-- This side is the parent of the time exchange: role DN, or TWIN while ACTIVE (R182). -/
def Dev.timeParent (d : Dev) (n : Nat) : Bool := d.linkRole n == 3 || (d.linkRole n == 4 && d.twin.state == .active)

/-- This side is the child: role UP or UP_ALT, or TWIN while not ACTIVE (R182). -/
def Dev.timeChild (d : Dev) (n : Nat) : Bool :=
  d.linkRole n == 1 || d.linkRole n == 2 || (d.linkRole n == 4 && d.twin.state != .active)

/-- DELAY_REQ_SEND (R182). An exchange still open was lost to a corrupted flit and counts in ITMn_TIME_DROP. -/
def execDelayReqSend (n : Fin 5) (s : State) : Host.Outcome State Fault Refusal :=
  s.act fun d =>
    if d.timeOn n.val && d.timeChild n.val then
      let d : Dev := if (d.link n.val).delayReq.isSome then d.bump (itmReg Reg.itmTimeDrop n.val) else d
      let seq := (d.link n.val).timeSeq
      (d.emit (.timeFlit n.val 2 seq d.vtStamp 0)).onLink n.val fun l =>
        { l with delayReq := some (seq, d.vtStamp), timeSeq := (seq + 1) % 65536 }
    else d

/-- DELAY_REQ (R182): answered with the arrival stamp. -/
def execDelayReq (n : Fin 5) (seqid : Nat) (s : State) : Host.Outcome State Fault Refusal :=
  s.act fun d =>
    if d.timeOn n.val && d.timeParent n.val then d.emit (.timeFlit n.val 3 seqid d.vtStamp d.vtStamp) else d

/-- The mean of the valid delays, in units of 2^-16 ns (R182). -/
def meanDelay (l : List Int) : Int := if l.isEmpty then 0 else l.foldl (· + ·) 0 / (l.length : Int)

/-- DELAY_RESP (R182): one link delay from t1 to t4; below 0 or above 10 µs it is discarded and counted. -/
def execDelayResp (n : Fin 5) (seqid t2 t3 : Nat) (s : State) : Host.Outcome State Fault Refusal :=
  s.act fun d =>
    match (d.link n.val).delayReq with
    | some (seq, t1) =>
      if d.timeOn n.val && d.timeChild n.val && seq == seqid then
        let delay : Int := ((d.vtStamp : Int) - t1 - ((t3 : Int) - t2)) / 2
        let d := d.onLink n.val fun l => { l with delayReq := none }
        if delay < 0 ∨ 10000 * 65536 < delay then d.bump (itmReg Reg.itmTimeDrop n.val)
        else d.onLink n.val fun l => { l with delays := (l.delays ++ [delay]).drop (l.delays.length + 1 - 16) }
      else d
    | none => d

end Sys2Proof.Machine
end

