-- ==== Sys2Proof/Machine/Belvedere.lean ====
section
/-!
DEFINITION. The Belvedere: the vehicle-time counter and its steering (R239–R249), its sources (R243, R252, R253), the scheduler with its
triggers, timed accesses and CAN releases (R254–R266), captures and the FIFOs (R262, R268, R276).
-/
namespace Sys2Proof.Machine

/-- The device with the vehicle-time unit changed. -/
def Dev.onBlv (d : Dev) (f : Blv → Blv) : Dev := { d with blv := f d.blv }

/-- A 32-bit word read as signed. -/
def Dev.sfld (d : Dev) (off : Nat) : Int := (d.rd off).toInt

/-! ### The counter -/

/-- The limit of the applied rate, ±500 ppm in units of 2^-32 (R239). -/
def rateLimit : Int := 2147484

/-- A number limited to ±`m`. -/
def clampTo (m x : Int) : Int := max (-m) (min m x)

/-- Trim plus servo rate, limited (R239). -/
def Dev.baseRate (d : Dev) : Int := clampTo rateLimit (d.sfld Reg.blvRateTrim + d.sfld Reg.blvRate)

/-- MAX_SLEW in units of 2^-32, to the nearest; 0 acts as 1 ppm (R246, R273). -/
def Dev.maxSlew (d : Dev) : Int := ((max 1 (d.fld Reg.blvServoCfg 8 8) * 2 ^ 32 + 500000) / 1000000 : Nat)

/-- The slew rate of the present TIME edge (R246): up to MAX_SLEW, as much as the limit leaves and no more than is pending. -/
def Dev.slewRate (d : Dev) : Int :=
  let b := d.baseRate
  if 0 ≤ d.blv.slew then min (min d.maxSlew (rateLimit - b)) d.blv.slew
  else max (max (-d.maxSlew) (-rateLimit - b)) d.blv.slew

/-- The applied rate (R239). -/
def Dev.appliedRate (d : Dev) : Int := d.baseRate + d.slewRate

/-- VT advances by one TIME edge: 1 ns × (1 + r) (R239). -/
def Dev.advance (d : Dev) : Dev :=
  let r := d.appliedRate
  let x : Nat := d.blv.acc + ((2 ^ 32 + r) * 2 ^ 16).toNat
  d.onBlv fun b => { b with vt := (b.vt + x / 2 ^ 48) % 2 ^ 64, acc := x % 2 ^ 48, slew := b.slew - d.slewRate,
                            ctrFault := b.ctrFault && b.ctrInvalid }

/-! ### Sources and servo states -/

/-- The source type and ARG of a source (R243, R273); the ACTIVE twin is an Itmos source. -/
def Dev.srcType (d : Dev) : BlvSource → Nat
  | .primary => d.fld Reg.blvSrcCfg 0 3
  | .secondary => d.fld Reg.blvSrcCfg 9 3
  | .twin => 2

/-- The ARG of a source (R273). -/
def Dev.srcArg (d : Dev) : BlvSource → Nat
  | .primary => d.fld Reg.blvSrcCfg 3 6
  | .secondary => d.fld Reg.blvSrcCfg 12 6
  | .twin => 0x3F

/-- The link of an Itmos source (R243, R249). -/
def Dev.srcLink (d : Dev) (s : BlvSource) : Option Nat :=
  match s with
  | .twin => d.roleLink 4
  | _ =>
    if d.srcType s ≠ 2 then none
    else if d.srcArg s = 0x3F then d.upRoute
    else if d.srcArg s < 5 then some (d.srcArg s) else none

/-- The conditions of R243 that the device's state shows hold for a source; the time since its last update is the outside's to watch. -/
def Dev.srcHolds (d : Dev) (s : BlvSource) : Bool :=
  match d.srcType s with
  | 1 => !d.dep.arcadeMissing && decide (d.srcArg s < 15)
  | 2 =>
    match d.srcLink s with
    | some n => d.linkUp n && !(d.link n).delays.isEmpty && (s != .twin || d.standby)
    | none => false
  | 3 => decide (d.srcArg s < 48) && d.fld (Reg.blvTioCfg + 4 * d.srcArg s) 0 3 == 3
  | _ => false

/-- A source's validity as last reported. -/
def Blv.ok (b : Blv) : BlvSource → Bool
  | .primary => b.priOk
  | .secondary => b.secOk
  | .twin => b.twinOk

/-- A source's validity is set. -/
def Blv.setOk (b : Blv) (s : BlvSource) (on : Bool) : Blv :=
  match s with
  | .primary => { b with priOk := on }
  | .secondary => { b with secOk := on }
  | .twin => { b with twinOk := on }

/-- The source to use (R243, R249): a STANDBY twin follows its ACTIVE twin; otherwise the primary, and the secondary while the primary is
invalid. A valid secondary in use is kept until REVERT_HOLD lets the primary back. -/
def Dev.wantSource (d : Dev) : Option BlvSource :=
  if d.standby then (if d.blv.twinOk then some .twin else none)
  else if d.blv.use = some .secondary ∧ d.blv.secOk then some .secondary
  else if d.blv.priOk then some .primary
  else if d.blv.secOk then some .secondary
  else none

/-- The mean of the servo rates of the last updates (R244). -/
def meanRate (l : List Int) : Int := if l.isEmpty then 0 else l.foldl (· + ·) 0 / (l.length : Int)

/-- The servo enters ACQUIRE (R244). -/
def Dev.enterAcquire (d : Dev) : Dev :=
  d.onBlv fun b => { b with servo := .acquire, inLock := 0, outLock := 0, firstUpd := true, holdExc := false }

/-- The source in use becomes `s`, counted in BLV_SRC_SWITCH (R243); with none the servo holds over at the mean rate and pending slew stops,
and with one it leaves FREE or HOLDOVER (R244). -/
def Dev.useSource (d : Dev) (s : Option BlvSource) : Dev :=
  if s = d.blv.use then d
  else
    let d := (d.onBlv fun b => { b with use := s }).bump Reg.blvSrcSwitch
    match s, d.blv.servo with
    | some _, .free => d.enterAcquire
    | some _, .holdover => d.enterAcquire
    | none, .acquire => (d.wr Reg.blvRate (BitVec.ofInt 32 (meanRate d.blv.rates))).onBlv fun b => { b with servo := .holdover, slew := 0 }
    | none, .locked => (d.wr Reg.blvRate (BitVec.ofInt 32 (meanRate d.blv.rates))).onBlv fun b => { b with servo := .holdover, slew := 0 }
    | _, _ => d

/-- A source becomes valid or invalid, and the source in use follows (R243, R244). -/
def Dev.setSource (d : Dev) (s : BlvSource) (on : Bool) : Dev :=
  let d := d.onBlv fun b => b.setOk s on
  d.useSource d.wantSource

/-- Sources whose conditions no longer hold become invalid at the TIME edge (R244). -/
def Dev.checkSources (d : Dev) : Dev :=
  let drop := fun (d : Dev) (s : BlvSource) => if d.blv.ok s && !d.srcHolds s then d.onBlv fun b => b.setOk s false else d
  let d := drop (drop (drop d .primary) .secondary) .twin
  d.useSource d.wantSource

/-- The Wicket's own time goes on by 1 ns; WKT_AON_TIME counts the ticks of its 32,768 Hz clock (R413, R422). -/
def Dev.aonEdge (d : Dev) : Dev :=
  let acc := d.wkt.acc + 32768
  let d : Dev := { d with wkt := { d.wkt with now := d.wkt.now + 1, acc := acc % 1000000000 } }
  if acc < 1000000000 then d else d.wr64 Reg.wktAonTime ((d.rd64 Reg.wktAonTime + 1) % 2 ^ 48)

/-- A TIME edge: VT advances while the item of Belvedere, item 15, is on, the sources are judged, and the Wicket's time goes on (R239, R244,
R417). -/
def Dev.timeEdge (d : Dev) : Dev := (if (d.wkt.items.getD 15 {}).on then d.advance.checkSources else d).aonEdge

/-- The source as BLV_STATUS.SOURCE and SYNC name it (R181, R272). -/
def Dev.sourceCode (d : Dev) : Nat :=
  match d.blv.use with
  | some s => d.srcType s
  | none => if d.blv.servo = .holdover then 4 else 0

/-- Hops from the time source (R252, R272); 0 where this device is the source. -/
def Dev.timeSteps (d : Dev) : Nat :=
  match d.blv.use with
  | some s => if d.srcType s = 2 then d.blv.steps else 0
  | none => 0

/-- VT_VALID (R241, R244). -/
def Dev.vtValid (d : Dev) : Bool :=
  !d.blv.ctrInvalid && (d.blv.servo == .locked || (d.blv.servo == .holdover && !d.blv.holdExc))

/-! ### Slots -/

/-- The 32 bytes of slot `i` as one number (R254, R255). -/
def Dev.slotImg (d : Dev) (i : Nat) : Nat :=
  (List.range 8).foldr (fun k acc => (d.rd (0x84_0000 + 32 * i + 4 * k)).toNat + 2 ^ 32 * acc) 0

/-- Due time of event `n` (R257). -/
def dueOf (img n : Nat) : Nat := bitsOf img 0 64 + n * bitsOf img 64 32 / max 1 (bitsOf img 96 8)

/-- The number of events of a slot (R255); `none` without limit. -/
def eventsOf (img : Nat) : Option Nat :=
  if bitsOf img 64 32 = 0 then some 1 else if bitsOf img 128 16 = 0 then none else some (bitsOf img 128 16)

/-- ACTION, TOL and the other fields of a slot (R255). -/
def slotAction (img : Nat) : Nat := bitsOf img 104 3
/-- TOL in ns. -/
def slotTol (img : Nat) : Nat := bitsOf img 112 16
/-- SIZE in bytes. -/
def slotSize (img : Nat) : Nat := 2 ^ bitsOf img 109 2
/-- GA of a timed access. -/
def slotGa (img : Nat) : Nat := bitsOf img 144 48

/-- The first event from `next` on that is due at `x` or later (R259). -/
def firstFrom (img x next : Nat) : Nat :=
  let num := bitsOf img 64 32
  let target := bitsOf img 0 64
  if x ≤ target then next
  else if num = 0 then max next 1
  else max next (((x - target) * max 1 (bitsOf img 96 8) + (num - 1)) / num)

/-- A slot passes the checks of R256. -/
def Dev.armOk (d : Dev) (img : Nat) : Bool :=
  let period := bitsOf img 64 32 == 0 || decide (16 * max 1 (bitsOf img 96 8) ≤ bitsOf img 64 32)
  period &&
    match slotAction img with
    | 1 => decide (bitsOf img 152 3 ≤ 4) && decide (bitsOf img 144 6 ≤ 47)
    | 2 => slotGa img % slotSize img == 0 && !(img.testBit 108 && slotGa img / 2 ^ 38 % 1024 != d.devid)
    | 3 => slotGa img % slotSize img == 0 && !(img.testBit 108 && slotGa img / 2 ^ 38 % 1024 != d.devid)
    | 4 => decide (bitsOf img 147 4 ≤ 7)
    | _ => false

/-- A result record (R262) enters the result FIFO, or counts in BLV_RES_OVF. -/
def Dev.pushResult (d : Dev) (vt slot type err event data : Nat) (late : Int) (skips : Nat) : Dev :=
  let lateness := (clampTo (2 ^ 31 - 1) late % 2 ^ 32).toNat
  let bytes := leBytes 8 vt ++ leBytes 2 slot ++ leBytes 1 type ++ leBytes 1 err ++ leBytes 4 event ++ leBytes 8 data ++
    leBytes 4 lateness ++ leBytes 2 (min skips 65535) ++ leBytes 2 0
  if 256 ≤ d.blv.res.length then d.bump Reg.blvResOvf else d.onBlv fun b => { b with res := b.res ++ [bytes] }

/-- The armed slot of a number. -/
def Dev.armedSlot? (d : Dev) (i : Nat) : Option ArmedSlot := d.blv.armed.find? fun a => a.slot == i

/-- A slot whose events have all ended disarms itself (R254). -/
def Dev.slotDone (d : Dev) (i : Nat) : Dev :=
  match d.armedSlot? i with
  | some a =>
    if eventsOf (d.slotImg i) = some a.next ∧ !(d.blv.events.any fun e => e.slot == i)
    then d.onBlv fun b => { b with armed := b.armed.filter fun a => a.slot != i } else d
  | none => d

/-- The reference instant of the next event of a slot: the event before it has ended now (R260). -/
def Dev.slotRef (d : Dev) (i id : Nat) : Dev :=
  let now := d.fab.nextSeq
  match d.blv.events.find? fun e => e.slot == i && decide (id < e.id) with
  | some e => d.onBlv fun b => { b with events := b.events.map fun x => if x.id = e.id then { x with ref := now } else x }
  | none => d.onBlv fun b => { b with armed := b.armed.map fun a => if a.slot = i then { a with ref := now } else a }

/-- The events of a slot before its first event due at `x` or later are skipped: one SKIPPED record, each counted (R259). -/
def Dev.skipSlot (d : Dev) (i x : Nat) : Dev :=
  match d.armedSlot? i with
  | none => d
  | some a =>
    let img := d.slotImg i
    let n := match eventsOf img with | some t => min t (firstFrom img x a.next) | none => firstFrom img x a.next
    if n ≤ a.next then d
    else
      let d := (d.bump Reg.blvSkipCount (n - a.next)).pushResult (dueOf img a.next) i 3 0 a.next 0 0 (n - a.next)
      let d := d.onBlv fun b => { b with armed := b.armed.map fun y =>
        if y.slot = i then { y with next := n, ref := d.fab.nextSeq } else y }
      d.slotDone i

/-- Events of every armed slot that lie in the past beyond TOL are skipped, at arming and at the scheduler's enable (R259). -/
def Dev.skipPast (d : Dev) (i : Nat) : Dev := d.skipSlot i (d.blv.vt - slotTol (d.slotImg i))

/-- An arm operation (R254, R256). -/
def Dev.armSlot (d : Dev) (i : Nat) : Dev :=
  if (d.armedSlot? i).isSome then d.bump Reg.sysAccessReject
  else if !d.armOk (d.slotImg i) then d.bump Reg.blvArmReject
  else (d.onBlv fun b => { b with armed := b.armed ++ [{ slot := i, ref := d.fab.nextSeq }] }).skipPast i

/-- A disarm operation (R254): dispatched events still execute. -/
def Dev.disarmSlot (d : Dev) (i : Nat) : Dev := d.onBlv fun b => { b with armed := b.armed.filter fun a => a.slot != i }

/-- A write of BLV_ARM (R254, R274). -/
def Dev.armWrite (d : Dev) (v : Word) : Dev :=
  let d := d.wr Reg.blvArm (v &&& 0x3FFF)
  match fieldOf v 12 2 with
  | 1 => d.armSlot (fieldOf v 0 12)
  | 2 => d.disarmSlot (fieldOf v 0 12)
  | _ => d

/-- EN of the scheduler is set: events already past are skipped (R259). -/
def Dev.enableSched (d : Dev) : Dev :=
  if d.flag Reg.blvSchedCfg 16 then d
  else
    let d := d.setFld Reg.blvSchedCfg 16 1 1
    (d.blv.armed.map (·.slot)).foldl (fun d i => d.skipPast i) d

/-- A write of BLV_SCHED_CFG (R274): refused as a whole when it changes LEAD or GUARD while a slot is armed. -/
def Dev.schedCfgWrite (d : Dev) (v : Word) : Dev :=
  if !d.blv.armed.isEmpty && fieldOf v 0 16 != d.fld Reg.blvSchedCfg 0 16 then d.bump Reg.sysAccessReject
  else
    let d := d.wr Reg.blvSchedCfg ((v &&& 0xFFFF) ||| (d.rd Reg.blvSchedCfg &&& 0x10000))
    if fieldOf v 16 1 = 1 then d.enableSched else d.setFld Reg.blvSchedCfg 16 1 0

/-- A write of a word of a slot (R254): ignored and counted while the slot is armed. -/
def Dev.slotWrite (d : Dev) (off : Nat) (v : Word) : Dev :=
  let i := (off - 0x84_0000) / 32
  if (d.armedSlot? i).isSome then d.bump Reg.sysAccessReject else d.wr off v

/-! ### Steering and stepping -/

/-- Slots passed by a forward step are skipped up to the new VT (R248, R259). -/
def Dev.skipPassed (d : Dev) : Dev := (d.blv.armed.map (·.slot)).foldl (fun d i => d.skipSlot i d.blv.vt) d

/-- VT steps by a delta, leaving the fraction, or to a value, clearing it (R247). -/
def Dev.stepVt (d : Dev) (delta : Int) (abs : Option Nat) : Dev :=
  let old := d.blv.vt
  let d := d.onBlv fun b => match abs with
    | some x => { b with vt := x % 2 ^ 64, acc := 0 }
    | none => { b with vt := ((b.vt : Int) + delta).toNat % 2 ^ 64 }
  let d := d.bump Reg.blvStepCount
  if old < d.blv.vt then d.skipPassed else d

/-- BLV_STEP_LO and BLV_STEP_HI as a signed delta (R275). -/
def Dev.stepDelta (d : Dev) : Int :=
  let x := d.rd64 Reg.blvStepLo
  if x < 2 ^ 63 then x else (x : Int) - 2 ^ 64

/-- BLV_STEP_CTL is written with GO = 1 (R247). -/
def Dev.softStep (d : Dev) (abs force : Bool) : Dev :=
  if d.blv.servo = .locked ∧ !force then d.bump Reg.sysAccessReject
  else if abs then d.stepVt 0 (some (d.rd64 Reg.blvStepLo)) else d.stepVt d.stepDelta none

/-- A write of BLV_STEP_CTL (R247, R275); GO reads 0. -/
def Dev.stepCtlWrite (d : Dev) (v : Word) : Dev :=
  let d := d.wr Reg.blvStepCtl (v &&& 6)
  if fieldOf v 0 1 = 1 then d.softStep (fieldOf v 1 1 == 1) (fieldOf v 2 1 == 1) else d

/-- BLV_RATE and BLV_SLEW may be written (R246): in FREE, or while the source in use is type 1. -/
def Dev.steerable (d : Dev) : Bool :=
  d.blv.servo == .free || (match d.blv.use with | some s => d.srcType s == 1 | none => false)

/-- BLV_OFFSET shows an offset, given in units of 2^-16 ns, saturating in 1/16 ns (R275). -/
def Dev.showOffset (d : Dev) (off : Int) : Dev := d.wr Reg.blvOffset (BitVec.ofInt 32 (clampTo (2 ^ 31 - 1) (off / 4096)))

/-- The lock counters and the state follow an update's offset (R244, R247), in units of 2^-16 ns. -/
def Dev.lockUpdate (d : Dev) (off : Int) : Dev :=
  let lim : Int := (2 ^ d.fld Reg.blvServoCfg 4 4 * 65536 : Nat)
  let mag : Int := if off < 0 then -off else off
  let inL := if mag ≤ lim then d.blv.inLock + 1 else 0
  let outL := if 4 * lim < mag then d.blv.outLock + 1 else 0
  let d := d.onBlv fun b => { b with inLock := min inL 8, outLock := min outL 8, alarm := b.everLocked && decide (1000 * 65536 < mag) }
  match d.blv.servo with
  | .acquire => if 8 ≤ inL then d.onBlv fun b => { b with servo := .locked, everLocked := true, outLock := 0 } else d
  | .locked => if 8 ≤ outL then d.enterAcquire else d
  | _ => d

/-- An update of the hardware servo with an offset in units of 2^-16 ns (R245, R247): the first in ACQUIRE may step; the loop's new rate is a
value the spec does not state (log 20). -/
def Dev.servoUpdate (d : Dev) (off : Int) : Dev :=
  let mag : Int := if off < 0 then -off else off
  let auto := d.blv.servo == .acquire && d.blv.firstUpd && d.flag Reg.blvServoCfg 3 && !d.blv.everLocked && decide (1000 * 65536 < mag)
  let d := d.showOffset off
  let d : Dev := if auto then d.stepVt (off / 65536) none else d
  let rate := Config.freeWord d.fresh
  let d := (d.tick.wr Reg.blvRate rate).onBlv fun b =>
    { b with firstUpd := false, rates := (b.rates ++ [rate.toInt]).drop (b.rates.length + 1 - 16) }
  d.lockUpdate off

/-- A write of BLV_RATE (R246). -/
def Dev.rateWrite (d : Dev) (v : Word) : Dev :=
  if d.steerable then
    (d.wr Reg.blvRate v).onBlv fun b => { b with rates := (b.rates ++ [v.toInt]).drop (b.rates.length + 1 - 16) }
  else d.bump Reg.sysAccessReject

/-- A write of BLV_SLEW (R246). Under a type-1 source it is the Arcade servo's update, with the written value as its offset (R245; DEDUCED,
log 21). -/
def Dev.slewWrite (d : Dev) (v : Word) : Dev :=
  if d.steerable then
    let d := d.onBlv fun b => { b with slew := b.slew + v.toInt * 2 ^ 32 }
    if d.blv.servo = .free then d
    else ((d.showOffset (v.toInt * 65536)).onBlv fun b => { b with firstUpd := false }).lockUpdate (v.toInt * 65536)
  else d.bump Reg.sysAccessReject

/-- The remaining slew as BLV_SLEW reads, in whole ns (R275). -/
def Dev.slewLeft (d : Dev) : Word :=
  BitVec.ofInt 32 (if 0 ≤ d.blv.slew then d.blv.slew / 2 ^ 32 else -((-d.blv.slew) / 2 ^ 32))

/-- A write of BLV_SRC_CFG (R273): a source whose type or ARG changes has to become valid anew. -/
def Dev.srcCfgWrite (d : Dev) (v : Word) : Dev :=
  let pri := fieldOf v 0 9 != d.fld Reg.blvSrcCfg 0 9
  let sec := fieldOf v 9 9 != d.fld Reg.blvSrcCfg 9 9
  let d := d.wr Reg.blvSrcCfg v
  let d := d.onBlv fun b => { b with priOk := b.priOk && !pri, secOk := b.secOk && !sec }
  d.useSource d.wantSource

/-- A BLV block reset leaves VT running: the servo is FREE, every slot is disarmed and the FIFOs are empty (R240). -/
def Dev.blvClear (d : Dev) : Dev :=
  d.onBlv fun b => { vt := b.vt, acc := b.acc, ctrFault := b.ctrFault, ctrInvalid := b.ctrInvalid, nextId := b.nextId,
                     trimIn := b.trimIn, trimOut := b.trimOut, everLocked := b.everLocked }

/-! ### Dispatch and the end of events -/

/-- LEAD in ns, with its floor of GUARD + 500 ns (R258, R274). -/
def Dev.lead (d : Dev) : Nat :=
  max (max 5 (d.fld Reg.blvSchedCfg 0 8) * 100) (max 5 (d.fld Reg.blvSchedCfg 8 8) * 10 + 500)

/-- A timed access aims at an L-bus zone of this device (R258). -/
def Dev.zoneEvent (d : Dev) (img : Nat) : Bool :=
  match d.route (slotGa img) (slotSize img) with
  | .ok (.zone _) => true
  | _ => false

/-- The dispatch instant of an event: LEAD before it is due, or the due time for an ordinary timed access (R258). -/
def Dev.dispatchAt (d : Dev) (img n : Nat) : Nat :=
  if (slotAction img = 2 ∨ slotAction img = 3) ∧ !d.zoneEvent img then dueOf img n else dueOf img n - d.lead

/-- The armed slot whose next event is dispatched now: the earliest due, then the lowest slot (R258, R261). -/
def Dev.nextDispatch (d : Dev) : Option ArmedSlot :=
  let ready := d.blv.armed.filter fun a =>
    let img := d.slotImg a.slot
    (match eventsOf img with | some t => decide (a.next < t) | none => true) && decide (d.dispatchAt img a.next ≤ d.blv.vt)
  ready.foldl (fun best a =>
    match best with
    | none => some a
    | some b =>
      let da := dueOf (d.slotImg a.slot) a.next
      let db := dueOf (d.slotImg b.slot) b.next
      if da < db ∨ (da = db ∧ a.slot < b.slot) then some a else some b) none

/-- The scheduler runs: EN = 1 outside the safe state (R274, R434). -/
def Dev.schedOn (d : Dev) : Bool := d.flag Reg.blvSchedCfg 16 && !d.dep.safe

/-- An event that the ACTIVE twin has reported executed is not kept by its STANDBY twin (R249, R440). -/
def Dev.dispatch (d : Dev) (a : ArmedSlot) : Dev :=
  let img := d.slotImg a.slot
  let e : BlvEvent := { slot := a.slot, img := img, n := a.next, due := dueOf img a.next, ref := a.ref, id := d.blv.nextId }
  let d := d.onBlv fun b => { b with nextId := b.nextId + 1,
                                     armed := b.armed.map fun x => if x.slot = a.slot then { x with next := a.next + 1 } else x }
  if d.standby ∧ slotAction img ≠ 1 ∧ d.twin.executed.contains (a.slot, a.next) then
    ((d.onTwin fun t => { t with executed := t.executed.filter (· != (a.slot, a.next)) }).slotRef a.slot e.id).slotDone a.slot
  else d.onBlv fun b => { b with events := b.events ++ [e] }

/-- An event ends (R254, R260): it is forgotten, the next event of its slot has its reference instant, and a slot after its last event
disarms. -/
def Dev.endEvent (d : Dev) (e : BlvEvent) : Dev :=
  ((d.onBlv fun b => { b with events := b.events.filter fun x => x.id != e.id }).slotRef e.slot e.id).slotDone e.slot

/-- The record of an ended event where R262 asks for one, its counter, and its EXECUTED record for the twin (R440). -/
def Dev.recordEvent (d : Dev) (e : BlvEvent) (type err vt data : Nat) (late : Int) : Dev :=
  let d : Dev := match type with
    | 1 => d.bump Reg.blvLateCount
    | 2 => d.bump Reg.blvDropCount
    | 5 => d.bump Reg.blvNotReady
    | _ => d
  let d := if e.img.testBit 111 ∨ slotAction e.img = 3 ∨ type ≠ 0 then d.pushResult vt e.slot type err e.n data late 0 else d
  let d := if slotAction e.img = 1 then d
    else d.sendRec 6 (leBytes 2 e.slot ++ leBytes 2 0 ++ leBytes 4 e.n ++ leBytes 1 type)
  d.endEvent e

/-- A late event is dropped under its policy (R259). -/
def BlvEvent.dropLate (e : BlvEvent) (late : Int) : Bool := e.img.testBit 107 && decide ((slotTol e.img : Int) < late)

/-- The result type of a performed event: DONE, or LATE_DONE beyond TOL (R259, R262). -/
def BlvEvent.doneType (e : BlvEvent) (late : Int) : Nat := if (slotTol e.img : Int) < late then 1 else 0

/-- The earliest due event the predicate names, then the lowest slot (R261). -/
def Dev.pickEvent (d : Dev) (p : BlvEvent → Bool) : Option BlvEvent :=
  (d.blv.events.filter p).foldl (fun best e =>
    match best with
    | none => some e
    | some b => if e.due < b.due ∨ (e.due = b.due ∧ e.slot < b.slot) then some e else some b) none

/-- ORDER = 1 holds an event back: the event before it has not ended, or covered posted writes to its end point are not all performed
(R260). -/
def Dev.ordered (d : Dev) (e : BlvEvent) : Bool :=
  e.img.testBit 108 &&
    ((d.blv.events.any fun x => x.slot == e.slot && decide (x.id < e.id)) ||
      ((slotAction e.img == 2 || slotAction e.img == 3) &&
        match d.route (slotGa e.img) (slotSize e.img) with
        | .ok (.zone n) => d.fab.reqs.any fun r => r.posted && decide (r.seq < e.ref) && r.path == .h2l && r.tgt == .zone n
        | .ok t => d.fab.reqs.any fun r => r.posted && decide (r.seq < e.ref) && endPoint r.tgt r.ga == endPoint t (slotGa e.img)
        | .error _ => false))

/-! ### Triggers -/

/-- The pulse generator of a TIO pin. -/
def Dev.tioPin (d : Dev) (k : Nat) : TioPin := d.blv.pins.getD k {}

/-- The device with a pin changed. -/
def Dev.updTio (d : Dev) (k : Nat) (f : TioPin → TioPin) : Dev := d.onBlv fun b => { b with pins := b.pins.modify k f }

/-- DELAY, in 0.125 ns, plus a trim of a pin, in 1/16 ns; the sum in units of 1/16 ns (R268, R270, R489). -/
def Dev.tioShift (d : Dev) (k : Nat) (trim : Sparse 32) : Int :=
  2 * (BitVec.ofNat 16 (d.fld (Reg.blvTioCfg + 4 * k) 8 16)).toInt + (cellGet trim k).toInt

/-- An output edge at a VT: driven unless the outputs are silent, earlier by the pin's delays (R249, R263, R270, R434); the output's time is
in units of 1/16 ns. -/
def Dev.driveTio (d : Dev) (k : Nat) (level : Bool) (vt : Nat) : Dev :=
  let d := d.updTio k fun p => { p with level := level, lastEdge := some vt }
  if d.live then d.emit (.tio k level ((16 * vt : Int) - d.tioShift k d.blv.trimOut).toNat) else d

/-- The level and the return edge a trigger sets on a pin (R263). -/
def trigger (img vt : Nat) (level : Bool) : Bool × Option (Nat × Bool) :=
  let w := max 8 (min 1000000000 (bitsOf img 160 32))
  match bitsOf img 152 3 with
  | 0 => (true, some (vt + w, false))
  | 1 => (false, some (vt + w, true))
  | 2 => (true, none)
  | 3 => (false, none)
  | _ => (!level, none)

/-- The edges of one pin due in one nanosecond act as one (R261, R263): each event is judged for lateness, performed in slot order, dropped or
not ready, and the pin takes the level of the last. -/
def Dev.fireTriggers (d : Dev) (k vt : Nat) (evs : List BlvEvent) : Dev :=
  let before := (d.tioPin k).level
  let d := evs.foldl (fun d e =>
    let late := (vt : Int) - e.due
    if d.fld (Reg.blvTioCfg + 4 * k) 0 3 ≠ 1 then d.recordEvent e 5 0 vt 0 late
    else if e.dropLate late then d.recordEvent e 2 0 e.due 0 late
    else
      let t := trigger e.img vt (d.tioPin k).level
      (d.updTio k fun p => { p with level := t.1, returnAt := t.2 }).recordEvent e (e.doneType late) 0 vt 0 late) d
  if (d.tioPin k).level = before then d else d.driveTio k (d.tioPin k).level vt

/-- Events in slot order. -/
def bySlot (l : List BlvEvent) : List BlvEvent :=
  l.foldl (fun acc e => acc.takeWhile (fun x => x.slot ≤ e.slot) ++ [e] ++ acc.dropWhile (fun x => x.slot ≤ e.slot)) []

/-- The earliest due TRIGGER executes, with every other of its pin and nanosecond; an edge less than 8 ns after the pin's last one moves to
8 ns after it (R263). -/
def Dev.runTriggers (d : Dev) : Dev :=
  match d.pickEvent fun e => slotAction e.img == 1 && decide (e.due ≤ d.blv.vt) && !d.ordered e with
  | none => d
  | some e =>
    let k := bitsOf e.img 144 6
    let evs := bySlot (d.blv.events.filter fun x => slotAction x.img == 1 && x.due == e.due && bitsOf x.img 144 6 == k && !d.ordered x)
    let vt := match (d.tioPin k).lastEdge with
      | some l => if l < d.blv.vt ∧ d.blv.vt < l + 8 then l + 8 else d.blv.vt
      | none => d.blv.vt
    d.fireTriggers k vt evs

/-- A pulse's return edge falls due (R263). -/
def Dev.pulseReturn (d : Dev) (k : Nat) : Dev :=
  match (d.tioPin k).returnAt with
  | some (t, level) =>
    if t ≤ d.blv.vt then
      let old := (d.tioPin k).level
      let d := d.updTio k fun p => { p with returnAt := none }
      if old = level then d else d.driveTio k level d.blv.vt
    else d
  | none => d

/-- A write of BLV_TIOn_CFG (R267, R276): a pin that enters OUT is driven to IDLE, one that leaves it forgets its edges. -/
def Dev.tioCfgWrite (d : Dev) (k : Nat) (v : Word) : Dev :=
  let off := Reg.blvTioCfg + 4 * k
  let was := d.fld off 0 3
  let d := d.wr off v
  if fieldOf v 0 3 = 1 ∧ was ≠ 1 then
    (d.updTio k fun p => { p with returnAt := none }).driveTio k (fieldOf v 3 1 == 1) d.blv.vt
  else if was = 1 ∧ fieldOf v 0 3 ≠ 1 then d.updTio k fun p => { p with level := false, lastEdge := none, returnAt := none }
  else d

/-! ### Timed accesses and CAN releases -/

/-- The request of a timed access (R264). -/
def Dev.timedReq (d : Dev) (e : BlvEvent) : Req :=
  let size := slotSize e.img
  let write := slotAction e.img == 2
  { seq := 0, agent := 62, ident := 62, orig := d.devid, ing := .blvt e.slot, op := if write then .write else .read, posted := false,
    ga := slotGa e.img, len := size, data := if write then allOn (leBytes size (bitsOf e.img 192 64)) else [],
    otag := e.id, ts := if d.zoneEvent e.img then e.due % 2 ^ 40 else d.stamp }

/-- The open request of a timed access. -/
def Dev.timedReq? (d : Dev) (e : BlvEvent) : Option Req := d.fab.reqs.find? fun r => r.agent == 62 && r.otag == e.id

/-- A timed access that does not take the bus after all gives up its guard window (R138). -/
def Dev.endGuard (d : Dev) (e : BlvEvent) : Dev := if d.zoneEvent e.img then d.onLbu fun l => { l with guard := false } else d

/-- A timed access is dropped late (R259). -/
def Dev.dropTimed (d : Dev) (e : BlvEvent) (late : Int) : Dev := (d.endGuard e).recordEvent e 2 0 e.due 0 late

/-- What holds a timed access at its ingress: a semaphore slot, or no TT entry (R25, R233). -/
def Dev.timedHeld (d : Dev) (e : BlvEvent) : Bool := (d.holdReason (d.timedReq e) d.fab.held).isSome

/-- A timed access starts (R264): at an L-bus zone its address phase, with a burst the Orangery was driving set aside (R138); elsewhere as
an ordinary request. -/
def Dev.startTimed (d : Dev) (e : BlvEvent) : Dev :=
  let late := (d.blv.vt : Int) - e.due
  if e.dropLate late then d.dropTimed e late
  else
    let d := d.onBlv fun b => { b with events := b.events.map fun x =>
      if x.id = e.id then { x with issued := true, execVt := d.blv.vt, late := late } else x }
    let d := d.issue (d.timedReq e)
    match d.timedReq? e with
    | some r =>
      if (match r.tgt with | .zone _ => true | _ => false) && r.st == .ready && d.busRuns then
        let d : Dev := match d.lbu.job with
          | some j => d.onLbu fun l => { l with job := none, retried := { j with paused := false } :: l.retried }
          | none => d
        d.zoneStart r
      else if r.st = .ended then d.endGuard e
      else d
    | none => d

/-- The unit of a timed access can begin it now: the Orangery holds the bus and drives no cycle, or cannot run at all (R138, R265). -/
def Dev.timedUnit (d : Dev) (e : BlvEvent) : Bool :=
  !d.zoneEvent e.img || !d.busRuns ||
    (d.lbu.owner == .orangery && d.lbu.locked.isNone && (match d.lbu.job with | some j => j.paused && !j.locked | none => true))

/-- A timed access that is due executes, is dropped late, or goes on waiting for its unit, its order or its ingress (R233, R259, R260, R264). What
it waits for at its ingress may need the bus, so its guard window does not go on meanwhile. A STANDBY twin performs none (R249). -/
def Dev.runTimed (d : Dev) (action : Nat) : Dev :=
  if !d.live then d
  else
    match d.pickEvent fun e => slotAction e.img == action && !e.issued && decide (e.due ≤ d.blv.vt) with
    | none => d
    | some e =>
      let late := (d.blv.vt : Int) - e.due
      if d.ordered e || d.timedHeld e then (if e.dropLate late then d.dropTimed e late else d.endGuard e)
      else if !d.timedUnit e then (if e.dropLate late then d.dropTimed e late else d)
      else d.startTimed e

/-- A CAN release (R266, R337, R338): the loaded, idle timed buffer becomes pending, or the event is NOT_READY. -/
def Dev.runCan (d : Dev) : Dev :=
  if !d.live then d
  else
    match d.pickEvent fun e => slotAction e.img == 4 && decide (e.due ≤ d.blv.vt) && !d.ordered e with
    | none => d
    | some e =>
      let late := (d.blv.vt : Int) - e.due
      if e.dropLate late then d.recordEvent e 2 0 e.due 0 late
      else
        let pav := bitsOf e.img 144 3
        let c := bitsOf e.img 147 4
        let ch := 8 * pav + c
        let buf := bitsOf e.img 152 5
        let timed := (d.rd (Reg.pavCanTxtimed + 0x10000 * pav + 0x80 * c)).getLsbD buf
        let ready := match (d.can.getD ch {}).bufs.find? fun x => x.1 == buf with
          | some x => timed && !x.2.pending && !(d.can.getD ch {}).busOff
          | none => false
        if ready then
          let release := fun (y : Nat × CanBuf) => if y.1 = buf then (y.1, { y.2 with pending := true }) else y
          let d := { d with can := d.can.modify ch fun x => { x with bufs := x.bufs.map release } }
          d.recordEvent e (e.doneType late) 0 d.blv.vt 0 late
        else d.recordEvent e 5 0 d.blv.vt 0 late

/-- The oldest ended timed access is recorded (R262, R264). -/
def Dev.timedComplete (d : Dev) : Dev :=
  match d.fab.reqs.find? fun r => r.agent == 62 && !r.posted && r.st == .ended with
  | none => d
  | some r =>
    let d := d.dropReq r.seq
    let d : Dev := match d.blv.events.find? fun e => e.id == r.otag with
      | none => d
      | some e =>
        match r.status with
        | some t => d.recordEvent e 4 (errCode t) e.execVt (if slotAction e.img = 3 then 2 ^ 64 - 1 else 0) e.late
        | none => d.recordEvent e (e.doneType e.late) 0 e.execVt (if slotAction e.img = 3 then leNat r.rdata else 0) e.late
    d.retryHeld

/-! ### Captures -/

/-- The stamp of an edge at a pin: earlier by its input trim and its DELAY (R268, R270). -/
def Dev.captureVt (d : Dev) (k : Nat) : Nat := (((16 * d.blv.vt : Int) - d.tioShift k d.blv.trimIn) / 16).toNat

/-- A pin captures an edge (R268): edges come at least 8 ns apart; a full FIFO loses the record and marks the pin's next. -/
def Dev.capture (d : Dev) (k : Nat) (falling : Bool) : Dev :=
  let p := d.tioPin k
  let v := d.captureVt k
  if (match p.lastCap with | some l => decide (d.blv.vt < l + 8) | none => false) then d
  else
    let now := d.blv.vt
    if 512 ≤ d.blv.caps.length then (d.updTio k fun p => { p with lastCap := some now, ovr := true }).bump Reg.blvCapOvf
    else
      (d.updTio k fun p => { p with lastCap := some now, ovr := false }).onBlv fun b =>
        { b with caps := b.caps ++ [leBytes 8 v ++ leBytes 1 (k + 64 * b2n falling + 128 * b2n p.ovr) ++ leBytes 7 0] }

/-- A pin's mode and EDGE select an edge for capture (R267, R276). -/
def Dev.captures (d : Dev) (k : Nat) (falling : Bool) : Bool :=
  let off := Reg.blvTioCfg + 4 * k
  match d.fld off 0 3 with
  | 2 => (d.rd off).getLsbD (if falling then 5 else 4)
  | 3 => !falling
  | _ => false

/-! ### PPS and Itmos time -/

/-- The offset of a PPS edge in ns (R253): from the edge's VT to the nearest VT whose second has phase PHASE. -/
def ppsOffset (v phase : Nat) : Int :=
  let p := if phase ≤ 999999999 then phase else 0
  let m := (p + 1000000000 - v % 1000000000) % 1000000000
  if m ≤ 500000000 then (m : Int) else (m : Int) - 1000000000

/-- SYNC of a parent (R181, R182). -/
def Dev.sendSync (d : Dev) (n : Nat) : Dev :=
  if d.timeOn n && d.timeParent n then
    let seq := (d.link n).timeSeq
    let gm := match d.blv.use with
      | some s => if d.srcType s = 2 then d.blv.gm else Config.gmIdentity d.devid (d.srcType s)
      | none => Config.gmIdentity d.devid 0
    (d.emit (.sync n seq d.vtStamp (d.appliedRate % 2 ^ 32).toNat d.sourceCode d.timeSteps gm)).onLink n fun l =>
      { l with timeSeq := (seq + 1) % 65536 }
  else d

/-- The delay applied to SYNC, in units of 2^-16 ns: the mean delay plus ASYM (R182, R188). -/
def Dev.syncDelay (d : Dev) (n : Nat) : Int :=
  meanDelay (d.link n).delays + (BitVec.ofNat 16 (d.fld (itmReg Reg.itmTimeCfg n) 16 16)).toInt * 65536 / 10

/-- A SYNC of the source link gives one update (R252). -/
def Dev.syncUpdate (d : Dev) (n tx steps gm : Nat) : Dev :=
  match d.blv.use with
  | some s =>
    if d.srcLink s = some n ∧ d.srcType s = 2 then
      let off : Int := (tx : Int) + d.syncDelay n - d.vtStamp
      (d.onBlv fun b => { b with steps := (steps + 1) % 256, gm := gm }).servoUpdate off
    else d
  | none => d

/-! ### Meanings -/

/-- TIME_SYNC_SEND (R182). -/
def execTimeSyncSend (n : Fin 5) (s : State) : Host.Outcome State Fault Refusal := s.act fun d => d.sendSync n.val

/-- TIME_SYNC (R252): TX_TS in units of 2^-16 ns. The RATE it carries goes into the loop, whose result is a free value. -/
def execTimeSync (n : Fin 5) (_seqid tx : Nat) (_rate : Int) (_source steps gm : Nat) (s : State) : Host.Outcome State Fault Refusal :=
  s.act fun d => if d.timeOn n.val && d.timeChild n.val then d.syncUpdate n.val tx steps gm else d

/-- COUNTER_MISMATCH (R241): VT is the first counter; the second and the check counter read as given. A counter more than 80 ns from the
check counter is reloaded from the other; with both or neither out VT_VALID drops. -/
def execCounterMismatch (second check : Nat) (s : State) : Host.Outcome State Fault Refusal :=
  s.act fun d =>
    let far := fun (x : Nat) => decide (x + 80 < check) || decide (check + 80 < x)
    let d := (d.onBlv fun b => { b with ctrFault := true }).bump Reg.blvCtrMismatch
    match far d.blv.vt, far second with
    | true, false => d.onBlv fun b => { b with vt := second % 2 ^ 64, ctrInvalid := false }
    | false, true => d.onBlv fun b => { b with ctrInvalid := false }
    | _, _ => d.onBlv fun b => { b with ctrInvalid := true }

/-- SOURCE_VALID (R243, R244). -/
def execSourceValid (src : BlvSource) (s : State) : Host.Outcome State Fault Refusal :=
  s.act fun d => if d.srcHolds src then d.setSource src true else d

/-- SOURCE_INVALID (R243, R244). -/
def execSourceInvalid (src : BlvSource) (s : State) : Host.Outcome State Fault Refusal := s.act fun d => d.setSource src false

/-- REVERT_HOLD_EXPIRY (R243): with REVERT = 1 the valid primary becomes the source again. -/
def execRevertHoldExpiry (s : State) : Host.Outcome State Fault Refusal :=
  s.act fun d =>
    if d.flag Reg.blvSrcCfg 18 ∧ d.blv.use = some .secondary ∧ d.blv.priOk then d.useSource (some .primary) else d

/-- HOLDOVER_LIMIT (R244): 10 s in HOLDOVER. -/
def execHoldoverLimit (s : State) : Host.Outcome State Fault Refusal :=
  s.act fun d => if d.blv.servo = .holdover then d.onBlv fun b => { b with holdExc := true } else d

/-- PPS_EDGE (R253, R267): an update where the pin is the source in use, and a capture. -/
def execPpsEdge (pin : Fin 48) (s : State) : Host.Outcome State Fault Refusal :=
  s.act fun d =>
    if d.fld (Reg.blvTioCfg + 4 * pin.val) 0 3 ≠ 3 then d
    else
      let v := d.captureVt pin.val
      let d := d.capture pin.val false
      match d.blv.use with
      | some src =>
        if d.srcType src = 3 ∧ d.srcArg src = pin.val then d.servoUpdate (ppsOffset v (d.fld Reg.blvPpsCfg 0 30) * 65536) else d
      | none => d

/-- RATE_WRITE (R246). -/
def execRateWrite (v : Word) (s : State) : Host.Outcome State Fault Refusal := s.act fun d => d.rateWrite v

/-- SLEW_WRITE (R246). -/
def execSlewWrite (v : Word) (s : State) : Host.Outcome State Fault Refusal := s.act fun d => d.slewWrite v

/-- VT_STEP (R247): GO is written with ABS and FORCE. -/
def execVtStep (abs force : Bool) (s : State) : Host.Outcome State Fault Refusal :=
  s.act fun d => d.stepCtlWrite (BitVec.ofNat 32 (1 + 2 * b2n abs + 4 * b2n force))

/-- SLOT_WRITE (R254): word `w` of a slot, under its byte enables. -/
def execSlotWrite (slot : Fin 4096) (w : Fin 8) (v : Word) (be : BitVec 4) (s : State) : Host.Outcome State Fault Refusal :=
  s.act fun d =>
    let off := 0x84_0000 + 32 * slot.val + 4 * w.val
    d.slotWrite off (mergeWord (d.rd off) v be)

/-- SLOT_ARM (R254). -/
def execSlotArm (slot : Fin 4096) (s : State) : Host.Outcome State Fault Refusal :=
  s.act fun d => d.armWrite (BitVec.ofNat 32 (0x1000 + slot.val))

/-- SLOT_DISARM (R254). -/
def execSlotDisarm (slot : Fin 4096) (s : State) : Host.Outcome State Fault Refusal :=
  s.act fun d => d.armWrite (BitVec.ofNat 32 (0x2000 + slot.val))

/-- SCHEDULER_ENABLE (R259). -/
def execSchedulerEnable (s : State) : Host.Outcome State Fault Refusal := s.act fun d => d.enableSched

/-- EVENT_DISPATCH (R258). -/
def execEventDispatch (s : State) : Host.Outcome State Fault Refusal :=
  s.act fun d =>
    if !d.schedOn then d
    else
      match d.nextDispatch with
      | some a => d.dispatch a
      | none => d

/-- TRIGGER_EXECUTE (R263). -/
def execTriggerExecute (s : State) : Host.Outcome State Fault Refusal := s.act fun d => if d.dep.safe then d else d.runTriggers

/-- PULSE_RETURN (R263). -/
def execPulseReturn (pin : Fin 48) (s : State) : Host.Outcome State Fault Refusal := s.act fun d => d.pulseReturn pin.val

/-- TIMED_WRITE_EXECUTE (R264). -/
def execTimedWriteExecute (s : State) : Host.Outcome State Fault Refusal := s.act fun d => d.runTimed 2

/-- TIMED_READ_EXECUTE (R264). -/
def execTimedReadExecute (s : State) : Host.Outcome State Fault Refusal := s.act fun d => d.runTimed 3

/-- CAN_RELEASE_EXECUTE (R266). -/
def execCanReleaseExecute (s : State) : Host.Outcome State Fault Refusal := s.act fun d => d.runCan

/-- TIMED_ACCESS_COMPLETE (R264). -/
def execTimedAccessComplete (s : State) : Host.Outcome State Fault Refusal := s.act fun d => d.timedComplete

/-- TIO_CAPTURE (R268). -/
def execTioCapture (pin : Fin 48) (falling : Bool) (s : State) : Host.Outcome State Fault Refusal :=
  s.act fun d => if d.captures pin.val falling then d.capture pin.val falling else d

/-- RESULT_POP (R276). -/
def execResultPop (s : State) : Host.Outcome State Fault Refusal := s.act fun d => d.onBlv fun b => { b with res := b.res.drop 1 }

/-- CAPTURE_POP (R276). -/
def execCapturePop (s : State) : Host.Outcome State Fault Refusal := s.act fun d => d.onBlv fun b => { b with caps := b.caps.drop 1 }

/-- TXTS_POP (R276). -/
def execTxtsPop (s : State) : Host.Outcome State Fault Refusal := s.act fun d => d.onBlv fun b => { b with txts := b.txts.drop 1 }

end Sys2Proof.Machine
end

