-- ==== Sys2Proof/Machine/Crypto.lean ====
section
/-!
DEFINITION. The cryptographic functions the Gatehouse uses, as their standards define them: AES (FIPS 197), CMAC (NIST SP 800-38B, R400),
key wrap (NIST SP 800-38F KW, R408) and GCM (NIST SP 800-38D, R410). Blocks are lists of 16 bytes, or 128-bit numbers, first byte highest.
-/
namespace Sys2Proof.Machine

/-- The AES S-box, 32 bytes a row, lowest index lowest. -/
def aesSbox : List Nat := [
  0xC072A49CAFA2D4ADF04759FA7DC982CA76ABD7FE2B670130C56F6BF27B777C63,
  0x75B227EBE28012079A059618C323C7041531D871F1E5A534CCF73F362693FDB7,
  0xCF584C4A39BECB6A5BB1FC20ED00D153842FE329B3D63B52A05A6E1B1A2C8309,
  0xD2F3FF1021DAB6BCF5389D928F40A351A89F3C507F02F94585334D43FBAAEFD0,
  0xDB0B5EDE14B8EE4688902A22DC4F816073195D643D7EA7C41744975FEC130CCD,
  0x08AE7A65EAF4566CA94ED58D6D37C8E779E4959162ACD3C25C2406490A3A32E0,
  0x9E1DC186B95735610EF6034866B53E708A8BBD4B1F74DDE8C6B4A61C2E2578BA,
  0x16BB54B00F2D99416842E6BF0D89A18CDF2855CEE9871E9B948ED9691198F8E1]

/-- The inverse S-box. -/
def aesInvSbox : List Nat := [
  0xCBE9DEC444438E3487FF2F9B8239E37CFBD7F3819EA340BF38A53630D56A0952,
  0x25D18B6D49A25B76B224D92866A12E084EC3FA420B954CEE3D23C2A632947B54,
  0x849D8DA75746155EDAB9EDFD5048706C92B6655DCC5CA4D41698688664F6F872,
  0x6B8A130103BDAFC1020F3FCA8F1E2CD00645B3B80558E4F70AD3BC8C00ABD890,
  0x6EDF751CE837F9E28535ADE72274AC9673E6B4F0CECFF297EADC674F4111913A,
  0xF45ACD78FEC0DB9A2079D2C64B3E56FC1BBE18AA0E62B76F89C5291D711AF147,
  0xEF9CC9939F7AE52D0D4AB519A97F51605FEC8027591012B131C7078833A8DD1F,
  0x7D0C2155631469E126D677BA7E042B17619953833CBBEBC8B0F52AAE4D3BE0A0]

/-- A table byte. -/
def tableByte (t : List Nat) (i : Nat) : Nat := bitsOf (t.getD (i / 32) 0) (8 * (i % 32)) 8

/-- Multiplication by x in GF(2^8). -/
def gfDouble (b : Nat) : Nat := if 2 * b < 256 then 2 * b else (2 * b) ^^^ 0x11B

/-- Multiplication in GF(2^8) by a factor below 16. -/
def gfMul (k b : Nat) : Nat :=
  (if k.testBit 0 then b else 0) ^^^ (if k.testBit 1 then gfDouble b else 0) ^^^
    (if k.testBit 2 then gfDouble (gfDouble b) else 0) ^^^ (if k.testBit 3 then gfDouble (gfDouble (gfDouble b)) else 0)

/-- Bytewise exclusive or. -/
def xorBytes (a b : List Nat) : List Nat := List.zipWith (· ^^^ ·) a b

/-- MixColumns or its inverse, by the first row of its matrix. -/
def mixColumns (row : List Nat) (s : List Nat) : List Nat :=
  (List.range 16).map fun i =>
    (List.range 4).foldl (fun acc j => acc ^^^ gfMul (row.getD ((j + 4 - i % 4) % 4) 0) (s.getD (i / 4 * 4 + j) 0)) 0

/-- ShiftRows, or its inverse with `k = 3`. -/
def shiftRows (k : Nat) (s : List Nat) : List Nat := (List.range 16).map fun i => s.getD ((i + 4 * k * (i % 4)) % 16) 0

/-- The expanded key, newest word first; `n` words are still to come and `i` is the next one's index. -/
def expandWords (nk : Nat) : Nat → Nat → Nat → List (List Nat) → List (List Nat)
  | 0, _, _, ws => ws
  | n + 1, i, rcon, ws =>
    let prev := ws.headD []
    let sub := prev.map (tableByte aesSbox)
    let t := if i % nk = 0 then xorBytes ((sub.drop 1) ++ sub.take 1) [rcon, 0, 0, 0] else if nk = 8 ∧ i % 8 = 4 then sub else prev
    expandWords nk n (i + 1) (if i % nk = 0 then gfDouble rcon else rcon) (xorBytes (ws.getD (nk - 1) []) t :: ws)

/-- The round keys of a 16- or 32-byte key. -/
def roundKeys (key : List Nat) : List (List Nat) :=
  let nk := key.length / 4
  let first := (List.range nk).map fun i => (key.drop (4 * i)).take 4
  let ws := (expandWords nk (4 * (nk + 7) - nk) nk 1 first.reverse).reverse
  (List.range (nk + 7)).map fun r => ((ws.drop (4 * r)).take 4).flatten

/-- One AES block enciphered under round keys. -/
def aesRounds : List (List Nat) → List Nat → List Nat
  | [], s => s
  | [k], s => xorBytes k (shiftRows 1 (s.map (tableByte aesSbox)))
  | k :: t, s => aesRounds t (xorBytes k (mixColumns [2, 3, 1, 1] (shiftRows 1 (s.map (tableByte aesSbox)))))

/-- AES encipher. -/
def aesEnc (key block : List Nat) : List Nat :=
  match roundKeys key with
  | k :: t => aesRounds t (xorBytes k block)
  | [] => block

/-- The inverse rounds, last round key first. -/
def aesInvRounds : List (List Nat) → List Nat → List Nat
  | [], s => s
  | [k], s => xorBytes k ((shiftRows 3 s).map (tableByte aesInvSbox))
  | k :: t, s => aesInvRounds t (mixColumns [14, 11, 13, 9] (xorBytes k ((shiftRows 3 s).map (tableByte aesInvSbox))))

/-- AES decipher. -/
def aesDec (key block : List Nat) : List Nat :=
  match (roundKeys key).reverse with
  | k :: t => aesInvRounds t (xorBytes k block)
  | [] => block

/-- The number a byte list spells, first byte highest. -/
def beNum (l : List Nat) : Nat := l.foldl (fun acc b => 256 * acc + b) 0

/-- `n` bytes of a number, first byte highest. -/
def beList (n x : Nat) : List Nat := (List.range n).map fun i => bitsOf x (8 * (n - 1 - i)) 8

/-- AES encipher on a 128-bit number. -/
def aesNum (key : List Nat) (x : Nat) : Nat := beNum (aesEnc key (beList 16 x))

/-! ### CMAC -/

/-- Doubling of a CMAC subkey. -/
def cmacDouble (x : Nat) : Nat := if x < 2 ^ 127 then 2 * x else (2 * x % 2 ^ 128) ^^^ 0x87

/-- The CMAC chain over the message's blocks; the last, complete or padded, is masked with a subkey. -/
def cmacChain (key : List Nat) (k1 k2 : Nat) : Nat → Nat → List Nat → Nat
  | 0, x, _ => x
  | n + 1, x, m =>
    if 16 < m.length then cmacChain key k1 k2 n (aesNum key (x ^^^ beNum (m.take 16))) (m.drop 16)
    else if m.length = 16 then aesNum key (x ^^^ beNum m ^^^ k1)
    else aesNum key (x ^^^ beNum (m ++ 0x80 :: List.replicate (15 - m.length) 0) ^^^ k2)

/-- AES-CMAC as a 128-bit number (R400). -/
def cmac (key m : List Nat) : Nat :=
  let k1 := cmacDouble (aesNum key 0)
  cmacChain key k1 (cmacDouble k1) (m.length / 16 + 1) 0 m

/-! ### Key wrap -/

/-- One pass of the wrap over 64-bit blocks: the register, the counter and the blocks. -/
def kwPass (key : List Nat) : Nat → Nat → List Nat → Nat × Nat × List Nat
  | a, t, [] => (a, t, [])
  | a, t, r :: rs =>
    let b := aesNum key (a * 2 ^ 64 + r)
    let rest := kwPass key (b / 2 ^ 64 ^^^ t) (t + 1) rs
    (rest.1, rest.2.1, b % 2 ^ 64 :: rest.2.2)

/-- SP 800-38F KW-AE: the wrapped blocks, the integrity block first (R408). -/
def kwWrap (key blocks : List Nat) : List Nat :=
  let x := (List.range 6).foldl (fun (s : Nat × Nat × List Nat) _ => kwPass key s.1 s.2.1 s.2.2) (0xA6A6A6A6A6A6A6A6, 1, blocks)
  x.1 :: x.2.2

/-- One inverse pass, over the blocks last first. -/
def kwUnpass (key : List Nat) : Nat → Nat → List Nat → Nat × Nat × List Nat
  | a, t, [] => (a, t, [])
  | a, t, r :: rs =>
    let b := beNum (aesDec key (beList 16 ((a ^^^ t) * 2 ^ 64 + r)))
    let rest := kwUnpass key (b / 2 ^ 64) (t - 1) rs
    (rest.1, rest.2.1, b % 2 ^ 64 :: rest.2.2)

/-- SP 800-38F KW-AD: the blocks, where the integrity check passes. -/
def kwUnwrap (key : List Nat) : List Nat → Option (List Nat)
  | [] => none
  | a :: rs =>
    let x := (List.range 6).foldl (fun (s : Nat × Nat × List Nat) _ => kwUnpass key s.1 s.2.1 s.2.2) (a, 6 * rs.length, rs.reverse)
    if x.1 = 0xA6A6A6A6A6A6A6A6 then some x.2.2.reverse else none

/-! ### GCM -/

/-- Multiplication in GCM's field: `n` bits of `x` are left, highest first. -/
def ghashMul (x : Nat) : Nat → Nat → Nat → Nat
  | 0, _, z => z
  | n + 1, v, z =>
    ghashMul x n (if v % 2 = 1 then (v / 2) ^^^ (0xE1 * 2 ^ 120) else v / 2) (if x.testBit n then z ^^^ v else z)

/-- GHASH over a byte list padded to whole blocks. -/
def ghash (h : Nat) : Nat → Nat → List Nat → Nat
  | 0, y, _ => y
  | n + 1, y, m =>
    let b := m.take 16
    ghash h n (ghashMul (y ^^^ beNum (b ++ List.replicate (16 - b.length) 0)) 128 h 0) (m.drop 16)

/-- GCTR: the text under the key stream that starts with counter block `j + 1`. -/
def gctr (key : List Nat) (j : Nat) (m : List Nat) : List Nat :=
  ((List.range ((m.length + 15) / 16)).map fun i =>
    let b := (m.drop (16 * i)).take 16
    xorBytes b (beList 16 (aesNum key (j / 2 ^ 32 * 2 ^ 32 + (j + 1 + i) % 2 ^ 32)))).flatten

/-- The GCM tag of ciphertext and additional data under a 96-bit IV. -/
def gcmTag (key : List Nat) (iv : Nat) (aad ct : List Nat) : Nat :=
  let h := aesNum key 0
  let y := ghash h ((aad.length + 15) / 16) 0 aad
  let y := ghash h ((ct.length + 15) / 16) y ct
  let y := ghash h 1 y (beList 8 (8 * aad.length) ++ beList 8 (8 * ct.length))
  y ^^^ aesNum key (iv * 2 ^ 32 + 1)

/-- The bytes of a list as numbers. -/
def natBytes (l : List Byte) : List Nat := l.map (·.toNat)

/-- Numbers below 256 as bytes. -/
def byteNats (l : List Nat) : List Byte := l.map (BitVec.ofNat 8 ·)

end Sys2Proof.Machine
end

