-- ==== Sys2Proof/Machine/Interrupts.lean ====
section
/-!
DEFINITION. The INT block's register operations: popping the error log (R285), end of interrupt (R294) and the routing entries (R293, R296).
-/
namespace Sys2Proof.Machine

/-- A pop of the log (R285): the head goes only when the value is its SEQ; any other pop counts in INT_EL_POP_MISS. -/
def Dev.elPop (d : Dev) (seq : Nat) : Dev :=
  match d.elog.entries with
  | e :: t => if e.seq = seq then { d with elog := { d.elog with entries := t } } else d.bump Reg.intElPopMiss
  | [] => d.bump Reg.intElPopMiss

/-- A write of INT_EOI (R294): a further message when the vector's level is 1. -/
def Dev.eoi (d : Dev) (v : Nat) : Dev := if d.vecsHigh.contains v then d.sendVec v else d

/-- The value a masked write leaves: bits [31:16] select which of [15:0] change (R39). -/
def maskedValue (old v mask : Word) : Word :=
  let sel := (v >>> 16) &&& mask &&& 0xFFFF
  (old &&& ~~~sel) ||| (v &&& sel)

/-- A write of a routing entry (R293): one whose DEST is 3, or becomes 3, is the Lodge's alone. -/
def Dev.vectorWrite (d : Dev) (who off : Nat) (v : Word) : Dev :=
  let new := maskedValue (d.rd off) v 0x1FF
  if who ≠ 63 ∧ (d.fld off 6 3 = 3 ∨ fieldOf new 6 3 = 3) then
    d.log { agent := who, orig := d.devid, path := 10, posted := true, write := true } .perm (d.devid * 2 ^ 38 + off) 6
  else d.wr off new

/-- EL_POP (R285). -/
def execElPop (seq : BitVec 16) (s : State) : Host.Outcome State Fault Refusal := s.act fun d => d.elPop seq.toNat

/-- INT_EOI (R294). -/
def execIntEoi (v : Fin 64) (s : State) : Host.Outcome State Fault Refusal := s.act fun d => d.eoi v.val

/-- INT_VECTOR_WRITE (R293): a masked write of the entry of a source, or of a node summary. -/
def execIntVectorWrite (who : Requester) (node : Bool) (i : Fin 256) (v : Word) (s : State) : Host.Outcome State Fault Refusal :=
  s.act fun d => d.vectorWrite who.val (if node then Reg.intNodeMap + 4 * (i.val % 64) else Reg.intVector + 4 * i.val) v

end Sys2Proof.Machine
end

