-- ==== Sys2Proof/Machine/Gazebo.lean ====
section
/-!
DEFINITION. The Gazebo DMA engine: rings (R304–R307), descriptors and their checks (R308–R312), CRC (R314), handback, events and barriers
(R315–R318), runs and stops (R319, R320), halt and restart (R321, R322).
-/
namespace Sys2Proof.Machine

/-! ### Descriptors -/

/-- The device with the Gazebo changed. -/
def Dev.onGzb (d : Dev) (f : Gzb → Gzb) : Dev := { d with gzb := f d.gzb }

/-- Channel `c`. -/
def Dev.chan (d : Dev) (c : Nat) : GzbChan := d.gzb.chans.getD c {}

/-- Fields of a descriptor (R308). -/
def GzbDesc.src (x : GzbDesc) : Nat := bitsOf x.raw 0 48
/-- DST. -/
def GzbDesc.dst (x : GzbDesc) : Nat := bitsOf x.raw 48 48
/-- IDX. -/
def GzbDesc.table (x : GzbDesc) : Nat := bitsOf x.raw 96 48
/-- LENGTH. -/
def GzbDesc.len (x : GzbDesc) : Nat := bitsOf x.raw 144 24
/-- OP. -/
def GzbDesc.op (x : GzbDesc) : Nat := bitsOf x.raw 176 3
/-- MODE. -/
def GzbDesc.mode (x : GzbDesc) : Nat := bitsOf x.raw 179 2
/-- CRC. -/
def GzbDesc.crcSel (x : GzbDesc) : Nat := bitsOf x.raw 181 2
/-- The element size: ESIZE, or the whole length in LINEAR mode (R311). -/
def GzbDesc.esize (x : GzbDesc) : Nat := if x.mode = 0 then x.len else bitsOf x.raw 168 7

/-- A descriptor passes the check of R309. -/
def GzbDesc.checkOk (x : GzbDesc) (alg : Nat) : Bool :=
  let append := x.raw.testBit 183
  let cont := x.raw.testBit 184
  decide (x.op ≤ 3) && decide (x.mode ≤ 2) &&
    (x.mode == 0 || (decide (1 ≤ bitsOf x.raw 168 7) && decide (bitsOf x.raw 168 7 ≤ 64) && x.len % bitsOf x.raw 168 7 == 0 && x.table % 4 == 0)) &&
    !(x.op == 1 && x.mode == 2) &&
    !(append && (x.crcSel == 0 || x.op != 0 || x.mode == 2)) &&
    !(cont && (x.crcSel == 0 || x.crcSel != alg)) &&
    (decide (x.op ≤ 1) || (x.mode == 0 && x.crcSel == 0 &&
      (if x.op = 2 then decide (1 ≤ x.len) && decide (x.len ≤ 64) && x.src / 64 == (x.src + x.len - 1) / 64
       else [1, 2, 4, 8].contains x.len && x.dst % x.len == 0)))

/-! ### CRC (R314) -/

/-- `n` shifts of a reflected CRC register. -/
def crcReflect (poly : Nat) : Nat → Nat → Nat
  | 0, c => c
  | n + 1, c => crcReflect poly n (if c % 2 = 1 then (c / 2) ^^^ poly else c / 2)

/-- `n` shifts of the CRC-16-CCITT register. -/
def crcShift16 : Nat → Nat → Nat
  | 0, c => c
  | n + 1, c => crcShift16 n (if 0x8000 ≤ c then (2 * c % 65536) ^^^ 0x1021 else 2 * c % 65536)

/-- One byte enters a running CRC (R314). -/
def crcByte (alg c : Nat) (b : Byte) : Nat :=
  match alg with
  | 1 => crcReflect 0x82F63B78 8 (c ^^^ b.toNat)
  | 2 => crcReflect 0xEDB88320 8 (c ^^^ b.toNat)
  | 3 => crcShift16 8 (c ^^^ (b.toNat * 256))
  | _ => c

/-- Bytes enter a running CRC. -/
def crcBytes (alg c : Nat) (bs : List Byte) : Nat := bs.foldl (crcByte alg) c

/-- Initial value (R314). -/
def crcInit (alg : Nat) : Nat := match alg with | 1 => 0xFFFFFFFF | 2 => 0xFFFFFFFF | 3 => 0xFFFF | _ => 0

/-- The value after the final XOR (R314). -/
def crcFinal (alg c : Nat) : Nat := match alg with | 1 => c ^^^ 0xFFFFFFFF | 2 => c ^^^ 0xFFFFFFFF | _ => c

/-- The appended bytes (R314). -/
def crcAppendix (alg c : Nat) : List Byte :=
  match alg with
  | 3 => (leBytes 2 (crcFinal alg c)).reverse
  | _ => leBytes 4 (crcFinal alg c)

/-! ### Indices and states -/

/-- The ring size S (R304); SIZE_LOG 0 acts as 1 (R326). -/
def Dev.ringSize (d : Dev) (c : Nat) : Nat := 2 ^ max 1 (d.fld (gzbReg Reg.gzbChCtl c) 4 4)

/-- PI and CI (R305). -/
def Dev.pi (d : Dev) (c : Nat) : Nat := d.fld (gzbReg Reg.gzbChPi c) 0 16
/-- CI. -/
def Dev.ci (d : Dev) (c : Nat) : Nat := d.fld (gzbReg Reg.gzbChCi c) 0 16

/-- The number of engine-owned descriptors (R305). -/
def Dev.owned (d : Dev) (c : Nat) : Nat := (d.pi c + 65536 - d.ci c) % 65536

/-- The GA of descriptor `i` (R304). -/
def Dev.descGa (d : Dev) (c i : Nat) : Nat :=
  (d.rd64 (gzbReg Reg.gzbChRing c) / 64 * 64 % 2 ^ 48 + 32 * (i % d.ringSize c)) % 2 ^ 48

/-- EN and HOLD (R326). -/
def Dev.chanEn (d : Dev) (c : Nat) : Bool := d.flag (gzbReg Reg.gzbChCtl c) 0
/-- HOLD. -/
def Dev.chanHold (d : Dev) (c : Nat) : Bool := d.flag (gzbReg Reg.gzbChCtl c) 1

/-- GZBn_STATUS.STATE (R327). -/
def Dev.chanState (d : Dev) (c : Nat) : Nat :=
  let y := d.chan c
  if d.gzb.halted.getLsbD c then 5
  else if d.gzb.running = some c then 3
  else if y.off then 0
  else if y.held || y.stopped then 4
  else if d.owned c = 0 then 1
  else 2

/-! ### Requests -/

/-- Entries of the shared queue in use (R313). -/
def Dev.queueUsed (d : Dev) : Nat := (d.gzb.reads.map fun r => r.len).foldl (· + ·) 0

/-- A non-posted request of a channel is issued and remembered; `entries` is its room in the shared queue (R313). -/
def Dev.gzbRead (d : Dev) (c kind idx pos ga len : Nat) (op : ReqOp) (data : WData) (entries : Nat) : Dev :=
  let id := d.gzb.nextId
  let d := d.onGzb fun g => { g with nextId := id + 1, reads := g.reads ++ [{ id := id, ch := c, kind := kind, idx := idx, pos := pos, len := entries }] }
  d.issue { seq := 0, agent := 40 + c, ident := 40 + c, orig := d.devid, ing := .gzb c, op := op, posted := false, ga := ga % 2 ^ 48,
            len := len, data := data, otag := id, ts := d.stamp }

/-- A posted write of a channel is issued (R313). -/
def Dev.gzbWrite (d : Dev) (c ga : Nat) (bs : List Byte) : Dev :=
  d.issue { seq := 0, agent := 40 + c, ident := 40 + c, orig := d.devid, ing := .gzb c, op := .write, posted := true, ga := ga % 2 ^ 48,
            len := bs.length, data := allOn bs, ts := d.stamp }

/-- A write of a channel waits at its ingress, not yet accepted. -/
def Dev.gzbHeld (d : Dev) (c : Nat) : Bool := d.fab.held.any fun r => r.agent == 40 + c && r.posted

/-- Another non-posted request may be issued: at most 64 are outstanding, and the queue has room (R303, R313). -/
def Dev.gzbRoom (d : Dev) (entries : Nat) : Bool := decide (d.gzb.reads.length < 64) && decide (d.queueUsed + entries ≤ 64)

/-- The block of two descriptors that holds the next one not fetched is fetched (R307): up to eight ahead. -/
def Dev.gzbFetch (d : Dev) (c : Nat) : Dev :=
  let y := d.chan c
  let ahead := y.fetched.length + y.work.length
  let next := (d.ci c + ahead) % 65536
  if d.gzb.draining || y.ownWait || 6 < y.fetched.length || d.owned c ≤ ahead || !d.live then d
  else if d.gzb.reads.any (fun r => r.ch == c && r.kind == 0) || !d.gzbRoom 1 then d
  else d.gzbRead c 0 next 0 (d.descGa c next / 64 * 64) 64 .read [] 1

/-! ### Data -/

/-- Pieces of at most 256 bytes end at 256-byte boundaries (R312). -/
def pieceLen (ga left : Nat) : Nat := min left (256 - ga % 256)

/-- The address of stream byte `pos` on the source side (R311), where its offset is known. -/
def GzbDesc.srcAt (x : GzbDesc) (pos : Nat) : Option Nat :=
  match x.mode with
  | 1 => (x.offs[pos / x.esize]?).map fun o => (x.src + o + pos % x.esize) % 2 ^ 48
  | _ => some ((x.src + pos) % 2 ^ 48)

/-- The address of stream byte `pos` on the destination side (R311), where its offset is known. -/
def GzbDesc.dstAt (x : GzbDesc) (pos : Nat) : Option Nat :=
  match x.mode with
  | 2 => (x.offs[pos / x.esize]?).map fun o => (x.dst + o + pos % x.esize) % 2 ^ 48
  | _ => some ((x.dst + pos) % 2 ^ 48)

/-- Bytes from `pos` to the end of its element (R312). -/
def GzbDesc.elemLeft (x : GzbDesc) (pos : Nat) : Nat := if x.mode = 0 then x.len - pos else x.esize - pos % x.esize

/-- The device with the descriptor in processing numbered `i` changed. -/
def Dev.updDesc (d : Dev) (c i : Nat) (f : GzbDesc → GzbDesc) : Dev :=
  d.onChan c fun y => { y with work := y.work.map fun x => if x.idx = i then f x else x }

/-- The descriptor in processing numbered `i`. -/
def Dev.desc? (d : Dev) (c i : Nat) : Option GzbDesc := (d.chan c).work.find? fun x => x.idx == i

/-- A descriptor that moves data: a COPY, CHECK, RSV_LD or COND_ST that passed its check. -/
def GzbDesc.moves (x : GzbDesc) : Bool := !x.noData

/-- Every data byte of a descriptor has been read. -/
def GzbDesc.readAll (x : GzbDesc) : Bool := !x.moves || decide (x.inpos = x.len)

/-- Every write of a descriptor has been issued. -/
def GzbDesc.wroteAll (x : GzbDesc) : Bool :=
  !x.moves ||
    match x.op with
    | 1 => true
    | 3 => x.stored
    | _ => decide (x.wpos = x.len) && (!x.raw.testBit 183 || x.appended)

/-- One further index read, data read or reserved load of a descriptor is issued, if the queue has room (R310–R313). -/
def Dev.descRead (d : Dev) (c : Nat) (x : GzbDesc) : Option Dev :=
  let e := if x.esize = 0 then 0 else x.len / x.esize
  if !x.moves || x.len = 0 then none
  else if x.mode ≠ 0 ∧ x.idxAsked < e ∧ x.idxAsked = x.offs.length ∧ d.gzbRoom 1 then
    let a := x.table + 4 * x.idxAsked
    let k := min (e - x.idxAsked) ((64 - a % 64) / 4)
    some ((d.gzbRead c 1 x.idx x.idxAsked a (4 * k) .read [] 1).updDesc c x.idx fun x => { x with idxAsked := x.idxAsked + k })
  else if x.rpos < x.len then
    match x.srcAt x.rpos with
    | none => none
    | some a =>
      let k := if x.op = 2 then x.len else pieceLen a (x.elemLeft x.rpos)
      let n := blocksOf a k
      if d.gzbRoom n then
        some ((d.gzbRead c (if x.op = 2 then 3 else 2) x.idx x.rpos a k (if x.op = 2 then .rsvLoad else .read) [] n).updDesc c x.idx
          fun x => { x with rpos := x.rpos + k })
      else none
  else none

/-- One further write of a descriptor is issued, where its bytes are there (R311, R312, R314); COND_ST issues its store (R310). -/
def Dev.descWrite (d : Dev) (c : Nat) (x : GzbDesc) : Option Dev :=
  if !x.moves || x.op = 1 then none
  else if x.op = 3 then
    if x.inpos = x.len ∧ !x.stored ∧ d.gzbRoom 0 then
      some ((d.gzbRead c 3 x.idx 0 x.dst x.len .condStore (allOn x.data) 0).updDesc c x.idx fun x => { x with stored := true })
    else none
  else if x.wpos < x.len then
    match x.dstAt x.wpos with
    | none => none
    | some a =>
      let k := pieceLen a (x.elemLeft x.wpos)
      if k ≤ x.data.length then
        some (((d.gzbWrite c a (x.data.take k)).bump64 (gzbReg Reg.gzbChBytes c) k).updDesc c x.idx fun x =>
          { x with wpos := x.wpos + k, data := x.data.drop k })
      else none
  else if x.raw.testBit 183 ∧ !x.appended then
    let bs := crcAppendix x.crcSel x.crc
    let a := (x.dst + x.len) % 2 ^ 48
    let k := pieceLen a bs.length
    let d := d.gzbWrite c a (bs.take k)
    let d := if k < bs.length then d.gzbWrite c (a + k) (bs.drop k) else d
    some (d.updDesc c x.idx fun x => { x with appended := true })
  else none

/-- The marks of a descriptor whose writes have been accepted (R315, R317), with the WBARs and the BF barrier that follow (R318). -/
def Dev.descMarks (d : Dev) (c i : Nat) : Dev :=
  match d.desc? c i with
  | none => d
  | some x =>
    if d.gzbHeld c then d
    else
      let half := (x.len + 1) / 2
      let d : Dev := if x.raw.testBit 185 ∧ x.ihHi.isNone ∧ x.moves ∧ 0 < x.len ∧
          half ≤ (if x.op = 1 then x.inpos else if x.op = 3 then (if x.storeDone then x.len else 0) else x.wpos) then
        (d.updDesc c i fun x => { x with ihHi := some (if x.op = 1 then x.lo else d.fab.nextSeq) : GzbDesc }).wbarsFor (40 + c) else d
      if x.hi.isNone ∧ x.readAll ∧ x.wroteAll ∧ (x.op ≠ 3 ∨ !x.moves ∨ x.storeDone) then
        let d := d.updDesc c i fun x => { x with hi := some d.fab.nextSeq }
        if x.raw.testBit 187 ∧ x.moves then
          if h : c < 16 then (d.updDesc c i fun x => { x with bar := 1 }).takeBarrier (.gzb ⟨c, h⟩) true else d
        else if x.tracked then d.wbarsFor (40 + c) else d
      else d

/-! ### Runs -/

/-- The running channel may begin another descriptor: no stop waits for the boundary and the run limit leaves room (R319, R320). -/
def Dev.mayBegin (d : Dev) (c : Nat) : Bool :=
  let y := d.chan c
  d.gzb.running == some c && d.chanEn c && !d.chanHold c && y.pend == 0 && !y.stopped && !y.held &&
    (d.fld Reg.gzbCtl 8 8 == 0 || decide (d.gzb.runDone < d.fld Reg.gzbCtl 8 8)) && d.flag Reg.gzbCtl 0 &&
    y.work.all fun x => x.hi.isSome && (!x.raw.testBit 187 || x.bar == 2 || x.noData) && x.err.isNone && !x.raw.testBit 188

/-- A fetched descriptor is begun: one with OWN = 0 ends the run (R307), one that fails its check is logged (R309). -/
def Dev.beginDesc (d : Dev) (c : Nat) (i raw : Nat) : Dev :=
  let d := d.onChan c fun y => { y with fetched := y.fetched.drop 1 }
  let y := d.chan c
  if !raw.testBit 255 then
    (d.onChan c fun y => { y with ownWait := true, fetched := [] }).bump (gzbReg Reg.gzbChOwnMiss c)
  else
    let x : GzbDesc := { idx := i, raw := raw, lo := d.fab.nextSeq }
    let d := d.onGzb fun g => { g with runDone := g.runDone + 1 }
    if y.skipNext then
      let t := (errOfCode (d.fld Reg.gzbHaltCause 0 8)).getD .decode
      d.onChan c fun y => { y with skipNext := false, work := y.work ++ [{ x with noData := true, err := some t }] }
    else if !x.checkOk y.crcAlg then
      let d := (d.log { agent := 40 + c, orig := d.devid, path := 11 } .decode (d.descGa c i) 4).bump (gzbReg Reg.gzbChBadDesc c)
      d.onChan c fun y => { y with pend := 3, work := y.work ++ [{ x with noData := true, err := some .decode }] }
    else
      let crc := if x.raw.testBit 184 then (d.rd (gzbReg Reg.gzbChCrc c)).toNat else crcInit x.crcSel
      d.onChan c fun y => { y with work := y.work ++ [{ x with crc := crc }] }

/-- A channel's state after its last descriptor of a run: the causes that wait for the boundary act (R320). -/
def GzbChan.boundary (y : GzbChan) (en hold : Bool) : GzbChan :=
  if !en then { y with off := true, stopped := false, held := false, cause := 5, pend := 0, fetched := [] }
  else if y.pend ≠ 0 then { y with stopped := true, held := hold, cause := y.pend, pend := 0, fetched := [] }
  else if hold then { y with held := true, cause := 1, fetched := [] }
  else y

/-- The run ends when the channel can begin no further descriptor and has handed back those it began (R319). -/
def Dev.endRun (d : Dev) (c : Nat) : Dev :=
  let y := d.chan c
  let fetching := d.gzb.reads.any fun r => r.ch == c && r.kind == 0
  if d.gzb.running = some c ∧ y.work.isEmpty ∧
      (!d.mayBegin c || y.ownWait || (y.fetched.isEmpty && !fetching && decide (d.owned c = 0))) then
    (d.onGzb fun g => { g with running := none, runDone := 0 }).onChan c fun y => y.boundary (d.chanEn c) (d.chanHold c)
  else d

/-- The engine goes on with a channel's descriptors: reads while the queue has room, then writes, then the next descriptor (R311–R313). -/
def Dev.gzbPump (d : Dev) (c : Nat) : Nat → Dev
  | 0 => d
  | fuel + 1 =>
    if d.gzb.draining || !d.live then d
    else
      match (d.chan c).work.find? fun x => x.hi.isNone with
      | some x =>
        match d.descRead c x with
        | some d => d.gzbPump c fuel
        | none =>
          match d.descWrite c x with
          | some d => (d.descMarks c x.idx).gzbPump c fuel
          | none => d.descMarks c x.idx
      | none =>
        if d.mayBegin c then
          match (d.chan c).fetched with
          | (i, raw) :: _ => (d.beginDesc c i raw).gzbPump c fuel
          | [] => d
        else d

/-- The engine goes on with a channel, fetches ahead and ends its run where it can. -/
def Dev.gzbGo (d : Dev) (c : Nat) : Dev := if !d.live then d else ((((d.gzbPump c 512).gzbFetch c).gzbPump c 512).endRun c)

/-- A waiting channel (R319). -/
def Dev.chanWaits (d : Dev) (c : Nat) : Bool := d.chanState c == 2 && !(d.chan c).ownWait

/-- The channel of the next run: the highest priority, then upward from the channel last served there (R319). -/
def Dev.nextRun (d : Dev) : Option Nat :=
  ([3, 2, 1, 0].flatMap fun p =>
    let last := d.gzb.served.getD p 15
    ((List.range 16).map fun i => (last + 1 + i) % 16).filter fun c => d.fld (gzbReg Reg.gzbChCtl c) 2 2 == p && d.chanWaits c).head?

/-- A run starts (R319). -/
def Dev.startRun (d : Dev) : Dev :=
  if d.gzb.running.isSome || d.gzb.draining || !d.flag Reg.gzbCtl 0 || !d.live then d
  else
    match d.nextRun with
    | none => d
    | some c =>
      let p := d.fld (gzbReg Reg.gzbChCtl c) 2 2
      (d.onGzb fun g => { g with running := some c, runDone := 0, served := g.served.set p c }).gzbGo c

/-! ### Halt -/

/-- A channel keeps only the descriptors whose write-back is issued; the interrupted one at CI is remembered (R321). -/
def GzbChan.halt (y : GzbChan) : GzbChan :=
  { y with fetched := [], work := y.work.filter (·.wb.isSome), pend := 0, skipNext := false,
           lastRaw := ((y.work.find? (·.wb.isNone)).map fun x => (x.idx, x.raw)).orElse fun _ => y.fetched.head? }

/-- The engine halts on a failed request (R321): every enabled channel is HALTED, the first failure is recorded, what was read is discarded
and the reservations of the halted channels are lost. -/
def Dev.gzbHalt (d : Dev) (t : ErrType) (kind ga : Nat) : Dev :=
  let first := d.gzb.halted == 0
  let en := maskOf 16 fun c => d.chanEn c || d.gzb.running == some c
  let cause := errCode t + 2 ^ 8 * (d.gzb.running.getD 0) + 2 ^ 12 * b2n d.gzb.running.isSome + 2 ^ 13 * kind
  let d : Dev := if first then ((d.wr Reg.gzbHaltCause (BitVec.ofNat 32 cause)).wr64 Reg.gzbHaltGa (ga % 2 ^ 48)).bump Reg.gzbHaltCount else d
  let d := d.onGzb fun g => { g with draining := true, running := none, runDone := 0, reads := [],
                                     halted := g.halted ||| BitVec.ofNat 16 en,
                                     chans := g.chans.map GzbChan.halt }
  (List.range 16).foldl (fun d c => if en.testBit c then d.rsvException (40 + c) (40 + c) else d) d

/-- Named halted channels resume (R322): with SKIP the descriptor at CI is handed back with ERR first. -/
def Dev.gzbRestart (d : Dev) (mask : BitVec 16) (skip : Bool) : Dev :=
  if d.gzb.draining then d.onGzb fun g => { g with restart := some (mask, skip) }
  else
    let d := (List.range 16).foldl (fun d c =>
      if mask.getLsbD c && d.gzb.halted.getLsbD c then
        let en := d.chanEn c
        let err := (errOfCode (d.fld Reg.gzbHaltCause 0 8)).getD ErrType.decode
        let now := d.fab.nextSeq
        let owned := decide (0 < d.owned c)
        let ci := d.ci c
        d.onChan c fun y =>
          let y := { y with off := !en, ownWait := false }
          if skip && owned then
            match y.lastRaw with
            | some (i, raw) =>
              if i = ci ∧ raw.testBit 255 then
                let x : GzbDesc := { idx := i, raw := raw, lo := now, hi := some now, noData := true, bar := 2, err := some err }
                { y with lastRaw := none, work := y.work ++ [x] }
              else { y with lastRaw := none, skipNext := true }
            | none => { y with skipNext := true }
          else { y with lastRaw := none }
      else d) d
    d.onGzb fun g => { g with halted := g.halted &&& ~~~mask, restart := none }

/-! ### Completions and handback -/

/-- Returned bytes enter the stream in order, with the CRC; CHECK counts them and keeps none (R311, R314). -/
def GzbDesc.absorb (x : GzbDesc) : Nat → GzbDesc
  | 0 => x
  | fuel + 1 =>
    match x.parts.find? fun p => p.1 == x.inpos with
    | some p =>
      let kept := if x.op = 1 then [] else x.data ++ p.2
      let y : GzbDesc := { x with parts := x.parts.filter (fun q => q.1 != p.1), inpos := x.inpos + p.2.length,
                                  crc := crcBytes x.crcSel x.crc p.2, data := kept }
      y.absorb fuel
    | none => x

/-- Little-endian 32-bit offsets. -/
def offsets (bs : List Byte) : Nat → List Nat
  | 0 => []
  | n + 1 => leNat (bs.take 4) :: offsets (bs.drop 4) n

/-- A completion of a Gazebo request is taken from its TT entry (R307, R313, R321): a failure halts the engine; what returns during a halt is
discarded. -/
def Dev.gzbReturn (d : Dev) (r : Req) : Dev :=
  let d := (d.dropReq r.seq).rsvRecord r
  match d.gzb.reads.find? fun x => x.id == r.otag with
  | none => d.retryHeld
  | some q =>
    let d := d.onGzb fun g => { g with reads := g.reads.filter fun x => x.id != q.id }
    match r.status with
    | some t => (d.gzbHalt t q.kind r.ga).retryHeld
    | none =>
      let d : Dev := match q.kind with
        | 0 =>
          let first := d.descGa q.ch q.idx / 64 * 64 == d.descGa q.ch q.idx
          let two := first && (d.descGa q.ch (q.idx + 1) == d.descGa q.ch q.idx + 32)
          let left := d.owned q.ch - ((d.chan q.ch).fetched.length + (d.chan q.ch).work.length)
          let a := (q.idx, leNat ((r.rdata.drop (if first then 0 else 32)).take 32))
          let b := ((q.idx + 1) % 65536, leNat ((r.rdata.drop 32).take 32))
          d.onChan q.ch fun y => { y with fetched := y.fetched ++ (if left = 0 then [] else if two && decide (2 ≤ left) then [a, b] else [a]) }
        | 1 => d.updDesc q.ch q.idx fun x => { x with offs := x.offs ++ offsets r.rdata (r.rdata.length / 4) }
        | _ =>
          if r.op = .condStore then
            d.updDesc q.ch q.idx fun x => { x with storeDone := true, csFail := r.csFail, wpos := if r.csFail then 0 else x.len }
          else
            let d : Dev := match d.desc? q.ch q.idx with
              | some x => if x.op = 1 then d.bump64 (gzbReg Reg.gzbChBytes q.ch) r.rdata.length else d
              | none => d
            let add := fun (x : GzbDesc) => GzbDesc.absorb { x with parts := x.parts ++ [(q.pos, r.rdata)] } 64
            d.updDesc q.ch q.idx add
      let d : Dev := if r.op = .condStore ∧ !r.csFail then d.bump64 (gzbReg Reg.gzbChBytes q.ch) r.len else d
      (d.gzbGo q.ch).retryHeld

/-- The open Gazebo request of a TT entry. -/
def Dev.gzbReq? (d : Dev) (tag : Nat) : Option Req :=
  d.fab.reqs.find? fun r => !r.posted && r.tag == tag && r.st == .ended && (match r.ing with | .gzb _ => true | _ => false)

/-- KIND of an open Gazebo request. -/
def Dev.gzbKind (d : Dev) (r : Req) : Option Nat := (d.gzb.reads.find? fun x => x.id == r.otag).map (·.kind)

/-- Bytes 24–31 of a handed-back descriptor (R308). -/
def GzbDesc.back (x : GzbDesc) : List Byte :=
  let result := match x.err with
    | some t => errCode t
    | none => if x.crcSel = 0 then 0 else crcFinal x.crcSel x.crc
  let done := if x.noData then 0 else if x.op = 1 then x.inpos else if x.op = 3 then x.wpos else x.len
  leBytes 4 result ++ leBytes 3 done ++ leBytes 1 (b2n x.csFail + 2 * b2n x.err.isSome)

/-- The conditions of R316 for the write-back of a channel's oldest descriptor hold. -/
def Dev.backReady (d : Dev) (c : Nat) (x : GzbDesc) : Bool :=
  match x.hi with
  | none => x.noData
  | some h => (!x.raw.testBit 187 || x.bar == 2 || x.noData) &&
      (!(x.raw.testBit 186 || x.op == 3) || x.noData || !d.gzbPending c x.lo h)

/-- The write-back of a channel's oldest descriptor is issued (R316). -/
def Dev.writeBack (d : Dev) (c : Nat) (x : GzbDesc) : Dev :=
  let lo := d.fab.nextSeq
  let d := d.gzbWrite c (d.descGa c x.idx + 24) x.back
  let d := d.updDesc c x.idx fun y => { y with hi := some (y.hi.getD lo), wb := some (lo, none) }
  d

/-- The write-back has been performed (R316, R317): CI advances, events and counters follow, the channel stops on its causes, and the CRC is
kept (R314). -/
def Dev.handedBack (d : Dev) (c : Nat) (x : GzbDesc) : Dev :=
  let ih := x.raw.testBit 185 && !x.ihDone && x.len == 0 && x.err.isNone
  let d : Dev := if ih then d.gzbEvent c else d
  let d : Dev := if x.raw.testBit 186 then d.gzbEvent c else d
  let d := (d.setFld (gzbReg Reg.gzbChCi c) 0 16 (d.ci c + 1)).bump (gzbReg Reg.gzbChDescDone c)
  let keepCrc := x.crcSel != 0 && x.err.isNone
  let d : Dev := if keepCrc then d.wr (gzbReg Reg.gzbChCrc c) (BitVec.ofNat 32 x.crc) else d
  let tail := match x.hi with
    | some h => x.raw.testBit 185 && bitsOf x.raw 186 2 == 0 && d.gzbPending c x.lo h
    | none => false
  let pend := if x.err.isSome ∧ !x.noData then 4 else if x.raw.testBit 188 then 2 else 0
  let d := d.onChan c fun y =>
    { y with work := y.work.filter (fun z => z.idx != x.idx), crcAlg := if keepCrc then x.crcSel else y.crcAlg,
             tails := if tail then y.tails ++ [(x.lo, x.hi.getD 0)] else y.tails,
             pend := if y.pend = 0 then pend else y.pend }
  let d : Dev := if d.gzb.running = some c then d
    else d.onChan c fun y => if y.work.isEmpty && y.pend != 0 then y.boundary (d.chanEn c) (d.chanHold c) else y
  d.gzbGo c

/-- The oldest descriptor of a channel goes on toward its handback (R316). -/
def Dev.handback (d : Dev) (c : Nat) : Dev :=
  match (d.chan c).work with
  | [] => d.gzbGo c
  | x :: _ =>
    match x.wb with
    | none =>
      if d.gzb.draining || !d.live then d
      else
        let d := d.gzbPump c 512
        match (d.chan c).work with
        | x :: _ => if d.backReady c x then d.writeBack c x else d
        | [] => d
    | some (lo, none) =>
      if d.gzbHeld c then d
      else
        let hi := d.fab.nextSeq
        let d := (d.updDesc c x.idx fun x => { x with wb := some (lo, some hi) }).wbarsFor (40 + c)
        if d.gzbPending c lo hi then d else d.handedBack c x
    | some (lo, some hi) => if d.gzbPending c lo hi then d else d.handedBack c x

/-! ### Registers -/

/-- A write of GZBn_PI (R305, R307, R320). -/
def Dev.piWrite (d : Dev) (c : Nat) (v : Word) : Dev :=
  let off := gzbReg Reg.gzbChPi c
  let new := (maskedValue (d.rd off) v 0xFFFF).toNat % 65536
  if d.ringSize c - d.owned c < (new + 65536 - d.pi c) % 65536 then d.bump Reg.sysAccessReject
  else
    let d := (d.setFld off 0 16 new).onChan c fun y =>
      { y with ownWait := false, stopped := false, cause := if y.held then 1 else 0 }
    if d.gzb.running = some c then d.gzbGo c
    else if d.chanWaits c then d.gzbFetch c
    else d

/-- A write of GZBn_CTL (R305, R320, R321, R326). -/
def Dev.chanCtl (d : Dev) (c : Nat) (v : Word) : Dev :=
  let off := gzbReg Reg.gzbChCtl c
  let old := d.rd off
  let new := maskedValue old v 0x1FF
  if fieldOf old 0 1 = 1 ∧ fieldOf old 4 4 ≠ fieldOf new 4 4 then d.bump Reg.sysAccessReject
  else
    let d := d.wr off new
    let run := d.gzb.running == some c
    let d : Dev := if fieldOf old 0 1 = 0 ∧ fieldOf new 0 1 = 1 then
        let d := d.setFld (gzbReg Reg.gzbChCi c) 0 16 (d.pi c)
        let d := d.onChan c fun y => { y with off := false, stopped := false, held := fieldOf new 1 1 == 1, pend := 0, ownWait := false,
                                              cause := if fieldOf new 1 1 = 1 then 1 else 0, fetched := [], lastRaw := none, skipNext := false }
        if d.gzb.halted = 0 then d else d.onGzb fun g => { g with halted := g.halted ||| (1#16 <<< c) }
      else if fieldOf old 0 1 = 1 ∧ fieldOf new 0 1 = 0 ∧ !run then
        d.onChan c fun y => { y with off := true, stopped := false, held := false, cause := 5, pend := 0, fetched := [] }
      else if fieldOf old 1 1 = 0 ∧ fieldOf new 1 1 = 1 ∧ !run then d.onChan c fun y => { y with held := true, cause := 1, fetched := [] }
      else if fieldOf old 1 1 = 1 ∧ fieldOf new 1 1 = 0 then
        d.onChan c fun y => { y with held := false, cause := if y.stopped && y.cause != 1 then y.cause else 0 }
      else d
    if run then d.endRun c else d

/-- A write of GZBn_RING (R326): refused while EN = 1. -/
def Dev.ringWrite (d : Dev) (c : Nat) (x : Nat) : Dev :=
  if d.chanEn c then d.bump Reg.sysAccessReject else d.wr64 (gzbReg Reg.gzbChRing c) (x % 2 ^ 48 / 64 * 64)

/-- Every channel is OFF and the engine idle; reservations of its channels are lost (R323, R444). -/
def Dev.gzbClear (d : Dev) : Dev :=
  let d := d.onGzb fun g => { nextId := g.nextId }
  (List.range 16).foldl (fun d c => d.rsvException (40 + c) (40 + c)) d

/-! ### Meanings -/

/-- GZB_PI_WRITE (R305): a masked write. -/
def execGzbPiWrite (c : Fin 16) (v : Word) (s : State) : Host.Outcome State Fault Refusal := s.act fun d => d.piWrite c.val v

/-- GZB_CHANNEL_CTL (R320): a masked write. -/
def execGzbChannelCtl (c : Fin 16) (v : Word) (s : State) : Host.Outcome State Fault Refusal := s.act fun d => d.chanCtl c.val v

/-- GZB_RUN_START (R319). -/
def execGzbRunStart (s : State) : Host.Outcome State Fault Refusal := s.act fun d => d.startRun

/-- GZB_DESC_FETCH_DONE (R307): the fetch of a TT entry. -/
def execGzbDescFetchDone (tag : Nat) (s : State) : Host.Outcome State Fault Refusal :=
  s.act fun d =>
    match d.gzbReq? tag with
    | some r => if d.gzbKind r = some 0 then d.gzbReturn r else d
    | none => d

/-- GZB_READ_COMPLETION (R313): an index or data read, a reserved load or a conditional store, or what returns after a halt. -/
def execGzbReadCompletion (tag : Nat) (s : State) : Host.Outcome State Fault Refusal :=
  s.act fun d =>
    match d.gzbReq? tag with
    | some r => if d.gzbKind r = some 0 then d else d.gzbReturn r
    | none => d

/-- GZB_HANDBACK (R316). -/
def execGzbHandback (c : Fin 16) (s : State) : Host.Outcome State Fault Refusal := s.act fun d => d.handback c.val

/-- GZB_HALT (R321): a failed completion of a Gazebo request. -/
def execGzbHalt (tag : Nat) (s : State) : Host.Outcome State Fault Refusal :=
  s.act fun d =>
    match d.gzbReq? tag with
    | some r => if r.status.isSome then d.gzbReturn r else d
    | none => d

/-- GZB_DRAIN_DONE (R321, R322): the Gazebo holds no TT entry; a held restart takes effect. -/
def execGzbDrainDone (s : State) : Host.Outcome State Fault Refusal :=
  s.act fun d =>
    if d.gzb.draining && !(d.fab.reqs.any fun r => !r.posted && (match r.ing with | .gzb _ => true | _ => false)) then
      let d := d.onGzb fun g => { g with draining := false }
      match d.gzb.restart with
      | some (m, sk) => d.gzbRestart m sk
      | none => d
    else d

/-- RESTART_RESUME (R322). -/
def execRestartResume (chans : BitVec 16) (s : State) : Host.Outcome State Fault Refusal := s.act fun d => d.gzbRestart chans false

/-- RESTART_SKIP (R322). -/
def execRestartSkip (chans : BitVec 16) (s : State) : Host.Outcome State Fault Refusal := s.act fun d => d.gzbRestart chans true

end Sys2Proof.Machine
end

