-- ==== Sys2Proof/Machine/Trellis.lean ====
section
/-!
DEFINITION. The Trellis: table areas and entries (R365–R371), hashing and lookup (R372, R373), hit marks (R376), insertion with its cuckoo
path (R378, R380), commands (R381), the sweeper (R382), the table switch (R386), generations (R387) and the watch ring (R388).
-/
namespace Sys2Proof.Machine

/-- The device with the Trellis changed. -/
def Dev.onTrl (d : Dev) (f : Trl → Trl) : Dev := { d with trl := f d.trl }

/-- The device with the frame path changed. -/
def Dev.onFrm (d : Dev) (f : FramePath → FramePath) : Dev := { d with frm := f d.frm }

/-- A write or commit is ignored and counted in SYS_ACCESS_REJECT (R54). -/
def Dev.reject (d : Dev) : Dev := d.bump Reg.sysAccessReject

/-! ### Areas and entries -/

/-- BKT_LOG of an area (R392): values outside 10–23 act as the nearest limit. -/
def Dev.bktLog (d : Dev) (t : Nat) : Nat := min 23 (max 10 (d.fld (Reg.trlTabCfg + 0x20 * t) 0 5))

/-- An area's buckets (R365). -/
def Dev.areaNb (d : Dev) (t : Nat) : Nat := 2 ^ d.bktLog t

/-- An area's base, from the start of the DRAM (R392). -/
def Dev.areaOff (d : Dev) (t : Nat) : Nat := d.rd64 (Reg.trlTabBase + 0x20 * t) % 2 ^ 34

/-- The local address of a slot (R365). -/
def Dev.slotAddr (d : Dev) (t b s : Nat) : Nat := 0x10_0000_0000 + d.areaOff t + 128 * b + 32 * s

/-- An area is aligned to its size and lies below the DRAM data size (R365). -/
def Dev.areaOk (d : Dev) (t : Nat) : Bool :=
  d.areaOff t % (128 * d.areaNb t) == 0 && decide (d.areaOff t + 128 * d.areaNb t ≤ d.fld Reg.winDramSize 0 9 * 2 ^ 26)

/-- The other area. -/
def Dev.shadowArea (d : Dev) : Nat := 1 - d.trl.active

/-- TRL_CTRL.SHADOW (R391). -/
def Dev.shadowOn (d : Dev) : Bool := d.flag Reg.trlCtrl 4

/-- Fields of an entry as a 256-bit number (R367): key, action and the header's parts. -/
def entKey (e : Nat) : Nat := bitsOf e 0 128
/-- The action of an entry. -/
def entAction (e : Nat) : Nat := bitsOf e 128 112
/-- VALID of an entry. -/
def entValid (e : Nat) : Bool := e.testBit 240
/-- TYPE of an entry. -/
def entType (e : Nat) : Nat := bitsOf e 241 3
/-- HIT of an entry. -/
def entHit (e : Nat) : Bool := e.testBit 244
/-- AGE_FLAG of an entry. -/
def entAge (e : Nat) : Bool := e.testBit 245
/-- LOCK of an entry. -/
def entLock (e : Nat) : Bool := e.testBit 246
/-- STATIC of an entry. -/
def entStatic (e : Nat) : Bool := e.testBit 247

/-- A number with bits [lo+n−1:lo] set to `x`. -/
def putBits (e lo n x : Nat) : Nat := e - bitsOf e lo n * 2 ^ lo + x % 2 ^ n * 2 ^ lo

/-- A TYPE in use: 1–6 (R367). -/
def typeOk (t : Nat) : Bool := decide (1 ≤ t) && decide (t ≤ 6)

/-- The entry at a local address. -/
def Dev.entAt (d : Dev) (a : Nat) : Nat := d.numAt a 32

/-- The Trellis writes an entry (R366): its store counts as another agent's (R23), whole words are encoded afresh, and the write travels as a
MEM record (R440). -/
def Dev.putEnt (d : Dev) (a e : Nat) : Dev :=
  (((d.setNum a 32 e).freshWords a 32).rsvStore 66 0 true (d.devid * 2 ^ 38 + a) 32).sendRec 2 (leBytes 6 a ++ leBytes 2 32 ++ leBytes 32 e)

/-- A pipeline write of an entry, which takes the current generation (R387). -/
def Dev.pipeWrite (d : Dev) (a e : Nat) : Dev := d.putEnt a (putBits e 248 8 d.generation)

/-! ### Hashing and lookup -/

/-- CRC-32C(KEY, S) (R372). -/
def trlHash (key : List Byte) (seed : Nat) : Nat := crcFinal 1 (crcBytes 1 seed key)

/-- The two candidate buckets of a key in an area (R372). -/
def Dev.buckets (d : Dev) (t : Nat) (key : List Byte) : Nat × Nat :=
  let h0 := trlHash key (d.rd (Reg.trlTabSeed0 + 0x20 * t)).toNat % d.areaNb t
  let h1 := trlHash key (d.rd (Reg.trlTabSeed1 + 0x20 * t)).toNat % d.areaNb t
  (h0, if h1 = h0 then h0 ^^^ 1 else h1)

/-- An entry matches a key (R373). -/
def entMatches (e : Nat) (key : List Byte) : Bool :=
  entValid e && typeOk (entType e) && entType e == (key.headD 0).toNat && entKey e == leNat key

/-- The first slot of a bucket whose entry satisfies `p`. -/
def Dev.slotIn (d : Dev) (t b : Nat) (p : Nat → Bool) : Option Nat := (List.range 4).find? fun s => p (d.entAt (d.slotAddr t b s))

/-- The matching entry of a key in an area (R373): bucket and slot. -/
def Dev.findIn (d : Dev) (t : Nat) (key : List Byte) : Option (Nat × Nat) :=
  let h := d.buckets t key
  match d.slotIn t h.1 fun e => entMatches e key with
  | some s => some (h.1, s)
  | none => (d.slotIn t h.2 fun e => entMatches e key).map fun s => (h.2, s)

/-- A lookup reads a bucket of the active area: whether it missed the cache is the implementation's (a free value), and an uncorrectable word
is logged (R373, R430). Answers whether the bucket is readable. -/
def Dev.readBucket (d : Dev) (b : Nat) : Dev × Bool :=
  let d := if Config.freeNat d.fresh % 2 = 1 then (d.bump64 Reg.trlCacheMiss).tick else d.tick
  let a := d.slotAddr d.trl.active b 0
  match d.badIn a 128 with
  | some w =>
    (d.log { agent := 66, orig := d.devid } .decUncorr (d.devid * 2 ^ 38 + w) (eccDetail (memWord w).1 (memWord w).2), false)
  | none => (d, true)

/-- A lookup (R373): the local address of the first match in the active area, none for a miss. -/
def Dev.lookup (d : Dev) (key : List Byte) : Dev × Option Nat :=
  let d := d.bump64 Reg.trlLookups
  if !d.flag Reg.trlCtrl 0 then (d, none)
  else
    let t := d.trl.active
    let h := d.buckets t key
    let r := d.readBucket h.1
    if !r.2 then (r.1, none)
    else
      match r.1.slotIn t h.1 fun e => entMatches e key with
      | some s => (r.1, some (r.1.slotAddr t h.1 s))
      | none =>
        let q := r.1.readBucket h.2
        if !q.2 then (q.1, none)
        else (q.1, (q.1.slotIn t h.2 fun e => entMatches e key).map fun s => q.1.slotAddr t h.2 s)

/-- A hit mark (R376); a STANDBY twin makes none (R439). -/
def Dev.hitMark (d : Dev) (a : Nat) : Dev :=
  let e := d.entAt a
  if d.standby ∨ !entValid e ∨ entLock e then d
  else if !entHit e || entAge e then d.pipeWrite a (putBits (putBits e 244 1 1) 245 1 0) else d

/-! ### Insertion -/

/-- The result of an insertion (R378, R392): RESULT code, bucket and slot. -/
structure InsertEnd where
  code : Nat
  bucket : Nat := 0
  slot : Nat := 0

/-- A slot is free (R367). -/
def entFree (e : Nat) : Bool := !entValid e && !entLock e

/-- An entry may be moved (R378): valid, unlocked, of a TYPE that is not reserved. -/
def entMovable (e : Nat) : Bool := entValid e && !entLock e && typeOk (entType e)

/-- The other candidate bucket of the entry `e` found in bucket `b` of an area (R378). -/
def Dev.otherBucket (d : Dev) (t b e : Nat) : Nat :=
  let h := d.buckets t (leBytes 16 (entKey e))
  if b = h.1 then h.2 else h.1

/-- The search for a cuckoo path (R378): the slots from which entries move, first to last, and the free slot at its end; `n` moves are left.
Which movable slot a step takes the spec leaves open, so the order is a free value. -/
def Dev.cuckooPath (d : Dev) (t : Nat) : Nat → Nat → List Nat → Option (List (Nat × Nat))
  | 0, _, _ => none
  | n + 1, b, seen =>
    match d.slotIn t b entFree with
    | some s => some [(b, s)]
    | none =>
      (List.range 4).findSome? fun i =>
        let s := (i + Config.freeNat (d.fresh + n)) % 4
        let a := d.slotAddr t b s
        if seen.contains a || !entMovable (d.entAt a) then none
        else (d.cuckooPath t n (d.otherBucket t b (d.entAt a)) (a :: seen)).map fun p => (b, s) :: p

/-- The path from slot `p` of `h0`, or the next movable slot above it (R378); at most 8 moves. -/
def Dev.cuckooFrom (d : Dev) (t h0 p : Nat) : Option (List (Nat × Nat)) :=
  ((List.range 4).find? fun i => entMovable (d.entAt (d.slotAddr t h0 ((p + i) % 4)))).bind fun i =>
    let s := (p + i) % 4
    let a := d.slotAddr t h0 s
    (d.cuckooPath t 8 (d.otherBucket t h0 (d.entAt a)) [a]).map fun q => (h0, s) :: q

/-- The moves of a path, last to first (R378): each writes the copy, counts the epoch and clears VALID in the old slot. -/
def Dev.cuckooMove (d : Dev) (t : Nat) : List (Nat × Nat) → Dev
  | x :: y :: rest =>
    let d := d.cuckooMove t (y :: rest)
    let e := d.entAt (d.slotAddr t x.1 x.2)
    ((d.putEnt (d.slotAddr t y.1 y.2) e).bump Reg.trlRelocEpoch).putEnt (d.slotAddr t x.1 x.2) (putBits e 240 1 0)
  | _ => d

/-- A failed insertion (R380); `learned` for one that learning made. -/
def Dev.insertFail (d : Dev) (e : Nat) (learned : Bool) : Dev × InsertEnd :=
  let d := d.bump Reg.trlInsertFail
  if d.trl.fifo.length < 256 then
    ((d.onTrl fun x => { x with fifo := x.fifo ++ [leBytes 32 e] }).sendRec 2 (leBytes 6 0x64_1000 ++ leBytes 2 32 ++ leBytes 32 e), { code := 3 })
  else (if learned then d.bump Reg.trlRehashOvf else d, { code := 4 })

/-- An insertion into an area (R378, R380). -/
def Dev.insertIn (d : Dev) (t e : Nat) (learned : Bool) : Dev × InsertEnd :=
  let key := leBytes 16 (entKey e)
  let e := putBits e 240 1 1
  match d.findIn t key with
  | some x => (d, { code := 1, bucket := x.1, slot := x.2 })
  | none =>
    let h := d.buckets t key
    let put := fun (d : Dev) (b s : Nat) => (d.pipeWrite (d.slotAddr t b s) e, ({ code := 0, bucket := b, slot := s } : InsertEnd))
    match d.slotIn t h.1 entFree with
    | some s => put d h.1 s
    | none =>
      match d.slotIn t h.2 entFree with
      | some s => put d h.2 s
      | none =>
        let path := d.cuckooFrom t h.1 d.trl.ptr
        let d := (d.onTrl fun x => { x with ptr := (x.ptr + 1) % 4 }).tick
        match path with
        | some p =>
          let d := d.cuckooMove t p
          match p with
          | x :: _ => put d x.1 x.2
          | [] => d.insertFail e learned
        | none => d.insertFail e learned

/-- An insertion into the active area, mirrored into the shadow of a rebuild (R385). -/
def Dev.insert (d : Dev) (e : Nat) (learned : Bool) : Dev × InsertEnd :=
  let r := d.insertIn d.trl.active e learned
  if r.2.code = 0 ∧ r.1.shadowOn then ((r.1.insertIn r.1.shadowArea e learned).1, r.2) else r

/-- An entry of the active area is removed: VALID = 0, mirrored into the shadow (R385). -/
def Dev.removeEnt (d : Dev) (a : Nat) : Dev :=
  let e := d.entAt a
  let d := d.pipeWrite a (putBits e 240 1 0)
  if d.shadowOn then
    match d.findIn d.shadowArea (leBytes 16 (entKey e)) with
    | some x =>
      let a' := d.slotAddr d.shadowArea x.1 x.2
      if entLock (d.entAt a') then d else d.pipeWrite a' (putBits (d.entAt a') 240 1 0)
    | none => d
  else d

/-- GROUP of the learned entries of a MAC (R377, R391). -/
def Dev.learnGroup (d : Dev) (i : Nat) : Nat := min 4082 (d.fld Reg.trlLearnCfg 16 12) + i

/-- A source lookup (R377): a miss inserts a learned entry, a hit on an entry of another port moves it; it is skipped while more than 32 keys
wait. A STANDBY twin does not learn (R439). -/
def Dev.learn (d : Dev) (i : Nat) (key : List Byte) : Dev :=
  if !d.flag Reg.trlLearnCfg i || d.standby then d
  else if 32 < d.frm.keys.length then d.bump Reg.trlLearnSkip
  else
    let r := d.lookup key
    let d := r.1
    match r.2 with
    | none =>
      let e := leNat key + d.learnGroup i * 2 ^ 128 + 2 ^ 240 + 2 ^ 241
      let q := d.insert e true
      if q.2.code = 0 then q.1.bump Reg.trlLearned else q.1
    | some a =>
      let e := d.entAt a
      if entLock e then d
      else
        let d := d.hitMark a
        let e := d.entAt a
        if entStatic e ∨ bitsOf e 128 12 = d.learnGroup i then d
        else
          let d := (d.pipeWrite a (putBits e 128 12 (d.learnGroup i))).bump Reg.trlLearnMove
          if d.shadowOn then
            match d.findIn d.shadowArea key with
            | some x =>
              let a' := d.slotAddr d.shadowArea x.1 x.2
              if entLock (d.entAt a') then d else d.pipeWrite a' (putBits (d.entAt a') 128 12 (d.learnGroup i))
            | none => d
          else d

/-! ### Commands -/

/-- The entry image in TRL_CMD_ENTRY (R381). -/
def Dev.cmdEntry (d : Dev) : Nat := (List.range 8).foldr (fun k acc => (d.rd (0x64_0000 + 4 * k)).toNat + 2 ^ 32 * acc) 0

/-- A write of TRL_CMD (R381): it starts a command, is rejected while one runs, and does nothing with OP 0 or an INSERT without a shadow. -/
def Dev.trlCmdWrite (d : Dev) (v : Word) : Dev :=
  let op := fieldOf v 0 2
  let table := fieldOf v 2 1 == 1
  if op = 0 then d
  else if d.trl.cmd.isSome then d.reject
  else if op = 1 ∧ table ∧ !d.shadowOn then d
  else
    let st := d.rd Reg.trlCmdStatus
    let d := d.wr Reg.trlCmdStatus (setField (setField st 0 2 2) 8 8 (fieldOf st 8 8 + 1))
    d.onTrl fun x => { x with cmd := some (op, table) }

/-- The running command ends with a RESULT (R381, R392). -/
def Dev.trlCmdEnd (d : Dev) (x : InsertEnd) : Dev :=
  let st := setField (setField (d.rd Reg.trlCmdStatus) 0 2 1) 2 3 x.code
  let d := d.onTrl fun y => { y with cmd := none }
  if x.code = 0 ∨ x.code = 5 then (d.wr Reg.trlCmdStatus (setField st 5 2 x.slot)).wr Reg.trlCmdBucket (BitVec.ofNat 32 x.bucket)
  else d.wr Reg.trlCmdStatus st

/-- The area a command names (R381). -/
def Dev.cmdArea (d : Dev) (table : Bool) : Nat := if table then d.shadowArea else d.trl.active

/-- Command INSERT (R378, R381). -/
def Dev.trlInsert (d : Dev) : Dev :=
  match d.trl.cmd with
  | some (1, table) =>
    let r := if table then d.insertIn d.shadowArea d.cmdEntry false else d.insert d.cmdEntry false
    r.1.trlCmdEnd r.2
  | _ => d

/-- Command DELETE (R381). -/
def Dev.trlDelete (d : Dev) : Dev :=
  match d.trl.cmd with
  | some (2, table) =>
    match (if table && !d.shadowOn then none else d.findIn (d.cmdArea table) (leBytes 16 (entKey d.cmdEntry))) with
    | none => d.trlCmdEnd { code := 2 }
    | some x =>
      let a := d.slotAddr (d.cmdArea table) x.1 x.2
      if entLock (d.entAt a) then d.trlCmdEnd { code := 5, bucket := x.1, slot := x.2 }
      else
        let d := if table then d.pipeWrite a (putBits (d.entAt a) 240 1 0) else d.removeEnt a
        d.trlCmdEnd { code := 0, bucket := x.1, slot := x.2 }
  | _ => d

/-- Command FIND (R381). -/
def Dev.trlFind (d : Dev) : Dev :=
  match d.trl.cmd with
  | some (3, table) =>
    match (if table && !d.shadowOn then none else d.findIn (d.cmdArea table) (leBytes 16 (entKey d.cmdEntry))) with
    | none => d.trlCmdEnd { code := 2 }
    | some x =>
      let e := d.entAt (d.slotAddr (d.cmdArea table) x.1 x.2)
      let d := (List.range 8).foldl (fun d k => d.wr (0x64_0000 + 4 * k) (BitVec.ofNat 32 (bitsOf e (32 * k) 32))) d
      d.trlCmdEnd { code := 0, bucket := x.1, slot := x.2 }
  | _ => d

/-- A write of 1 to TRL_RQ_POP (R380). -/
def Dev.rehashPop (d : Dev) : Dev := d.onTrl fun x => { x with fifo := x.fifo.drop 1 }

/-! ### Sweeper -/

/-- The sweeper visits one entry (R382). -/
def Dev.sweepEntry (d : Dev) (a : Nat) : Dev :=
  let e := d.entAt a
  if !entValid e || entLock e || !typeOk (entType e) then d
  else if entHit e then d.pipeWrite a (putBits e 244 1 0)
  else if !entAge e then d.pipeWrite a (putBits e 245 1 1)
  else if entStatic e then d
  else (d.removeEnt a).bump Reg.trlAgeRemove

/-- The sweeper visits the next bucket of the active area (R382); a STANDBY twin's does not run (R439). -/
def Dev.sweepVisit (d : Dev) : Dev :=
  if !d.flag Reg.trlAgePeriod 12 || d.standby then d
  else
    let b := d.trl.sweep % d.areaNb d.trl.active
    let d := (List.range 4).foldl (fun d s => d.sweepEntry (d.slotAddr d.trl.active b s)) d
    d.onTrl fun x => { x with sweep := (b + 1) % d.areaNb d.trl.active }

/-! ### Generations and the table switch -/

/-- The generation can advance: no transfer of the next one is inside (R387). -/
def Dev.genFree (d : Dev) : Bool := !(d.genList.contains ((d.generation + 1) % 256))

/-- The generation advances, or the advance is refused (R387). -/
def Dev.genAdvance (d : Dev) : Dev :=
  if d.genFree then d.wr Reg.trlGen (BitVec.ofNat 32 ((d.generation + 1) % 256)) else d.reject

/-- The rehash owner admits a requester's commit (R385). -/
def Dev.ownerAdmits (d : Dev) (who : Nat) : Bool :=
  if d.flag Reg.trlCtrl 1 then !(decide (58 ≤ who) && decide (who ≤ 61)) else !decide (who < 32)

/-- A register access of a requester ends as PERM (R283). -/
def Dev.permFail (d : Dev) (who off detail : Nat) : Dev :=
  d.log { agent := who, orig := d.devid, path := 10, posted := true, write := true } .perm (d.devid * 2 ^ 38 + off) detail

/-- A commit of TRL_TABLE_SELECT (R365, R385, R386). -/
def Dev.tableSwitch (d : Dev) (who area : Nat) : Dev :=
  if !d.ownerAdmits who then d.permFail who Reg.trlTableSelect 5
  else if !d.shadowOn || !d.genFree || !d.areaOk area then d.reject
  else
    let d := (d.setFld Reg.trlCtrl 4 1 0).wr Reg.trlTableSelect (BitVec.ofNat 32 area)
    (d.onTrl fun x => { x with active := area, sweep := 0 }).genAdvance

/-! ### The watch ring -/

/-- SIZE_LOG of the watch ring (R392). -/
def Dev.watchLog (d : Dev) : Nat := let n := d.fld Reg.trlWatchCfg 1 5; if 6 ≤ n ∧ n ≤ 16 then n else 10

/-- LBU_STATUS.OWNER of a bus owner (R148). -/
def ownerCode : BusOwner → Nat
  | .orangery => 0 | .lbm0 => 1 | .lbm1 => 2 | .other => 3

/-- TERM of a watch record (R388); a cycle still waiting when it ended was ended by the Orangery's timeout. -/
def termCode : Termination → Nat
  | .normal => 0 | .retry => 1 | .busError => 2 | .cfail => 3 | .wait => 4

/-- A record enters the watch ring (R388), or is dropped when it is full. -/
def Dev.watchPut (d : Dev) (rec' : List Byte) : Dev :=
  let wi := d.fld Reg.trlWatchWi 0 16
  let size := 2 ^ d.watchLog
  if (wi + 65536 - d.fld Reg.trlWatchRi 0 16) % 65536 = size - 1 then d.bump Reg.trlWatchDrop
  else
    let a := 0x10_0000_0000 + d.rd64 Reg.trlWatchBase % 2 ^ 34 / (32 * size) * (32 * size) + 32 * (wi % size)
    (((d.setNum a 32 (leNat rec')).freshWords a 32).rsvStore 66 0 true (d.devid * 2 ^ 38 + a) 32).wr Reg.trlWatchWi
      (BitVec.ofNat 32 ((wi + 1) % 65536))

/-- An observation of the bus monitor is looked up (R371, R388); a STANDBY twin writes no watch records (R439), and a locked match counts as a
miss (R384). -/
def Dev.watch (d : Dev) (o : BusOwner) (addr : Word) (beN : Nat) (write burst : Bool) (t : Termination) (data : Word) : Dev :=
  let r := d.lookup (leBytes 1 6 ++ leBytes 4 (addr.toNat / 4 * 4) ++ List.replicate 11 0)
  let d := r.1
  match r.2 with
  | none => d
  | some a =>
    let x := entAction (d.entAt a)
    if entLock (d.entAt a) || d.standby || !d.flag Reg.trlWatchCfg 0 || !x.testBit (if write then 1 else 0) || !x.testBit (2 + ownerCode o)
    then d
    else
      d.watchPut (leBytes 8 d.blv.vt ++ leBytes 4 addr.toNat ++ leBytes 4 data.toNat ++
        leBytes 1 (ownerCode o + 4 * b2n write + 8 * b2n burst + 16 * b2n (d.lbu.locked == some o)) ++
        leBytes 1 (beN + 16 * termCode t) ++ leBytes 2 (bitsOf x 6 16) ++ List.replicate 12 0)

/-- BUS_MONITOR_OBSERVE (R139): the observation feeds LWATCH, and an external master's write inside a zone counts as its store. -/
def execBusMonitorObserve (master : BusOwner) (addr : Word) (beN : BitVec 4) (write burst : Bool) (t : Termination) (data : Word)
    (s : State) : Host.Outcome State Fault Refusal :=
  s.act fun d =>
    let d : Dev := match master, write with
      | .lbm0, true => d.monitorStore 0 addr.toNat beN.toNat burst
      | .lbm1, true => d.monitorStore 1 addr.toNat beN.toNat burst
      | _, _ => d
    d.watch master addr beN.toNat write burst t data

/-- LCLK_LOSS (R142): with CLK_SRC = 1 a missing or irregular LCLK is a loss. -/
def execLclkLoss (s : State) : Host.Outcome State Fault Refusal := s.act fun d => if d.flag Reg.lbuCtl 2 then d.clockLost else d

/-- TRL_INSERT (R378, R381). -/
def execTrlInsert (s : State) : Host.Outcome State Fault Refusal := s.act fun d => d.trlInsert

/-- TRL_DELETE (R381). -/
def execTrlDelete (s : State) : Host.Outcome State Fault Refusal := s.act fun d => d.trlDelete

/-- TRL_FIND (R381). -/
def execTrlFind (s : State) : Host.Outcome State Fault Refusal := s.act fun d => d.trlFind

/-- SWEEPER_VISIT (R382). -/
def execSweeperVisit (s : State) : Host.Outcome State Fault Refusal := s.act fun d => d.sweepVisit

/-- TABLE_SWITCH (R386): the commit of a requester. -/
def execTableSwitch (who : Requester) (area : Fin 2) (s : State) : Host.Outcome State Fault Refusal :=
  s.act fun d => d.tableSwitch who.val area.val

/-- GEN_ADVANCE (R387). -/
def execGenAdvance (s : State) : Host.Outcome State Fault Refusal := s.act fun d => d.genAdvance

/-- REHASH_POP (R380). -/
def execRehashPop (s : State) : Host.Outcome State Fault Refusal := s.act fun d => d.rehashPop

end Sys2Proof.Machine
end

