-- ==== Sys2Proof/Machine/Gatehouse.lean ====
section
/-!
DEFINITION. Meters (R394–R396), flood guards (R397), the Gatehouse's freshness values and MACs (R398–R406), the key store (R407–R409) and the
MACsec transforms (R410–R412).
-/
namespace Sys2Proof.Machine

/-- The device with the Gatehouse changed. -/
def Dev.onGth (d : Dev) (f : Gth → Gth) : Dev := { d with gth := f d.gth }

/-! ### Meters -/

/-- Word `w` of meter `m` (R394). -/
def meterReg (m w : Nat) : Nat := 0x74_0000 + 32 * m + 4 * w

/-- The meter's buckets; full where it has not been in use. -/
def Dev.meterTok (d : Dev) (m : Nat) : MeterTok :=
  (d.gth.meters.find? fun x => x.m == m).getD
    { m := m, c := 256 * (d.rd (meterReg m 2)).toNat, e := 256 * (d.rd (meterReg m 3)).toNat, since := d.blv.vt }

/-- The device with a meter's buckets set. -/
def Dev.setMeter (d : Dev) (x : MeterTok) : Dev := d.onGth fun g => { g with meters := x :: g.meters.filter fun y => y.m != x.m }

/-- EN of a meter goes from 0 to 1: both buckets are filled (R394). -/
def Dev.meterFill (d : Dev) (m : Nat) : Dev :=
  d.setMeter { m := m, c := 256 * (d.rd (meterReg m 2)).toNat, e := 256 * (d.rd (meterReg m 3)).toNat, since := d.blv.vt }

/-- The refill of R395 step 1. -/
def Dev.meterRefill (d : Dev) (m : Nat) : MeterTok :=
  let x := d.meterTok m
  let dt := d.blv.vt - x.since
  let cbs := 256 * (d.rd (meterReg m 2)).toNat
  let ebs := 256 * (d.rd (meterReg m 3)).toNat
  let c := x.c + (d.rd (meterReg m 0)).toNat * dt * 256 / 1_000_000_000
  let excess := if d.flag (meterReg m 4) 2 then c - cbs else 0
  { m := m, c := min cbs c, e := min ebs (x.e + (d.rd (meterReg m 1)).toNat * dt * 256 / 1_000_000_000 + excess), since := d.blv.vt }

/-- A meter handles a frame of `len` data bytes (R395): the colour, 0 green, 1 yellow, 2 dropped red. -/
def Dev.meterOp (d : Dev) (m len : Nat) (dei : Bool) : Dev × Nat :=
  if !d.flag (meterReg m 4) 0 then (d, 0)
  else
    let n := 256 * (if d.flag (meterReg m 4) 3 then 1 else len)
    let x := d.meterRefill m
    let yellowIn := d.flag (meterReg m 4) 1 && dei
    if !yellowIn ∧ n ≤ x.c then ((d.setMeter { x with c := x.c - n }).bump (meterReg m 5), 0)
    else if n ≤ x.e then
      let d := d.setMeter { x with e := x.e - n }
      if d.flag (meterReg m 4) 4 then ((d.bump (meterReg m 7)).bump Reg.gthMeterRed, 2) else (d.bump (meterReg m 6), 1)
    else (((d.setMeter x).bump (meterReg m 7)).bump Reg.gthMeterRed, 2)

/-! ### Flood guards -/

/-- Word `w` of guard `g` (R397). -/
def guardReg (g w : Nat) : Nat := 0x76_4000 + 16 * g + 4 * w

/-- The lowest-numbered enabled guard a CAN frame meets (R397). -/
def Dev.guardFor (d : Dev) (ch id : Nat) (ide : Bool) : Option Nat :=
  (List.range 512).find? fun g =>
    d.flag (guardReg g 2) 7 && d.fld (guardReg g 2) 0 6 == ch &&
      (d.fld (guardReg g 0) 0 29 ^^^ id) &&& d.fld (guardReg g 1) 0 29 == 0 &&
      (!d.flag (guardReg g 1) 29 || d.flag (guardReg g 0) 29 == ide)

/-- BURST of a guard (R397). -/
def Dev.guardBurst (d : Dev) (g : Nat) : Nat := max 1 (d.fld (guardReg g 2) 8 8)

/-- EN of a guard goes from 0 to 1: it is filled (R397). -/
def Dev.guardFill (d : Dev) (g : Nat) : Dev := d.onGth fun x => { x with guards := x.guards.filter fun y => y.g != g }

/-- A frame meets a guard (R397): it gains a token every MIN_GAP on the frames' SOF_VT; answers whether the frame passes. -/
def Dev.guardPass (d : Dev) (g sof : Nat) : Dev × Bool :=
  let burst := d.guardBurst g
  let gap := 10_000 * max 1 (d.fld (guardReg g 2) 16 16)
  let x := (d.gth.guards.find? fun y => y.g == g).getD { g := g, tokens := burst, since := sof }
  let gained := (sof - x.since) / gap
  let full := decide (burst ≤ x.tokens + gained)
  let tokens := min burst (x.tokens + gained)
  let since := if full then sof else x.since + gained * gap
  let set := fun (d : Dev) (n : Nat) => d.onGth fun y =>
    { y with guards := { g := g, tokens := n, since := since } :: y.guards.filter fun z => z.g != g }
  if 0 < tokens then (set d (tokens - 1), true)
  else (((set d 0).bump (guardReg g 3)).bump Reg.gthGuardDrop, false)

/-- The flood guards admit a received CAN frame (R397). -/
def Dev.guardsAdmit (d : Dev) (ch id : Nat) (ide : Bool) (sof : Nat) : Dev × Bool :=
  if !d.flag Reg.gthCtl 1 then (d, true)
  else
    match d.guardFor ch id ide with
    | some g => d.guardPass g sof
    | none => (d, true)

/-! ### Profiles -/

/-- Word `w` of profile `k` (R399). -/
def profReg (k w : Nat) : Nat := 0x76_0000 + 32 * k + 4 * w

/-- MODE of a profile (R399): 5–7 act as 0. -/
def Dev.profMode (d : Dev) (k : Nat) : Nat := let m := d.fld (profReg k 0) 0 3; if m ≤ 4 then m else 0

/-- MAC_BITS of a profile (R399). -/
def Dev.profMac (d : Dev) (k : Nat) : Nat := min 128 (max 24 (d.fld (profReg k 2) 0 8))

/-- TFV_BITS of a profile (R399). -/
def Dev.profTfv (d : Dev) (k : Nat) : Nat := min 32 (d.fld (profReg k 2) 8 8)

/-- TLOG of a profile (R399). -/
def Dev.profTlog (d : Dev) (k : Nat) : Nat := min 40 (max 10 (d.fld (profReg k 2) 16 6))

/-- LAST_FV of a profile (R399). -/
def Dev.lastFv (d : Dev) (k : Nat) : Nat := d.rd64 (profReg k 4)

/-- TB of a profile (R400). -/
def Dev.tagBytes (d : Dev) (k : Nat) : Nat := (d.profTfv k + d.profMac k + 7) / 8

/-- The key in a slot, where it holds one of the given USE (R407). -/
def Dev.keyOf (d : Dev) (slot use : Nat) : Option (List Nat) :=
  (d.gth.slots.find? fun s => s.slot == slot && s.use == use).map fun s => natBytes s.key

/-- The truncated MAC of data under a key and freshness value (R400). -/
def Dev.macOf (d : Dev) (k : Nat) (key : List Nat) (data : List Byte) (fv : Nat) : Nat :=
  cmac key (beList 2 (d.fld (profReg k 1) 16 16) ++ natBytes data ++ beList 8 fv) / 2 ^ (128 - d.profMac k)

/-- The tag of R400: the transmitted freshness bits, then the truncated MAC, packed from the most significant bit. -/
def Dev.tagOf (d : Dev) (k fv mac : Nat) : List Byte :=
  let x := fv % 2 ^ d.profTfv k * 2 ^ d.profMac k + mac
  byteNats (beList (d.tagBytes k) (x * 2 ^ (8 * d.tagBytes k - d.profTfv k - d.profMac k)))

/-- Why a frame fails stage 4 (R402, R404). -/
inductive AuthCause where
  | mac | stale | short | key | exhaust
  deriving DecidableEq, Repr

/-- CAUSE of a failure record (R404). -/
def causeCode : AuthCause → Nat
  | .mac => 1 | .stale => 2 | .short => 3 | .key => 4 | .exhaust => 5

/-- Generation under a profile (R401): the data with its tag, or the cause of failure. -/
def Dev.genTag (d : Dev) (k : Nat) (data : List Byte) : Except AuthCause (Dev × List Byte) :=
  match d.keyOf (d.fld (profReg k 0) 16 10) 1 with
  | none => .error .key
  | some key =>
    let t := d.blv.vt / 2 ^ d.profTlog k % 2 ^ 48
    let last := d.lastFv k
    if t ≤ last / 2 ^ 16 ∧ last % 2 ^ 16 = 0xFFFF then .error .exhaust
    else
      let c := if t = last / 2 ^ 16 then last % 2 ^ 16 + 1 else 0
      let fv := max (t * 2 ^ 16 + c) (last + 1)
      let d := ((d.wr64 (profReg k 4) fv).bump (profReg k 6)).bump Reg.gthGenCount
      .ok (d, data ++ d.tagOf k fv (d.macOf k key data fv))

/-- The candidate freshness values of a verification (R402), ascending. -/
def fvCandidates (tfv r last tr : Nat) : List Nat :=
  let ticks := (if tr = 0 then [] else [tr - 1]) ++ [tr, (tr + 1) % 2 ^ 48]
  ((ticks.filter fun t => last / 2 ^ 16 ≤ t).filterMap fun t =>
    if 16 ≤ tfv then
      if t % 2 ^ (tfv - 16) = r / 2 ^ 16 then some (t * 2 ^ 16 + r % 2 ^ 16) else none
    else
      let c0 := if t = last / 2 ^ 16 then last % 2 ^ 16 + 1 else 0
      let c := c0 + (r + 2 ^ tfv - c0 % 2 ^ tfv) % 2 ^ tfv
      if c ≤ 0xFFFF then some (t * 2 ^ 16 + c) else none).filter fun fv => last < fv

/-- Verification under a profile (R402): the authenticated data, or the cause of failure. -/
def Dev.verifyTag (d : Dev) (k : Nat) (data : List Byte) (sof : Nat) : Except AuthCause (Dev × List Byte) :=
  let tb := d.tagBytes k
  if data.length < tb then .error .short
  else
    let keys := ((d.keyOf (d.fld (profReg k 0) 16 10) 1).toList) ++
      (if d.flag (profReg k 0) 5 then (d.keyOf (d.fld (profReg k 1) 0 10) 1).toList else [])
    if keys = [] then .error .key
    else
      let body := data.take (data.length - tb)
      let tag := beNum (natBytes (data.drop (data.length - tb))) / 2 ^ (8 * tb - d.profTfv k - d.profMac k)
      let cands := fvCandidates (d.profTfv k) (tag / 2 ^ d.profMac k) (d.lastFv k) (sof / 2 ^ d.profTlog k % 2 ^ 48)
      if cands = [] then .error .stale
      else
        match cands.find? fun fv => keys.any fun key => d.macOf k key body fv == tag % 2 ^ d.profMac k with
        | some fv => .ok (((d.wr64 (profReg k 4) fv).bump (profReg k 6)).bump Reg.gthAuthOk, body)
        | none => .error .mac

/-- A failure of stage 4 (R404): counted, recorded under FAIL_LOG; answers whether the frame is dropped. -/
def Dev.authFailed (d : Dev) (k : Nat) (cause : AuthCause) (f : Frame) : Dev × Bool :=
  let d := (d.bump (profReg k 7)).bump Reg.gthAuthFail
  let drop := !d.flag (profReg k 0) 3 || cause == .exhaust
  if !d.flag (profReg k 0) 4 then (d, drop)
  else if 64 ≤ d.gth.fails.length then (d.bump Reg.gthFailOvf, drop)
  else
    let id := if f.pdu then 0xFFFF_FFFF else if f.kind = 1 then leNat (f.fmeta.take 4) % 2 ^ 29 else leNat (f.fmeta.take 1) % 64
    let r := leBytes 8 (if f.pdu then d.blv.vt else f.sof) ++ leBytes 1 k ++ leBytes 1 (causeCode cause) ++ leBytes 1 f.src ++
      leBytes 1 (b2n drop) ++ leBytes 4 id
    (d.onGth fun g => { g with fails := g.fails ++ [r] }, drop)

/-- The end of a failed stage 4: the frame goes on with AUTH_FAIL = 1, or is dropped (R404). -/
def Dev.authFail (d : Dev) (k : Nat) (cause : AuthCause) (f : Frame) : Dev × Option Frame :=
  let r := d.authFailed k cause f
  (r.1, if r.2 then none else some { f with authFail := true })

/-- Verification of a frame under a profile in MODE 1–3 (R402, R403). -/
def Dev.authVerify (d : Dev) (k : Nat) (f : Frame) : Dev × Option Frame :=
  match d.verifyTag k f.data f.sof with
  | .error c => d.authFail k c f
  | .ok (d', body) =>
    match d.profMode k with
    | 1 => (d', some { f with authOk := true })
    | 2 => (d', some { f with authOk := true, data := body })
    | _ =>
      let q := d.fld (profReg k 2) 24 8
      if d'.profMode q ≠ 4 then d'.authFail k .key f
      else
        match d'.genTag q body with
        | .error c => d'.authFail k c f
        | .ok (d'', data) => (d'', some { f with authOk := true, data := data })

/-- Generation for a frame or a PDU under a profile (R401, R403, R405): a profile of another MODE fails with cause KEY. -/
def Dev.authGenerate (d : Dev) (k : Nat) (f : Frame) : Dev × Option Frame :=
  if d.profMode k ≠ 4 then d.authFail k .key f
  else
    match d.genTag k f.data with
    | .error c => d.authFail k c f
    | .ok (d', data) => (d', some { f with authOk := true, data := data })

/-! ### Key store -/

/-- A key is installed in a slot (R407). -/
def Dev.installKey (d : Dev) (slot use version : Nat) (key : List Byte) : Dev :=
  d.onGth fun g =>
    let rest := g.slots.filter fun s => s.slot != slot
    if use = 1 ∨ use = 2 then
      let s : KeySlot := { slot := slot, use := use, key := key, version := version }
      { g with slots := rest.filter (fun x => x.slot < slot) ++ s :: rest.filter fun x => slot < x.slot }
    else { g with slots := rest }

/-- VERSION of a slot; 0 when empty (R407, R409). -/
def Dev.keyVersion (d : Dev) (slot : Nat) : Nat := ((d.gth.slots.find? fun s => s.slot == slot).map (·.version)).getD 0

/-- The device-unique key (R408). -/
def Dev.deviceKey (_d : Dev) : List Nat := beList 32 (Config.deviceKey 0).toNat

/-- The 64 bytes of the blob window (R409). -/
def Dev.blobWindow (d : Dev) : List Byte := (List.range 16).flatMap fun k => leBytes 4 (d.rd (0x77_9000 + 4 * k)).toNat

/-- The device with bytes put into the blob window. -/
def Dev.setBlob (d : Dev) (b : List Byte) : Dev :=
  (List.range 16).foldl (fun d k => d.wr (0x77_9000 + 4 * k) (BitVec.ofNat 32 (leNat ((b.drop (4 * k)).take 4)))) d

/-- A key blob unwrapped into a slot (R408, R409): the RESULT. -/
def Dev.loadBlob (d : Dev) (slot : Nat) (b : List Byte) : Dev × Nat :=
  if (b.getD 3 0).toNat ≠ 1 then (d, 1)
  else
    let blocks := (List.range 6).map fun i => beNum (natBytes ((b.drop (8 + 8 * i)).take 8))
    match kwUnwrap d.deviceKey blocks with
    | none => (d, 2)
    | some p =>
      if p.headD 0 ≠ beNum (natBytes (b.take 8)) then (d, 2)
      else if leNat (b.take 2) % 1024 ≠ slot then (d, 3)
      else
        let version := leNat ((b.drop 4).take 3)
        if version < d.keyVersion slot then (d, 4)
        else
          let key := (p.drop 1).flatMap fun x => byteNats (beList 8 x)
          let attr := (b.getD 2 0).toNat
          (d.installKey slot (attr % 4) version (if attr.testBit 2 then key else key.take 16), 0)

/-- The blob of a slot's key (R408). -/
def Dev.wrapBlob (d : Dev) (s : KeySlot) : List Byte :=
  let head := leBytes 2 s.slot ++ leBytes 1 (s.use + 4 * b2n (decide (s.key.length = 32))) ++ leBytes 1 1 ++ leBytes 3 s.version ++ leBytes 1 0
  let key := natBytes (s.key ++ List.replicate (32 - s.key.length) 0)
  let blocks := beNum (natBytes head) :: (List.range 4).map fun i => beNum ((key.drop (8 * i)).take 8)
  head ++ (kwWrap d.deviceKey blocks).flatMap (fun x => byteNats (beList 8 x)) ++ List.replicate 8 0

/-- A key-store operation starts (R409): SEQ advances, BUSY is 1 and its RESULT is held for its end. -/
def Dev.keyBusy (d : Dev) (result : Nat) : Dev :=
  let st := d.rd Reg.gthKeyStatus
  (d.wr Reg.gthKeyStatus (setField (setField st 0 2 1) 8 8 (fieldOf st 8 8 + 1))).onGth fun g => { g with keyOp := some result }

/-- A commit of GTH_KEY_CTL (R409): OP 1 LOAD, 2 ERASE, 3 EXPORT. -/
def Dev.keyCommit (d : Dev) (who slot op : Nat) : Dev :=
  if 58 ≤ who ∧ who ≤ 61 then d.permFail who Reg.gthKeyCtl 7
  else if op = 0 then d
  else if op = 2 ∧ who ≠ 63 then d.permFail who Reg.gthKeyCtl 1
  else if d.gth.keyOp.isSome then d.reject
  else
    match op with
    | 1 => let r := d.loadBlob slot d.blobWindow; r.1.keyBusy r.2
    | 2 => (d.installKey slot 0 0 []).keyBusy 0
    | _ =>
      match d.gth.slots.find? fun s => s.slot == slot with
      | some s => (d.setBlob (d.wrapBlob s)).keyBusy 0
      | none => d.keyBusy 5

/-- The running key-store operation ends (R409). -/
def Dev.keyDone (d : Dev) : Dev :=
  match d.gth.keyOp with
  | some r => (d.wr Reg.gthKeyStatus (setField (setField (d.rd Reg.gthKeyStatus) 0 2 2) 2 3 r)).onGth fun g => { g with keyOp := none }
  | none => d

/-- A write of 1 to GTH_FAIL_POP (R404). -/
def Dev.failPop (d : Dev) : Dev := d.onGth fun g => { g with fails := g.fails.drop 1 }

/-! ### MACsec -/

/-- A register of the SecY of MAC `i` (R421). -/
def secReg (r i : Nat) : Nat := r + 0x40 * i

/-- TX SA `a` of MAC `i` (R412). -/
def txSaReg (i a : Nat) : Nat := 0x77_0000 + 0x200 * i + 0x10 * a

/-- RX SC `r` of MAC `i`. -/
def rxScReg (i r : Nat) : Nat := 0x77_0040 + 0x200 * i + 0x60 * r

/-- RX SA `a` of SC `r` of MAC `i`. -/
def rxSaReg (i r a : Nat) : Nat := 0x77_0050 + 0x200 * i + 0x60 * r + 0x10 * a

/-- The key of an SA, where the SA is valid and its slot of USE SAK (R412). -/
def Dev.saKey (d : Dev) (off : Nat) : Option (List Nat) := if d.flag off 15 then d.keyOf (d.fld off 0 10) 2 else none

/-- A frame protected for its MAC (R411, R412): the protected frame, or none where no SA may send it. -/
def Dev.secProtect (d : Dev) (i : Nat) (data : List Byte) : Dev × Option (List Byte) :=
  let an := d.fld (secReg Reg.gthMsCtl i) 7 2
  let sa := txSaReg i an
  let pn := (d.rd (sa + 4)).toNat
  match d.saKey sa with
  | none => (d.bump (secReg Reg.gthMsOutPnExhaust i), none)
  | some key =>
    if pn = 0xFFFF_FFFF then (d.bump (secReg Reg.gthMsOutPnExhaust i), none)
    else
      let conf := d.flag (secReg Reg.gthMsCtl i) 2
      let withSci := d.flag (secReg Reg.gthMsCtl i) 3
      let sci := d.rd64 (secReg Reg.gthMsTxSci i)
      let user := natBytes (data.drop 12)
      let tci := 32 * b2n withSci + 12 * b2n conf + an
      let head := natBytes (data.take 12) ++ [0x88, 0xE5, tci, if user.length < 48 then user.length else 0] ++ beList 4 pn ++
        (if withSci then beList 8 sci else [])
      let iv := sci * 2 ^ 32 + pn
      let body := if conf then gctr key (iv * 2 ^ 32 + 1) user else user
      let tag := if conf then gcmTag key iv head body else gcmTag key iv (head ++ user) []
      ((d.wr (sa + 4) (BitVec.ofNat 32 (pn + 1))).bump (secReg Reg.gthMsOutProtected i), some (byteNats (head ++ body ++ beList 16 tag)))

/-- A received MACsec frame validated and decrypted (R411, R412): the frame without its SecTAG and ICV, or none where it is discarded. -/
def Dev.secValidate (d : Dev) (i : Nat) (data : List Byte) : Dev × Option (List Byte) :=
  let b := natBytes data
  let tci := b.getD 14 0
  let withSci := tci.testBit 5
  let hl := if withSci then 28 else 20
  let pn := beNum ((b.drop 16).take 4)
  let sci := if withSci then beNum ((b.drop 20).take 8) else beNum ((b.drop 6).take 6) * 2 ^ 16 + 1
  let strict := decide (2 ≤ d.fld (secReg Reg.gthMsCtl i) 4 2)
  let check := d.fld (secReg Reg.gthMsCtl i) 4 2 != 0
  let crypt := tci.testBit 2
  let body := (b.drop hl).take (b.length - hl - 16)
  let head := b.take hl
  let plain := byteNats (b.take 12 ++ body)
  if b.length < hl + 16 then (d.bump (secReg Reg.gthMsInNotValid i), none)
  else
    let sc := (List.range 4).find? fun r => d.flag (rxScReg i r + 8) 0 && d.rd64 (rxScReg i r) == sci
    let sa := sc.bind fun r => (d.saKey (rxSaReg i r (tci % 4))).map fun key => (rxSaReg i r (tci % 4), key)
    match sa with
    | none => (d.bump (secReg Reg.gthMsInNoSa i), if strict || crypt then none else some plain)
    | some (off, key) =>
      let replay := d.flag (secReg Reg.gthMsCtl i) 6
      if replay ∧ pn < (d.rd (off + 4)).toNat then (d.bump (secReg Reg.gthMsInLate i), none)
      else if !check then (d, if crypt then none else some plain)
      else
        let iv := sci * 2 ^ 32 + pn
        let icv := beNum (b.drop (b.length - 16))
        let tag := if crypt then gcmTag key iv head body else gcmTag key iv (head ++ body) []
        if tag ≠ icv then
          if strict || crypt then (d.bump (secReg Reg.gthMsInNotValid i), none) else (d.bump (secReg Reg.gthMsInInvalid i), some plain)
        else
          let low := max (d.rd (off + 4)).toNat (pn + 1 - (d.rd (secReg Reg.gthMsWindow i)).toNat)
          let d := if replay then d.wr (off + 4) (BitVec.ofNat 32 low) else d
          (d.bump (secReg Reg.gthMsInOk i), some (byteNats (b.take 12 ++ if crypt then gctr key (iv * 2 ^ 32 + 1) body else body)))

/-- KEY_SLOT_LOAD (R409). -/
def execKeySlotLoad (who : Requester) (slot : Fin 1024) (s : State) : Host.Outcome State Fault Refusal :=
  s.act fun d => d.keyCommit who.val slot.val 1

/-- KEY_SLOT_ERASE (R409). -/
def execKeySlotErase (who : Requester) (slot : Fin 1024) (s : State) : Host.Outcome State Fault Refusal :=
  s.act fun d => d.keyCommit who.val slot.val 2

/-- KEY_SLOT_EXPORT (R409). -/
def execKeySlotExport (who : Requester) (slot : Fin 1024) (s : State) : Host.Outcome State Fault Refusal :=
  s.act fun d => d.keyCommit who.val slot.val 3

/-- KEY_OP_DONE (R409). -/
def execKeyOpDone (s : State) : Host.Outcome State Fault Refusal := s.act fun d => d.keyDone

/-- FAIL_POP (R404). -/
def execFailPop (s : State) : Host.Outcome State Fault Refusal := s.act fun d => d.failPop

end Sys2Proof.Machine
end

