-- ==== Sys2Proof/Machine/Frames.lean ====
section
/-!
DEFINITION. The frame path from reception to the Pergola: frame headers (R328–R330), CAN, LIN, Ethernet, tunnel and Itmos ingress
(R333–R342, R350), lookups and parking (R368, R384), the action stages (R346), capture rings (R348), signals and PDUs (R351–R353), and
admission to the Pergola (R354).
-/
namespace Sys2Proof.Machine

/-! ### Frames and their layout -/

/-- The frame header (R329). -/
def Frame.header (f : Frame) : List Byte :=
  leBytes 1 f.kind ++ leBytes 1 f.src ++ leBytes 2 f.data.length ++ leBytes 2 f.group ++
    leBytes 1 (b2n f.critical + 2 * b2n f.authOk + 4 * b2n f.authFail + 8 * b2n f.yellow + 32 * b2n f.pdu + 64 * b2n f.tunnelled +
      128 * b2n f.dropped) ++
    leBytes 1 (match f.eq with | some q => q + 8 | none => 0) ++ leBytes 8 f.sof ++ leBytes 2 f.sofFrac ++ leBytes 2 0 ++
    (f.fmeta ++ List.replicate (12 - f.fmeta.length) 0) ++ leBytes 16 f.dmask

/-- The frame as it crosses the Pergola and Itmos: header, data, trailer (R328, R330). -/
def Frame.bytes (f : Frame) : List Byte := f.header ++ f.data ++ leBytes 1 f.status ++ leBytes 3 0 ++ leBytes 4 (min f.eofDelta (2 ^ 32 - 1))

/-- The cells, or capture slots, of a frame with `n` data bytes (R328, R348). -/
def frameCells (n : Nat) : Nat := (n + 56 + 63) / 64

/-- The frame's class (R332). -/
def Frame.cls (f : Frame) : Nat := if f.critical then 4 else 5

/-- The 12 bytes of a CAN frame record (R334). -/
def canRecordBytes (r : CanRecord) : List Byte :=
  leBytes 4 (r.id.toNat + 2 ^ 29 * b2n r.ide + 2 ^ 30 * b2n r.rtr) ++
    leBytes 1 (r.fmt.val + 4 * b2n r.brs + 8 * b2n r.esi + 16 * b2n r.sec) ++ [r.sdt, r.vcid, 0] ++ leBytes 4 r.af.toNat

/-- The identifier of a CAN frame's record. -/
def Frame.canId (f : Frame) : Nat := leNat (f.fmeta.take 4) % 2 ^ 29

/-- IDE of a CAN frame's record. -/
def Frame.canIde (f : Frame) : Bool := (leNat (f.fmeta.take 4)).testBit 29

/-- RTR of a CAN frame's record. -/
def Frame.canRtr (f : Frame) : Bool := (leNat (f.fmeta.take 4)).testBit 30

/-- FMT of a CAN frame's record. -/
def Frame.canFmt (f : Frame) : Nat := (f.fmeta.getD 4 0).toNat % 4

/-- The lengths a CAN format allows (R334). -/
def canLenOk (fmt n : Nat) : Bool :=
  match fmt with
  | 0 => decide (n ≤ 8)
  | 1 => decide (n ≤ 8) || [12, 16, 20, 24, 32, 48, 64].contains n
  | 2 => decide (1 ≤ n) && decide (n ≤ 2048)
  | _ => false

/-! ### Pavilion registers and buffers -/

/-- Pool blocks a frame occupies (R335). -/
def poolBlocks (n : Nat) : Nat := max 1 ((n + 63) / 64)

/-- Free pool blocks of a Pavilion (R335). -/
def Dev.poolFree (d : Dev) (p : Nat) : Nat :=
  let rx := ((d.frm.ins.filter fun x => x.port == 8 && decide (x.chan < 64) && x.chan / 8 == p).map (·.blocks)).foldl (· + ·) 0
  let tx := ((List.range 8).flatMap fun c => (d.can.getD (8 * p + c) {}).bufs.map fun b => poolBlocks b.2.frame.data.length).foldl (· + ·) 0
  3584 - (rx + tx)

/-- The device with a CAN channel changed. -/
def Dev.onCan (d : Dev) (ch : Nat) (f : CanCh → CanCh) : Dev := { d with can := d.can.modify ch f }

/-- A frame received or sent without error lowers the error counter (R333, ISO 11898-1): one above 127 falls to a value from 119 to 127
that the standard leaves open. -/
def Dev.errDown (d : Dev) (ch : Nat) (tx : Bool) : Dev :=
  if tx then d.onCan ch fun c => { c with txErr := c.txErr - 1 }
  else
    let open' := 119 + Config.freeNat d.fresh % 9
    (d.onCan ch fun c => { c with rxErr := if 127 < c.rxErr then open' else c.rxErr - 1 }).tick

/-! ### Keys -/

/-- A key padded with zeros to 16 bytes (R368). -/
def padKey (l : List Byte) : List Byte := l ++ List.replicate (16 - l.length) 0

/-- The CANID or LINID key of a frame (R368). -/
def Frame.fieldKey (f : Frame) : List Byte :=
  if f.kind = 1 then
    padKey (leBytes 1 3 ++ leBytes 2 f.orig ++ leBytes 1 f.src ++ leBytes 1 (f.canFmt + 4 * b2n f.canIde) ++ leBytes 4 f.canId ++
      leBytes 1 (if f.canFmt = 2 then (f.fmeta.getD 6 0).toNat else 0))
  else padKey (leBytes 1 4 ++ leBytes 2 f.orig ++ leBytes 1 f.src ++ leBytes 1 ((f.fmeta.getD 0 0).toNat % 64))

/-- An Ethernet frame carries an 802.1Q tag (R341). -/
def ethTagged (data : List Byte) : Bool := data.getD 12 0 == 0x81 && data.getD 13 0 == 0x00

/-- The tag control information of a tagged frame. -/
def ethTci (data : List Byte) : Nat := 256 * (data.getD 14 0).toNat + (data.getD 15 0).toNat

/-- The EtherType behind the tag, and where the payload starts. -/
def ethType (data : List Byte) : Nat × Nat :=
  let o := if ethTagged data then 16 else 12
  (256 * (data.getD o 0).toNat + (data.getD (o + 1) 0).toNat, o + 2)

/-- The VID a frame is looked up by (R341): untagged and priority-tagged frames take DEF_VID. -/
def Dev.ethVid (d : Dev) (i : Nat) (data : List Byte) : Nat :=
  if ethTagged data ∧ ethTci data % 4096 ≠ 0 then ethTci data % 4096 else d.fld (ethReg Reg.ethCfg i) 16 12

/-- The STREAM key of a frame (R368). -/
def Dev.streamKey (d : Dev) (i : Nat) (data : List Byte) : List Byte :=
  padKey (leBytes 1 2 ++ leBytes 1 i ++ leBytes 2 (d.ethVid i data) ++ data.take 6)

/-- The ETH_L2 key of an address and the frame's VID (R368). -/
def Dev.l2Key (d : Dev) (i : Nat) (data addr : List Byte) : List Byte := padKey (leBytes 1 1 ++ leBytes 2 (d.ethVid i data) ++ addr)

/-! ### Frames in ingress -/

/-- The frame in ingress with a number. -/
def Dev.inFrame? (d : Dev) (id : Nat) : Option InFrame := d.frm.ins.find? fun x => x.id == id

/-- The device with a frame in ingress changed. -/
def Dev.updIn (d : Dev) (id : Nat) (f : InFrame → InFrame) : Dev :=
  d.onFrm fun p => { p with ins := p.ins.map fun x => if x.id = id then f x else x }

/-- A frame leaves the ingress path. -/
def Dev.dropIn (d : Dev) (id : Nat) : Dev := d.onFrm fun p => { p with ins := p.ins.filter fun x => x.id != id }

/-- A received frame enters the ingress path and its key the lookup bus (R346). -/
def Dev.enterFrame (d : Dev) (f : Frame) (port chan blocks : Nat) (key : List Byte) (alt : Option (List Byte)) : Dev :=
  d.onFrm fun p =>
    let x : InFrame := { id := p.nextId, chan := chan, port := port, frame := f, blocks := blocks }
    let k : LookupKey := { id := p.nextId, ord := none, chan := chan, key := key, alt := alt }
    { p with nextId := p.nextId + 1, ins := p.ins ++ [x], keys := p.keys ++ [k] }

/-- A frame of this device received now: its stamp, ORIG_DEV and trailer fields. -/
def Dev.newFrame (d : Dev) (kind src : Nat) (x : Received) (fmeta : List Byte) : Frame :=
  { kind := kind, src := src, data := x.data, sof := x.sof, sofFrac := x.frac.val, fmeta := fmeta,
    eofDelta := min (d.blv.vt - x.sof) (2 ^ 32 - 1), ts := d.stamp, orig := d.devid }

/-- A CAN frame received without error (R333, R335, R338, R397). -/
def Dev.canRx (d : Dev) (ch : Nat) (r : CanRecord) (x : Received) : Dev :=
  let ctl := canReg Reg.pavCanCtl ch
  let fmtOk := match r.fmt.val with | 0 => true | 1 => d.flag ctl 1 | 2 => d.flag ctl 2 | _ => false
  if d.silent || !d.flag ctl 0 || (d.can.getD ch {}).busOff || !fmtOk || !canLenOk r.fmt.val x.data.length then d
  else
    let d := (d.bump (canReg Reg.pavCanRxOk ch)).errDown ch false
    let g := d.guardsAdmit ch r.id.toNat r.ide x.sof
    let d := g.1
    if !g.2 then d
    else
      let held := (d.frm.ins.filter fun y => y.port == 8 && y.chan == ch).length
      let blocks := poolBlocks x.data.length
      if 32 ≤ held ∨ d.poolFree (ch / 8) < blocks then d.bump (canReg Reg.pavCanRxNobuf ch)
      else
        let f := d.newFrame 1 ch x (canRecordBytes r)
        d.enterFrame f 8 ch blocks f.fieldKey none

/-- A LIN frame observed on the bus (R340). -/
def Dev.linRx (d : Dev) (l id : Nat) (enhanced ok : Bool) (x : Received) : Dev :=
  if d.silent || !d.flag (linReg Reg.pavLinCtl l) 0 || x.data.isEmpty || decide (8 < x.data.length) then d
  else
    let d := { d with lin := d.lin.modify l fun y => { y with header := none } }
    if !ok then d.bump (linReg Reg.pavLinRxErr l)
    else
      let f := (d.bump (linReg Reg.pavLinRxOk l)).newFrame 2 (64 + l) x (leBytes 1 (id + 64 * b2n enhanced) ++ List.replicate 11 0)
      (d.bump (linReg Reg.pavLinRxOk l)).enterFrame f 8 (64 + l) 0 f.fieldKey none

/-! ### IEEE 1722 unpacking -/

/-- ACF messages of an AVTP payload (R349, R350): type and bytes of each, header included. -/
def acfMessages : Nat → List Byte → List (Nat × List Byte)
  | 0, _ => []
  | n + 1, bs =>
    let len := 4 * ((bs.getD 0 0).toNat % 2 * 256 + (bs.getD 1 0).toNat)
    if bs.length < 4 ∨ len = 0 ∨ bs.length < len then []
    else ((bs.getD 0 0).toNat / 2, bs.take len) :: acfMessages n (bs.drop len)

/-- The stream_id, sequence_num and ACF payload of an AVTP frame in NTSCF or TSCF format (R349). -/
def avtpParts (p : List Byte) : Option (Nat × Nat × List Byte) :=
  let sid := beNum (natBytes ((p.drop 4).take 8))
  match (p.getD 0 0).toNat with
  | 0x82 => some (sid, (p.getD 3 0).toNat, (p.drop 12).take ((p.getD 1 0).toNat % 8 * 256 + (p.getD 2 0).toNat))
  | 0x02 => some (sid, (p.getD 2 0).toNat, (p.drop 24).take (256 * (p.getD 20 0).toNat + (p.getD 21 0).toNat))
  | _ => none

/-- One ACF message becomes a frame (R350); messages of other types are skipped. -/
def Dev.acfFrame (d : Dev) (t : Nat) (ts sof frac : Nat) (typ : Nat) (m : List Byte) : Dev :=
  let b := natBytes m
  let pad := b.getD 2 0 / 64
  let mtv := (b.getD 2 0).testBit 5
  let stamp := if mtv ∧ typ ≠ 2 then beNum ((b.drop 4).take 8) else sof
  let enter := fun (d : Dev) (kind bus hl : Nat) (fmeta : List Byte) =>
    let src := 0x80 + 32 * t + bus
    let f : Frame := { kind := kind, src := src, data := (m.drop hl).take (m.length - hl - pad), sof := stamp,
                       sofFrac := if mtv ∧ typ ≠ 2 then 0 else frac, fmeta := fmeta, ts := ts, orig := d.devid, tunnelled := true }
    d.enterFrame f 7 src 0 f.fieldKey none
  if typ = 1 ∨ typ = 2 then
    let flags := b.getD 2 0
    let o := if typ = 1 then 12 else 4
    let r : CanRecord := { id := BitVec.ofNat 29 (beNum ((b.drop o).take 4)), ide := flags.testBit 3, rtr := flags.testBit 4,
                           fmt := if flags.testBit 1 then 1 else 0, brs := flags.testBit 2, esi := flags.testBit 0 }
    enter d 1 (b.getD 3 0 % 32) (o + 4) (canRecordBytes r)
  else if typ = 3 then
    let enh := Config.freeNat d.fresh % 2
    enter d.tick 2 (b.getD 2 0 % 32) 12 (leBytes 1 (b.getD 3 0 % 64 + 64 * enh) ++ List.replicate 11 0)
  else d

/-- The tunnel whose RX side an AVTP frame belongs to (R350). -/
def Dev.rxTunnel (d : Dev) (sid : Nat) : Option Nat :=
  (List.range 4).find? fun t => d.flag (Reg.ethTunCtl + 0x20 * t) 1 && d.rd64 (Reg.ethTunSidLo + 0x20 * t) == sid

/-- An AVTP frame of an enabled tunnel is unpacked (R350). -/
def Dev.avtpUnpack (d : Dev) (t seq ts sof frac : Nat) (payload : List Byte) : Dev :=
  let gap := match (d.tun.getD t {}).rxSeq with | some s => (s + 1) % 256 != seq | none => false
  let d := if gap then d.bump (Reg.ethTunSeqGap + 0x20 * t) else d
  let d := { d with tun := d.tun.modify t fun u => { u with rxSeq := some seq } }
  (acfMessages payload.length payload).foldl (fun d m => d.acfFrame t ts sof frac m.1 m.2) d

/-! ### Ethernet ingress -/

/-- A parsed Ethernet frame: a tunnel's, or looked up by STREAM and then ETH_L2; with a good FCS its source is learned (R342, R350, R377). -/
def Dev.ethParse (d : Dev) (i : Nat) (f : Frame) : Dev :=
  let e := ethType f.data
  let tunnel := if e.1 = 0x22F0 ∧ f.status = 0 then
      (avtpParts (f.data.drop e.2)).bind fun p => (d.rxTunnel p.1).map fun t => (t, p.2)
    else none
  match tunnel with
  | some (t, p) => d.avtpUnpack t p.1 f.ts f.sof f.sofFrac p.2
  | none =>
    let d := d.enterFrame f 7 (96 + i) 0 (d.streamKey i f.data) (some (d.l2Key i f.data (f.data.take 6)))
    if f.status = 0 then d.learn i (d.l2Key i f.data ((f.data.drop 6).take 6)) else d

/-- CT of a class at a Pergola input (R359). -/
def Dev.cutThrough (d : Dev) (port cls : Nat) : Bool := d.flag (Reg.pglInCfg + 0x40 * port) cls

/-- The receive timestamp after the PHY correction of R251, in 2^-16 ns. -/
def Dev.rxStamp (d : Dev) (i : Nat) (x : Received) : Nat := x.sof * 2 ^ 16 + x.frac.val - d.fld (Reg.blvPtpLat + 4 * i) 16 16 * 2 ^ 12

/-- An Ethernet frame at a MAC (R341, R342, R411). -/
def Dev.ethRx (d : Dev) (i : Nat) (fcsOk : Bool) (x : Received) : Dev :=
  let m := d.mac.getD i {}
  let n := x.data.length + 4
  if d.silent || !d.flag (ethReg Reg.ethCtl i) 0 || !m.link then d
  else if !fcsOk ∧ !d.cutThrough 7 4 ∧ !d.cutThrough 7 5 then d.bump (ethReg Reg.ethRxFcsErr i)
  else if n < 64 ∨ min 9216 (max 64 (d.fld (ethReg Reg.ethCfg i) 0 14)) < n then d.bump (ethReg Reg.ethRxLenErr i)
  else if (ethType x.data).1 = 0x8808 then d.bump (ethReg Reg.ethRxCtrl i)
  else
    let d := d.bump (ethReg (if fcsOk then Reg.ethRxOk else Reg.ethRxFcsErr) i)
    let st := d.rxStamp i x
    let f := d.newFrame 3 (96 + i) { x with sof := st / 2 ^ 16, frac := ⟨st % 65536, Nat.mod_lt _ (by decide)⟩ } (List.replicate 12 0)
    let f := { f with status := if fcsOk then 0 else 1 }
    let rxEn := d.flag (secReg Reg.gthMsCtl i) 1
    if fcsOk ∧ d.flag (ethReg Reg.ethCtl i) 3 ∧ (ethType x.data).1 = 0x88F7 ∧ natBytes (x.data.take 6) = [0x01, 0x80, 0xC2, 0x00, 0x00, 0x0E] then
      d.emit (.gptp i x.data f.sof f.sofFrac)
    else if rxEn ∧ x.data.getD 12 0 = 0x88 ∧ x.data.getD 13 0 = 0xE5 then
      if !fcsOk then d
      else
        let q : SecFrame := { mac := i, data := f.data, sof := f.sof, frac := f.sofFrac, ts := f.ts, eofDelta := f.eofDelta }
        d.onFrm fun p => { p with sec := p.sec ++ [q] }
    else
      let d := if rxEn then d.bump (secReg Reg.gthMsInUntagged i) else d
      if rxEn ∧ 2 ≤ d.fld (secReg Reg.gthMsCtl i) 4 2 then d else d.ethParse i f

/-- The oldest MACsec frame of a MAC at P12 is validated and returned for parsing (R411). -/
def Dev.secRx (d : Dev) (i : Nat) : Dev :=
  match d.frm.sec.find? fun q => q.mac == i with
  | none => d
  | some q =>
    let d := d.onFrm fun p => { p with sec := p.sec.erase q }
    let r := d.secValidate i q.data
    match r.2 with
    | none => r.1
    | some data =>
      let f : Frame := { kind := 3, src := 96 + i, data := data, sof := q.sof, sofFrac := q.frac, ts := q.ts, orig := d.devid, eofDelta := q.eofDelta }
      r.1.ethParse i f

/-! ### Itmos ingress -/

/-- A FRAME transfer of a link becomes a frame of this device's ingress (R328, R329). -/
def Dev.itmFrame (d : Dev) (n : Nat) (t : Transfer) : Dev :=
  if !d.linkUp n || d.silent then d
  else if t.op ≠ 0x30 ∨ t.length = 0 ∨ 9216 < t.length ∨ t.data.length ≠ t.length + 56 ∨ leNat ((t.data.drop 2).take 2) % 2 ^ 14 ≠ t.length then
    d.protoErr n (some t)
  else
    let h := t.data.take 48
    let tr := t.data.drop (48 + t.length)
    let f : Frame := { kind := (h.getD 0 0).toNat % 16, src := (h.getD 1 0).toNat, data := (t.data.drop 48).take t.length,
                       sof := leNat ((h.drop 8).take 8), sofFrac := leNat ((h.drop 16).take 2), fmeta := (h.drop 20).take 12,
                       status := (tr.getD 0 0).toNat, eofDelta := leNat ((tr.drop 4).take 4), ts := t.ts, orig := t.orig }
    let port := 2 + n
    if f.status ≠ 0 ∧ !d.cutThrough port 4 ∧ !d.cutThrough port 5 then d
    else
      match f.kind with
      | 1 | 2 => d.enterFrame f port (112 + n) 0 f.fieldKey none
      | 3 => d.enterFrame f port (112 + n) 0 (d.streamKey (f.src - 96) f.data) (some (d.l2Key (f.src - 96) f.data (f.data.take 6)))
      | _ => d

/-! ### Lookups -/

/-- The destination group's bits (R347). -/
def Dev.groupMask (d : Dev) (g : Nat) : Nat :=
  (List.range 4).foldr (fun k acc => (d.rd (0x54_0000 + 16 * g + 4 * k)).toNat + 2 ^ 32 * acc) 0

/-- The miss handling of a frame's channel (R346): its MISS_GROUP, or none where the frame is dropped. A channel without miss registers of
this device gives no group. -/
def Dev.missGroup (d : Dev) (x : InFrame) : Option Nat :=
  if x.port = 8 ∧ x.chan < 64 then
    if d.flag (canReg Reg.pavCanCtl x.chan) 6 then none else some (d.fld (canReg Reg.pavCanCtl x.chan) 16 12)
  else if x.port = 7 ∧ 96 ≤ x.chan ∧ x.chan < 110 then
    if d.flag (ethReg Reg.ethCtl (x.chan - 96)) 28 then none else some (d.fld (ethReg Reg.ethCtl (x.chan - 96)) 16 12)
  else none

/-- A frame takes an action at its lookup (R16, R346, R347, R369): the destination group's bits, class, queue, age limit and generation. -/
def Dev.takeAction (d : Dev) (x : InFrame) (typ action : Nat) : InFrame :=
  let f := x.frame
  let f : Frame := { f with group := bitsOf action 0 12, dmask := d.groupMask (bitsOf action 0 12), critical := action.testBit 12,
                            eq := if action.testBit 16 then some (bitsOf action 13 3) else none, gen := d.generation,
                            maxAge := bitsOf action 46 10 * (match bitsOf action 56 2 with | 0 => 100 | 1 => 1000 | 2 => 10000 | _ => 100000) }
  { x with frame := f, hit := typ, action := action, left := bitsOf action 58 4,
           stage := if bitsOf action 58 4 = 0 then .ready else .lookup }

/-- A frame's lookup misses (R346 stage 1). -/
def Dev.frameMiss (d : Dev) (id : Nat) : Dev :=
  match d.inFrame? id with
  | none => d
  | some x =>
    match d.missGroup x with
    | none => d.dropIn id
    | some g => let y := d.takeAction x 0 g; d.updIn id fun _ => y

/-- The key of SIGNAL entry `ord` of a frame entry with key `key` (R368). -/
def signalKey (key : List Byte) (ord : Nat) : List Byte :=
  leBytes 1 5 ++ ((key.drop 1).take 14) ++ leBytes 1 (ord + 16 * (key.headD 0).toNat)

/-- A lookup of a frame or signal hits an entry (R346, R370). -/
def Dev.keyHit (d : Dev) (k : LookupKey) (e : Nat) : Dev :=
  match d.inFrame? k.id with
  | none => d
  | some x =>
    match k.ord with
    | none =>
      let y := d.takeAction x (entType e) (entAction e)
      let ks := (List.range y.left).map fun i => ({ id := k.id, ord := some i, chan := k.chan, key := signalKey k.key i } : LookupKey)
      (d.updIn k.id fun _ => y).onFrm fun p => { p with keys := p.keys ++ ks }
    | some o =>
      d.updIn k.id fun x => { x with sigs := x.sigs ++ [(o, entAction e)], left := x.left - 1, stage := if x.left ≤ 1 then .ready else x.stage }

/-- A lookup misses: a STREAM miss goes on with the ETH_L2 key (R342), a missing SIGNAL entry is skipped (R370), and a frame takes its
channel's miss handling. -/
def Dev.keyMiss (d : Dev) (k : LookupKey) : Dev :=
  match k.ord, k.alt with
  | some _, _ => d.updIn k.id fun x => { x with left := x.left - 1, stage := if x.left ≤ 1 then .ready else x.stage }
  | none, some a => d.onFrm fun p => { p with keys := { k with key := a, alt := none } :: p.keys }
  | none, none => d.frameMiss k.id

/-- The miss handling a lookup takes when its lock outlasts the limit or the park queue is full (R384). -/
def Dev.keyGiveUp (d : Dev) (k : LookupKey) : Dev := d.keyMiss { k with alt := none }

/-- A key is looked up (R373, R376, R384); `since` is when it first parked. -/
def Dev.tryKey (d : Dev) (k : LookupKey) (since : Option Nat) : Dev :=
  let r := d.lookup k.key
  let d := r.1
  match r.2 with
  | none => d.keyMiss k
  | some a =>
    if entLock (d.entAt a) then
      match since with
      | some t => d.onFrm fun p => { p with parked := p.parked ++ [{ key := k, since := t }] }
      | none =>
        if 64 ≤ d.frm.parked.length then (d.bump Reg.trlParkFull).keyGiveUp k
        else (d.bump Reg.trlParked).onFrm fun p => { p with parked := p.parked ++ [{ key := k, since := d.blv.vt }] }
    else
      let d := d.hitMark a
      d.keyHit k (d.entAt a)

/-- The next key on the lookup bus that no parked lookup of its channel holds back (R374, R384). -/
def Dev.nextKey (d : Dev) : Option LookupKey := d.frm.keys.find? fun k => !(d.frm.parked.any fun p => p.key.chan == k.chan)

/-- TRL_LOOKUP (R373). -/
def Dev.trlLookup (d : Dev) : Dev :=
  match d.nextKey with
  | none => d
  | some k => (d.onFrm fun p => { p with keys := p.keys.erase k }).tryKey k none

/-- A parked lookup is retried in its place (R384). -/
def Dev.parkRetry (d : Dev) (i : Nat) : Dev :=
  match d.frm.parked[i]? with
  | none => d
  | some p =>
    let behind := d.frm.parked.drop (i + 1)
    let d := (d.onFrm fun q => { q with parked := q.parked.take i }).tryKey p.key (some p.since)
    d.onFrm fun q => { q with parked := q.parked ++ behind }

/-- TRL_LOCK_LIMIT in ns (R391). -/
def Dev.lockLimit (d : Dev) : Nat := 100 * max 1 (d.fld Reg.trlLockLimit 0 12)

/-- A lookup parked beyond TRL_LOCK_LIMIT takes the miss handling (R384). -/
def Dev.parkLimit (d : Dev) (i : Nat) : Dev :=
  match d.frm.parked[i]? with
  | none => d
  | some p =>
    if d.blv.vt < p.since + d.lockLimit then d
    else ((d.onFrm fun q => { q with parked := q.parked.take i ++ q.parked.drop (i + 1) }).bump Reg.trlLockOverrun).keyGiveUp p.key

/-! ### Capture rings -/

/-- A write of the frame path to a capture ring (R348). -/
def Dev.capWrite (d : Dev) (agent r id : Nat) (ga : Nat) (data : List Byte) : Dev :=
  d.issue { seq := 0, agent := agent, ident := d.devid, orig := d.devid, ing := .cap r, op := .write, posted := true, ga := ga,
            len := data.length, data := allOn data, otag := id, ts := d.stamp }

/-- The writes of a record's bytes, one per slot, from slot `slot` on. -/
def Dev.capWrites (d : Dev) (agent r id base slot : Nat) (bytes : List Byte) : Dev :=
  (List.range ((bytes.length + 63) / 64)).foldl (fun d i =>
    d.capWrite agent r id (base + 64 * (slot + i)) ((bytes.drop (64 * i)).take 64)) d

/-- A copy of a frame goes to a capture ring (R348): padded at the ring's end, dropped when it does not fit, none written by a STANDBY twin
(R439) or to a ring not in use. -/
def Dev.capRecord (d : Dev) (agent r : Nat) (f : Frame) : Dev :=
  if d.standby || !d.flag (capReg Reg.pglCrCfg r) 0 then d
  else
    let size := d.capSize r
    let wi := d.fld (capReg Reg.pglCrWi r) 0 16 + d.capAhead r
    let at' := wi % size
    let n := frameCells f.data.length
    let skip := if size < at' + n then size - at' else 0
    let used := (wi + 65536 - d.fld (capReg Reg.pglCrRi r) 0 16) % 65536
    if size - 1 < used + skip + n then d.bump (capReg Reg.pglCrDrop r)
    else
      let id := d.frm.nextId
      let base := d.rd64 (capReg Reg.pglCrBase r) % 2 ^ 48
      let c : CapRec := { id := id, ring := r, slots := skip + n, gen := f.gen }
      let d := d.onFrm fun p => { p with nextId := p.nextId + 1, caps := p.caps ++ [c] }
      let d := if 0 < skip then d.capWrites agent r id base at' (List.replicate 64 0) else d
      d.capWrites agent r id base ((at' + skip) % size) f.bytes

/-- A record's writes are all performed or ended: none waits, is in flight, or was sent to a peer without a WBAR. -/
def Dev.capDone (d : Dev) (c : CapRec) : Bool :=
  !(d.fab.held.any fun r => r.ing == .cap c.ring && r.otag == c.id) &&
    !(d.fab.reqs.any fun r => r.ing == .cap c.ring && r.otag == c.id && r.pendingWrite) &&
    !(d.fab.sent.any fun m => m.ing == .cap c.ring)

/-- WI of a ring advances over its oldest record (R348); writes sent to a peer are first covered by a WBAR (R224). -/
def Dev.capCommit (d : Dev) (r : Nat) : Dev :=
  match d.frm.caps.find? fun c => c.ring == r with
  | none => d
  | some c =>
    if d.capDone c then
      (d.setFld (capReg Reg.pglCrWi r) 0 16 (d.fld (capReg Reg.pglCrWi r) 0 16 + c.slots)).onFrm fun p => { p with caps := p.caps.erase c }
    else if d.fab.sent.any fun m => m.ing == .cap r then (d.wbarsFor 64).wbarsFor 65
    else d

/-! ### Signals and PDUs -/

/-- Word `w` of the descriptor of PDU `n` (R352). -/
def pduReg (n w : Nat) : Nat := 0x55_0000 + 32 * n + 4 * w

/-- The local address of a PDU image (R352). -/
def Dev.pduAddr (d : Dev) (n : Nat) : Nat := 0x01_0000_0000 + (d.fld Reg.pglPduBase 0 16 * 64 + 64 * n) % 2 ^ 22

/-- The 512 bits of a PDU image. -/
def Dev.pduImage (d : Dev) (n : Nat) : Nat := d.numAt (d.pduAddr n) 64

/-- The PDU engine writes an image through its own port of the SRAM (R10, R23). -/
def Dev.setImage (d : Dev) (n x : Nat) : Dev :=
  if d.pduImage n = x then d
  else ((d.setNum (d.pduAddr n) 64 x).freshWords (d.pduAddr n) 64).rsvStore 64 0 true (d.devid * 2 ^ 38 + d.pduAddr n) 64

/-- What the engine holds of a PDU. -/
def Dev.pduSt (d : Dev) (n : Nat) : PduSt := (d.frm.pdus.find? fun p => p.n == n).getD { n := n }

/-- The device with a PDU's engine state set. -/
def Dev.setPdu (d : Dev) (x : PduSt) : Dev := d.onFrm fun p => { p with pdus := x :: p.pdus.filter fun y => y.n != x.n }

/-- The bit positions of a field of `len` bits from `start` (R351): upward in Intel order, least significant first; in Motorola order
listed least significant first as well, the start bit last. -/
def fieldBits (motorola : Bool) (start len : Nat) : List Nat :=
  if motorola then
    ((List.range len).foldl (fun (acc : List Nat × Nat) _ =>
      (acc.2 :: acc.1, if acc.2 % 8 = 0 then acc.2 + 15 else acc.2 - 1)) ([], start)).1
  else (List.range len).map (start + ·)

/-- One SIGNAL entry is applied to its PDU image (R351, R370). -/
def Dev.applySignal (d : Dev) (data : List Byte) (x : Nat) : Dev :=
  let mot := x.testBit 20
  let len := bitsOf x 14 6 + 1
  let src := fieldBits mot (bitsOf x 0 14) len
  let n := bitsOf x 21 11
  if src.any fun p => 8 * data.length ≤ p then d.bump Reg.pglSigShort
  else
    let dst := fieldBits mot (bitsOf x 32 9) len
    let v := leNat data
    let img := d.pduImage n
    let img' := (src.zip dst).foldl (fun m p => if p.2 < 512 then putBits m p.2 1 (b2n (v.testBit p.1)) else m) img
    if x.testBit 52 ∧ img' = img then d
    else
      let img' := if x.testBit 50 then putBits img' (bitsOf x 41 9) 1 1 else img'
      let d := d.setImage n img'
      if x.testBit 51 then d.setPdu { d.pduSt n with trig := true } else d

/-- The signals of a frame, all in one operation, by ORD (R353, R370). -/
def Dev.applySignals (d : Dev) (x : InFrame) : Dev :=
  (List.range 15).foldl (fun d o => (x.sigs.filter fun s => s.1 == o).foldl (fun d s => d.applySignal x.frame.data s.2) d) d

/-! ### Admission to the Pergola -/

/-- A frame of `k` cells is admitted whole (R354). -/
def Dev.admits (d : Dev) (port out cls k : Nat) : Bool :=
  let own := d.classRsv cls - d.inCells port fun x => x.cls == cls
  let voq := d.inCells port fun x => x.cls == cls && x.outPort == out
  decide (k ≤ own) || (decide (k - own ≤ d.sharedFree port) && decide (voq + k ≤ max 1 (d.fld Reg.pglVoqMax 0 13)))

/-- A register of a Pergola port (R362). -/
def pglReg (r p : Nat) : Nat := r + 0x40 * p

/-- Cells cross from an input to an output port (R362). -/
def Dev.crossCells (d : Dev) (port out k : Nat) : Dev := (d.bump (pglReg Reg.pglInCells port) k).bump (pglReg Reg.pglOutCells out) k

/-- A frame transfer enters the Pergola, or is dropped at its ingress (R347, R354). -/
def Dev.sendXfer (d : Dev) (f : Frame) (port out : Nat) (egr : List Nat) (secured : Option Nat) : Dev :=
  let k := frameCells f.data.length
  if !d.admits port out f.cls k then
    let d := d.bump (pglReg Reg.pglInAdmitDrop port)
    if port = 7 ∧ 96 ≤ f.src ∧ f.src < 110 then d.bump (ethReg Reg.ethRxAdmitDrop (f.src - 96)) else d
  else
    let x : Xfer := { id := d.frm.nextId, frame := f, inPort := port, outPort := out, cls := f.cls, left := egr, cells := k, secured := secured }
    (d.onFrm fun p => { p with nextId := p.nextId + 1, xfers := p.xfers ++ [x] }).crossCells port out k

/-- A frame leaves on an Itmos link while that is UP or in RETRAIN (R328, R161). -/
def Dev.sendItm (d : Dev) (f : Frame) (port n : Nat) : Dev :=
  let k := frameCells f.data.length
  if !d.admits port (2 + n) f.cls k then
    let d := d.bump (pglReg Reg.pglInAdmitDrop port)
    if port = 7 ∧ 96 ≤ f.src ∧ f.src < 110 then d.bump (ethReg Reg.ethRxAdmitDrop (f.src - 96)) else d
  else
    let d := d.crossCells port (2 + n) k
    if d.linkUp n ∨ (d.link n).state = .retrain then
      d.sendGen n { op := 0x30, ts := f.ts, orig := f.orig, dst := (d.link n).peerDevid, length := f.data.length, tc := f.cls, data := f.bytes } f.gen
    else d

/-- Stage 9 (R346, R347): one transfer to each port that holds a set bit of DMASK; a port with TX_EN sends through P12 (R411). A STANDBY
twin forwards nothing. -/
def Dev.forward (d : Dev) (port chan : Nat) (f : Frame) : Dev :=
  if !d.live then d
  else
    let own := if chan < 128 then chan else 128
    let bits := (List.range 124).filter fun e => f.dmask.testBit e && e != own
    let sec := bits.filter fun e => decide (96 ≤ e) && decide (e < 110) && f.kind == 3 && d.flag (secReg Reg.gthMsCtl (e - 96)) 0
    let pav := bits.filter fun e => decide (e < 96)
    let eth := bits.filter fun e => (decide (96 ≤ e) && decide (e < 110) && !sec.contains e) || decide (120 ≤ e)
    let d := if pav.isEmpty then d else d.sendXfer f port 8 pav none
    let d := if eth.isEmpty then d else d.sendXfer f port 7 eth none
    let d := sec.foldl (fun d e => d.sendXfer f port 12 [e] (some (e - 96))) d
    (List.range 5).foldl (fun d n => if bits.contains (112 + n) then d.sendItm f port n else d) d

/-! ### The action stages -/

/-- The agent a frame's capture writes carry (R23). -/
def InFrame.agent (x : InFrame) : Nat := if x.port = 8 then 64 else 65

/-- Stage 2 (R346): the log copy, DROPPED = 1 when a later stage dropped the frame. -/
def Dev.logCopy (d : Dev) (x : InFrame) (orig : Frame) (dropped : Bool) : Dev :=
  if x.action.testBit 20 then d.capRecord x.agent (bitsOf x.action 17 3) { orig with dropped := dropped } else d

/-- Stage 7 (R346, R369): a rewrite that does not fit leaves the frame unchanged. -/
def rewrite (action : Nat) (f : Frame) : Frame :=
  let v := bitsOf action 64 29
  let tci := fun (x : Nat) => { f with data := f.data.take 14 ++ byteNats (beList 2 x) ++ f.data.drop 16 }
  match bitsOf action 62 2 with
  | 1 =>
    if f.kind = 1 ∧ (f.canIde ∨ v ≤ 0x7FF) then
      { f with fmeta := leBytes 4 (putBits (leNat (f.fmeta.take 4)) 0 29 v) ++ f.fmeta.drop 4 }
    else f
  | 2 => if f.kind = 3 ∧ ethTagged f.data then tci (putBits (putBits (ethTci f.data) 0 12 v) 13 3 (v / 4096)) else f
  | 3 => if f.kind = 3 ∧ ethTagged f.data then tci (putBits (ethTci f.data) 13 3 (v / 4096)) else f
  | _ => f

/-- DEI of a tagged Ethernet frame (R395). -/
def Frame.dei (f : Frame) : Bool := f.kind == 3 && ethTagged f.data && (ethTci f.data).testBit 12

/-- Stages 5 to 9 for a frame that has passed stage 4 (R346); `x.frame` is still the frame of stage 2. -/
def Dev.finishStages (d : Dev) (x : InFrame) (f : Frame) : Dev :=
  let m := if x.action.testBit 37 then d.meterOp (bitsOf x.action 25 12) f.data.length f.dei else (d, 0)
  let d := m.1
  if m.2 = 2 then (d.logCopy x x.frame true).dropIn x.id
  else
    let f := { f with yellow := m.2 == 1 }
    let d := d.logCopy x x.frame false
    let d := d.applySignals { x with frame := f }
    let f := rewrite x.action f
    let d := if x.action.testBit 24 then d.capRecord x.agent (bitsOf x.action 21 3) f else d
    (d.forward x.port x.chan f).dropIn x.id

/-- AUTH_PROF of a frame that stage 4 concerns: none while AUTH_EN = 0 or the profile is off (R398, R399). -/
def Dev.authProf (d : Dev) (x : InFrame) : Option Nat :=
  let k := bitsOf x.action 38 8
  if d.flag Reg.gthCtl 0 ∧ k ≠ 0 ∧ d.profMode k ≠ 0 then some k else none

/-- Stages 1 to 4 of a frame whose action has returned (R346). A frame with a failed check in a class without cut-through is dropped at
ingress (R359). -/
def Dev.applyAction (d : Dev) (x : InFrame) : Dev :=
  let f := x.frame
  if d.silent || (f.status != 0 && !d.cutThrough x.port f.cls) then d.dropIn x.id
  else
    let sdu := bitsOf x.action 93 14
    if x.hit = 2 ∧ sdu ≠ 0 ∧ sdu < f.data.length then
      let d := if 96 ≤ f.src ∧ f.src < 110 then d.bump (ethReg Reg.ethRxQciDrop (f.src - 96)) else d
      (d.logCopy x f true).dropIn x.id
    else
      match d.authProf x with
      | some _ => d.updIn x.id fun x => { x with stage := .verify }
      | none => d.finishStages x f

/-- The frame numbered `id` is the first of its ingress channel still in the path (R332, R398). -/
def Dev.firstOfChan (d : Dev) (x : InFrame) : Bool := (d.frm.ins.find? fun y => y.chan == x.chan && y.port == x.port) == some x

/-! ### PDU sends -/

/-- The update bits that a PDU's SIGNAL entries in the active area define (R353). -/
def Dev.updateBits (d : Dev) (n : Nat) : List Nat :=
  let t := d.trl.active
  let lo := 0x10_0000_0000 + d.areaOff t
  (cellsIn d.mem lo (lo + 128 * d.areaNb t)).filterMap fun c =>
    if (c.1 - lo) % 32 = 30 ∧ c.2.getLsbD 0 ∧ bitsOf c.2.toNat 1 3 = 5 then
      let x := entAction (d.entAt (c.1 - 30))
      if bitsOf x 21 11 = n ∧ x.testBit 50 then some (bitsOf x 41 9) else none
    else none

/-- EGRESS of a PDU, where it is one of those R352 lists. -/
def Dev.pduEgress (d : Dev) (n : Nat) : Option Nat :=
  let e := d.fld (pduReg n 0) 0 8
  if e < 96 ∨ (120 ≤ e ∧ e < 124) then some e else none

/-- MIN_GAP of a PDU has ended since its last send (R353). -/
def Dev.gapOver (d : Dev) (n : Nat) : Bool :=
  match (d.pduSt n).last with
  | some t => decide (t + 100_000 * d.fld (pduReg n 6) 0 16 ≤ d.blv.vt)
  | none => true

/-- A frame enters a timed buffer (R337, R352). -/
def Dev.loadTimed (d : Dev) (ch b : Nat) (f : Frame) : Dev :=
  d.onCan ch fun c =>
    let rest := c.bufs.filter fun x => x.1 != b
    { c with bufs := rest.filter (fun x => x.1 < b) ++ (b, { frame := f, pending := false }) :: rest.filter fun x => b < x.1,
             offer := if c.offer = some b then none else c.offer }

/-- Buffer `b` of a CAN channel is timed (R337). -/
def Dev.timedBuf (d : Dev) (ch b : Nat) : Bool := (d.rd (canReg Reg.pavCanTxtimed ch)).getLsbD b

/-- A PDU's frame goes out (R353): with BIND = 1 it is loaded into its timed buffer, otherwise it enters the Pergola. -/
def Dev.pduOut (d : Dev) (n : Nat) (f : Frame) : Dev :=
  match d.pduEgress n with
  | none => d
  | some e =>
    if d.flag (pduReg n 0) 11 ∧ e < 64 then
      let b := d.fld (pduReg n 0) 12 4 + 16 * d.fld (pduReg n 0) 23 1
      if d.timedBuf e b ∧ canLenOk f.canFmt f.data.length then d.loadTimed e b f else d
    else d.forward 8 128 f

/-- The signing profile of a PDU (R405). -/
def Dev.pduProf (d : Dev) (n : Nat) : Nat := if d.flag Reg.gthCtl 0 then d.fld (0x76_8000 + n / 4 * 4) (8 * (n % 4)) 8 else 0

/-- A send of a PDU (R353): the image is copied and its update bits cleared in one operation; a signed send goes to P12 first (R405). -/
def Dev.pduSend (d : Dev) (n : Nat) : Dev :=
  let img := d.pduImage n
  let e := (d.pduEgress n).getD 0
  let f : Frame := { kind := if 64 ≤ e ∧ e < 96 then 2 else 1, src := 0x7F, data := (leBytes 64 img).take (min 64 (d.fld (pduReg n 0) 16 7)),
                     critical := d.flag (pduReg n 0) 10, pdu := true, sof := d.blv.vt,
                     fmeta := (List.range 3).flatMap fun k => leBytes 4 (d.rd (pduReg n (1 + k))).toNat, dmask := 2 ^ e, ts := d.stamp,
                     orig := d.devid, gen := d.generation }
  let d := d.setImage n ((d.updateBits n).foldl (fun m p => putBits m p 1 0) img)
  let d := d.setPdu { n := n, last := some d.blv.vt }
  if d.pduProf n ≠ 0 then
    d.onFrm fun p =>
      let x : InFrame := { id := p.nextId, chan := 128, port := 8, frame := f, stage := .verify, pdu := some n }
      { p with nextId := p.nextId + 1, ins := p.ins ++ [x] }
  else d.pduOut n f

/-- A send that is due is performed, or waits for MIN_GAP (R353). -/
def Dev.pduDue (d : Dev) (n : Nat) : Dev :=
  if d.gapOver n then d.pduSend n else d.setPdu { d.pduSt n with trig := false, wait := true }

/-- MODE of a PDU, 0 where its EGRESS disables it (R352). -/
def Dev.pduMode (d : Dev) (n : Nat) : Nat := if (d.pduEgress n).isSome && !d.silent then d.fld (pduReg n 0) 8 2 else 0

/-- A cyclic send is due at this VT (R353). -/
def Dev.cyclicDue (d : Dev) (n : Nat) : Bool :=
  let period := (d.rd (pduReg n 4)).toNat
  d.pduMode n / 2 == 1 && period != 0 && (((d.blv.vt / 1000 : Nat) : Int) - ((d.rd (pduReg n 5)).toNat : Int)) % (period : Int) == 0

/-- Stage 4 ends for a frame or PDU (R398, R405). -/
def authEnd (x : InFrame) (r : Dev × Option Frame) : Dev :=
  match r.2, x.pdu with
  | none, none => (r.1.logCopy x x.frame true).dropIn x.id
  | none, some _ => r.1.dropIn x.id
  | some f, none => r.1.finishStages x f
  | some f, some n => (r.1.dropIn x.id).pduOut n f

/-- A frame at the Gatehouse is verified, or signed, under its profile (R401–R404). -/
def Dev.authRun (d : Dev) (id : Nat) (generate : Bool) : Dev :=
  match d.inFrame? id with
  | none => d
  | some x =>
    if x.stage ≠ .verify ∨ !d.firstOfChan x then d
    else
      match x.pdu with
      | some n => if generate then authEnd x (d.authGenerate (d.pduProf n) x.frame) else d
      | none =>
        match d.authProf x with
        | none => d.finishStages x x.frame
        | some k =>
          if generate then (if d.profMode k = 4 then authEnd x (d.authGenerate k x.frame) else d)
          else if d.profMode k ≠ 4 then authEnd x (d.authVerify k x.frame) else d

/-! ### Commands -/

/-- CAN_FRAME_RX (R333). -/
def execCanFrameRx (ch : Fin 64) (r : CanRecord) (x : Received) (s : State) : Host.Outcome State Fault Refusal :=
  s.act fun d => d.canRx ch.val r x

/-- LIN_FRAME_RX (R340). -/
def execLinFrameRx (l : Fin 32) (id : Fin 64) (enhanced ok : Bool) (x : Received) (s : State) : Host.Outcome State Fault Refusal :=
  s.act fun d => d.linRx l.val id.val enhanced ok x

/-- ETH_FRAME_RX (R342). -/
def execEthFrameRx (i : Fin 14) (fcsOk : Bool) (x : Received) (s : State) : Host.Outcome State Fault Refusal :=
  s.act fun d => d.ethRx i.val fcsOk x

/-- ITM_FRAME (R329). -/
def execItmFrame (n : Fin 5) (t : Transfer) (s : State) : Host.Outcome State Fault Refusal := s.act fun d => d.itmFrame n.val t

/-- TRL_LOOKUP (R373). -/
def execTrlLookup (s : State) : Host.Outcome State Fault Refusal := s.act fun d => d.trlLookup

/-- PARK_RETRY (R384). -/
def execParkRetry (i : Nat) (s : State) : Host.Outcome State Fault Refusal := s.act fun d => d.parkRetry i

/-- PARK_LOCK_LIMIT (R384). -/
def execParkLockLimit (i : Nat) (s : State) : Host.Outcome State Fault Refusal := s.act fun d => d.parkLimit i

/-- LOOKUP_RESULT (R346): the frame numbered `id`, where it is next in its channel and its lookups have returned. -/
def execLookupResult (id : Nat) (s : State) : Host.Outcome State Fault Refusal :=
  s.act fun d =>
    match d.inFrame? id with
    | some x => if x.stage = .ready ∧ d.firstOfChan x then d.applyAction x else d
    | none => d

/-- AUTH_VERIFY (R402). -/
def execAuthVerify (id : Nat) (s : State) : Host.Outcome State Fault Refusal := s.act fun d => d.authRun id false

/-- AUTH_GENERATE (R401). -/
def execAuthGenerate (id : Nat) (s : State) : Host.Outcome State Fault Refusal := s.act fun d => d.authRun id true

/-- MACSEC_RX (R411). -/
def execMacsecRx (i : Fin 14) (s : State) : Host.Outcome State Fault Refusal := s.act fun d => d.secRx i.val

/-- CAPTURE_RECORD_COMMIT (R348). -/
def execCaptureRecordCommit (r : Fin 8) (s : State) : Host.Outcome State Fault Refusal := s.act fun d => d.capCommit r.val

/-- PDU_TRIGGERED_SEND (R353). -/
def execPduTriggeredSend (n : Fin 2048) (s : State) : Host.Outcome State Fault Refusal :=
  s.act fun d => if d.pduMode n.val % 2 = 1 ∧ (d.pduSt n.val).trig then d.pduDue n.val else d

/-- PDU_CYCLIC_SEND (R353). -/
def execPduCyclicSend (n : Fin 2048) (s : State) : Host.Outcome State Fault Refusal :=
  s.act fun d => if d.cyclicDue n.val then d.pduDue n.val else d

/-- PDU_GAP_END (R353). -/
def execPduGapEnd (n : Fin 2048) (s : State) : Host.Outcome State Fault Refusal :=
  s.act fun d => if (d.pduSt n.val).wait ∧ d.pduMode n.val ≠ 0 ∧ d.gapOver n.val then d.pduSend n.val else d

end Sys2Proof.Machine
end

