-- ==== Sys2Proof/Machine/Egress.lean ====
section
/-!
DEFINITION. The frame path from the Pergola to the pins: CAN transmit buffers and arbitration (R336–R338), LIN response tables and schedules
(R340), MAC queues, gates and shapers (R343–R345), MACsec transmission (R411), IEEE 1722 tunnels (R349), and the Pergola's promotion, loss
and plane events (R19, R357, R360).
-/
namespace Sys2Proof.Machine

/-! ### Taking transfers at an output -/

/-- A frame transfer may be taken at egress `e`: it is bound there, no cell of it is missing, and no earlier one of its input, class and
output still stands before it (R332, R357). -/
def Dev.xferAt (d : Dev) (id e : Nat) : Option Xfer :=
  match d.frm.xfers.find? fun x => x.id == id with
  | none => none
  | some x =>
    let before := (d.frm.xfers.takeWhile fun y => y.id != id).any fun y =>
      y.inPort == x.inPort && y.cls == x.cls && y.outPort == x.outPort && (y.left.contains e || y.lost != 0)
    if x.left.contains e && x.lost == 0 && !before then some x else none

/-- A transfer has reached egress `e`; it leaves the Pergola when no egress of its port is left. -/
def Dev.xferTaken (d : Dev) (id e : Nat) : Dev :=
  d.onFrm fun p =>
    { p with xfers := p.xfers.filterMap fun x => if x.id = id then (if x.left.erase e = [] then none else some { x with left := x.left.erase e })
      else some x }

/-! ### CAN -/

/-- A CAN channel can send a frame (R336): its kind, format and length. -/
def Dev.canSendable (d : Dev) (ch : Nat) (f : Frame) : Bool :=
  f.kind == 1 && canLenOk f.canFmt f.data.length &&
    match f.canFmt with
    | 0 => true
    | 1 => d.flag (canReg Reg.pavCanCtl ch) 1
    | _ => d.flag (canReg Reg.pavCanCtl ch) 2

/-- The lowest free buffer that is not timed (R336). -/
def Dev.freeBuf (d : Dev) (ch : Nat) : Option Nat :=
  (List.range 32).find? fun b => !d.timedBuf ch b && !((d.can.getD ch {}).bufs.any fun x => x.1 == b)

/-- A frame arrives from P8 for a CAN channel (R336, R338). -/
def Dev.canTake (d : Dev) (ch : Nat) (f : Frame) : Dev :=
  let c := d.can.getD ch {}
  match d.freeBuf ch with
  | some b =>
    if c.busOff || !d.flag (canReg Reg.pavCanCtl ch) 0 || !d.canSendable ch f || decide (d.poolFree (ch / 8) < poolBlocks f.data.length) then
      d.bump (canReg Reg.pavCanTxDrop ch)
    else
      d.onCan ch fun c => { c with bufs := c.bufs.filter (fun x => x.1 < b) ++ (b, { frame := f }) :: c.bufs.filter fun x => b < x.1 }
  | none => d.bump (canReg Reg.pavCanTxDrop ch)

/-- The bits a frame shows in arbitration, as a number: the lowest wins the bus (R336, ISO 11898-1). -/
def Frame.arbKey (f : Frame) : Nat :=
  let fd := b2n (decide (1 ≤ f.canFmt))
  if f.canIde then
    (f.canId / 2 ^ 18 * 4 + 3) * 2 ^ 20 + (f.canId % 2 ^ 18 * 4 + 2 * b2n f.canRtr + fd)
  else (f.canId % 2 ^ 11 * 4 + 2 * b2n f.canRtr) * 2 ^ 20 + (fd * 2 ^ 19 + b2n (f.canFmt == 2) * 2 ^ 18)

/-- The pending buffer whose frame would win arbitration; ties go to the lowest number (R336). -/
def winner : List (Nat × CanBuf) → Option (Nat × CanBuf)
  | [] => none
  | x :: t =>
    match winner t with
    | some y => if x.2.pending ∧ x.2.frame.arbKey ≤ y.2.frame.arbKey then some x else some y
    | none => if x.2.pending then some x else none

/-- The channel's choice at a SOF opportunity (R336): an expired frame is removed and the choice made again, at most once per buffer. -/
def Dev.canChoose (d : Dev) (ch : Nat) : Nat → Dev
  | 0 => d
  | n + 1 =>
    match winner (d.can.getD ch {}).bufs with
    | none => d.onCan ch fun c => { c with offer := none }
    | some (b, x) =>
      if d.tooOld x.frame.ts x.frame.maxAge then
        ((d.onCan ch fun c => { c with bufs := c.bufs.filter fun y => y.1 != b }).bump (canReg Reg.pavCanTxAgeDrop ch)).canChoose ch n
      else d.onCan ch fun c => { c with offer := some b }

/-- A channel may send (R336, R338, R339, R363, R434, R450). -/
def Dev.canActive (d : Dev) (ch : Nat) : Bool :=
  let c := d.can.getD ch {}
  let ctl := canReg Reg.pavCanCtl ch
  d.live && d.flag ctl 0 && !d.flag ctl 3 && c.sync && !c.busOff

/-- A frame has been sent (R337): a timed buffer with TXKEEP keeps it, any other is emptied. -/
def Dev.canSent (d : Dev) (ch : Nat) : Dev :=
  let c := d.can.getD ch {}
  match c.offer.bind fun b => c.bufs.find? fun x => x.1 == b with
  | none => d
  | some (b, x) =>
    let keep := d.timedBuf ch b && (d.rd (canReg Reg.pavCanTxkeep ch)).getLsbD b
    let bufs := if keep then c.bufs.map fun (y : Nat × CanBuf) => if y.1 = b then (y.1, { y.2 with pending := false }) else y
      else c.bufs.filter fun y => y.1 != b
    (((d.onCan ch fun c => { c with bufs := bufs, offer := none }).bump (canReg Reg.pavCanTxOk ch)).errDown ch true).emit
      (.can ch x.frame.fmeta x.frame.data)

/-- Entry into bus-off (R338): the frames of the non-timed buffers are removed and counted. -/
def Dev.canBusOff (d : Dev) (ch : Nat) : Dev :=
  let gone := (d.untimed ch).length
  let timed := d.rd (canReg Reg.pavCanTxtimed ch)
  ((d.onCan ch fun c => { c with busOff := true, sync := false, offer := none, bufs := c.bufs.filter fun x => timed.getLsbD x.1 }).bump
    (canReg Reg.pavCanTxDrop ch) gone).bump (canReg Reg.pavCanBusOffCount ch)

/-- A bus-off channel returns (R338, ISO 11898-1): its error counters are zero and it is on the bus. -/
def Dev.canReturn (d : Dev) (ch : Nat) : Dev := d.onCan ch fun c => { c with busOff := false, sync := true, txErr := 0, rxErr := 0 }

/-- A bus error moves the error counters (R363, ISO 11898-1). -/
def Dev.canErr (d : Dev) (ch : Nat) (tx eight : Bool) : Dev :=
  let n := if eight then 8 else 1
  (d.onCan ch fun c => if tx then { c with txErr := min 255 (c.txErr + n), offer := none } else { c with rxErr := min 255 (c.rxErr + n) }).bump
    (canReg Reg.pavCanBusErr ch)

/-- The staging area of a CAN channel (R363). -/
def stageReg (ch : Nat) : Nat := 0xA8_0000 + 0x1_0000 * (ch / 8) + 0x1000 * (ch % 8)

/-- `n` bytes of block memory from an offset on. -/
def Dev.blockBytes (d : Dev) (off n : Nat) : List Byte :=
  (List.range n).map fun i => BitVec.ofNat 8 (d.fld ((off + i) / 4 * 4) (8 * ((off + i) % 4)) 8)

/-- A load of the staging area into a timed buffer (R337); a load of another buffer, or of an invalid record or length, is ignored and
counted. -/
def Dev.txLoad (d : Dev) (ch b : Nat) : Dev :=
  let h := d.blockBytes (stageReg ch) 16
  let len := leNat ((h.drop 12).take 2)
  let f : Frame := { kind := 1, src := 0x7F, fmeta := h.take 12, data := d.blockBytes (stageReg ch + 16) (min len 2048), orig := d.devid }
  let clean := leNat (h.drop 14) = 0 ∧ f.canFmt ≠ 3 ∧ leNat (h.take 4) < 2 ^ 31 ∧ bitsOf (leNat (h.drop 4)) 5 3 = 0 ∧ (h.getD 7 0) = 0
  if d.timedBuf ch b ∧ canLenOk f.canFmt len ∧ clean then d.loadTimed ch b f else d.reject

/-! ### LIN -/

/-- The schedule and response table of LIN channel `l` (R363). -/
def linMem (l : Nat) : Nat := 0xA8_8000 + 0x1_0000 * (l / 4) + 0x800 * (l % 4)

/-- Word `w` of the response-table entry of frame ID `id`. -/
def linEntry (l id w : Nat) : Nat := linMem l + 0x200 + 16 * id + 4 * w

/-- The device with a LIN channel changed. -/
def Dev.onLin (d : Dev) (l : Nat) (f : LinCh → LinCh) : Dev := { d with lin := d.lin.modify l f }

/-- A frame reaches a LIN egress (R340): its response-table entry takes its data, length and checksum model and becomes valid. -/
def Dev.linTake (d : Dev) (l : Nat) (f : Frame) : Dev :=
  if f.kind ≠ 2 ∨ f.data = [] ∨ 8 < f.data.length then d
  else
    let b := (f.fmeta.getD 0 0).toNat
    let id := b % 64
    let v := leNat f.data
    let flags := f.data.length + 16 * (b / 64 % 2) + 32 * d.fld (linEntry l id 2) 5 1 + 64
    ((d.wr (linEntry l id 0) (BitVec.ofNat 32 v)).wr (linEntry l id 1) (BitVec.ofNat 32 (v / 2 ^ 32))).setFld (linEntry l id 2) 0 8 flags

/-- The response a channel publishes for a frame ID (R340): enhanced checksum and data. -/
def Dev.linResponse (d : Dev) (l id : Nat) : Option (Bool × List Byte) :=
  if d.flag (linEntry l id 2) 5 && d.flag (linEntry l id 2) 6 then
    some (d.flag (linEntry l id 2) 4, (leBytes 8 (d.rd64 (linEntry l id 0))).take (d.fld (linEntry l id 2) 0 4))
  else none

/-- A header stands on the bus: the channel answers it, or waits for another's response (R340). -/
def Dev.linAnswer (d : Dev) (l id : Nat) : Dev :=
  match (if d.live then d.linResponse l id else none) with
  | some (e, data) => ((d.onLin l fun x => { x with header := none }).bump (linReg Reg.pavLinTxOk l)).emit (.linResponse l id e data)
  | none => d.onLin l fun x => { x with header := some id }

/-- The length of a LIN schedule (R363). -/
def Dev.linLen (d : Dev) (l : Nat) : Nat := min 64 (max 1 (d.fld (linReg Reg.pavLinSchedCfg l) 0 7))

/-- The next entry of a master's schedule (R340). -/
def Dev.linStep (d : Dev) (l : Nat) : Dev :=
  let ctl := linReg Reg.pavLinCtl l
  if !(d.live && d.flag ctl 0 && d.flag ctl 1 && d.flag ctl 2) then d.onLin l fun x => { x with active := false }
  else
    let c := d.lin.getD l {}
    let pos := if c.active then (c.pos + 1) % d.linLen l else 0
    let id := d.fld (linMem l + 8 * pos) 0 6
    ((d.onLin l fun x => { x with active := true, pos := pos }).emit (.linHeader l id)).linAnswer l id

/-! ### MACs -/

/-- The device with a MAC changed. -/
def Dev.onMac (d : Dev) (i : Nat) (f : Mac → Mac) : Dev := { d with mac := d.mac.modify i f }

/-- The rate of a MAC in kb/s (R364). -/
def Dev.ethRate (d : Dev) (i : Nat) : Nat :=
  let s := d.fld (ethReg Reg.ethCtl i) 1 2
  if i < 2 then (match s with | 0 => 2_500_000 | 1 => 5_000_000 | _ => 10_000_000)
  else match s with | 0 => 10_000 | 1 => 100_000 | _ => 1_000_000

/-- The queue a frame goes to (R343): EQ, the outgoing tag's PCP, or DEF_PCP. -/
def Dev.ethQueue (d : Dev) (i : Nat) (f : Frame) : Nat :=
  match f.eq with
  | some q => q
  | none => if ethTagged f.data then ethTci f.data / 2 ^ 13 else d.fld (ethReg Reg.ethCfg i) 28 3

/-- Bits a frame occupies on the wire: padded to 60 bytes, with FCS, preamble and gap (IEEE 802.3). -/
def wireBits (data : List Byte) : Nat := 8 * (max 60 data.length + 24)

/-- Credits of a MAC's queues brought up to the present (R345): they grow at the idle slope while frames wait or the credit is negative, up
to the standard's bound, and an empty queue keeps no positive credit. -/
def Dev.creditNow (d : Dev) (i : Nat) : Dev :=
  let m := d.mac.getD i {}
  let rate := d.ethRate i
  let frame := 8_000_000 * min 9216 (max 64 (d.fld (ethReg Reg.ethCfg i) 0 14))
  d.onMac i fun x => { x with shapers := x.shapers.mapIdx fun q (s : Shaper) =>
    let idle := d.fld (ethReg Reg.ethCbs i + 4 * q) 0 24
    let c : Int := s.credit + ((idle * (d.blv.vt - s.since) : Nat) : Int)
    let top : Int := if m.queue.any fun y => y.1 == q then ((frame * idle / rate : Nat) : Int) else 0
    ({ credit := min c (max s.credit top), since := d.blv.vt } : Shaper) }

/-- A queue's shaper allows a start (R345). -/
def Dev.shaperOk (d : Dev) (i q : Nat) : Bool :=
  d.fld (ethReg Reg.ethCbs i + 4 * q) 0 24 == 0 || decide (0 ≤ (((d.mac.getD i {}).shapers.getD q {}).credit))

/-- CYCLE of a MAC's gate control list (R364). -/
def Dev.tasCycle (d : Dev) (i : Nat) : Nat := max 1 (d.fld (ethReg Reg.ethTasCycle i) 0 30)

/-- The offset of the present VT in the cycle (R344). -/
def Dev.tasOffset (d : Dev) (i : Nat) : Nat := (d.blv.vt - d.rd64 (ethReg Reg.ethTasBaseLo i)) % d.tasCycle i

/-- One cycle of the gate control list as pieces: mask, start and end (R344); the last entry holds to the end of the cycle. -/
def Dev.tasPieces (d : Dev) (i : Nat) : List (Nat × Nat × Nat) :=
  let len := min 256 (max 1 (d.fld (ethReg Reg.ethTasCtl i) 8 9))
  let cyc := d.tasCycle i
  let list := (List.range len).map fun k =>
    (d.fld (0xBF_1000 + 0x800 * i + 8 * k) 0 8, if k + 1 = len then cyc else (d.rd (0xBF_1004 + 0x800 * i + 8 * k)).toNat)
  ((list.foldl (fun (acc : Nat × List (Nat × Nat × Nat)) x =>
    (acc.1 + x.2, if cyc ≤ acc.1 then acc.2 else (x.1, acc.1, min cyc (acc.1 + x.2)) :: acc.2)) (0, [])).2).reverse

/-- How long a queue's gate stays open from now on; none for ever (R344). -/
def Dev.gateLeft (d : Dev) (i q : Nat) : Option Nat :=
  if !(d.mac.getD i {}).tasRun then none
  else
    let o := d.tasOffset i
    let ps := d.tasPieces i
    let now := (ps.filter fun p => decide (o < p.2.2)).map fun p => (p.1, p.2.2 - max o p.2.1)
    let wrap := ps.map fun p => (p.1, p.2.2 - p.2.1)
    let run := (now ++ wrap).takeWhile fun p => p.1.testBit q
    if run.length = now.length + wrap.length then none else some ((run.map (·.2)).foldl (· + ·) 0)

/-- The head of a queue may start (R343–R345). -/
def Dev.mayStart (d : Dev) (i q : Nat) (f : Frame) : Bool :=
  (d.mac.getD i {}).gates.testBit q && d.shaperOk i q &&
    match d.gateLeft i q with
    | some t => decide (wireBits f.data * 1_000_000 / d.ethRate i ≤ t)
    | none => true

/-- The frame a MAC starts: the head of the highest queue that its gate and shaper allow (R343). -/
def Dev.ethPick (d : Dev) (i : Nat) : Option (Nat × Frame) :=
  let m := d.mac.getD i {}
  (List.range 8).reverse.findSome? fun q =>
    match m.queue.find? fun x => x.1 == q with
    | some x => if d.mayStart i q x.2 then some x else none
    | none => none

/-- A transmitted event message leaves its timestamp in the transmit-timestamp FIFO (R250, R251). -/
def Dev.ptpStamp (d : Dev) (i : Nat) (data : List Byte) : Dev :=
  let e := ethType data
  let mt := (data.getD e.2 0).toNat % 16
  if e.1 = 0x88F7 ∧ d.flag (ethReg Reg.ethCtl i) 3 ∧ [0, 2, 3].contains mt then
    let t := d.blv.vt * 2 ^ 16 + d.blv.acc / 2 ^ 32 + d.fld (Reg.blvPtpLat + 4 * i) 0 16 * 2 ^ 12
    if 64 ≤ d.blv.txts.length then d.bump Reg.blvTxtsOvf
    else
      d.onBlv fun b => { b with txts := b.txts ++
        [leBytes 8 (t / 2 ^ 16) ++ leBytes 2 t ++ leBytes 1 i ++ leBytes 1 mt ++
          leBytes 2 (beNum (natBytes ((data.drop (e.2 + 30)).take 2))) ++ leBytes 1 (data.getD (e.2 + 4) 0).toNat ++ leBytes 1 0] }
  else d

/-- A MAC starts a frame (R343): an expired one is removed and the choice made again; a frame with a bad trailer is ended with the
complemented FCS. -/
def Dev.ethStart (d : Dev) (i : Nat) : Nat → Dev
  | 0 => d
  | n + 1 =>
    match d.ethPick i with
    | none => d
    | some (q, f) =>
      let d := d.onMac i fun m => { m with queue := m.queue.erase (q, f) }
      if d.tooOld f.ts f.maxAge then (d.bump (ethReg Reg.ethTxAgeDrop i)).ethStart i n
      else
        let t := wireBits f.data * 1_000_000 / d.ethRate i
        let d := d.onMac i fun m => { m with busyTo := d.blv.vt + t,
                                             shapers := m.shapers.modify q fun s => { s with credit := s.credit - (wireBits f.data * 1_000_000 : Nat) } }
        let d := (if f.status = 0 then d.bump (ethReg Reg.ethTxOk i) else d.bump (ethReg Reg.ethTxStomp i)).ptpStamp i f.data
        d.emit (.eth i (f.data ++ List.replicate (60 - f.data.length) 0) (f.status != 0))

/-- The running transmission of a MAC has ended and it may start another (R339, R341, R434). -/
def Dev.ethReady (d : Dev) (i : Nat) : Bool :=
  let m := d.mac.getD i {}
  d.live && d.flag (ethReg Reg.ethCtl i) 0 && m.link && decide (m.busyTo ≤ d.blv.vt)

/-- A frame reaches a MAC (R343); other kinds are dropped. -/
def Dev.ethTake (d : Dev) (i : Nat) (f : Frame) : Dev :=
  if f.kind ≠ 3 then d.bump (ethReg Reg.ethTxDrop i)
  else (d.creditNow i).onMac i fun m => { m with queue := m.queue ++ [(d.ethQueue i f, f)] }

/-- The next gate mask applies (R344); the list starts at the start of a cycle at or after BASE. -/
def Dev.tasChange (d : Dev) (i : Nat) : Dev :=
  if !d.flag (ethReg Reg.ethTasCtl i) 0 then d.onMac i fun m => { m with tasRun := false, gates := 255 }
  else if d.blv.vt < d.rd64 (ethReg Reg.ethTasBaseLo i) then d
  else
    let o := d.tasOffset i
    match (d.tasPieces i).find? fun p => decide (p.2.1 ≤ o) && decide (o < p.2.2) with
    | none => d
    | some p =>
      if (d.mac.getD i {}).tasRun ∨ p.2.1 = 0 then d.onMac i fun m => { m with tasRun := true, gates := p.1 } else d

/-- A frame for a MACsec port is protected at P12 and goes on to P7 (R411). -/
def Dev.secTx (d : Dev) (id : Nat) : Dev :=
  match d.frm.xfers.find? fun x => x.id == id with
  | none => d
  | some x =>
    match x.secured with
    | none => d
    | some i =>
      match d.xferAt id (96 + i) with
      | none => d
      | some _ =>
        let f := { x.frame with eq := some (d.ethQueue i x.frame) }
        let r := (d.xferTaken id (96 + i)).secProtect i f.data
        match r.2 with
        | none => r.1
        | some data => r.1.sendXfer { f with data := data } 12 7 [96 + i] none

/-! ### Tunnels -/

/-- A register of tunnel `t` (R364). -/
def tunReg (r t : Nat) : Nat := r + 0x20 * t

/-- The ACF message of a frame (R349). -/
def acfMessage (brief : Bool) (f : Frame) : List Byte :=
  let pad := (4 - f.data.length % 4) % 4
  let body := f.data ++ List.replicate pad 0
  let bus := f.src % 32
  let head := fun (typ hl : Nat) => let q := (hl + body.length) / 4; [2 * typ + q / 256, q % 256]
  if f.kind = 1 then
    let flags := 64 * pad + 32 * b2n (!brief) + 16 * b2n f.canRtr + 8 * b2n f.canIde + 4 * b2n ((f.fmeta.getD 4 0).getLsbD 2) +
      2 * b2n (f.canFmt == 1) + b2n ((f.fmeta.getD 4 0).getLsbD 3)
    if brief then byteNats (head 2 8 ++ [flags, bus] ++ beList 4 f.canId) ++ body
    else byteNats (head 1 16 ++ [flags, bus] ++ beList 8 f.sof ++ beList 4 f.canId) ++ body
  else byteNats (head 3 12 ++ [64 * pad + bus, (f.fmeta.getD 0 0).toNat % 64] ++ beList 8 0) ++ body

/-- The AVTP header of a tunnel for a payload of `n` bytes (R349). -/
def Dev.avtpHeader (d : Dev) (t seq n : Nat) : List Nat :=
  let sid := beList 8 (d.rd64 (tunReg Reg.ethTunSidLo t))
  if d.flag (tunReg Reg.ethTunCtl t) 2 then [0x02, 0x80, seq, 0] ++ sid ++ beList 8 0 ++ beList 2 n ++ [0, 0]
  else [0x82, 0x80 + n / 256 % 8, n % 256, seq] ++ sid

/-- Bytes of the AVTP header (R349). -/
def Dev.avtpHead (d : Dev) (t : Nat) : Nat := if d.flag (tunReg Reg.ethTunCtl t) 2 then 24 else 12

/-- The queued messages leave as one AVTP frame on the tunnel's MAC (R349), through P12 where that has TX_EN (R411). -/
def Dev.tunFlush (d : Dev) (t : Nat) : Dev :=
  let u := d.tun.getD t {}
  if u.msgs.isEmpty then d
  else
    let i := d.fld (tunReg Reg.ethTunCtl t) 4 4
    let payload := u.msgs.flatten
    let vid := d.fld (tunReg Reg.ethTunVid t) 0 12
    let pcp := d.fld (tunReg Reg.ethTunCtl t) 29 3
    let tag := if d.flag (tunReg Reg.ethTunVid t) 12 then [0x81, 0x00] ++ beList 2 (pcp * 2 ^ 13 + vid) else []
    let mac := fun (r : Nat) => beList 6 (d.rd64 r % 2 ^ 48)
    let data := byteNats (mac (tunReg Reg.ethTunDmacLo t) ++ mac (ethReg Reg.ethAddrLo i) ++ tag ++ [0x22, 0xF0] ++
      d.avtpHeader t u.txSeq payload.length) ++ payload
    let f : Frame := { kind := 3, src := 120 + t, data := data, eq := some pcp, ts := d.stamp, orig := d.devid, sof := d.blv.vt,
                       gen := u.gens.headD d.generation, more := u.gens.drop 1 }
    let d := { d with tun := d.tun.modify t fun u => { u with msgs := [], gens := [], txSeq := (u.txSeq + 1) % 256 } }
    if 13 < i then d
    else if d.flag (secReg Reg.gthMsCtl i) 0 then d.sendXfer f 7 12 [96 + i] (some i) else d.ethTake i f

/-- A frame for a tunnel is packed (R349); CAN XL frames are dropped and counted. -/
def Dev.tunTake (d : Dev) (t : Nat) (f : Frame) : Dev :=
  if !d.flag (tunReg Reg.ethTunCtl t) 0 || (f.kind != 1 && f.kind != 2) then d
  else if f.kind = 1 ∧ f.canFmt = 2 then d.bump (tunReg Reg.ethTunXlDrop t)
  else
    let m := acfMessage (d.flag (tunReg Reg.ethTunCtl t) 3) f
    let max' := min 1500 (max 64 (d.fld (tunReg Reg.ethTunCtl t) 8 11))
    let len := d.avtpHead t + (d.tun.getD t {}).msgs.flatten.length
    let d := if max' < len + m.length then d.tunFlush t else d
    { d with tun := d.tun.modify t fun u => { u with msgs := u.msgs ++ [m], gens := u.gens ++ [f.gen],
                                                     since := if u.msgs.isEmpty then d.blv.vt else u.since } }

/-! ### Pergola events -/

/-- A missing SEQ is declared lost (R357, R358): its cells are counted and its transfer discarded; the loss is a plane fault. -/
def Dev.seqLoss (d : Dev) (id : Nat) (forced : Bool) : Dev :=
  match d.frm.xfers.find? fun x => x.id == id with
  | none => d
  | some x =>
    if x.lost = 0 then d
    else
      let d := (d.bump (pglReg Reg.pglOutLost x.outPort) x.lost).bump Reg.pglLostSum x.lost
      let d := if forced then d.bump (pglReg Reg.pglOutForced x.outPort) x.lost else d
      ((d.bump (pglReg Reg.pglOutXferDrop x.outPort)).onFrm fun p => { p with xfers := p.xfers.filter fun y => y.id != id }).onDep fun p =>
        { p with planeOk := p.planeOk &&& (3 - 2 ^ x.lostPlane) }

/-- A bridge request lost in a plane (R358): a posted write is never performed, and any other stays open until its own timer ends it. -/
def Dev.loseReq (d : Dev) (seq : Nat) : Dev :=
  match d.req? seq with
  | none => d
  | some r =>
    if r.st ≠ .ready then d
    else
      match r.tgt with
      | .link _ _ => d
      | _ => if r.posted then d.writeDone { r with st := .ended, status := some .timeout } else d.updReq seq fun r => { r with st := .started }

/-- A plane stops receiving cells (R360): the frames and requests with a cell inside it lose it. -/
def Dev.planeStop (d : Dev) (k : Nat) (frames reqs : List Nat) : Dev :=
  if d.flag Reg.pglCtl k && d.dep.planeOk.testBit k then d
  else
    let d := d.onFrm fun p => { p with xfers := p.xfers.map fun x => if frames.contains x.id then { x with lost := x.lost + 1, lostPlane := k } else x }
    reqs.foldl (fun d s => d.loseReq s) d

/-! ### Commands -/

/-- CAN_EGRESS (R336). -/
def execCanEgress (x : Nat) (ch : Fin 64) (s : State) : Host.Outcome State Fault Refusal :=
  s.act fun d =>
    match d.xferAt x ch.val with
    | some y => (d.xferTaken x ch.val).canTake ch.val y.frame
    | none => d

/-- CAN_TRANSMIT (R336). -/
def execCanTransmit (ch : Fin 64) (s : State) : Host.Outcome State Fault Refusal :=
  s.act fun d => if d.canActive ch.val then d.canChoose ch.val 33 else d

/-- CAN_TX_DONE (R337). -/
def execCanTxDone (ch : Fin 64) (s : State) : Host.Outcome State Fault Refusal :=
  s.act fun d => if d.canActive ch.val then d.canSent ch.val else d

/-- CAN_BUS_OFF (R338). -/
def execCanBusOff (ch : Fin 64) (s : State) : Host.Outcome State Fault Refusal :=
  s.act fun d => if d.flag (canReg Reg.pavCanCtl ch.val) 0 ∧ !(d.can.getD ch.val {}).busOff then d.canBusOff ch.val else d

/-- CAN_BUS_RECOVERY (R338): with AUTO_RECOVER = 1; otherwise a write of EN from 0 to 1 returns the channel. -/
def execCanBusRecovery (ch : Fin 64) (s : State) : Host.Outcome State Fault Refusal :=
  s.act fun d => if d.flag (canReg Reg.pavCanCtl ch.val) 4 ∧ (d.can.getD ch.val {}).busOff then d.canReturn ch.val else d

/-- TXLOAD (R337). -/
def execTxload (ch : Fin 64) (b : Fin 32) (s : State) : Host.Outcome State Fault Refusal := s.act fun d => d.txLoad ch.val b.val

/-- CAN_BUS_ERROR (R363). -/
def execCanBusError (ch : Fin 64) (transmitting eight : Bool) (s : State) : Host.Outcome State Fault Refusal :=
  s.act fun d => if d.flag (canReg Reg.pavCanCtl ch.val) 0 ∧ !(d.can.getD ch.val {}).busOff then d.canErr ch.val transmitting eight else d

/-- CAN_BUS_INTEGRATION (R450). -/
def execCanBusIntegration (ch : Fin 64) (s : State) : Host.Outcome State Fault Refusal :=
  s.act fun d => if d.flag (canReg Reg.pavCanCtl ch.val) 0 ∧ !(d.can.getD ch.val {}).busOff then d.onCan ch.val fun c => { c with sync := true } else d

/-- LIN_EGRESS (R340). -/
def execLinEgress (x : Nat) (l : Fin 32) (s : State) : Host.Outcome State Fault Refusal :=
  s.act fun d =>
    match d.xferAt x (64 + l.val) with
    | some y => (d.xferTaken x (64 + l.val)).linTake l.val y.frame
    | none => d

/-- LIN_HEADER_RX (R340): a header a slave channel receives. -/
def execLinHeaderRx (l : Fin 32) (id : Fin 64) (s : State) : Host.Outcome State Fault Refusal :=
  s.act fun d => if !d.silent && d.flag (linReg Reg.pavLinCtl l.val) 0 && !d.flag (linReg Reg.pavLinCtl l.val) 1 then d.linAnswer l.val id.val else d

/-- LIN_SCHEDULE_ENTRY (R340). -/
def execLinScheduleEntry (l : Fin 32) (s : State) : Host.Outcome State Fault Refusal := s.act fun d => d.linStep l.val

/-- LIN_DOM_STUCK (R363): the bus is held dominant beyond 100 bit times, or let go again. -/
def execLinDomStuck (l : Fin 32) (stuck : Bool) (s : State) : Host.Outcome State Fault Refusal :=
  s.act fun d => d.onLin l.val fun x => { x with domStuck := stuck }

/-- LIN_NO_RESPONSE (R340). -/
def execLinNoResponse (l : Fin 32) (s : State) : Host.Outcome State Fault Refusal :=
  s.act fun d => if (d.lin.getD l.val {}).header.isSome then (d.onLin l.val fun x => { x with header := none }).bump (linReg Reg.pavLinNoResp l.val) else d

/-- ETH_EGRESS (R343). -/
def execEthEgress (x : EthIn) (i : Fin 14) (s : State) : Host.Outcome State Fault Refusal :=
  s.act fun d =>
    match x with
    | .xfer n =>
      match d.xferAt n (96 + i.val) with
      | some y => if y.secured.isSome then d else (d.xferTaken n (96 + i.val)).ethTake i.val y.frame
      | none => d
    | .gptp data => d.ethTake i.val { kind := 3, src := 0x7F, data := data, ts := d.stamp, orig := d.devid, gen := d.generation }

/-- ETH_TRANSMIT (R343). -/
def execEthTransmit (i : Fin 14) (s : State) : Host.Outcome State Fault Refusal :=
  s.act fun d =>
    if d.ethReady i.val then
      let d := d.creditNow i.val
      d.ethStart i.val ((d.mac.getD i.val {}).queue.length + 1)
    else d

/-- TAS_GATE_CHANGE (R344). -/
def execTasGateChange (i : Fin 14) (s : State) : Host.Outcome State Fault Refusal := s.act fun d => d.tasChange i.val

/-- ETH_LINK_CHANGE (R341): another speed in the in-band control word holds the link down. -/
def execEthLinkChange (i : Fin 14) (up otherSpeed : Bool) (s : State) : Host.Outcome State Fault Refusal :=
  s.act fun d => d.onMac i.val fun m => { m with link := up && !otherSpeed, speedErr := otherSpeed }

/-- MACSEC_TX (R411). -/
def execMacsecTx (x : Nat) (s : State) : Host.Outcome State Fault Refusal := s.act fun d => d.secTx x

/-- TUNNEL_EGRESS (R349). -/
def execTunnelEgress (x : Nat) (t : Fin 4) (s : State) : Host.Outcome State Fault Refusal :=
  s.act fun d =>
    match d.xferAt x (120 + t.val) with
    | some y => (d.xferTaken x (120 + t.val)).tunTake t.val y.frame
    | none => d

/-- TUNNEL_FLUSH (R349): MAX_WAIT after the first message queued. -/
def execTunnelFlush (t : Fin 4) (s : State) : Host.Outcome State Fault Refusal :=
  s.act fun d =>
    if (d.tun.getD t.val {}).since + 1000 * min 1000 (d.fld (tunReg Reg.ethTunCtl t.val) 19 10) ≤ d.blv.vt then d.tunFlush t.val else d

/-- AGE_PROMOTE_EXPIRY (R19): the request or transfer is served at the next arbitration. -/
def execAgePromoteExpiry (x : Promoted) (s : State) : Host.Outcome State Fault Refusal :=
  s.act fun d =>
    match x with
    | .bus o =>
      if d.bidders o && !d.lbu.promoted.contains o then d.onLbu fun l => { l with promoted := l.promoted ++ [o] } else d
    | .xfer n =>
      match d.frm.xfers.find? fun y => y.id == n && !y.promoted with
      | some y =>
        (d.onFrm fun p => { p with xfers := p.xfers.map fun z => if z.id = n then { z with promoted := true } else z }).bump
          (pglReg Reg.pglOutPromote y.outPort)
      | none => d

/-- SEQ_LOSS_TIMEOUT (R357). -/
def execSeqLossTimeout (x : Nat) (forced : Bool) (s : State) : Host.Outcome State Fault Refusal := s.act fun d => d.seqLoss x forced

/-- PLANE_DISABLE (R360): `frames` and `reqs` are the transfers and requests with a cell inside the plane. -/
def execPlaneDisable (k : Fin 2) (frames reqs : List Nat) (s : State) : Host.Outcome State Fault Refusal :=
  s.act fun d => d.planeStop k.val frames reqs

end Sys2Proof.Machine
end

