-- ==== Sys2Proof/Machine/Status.lean ====
section
/-!
DEFINITION. The registers and memory words whose value the device derives from its state: status registers, levels, FIFO heads and the
read-only tables of every block.
-/
namespace Sys2Proof.Machine

/-- Word `k` of a record, zero beyond its end. -/
def recWord (rec' : List Byte) (k : Nat) : Word := BitVec.ofNat 32 (leNat ((rec'.drop (4 * k)).take 4))

/-- Word `k` of the head of a FIFO; zero while it is empty. -/
def headWord (fifo : List (List Byte)) (k : Nat) : Word := recWord (fifo.headD []) k

/-- `off` is word `k` of an area of `n` words at `base`. -/
def areaWord (off base n : Nat) : Option Nat :=
  if base ≤ off ∧ off < base + 4 * n then some ((off - base) / 4) else none

/-- A value as a register word. -/
def wordOf (n : Nat) : Word := BitVec.ofNat 32 n

/-- Set bits of a number of width `n`. -/
def bitsSet (n : Nat) (p : Nat → Bool) : Word := wordOf (maskOf n p)

/-! ### Host port, bridge and windows -/

/-- HP registers (R110). -/
def Dev.hpWord (d : Dev) (off : Nat) : Option Word :=
  let h := d.hp
  if off = Reg.hpStatus then
    some (wordOf (b2n h.linkUp + 2 * h.speed + 16 * h.width + 256 * b2n (d.flag Reg.hpLinkCtl 5) + 512 * b2n h.bme + 1024 * b2n h.msixEn +
      2048 * b2n h.msixFmask + 4096 * (if h.d3hot then 3 else 0) + 16384 * b2n d.standby))
  else if off = Reg.hpTtInuse then some (wordOf (d.ttUsed 0))
  else if off = Reg.hpTagsInuse then some (wordOf h.reads.length)
  else none

/-- A word of LBU_DR_SLOTk (R149). -/
def DrSlot.word (x : DrSlot) (w : Nat) : Word :=
  let wr := x.op == .write || x.op == .condStore || x.op == .barrier
  let st := match x.state with | .waiting => 1 | .held => 2 | .stale => 3
  match w with
  | 0 => x.addr
  | 1 => wordOf (x.beN.toNat + 16 * b2n wr + 32 * b2n x.burst + 64 * b2n (x.op == .flush) + 128 * b2n x.locked + 256 * x.master +
      512 * x.lw + 8192 * st + 32768 * b2n (x.state == .held && x.status.isSome) + 65536 * (x.tag % 512))
  | 2 => wordOf x.allocVt
  | _ => 0

/-- LBU registers (R145, R148, R149). -/
def Dev.lbuWord (d : Dev) (off : Nat) : Option Word :=
  let l := d.lbu
  if off = Reg.lbuStatus then
    some (wordOf (b2n (d.flag Reg.lbuCtl 0 && !l.lreset) + 2 * b2n (!d.flag Reg.lbuCtl 2 || l.clkOk) + 4 * b2n l.io3v3 + 8 * ownerCode l.owner +
      32 * b2n l.locked.isSome + 256 * l.slots.length))
  else if off = Reg.lbuDrInuse then some (bitsSet 16 fun i => l.slots.any fun x => x.idx == i)
  else
    match areaWord off 0x24_0000 64 with
    | some k => some (((l.slots.find? fun x => x.idx == k / 4).map (·.word (k % 4))).getD 0)
    | none => none

/-- Windows of a family with SYNCERR = 1 (R73). -/
def Dev.syncErrUse (d : Dev) (f : WinFam) : Nat := ((List.range (winCount f)).filter fun n => d.winBit f n 10).length

/-- Semaphore slot `i` is held (R87). -/
def Dev.semHeld (d : Dev) (i : Nat) : Bool := (d.fab.semLocks.any fun l => l.1 == i) || d.fab.semGranted.getLsbD i

/-- WIN_RSV_STATUSn (R86). -/
def Dev.rsvWord (d : Dev) (n : Nat) : Word :=
  let x := d.rsvInfoOf n
  wordOf (b2n x.held + 2 * b2n x.csOk + 256 * (x.csSeq % 256) + 65536 * x.ident)

/-- WIN registers (R86–R88). -/
def Dev.winWord (d : Dev) (off : Nat) : Option Word :=
  if off = Reg.winSyncerrUse then some (wordOf (d.syncErrUse .iw + 16 * d.syncErrUse .lw))
  else if off = Reg.winHostSem then some (wordOf (maskOf 16 d.semHeld + 65536 * d.fab.semGranted.toNat))
  else (areaWord off Reg.winRsvStatus 64).map d.rsvWord

/-! ### Itmos -/

/-- STATE of ITMn_STATUS (R189). -/
def linkCode : LinkState → Nat
  | .off => 0 | .train => 1 | .hello => 2 | .up => 3 | .retrain => 4 | .held => 5 | .down => 6

/-- ITM registers (R187, R189). -/
def Dev.itmWord (d : Dev) (off : Nat) : Option Word :=
  let n := (off - 0x40_0100) / 0x40
  let l := d.link n
  let up := fun k => d.linkOn k && (d.link k).state != .off
  if off = Reg.itmStatus then
    some (wordOf (maskOf 5 d.linkUp + 2 ^ 5 * maskOf 5 (fun k => (d.link k).state == .held) +
      2 ^ 10 * maskOf 5 (fun k => up k && !((d.link k).rx.spareOk && (d.link k).tx.spareOk)) +
      2 ^ 15 * maskOf 5 (fun k => up k && ((d.link k).rx.single.isSome || (d.link k).tx.single.isSome)) +
      (match d.upRoute with | some k => 2 ^ 20 * k + 2 ^ 23 | none => 0)))
  else if 5 ≤ n then none
  else if off = itmReg Reg.itmLinkStatus n then
    some (wordOf (linkCode l.state + 8 * l.cause + 64 * l.peerTwin + 256 * l.rx.mask + 2048 * b2n l.rx.spareOk + 4096 * b2n l.rx.single.isSome +
      65536 * l.peerDevid))
  else if off = itmReg Reg.itmLinkDelay n then
    some (if l.delays.isEmpty then 0 else wordOf ((meanDelay l.delays / 4096).toNat % 2 ^ 24 + 2 ^ 31))
  else if off = itmReg Reg.itmOutstanding n then some (wordOf (d.linkOutstanding n))
  else none

/-! ### Frame path, Trellis, Gatehouse, Wicket -/

/-- PGL registers (R362). -/
def Dev.pglWord (d : Dev) (off : Nat) : Option Word :=
  if off = Reg.pglStatus then
    some (wordOf (d.dep.planeOk + 4 * b2n d.congested + 8 * b2n (d.unacked Reg.pglLostSum Reg.pglLostAck)))
  else
    let p := (off - 0x50_1000) / 0x40
    if off = pglReg Reg.pglInUsed p ∧ p < 16 then some (wordOf (d.inCells p fun _ => true)) else none

/-- TRL registers (R391, R392). -/
def Dev.trlWord (d : Dev) (off : Nat) : Option Word :=
  if off = Reg.trlStatus then
    let n := d.frm.parked.length
    some (wordOf (b2n (!d.trl.fifo.isEmpty) + 2 * d.trl.fifo.length + 1024 * d.trl.active + 2048 * b2n (d.flag Reg.trlAgePeriod 12 && !d.standby) +
      4096 * min n 63 + 2 ^ 18 * b2n (decide (64 ≤ n))))
  else if off = Reg.trlGenFence then some d.genFence
  else (areaWord off 0x64_1000 8).map (headWord d.trl.fifo)

/-- The attribute word of a key slot (R407). -/
def Dev.slotAttr (d : Dev) (s : Nat) : Word :=
  match d.gth.slots.find? fun x => x.slot == s with
  | some x => wordOf (x.use + 4 * b2n (x.key.length == 32) + 256 * x.version)
  | none => 0

/-- GTH registers and read-only memory (R404, R407, R421). -/
def Dev.gthWord (d : Dev) (off : Nat) : Option Word :=
  if off = Reg.gthStatus then some d.gthStatus
  else
    match areaWord off 0x77_8000 4 with
    | some k => some (headWord d.gth.fails k)
    | none => (areaWord off 0x77_A000 1024).map d.slotAttr

/-- PAV registers (R363). -/
def Dev.pavWord (d : Dev) (off : Nat) : Option Word :=
  let i := (off - 0xA0_0000) / 0x1_0000
  let o := off % 0x1_0000
  if 8 ≤ i then none
  else if o = 0 then
    let can := d.dep.spares.find? fun s => s.kind == 5 && s.unit / 8 == i
    let lin := d.dep.spares.find? fun s => s.kind == 6 && s.unit / 4 == i
    some (wordOf ((match can with | some s => s.unit % 8 + 8 | none => 0) + (match lin with | some s => 16 * (s.unit % 4) + 64 | none => 0) +
      4096 * d.poolFree i))
  else
    let ch := 8 * i + (o - 0x100) / 0x80
    let l := 4 * i + (off - Reg.pavLinCtl) % 0x1_0000 / 0x40
    if off = canReg Reg.pavCanTxstat ch then some (bitsSet 32 fun b => (d.can.getD ch {}).bufs.any fun x => x.1 == b)
    else if off = canReg Reg.pavCanStatus ch then some (d.canStatus ch)
    else if off = linReg Reg.pavLinStatus l then some (d.linStatus l)
    else none

/-- ETH registers (R364). -/
def Dev.ethWord (d : Dev) (off : Nat) : Option Word :=
  let i := (off - 0xB0_0000) / 0x1_0000
  if off = ethReg Reg.ethStatus i ∧ i < 15 then some (d.ethStatus i) else none

/-- MODE of the Wicket (R422). -/
def wktCode : WktMode → Nat
  | .run => 0 | .standby => 1 | .sleep => 2 | .entering => 3

/-- WKT registers (R422). -/
def Dev.wktWord (d : Dev) (off : Nat) : Option Word :=
  let w := d.wkt
  if off = Reg.wktStatus then
    some (wordOf (wktCode w.mode + 4 * b2n (!w.events.isEmpty) + 8 * w.events.length + 512 * b2n d.wktQueued + 1024 * b2n w.xtalOk +
      2048 * w.lastEntry))
  else if off = Reg.wktItemState then
    some (wordOf (maskOf 16 (fun j => (w.items.getD j {}).on) + 65536 * maskOf 16 fun j => (w.items.getD j {}).wanted && !(w.items.getD j {}).on))
  else (areaWord off 0xC4_0000 4).map (headWord w.events)

/-! ### Belvedere and Gazebo -/

/-- STATE of BLV_STATUS (R272). -/
def servoCode : ServoState → Nat
  | .free => 0 | .acquire => 1 | .locked => 2 | .holdover => 3

/-- ARG of BLV_STATUS (R272): for source type 2 with ARG 0x3F the link used. -/
def Dev.sourceArg (d : Dev) : Nat :=
  match d.blv.use with
  | some s => if d.srcType s = 2 ∧ d.srcArg s = 0x3F then (d.srcLink s).getD 0x3F else d.srcArg s
  | none => 0

/-- BLV_STATUS (R272). -/
def Dev.blvStatus (d : Dev) : Word :=
  let b := d.blv
  wordOf (servoCode b.servo + 4 * b2n d.vtValid + 8 * d.sourceCode + 64 * d.sourceArg + 4096 * b2n (b.use == some .secondary) +
    8192 * b2n (b.use == some .twin) + 16384 * b2n b.alarm + 32768 * b2n b.ctrFault + 65536 * b2n b.holdExc + 2 ^ 24 * d.timeSteps)

/-- BLV registers and read-only memory (R271–R276). -/
def Dev.blvWord (d : Dev) (off : Nat) : Option Word :=
  let b := d.blv
  if off = Reg.blvStatus then some d.blvStatus
  else if off = Reg.blvVtLo then some (wordOf b.vt)
  else if off = Reg.blvVtHi then some (wordOf (b.vt / 2 ^ 32))
  else if off = Reg.blvSlew then some d.slewLeft
  else if off = Reg.blvResStatus then some (wordOf (b.res.length + 512 * b2n (!b.res.isEmpty)))
  else if off = Reg.blvCapStatus then some (wordOf (b.caps.length + 1024 * b2n (!b.caps.isEmpty)))
  else if off = Reg.blvTxtsStatus then some (wordOf (b.txts.length + 128 * b2n (!b.txts.isEmpty)))
  else
    match areaWord off Reg.blvTioCfg 48 with
    | some n => some (setField (d.rd off) 6 1 (b2n (d.dep.spares.any fun s => s.kind == 8 && s.unit == n)))
    | none =>
      match areaWord off 0x86_0000 8 with
      | some k => some (headWord b.res k)
      | none =>
        match areaWord off 0x86_1000 4 with
        | some k => some (headWord b.caps k)
        | none =>
          match areaWord off 0x86_2000 128 with
          | some w => some (bitsSet 32 fun i => (d.armedSlot? (32 * w + i)).isSome)
          | none => (areaWord off 0x86_3000 4).map (headWord b.txts)

/-- GZB registers (R325, R327). -/
def Dev.gzbWord (d : Dev) (off : Nat) : Option Word :=
  let g := d.gzb
  if off = Reg.gzbStatus then
    some (wordOf (b2n (g.halted != 0) + 2 * b2n g.draining + (match g.running with | some c => 4 + 8 * c | none => 0) + 65536 * g.halted.toNat))
  else if off = Reg.gzbQueueInuse then some (wordOf d.queueUsed)
  else
    let c := (off - 0x90_1000) / 0x40
    let y := d.chan c
    if off = gzbReg Reg.gzbChStatus c ∧ c < 16 then
      some (wordOf (d.chanState c + 8 * y.cause + 64 * b2n y.ownWait + 256 * d.owned c + 2 ^ 24 * y.crcAlg))
    else none

/-! ### Dependability, interrupts, DRAM controller, Lodge -/

/-- This device pulls TWIN_FAIL_N low (R436, R437, R482, R483): in reset or start-up, SYNCING, UNSYNC, FAILED, the safe state, with defaulted
configuration and in recovery. -/
def Dev.failDrive (d : Dev) : Bool :=
  d.dep.safe || [TwinState.starting, .syncing, .unsync, .failed].contains d.twin.state || d.flag Reg.sysBootStatus 0 ||
    !(d.fld Reg.ldgStatus 0 3 == 5 || d.fld Reg.ldgStatus 0 3 == 7)

/-- DEP_TWIN_STATUS (R460). -/
def Dev.twinStatus (d : Dev) : Word :=
  let t := d.twin
  wordOf (twinCode t.state + 8 * b2n t.prot + 16 * b2n (t.state == .active && !d.dep.safe) + 32 * b2n t.peerAct +
    64 * b2n (!d.failDrive && !t.peerUnfit) + 128 * b2n d.failDrive + 256 * b2n d.twinLinkUp + 512 * (d.roleLink 4).getD 0 + 4096 * t.lastCause +
    65536 * b2n t.planned)

/-- DEP_SPARE_SUMMARY (R462). -/
def Dev.spareSummary (d : Dev) : Word :=
  let used := fun k i => d.dep.spares.any fun s => s.kind == k && sparePool k s.unit == i
  wordOf (maskOf 8 (used 5) + 256 * maskOf 8 (used 6) + 65536 * b2n (d.dep.spares.any fun s => s.kind == 7) +
    2 ^ 17 * (4 - (d.dep.spares.filter fun s => s.kind == 8).length) + 2 ^ 20 * b2n (decide (64 ≤ d.dep.mapUsed)) + 2 ^ 21 * d.dep.dramFree)

/-- DEP registers and read-only memory (R456, R457, R460–R463). -/
def Dev.depWord (d : Dev) (off : Nat) : Option Word :=
  if off = Reg.depTwinStatus then some d.twinStatus
  else if off = Reg.depFaultStatus then some (wordOf d.faultStatus)
  else if off = Reg.depSpareSummary then some d.spareSummary
  else if off = Reg.depNoteStatus then some (wordOf (b2n (!d.dep.notes.isEmpty) + 2 * d.dep.notes.length))
  else
    match areaWord off 0xD4_0000 2048 with
    | some k => some (recWord (d.twin.replayLog.getD (k / 8) []) (k % 8))
    | none => (areaWord off 0xD4_8000 8).map (headWord d.dep.notes)

/-- INT registers and read-only memory (R282, R296, R300, R302). -/
def Dev.intWord (d : Dev) (off : Nat) : Option Word :=
  let n := d.elog.entries.length
  if off = Reg.intStatus then
    some (wordOf (b2n (decide (0 < n)) + 2 * b2n (decide (64 ≤ n)) + 4 * n + 512 * b2n (!d.lbu.lirqQ.isEmpty)))
  else
    match areaWord off Reg.intLevel 8 with
    | some w => some (bitsSet 32 fun b => d.srcLevel (32 * w + b))
    | none =>
      match areaWord off Reg.intVecLevel 2 with
      | some w => some (bitsSet 32 fun b => d.vecsHigh.contains (32 * w + b))
      | none =>
        match areaWord off Reg.intNodeLevel 2 with
        | some w => some (bitsSet 32 fun b => d.nodeLevel (32 * w + b))
        | none =>
          match areaWord off 0xE4_0000 8 with
          | some k => some (match d.elog.entries with | e :: _ => recWord e.bytes k | [] => 0)
          | none => (areaWord off 0xE5_0000 512).map fun k => bitsSet 32 fun b => d.intb.remote.contains (k / 8, 32 * (k % 8) + b)

/-- The value of a register or memory word that the device derives; none for a word that is stored. -/
def Dev.derived (d : Dev) (off : Nat) : Option Word :=
  match off / 0x10_0000 with
  | 0 => if off = Reg.sysCalCtl then some (wordOf (256 * b2n d.ldg.erasing)) else none
  | 1 => d.hpWord off
  | 2 => d.lbuWord off
  | 3 => d.winWord off
  | 4 => d.itmWord off
  | 5 => d.pglWord off
  | 6 => d.trlWord off
  | 7 => d.gthWord off
  | 8 => d.blvWord off
  | 9 => d.gzbWord off
  | 10 => d.pavWord off
  | 11 => d.ethWord off
  | 12 => d.wktWord off
  | 13 => d.depWord off
  | 14 => d.intWord off
  | 15 => if off = Reg.dmcStatus then some (setField (d.rd off) 3 1 (d.fld Reg.ldgStatus 9 1)) else none
  | _ => none

end Sys2Proof.Machine
end

