-- ==== Sys2Proof/Machine/Reset.lean ====
section
/-!
DEFINITION. The resets (R464–R466): the drain that begins a warm reset or an LBU block reset (R290), the reset of one block, and the resets of
the device with what each keeps.
-/
namespace Sys2Proof.Machine

/-! ### Registers of a block -/

/-- The block that a register-space offset lies in (R32). -/
def blockOf (off : Nat) : Nat := off / 0x100000

/-- A block's registers and memories take their power-on values, except those kept; what the register hub holds for them is dropped
(R466). -/
def Dev.regsReset (d : Dev) (b : Nat) (keep : Nat → Bool := fun _ => false) : Dev :=
  let lo := b * 0x100000
  let hi := lo + 0x100000
  let fresh := (cellsIn resetRegs lo hi).filter fun c => !keep c.1
  let kept := (cellsIn d.regs lo hi).filter fun c => keep c.1
  let out := fun (off : Nat) => decide (off < lo) || decide (hi ≤ off) || keep off
  { d with
    regs := cellsPut (cellsPut (cellsClear d.regs lo hi) fresh) kept
    hub := { d.hub with armed := d.hub.armed.filter (fun x => out x.off), rws := d.hub.rws.filter (fun x => out x.off),
                        held64 := d.hub.held64.filter (fun x => out x.off), damaged := d.hub.damaged.filter fun x => out x.off } }

/-! ### The drain -/

/-- The paths a drain empties: H→L and L→H for the Orangery, every buffered path for the device (R290). -/
def drainPaths (all : Bool) : List WPath := [.h2l, .l2h] ++ if all then [.itm 0, .itm 1, .itm 2, .itm 3, .itm 4] else []

/-- The posted write entries held on a path, as requests. -/
def Dev.pathWrites (d : Dev) (p : WPath) : List Req := d.fab.reqs.filter fun r => r.posted && r.path == p && decide (0 < r.entries)

/-- Non-posted requests queued in the Orangery end as TIMEOUT with timer 7; with `running` also the one on the bus (R290). -/
def Dev.endQueued (d : Dev) (running : Bool) : Dev :=
  let on := d.lbu.job.map (·.seq)
  let rs := (d.lbu.zoneQ.filterMap d.req?).filter fun r => !r.posted && (running || on != some r.seq)
  rs.foldl (fun d r => d.zoneEnd r 7) d

/-- The drain begins (R290): lines of the affected paths are emitted, no new request is accepted, queued non-posted requests end. -/
def Dev.drainStart (d : Dev) (all : Bool) : Dev :=
  let d := d.onLbu fun l => { l with draining := true }
  (d.emitLines fun l => (drainPaths all).contains l.path).endQueued false

/-- The entries a path still holds when the drain ends are discarded, counted in INT_RST_DISCARD and logged once (R290). -/
def Dev.discardPath (d : Dev) (p : WPath) : Dev :=
  match d.pathWrites p with
  | [] => d
  | r :: rest =>
    let n := ((r :: rest).map (·.entries)).foldl (· + ·) 0
    let d := (d.bump Reg.intRstDiscard n).log (r.culprit d) .timeout r.ga 7 n
    (r :: rest).foldl (fun d r => ((d.zoneLeave r.seq).dropReq r.seq).noteFail r.agent r.ident r.ing r.seq .timeout) d

/-- The drain ends (R290): a cycle still running is cut, and what is still held is discarded. -/
def Dev.drainEnd (d : Dev) (all : Bool) : Dev :=
  let d := (d.endQueued true).cutBus
  let d := (drainPaths all).foldl (fun d p => d.discardPath p) d
  d.onLbu fun l => { l with draining := false }

/-! ### Block resets -/

/-- The frames of an input port are dropped, with their keys (R466). -/
def Dev.dropIngress (d : Dev) (port : Nat) : Dev :=
  let ids := (d.frm.ins.filter fun x => x.port == port).map (·.id)
  let frm : FramePath :=
    { d.frm with ins := d.frm.ins.filter (fun x => x.port != port), keys := d.frm.keys.filter (fun k => !ids.contains k.id),
                 parked := d.frm.parked.filter fun k => !ids.contains k.key.id }
  { d with frm := frm }

/-- Reset of the HP block (R108, R229, R237). -/
def Dev.hpReset (d : Dev) : Dev :=
  let d := d.functionReset.hostLinkDown
  let d := d.loseRsv fun r => decide (r.agent < 32) && r.link.isNone
  let d := d.dropBlocks fun b => b.zone.isNone || ttClass b.ing == 0
  (d.regsReset 1).setFld Reg.hpLinkCtl 5 1 0

/-- Reset of the LBU block (R140, R149, R229, R234, R237): LRESET_N is low, every slot is freed and counted, locked sequences end. -/
def Dev.lbuReset (d : Dev) : Dev :=
  let d := d.dropBlocks fun b => b.zone.isSome
  let idx := d.lbu.slots.map (·.idx)
  let d := idx.foldl (fun d i => d.freeDr i) d
  let d := (d.rsvException 56 56).rsvException 57 57
  let d := d.onFab fun b => { b with semLocks := [], lwBar := [],
                                     barriers := b.barriers.filter fun x => match x.src with | .lw _ => false | _ => true }
  let d := d.onLbu fun l => { io3v3 := l.io3v3, clkGood := l.clkGood, clkOk := l.clkOk, pins := l.pins, lirqQ := l.lirqQ,
                              zoneQ := l.zoneQ, draining := l.draining }
  (d.regsReset 2).bump Reg.lbuDrDiscard idx.length

/-- A locked sequence is broken as at the limit of R124. -/
def Dev.breakLogged (d : Dev) (k : Nat) : Dev :=
  match d.lockOf k with
  | some { slot := some i, granule := g, .. } =>
    ((d.bump Reg.lbuLockBroken).log { agent := 56 + k, orig := d.devid, path := 3, winFam := 3 } .lockBroken (g * 64) (i + 16 * k)).breakLock k
  | _ => d

/-- Reset of the WIN block (R67, R86, R234, R466). -/
def Dev.winReset (d : Dev) : Dev :=
  let off := fun (d : Dev) (f : WinFam) => (List.range (winCount f)).foldl (fun d n => if d.winEn f n then d.windowOff f n else d) d
  let d := off (off (off (off d .iw) .ow) .lw) .lz
  let d := (d.breakLogged 0).breakLogged 1
  let d := (d.loseRsv fun _ => true).onFab fun b => { b with rsvInfo := [], breaks := [], semGranted := 0, stops := [], winBarSeq := 0 }
  (d.regsReset 3 fun off => off == Reg.winBarCfg || off == Reg.winDramSize).retryHeld

/-- Reset of the ITM block (R172, R175, R186): every link goes DOWN and is then OFF. -/
def Dev.itmReset (d : Dev) : Dev :=
  let d := (List.range 5).foldl (fun d n => if (d.link n).state = .off then d else d.linkDown n) d
  ({ d with itm := d.itm.map fun (l : Link) => { epoch := l.epoch } }).regsReset 4

/-- Reset of the BLV block (R240): VT goes on; the calibrated values stand. -/
def Dev.blvReset (d : Dev) : Dev :=
  let d := d.blvClear.regsReset 8 fun off => off == Reg.blvRateTrim
  let d : Dev := { d with hub := { d.hub with vtFrac := [] }, lbu := { d.lbu with guard := false } }
  d.ldg.ptpLat.zipIdx.foldl (fun d p => d.wr (Reg.blvPtpLat + 4 * p.2) (BitVec.ofNat 32 p.1)) d

/-- Reset of the GZB block (R323): GZBn_RING and GZBn_PI stay. -/
def Dev.gzbReset (d : Dev) : Dev :=
  d.gzbClear.regsReset 9 fun off =>
    decide (Reg.gzbChCtl ≤ off) && decide (off < Reg.gzbChCtl + 0x400) && [4, 0x10, 0x14].contains ((off - Reg.gzbChCtl) % 0x40)

/-- Reset of the PAV block: every CAN and LIN channel, and the frames the Pavilions hold. -/
def Dev.pavReset (d : Dev) : Dev :=
  (({ d with can := List.replicate 64 {}, lin := List.replicate 32 {} }).dropIngress 8).regsReset 10

/-- Reset of the ETH block: every MAC and tunnel, and the frames they hold; the PHYs' link state is an input and stays. -/
def Dev.ethReset (d : Dev) : Dev :=
  (({ d with mac := d.mac.map (fun (m : Mac) => { link := m.link, speedErr := m.speedErr }), tun := List.replicate 4 {} }).dropIngress 7).regsReset 11

/-- The reset of one block, after any drain (R466). -/
def Dev.blockReset (d : Dev) (b : Nat) : Dev :=
  match b with
  | 1 => d.hpReset
  | 2 => d.lbuReset
  | 3 => d.winReset
  | 4 => d.itmReset
  | 5 => ({ d with frm := { d.frm with xfers := [], sec := [], caps := [], pdus := [] } }).regsReset 5
  | 6 => ({ d with trl := {}, frm := { d.frm with keys := d.frm.keys ++ d.frm.parked.map (fun (k : ParkedKey) => k.key), parked := [] } }).regsReset 6
  | 7 => ({ d with gth := {} }).regsReset 7
  | 8 => d.blvReset
  | 9 => d.gzbReset
  | 10 => d.pavReset
  | 11 => d.ethReset
  | 14 => (({ d with elog := {}, intb := {} }).onLbu fun l => { l with pins := List.replicate 8 {}, lirqQ := [] }).regsReset 14 fun off => off == Reg.intBrownoutLost
  | 15 => d.regsReset 15
  | _ => d

/-! ### Device resets -/

/-- A DRAM byte by local address (R57). -/
def inDram (a : Nat) : Bool := decide (0x10_0000_0000 ≤ a) && decide (a < 0x14_0000_0000)

/-- What the Lodge and the always-on domain keep through every reset: the flash, the straps, the memory remaps held there and the brown-out
record (R464, R473). -/
def Lodge.kept (l : Lodge) : Lodge :=
  { flash := l.flash, straps := l.straps, remaps := l.remaps, brownout := l.brownout }

/-- The pins of the device, which no reset changes. -/
def Dev.withPins (r d : Dev) : Dev :=
  { r with lbu := { r.lbu with io3v3 := d.lbu.io3v3 }
           hp := { r.hp with perst := d.hp.perst }
           mac := d.mac.map (fun (m : Mac) => { link := m.link, speedErr := m.speedErr })
           twin := { r.twin with peerAct := d.twin.peerAct, peerUnfit := d.twin.peerUnfit } }

/-- Registers that a reset of the whole device keeps (R464): the WKT block and INT_BROWNOUT_LOST; over a restart DEP_TWIN_LOST and
DEP_SPARE_MAP as well. -/
def coldKeeps (kind : StartKind) (off : Nat) : Bool :=
  blockOf off == 12 || off == Reg.intBrownoutLost ||
    (kind == .restart && (off == Reg.depTwinLost || off == Reg.depTwinLostHi ||
      (decide (Reg.depSpareMap ≤ off) && decide (off < Reg.depSpareMap + 0x200))))

/-- Power-on reset, a restart, or the wake from STANDBY (R464): everything takes its power-on value but what each keeps. -/
def Dev.coldReset (d : Dev) (kind : StartKind) : Dev :=
  let keep := coldKeeps kind
  let wake := kind == .standbyWake
  let r : Dev := Dev.reset
  let r : Dev := { r with
    regs := cellsPut (r.regs.filter fun c => !keep c.1) (d.regs.filter fun c => keep c.1)
    mem := if wake then d.mem.filter fun c => inDram c.1 else []
    bad := if wake then d.bad.filter inDram else []
    wkt := { d.wkt with mode := .run, vtLost := false }
    ldg := d.ldg.kept
    dep := { r.dep with mapUsed := if kind == .restart then d.dep.mapUsed else 0 }
    blv := if wake ∧ !d.wkt.vtLost
      then { vt := d.blv.vt, acc := d.blv.acc, servo := .holdover, rates := d.blv.rates, everLocked := d.blv.everLocked }
      else {}
    fresh := d.fresh
    out := d.out }
  r.withPins d

/-- The warm reset proper, after its drain (R464, R465): every block but SYS, DEP, INT and WKT takes its power-on values; VT goes on, the DRAM
keeps its contents, and the twin unit starts anew. The start that follows checks units and planes afresh (R433, R451), and leaves the safe state
(R434). The drain has performed the writes that changes of LIRQ_N waited for (R298). -/
def Dev.warmReset (d : Dev) : Dev :=
  let d := [1, 3, 4, 5, 6, 7, 9, 10, 11, 15].foldl (fun d b => d.blockReset b) (d.blvReset.lbuReset)
  let d := d.regsReset 16
  let r : Dev := { d with
    regs := cellsPut (resetRegs.filter fun c => !([0, 8, 12, 13, 14].contains (blockOf c.1)))
                     (d.regs.filter fun c => [0, 8, 12, 13, 14].contains (blockOf c.1))
    mem := d.mem.filter fun c => inDram c.1
    bad := d.bad.filter inDram
    fab := {}
    hp := {}
    lbu := {}
    itm := d.itm
    frm := {}
    gth := {}
    gzb := {}
    intb := {}
    can := List.replicate 64 {}
    lin := List.replicate 32 {}
    tun := List.replicate 4 {}
    ldg := { d.ldg.kept with ptpLat := d.ldg.ptpLat }
    dep := { d.dep with lockstep := false, planeOk := 3, unitFaults := [], spares := [], dramFree := 0, exhausted := false, safe := false }
    twin := { state := .none, lastCause := d.twin.lastCause, planned := d.twin.planned, replayLog := d.twin.replayLog } }
  (r.withPins d).onLbu fun l => { l with pins := d.lbu.pins.map fun p => { p with level := p.accepted, queued := p.accepted } }

end Sys2Proof.Machine
end

