-- ==== Sys2Proof/Machine/Hub.lean ====
section
/-!
DEFINITION. The register hub (R31–R47): what lies at each register-space offset, who may access it (R36, R283, R493), what a read returns and
what a write of each access class does. Every register access of every requester goes through `hubRead` and `hubWrite`.
-/
namespace Sys2Proof.Machine

/-! ### The map -/

/-- A row of the register map covers an offset. -/
def RegRow.covers (r : RegRow) (off : Nat) : Bool :=
  let x := off - r.base
  decide (r.base ≤ off) &&
    if r.stride1 = 0 then x == 0
    else
      decide (x / r.stride1 < r.count1) &&
        if r.stride2 = 0 then x % r.stride1 == 0
        else x % r.stride1 % r.stride2 == 0 && decide (x % r.stride1 / r.stride2 < r.count2)

/-- The row of the register map at an offset. -/
def regRow? (off : Nat) : Option RegRow := (regRowsOf (blockOf off)).find? fun r => r.covers off

/-- The blocks of the CORE domain, which have alias areas (R32). -/
def coreBlock (b : Nat) : Bool := [0, 2, 3, 5, 6, 7, 9, 13, 14].contains b

/-- The frame an offset lies in: the block, or the instance frame of PAV and ETH (R34, R41), as a 64 KiB index. -/
def frameOf (off : Nat) : Nat := if blockOf off = 10 ∨ blockOf off = 11 then off / 0x10000 else 16 * blockOf off

/-- The offset lies in the register area of its block or frame (R33, R34). -/
def regArea (off : Nat) : Bool :=
  let f := off % 0x100000 / 0x10000
  decide (blockOf off ≤ 16) && match blockOf off with
    | 10 => decide (f < 8)
    | 11 => true
    | _ => f == 0

/-- The alias of an offset (R33, R38): 1 SET, 2 CLEAR, 3 TOGGLE, with the plain offset. -/
def aliasOf (off : Nat) : Option (Nat × Nat) :=
  let f := off % 0x100000 / 0x10000
  if coreBlock (blockOf off) ∧ 1 ≤ f ∧ f ≤ 3 then some (f, off - f * 0x10000) else none

/-- The block memories that take writes, by offset (R33, and the chapter of each block). -/
def blockMem (off : Nat) : Bool :=
  let x := off % 0x100000
  match blockOf off with
  | 5 => decide (0x40000 ≤ x) && decide (x < 0x60000)
  | 6 => decide (0x40000 ≤ x) && decide (x < 0x40020)
  | 7 => (decide (0x40000 ≤ x) && decide (x < 0x68800)) ||
      (decide (0x70000 ≤ x) && decide (x < 0x71C00)) || (decide (0x79000 ≤ x) && decide (x < 0x79040))
  | 8 => decide (0x40000 ≤ x) && decide (x < 0x60000)
  | 10 => decide (0x80000 ≤ x) &&
      (if x % 0x10000 < 0x8000 then decide (x % 0x1000 < 0x810) else decide (x % 0x10000 < 0xA000) && decide (x % 0x800 < 0x600))
  | 11 => decide (0xF1000 ≤ x) && decide (x < 0xF8800)
  | 12 => decide (0x41000 ≤ x) && decide (x < 0x41800)
  | _ => false

/-! ### Reads -/

/-- The word a register or block-memory location holds for a reader (R37, R38, R45), before the effects of the read. -/
def Dev.regWord (d : Dev) (who off : Nat) : Word :=
  let plain := fun (o : Nat) =>
    match d.derived o with
    | some w => w
    | none =>
      match regRow? o with
      | some r => match r.cls with
        | .wo | .key | .keys => 0
        | _ => d.rd o
      | none => if blockMem o then d.rd o else 0
  if off = Reg.blvVtFrac then wordOf (((d.hub.vtFrac.find? fun x => x.1 == who).map (·.2)).getD 0)
  else if regArea off && off % 0x10000 == 0xFFF0 then wordOf (b2n (d.hub.rws.any fun x => x.frame == frameOf off))
  else if regArea off && off % 0x10000 == 0xFFF4 then d.rd off
  else
    match aliasOf off with
    | some (_, p) => match regRow? p with
      | some r => if r.cls = .rwa then plain p else 0
      | none => 0
    | none => plain off

/-- A read of one word through the hub: BLV_VT_LO also latches the fraction for its reader (R242). -/
def Dev.hubRead (d : Dev) (who off : Nat) : Dev × Word :=
  let w := d.regWord who off
  if off = Reg.blvVtLo then
    ({ d with hub := { d.hub with vtFrac := (who, d.blv.acc / 2 ^ 32) :: d.hub.vtFrac.filter fun x => x.1 != who } }, w)
  else (d, w)

/-! ### Permission -/

/-- Offsets of the routing entries whose DEST 3 is the Lodge's alone (R293). -/
def routingEntry (off : Nat) : Bool :=
  (decide (Reg.intNodeMap ≤ off) && decide (off < Reg.intNodeMap + 0x100)) ||
    (decide (Reg.intVector ≤ off) && decide (off < Reg.intVector + 0x400))

/-- The armed attempt that a companion write commits: same requester, complement of the value (R40). -/
def Dev.commits (d : Dev) (who off : Nat) (v : Word) : Option Word :=
  match d.hub.armed.find? fun a => a.off == off with
  | some a => if a.who = who ∧ v = ~~~a.val then some a.val else none
  | none => none

/-- The PERM detail code of a keyed commit a requester may not make (R385, R409, R419, R459). -/
def Dev.commitDenied (d : Dev) (who off : Nat) (v : Word) : Option Nat :=
  let arc := isArc who
  if off = Reg.trlTableSelect then (if d.ownerAdmits who then none else some 5)
  else if off = Reg.gthKeyCtl then (if arc then some 7 else if fieldOf v 10 2 = 2 ∧ who ≠ 63 then some 1 else none)
  else if blockOf off = 13 then (if arc then some 7 else none)
  else if off = Reg.wktSleepCtl then (if who = 63 then none else some 9)
  else none

/-- The PERM detail code of a write a requester may not make (R36, R283), if any. Code 0 is used only where no other code applies. -/
def Dev.writeDenied (d : Dev) (who off : Nat) (v : Word) : Option Nat :=
  let other : Option Nat :=
    match regRow? off with
    | none => none
    | some r =>
      if r.writer = .host then (if who < 32 then none else some 4)
      else if r.writer = .lodge then (if who = 63 then none else some 1)
      else if off = Reg.hpLinkCtl then (if who ≠ 63 ∧ fieldOf v 4 2 ≠ d.fld off 4 2 then some 1 else none)
      else if routingEntry off then
        (if who ≠ 63 ∧ (d.fld off 6 3 = 3 ∨ fieldOf (maskedValue (d.rd off) v 0x1FF) 6 3 = 3) then some 6 else none)
      else if off = Reg.ldgMbxCmd then (if isArc who ∧ fieldOf v 0 7 ≠ 9 then some 8 else none)
      else match r.cls with
        | .key | .keys => (d.commits who (off - 4) v).bind fun x => d.commitDenied who (off - 4) x
        | _ => none
  match other with
  | some c => some c
  | none => if isArc who ∧ !d.arcAllowed off 4 true false then some 0 else none

/-! ### Commits of keyed registers -/

/-- A warm reset begins with the drain of every buffered path (R290, R465). -/
def Dev.warmStart (d : Dev) : Dev :=
  if d.ldg.warm then d else ({ d with ldg := { d.ldg with warm := true } }).drainStart true

/-- A commit of SYS_RESET_CTL (R52). -/
def Dev.resetCommit (d : Dev) (v : Word) : Dev :=
  let b := fieldOf v 4 5
  if fieldOf v 0 1 = 1 then d.warmStart
  else if fieldOf v 1 1 = 1 then
    if b = 0 ∨ b = 12 ∨ b = 13 ∨ 16 ≤ b then d.reject
    else if b = 2 then
      if d.ldg.warm ∨ d.ldg.resetBlocks.contains 2 then d
      else ({ d with ldg := { d.ldg with resetBlocks := d.ldg.resetBlocks ++ [2] } }).drainStart false
    else d.blockReset b
  else d

/-- Restore-factory begins (R53, R491): at once, or when the CAL_WRITE that runs has ended. -/
def Dev.eraseStart (d : Dev) : Dev :=
  if d.ldg.erasing then d
  else if (d.ldg.mbx.map (·.cmd)) = some 8 then { d with ldg := { d.ldg with eraseWait := true } }
  else { d with ldg := { d.ldg with erasing := true } }

/-- A planned handover begins (R447): while PROTECTED = 1 new requests are refused as in the drain of R290. -/
def Dev.handoverStart (d : Dev) : Dev :=
  if !d.twin.prot then d.reject
  else if d.twin.handover then d
  else
    let d := (d.onTwin fun t => { t with handover := true }).onLbu fun l => { l with draining := true }
    d.emitLines fun _ => true

/-- The fields of DEP_FAULT_ACT that are fixed (R433), and the reserved one. -/
def fixedActs : Word := BitVec.ofNat 32 (maskOf 32 fun i => fixedFault (i / 2) || i / 2 == 15)

/-- A commit of DEP_SPARE_CMD (R462): SWAP_IN moves a unit onto a free spare. -/
def Dev.spareCommit (d : Dev) (v : Word) : Dev :=
  let kind := fieldOf v 0 4
  let unit := fieldOf v 4 24
  let d := d.wr Reg.depSpareCmd (v &&& 0x0FFFFFFF)
  if fieldOf v 28 4 = 1 ∧ 5 ≤ kind ∧ kind ≤ 8 then (if d.spareFree kind unit then d.swapUnit kind unit 3 else d.reject) else d

/-- The commit of a keyed register in the CORE domain (R40). -/
def Dev.keyedEffect (d : Dev) (who off : Nat) (v : Word) : Dev :=
  if off = Reg.sysResetCtl then d.resetCommit v
  else if off = Reg.sysCalCtl then (if fieldOf v 0 1 = 1 then d.eraseStart else d)
  else if off = Reg.gzbRestart then d.gzbRestart (BitVec.ofNat 16 v.toNat) (fieldOf v 16 1 == 1)
  else if off = Reg.trlTableSelect then d.tableSwitch who (fieldOf v 0 1)
  else if off = Reg.gthKeyCtl then d.keyCommit who (fieldOf v 0 10) (fieldOf v 10 2)
  else if off = Reg.depTwinRole then
    let d := d.wr off (v &&& 3)
    if fieldOf v 2 1 = 1 then d.handoverStart else d
  else if off = Reg.depFaultAct then d.wr off ((v &&& ~~~fixedActs) ||| (d.rd off &&& fixedActs))
  else if off = Reg.depSpareCmd then d.spareCommit v
  else d

/-! ### Effects of register writes -/

/-- The instance an offset names among replicated registers. -/
def instOf (off base stride count : Nat) : Option Nat :=
  if base ≤ off ∧ (off - base) % stride = 0 ∧ (off - base) / stride < count then some ((off - base) / stride) else none

/-- The window whose register area an offset lies in, with the offset in that area (R83). -/
def winAt (off : Nat) : Option (WinFam × Nat × Nat) :=
  let pick := fun (f : WinFam) =>
    let b := winBase f 0
    if b ≤ off ∧ (off - b) / 0x20 < winCount f then some (f, (off - b) / 0x20, (off - b) % 0x20) else none
  (pick .iw).orElse fun _ => (pick .ow).orElse fun _ => (pick .lw).orElse fun _ => pick .lz

/-- A write of a window register that R65, R67 or R73 refuses. -/
def Dev.winRefused (d : Dev) (f : WinFam) (n k : Nat) (old new : Word) : Bool :=
  (d.winEn f n && (if k = 0 then (old ^^^ new) &&& 0xFFFFFFFE != 0 else old != new)) ||
    (k == 0 && decide ((match f with | .iw | .ow => 24 | _ => 20) < fieldOf new 1 5)) ||
    (k == 0 && (f == .iw || f == .lw) && fieldOf new 10 1 == 1 && fieldOf old 10 1 == 0 && decide (4 ≤ d.syncErrUse f))

/-- A write of a window register (R65, R67, R73). -/
def Dev.winWrite (d : Dev) (f : WinFam) (n k off : Nat) (new : Word) : Dev :=
  if d.winRefused f n k (d.rd off) new then d.reject
  else
    let was := d.winEn f n
    let d := d.wr off new
    if k = 0 ∧ was ∧ fieldOf new 0 1 = 0 then d.windowOff f n
    else if k = 0 ∧ !was ∧ fieldOf new 0 1 = 1 then d.retryHeld
    else d

/-- A write of LBU_CTL (R140, R141). -/
def Dev.lbuCtlWrite (d : Dev) (new : Word) : Dev :=
  let old := d.rd Reg.lbuCtl
  let on := fieldOf new 0 1 == 1
  let was := fieldOf old 0 1 == 1
  if was && (old ^^^ new) &&& (~~~0x1F81) != 0 then d.reject
  else if on && !was && ((fieldOf new 13 1 == 1) != d.lbu.io3v3 || (fieldOf new 2 1 == 1 && !d.lbu.clkOk)) then d.reject
  else
    let d := d.wr Reg.lbuCtl new
    if on then d else d.onLbu fun l => { l with lreset := true }

/-- A write of LBU_PATH_CFG: clearing a CWB_EN bit emits that path's lines (R218). -/
def Dev.pathCfgWrite (d : Dev) (new : Word) : Dev :=
  let d := d.wr Reg.lbuPathCfg new
  d.emitLines fun l => !d.cwbEn l.path

/-- A write that would give the links roles R175 forbids: a second UP, UP_ALT or TWIN, or UP_ALT without UP. -/
def Dev.rolesRefused (d : Dev) (n role : Nat) : Bool :=
  let roles := (List.range 5).map fun i => if i = n then role else d.linkRole i
  let count := fun (r : Nat) => (roles.filter (· == r)).length
  decide (1 < count 1) || decide (1 < count 2) || decide (1 < count 4) || (role == 2 && count 1 == 0)

/-- A write of ITMn_CTL or ITMn_PEER (R175, R188). -/
def Dev.linkCfgWrite (d : Dev) (n : Nat) (peer : Bool) (new : Word) : Dev :=
  let off := if peer then Reg.itmPeer + 0x40 * n else Reg.itmLinkCtl + 0x40 * n
  let old := d.rd off
  let val := if peer then new else new &&& ~~~8
  if !peer && fieldOf new 0 3 != fieldOf old 0 3 && d.rolesRefused n (fieldOf new 0 3) then d.reject
  else
    let was := d.linkRole n
    let d := d.wr off val
    if (val != old ∧ (was ≠ 0 ∨ (d.linkRole n ≠ 0 ∧ (d.link n).state = .off))) ∨ (!peer ∧ fieldOf new 3 1 = 1 ∧ d.linkRole n ≠ 0)
    then d.linkRestart n else d

/-- A write of INT_LIRQk_CFG (R297): a pin with EN = 0 has level 0, is not sampled, and has no change waiting. -/
def Dev.lirqCfgWrite (d : Dev) (k off : Nat) (new : Word) : Dev :=
  let d := d.wr off new
  if fieldOf new 8 1 = 1 then d
  else { d with lbu := { d.lbu with pins := d.lbu.pins.modify k (fun _ => {}), lirqQ := d.lbu.lirqQ.filter fun c => c.pin != k } }

/-- A write of PGL_CTL (R360): not the one that leaves no plane; a plane it disables loses the cells in it at the PLANE_DISABLE event. -/
def Dev.pglCtlWrite (d : Dev) (new : Word) : Dev :=
  if fieldOf new 0 2 = 0 ∨ fieldOf new 0 2 &&& d.dep.planeOk = 0 then d.reject else d.wr Reg.pglCtl new

/-- A write of PGL_CRr_CFG (R348, R362): EN from 0 to 1 sets both indices to 0. -/
def Dev.ringCfgWrite (d : Dev) (r off : Nat) (new : Word) : Dev :=
  let was := d.flag off 0
  let d := d.wr off new
  if !was ∧ fieldOf new 0 1 = 1 then
    ((d.wr (capReg Reg.pglCrWi r) 0).wr (capReg Reg.pglCrRi r) 0).onFrm fun p => { p with caps := p.caps.filter fun c => c.ring != r }
  else d

/-- A write of TRL_CTRL (R365, R386, R391): EN needs areas within their limits. -/
def Dev.trlCtrlWrite (d : Dev) (new : Word) : Dev :=
  if fieldOf new 0 1 = 1 ∧ !d.flag Reg.trlCtrl 0 ∧ !d.areaOk d.trl.active then d.reject else d.wr Reg.trlCtrl new

/-- Area registers of the Trellis may not be written while the area serves lookups or is the shadow (R391; DEDUCED, log 41: an area is active
while EN = 1). -/
def Dev.areaLocked (d : Dev) (t : Nat) : Bool := (d.flag Reg.trlCtrl 0 && d.trl.active == t) || (d.shadowOn && d.trl.active != t)

/-- A write of a CAN channel's CTL (R338): EN from 0 to 1 ends a bus-off and integrates anew; EN to 0 takes the channel off the bus. -/
def Dev.canCtlWrite (d : Dev) (ch off : Nat) (new : Word) : Dev :=
  let was := d.flag off 0
  let on := fieldOf new 0 1 == 1
  let d := d.wr off new
  if on && !was then d.onCan ch fun c => { c with busOff := false, sync := false, txErr := 0, rxErr := 0, offer := none }
  else if was && !on then d.onCan ch fun c => { c with sync := false, offer := none }
  else d

/-- A write of ETHi_TAS_CTL (R344). -/
def Dev.tasCtlWrite (d : Dev) (i off : Nat) (new : Word) : Dev :=
  let was := d.flag off 0
  let d := d.wr off new
  if was == (fieldOf new 0 1 == 1) then d else d.onMac i fun m => { m with tasRun := false, gates := 255 }

/-- The TAS of a MAC is on, which locks its list, CYCLE and BASE (R344). -/
def Dev.tasOn (d : Dev) (i : Nat) : Bool := d.flag (ethReg Reg.ethTasCtl i) 0

/-- The mode entry that a commit of WKT_SLEEP_CTL starts, or its refusal (R419). -/
def Dev.wktEnter (d : Dev) (m : Nat) : Dev :=
  if d.wkt.mode ≠ .run ∨ (m ≠ 1 ∧ m ≠ 2) then d
  else if !d.wkt.events.isEmpty then { d with wkt := { d.wkt with lastEntry := 2 } }
  else { d with wkt := { d.wkt with mode := .entering, target := if m = 1 then .standby else .sleep } }

/-- Address of general SRAM by its byte offset (R57). -/
def sramAddr (x : Nat) : Nat := 0x01_0000_0000 + x

/-- The words of eight bytes an access of `len` bytes touches. -/
def dwordsOf (a len : Nat) : List Nat := (List.range ((a + len - 1) / 8 + 1 - a / 8)).map fun k => (a / 8 + k) * 8

/-- The enabled bytes of one eight-byte word. -/
def dwordData (a : Nat) (data : WData) (w : Nat) : WData :=
  (List.range 8).map fun i => if a ≤ w + i then data.getD (w + i - a) none else none

/-- A write into a Trellis area from P10 travels as MEM records (R440). -/
def Dev.sendArea (d : Dev) (w : Nat) (x : WData) : Dev :=
  let inArea := fun (t : Nat) => decide (0x10_0000_0000 + d.areaOff t ≤ w) && decide (w < 0x10_0000_0000 + d.areaOff t + 128 * d.areaNb t)
  if d.twin.streaming && (inArea 0 || inArea 1) && x.any (·.isSome) then d.sendRec 2 (leBytes 6 w ++ leBytes 2 8 ++ d.bytesAt w 8) else d

/-- A store into DRAM or SRAM (R427, R428): a word that is wholly written is encoded afresh; a partial write of an uncorrectable word is not
performed there. The first such word is answered. -/
def Dev.memStore (d : Dev) (a : Nat) (data : WData) : Dev × Option Nat :=
  (dwordsOf a data.length).foldl (fun (p : Dev × Option Nat) w =>
    let x := dwordData a data w
    if x.all (·.isSome) then (((p.1.setBytes w x).freshWords w 8).sendArea w x, p.2)
    else if x.any (·.isSome) ∧ (p.1.badIn w 8).isSome then (p.1, p.2.orElse fun _ => some w)
    else ((p.1.setBytes w x).sendArea w x, p.2)) (d, none)

/-- The running mailbox command ends (R498, R499): the result and its data are stored in the parameter block before DONE becomes 1. An erasure
that waited for it begins (R491). -/
def Dev.mbxEnd (d : Dev) (c : MbxCmd) (result : Nat) (data : List Byte) : Dev :=
  let at' := c.addr + 32
  let d := (d.memStore at' (allOn (leBytes 4 result ++ data))).1.rsvStore 63 63 false (d.devid * 2 ^ 38 + at') (4 + data.length)
  let d := d.wr Reg.ldgMbxStatus (setField (d.rd Reg.ldgMbxStatus) 0 5 (2 + 4 * result))
  { d with ldg := { d.ldg with mbx := none, erasing := d.ldg.erasing || d.ldg.eraseWait, eraseWait := false } }

/-- A write of LDG_MBX_CMD (R498): ignored and counted while a command runs; otherwise accepted, with its parameters read once. A code without
a command ends as BAD_ARG at once. -/
def Dev.mbxWrite (d : Dev) (who : Nat) (v : Word) : Dev :=
  if d.ldg.mbx.isSome then d.bump Reg.ldgMbxReject
  else
    let st := d.rd Reg.ldgMbxStatus
    let st := setField (setField (setField st 0 5 1) 8 8 (fieldOf st 8 8 + 1)) 16 6 who
    let addr := sramAddr (64 * fieldOf v 8 16)
    let c : MbxCmd := { cmd := fieldOf v 0 7, owner := who, addr := addr, params := d.bytesAt addr 64, late := d.ldg.erasing }
    let d := (d.wr Reg.ldgMbxStatus st).wr Reg.ldgMbxCmd (v &&& 0xFFFFFF80)
    let d : Dev := { d with ldg := { d.ldg with mbx := some c, mbxIe := fieldOf v 7 1 == 1 } }
    if 1 ≤ c.cmd ∧ c.cmd ≤ 10 then d else d.mbxEnd c 1 []

/-- The effect of a value on a register of the slow domains (R41), by register. -/
def Dev.slowEffect (d : Dev) (who off : Nat) (new : Word) : Dev :=
  if off = Reg.hpSubsys then (if d.flag Reg.hpLinkCtl 5 then d.reject else d.wr off new)
  else if off = Reg.blvSrcCfg then d.srcCfgWrite new
  else if off = Reg.blvSchedCfg then d.schedCfgWrite new
  else if off = Reg.blvRate then d.rateWrite new
  else if off = Reg.blvSlew then d.slewWrite new
  else if off = Reg.blvStepCtl then d.stepCtlWrite new
  else if off = Reg.blvArm then d.armWrite new
  else if off = Reg.blvResPop then (if fieldOf new 0 1 = 1 then d.onBlv fun b => { b with res := b.res.drop 1 } else d)
  else if off = Reg.blvCapPop then (if fieldOf new 0 1 = 1 then d.onBlv fun b => { b with caps := b.caps.drop 1 } else d)
  else if off = Reg.blvTxtsPop then (if fieldOf new 0 1 = 1 then d.onBlv fun b => { b with txts := b.txts.drop 1 } else d)
  else if off = Reg.wktEvtPop then (if fieldOf new 0 1 = 1 then { d with wkt := { d.wkt with events := d.wkt.events.drop 1 } } else d)
  else if off = Reg.wktSleepCtl then d.wktEnter (fieldOf new 0 2)
  else if off = Reg.ldgMbxCmd then d.mbxWrite who new
  else if off = Reg.dmcCtl then d
  else if Reg.dmcCfg ≤ off ∧ off ≤ Reg.dmcVref ∧ d.flag Reg.dmcStatus 0 then d.reject
  else
    match instOf off Reg.blvTioCfg 4 48 with
    | some k => d.tioCfgWrite k new
    | none =>
      match instOf off Reg.itmLinkCtl 0x40 5, instOf off Reg.itmPeer 0x40 5 with
      | some n, _ => d.linkCfgWrite n false new
      | _, some n => d.linkCfgWrite n true new
      | none, none =>
        if blockOf off = 10 then
          let x := off % 0x10000
          let ch := 8 * (off % 0x100000 / 0x10000) + (x - 0x100) / 0x80
          if x < 0x500 ∧ x % 0x80 = 0 then d.canCtlWrite ch off new
          else if x < 0x500 ∧ x % 0x80 = 0x1C then d.txLoad ch (fieldOf new 0 5)
          else d.wr off new
        else
          match instOf off Reg.ethTasCtl 0x10000 15 with
          | some i => d.tasCtlWrite i off new
          | none =>
            if blockOf off = 11 ∧ off < 0xBF_0000 ∧ [0x14, 0x18, 0x1C].contains (off % 0x10000) ∧ d.tasOn (off % 0x100000 / 0x10000) then d.reject
            else d.wr off new

/-- The effect of a value on a register of the CORE domain that holds it (classes RW, RWA and RWM), by register. -/
def Dev.coreEffect (d : Dev) (who off : Nat) (new : Word) : Dev :=
  match winAt off with
  | some (f, n, k) => d.winWrite f n k off new
  | none =>
    if off = Reg.lbuCtl then d.lbuCtlWrite new
    else if Reg.intLirqCfg ≤ off ∧ off < Reg.intLirqCfg + 0x20 then d.lirqCfgWrite ((off - Reg.intLirqCfg) / 4) off new
    else if off = Reg.lbuPathCfg then d.pathCfgWrite new
    else if off = Reg.pglCtl then d.pglCtlWrite new
    else if off = Reg.trlCtrl then d.trlCtrlWrite new
    else if off = Reg.winHostSemClaim then
      (List.range 16).foldl (fun d i =>
        if fieldOf new i 1 = d.fld off i 1 then d else d.semClaim who i (fieldOf new i 1 == 1)) d
    else if off = Reg.trlWatchCfg then
      let was := d.flag off 0
      let d := d.wr off new
      if !was ∧ fieldOf new 0 1 = 1 then (d.wr Reg.trlWatchWi 0).wr Reg.trlWatchRi 0 else d
    else if Reg.trlTabBase ≤ off ∧ off < Reg.trlTabBase + 0x40 ∧ d.areaLocked ((off - Reg.trlTabBase) / 0x20) then d.reject
    else
      match instOf off Reg.gzbChCtl 0x40 16, instOf off Reg.gzbChPi 0x40 16, instOf off Reg.lbuZoneCfg 4 8, instOf off Reg.pglCrCfg 0x20 8 with
      | some c, _, _, _ => d.chanCtl c (0xFFFF0000 ||| new)
      | _, some c, _, _ => d.piWrite c (0xFFFF0000 ||| new)
      | _, _, some n, _ => if d.winEn .lz n then d.reject else d.wr off new
      | _, _, _, some r => d.ringCfgWrite r off new
      | _, _, _, _ => d.wr off new

/-- A write of a WO register (R37). -/
def Dev.actionWrite (d : Dev) (who off : Nat) (v : Word) : Dev :=
  let go := fieldOf v 0 1 = 1
  if off = Reg.winBarrier then
    d.takeBarrier (.win (Fin.ofNat 64 who) (Fin.ofNat 32 (fieldOf v 4 5))) (fieldOf v 0 1 == 1)
  else if off = Reg.intElPop then d.elPop (fieldOf v 0 16)
  else if off = Reg.intEoi then d.eoi (fieldOf v 0 6)
  else if off = Reg.depNotePop then (if go then d.onDep fun p => { p with notes := p.notes.drop 1 } else d)
  else if off = Reg.trlGenAdv then (if go then d.genAdvance else d)
  else if off = Reg.trlCmd then d.trlCmdWrite v
  else if off = Reg.trlRqPop then (if go then d.rehashPop else d)
  else if off = Reg.gthFailPop then (if go then d.failPop else d)
  else d

/-- The write of a whole 64-bit value (R42), by register: `off` is that of its low word. -/
def Dev.wideEffect (d : Dev) (off x : Nat) : Dev :=
  match winAt off with
  | some (f, n, k) => if d.winRefused f n k 0 (if x = d.rd64 off then 0 else 1) then d.reject else d.wr64 off x
  | none =>
    match instOf off Reg.gzbChRing 0x40 16, instOf off Reg.winSemAddr 8 16, instOf off Reg.pglCrBase 0x20 8 with
    | some c, _, _ => d.ringWrite c x
    | _, some i, _ => if d.semHeld i || d.flag Reg.winHostSemClaim i then d.reject else d.wr64 off x
    | _, _, some r => if d.flag (capReg Reg.pglCrCfg r) 0 then d else d.wr64 off x
    | none, none, none =>
      if Reg.trlTabBase ≤ off ∧ off < Reg.trlTabBase + 0x40 ∧ d.areaLocked ((off - Reg.trlTabBase) / 0x20) then d.reject
      else d.wr64 off x

/-! ### The state stream and parity -/

/-- The blocks whose configuration writes travel as REG records (R440). -/
def mirroredBlock (b : Nat) : Bool := !([0, 1, 9, 13, 16].contains b) && decide (b < 16)

/-- A register whose write acts and holds no configuration: it is not mirrored (DEDUCED, log 42). -/
def actsOnly (off : Nat) : Bool :=
  [Reg.blvResPop, Reg.blvCapPop, Reg.blvTxtsPop, Reg.wktEvtPop, Reg.wktSleepCtl, Reg.gthKeyCtl].contains off

/-- A REG record (R440). -/
def Dev.sendReg (d : Dev) (off : Nat) (v : Word) (form : Nat) : Dev :=
  if mirroredBlock (blockOf off) && !actsOnly off then d.sendRec 1 (leBytes 4 off ++ leBytes 4 v.toNat ++ leBytes 1 form) else d

/-- What an applied register write leaves beside its effect: its parity is right again (R47), and its record goes to the twin. A write that
was refused and counted leaves neither. -/
def Dev.applied (d d' : Dev) (off : Nat) (v : Word) (form : Nat) : Dev :=
  if d'.rd Reg.sysAccessReject != d.rd Reg.sysAccessReject then d'
  else ({ d' with hub := { d'.hub with damaged := d'.hub.damaged.filter fun x => x.off != off } }).sendReg off v form

/-! ### Block memories -/

/-- A MEM record of a block-memory write (R440). -/
def Dev.sendMem (d : Dev) (off : Nat) : Dev :=
  let blob := decide (0x77_9000 ≤ off) && decide (off < 0x77_9040)
  if [5, 7, 8, 10, 12].contains (blockOf off) && !blob then d.sendRec 2 (leBytes 6 off ++ leBytes 2 4 ++ leBytes 4 (d.rd off).toNat) else d

/-- The word of a meter, profile, guard, SA or other Gatehouse memory is written (R394, R397, R399, R406, R412). -/
def Dev.gthMemWrite (d : Dev) (off : Nat) (new : Word) : Dev :=
  let x := off - 0x70_0000
  let old := d.rd off
  if x < 0x6_0000 then
    let m := (x - 0x4_0000) / 32
    let w := x % 32 / 4
    if 5 ≤ w then d
    else
      let fills := w = 4 ∧ fieldOf old 0 1 = 0 ∧ fieldOf new 0 1 = 1
      let d := d.wr off new
      if fills then d.meterFill m else d
  else if x < 0x6_4000 then
    let k := (x - 0x6_0000) / 32
    let w := x % 32 / 4
    let on := d.profMode k != 0
    let locked := match w with
      | 1 => fieldOf old 16 16 != fieldOf new 16 16
      | 2 => old != new
      | _ => false
    if k = 0 ∨ 6 ≤ w ∨ (on ∧ 4 ≤ w) then d
    else if on && locked then d.reject
    else if w = 3 then d else d.wr off new
  else if x < 0x6_8000 then
    let g := (x - 0x6_4000) / 16
    let w := x % 16 / 4
    if w = 3 then d
    else
      let fills := w = 2 ∧ fieldOf old 7 1 = 0 ∧ fieldOf new 7 1 = 1
      let d := d.wr off new
      if fills then d.guardFill g else d
  else if 0x7_0000 ≤ x ∧ x < 0x7_1C00 then
    let y := x % 0x200
    let sa := decide (y < 0x40) || decide (0x10 ≤ (y - 0x40) % 0x60)
    if sa && y % 16 == 4 && d.flag (off - 4) 15 then d.reject else d.wr off new
  else d.wr off new

/-- A word of a block memory is written with byte enables; the chapters' own guards hold. -/
def Dev.memWrite (d : Dev) (who off : Nat) (v : Word) (be : BitVec 4) : Dev :=
  let new := mergeWord (d.rd off) v be
  let d' : Dev :=
    match blockOf off with
    | 7 => d.gthMemWrite off new
    | 8 => d.slotWrite off new
    | 11 => if d.tasOn ((off - 0xBF_1000) / 0x800) then d.reject else d.wr off new
    | 12 =>
      if be ≠ 15 then d
      else if d.hub.rws.any fun x => x.frame == frameOf off then d.bump (frameOf off * 0x10000 + 0xFFF4)
      else { d with hub := { d.hub with rws := d.hub.rws ++ [{ frame := frameOf off, off := off, val := v, who := who }] } }
    | _ => d.wr off new
  if d'.rd off != d.rd off then d'.sendMem off else d'

/-! ### Writes by class -/

/-- An armed attempt is discarded and counted (R40). -/
def Dev.dropArmed (d : Dev) (off : Nat) : Dev :=
  ({ d with hub := { d.hub with armed := d.hub.armed.filter fun a => a.off != off } }).bump Reg.sysKeyReject

/-- A write of a value of class RWS is accepted, or dropped while its frame is busy (R41). -/
def Dev.rwsPost (d : Dev) (who off : Nat) (v : Word) : Dev :=
  let f := frameOf off
  if d.hub.rws.any fun x => x.frame == f then d.bump (f * 0x10000 + 0xFFF4)
  else { d with hub := { d.hub with rws := d.hub.rws ++ [{ frame := f, off := off, val := v, who := who }] } }

/-- The bits of a value that a register's mask lets a write reach. -/
def maskIn (old v mask : Word) : Word := (old &&& ~~~mask) ||| (v &&& mask)

/-- An accepted RWS write reaches its register (R41). -/
def Dev.rwsReach (d : Dev) (x : RwsWrite) : Dev :=
  match regRow? x.off with
  | some r => d.applied (d.slowEffect x.who x.off (maskIn (d.rd x.off) x.val r.mask)) x.off x.val (if r.cls = .rwsk then 5 else 0)
  | none => (d.wr x.off x.val).sendMem x.off

/-- The slow domain applies the write in flight of a frame (R41). -/
def Dev.rwsApply (d : Dev) (frame : Nat) : Dev :=
  match d.hub.rws.find? fun x => x.frame == frame with
  | some x => ({ d with hub := { d.hub with rws := d.hub.rws.filter fun y => y.frame != frame } }).rwsReach x
  | none => d

/-- A keyed register is armed (R40): a new write at it replaces, and counts, the attempt that stands. -/
def Dev.keyedArm (d : Dev) (who off : Nat) (v : Word) : Dev :=
  let d := if d.hub.armed.any fun a => a.off == off then d.dropArmed off else d
  { d with hub := { d.hub with armed := d.hub.armed ++ [{ off := off, who := who, val := v }] } }

/-- A companion write (R40, R41): it commits the armed value, or discards the attempt. -/
def Dev.keyedCompanion (d : Dev) (who off : Nat) (v : Word) (slow : Bool) : Dev :=
  let busy := slow && d.hub.rws.any fun x => x.frame == frameOf off
  if busy then
    let d := d.bump (frameOf off * 0x10000 + 0xFFF4)
    if d.hub.armed.any fun a => a.off == off then d.dropArmed off else d
  else
    match d.commits who off v with
    | some x =>
      let d : Dev := { d with hub := { d.hub with armed := d.hub.armed.filter fun a => a.off != off } }
      if slow then { d with hub := { d.hub with rws := d.hub.rws ++ [{ frame := frameOf off, off := off, val := x, who := who }] } }
      else d.applied (d.keyedEffect who off x) off x 5
    | none => d.dropArmed off

/-- The whole of a 64-bit value is written (R42). -/
def Dev.wideWrite (d : Dev) (off : Nat) (lo hi : Word) : Dev :=
  match regRow? off, regRow? (off + 4) with
  | some rl, some rh =>
    let x := (lo &&& rl.mask).toNat + 2 ^ 32 * (hi &&& rh.mask).toNat
    let d' := d.wideEffect off x
    if d'.rd Reg.sysAccessReject != d.rd Reg.sysAccessReject then d'
    else
      let e := d.applied d' off lo 0
      e.applied e (off + 4) hi 0
  | _, _ => d

/-- The low word of a writable 64-bit value is held (R42). -/
def Dev.wideLow (d : Dev) (who off : Nat) (v : Word) : Dev :=
  let d := if d.hub.held64.any fun h => h.off == off && h.who != who then d.reject else d
  { d with hub := { d.hub with held64 := d.hub.held64.filter (fun h => h.off != off) ++ [{ off := off, who := who, low := v }] } }

/-- The high word of a writable 64-bit value commits: with the low word its requester holds, or with the current one (R42). -/
def Dev.wideHigh (d : Dev) (who off : Nat) (v : Word) : Dev :=
  match d.hub.held64.find? fun h => h.off == off && h.who == who with
  | some h => ({ d with hub := { d.hub with held64 := d.hub.held64.filter fun x => x.off != off } }).wideWrite off h.low v
  | none => d.wideWrite off (d.rd off) v

/-- An aligned 64-bit write of a writable 64-bit value (R42): what the writer itself held is superseded. -/
def Dev.wideFull (d : Dev) (who off : Nat) (lo hi : Word) : Dev :=
  ({ d with hub := { d.hub with held64 := d.hub.held64.filter fun h => !(h.off == off && h.who == who) } }).wideWrite off lo hi

/-- A write at an alias (R38). -/
def Dev.aliasWrite (d : Dev) (who k off : Nat) (v : Word) : Dev :=
  match regRow? off with
  | none => d
  | some r =>
    if r.cls ≠ .rwa then d.reject
    else
      let old := d.rd off
      let op := match k with | 1 => old ||| v | 2 => old &&& ~~~v | _ => old ^^^ v
      d.applied (d.coreEffect who off (maskIn old op r.mask)) off v k

/-- A write of one word by a requester that may make it (R35–R45). -/
def Dev.regWrite (d : Dev) (who off : Nat) (v : Word) : Dev :=
  match aliasOf off with
  | some (k, p) => d.aliasWrite who k p v
  | none =>
    match regRow? off with
    | none => if blockMem off then d.memWrite who off v 15 else d
    | some r =>
      match r.cls with
      | .ro => d
      | .wo => d.actionWrite who off v
      | .rw | .rwa => d.applied (d.coreEffect who off (maskIn (d.rd off) v r.mask)) off v 0
      | .rwm => d.applied (d.coreEffect who off (maskedValue (d.rd off) v r.mask)) off v 4
      | .rwk | .rwsk => d.keyedArm who off v
      | .key => d.keyedCompanion who (off - 4) v false
      | .keys => d.keyedCompanion who (off - 4) v true
      | .rws => d.rwsPost who off v
      | .lo64 => d.wideLow who off v
      | .hi64 => d.wideHigh who (off - 4) v

/-- A write of one word through the hub: PERM with its code, or its effect (R36). -/
def Dev.hubWrite (d : Dev) (who off : Nat) (v : Word) : Except Nat Dev :=
  match d.writeDenied who off v with
  | some c => .error c
  | none => .ok (d.regWrite who off v)

/-- An aligned 64-bit write through the hub (R35, R42): both halves as one access. -/
def Dev.hubWrite64 (d : Dev) (who off : Nat) (lo hi : Word) : Except Nat Dev :=
  match regRow? off with
  | some r =>
    if r.cls = .lo64 then
      match d.writeDenied who off lo with
      | some c => .error c
      | none => .ok (d.wideFull who off lo hi)
    else (d.hubWrite who off lo).bind fun d => d.hubWrite who (off + 4) hi
  | none => (d.hubWrite who off lo).bind fun d => d.hubWrite who (off + 4) hi

end Sys2Proof.Machine
end

