-- ==== Sys2Proof/Machine/Endpoint.lean ====
section
/-!
DEFINITION. Requests at the end points inside the device (R10, R212): DRAM and SRAM, and register space behind the register hub.
-/
namespace Sys2Proof.Machine

/-! ### Register space -/

/-- The byte enables of a word for a write of `len` bytes with data from offset `lo`. -/
def wordEn (lo : Nat) (data : WData) (off : Nat) : BitVec 4 :=
  BitVec.ofNat 4 (maskOf 4 fun i => decide (lo ≤ off + i) && (data.getD (off + i - lo) none).isSome)

/-- The bytes of a word taken from write data; bytes not enabled are zero. -/
def wordVal (lo : Nat) (data : WData) (off : Nat) : Word :=
  BitVec.ofNat 32 (leNat ((List.range 4).map fun i => if lo ≤ off + i then (data.getD (off + i - lo) none).getD 0 else 0))

/-- The words an access to register space touches, lowest first. -/
def wordsOf (lo len : Nat) : List Nat := (List.range ((lo + len - 1) / 4 + 1 - lo / 4)).map fun k => (lo / 4 + k) * 4

/-- One word of a write to register space (R35): a register takes all four bytes, a block memory any. -/
def Dev.regWordWrite (d : Dev) (who off : Nat) (v : Word) (be : BitVec 4) : Except Nat Dev :=
  if be = 0 then .ok d
  else if be = 15 then d.hubWrite who off v
  else if isArc who ∧ !d.arcAllowed off 4 true false then .error 0
  else if blockMem off ∧ (regRow? off).isNone then .ok (d.memWrite who off v be)
  else if regArea off ∨ (aliasOf off).isSome ∨ (regRow? off).isSome then .ok d.reject
  else .ok d

/-- A write to register space (R31, R35): an aligned 64-bit write is one access, anything else one access per word in ascending order. The
first refused word's code is kept; a refused word has no effect. -/
def Dev.regAccessWrite (d : Dev) (who lo : Nat) (data : WData) : Dev × Option Nat :=
  if data.length = 8 ∧ lo % 8 = 0 ∧ data.all (·.isSome) then
    match d.hubWrite64 who lo (wordVal lo data lo) (wordVal lo data (lo + 4)) with
    | .ok d => (d, none)
    | .error c => (d, some c)
  else
    (wordsOf lo data.length).foldl (fun (p : Dev × Option Nat) off =>
      match p.1.regWordWrite who off (wordVal lo data off) (wordEn lo data off) with
      | .ok d => (d, p.2)
      | .error c => (p.1, p.2.orElse fun _ => some c)) (d, none)

/-- A read of register space (R35): each word it touches, in ascending order. -/
def Dev.regAccessRead (d : Dev) (who lo len : Nat) : Dev × List Byte :=
  let r := (wordsOf lo len).foldl (fun (p : Dev × List Byte) off =>
    let x := p.1.hubRead who off
    (x.1, p.2 ++ leBytes 4 x.2.toNat)) (d, [])
  (r.1, (r.2.drop (lo % 4)).take len)

/-! ### Memory -/

/-- A request fails on an uncorrectable word: the error is logged with the word, and the poisoned word stays (R427, R428). -/
def Dev.eccFail (d : Dev) (r : Req) (a w : Nat) : Dev :=
  let m := memWord w
  let before := (d.bytesAt a (w - a))
  d.failReq r .decUncorr (eccDetail m.1 m.2) (w - a) before

/-- A request performed at DRAM or SRAM (R97, R212, R227–R229). -/
def Dev.memPerform (d : Dev) (r : Req) : Dev :=
  let a := r.ga % 2 ^ 38
  let stored := fun (d : Dev) => (d.rsvStore r.agent r.ident (decide (62 < r.agent)) r.ga r.len).prefWrite none r.ga r.len
  match r.op with
  | .read | .rsvLoad =>
    match d.badIn a r.len with
    | some w => d.eccFail r a (max a w)
    | none =>
      let d := if r.op = .rsvLoad then d.setRsv r else d
      let data := (List.range r.len).map fun i => ((r.known.find? fun x => x.1 == r.ga + i).map (·.2)).getD (d.byteAt (a + i))
      d.finish r.seq none 0 data
  | .write =>
    let x := d.memStore a r.data
    match x.2 with
    | some w => (stored x.1).eccFail r a (max a w)
    | none => (stored x.1).finish r.seq none 0 []
  | .condStore =>
    let c := d.condCheck r
    if c.1 then
      let x := c.2.memStore a r.data
      match x.2 with
      | some w => (stored x.1).eccFail r a (max a w)
      | none => (stored x.1).finish r.seq none 0 []
    else (c.2.updReq r.seq fun r => { r with csFail := true }).finish r.seq none 0 []
  | .fetchAdd | .swap | .cas =>
    match d.badIn a r.len with
    | some w => d.eccFail r a (max a w)
    | none =>
      let old := d.numAt a r.len
      let operand := r.data.map fun b => b.getD 0
      match atomicResult r.op r.len old operand with
      | some x => (stored (d.memStore a (allOn (leBytes r.len x))).1).finish r.seq none 0 (leBytes r.len old)
      | none => d.finish r.seq none 0 (leBytes r.len old)

/-- A barrier taken by a write of WIN_BARRIER covers the writes that reached the host port before that write (R220): `next` is the acceptance
number after which it was taken, `seq` that of the write. -/
def Dev.barrierCovers (d : Dev) (next seq : Nat) : Dev :=
  d.onFab fun b => { b with barriers := b.barriers.map fun x => if next ≤ x.seq && isWinBarrier x.src then { x with seq := seq } else x }

/-- A request performed at register space (R31, R36): a refused one ends as PERM. -/
def Dev.regPerform (d : Dev) (r : Req) : Dev :=
  let lo := r.ga % 2 ^ 38
  let who := r.agent
  if r.len = 0 then d.finish r.seq none 0 []
  else if r.op = .read then
    if isArc who ∧ !d.arcAllowed lo r.len false false then d.failReq r .perm 0
    else
      let x := d.regAccessRead who lo r.len
      x.1.finish r.seq none 0 x.2
  else
    let x := d.regAccessWrite who lo r.data
    match x.2 with
    | some c => x.1.failReq r .perm c
    | none => (x.1.barrierCovers d.fab.nextSeq r.seq).finish r.seq none 0 []

/-- A request reaches its end point inside the device and is performed there (R10, R17, R212). -/
def Dev.endpoint (d : Dev) (r : Req) : Dev :=
  if !d.mayPerform r ∨ (r.posted ∧ d.silent) then d
  else
    match r.tgt with
    | .reg => if r.poison then d.failReq r .decUncorr 9 else d.regPerform r
    | .sram | .dram => if r.poison then d.failReq r .decUncorr 9 else d.memPerform r
    | _ => d

/-- ENDPOINT_REQUEST (R212): the request numbered `seq`. -/
def execEndpointRequest (seq : Nat) (s : State) : Host.Outcome State Fault Refusal :=
  s.act fun d => match d.req? seq with
    | some r => d.endpoint r
    | none => d

/-- WRITE_PERFORMED (R212): the acknowledgement of a write that has ended reaches its ingress block. -/
def execWritePerformed (seq : Nat) (s : State) : Host.Outcome State Fault Refusal :=
  s.act fun d => match d.req? seq with
    | some r => if r.posted ∧ r.st = .ended then d.writeDone r else d
    | none => d

end Sys2Proof.Machine
end

