-- ==== Sys2Proof/Machine/Twin.lean ====
section
/-!
DEFINITION. The twin pair (R436–R448): the decisions between ACTIVE and STANDBY, the state stream, takeover and replay, and the planned
handover.
-/
namespace Sys2Proof.Machine

/-! ### Becoming ACTIVE -/

/-- A ROLE flit leaves on every link that is UP (R184): 0 no twin, 1 ACTIVE, 2 STANDBY. -/
def Dev.sendRoles (d : Dev) (role : Nat) : Dev :=
  (List.range 5).foldl (fun d n => if d.linkUp n then d.emit (.linkFlit n 3 role) else d) d

/-- The device becomes ACTIVE (R438, R444): its outputs are driven, and LRESET_N is high where BUS_EN = 1. -/
def Dev.enterActive (d : Dev) : Dev :=
  let d := d.onTwin fun t => { t with state := .active, prot := false, streaming := false, mirror := [], executed := [] }
  (d.onLbu fun l => { l with lreset := !d.flag Reg.lbuCtl 0 }).sendRoles 1

/-- The device enters SYNCING (R437): it waits for the stream from its first record on. -/
def Dev.enterSyncing (d : Dev) : Dev :=
  d.onTwin fun t => { t with state := .syncing, recvAny := false, recvSeq := 0, mirror := [], executed := [], tieRound := none }

/-- The twin decision at the end of start-up (R438). A PREFER = 0 member whose peer is not ACTIVE waits in STARTING. -/
def Dev.twinDecide (d : Dev) : Dev :=
  let en := d.flag Reg.depTwinRole 0
  let prefer := d.flag Reg.depTwinRole 1
  let d := d.onTwin fun t => { t with en := en, prefer := prefer }
  if !en then d.onTwin fun t => { t with state := .none }
  else if d.twin.peerAct then d.enterSyncing
  else if prefer then d.enterActive
  else d.onTwin fun t => { t with state := .starting }

/-- The 100 µs wait of a PREFER = 0 member, or of a tie-break round, ends (R438). -/
def Dev.waitOver (d : Dev) (rose : Bool) : Dev :=
  if rose then (d.onTwin fun t => { t with peerAct := true }).enterSyncing else d.enterActive

/-- TWIN_PREFER_WAIT (R438): `rose` tells whether TWIN_PEER_ACT rose during the wait. -/
def execTwinPreferWait (rose : Bool) (s : State) : Host.Outcome State Fault Refusal :=
  s.act fun d =>
    if d.twin.state = .starting ∧ d.twin.en ∧ d.fld Reg.ldgStatus 0 3 = 5 then d.waitOver rose else d

/-- TWIN_DUAL_ACTIVE (R438): both TWIN_ACT lines high for longer than 1 µs; `same` tells that both members have the same PREFER. -/
def execTwinDualActive (same : Bool) (s : State) : Host.Outcome State Fault Refusal :=
  s.act fun d =>
    if d.twin.state ≠ .active then d
    else if same then
      let round := match d.twin.tieRound with | some r => r + 1 | none => 0
      ((d.leaveActive .unsync).onTwin fun t => { t with tieRound := some round, peerAct := false }).bump Reg.depDualActive
    else if !d.twin.prefer then
      ((d.onTwin fun t => { t with peerAct := true }).leaveActive .syncing).enterSyncing.bump Reg.depDualActive
    else d

/-- TWIN_TIE_ROUND (R438): the wait of a round ends; `rose` tells whether TWIN_PEER_ACT rose during it. -/
def execTwinTieRound (rose : Bool) (s : State) : Host.Outcome State Fault Refusal :=
  s.act fun d => if d.twin.state = .unsync ∧ d.twin.tieRound.isSome then d.waitOver rose else d

/-! ### Takeover and replay -/

/-- The ingress that a window code and a requester name (R282, R445). -/
def ingressOf (agent win : Nat) : Ingress :=
  match win / 32 with
  | 1 => .iw (win % 32)
  | 3 => .lw (win % 32) (agent - 56)
  | 5 => .bar0
  | 6 => .link (win % 32) 0
  | _ => if 40 ≤ agent ∧ agent < 56 then .gzb (agent - 40) else if isArc agent then .arcade else .lodge

/-- The path of its code (R282). -/
def wpathOf (c : Nat) : WPath :=
  match c with
  | 2 => .h2l | 3 => .l2h | 4 => .itm 0 | 5 => .itm 1 | 6 => .itm 2 | 7 => .itm 3 | 8 => .itm 4 | _ => .direct

/-- The delayed-read slot a mirrored entry stands for: delayed writes 32 + slot, conditional stores 48 + slot (log 30). -/
def MirrorEntry.slot (m : MirrorEntry) : Option (Nat × Bool) :=
  if m.path = 3 ∧ 32 ≤ m.idx then some (m.idx % 16, decide (48 ≤ m.idx)) else none

/-- A replay is recorded (R445, R456): the replay log at index `k`, DEP_REPLAY_COUNT and a REPLAY_DUP entry with PATH 13. -/
def Dev.replayNote (d : Dev) (m : MirrorEntry) (k : Nat) : Dev :=
  let ea0 := match ingressOf m.agent m.win with
    | .iw n => !d.winBit .iw n 6
    | .lw n _ => !d.winBit .lw n 6
    | _ => false
  let s := m.slot
  let flags := b2n ea0 + 2 * b2n ((s.map (·.2)) == some true) + 4 * b2n ((s.map (·.2)) == some false)
  let entry := leBytes 8 d.blv.vt ++ leBytes 6 m.ga ++ leBytes 2 m.orig ++ leBytes 1 m.agent ++ leBytes 1 m.path ++ leBytes 2 m.win ++
    leBytes 2 m.data.length ++ leBytes 1 flags ++ leBytes 1 0 ++ ((m.data.map fun (b : Option Byte) => b.getD 0) ++ List.replicate 8 0).take 8
  let d := d.log { agent := m.agent, orig := m.orig, path := 13, posted := true, write := true, winNum := m.win % 32, winFam := m.win / 32 }
    .replayDup m.ga k
  let d := d.bump Reg.depReplayCount
  if k < 256 then d.onTwin fun t => { t with replayLog := t.replayLog ++ [entry] } else d

/-- The delayed-read slot of a mirrored delayed write or conditional store at the new ACTIVE twin (R131, R445). -/
def Dev.replaySlot (d : Dev) (m : MirrorEntry) (idx seq : Nat) (store : Bool) : Dev :=
  let lw := m.win % 32
  let a := (d.winBaseAddr .lw lw + m.ga + 2 ^ 48 - d.winTgt .lw lw) % 2 ^ 32
  let used := (m.data.zipIdx.filter fun p => p.1.isSome).map fun p => a + p.2
  let big := d.winBig .lw lw
  let val := fun (x : Nat) => (m.data.getD (x - a) none).getD 0
  let x : DrSlot := { idx := idx, master := m.agent - 56, lw := lw, addr := BitVec.ofNat 32 (a / 4 * 4),
                      beN := BitVec.ofNat 4 (beatBeN big 4 used), burst := false, beats := 1, locked := false,
                      op := if store then .condStore else .write, data := BitVec.ofNat 32 (beatLad big 4 val used), seq := seq, tag := 0,
                      state := if store then .held else .waiting, csFail := store, first := m.ga, allocVt := d.blv.vt }
  d.onLbu fun l => { l with slots := l.slots.filter (fun y => y.idx != idx) ++ [x] }

/-- One mirrored entry is replayed (R445); `k` is the next index of the replay log. -/
def Dev.replay (d : Dev) (m : MirrorEntry) (k : Nat) : Dev :=
  let d := if m.started then d.replayNote m k else d
  let r : Req := { seq := 0, agent := m.agent, ident := m.agent, orig := m.orig, ing := ingressOf m.agent m.win, op := .write,
                   posted := m.slot.isNone, ga := m.ga, len := m.data.length, data := m.data, path := wpathOf m.path, ts := d.stamp,
                   noComb := true }
  match m.slot with
  | some (i, true) => d.replaySlot m i 0 true
  | some (i, false) =>
    let seq := d.fab.nextSeq
    (d.accept { r with otag := i }).replaySlot m i seq false
  | none => d.accept r

/-- A takeover (R444, R463): TWIN_PEER_ACT has stayed low for PEER_FILTER. A release of TWIN_FAIL_N by the peer shows a planned handover (R447). -/
def Dev.takeover (d : Dev) : Dev :=
  let mirror := d.twin.mirror
  let planned := !d.twin.peerUnfit
  let d := (d.onTwin fun t => { t with peerAct := false, planned := planned, replayLog := [] }).enterActive
  let d := (d.gzbClear.loseRsv fun _ => true).onFab fun b => { b with semLocks := [], semGranted := 0, pref := [], cwb := [] }
  let d := (((d.bump Reg.depTwinTakeovers).wr Reg.depReplayCount 0).wr Reg.depReplayAck 0).onTrl fun t => { t with sweep := 0 }
  let r := mirror.foldl (fun (p : Dev × Nat) m => (p.1.replay m p.2, p.2 + b2n m.started)) (d, 0)
  r.1.sendNote 3 0

/-- TAKEOVER (R444): a device in SYNCING or UNSYNC stays as it is. -/
def execTakeover (s : State) : Host.Outcome State Fault Refusal :=
  s.act fun d => if d.twin.state = .standby then d.takeover else d.onTwin fun t => { t with peerAct := false }

/-! ### The state stream, ACTIVE side -/

/-- HEARTBEAT_SEND (R440): every 1 µs. -/
def execHeartbeatSend (s : State) : Host.Outcome State Fault Refusal :=
  s.act fun d => d.sendRec 7 (leBytes 8 d.blv.vt ++ leBytes 2 d.faultStatus)

/-- The words of a span of register space, sent as BULK records of up to 64 bytes (R441). -/
def Dev.bulkRegs (d : Dev) (lo n : Nat) : Dev :=
  (List.range ((n + 15) / 16)).foldl (fun d k =>
    let m := min 16 (n - 16 * k)
    d.sendRec 8 (leBytes 6 (lo + 64 * k) ++ leBytes 2 (4 * m) ++
      (List.range m).flatMap fun i => leBytes 4 (d.rd (lo + 64 * k + 4 * i)).toNat)) d

/-- Bytes of memory, sent as BULK records (R441). -/
def Dev.bulkMem (d : Dev) (a n : Nat) : Dev :=
  (List.range ((n + 63) / 64)).foldl (fun d k =>
    d.sendRec 8 (leBytes 6 (a + 64 * k) ++ leBytes 2 64 ++ d.bytesAt (a + 64 * k) 64)) d

/-- The offsets of the configuration registers of a block, every instance (R441). -/
def configOffs (b : Nat) : List Nat :=
  (regRowsOf b).flatMap fun r =>
    match r.cls with
    | .rw | .rwa | .rwm | .rws | .rwk | .lo64 | .hi64 =>
      if actsOnly r.base then []
      else (List.range r.count1).flatMap fun i => (List.range r.count2).map fun j => r.base + i * r.stride1 + j * r.stride2
    | _ => []

/-- The block memories a resynchronisation copies (R440, R441): start and number of words. -/
def bulkSpans : List (Nat × Nat) :=
  [(0x54_0000, 0x8000), (0x74_0000, 0xA200), (0x77_0000, 0x700), (0x84_0000, 0x8000), (0xC4_1000, 0x200)] ++
    (List.range 8).flatMap fun p => [(0xA8_0000 + 0x10000 * p, 0x2000), (0xA8_8000 + 0x10000 * p, 0x800)]

/-- The whole resynchronisation copy, ended by SYNC_DONE (R441). -/
def Dev.bulkCopy (d : Dev) : Dev :=
  let d := [2, 3, 4, 5, 6, 7, 8, 10, 11, 12, 14, 15].foldl (fun d b => (configOffs b).foldl (fun d off => d.bulkRegs off 1) d) d
  let d := bulkSpans.foldl (fun d x => d.bulkRegs x.1 x.2) d
  let d := if d.flag Reg.trlCtrl 0 then d.bulkMem (0x10_0000_0000 + d.areaOff d.trl.active) (128 * d.areaNb d.trl.active) else d
  let d := d.trl.fifo.foldl (fun d e => d.sendRec 8 (leBytes 6 0x64_1000 ++ leBytes 2 32 ++ e)) d
  let d := d.bulkMem (d.pduAddr 0) (2048 * 64)
  d.sendRec 9 []

/-- RESYNC_START (R441): the peer has entered SYNCING, which pulls TWIN_FAIL_N low. -/
def execResyncStart (s : State) : Host.Outcome State Fault Refusal :=
  s.act fun d =>
    if d.twin.state = .active ∧ d.twinLinkUp then
      (d.onTwin fun t => { t with streaming := true, sendSeq := 0, peerUnfit := true, prot := false, tieRound := none }).bulkCopy
    else d

/-- MIRROR_ACK (R443): the TWIN link has acknowledged the MIRROR and STARTED records of the request numbered `seq`; it may be performed. -/
def execMirrorAck (seq : Nat) (s : State) : Host.Outcome State Fault Refusal :=
  s.act fun d => match d.req? seq with
    | some r => if r.mirrored ∧ r.startedSent then (d.updReq seq fun r => { r with mirrored := false }).retryHeld else d
    | none => d

/-- PROTECTED drops (R443): the stream ends, and entries are performed without waiting. -/
def Dev.unprotect (d : Dev) : Dev :=
  ((d.onTwin fun t => { t with prot := false, streaming := false }).onFab fun b =>
    { b with reqs := b.reqs.map fun r => { r with mirrored := false } }).retryHeld

/-- MIRROR_ACK_TIMEOUT (R443): an entry has waited more than 10 µs. -/
def execMirrorAckTimeout (seq : Nat) (s : State) : Host.Outcome State Fault Refusal :=
  s.act fun d => match d.req? seq with
    | some r => if r.mirrored then d.unprotect else d
    | none => d

/-- TWIN_FAIL_N_CHANGE (R436, R443): the line is read while this member releases it itself. -/
def execTwinFailNChange (low : Bool) (s : State) : Host.Outcome State Fault Refusal :=
  s.act fun d =>
    if d.failDrive then d
    else
      let d := d.onTwin fun t => { t with peerUnfit := low }
      if low then (if d.twin.prot then d.unprotect else d)
      else if d.twin.state = .active ∧ d.twin.streaming ∧ d.twinLinkUp then d.onTwin fun t => { t with prot := true }
      else d

/-- A planned handover ends (R447): what the drain left is lost, TWIN_ACT falls and the device enters SYNCING. -/
def Dev.handoverEnd (d : Dev) : Dev :=
  let d := (d.endQueued true).onLbu fun l => { l with draining := false }
  ((d.leaveActive .syncing).enterSyncing.onTwin fun t => { t with planned := true, handover := false }).retryHeld

/-- Every posted write buffer is empty. -/
def Dev.pwbsEmpty (d : Dev) : Bool := (drainPaths true).all fun p => (d.pathWrites p).isEmpty

/-- PLANNED_HANDOVER (R447): the committed SWITCH begins the drain, which ends at once where nothing is held; a running one ends, at the
latest 20 µs after it began. -/
def execPlannedHandover (s : State) : Host.Outcome State Fault Refusal :=
  s.act fun d =>
    if d.twin.handover then d.handoverEnd
    else
      let d := d.handoverStart
      if d.twin.handover ∧ d.pwbsEmpty then d.handoverEnd else d

/-! ### The state stream, STANDBY side -/

/-- The device is out of sync (R437). -/
def Dev.enterUnsync (d : Dev) : Dev :=
  d.onTwin fun t => { t with state := .unsync, recvAny := false, mirror := [], executed := [] }

/-- A state record received by a device in SYNCING or STANDBY (R437, R440): a gap in the sequence ends the stream. -/
def Dev.recvRec (d : Dev) (seq : Nat) (f : Dev → Dev) : Dev :=
  if d.twin.state ≠ .syncing ∧ d.twin.state ≠ .standby then d
  else if d.twin.recvAny && d.twin.recvSeq != seq % 65536 then d.enterUnsync
  else f (d.onTwin fun t => { t with recvAny := true, recvSeq := (seq + 1) % 65536 })

/-- A REG record is applied as the write it records (R440); claims of host semaphores stay the host's. -/
def Dev.recvReg (d : Dev) (off : Nat) (v : Word) (form : Nat) : Dev :=
  let who := if off = Reg.winHostSemClaim then 0 else 63
  match regRow? off with
  | none => d
  | some r =>
    if !mirroredBlock (blockOf off) then d
    else
      match form with
      | 1 | 2 | 3 => d.aliasWrite who form off v
      | 5 => if r.cls = .rwsk then d.slowEffect who off v else d.keyedEffect who off v
      | _ =>
        match r.cls with
        | .rws => d.slowEffect who off (maskIn (d.rd off) v r.mask)
        | .rwk | .rwsk | .key | .keys | .ro | .wo => d
        | _ => d.regWrite who off v

/-- The bytes of a MEM or BULK record reach their place (R440, R441): memory, block memories and registers as they stand, or the rehash
FIFO. -/
def Dev.recvMem (d : Dev) (a : Nat) (data : List Byte) : Dev :=
  if a = 0x64_1000 then (if d.trl.fifo.length < 256 then d.onTrl fun t => { t with fifo := t.fifo ++ [data] } else d)
  else if a < 0x1000_0000 then
    let put := data.map some
    (wordsOf a data.length).foldl (fun d off => d.wr off (mergeWord (d.rd off) (wordVal a put off) (wordEn a put off))) d
  else d.setBytes a (data.map some)

/-- STATE_REG (R440). -/
def execStateReg (seq off : Nat) (v : Word) (form : Fin 6) (s : State) : Host.Outcome State Fault Refusal :=
  s.act fun d => d.recvRec seq fun d => d.recvReg off v form.val

/-- STATE_MEM (R440). -/
def execStateMem (seq a : Nat) (data : List Byte) (s : State) : Host.Outcome State Fault Refusal :=
  s.act fun d => d.recvRec seq fun d => d.recvMem a data

/-- STATE_MIRROR (R440): path and entry index, requester, device, window, GA and the bytes with their enables. -/
def execStateMirror (seq path idx agent orig win ga : Nat) (data : WData) (s : State) : Host.Outcome State Fault Refusal :=
  s.act fun d => d.recvRec seq fun d => d.onTwin fun t =>
    let m : MirrorEntry := { path := path, idx := idx, agent := agent, orig := orig, win := win, ga := ga, data := data }
    { t with mirror := t.mirror.filter (fun x => !(x.path == path && x.idx == idx)) ++ [m] }

/-- STATE_STARTED (R440). -/
def execStateStarted (seq path idx : Nat) (s : State) : Host.Outcome State Fault Refusal :=
  s.act fun d => d.recvRec seq fun d => d.onTwin fun t =>
    { t with mirror := t.mirror.map fun x => if x.path == path && x.idx == idx then { x with started := true } else x }

/-- STATE_RETIRED (R440, R445): the entry is discarded, whether it was performed or failed. -/
def execStateRetired (seq path idx _failure : Nat) (s : State) : Host.Outcome State Fault Refusal :=
  s.act fun d => d.recvRec seq fun d => d.onTwin fun t =>
    { t with mirror := t.mirror.filter fun x => !(x.path == path && x.idx == idx) }

/-- STATE_EXECUTED (R440, R249): an event the ACTIVE twin has ended is not performed again at a takeover. -/
def execStateExecuted (seq : Nat) (slot : Fin 4096) (n _type : Nat) (s : State) : Host.Outcome State Fault Refusal :=
  s.act fun d => d.recvRec seq fun d =>
    let kept := d.blv.events.filter fun e => e.slot == slot.val && e.n == n && decide (slotAction e.img ≠ 1)
    if kept.isEmpty then d.onTwin fun t => { t with executed := t.executed ++ [(slot.val, n)] }
    else kept.foldl (fun d e => d.endEvent e) d

/-- STATE_HEARTBEAT (R437, R440): it keeps the standby in sync and carries nothing the standby stores. -/
def execStateHeartbeat (seq : Nat) (s : State) : Host.Outcome State Fault Refusal := s.act fun d => d.recvRec seq id

/-- STATE_BULK (R441). -/
def execStateBulk (seq a : Nat) (data : List Byte) (s : State) : Host.Outcome State Fault Refusal :=
  s.act fun d => d.recvRec seq fun d => d.recvMem a data

/-- STATE_SYNC_DONE (R437): the device enters STANDBY. -/
def execStateSyncDone (seq : Nat) (s : State) : Host.Outcome State Fault Refusal :=
  s.act fun d => d.recvRec seq fun d => d.onTwin fun t => { t with state := .standby }

/-- STATE_STREAM_TIMEOUT (R437): no HEARTBEAT for 5 µs. -/
def execStateStreamTimeout (s : State) : Host.Outcome State Fault Refusal :=
  s.act fun d => if d.twin.state = .standby ∨ d.twin.state = .syncing then d.enterUnsync else d

end Sys2Proof.Machine
end

