-- ==== Sys2Proof/Machine/Startup.lean ====
section
/-!
DEFINITION. Start-up (R467–R491): the header, the choice of firmware and configuration, calibration, key blobs, the static Trellis table, the
configuration records, factory defaults and recovery, and what each reset leads to.
-/
namespace Sys2Proof.Machine

/-! ### Header, firmware and configuration -/

/-- The device with the Lodge changed. -/
def Dev.onLdg (d : Dev) (f : Lodge → Lodge) : Dev := { d with ldg := f d.ldg }

/-- CRC-32C over bytes (R314, R474). -/
def crc32c (bs : List Byte) : Nat := crcFinal 1 (crcBytes 1 (crcInit 1) bs)

/-- A header copy is valid (R475). -/
def Dev.headerOk (d : Dev) (h : Nat) : Bool :=
  d.flashBytes h 4 == ascii "GSTD" && d.flashNum (h + 4) 2 == 1 && d.flashNum (h + 4092) 4 == crc32c (d.flashBytes h 4092)

/-- One GENERATION is later than another (R475). -/
def laterGen (a b : Nat) : Bool := let x := (a + 2 ^ 32 - b) % 2 ^ 32; decide (1 ≤ x) && decide (x ≤ 2 ^ 31 - 1)

/-- The header copy in use (R475): its flash offset. -/
def Dev.header? (d : Dev) : Option Nat :=
  match d.headerOk 0, d.headerOk 0xF000 with
  | true, true => some (if laterGen (d.flashNum 0xF008 4) (d.flashNum 8 4) then 0xF000 else 0)
  | true, false => some 0
  | false, true => some 0xF000
  | false, false => none

/-- PRIO of a slot (R476). -/
def Dev.slotPrio (d : Dev) (h s : Nat) : Nat := (d.flashByte (slotEntry h s + 9)).toNat % 4

/-- The slots in PRIO order; ties go to the lower slot number (R476). -/
def Dev.slotOrder (d : Dev) (h : Nat) : List Nat := (List.range 4).flatMap fun p => (List.range 4).filter fun s => d.slotPrio h s == p

/-- The device with a slot's field of LDG_BOOT_REPORT set (R505). -/
def Dev.slotReport (d : Dev) (s code : Nat) : Dev := d.setFld Reg.ldgBootReport (4 * s + 4) 4 code

/-- The first failed check of a slot as a source of firmware (R479, R505): 0 where it passes. -/
def Dev.firmwareCode (d : Dev) (h s : Nat) : Nat :=
  if d.flashByte (slotEntry h s + 8) ≠ 1 then 2
  else if !d.dirOk h s then 3
  else if !((d.section? h s 1).any d.firmwareOk) then 4
  else if !((d.section? h s 2).any d.firmwareOk) then 5
  else 0

/-- The slots are examined in PRIO order until one supplies the firmware (R479). -/
def Dev.chooseFirmware (d : Dev) (h : Nat) : List Nat → Dev × Option Nat
  | [] => (d, none)
  | s :: t =>
    let c := d.firmwareCode h s
    if c = 0 then (d.slotReport s 0, some s) else (d.slotReport s c).chooseFirmware h t

/-- A configuration record (R484). -/
structure CfgRec where
  type : Nat
  fatal : Bool
  block : Nat
  off : Nat
  data : List Byte
  deriving DecidableEq, Repr

/-- A CONFIG section cut into records, END last and at its end (R484, R485); `n` bounds their number. -/
def cfgRecords : Nat → List Byte → Option (List CfgRec)
  | 0, _ => none
  | n + 1, bs =>
    let len := leNat ((bs.drop 2).take 2)
    if bs.length < 16 ∨ len < 16 ∨ len % 4 ≠ 0 ∨ bs.length < len then none
    else
      let r : CfgRec :=
        { type := (bs.getD 0 0).toNat, fatal := (bs.getD 1 0).getLsbD 0, block := (bs.getD 4 0).toNat, off := leNat ((bs.drop 8).take 5),
          data := (bs.take len).drop 16 }
      if r.type = 6 then (if len = 16 ∧ bs.length = 16 then some [r] else none)
      else (cfgRecords n (bs.drop len)).map (r :: ·)

/-- The 32-bit word `k` of a record's data. -/
def CfgRec.word (r : CfgRec) (k : Nat) : Nat := leNat ((r.data.drop (4 * k)).take 4)

/-- The bytes a record's action covers from its OFFSET on (R485). -/
def CfgRec.span (r : CfgRec) : Nat :=
  match r.type with
  | 1 => r.data.length
  | 2 => 4 * r.word 1
  | 3 => 4
  | _ => 0

/-- The part of the local map, outside register space, that a local address lies in (R57). -/
def mapPart (a : Nat) : Nat :=
  if 0x01_0000_0000 ≤ a ∧ a < 0x01_0040_0000 then 1
  else if 0x10_0000_0000 ≤ a ∧ a < 0x14_0000_0000 then 2
  else if 0x20_0000_0000 ≤ a ∧ a < 0x21_0000_0000 then 3
  else if 0x30_0000_0000 ≤ a ∧ a < 0x40_0000_0000 then 4
  else 0

/-- A record is well formed by itself (R485). -/
def CfgRec.wf (r : CfgRec) : Bool :=
  let inside := if r.block = 0x80
    then mapPart r.off != 0 && mapPart (r.off + r.span - 1) == mapPart r.off
    else decide (r.block ≤ 16) && decide (r.off + r.span ≤ 0x100000)
  r.off % 4 == 0 &&
    match r.type with
    | 1 => decide (4 ≤ r.data.length) && inside
    | 2 => r.data.length == 8 && inside
    | 3 => r.data.length == 12 && inside
    | 4 => r.data.length == 4 && decide (r.word 0 ≤ 1000000) && (decide (r.block ≤ 16) || r.block == 0x80)
    | 5 => r.data.length % 12 == 0 && r.block == 0 && r.off == 0
    | 6 => decide (r.block ≤ 16) || r.block == 0x80
    | _ => false

/-- The records of a well-formed CONFIG section (R485). -/
def configOf (bs : List Byte) : Option (List CfgRec) :=
  match cfgRecords (bs.length / 16 + 1) bs with
  | some rs =>
    let entries := ((rs.filter fun r => r.type == 5).map fun r => r.data.length / 12).foldl (· + ·) 0
    if rs.all (·.wf) ∧ entries ≤ 256 then some rs else none
  | none => none

/-- The Arcade access table that the ACCESS records give; none without them (R493). -/
def accessOf (rs : List CfgRec) : Option (List AccessEntry) :=
  match rs.filter fun r => r.type == 5 with
  | [] => none
  | as => some (as.flatMap fun r => (List.range (r.data.length / 12)).map fun k =>
      { lo := r.word (3 * k), hi := r.word (3 * k + 1), read := (r.word (3 * k + 2)).testBit 0, write := (r.word (3 * k + 2)).testBit 1,
        remote := (r.word (3 * k + 2)).testBit 2 })

/-- The bytes of a section; none for an absent one. -/
def Dev.sectionBytes (d : Dev) (h s type : Nat) : List Byte :=
  match d.section? h s type with
  | some x => d.flashBytes x.off x.len
  | none => []

/-- A slot's configuration area (R477): the directory, then CONFIG, TRELLIS and KEYS. -/
def Dev.configArea (d : Dev) (h s : Nat) : List Byte :=
  d.flashBytes (d.slotOff h s) 96 ++ d.sectionBytes h s 3 ++ d.sectionBytes h s 4 ++ d.sectionBytes h s 5

/-- The first failed check of a slot as a source of configuration (R480, R505). -/
def Dev.configCode (d : Dev) (h s : Nat) : Nat :=
  if d.flashByte (slotEntry h s + 8) ≠ 1 then 2
  else if !d.dirOk h s then 3
  else if crc32c (d.configArea h s) ≠ d.flashNum (slotEntry h s + 12) 4 then 6
  else if (configOf (d.sectionBytes h s 3)).isNone then 3
  else 0

/-! ### Applying records -/

/-- The registers that records may not write (R486). -/
def recordRefused (off : Nat) : Bool := [Reg.sysDevid, Reg.winBarCfg, Reg.winDramSize, Reg.depTwinRole].contains off

/-- One register-space word written by the Lodge for a record (R486). -/
def Dev.recordWrite (d : Dev) (off : Nat) (v : Word) : Dev :=
  if recordRefused off then d.bump Reg.ldgBootRejects
  else if off = Reg.hpLinkCtl then
    let keep := d.fld off 5 1
    let d := if fieldOf v 5 1 = keep then d else d.bump Reg.ldgBootRejects
    d.wr off (setField (v &&& 0x3F) 5 1 keep)
  else
    let counted := fun (x : Dev) => (x.rd Reg.sysAccessReject, x.rd Reg.sysKeyReject)
    let was := counted d
    let write := fun (d : Dev) (o : Nat) (v : Word) => match d.hubWrite 63 o v with
      | .ok d => d
      | .error c => d.permFail 63 o c
    let cls : Option RegClass := (regRow? off).map (·.cls)
    let d : Dev := match cls with
      | some .rwk => write (write d off v) (off + 4) (~~~v)
      | some .rwsk => (write (write (d.rwsApply (frameOf off)) off v) (off + 4) (~~~v)).rwsApply (frameOf off)
      | some .rws => (write (d.rwsApply (frameOf off)) off v).rwsApply (frameOf off)
      | some _ => write d off v
      | none => if blockOf off = 12 then (write (d.rwsApply (frameOf off)) off v).rwsApply (frameOf off) else write d off v
    if counted d = was then d else d.bump Reg.ldgBootRejects

/-- One word written by the Lodge at a local address outside register space: stored at once in DRAM and SRAM, a posted write elsewhere. -/
def Dev.localWrite (d : Dev) (a : Nat) (v : Word) : Dev :=
  let data := allOn (leBytes 4 v.toNat)
  if mapPart a = 1 ∨ mapPart a = 2 then
    match d.localTarget a 4 with
    | .ok _ => ((d.memStore a data).1.rsvStore 63 63 false (d.devid * 2 ^ 38 + a) 4)
    | .error c => d.log { agent := 63, orig := d.devid, path := 9, posted := true, write := true } .decode (d.devid * 2 ^ 38 + a) c
  else
    d.issue { seq := 0, agent := 63, ident := 63, orig := d.devid, ing := .lodge, op := .write, posted := true, ga := d.devid * 2 ^ 38 + a, len := 4,
              data := data, ts := d.stamp }

/-- Where a record's word lies: block offset or local address (R484). -/
def CfgRec.place (r : CfgRec) (k : Nat) : Nat := if r.block = 0x80 then r.off + 4 * k else r.block * 0x100000 + r.off + 4 * k

/-- One word of a record is written. -/
def Dev.recordPut (d : Dev) (r : CfgRec) (k : Nat) (v : Nat) : Dev :=
  if r.block = 0x80 then d.localWrite (r.place k) (BitVec.ofNat 32 v) else d.recordWrite (r.place k) (BitVec.ofNat 32 v)

/-- The word a POLL record reads (R485). A location on the L-bus or in host memory answers a value from outside (log 50). -/
def Dev.pollWord (d : Dev) (r : CfgRec) : Dev × Word :=
  if r.block ≠ 0x80 then d.hubRead 63 (r.place 0)
  else if mapPart r.off = 1 ∨ mapPart r.off = 2 then (d, BitVec.ofNat 32 (d.numAt r.off 4))
  else (d.tick, Config.freeWord d.fresh)

/-- One record is applied (R485, R486); true where it aborts the configuration (R481). -/
def Dev.applyRecord (d : Dev) (r : CfgRec) : Dev × Bool :=
  match r.type with
  | 1 => ((List.range (r.data.length / 4)).foldl (fun d k => d.recordPut r k (r.word k)) d, false)
  | 2 => ((List.range (r.word 1)).foldl (fun d k => d.recordPut r k (r.word 0)) d, false)
  | 3 =>
    let x := d.pollWord r
    if x.2 &&& BitVec.ofNat 32 (r.word 0) = BitVec.ofNat 32 (r.word 1) then (x.1, false)
    else if r.fatal then (x.1, true)
    else (x.1.setFld Reg.ldgBootReport 20 8 (min 255 (x.1.fld Reg.ldgBootReport 20 8 + 1)), false)
  | _ => (d, false)

/-- A fault action other than REPORT fired between two states (R433, R481). -/
def actionFired (old new : Dev) : Bool :=
  new.fld Reg.depFaultLast 16 16 != old.fld Reg.depFaultLast 16 16 && new.fld Reg.depFaultLast 4 4 != 0

/-- Records are applied in order until one aborts (R481, R486); the number applied is counted. -/
def Dev.applyRecords (d : Dev) : List CfgRec → Nat → Dev × Nat × Bool
  | [], n => (d, n, false)
  | r :: t, n =>
    let x := d.applyRecord r
    let e := faultSettle d x.1
    if x.2 || actionFired d e then (e, n, true) else e.applyRecords t (if r.type = 6 then n else n + 1)

/-! ### Calibration -/

/-- The items of a calibration area from their bytes (R489): ID and data; `n` bounds their number. -/
def calItems : Nat → List Byte → List (Nat × List Byte)
  | 0, _ => []
  | n + 1, bs =>
    if bs.length < 4 then []
    else
      let len := leNat ((bs.drop 2).take 2)
      (leNat (bs.take 2), (bs.drop 4).take len) :: calItems n (bs.drop (4 + (len + 3) / 4 * 4))

/-- A calibration area at a flash offset, of at most `limit` bytes, passes its check (R489). -/
def Dev.calOk (d : Dev) (off limit : Nat) (magic : String) : Bool :=
  let len := d.flashNum (off + 4) 4
  d.flashBytes off 4 == ascii magic && decide (20 ≤ len) && decide (len ≤ limit) &&
    d.flashNum (off + len - 4) 4 == crc32c (d.flashBytes off (len - 4))

/-- The items of a calibration area that passes its check. -/
def Dev.calArea (d : Dev) (off : Nat) : List (Nat × List Byte) :=
  let len := d.flashNum (off + 4) 4
  calItems len (d.flashBytes (off + 16) (len - 20))

/-- The valid user copy in use (R490): its flash offset. -/
def Dev.userCal? (d : Dev) : Option Nat :=
  match d.calOk 0x10000 0x4000 "GUCL", d.calOk 0x14000 0x4000 "GUCL" with
  | true, true => some (if laterGen (d.flashNum 0x14008 4) (d.flashNum 0x10008 4) then 0x14000 else 0x10000)
  | true, false => some 0x10000
  | false, true => some 0x14000
  | false, false => none

/-- LEN of a calibration item by its ID (R489). -/
def calLen (id : Nat) : Option Nat :=
  match id with
  | 1 => some 96 | 2 => some 96 | 3 => some 64 | 4 => some 4 | 5 => some 60 | 6 => some 20 | 7 => some 8 | _ => none

/-- A calibration item with an ID and LEN of the table. -/
def calKnown (x : Nat × List Byte) : Bool := calLen x.1 == some x.2.length

/-- The little-endian numbers of `w` bytes in data. -/
def numsOf (w : Nat) (bs : List Byte) : List Nat := (List.range (bs.length / w)).map fun k => leNat ((bs.drop (w * k)).take w)

/-- A calibration item is applied (R489). -/
def Dev.calApply (d : Dev) (x : Nat × List Byte) : Dev :=
  let trims : Sparse 32 := (numsOf 2 x.2).zipIdx.foldl (fun m p => cellSet m p.2 ((BitVec.ofNat 16 p.1).signExtend 32)) []
  match x.1 with
  | 1 => d.onBlv fun b => { b with trimOut := trims }
  | 2 => d.onBlv fun b => { b with trimIn := trims }
  | 3 => d.onLdg fun l => { l with lbusTap := numsOf 1 x.2 }
  | 4 => d.wr Reg.blvRateTrim (BitVec.ofNat 32 (leNat x.2))
  | 5 =>
    let lat := numsOf 4 x.2
    lat.zipIdx.foldl (fun d p => d.wr (Reg.blvPtpLat + 4 * p.2) (BitVec.ofNat 32 p.1)) (d.onLdg fun l => { l with ptpLat := lat })
  | 6 => d.onLdg fun l => { l with itmLat := numsOf 4 x.2 }
  | 7 => d.onLdg fun l => { l with tempTrim := x.2 }
  | _ => d

/-- Calibration at start-up (R489, R490): factory items, then the user copy's; SYS_BOOT_STATUS.CAL_SOURCE. -/
def Dev.calibrate (d : Dev) : Dev :=
  if !d.calOk 0x1000 0xE000 "GFAC" then d.setFld Reg.sysBootStatus 5 2 2
  else
    let d := ((d.calArea 0x1000).filter calKnown).foldl (fun d x => d.calApply x) d
    match d.userCal? with
    | none => d.setFld Reg.sysBootStatus 5 2 0
    | some o =>
      let xs := d.calArea o
      let d := d.bump Reg.ldgBootRejects (xs.filter fun x => !calKnown x).length
      let good := xs.filter calKnown
      (good.foldl (fun d x => d.calApply x) d).setFld Reg.sysBootStatus 5 2 (if good.isEmpty then 0 else 1)

/-! ### Keys and the static table -/

/-- The KEYS section is loaded (R488). -/
def Dev.loadKeys (d : Dev) (bs : List Byte) : Dev :=
  if bs.take 4 ≠ ascii "GKEY" then d
  else
    (List.range (leNat ((bs.drop 4).take 4))).foldl (fun d k =>
      let b := (bs.drop (16 + 64 * k)).take 64
      let r := d.loadBlob (leNat (b.take 2) % 1024) b
      if r.2 = 0 then r.1 else r.1.bump Reg.ldgBootRejects) d

/-- Entries of the TRELLIS section are inserted until one ends as FULL (R487); true where the configuration aborts. -/
def Dev.insertAll (d : Dev) (bs : List Byte) : List Nat → Dev × Bool
  | [] => (d, false)
  | k :: t =>
    let r := d.insertIn 0 (leNat ((bs.drop (32 + 32 * k)).take 32)) false
    if r.2.code = 3 ∨ r.2.code = 4 then (r.1, true)
    else (if r.2.code = 1 then r.1.bump Reg.ldgBootRejects else r.1).insertAll bs t

/-- The TRELLIS section is loaded (R487). -/
def Dev.loadTrellis (d : Dev) (bs : List Byte) : Dev × Bool :=
  if bs.take 4 ≠ ascii "GTRL" then (d, false)
  else
    let word := fun (k : Nat) => leNat ((bs.drop k).take 4)
    let d := d.wr64 Reg.trlTabBase (leNat ((bs.drop 16).take 8) % 2 ^ 34)
    let d := ((d.wr Reg.trlTabCfg (BitVec.ofNat 32 ((bs.getD 4 0).toNat % 32))).wr Reg.trlTabSeed0 (BitVec.ofNat 32 (word 8))).wr
      Reg.trlTabSeed1 (BitVec.ofNat 32 (word 12))
    let a := 0x10_0000_0000 + d.areaOff 0
    let n := 128 * d.areaNb 0
    let d : Dev := { d with mem := cellsClear d.mem a (a + n), bad := d.bad.filter fun b => !(decide (a ≤ b) && decide (b < a + n)) }
    d.insertAll bs (List.range (word 24))

/-! ### The course of start-up -/

/-- DRAM data size in 64 MiB units for a DRAM_CAP (R58, R474). -/
def dramUnits (cap : Nat) : Nat :=
  let gib := match cap with | 1 => 2 | 2 => 4 | 3 => 6 | 4 => 8 | 5 => 12 | 6 => 16 | _ => 0
  gib * 16 * 4 / 5

/-- A whole configuration of a slot is applied (R467 steps 5 to 7); true where it aborts (R481). -/
def Dev.applySlot (d : Dev) (h s : Nat) : Dev × Bool :=
  let d := (d.setFld Reg.ldgStatus 0 3 2).loadKeys (d.sectionBytes h s 5)
  let t := (d.setFld Reg.ldgStatus 0 3 3).loadTrellis (d.sectionBytes h s 4)
  if t.2 then t
  else
    let bytes := t.1.sectionBytes h s 3
    match configOf bytes with
    | none => (t.1, true)
    | some rs =>
      let d := (t.1.setFld Reg.ldgStatus 0 3 4).onLdg fun l => { l with config := bytes, access := accessOf rs }
      let r := d.applyRecords rs 0
      (r.1, r.2.2)

/-- What was applied before an abort is undone (R481): every block but SYS, DEP, INT and WKT is reset, and calibration stands. -/
def Dev.undoConfig (d : Dev) : Dev :=
  let dmc := cellsIn d.regs 0xF0_0000 0xF1_0000
  let d := [1, 2, 3, 4, 5, 6, 7, 8, 9, 10, 11, 15].foldl (fun d b => d.blockReset b) d
  ({ d with regs := cellsPut d.regs dmc, hp := { d.hp with reconfig := false } }).onLdg fun l => { l with config := [], access := none }

/-- The configuration is taken from the slots in order (R480, R481); true where one supplied it. -/
def Dev.configure (d : Dev) (h : Nat) : List Nat → Dev × Option Nat
  | [] => (d, none)
  | s :: t =>
    let c := d.configCode h s
    if c ≠ 0 then (d.slotReport s c).configure h t
    else
      let r := d.applySlot h s
      if r.2 then (r.1.undoConfig.slotReport s 7).configure h t else (r.1.slotReport s 0, some s)

/-- Factory defaults (R482): identity zero, no DRAM, no twin. -/
def Dev.defaults (d : Dev) : Dev :=
  let d := ((d.wr Reg.sysDevid 0).wr Reg.winDramSize 0).wr Reg.winBarCfg 0
  let d := (d.wr Reg.depTwinRole 0).onLdg fun l => { l with config := [], access := none, svcSlot := none }
  (d.setFld Reg.sysBootStatus 0 1 1).setFld Reg.sysBootStatus 1 2 0

/-- The memory remaps kept in the flash are put back (R451), with CAUSE 4. -/
def Dev.restoreRemaps (d : Dev) : Dev :=
  d.ldg.remaps.foldl (fun d x =>
    if x.1 = 9 then (if d.dep.dramFree = 0 then d else d.retireRow x.2 4)
    else
      let used := (d.dep.spares.filter fun s => s.kind == x.1 && s.unit / 2 ^ 12 == x.2 / 2 ^ 12).length
      (d.onDep fun p => { p with spares := p.spares ++ [{ kind := x.1, unit := x.2, spare := used }] }).recordSpare x.1 4 x.2 used) d

/-- A digit of a number as the Kiosk prints it. -/
def hexDigit (n : Nat) : Char := ("0123456789ABCDEF".toList).getD (n % 16) '0'

/-- A number in `n` hexadecimal digits. -/
def hexText (n x : Nat) : String := String.ofList ((List.range n).map fun i => hexDigit (x / 16 ^ (n - 1 - i)))

/-- The Kiosk's banner (R503). -/
def Dev.banner (d : Dev) : String :=
  "GIOSTUD DRG9640 REV B0 DEV 0x" ++ hexText 3 d.devid ++ " FW " ++ hexText 1 (d.fld Reg.sysBootStatus 3 2) ++
    " CFG " ++ hexText 1 (d.fld Reg.sysBootStatus 1 2) ++ " CAL " ++ hexText 1 (d.fld Reg.sysBootStatus 5 2) ++
    (if d.ldg.recovery then " RECOVERY" else if d.flag Reg.sysBootStatus 0 then " CFG DEFAULTED" else "")

/-- Step 8 of start-up (R467): CFG_DONE, the twin decision, the Arcade's release, the banner. -/
def Dev.startEnd (d : Dev) (peer : Bool) : Dev :=
  let d := (d.setFld Reg.hpLinkCtl 5 1 1).onHp fun h => { h with reconfig := false }
  let d := (d.setFld Reg.ldgStatus 0 3 5).setFld Reg.ldgStatus 3 3 2
  let d := (d.onTwin fun t => { t with peerAct := peer }).twinDecide
  d.emit (.text d.banner)

/-- Recovery (R483): the ROM runs alone under factory defaults. -/
def Dev.startRecovery (d : Dev) : Dev :=
  let d := d.defaults.calibrate.onLdg fun l => { l with recovery := true, boot := none }
  let d := (d.setFld Reg.hpLinkCtl 5 1 1).onHp fun h => { h with reconfig := false }
  let d := (d.setFld Reg.ldgStatus 0 3 6).setFld Reg.ldgStatus 3 3 0
  (d.onTwin fun t => { t with en := false, prefer := false, state := .none }).emit (.text d.banner)

/-- Start-up from step 5 on (R467): calibration, remaps, configuration or defaults, and step 8. -/
def Dev.startRest (d : Dev) (h fw : Nat) (peer : Bool) : Dev :=
  let d := (d.onLdg fun l => { l with boot := none }).calibrate.restoreRemaps
  let order := d.slotOrder h
  let later := (order.dropWhile (· != fw)).drop 1
  let r : Dev × Option Nat := if d.fld Reg.ldgBootReport 2 2 = 1 then (d, none) else d.configure h (fw :: later)
  let d : Dev := match r.2 with
    | some s => r.1.setFld Reg.sysBootStatus 1 2 s
    | none => r.1.defaults
  d.startEnd peer

/-- The Lodge's ROM from step 2 on (R467, R468, R475, R479): header, firmware, identity, and DRAM training where DRAM is installed. -/
def Dev.startUp (d : Dev) (peer : Bool) : Dev :=
  let lost := d.ldg.brownout
  let d := (d.wr Reg.sysBootStatus (BitVec.ofNat 32 (128 * b2n lost.isSome))).onLdg fun l => { l with brownout := none, recovery := false }
  let d : Dev := match lost with
    | some n => d.wr Reg.intBrownoutLost (BitVec.ofNat 32 n)
    | none => d
  let mode := d.ldg.straps % 4
  let hdr := d.header?
  let d := d.wr Reg.ldgBootReport (BitVec.ofNat 32
    ((match hdr with | some 0 => 0 | some _ => 1 | none => 2) + 4 * mode + 0x11110))
  match hdr with
  | none => d.startRecovery
  | some h =>
    if mode = 2 then d.startRecovery
    else
      let r := d.chooseFirmware h (d.slotOrder h)
      match r.2 with
      | none => r.1.startRecovery
      | some fw =>
        let ver := fun (t : Nat) => ((r.1.section? h fw t).map (·.version)).getD 0 % 65536
        let d := (r.1.setFld Reg.sysBootStatus 3 2 fw).wr Reg.ldgFwVersion (BitVec.ofNat 32 (ver 1 + 65536 * ver 2))
        let d := (d.setFld Reg.ldgStatus 0 3 1).setFld Reg.ldgStatus 3 3 1
        if mode = 1 then d.startRest h fw peer
        else
          let retire := (d.flashByte (h + 12)).getLsbD 0
          let units := dramUnits ((d.flashByte (h + 19)).toNat % 8)
          let d := (d.wr Reg.sysDevid (BitVec.ofNat 32 (d.flashNum (h + 16) 2 % 1024))).wr Reg.winBarCfg
            (BitVec.ofNat 32 ((d.flashByte (h + 18)).toNat % 16))
          let d := (d.setFld Reg.depWearCfg 20 1 (b2n retire)).wr Reg.depTwinRole (BitVec.ofNat 32 ((d.flashByte (h + 20)).toNat % 4))
          let d := d.onTwin fun t => { t with en := d.flag Reg.depTwinRole 0, state := if d.flag Reg.depTwinRole 0 then .starting else .none }
          let svc := d.flashNum (h + 22) 2
          let d := d.onLdg fun l => { l with svcSlot := if svc / 0x8000 % 2 = 1 then some (svc % 1024) else none }
          let d := (List.range 8).foldl (fun d k =>
            match regRow? (Reg.dmcCfg + 4 * k) with
            | some r => d.wr (Reg.dmcCfg + 4 * k) (BitVec.ofNat 32 (d.flashNum (h + 32 + 4 * k) 4) &&& r.mask)
            | none => d) d
          if units = 0 then d.startRest h fw peer
          else
            let d := d.wr Reg.winDramSize (BitVec.ofNat 32 (units - b2n retire))
            let d := if retire then d.onDep fun p => { p with dramFree := 256 } else d
            d.onLdg fun l => { l with boot := some { hdr := h, fwSlot := fw } }

/-- The Lodge's item is on and ready, so a start-up may run (R467). -/
def Dev.lodgeReady (d : Dev) : Bool := (d.wkt.items.getD 9 {}).on && (d.wkt.items.getD 9 {}).ready

/-- A reset of the whole device and the start-up that follows it, or waits for the Lodge's item (R464, R467). -/
def Dev.resetAndStart (d : Dev) (kind : StartKind) (peer : Bool) : Dev :=
  let d := d.coldReset kind
  if d.lodgeReady then d.startUp peer else d

/-- The warm reset proper, and its start-up (R465): the DRAM keeps its contents and is not initialised anew. -/
def Dev.warmAndStart (d : Dev) (peer : Bool) : Dev := d.warmReset.startUp peer

/-! ### Meanings -/

/-- ALWAYS_ON_POWER_UP (R464): nothing is kept but the flash, whose contents, straps and pin levels the board gives. -/
def execAlwaysOnPowerUp (straps : Fin 4) (image : List (Nat × List Byte)) (s : State) : Host.Outcome State Fault Refusal :=
  s.act fun d =>
    let r : Dev := { Dev.reset with fresh := d.fresh, out := d.out, ldg := { flash := d.ldg.flash, remaps := d.ldg.remaps, straps := straps.val } }
    let off : Item := { on := false, ready := false, wanted := true }
    let r : Dev := { (r.withPins d) with wkt := { items := List.replicate 16 off } }
    image.foldl (fun d x => (d.flashErase x.1 x.2.length).flashPut x.1 x.2) r

/-- POWER_ON_RESET (R464, R467): PORST_N has been low; every item is wanted, and the items that are on stay on. `peer` is the level of
TWIN_PEER_ACT at step 8. -/
def execPowerOnReset (peer : Bool) (s : State) : Host.Outcome State Fault Refusal :=
  s.act fun d =>
    let d : Dev := { d with wkt := { d.wkt with mode := .run, items := d.wkt.items.map fun i => { i with wanted := true } } }
    d.resetAndStart .powerOn peer

/-- DRAM_TRAINING_DONE (R472): step `fail` failed, or none; a step that DMC_TRAIN does not enable is not run. Start-up goes on. -/
def execDramTrainingDone (fail : Fin 6) (peer : Bool) (s : State) : Host.Outcome State Fault Refusal :=
  s.act fun d => match d.ldg.boot with
    | none => d
    | some b =>
      let bad := fail.val ≠ 0 ∧ d.flag Reg.dmcTrain (fail.val - 1)
      let d : Dev :=
        if bad then ((d.setFld Reg.dmcStatus 4 4 fail.val).bump Reg.dmcTrainFail).wr Reg.winDramSize 0
        else
          let d := ((d.setFld Reg.dmcStatus 0 1 1).setFld Reg.dmcStatus 1 1 0).setFld Reg.dmcStatus 4 4 0
          if d.mem.any (fun c => inDram c.1) then d else d.setFld Reg.ldgStatus 9 1 1
      d.startRest b.hdr b.fwSlot peer

/-- DRAM_INIT_DONE (R469). -/
def execDramInitDone (s : State) : Host.Outcome State Fault Refusal := s.act fun d => d.setFld Reg.ldgStatus 9 1 0

/-- DRAM_DRIFT_CHECK (R471, R472): drift beyond the tuning range sets PHY_ERR; the refresh-rate field read from the DRAM, and how many
refreshes were made faster than nominal since. -/
def execDramDriftCheck (beyond : Bool) (rate : Byte) (hot : Nat) (s : State) : Host.Outcome State Fault Refusal :=
  s.act fun d =>
    if !d.flag Reg.dmcStatus 0 then d
    else
      let d := ((d.bump Reg.dmcDriftChecks).bump Reg.dmcRefreshHot hot).setFld Reg.dmcStatus 8 8 rate.toNat
      if beyond then (d.setFld Reg.dmcStatus 2 1 1).onDep fun p => { p with dramPhy := true } else d

/-- HP_RECONFIG (R108): the image's HP records are applied again and CFG_DONE is set. -/
def execHpReconfig (s : State) : Host.Outcome State Fault Refusal :=
  s.act fun d =>
    if d.hp.reconfig ∧ !d.hp.perst then
      let rs := ((configOf d.ldg.config).getD []).filter fun r => r.block == 1
      let d := (d.applyRecords rs 0).1
      (d.setFld Reg.hpLinkCtl 5 1 1).onHp fun h => { h with reconfig := false }
    else d

/-- RESET_DRAIN_END (R290, R465, R466): the drain of a warm reset or of an LBU block reset ends, and the reset proper follows. -/
def execResetDrainEnd (peer : Bool) (s : State) : Host.Outcome State Fault Refusal :=
  s.act fun d =>
    if d.ldg.warm then (d.drainEnd true).warmAndStart peer
    else if d.ldg.resetBlocks.contains 2 then
      let d := (d.drainEnd false).onLdg fun l => { l with resetBlocks := l.resetBlocks.filter (· != 2) }
      (d.blockReset 2).retryHeld
    else d

/-- SUPPLY_COLLAPSE (R291): the Wicket records the occupied PWB entries and CWB lines, and the device stands in reset; POWER_ON_RESET starts it
again. -/
def execSupplyCollapse (s : State) : Host.Outcome State Fault Refusal :=
  s.act fun d =>
    let n := ((drainPaths true).map d.pwbUsed).foldl (· + ·) 0 + d.fab.cwb.length
    (d.onLdg fun l => { l with brownout := some (min 65535 n) }).coldReset .powerOn

/-- SAFE_RESTART (R434): RESTART_MS after entry to the safe state, or out of FAILED (R437), the device restarts. -/
def execSafeRestart (peer : Bool) (s : State) : Host.Outcome State Fault Refusal :=
  s.act fun d =>
    if (d.dep.safe ∨ d.twin.state = .failed) ∧ d.fld Reg.depSafeCfg 0 16 ≠ 0 then d.resetAndStart .restart peer else d

end Sys2Proof.Machine
end

