-- ==== Sys2Proof/Machine/Dependability.lean ====
section
/-!
DEFINITION. What the checkers of the device find (R426–R431, R494, R511), the scrubber (R429), and the commands of the spare map and the note
FIFO (R450, R463).
-/
namespace Sys2Proof.Machine

/-- The local address of a word of general SRAM or DRAM, by memory code (R283). -/
def wordAddr (m w : Nat) : Option Nat :=
  match m with
  | 1 => some (0x01_0000_0000 + 8 * w)
  | 2 => some (0x10_0000_0000 + 8 * w)
  | _ => none

/-- The scrubber reads a word of a memory and finds what `f` says (R427–R429). -/
def Dev.scrub (d : Dev) (m w : Nat) (f : ScrubFind) : Dev :=
  let key := eccDetail m w
  let ga := match wordAddr m w with | some a => d.devid * 2 ^ 38 + a | none => 0
  if d.fld Reg.depScrubCfg (if m = 2 then 8 else 0) (if m = 2 then 16 else 8) = 0 then d
  else
    match f with
    | .clean => d.onDep fun p => { p with scrubbed := p.scrubbed.filter (· != key) }
    | .corrected bit =>
      let d := d.eccCorrected m w bit.val
      match wordAddr m w with
      | some _ => d.rsvStore 70 70 true ga 8
      | none => d
    | .uncorrectable =>
      if d.dep.scrubbed.contains key then d
      else
        let d : Dev := match wordAddr m w with
          | some a => d.markBad a
          | none => d.eccUncorr m w
        (d.onDep fun p => { p with scrubbed := p.scrubbed ++ [key] }).log { agent := 70, orig := d.devid } .decUncorr ga key

/-- The units that have a checker (R431): CAN and LIN controllers, MACs and pulse generators, by kind. -/
def unitExists (kind unit : Nat) : Bool :=
  match kind with
  | 5 => decide (unit < 64)
  | 6 => decide (unit < 32)
  | 7 => decide (unit < 15)
  | 8 => decide (unit < 48)
  | _ => false

/-! ### Meanings -/

/-- LOCKSTEP_MISMATCH (R426): LOCKSTEP rises and stays until start-up (R433). -/
def execLockstepMismatch (s : State) : Host.Outcome State Fault Refusal := s.act fun d => d.onDep fun p => { p with lockstep := true }

/-- CLOCK_OUT_OF_RANGE (R426, R433): a monitored clock leaves its range, or with `out` false is back in it. -/
def execClockOutOfRange (out : Bool) (s : State) : Host.Outcome State Fault Refusal :=
  s.act fun d => d.onDep fun p => { p with clockBad := out }

/-- SUPPLY_OUT_OF_RANGE (R433, R511): a rail leaves its range, or with `out` false is back in it. -/
def execSupplyOutOfRange (out : Bool) (s : State) : Host.Outcome State Fault Refusal :=
  s.act fun d => d.onDep fun p => { p with supplyBad := out }

/-- PLANE_FAULT (R426, R433): the plane is found faulted, and is out until start-up. -/
def execPlaneFault (k : Fin 2) (s : State) : Host.Outcome State Fault Refusal :=
  s.act fun d => d.onDep fun p => { p with planeOk := if p.planeOk.testBit k.val then p.planeOk - 2 ^ k.val else p.planeOk }

/-- ARCADE_HEARTBEAT_MISSING (R494): of a running Arcade. -/
def execArcadeHeartbeatMissing (s : State) : Host.Outcome State Fault Refusal :=
  s.act fun d => if d.fld Reg.ldgStatus 3 3 = 2 then d.onDep fun p => { p with arcadeMissing := true } else d

/-- UNIT_FAULT (R431). -/
def execUnitFault (kind : Fin 16) (unit : Nat) (s : State) : Host.Outcome State Fault Refusal :=
  s.act fun d =>
    if unitExists kind.val unit ∧ !d.dep.unitFaults.contains (kind.val, unit) then
      d.onDep fun p => { p with unitFaults := p.unitFaults ++ [(kind.val, unit)] }
    else d

/-- SCRUB_VISIT (R429): memory code and word index. -/
def execScrubVisit (m : Fin 15) (w : Nat) (f : ScrubFind) (s : State) : Host.Outcome State Fault Refusal :=
  s.act fun d => d.scrub m.val w f

/-- SWAP_IN (R450, R462): a DEP_SPARE_CMD commit with OP 1. -/
def execSwapIn (kind : Fin 16) (unit : BitVec 24) (s : State) : Host.Outcome State Fault Refusal :=
  s.act fun d => d.spareCommit (BitVec.ofNat 32 (kind.val + 16 * unit.toNat + 2 ^ 28))

/-- NOTE_POP (R463). -/
def execNotePop (s : State) : Host.Outcome State Fault Refusal := s.act fun d => d.onDep fun p => { p with notes := p.notes.drop 1 }

end Sys2Proof.Machine
end

