-- ==== Sys2Proof/Machine/Registers.lean ====
section
/-!
DEFINITION. The commands of the register interface (R37–R47, R52, R53, R242): a write or read of one register by a requester, and what the hub
does by itself.
-/
namespace Sys2Proof.Machine

/-- A write of one word by a requester (R36): a refused one is logged as PERM and has no effect. -/
def Dev.hubPut (d : Dev) (who off : Nat) (v : Word) : Dev :=
  match d.hubWrite who off v with
  | .ok d => d
  | .error c => d.permFail who off c

/-- A write of one word with byte enables by a requester (R35, R36). -/
def Dev.hubPutEn (d : Dev) (who off : Nat) (v : Word) (be : BitVec 4) : Dev :=
  match d.regWordWrite who off v be with
  | .ok d => d
  | .error c => d.permFail who off c

/-- An aligned 64-bit write by a requester (R35, R42). -/
def Dev.hubPut64 (d : Dev) (who off : Nat) (lo hi : Word) : Dev :=
  match d.hubWrite64 who off lo hi with
  | .ok d => d
  | .error c => d.permFail who off c

/-- The register classes whose parity is checked (R47). -/
def parityClass : RegClass → Bool
  | .rw | .rwa | .rwm | .rwk | .rws | .rwsk | .lo64 | .hi64 => true
  | .ro | .wo | .key | .keys => false

/-- A configuration register is found with wrong parity (R47, R435): it holds the damaged value, and the hub its shadow copy. -/
def Dev.parityFail (d : Dev) (off : Nat) (v : Word) (shadowOk : Bool) : Dev :=
  match regRow? off with
  | none => d
  | some r =>
    if !parityClass r.cls || d.hub.damaged.any fun x => x.off == off then d
    else
      let x : Damage := { off := off, shadow := d.rd off, ok := shadowOk }
      let d : Dev := { d with hub := { d.hub with damaged := d.hub.damaged ++ [x] } }
      (d.wr off v).log {} .parity (d.devid * 2 ^ 38 + off) (2 ^ 31 + off)

/-- Erasure of the user calibration copies ends (R491); a command of the mailbox that was refused for it may be sent again. -/
def Dev.eraseEnd (d : Dev) : Dev :=
  if d.ldg.erasing then
    ((d.flashErase 0x14000 0x4000).flashErase 0x10000 0x4000).onLdg fun l => { l with erasing := false }
  else d

/-! ### Meanings -/

/-- REGISTER_WRITE (R35, R37). -/
def execRegisterWrite (who : Requester) (off : Nat) (v : Word) (be : BitVec 4) (s : State) : Host.Outcome State Fault Refusal :=
  s.act fun d => d.hubPutEn who.val (off / 4 * 4) v be

/-- SET_ALIAS_WRITE (R38): at the SET alias of the plain offset `off`. -/
def execSetAliasWrite (who : Requester) (off : Nat) (v : Word) (s : State) : Host.Outcome State Fault Refusal :=
  s.act fun d => d.hubPut who.val (off + 0x10000) v

/-- CLEAR_ALIAS_WRITE (R38). -/
def execClearAliasWrite (who : Requester) (off : Nat) (v : Word) (s : State) : Host.Outcome State Fault Refusal :=
  s.act fun d => d.hubPut who.val (off + 0x20000) v

/-- TOGGLE_ALIAS_WRITE (R38). -/
def execToggleAliasWrite (who : Requester) (off : Nat) (v : Word) (s : State) : Host.Outcome State Fault Refusal :=
  s.act fun d => d.hubPut who.val (off + 0x30000) v

/-- MASKED_WRITE (R39). -/
def execMaskedWrite (who : Requester) (off : Nat) (v : Word) (s : State) : Host.Outcome State Fault Refusal :=
  s.act fun d => d.hubPut who.val off v

/-- KEYED_ARM (R40). -/
def execKeyedArm (who : Requester) (off : Nat) (v : Word) (s : State) : Host.Outcome State Fault Refusal :=
  s.act fun d => d.hubPut who.val off v

/-- KEYED_COMMIT (R40): a write of the companion word of the keyed register at `off`. -/
def execKeyedCommit (who : Requester) (off : Nat) (v : Word) (s : State) : Host.Outcome State Fault Refusal :=
  s.act fun d => d.hubPut who.val (off + 4) v

/-- KEYED_EXPIRY (R40). -/
def execKeyedExpiry (off : Nat) (s : State) : Host.Outcome State Fault Refusal :=
  s.act fun d => if d.hub.armed.any fun a => a.off == off then d.dropArmed off else d

/-- RWS_APPLY (R41): the write in flight of a block or instance frame. -/
def execRwsApply (frame : Nat) (s : State) : Host.Outcome State Fault Refusal := s.act fun d => d.rwsApply frame

/-- RW64_LOW_WRITE (R42). -/
def execRw64LowWrite (who : Requester) (off : Nat) (v : Word) (s : State) : Host.Outcome State Fault Refusal :=
  s.act fun d => d.hubPut who.val off v

/-- RW64_HIGH_WRITE (R42): `off` is that of the low word. -/
def execRw64HighWrite (who : Requester) (off : Nat) (v : Word) (s : State) : Host.Outcome State Fault Refusal :=
  s.act fun d => d.hubPut who.val (off + 4) v

/-- RW64_FULL_WRITE (R42). -/
def execRw64FullWrite (who : Requester) (off : Nat) (lo hi : Word) (s : State) : Host.Outcome State Fault Refusal :=
  s.act fun d => d.hubPut64 who.val off lo hi

/-- CFG_PARITY_MISMATCH (R47): the register at `off` now holds `v`; `shadowOk` says whether its shadow copy is intact (R435). -/
def execCfgParityMismatch (off : Nat) (v : Word) (shadowOk : Bool) (s : State) : Host.Outcome State Fault Refusal :=
  s.act fun d => d.parityFail off v shadowOk

/-- WARM_RESET (R52, R465): its drain begins; RESET_DRAIN_END ends it. -/
def execWarmReset (s : State) : Host.Outcome State Fault Refusal := s.act fun d => d.resetCommit 1

/-- BLOCK_RESET (R52, R466): the committed BLOCK. -/
def execBlockReset (b : Fin 32) (s : State) : Host.Outcome State Fault Refusal :=
  s.act fun d => d.resetCommit (BitVec.ofNat 32 (2 + 16 * b.val))

/-- RESTORE_FACTORY (R53, R491). -/
def execRestoreFactory (s : State) : Host.Outcome State Fault Refusal := s.act fun d => d.eraseStart

/-- CAL_ERASE_DONE (R491). -/
def execCalEraseDone (s : State) : Host.Outcome State Fault Refusal := s.act fun d => d.eraseEnd

/-- VT_LO_READ (R242): the low word of VT is returned, and the fraction latched for the reader. -/
def execVtLoRead (who : Requester) (s : State) : Host.Outcome State Fault Refusal :=
  s.act fun d =>
    let x := d.hubRead who.val Reg.blvVtLo
    x.1.emit (.word x.2)

end Sys2Proof.Machine
end

