-- ==== Sys2Proof/Machine/Wicket.lean ====
section
/-!
DEFINITION. The Wicket (R413–R422): wake events and their records, the power items and the wake-current budget, and entry into STANDBY and
SLEEP.
-/
namespace Sys2Proof.Machine

/-! ### Items -/

/-- The device with the Wicket changed. -/
def Dev.onWkt (d : Dev) (f : Wkt → Wkt) : Dev := { d with wkt := f d.wkt }

/-- Item `j`. -/
def Dev.item (d : Dev) (j : Nat) : Item := d.wkt.items.getD j {}

/-- The device with item `j` changed. -/
def Dev.onItem (d : Dev) (j : Nat) (f : Item → Item) : Dev := d.onWkt fun w => { w with items := w.items.modify j f }

/-- COST, PRIO, SETTLE and REQ of item `j` (R422). -/
def Dev.itemCost (d : Dev) (j : Nat) : Nat := d.fld (Reg.wktItemCfg + 4 * j) 0 8
def Dev.itemPrio (d : Dev) (j : Nat) : Nat := d.fld (Reg.wktItemCfg + 4 * j) 8 2
def Dev.itemSettle (d : Dev) (j : Nat) : Nat := 100000 * d.fld (Reg.wktItemCfg + 4 * j) 10 6
def Dev.itemNeeds (d : Dev) (j i : Nat) : Bool := d.flag (Reg.wktItemCfg + 4 * j) (16 + i)

/-- Item `j` is wanted, off, and every item of its REQ mask is ready (R417). -/
def Dev.itemWaits (d : Dev) (j : Nat) : Bool :=
  (d.item j).wanted && !(d.item j).on &&
    (List.range 16).all fun i => !d.itemNeeds j i || ((d.item i).on && (d.item i).ready)

/-- The item whose turn it is (R418): the highest PRIO and, among equals, the lowest number. -/
def Dev.nextItem (d : Dev) : Option Nat :=
  [3, 2, 1, 0].findSome? fun p => (List.range 16).find? fun j => d.itemWaits j && d.itemPrio j == p

/-- WKT_WCU_BUDGET as it acts (R422). -/
def Dev.wcuBudget (d : Dev) : Nat := max 1 (d.fld Reg.wktWcuBudget 0 12)

/-- The starts in the half-open window of 100 µs that ends now (R418). -/
def Dev.wcuStarts (d : Dev) : List (Nat × Nat) := d.wkt.starts.filter fun x => decide (d.wkt.now < x.1 + 100000)

/-- WCU of the window (R418). -/
def Dev.wcuUsed (d : Dev) : Nat := (d.wcuStarts.map (·.2)).foldl (· + ·) 0

/-- The Wicket starts an item within the budget, or the item waits for it and is counted once (R418, R422). -/
def Dev.itemStart (d : Dev) : Dev :=
  match d.nextItem with
  | none => d
  | some j =>
    let cost := min (d.itemCost j) d.wcuBudget
    if d.wcuUsed + cost ≤ d.wcuBudget then
      let d := d.onWkt fun w => { w with starts := d.wcuStarts ++ [(w.now, cost)] }
      let d := d.onItem j fun _ => { on := true, ready := false, wanted := true, since := d.wkt.now }
      if j < 8 then d.emit (.pwrEn j true) else d
    else if (d.item j).waited then d
    else (d.onItem j fun i => { i with waited := true }).bump Reg.wktBudgetWait

/-- An item becomes ready once its SETTLE has elapsed (R417). The Lodge's item begins start-up: a wake from STANDBY, or a power-on reset (R464,
R467). -/
def Dev.itemReady (d : Dev) (j : Nat) (peer : Bool) : Dev :=
  let i := d.item j
  if !i.on ∨ i.ready ∨ d.wkt.now < i.since + d.itemSettle j then d
  else
    let mode := d.wkt.mode
    let d := d.onItem j fun i => { i with ready := true }
    if j = 9 then d.resetAndStart (if mode = .standby then .standbyWake else .powerOn) peer else d

/-! ### Wake events -/

/-- A class's wake plan joins the wanted items (R417). -/
def Dev.wakePlan (d : Dev) (cls : Nat) : Dev :=
  let plan := Reg.wktPlan + 4 * (cls - 1)
  (d.onWkt fun w =>
    { w with items := w.items.zipIdx.map fun (x : Item × Nat) =>
        if d.flag plan x.2 ∧ !x.1.on then { x.1 with wanted := true, waited := false } else x.1 }).bump Reg.wktWakeCount

/-- An event (R416, R417, R419): its record, and outside RUN its class's plan. During an entry it stops the switching off; the Lodge, where it
is still on, then starts up again through the wake path (R496). -/
def Dev.wakeEvent (d : Dev) (cls index : Nat) : Dev :=
  let rec' := leBytes 6 (d.rd64 Reg.wktAonTime) ++ leBytes 1 cls ++ leBytes 1 index ++ leBytes 1 (wktCode d.wkt.mode) ++ leBytes 7 0
  let d := if 32 ≤ d.wkt.events.length then d.bump Reg.wktEvtOvf else d.onWkt fun w => { w with events := w.events ++ [rec'] }
  match d.wkt.mode with
  | .run => d
  | .standby => d.wakePlan cls
  | .sleep => d.wakePlan cls
  | .entering =>
    let d := (d.onWkt fun w => { w with mode := w.target, lastEntry := 3 }).bump Reg.wktSleepAbort
    let d := d.onItem 9 fun i => if i.on then { i with ready := false, since := d.wkt.now } else i
    d.wakePlan cls

/-- An input that was active when STANDBY or SLEEP was entered gives no event (R415). -/
def Dev.inputCounts (d : Dev) (stale : Bool) : Bool := !stale || d.wkt.mode == .run || d.wkt.mode == .entering

/-- Word `w` of wake pattern `p` (R414). -/
def Dev.patWord (d : Dev) (p w : Nat) : Nat := (d.rd (0xC4_1000 + 32 * p + 4 * w)).toNat

/-- A correct classical frame matches a pattern (R414). -/
def Dev.patMatches (d : Dev) (p ch : Nat) (id : Nat) (ide rtr : Bool) (dlc : Nat) (data : List Byte) : Bool :=
  let ctl := d.patWord p 2
  let mask := d.patWord p 1
  let dataMask := d.patWord p 6 + 2 ^ 32 * d.patWord p 7
  let want := d.patWord p 4 + 2 ^ 32 * d.patWord p 5
  let sent := min 8 dlc
  !rtr && ctl.testBit 5 && (ctl.testBit 14 || bitsOf ctl 8 6 == ch) &&
    (id % 2 ^ 29) &&& (mask % 2 ^ 29) == (d.patWord p 0 % 2 ^ 29) &&& (mask % 2 ^ 29) &&
    (!mask.testBit 29 || (d.patWord p 0).testBit 29 == ide) && (!ctl.testBit 4 || bitsOf ctl 0 4 == dlc) &&
    (List.range 8).all fun i =>
      bitsOf dataMask (8 * i) 8 == 0 ||
        (decide (i < sent) && (data.getD i 0).toNat &&& bitsOf dataMask (8 * i) 8 == bitsOf want (8 * i) 8 &&& bitsOf dataMask (8 * i) 8)

/-! ### Entry into STANDBY and SLEEP -/

/-- An item that a mode keeps on (R419). -/
def Dev.itemKept (d : Dev) (j : Nat) : Bool := d.wkt.target == .standby && d.flag Reg.wktKeep j

/-- The item that is switched off next (R419): the highest-numbered one that is on and not kept, and that no item still on needs but those
kept. -/
def Dev.nextOff (d : Dev) : Option Nat :=
  ((List.range 16).reverse).find? fun j =>
    (d.item j).on && !d.itemKept j && (List.range 16).all fun k => !(d.item k).on || d.itemKept k || !d.itemNeeds k j

/-- What losing its supply does to what an item powers (R417, R240). -/
def Dev.itemLost (d : Dev) (j : Nat) : Dev :=
  match j with
  | 2 => { d with mem := d.mem.filter (fun c => !inDram c.1), bad := d.bad.filter fun a => !inDram a }
  | 8 =>
    let w := d.wkt
    { d.coldReset .standbyWake with wkt := w }
  | 12 => d.hostLinkDown
  | 13 => { d with mac := d.mac.map (fun (m : Mac) => { m with link := false }) }
  | 14 => (List.range 5).foldl (fun d n => if (d.link n).state = .off then d else d.linkDown n) d
  | 15 => ({ d with blv := {} }).onWkt fun w => { w with vtLost := true }
  | _ => d

/-- One item is switched off (R419); with the last one the mode is entered. -/
def Dev.switchOff (d : Dev) : Dev :=
  if d.wkt.mode ≠ .entering then d
  else
    let d : Dev := match d.nextOff with
      | none => d
      | some j =>
        let d := (d.onItem j fun _ => { on := false, ready := false, wanted := false }).itemLost j
        if j < 8 then d.emit (.pwrEn j false) else d
    if d.nextOff.isSome then d
    else d.onWkt fun w => { w with mode := w.target, lastEntry := 1, entered := some (d.rd64 Reg.wktAonTime) }

/-- A commit of WKT_SLEEP_CTL (R419). -/
def Dev.sleepCommit (d : Dev) (who m : Nat) : Dev := if who = 63 then d.wktEnter m else d.permFail who Reg.wktSleepCtl 9

/-! ### Meanings -/

/-- CAN_WUP (R414): a dominant phase of `us` microseconds. -/
def execCanWup (ch : Fin 64) (us : Nat) (stale : Bool) (s : State) : Host.Outcome State Fault Refusal :=
  s.act fun d =>
    let cfg := Reg.wktCanCfg + 4 * ch.val
    if d.flag cfg 0 ∧ max 1 (d.fld cfg 8 8) ≤ us ∧ d.inputCounts stale then d.wakeEvent 2 ch.val else d

/-- CAN_WAKE_FRAME (R414): a correct classical frame at the bit rate `rate` gives an event for the lowest-numbered pattern it matches. -/
def execCanWakeFrame (ch : Fin 64) (rate : Fin 4) (id : BitVec 29) (ide rtr : Bool) (dlc : Fin 16) (data : List Byte) (s : State) :
    Host.Outcome State Fault Refusal :=
  s.act fun d =>
    let cfg := Reg.wktCanCfg + 4 * ch.val
    if d.flag cfg 1 ∧ d.fld cfg 2 2 = rate.val then
      match (List.range 64).find? fun p => d.patMatches p ch.val id.toNat ide rtr dlc.val data with
      | some p => d.wakeEvent 1 p
      | none => d
    else d

/-- LIN_WAKE (R415): a dominant pulse of `us` microseconds. -/
def execLinWake (l : Fin 32) (us : Nat) (stale : Bool) (s : State) : Host.Outcome State Fault Refusal :=
  s.act fun d =>
    let cfg := Reg.wktLinCfg + 4 * l.val
    if d.flag cfg 0 ∧ 10 * d.fld cfg 8 8 ≤ us ∧ d.inputCounts stale then d.wakeEvent 3 l.val else d

/-- PHY_WAKE (R415): the pin has stood at a level for `us` microseconds. -/
def execPhyWake (i : Fin 14) (high : Bool) (us : Nat) (stale : Bool) (s : State) : Host.Outcome State Fault Refusal :=
  s.act fun d =>
    if d.flag Reg.wktPhyCfg i.val ∧ d.flag Reg.wktPhyCfg (16 + i.val) = high ∧ 100 * d.fld Reg.wktPinCfg 16 8 ≤ us ∧ d.inputCounts stale then
      d.wakeEvent 4 i.val
    else d

/-- WAKE_PIN (R415). -/
def execWakePin (k : Fin 8) (high : Bool) (us : Nat) (stale : Bool) (s : State) : Host.Outcome State Fault Refusal :=
  s.act fun d =>
    if d.flag Reg.wktPinCfg k.val ∧ d.flag Reg.wktPinCfg (8 + k.val) = high ∧ 100 * d.fld Reg.wktPinCfg 16 8 ≤ us ∧ d.inputCounts stale then
      d.wakeEvent 5 k.val
    else d

/-- WAKE_TIMER (R415): WKT_TIMER ticks after the entry into STANDBY or SLEEP, once. -/
def execWakeTimer (s : State) : Host.Outcome State Fault Refusal :=
  s.act fun d =>
    let t := d.fld Reg.wktTimer 0 32
    match d.wkt.entered with
    | some e =>
      if t ≠ 0 ∧ (d.wkt.mode = .standby ∨ d.wkt.mode = .sleep) ∧ e + t ≤ d.rd64 Reg.wktAonTime then
        (d.onWkt fun w => { w with entered := none }).wakeEvent 6 0
      else d
    | none => d

/-- ITEM_START (R418). -/
def execItemStart (s : State) : Host.Outcome State Fault Refusal := s.act fun d => d.itemStart

/-- ITEM_READY (R417). -/
def execItemReady (j : Fin 16) (peer : Bool) (s : State) : Host.Outcome State Fault Refusal := s.act fun d => d.itemReady j.val peer

/-- STANDBY_ENTRY (R419). -/
def execStandbyEntry (who : Requester) (s : State) : Host.Outcome State Fault Refusal := s.act fun d => d.sleepCommit who.val 1

/-- SLEEP_ENTRY (R419). -/
def execSleepEntry (who : Requester) (s : State) : Host.Outcome State Fault Refusal := s.act fun d => d.sleepCommit who.val 2

/-- ITEM_SWITCH_OFF (R419). -/
def execItemSwitchOff (s : State) : Host.Outcome State Fault Refusal := s.act fun d => d.switchOff

/-- EVT_POP (R416). -/
def execEvtPop (s : State) : Host.Outcome State Fault Refusal := s.act fun d => d.onWkt fun w => { w with events := w.events.drop 1 }

/-- XTAL_FAIL (R413): time is kept from the RC oscillator. -/
def execXtalFail (s : State) : Host.Outcome State Fault Refusal := s.act fun d => d.onWkt fun w => { w with xtalOk := false }

end Sys2Proof.Machine
end

