-- ==== Sys2Proof/Machine/Lodge.lean ====
section
/-!
DEFINITION. The services of the Lodge: the mailbox commands (R495–R499) and the Kiosk (R501–R503).
-/
namespace Sys2Proof.Machine

/-! ### The mailbox -/

/-- The Lodge's firmware, or in recovery its ROM, serves the mailbox and the Kiosk (R467, R483). -/
def Dev.lodgeRuns (d : Dev) : Bool := decide (5 ≤ d.fld Reg.ldgStatus 0 3)

/-- The pending mailbox command is served, where it is of the code given (R498): `f` answers the device, the result code and the result data.
In recovery only FLASH_READ, FLASH_WRITE and SLOT_STATE are served (R483). -/
def Dev.mbxServe (d : Dev) (code : Nat) (f : Dev → MbxCmd → Dev × Nat × List Byte) : Dev :=
  match d.ldg.mbx with
  | none => d
  | some c =>
    if c.cmd ≠ code ∨ !d.lodgeRuns then d
    else if d.ldg.recovery ∧ !([2, 3, 4].contains code) then d.mbxEnd c 5 []
    else
      let r := f d c
      r.1.mbxEnd c r.2.1 r.2.2

/-- A number of `n` bytes in a parameter block. -/
def MbxCmd.num (c : MbxCmd) (off n : Nat) : Nat := leNat ((c.params.drop off).take n)

/-- A GA lies, with `len` bytes, in this device's SRAM or DRAM: the local address. -/
def Dev.ownMemory (d : Dev) (ga len : Nat) : Option Nat :=
  let a := ga % 2 ^ 38
  if ga / 2 ^ 38 % 1024 = d.devid ∧ (mapPart a = 1 ∨ mapPart a = 2) ∧ len ≠ 0 ∧ (d.localTarget a len).toOption.isSome then some a else none

/-- The `len` bytes a service reads from a GA: this device's memory, or what the access elsewhere returns (`ext`, none where it fails). -/
def Dev.svcRead (d : Dev) (ga len : Nat) (ext : Option (List Byte)) : Option (List Byte) :=
  match d.ownMemory ga len with
  | some a => if (d.badIn a len).isSome then none else some (d.bytesAt a len)
  | none => match ext with
    | some bs => if bs.length = len then some bs else none
    | none => none

/-- A service writes bytes from a GA on: posted writes of the Lodge, one for each 64-byte block they touch. -/
def Dev.svcWrite (d : Dev) (ga : Nat) (bs : List Byte) : Dev :=
  match d.ownMemory ga bs.length with
  | some a => (d.memStore a (allOn bs)).1.rsvStore 63 63 false ga bs.length
  | none =>
    (List.range (blocksOf ga bs.length)).foldl (fun d k =>
      let lo := max ga ((ga / 64 + k) * 64)
      let hi := min (ga + bs.length) ((ga / 64 + k + 1) * 64)
      d.issue { seq := 0, agent := 63, ident := 63, orig := d.devid, ing := .svc, op := .write, posted := true, ga := lo, len := hi - lo,
                data := allOn ((bs.drop (lo - ga)).take (hi - lo)), ts := d.stamp }) d

/-- Bytes the spec does not state, as left by a flash operation that failed. -/
def Dev.flashLost (d : Dev) (off n : Nat) : Dev :=
  { (d.flashErase off n).flashPut off ((List.range n).map fun i => Config.freeByte (d.fresh + i)) with fresh := d.fresh + n }

/-- CFG_REAPPLY's records (R497, R499): those of the applied CONFIG section whose block the mask names. -/
def Dev.reapply (d : Dev) (mask : Nat) : Dev × Nat × Bool :=
  d.applyRecords (((configOf d.ldg.config).getD []).filter fun r => decide (r.block ≤ 16) && mask.testBit r.block) 0

/-- FLASH_READ (R499). -/
def Dev.mbxFlashRead (d : Dev) (c : MbxCmd) (fails : Bool) : Dev × Nat × List Byte :=
  let off := c.num 0 4
  let len := c.num 4 4
  if 65536 < len then (d, 1, [])
  else if fails then (d, 3, [])
  else (d.svcWrite (c.num 8 6) (d.flashBytes off len), 0, [])

/-- FLASH_WRITE (R499): the factory area and the user area are protected. -/
def Dev.mbxFlashWrite (d : Dev) (c : MbxCmd) (ext : Option (List Byte)) (fails : Bool) : Dev × Nat × List Byte :=
  let off := c.num 0 4
  let len := c.num 4 4
  let touches := fun (lo hi : Nat) => decide (off < hi) && decide (lo < off + len)
  if 65536 < len ∨ off % 4096 ≠ 0 ∨ len % 4096 ≠ 0 then (d, 1, [])
  else if touches 0x1000 0xF000 ∨ touches 0x10000 0x20000 then (d, 2, [])
  else
    match d.svcRead (c.num 8 6) len ext with
    | none => (d, 4, [])
    | some bs => if fails then (d.flashLost off len, 3, []) else ((d.flashErase off len).flashPut off bs, 0, [])

/-- SLOT_STATE (R475, R499): the header copy not in use is rewritten with the next GENERATION. -/
def Dev.mbxSlotState (d : Dev) (c : MbxCmd) (fails : Bool) : Dev × Nat × List Byte :=
  let slot := c.num 0 1
  if 4 ≤ slot then (d, 1, [])
  else
    match d.header? with
    | none => (d, 4, [])
    | some h =>
      let gen := (d.flashNum (h + 8) 4 + 1) % 2 ^ 32
      let e := slotEntry 0 slot
      let put := fun (l : List Byte) (o : Nat) (x : List Byte) => l.take o ++ x ++ l.drop (o + x.length)
      let body := put (d.flashBytes h 4092) 8 (leBytes 4 gen)
      let body := put (put body (e + 8) ((c.params.drop 1).take 2)) (e + 12) ((c.params.drop 4).take 4)
      let other := if h = 0 then 0xF000 else 0
      if fails then (d.flashLost other 4096, 3, [])
      else ((d.flashErase other 4096).flashPut other (body ++ leBytes 4 (crc32c body)), 0, leBytes 4 gen)

/-- KEY_LOAD (R495, R499). -/
def Dev.mbxKeyLoad (d : Dev) (c : MbxCmd) (ext : Option (List Byte)) : Dev × Nat × List Byte :=
  match d.svcRead (c.num 0 6) 64 ext with
  | none => (d, 4, [])
  | some b =>
    let r := d.loadBlob (leNat (b.take 2) % 1024) b
    (r.1, if r.2 = 0 then 0 else 4, leBytes 1 r.2)

/-- KEY_PROVISION (R495): the plaintext key of an envelope, under the checks of LOAD. -/
def Dev.mbxKeyProvision (d : Dev) (c : MbxCmd) (ext : Option (List Byte)) : Dev × Nat × List Byte :=
  match d.svcRead (c.num 0 6) 112 ext with
  | none => (d, 4, [])
  | some b =>
    let head := (b.drop 64).take 8
    let slot := leNat (head.take 2) % 1024
    let version := leNat ((head.drop 4).take 3)
    let attr := (head.getD 2 0).toNat
    let blocks := (List.range 5).map fun i => beNum (natBytes ((b.drop (72 + 8 * i)).take 8))
    let bad := fun (code : Nat) => (d, 4, leBytes 1 code)
    if (head.getD 3 0).toNat ≠ 1 then bad 1
    else
      match kwUnwrap (beList 32 (Config.wrapKey (b.take 64) d.devid).toNat) blocks with
      | none => bad 2
      | some p =>
        if version < d.keyVersion slot then bad 4
        else
          let key := p.flatMap fun x => byteNats (beList 8 x)
          (d.installKey slot (attr % 4) version (if attr.testBit 2 then key else key.take 16), 0, leBytes 1 0)

/-- Items as bytes (R489). -/
def calBytes (xs : List (Nat × List Byte)) : List Byte :=
  xs.flatMap fun x => leBytes 2 x.1 ++ leBytes 2 x.2.length ++ x.2 ++ List.replicate ((4 - x.2.length % 4) % 4) 0

/-- CAL_WRITE (R490, R491, R499): the items are merged into a new user copy, written over the copy not in use. -/
def Dev.mbxCalWrite (d : Dev) (c : MbxCmd) (ext : Option (List Byte)) (fails : Bool) : Dev × Nat × List Byte :=
  let len := c.num 8 4
  if 0x4000 < len then (d, 1, [])
  else if c.late then (d, 5, [])
  else
    match d.svcRead (c.num 0 6) len ext with
    | none => (d, 4, [])
    | some bs =>
      let new := calItems (len + 1) bs
      let use := d.userCal?
      let old := match use with | some o => d.calArea o | none => []
      let all := (old.filter fun x => !(new.any fun y => y.1 == x.1)) ++ new
      let size := (calBytes all).length + 20
      if !(new.all calKnown) ∨ 0x4000 < size then (d, 1, [])
      else
        let gen := match use with | some o => (d.flashNum (o + 8) 4 + 1) % 2 ^ 32 | none => 1
        let body := ascii "GUCL" ++ leBytes 4 size ++ leBytes 4 gen ++ leBytes 4 0 ++ calBytes all
        let dst := if use = some 0x10000 then 0x14000 else 0x10000
        if fails then (d.flashLost dst 0x4000, 3, [])
        else ((d.flashErase dst 0x4000).flashPut dst (body ++ leBytes 4 (crc32c body)), 0, [])

/-- ARC_RESTART (R494, R499): a FAILED Arcade is loaded and released again. -/
def Dev.mbxArcRestart (d : Dev) : Dev × Nat × List Byte :=
  if d.fld Reg.ldgStatus 3 3 ≠ 4 then (d, 5, [])
  else if !d.arcImageOk then (d, 4, [])
  else
    let d := (d.arcHeld.bump Reg.ldgArcRestarts).onLdg fun l => { l with restarts := [] }
    ((d.setFld Reg.ldgStatus 3 3 2).onDep fun p => { p with arcadeMissing := false }, 0, [])

/-! ### Sleep -/

/-- No CAN buffer and no MAC queue holds a frame (R496). -/
def Dev.txEmpty (d : Dev) : Bool := d.can.all (·.bufs.isEmpty) && d.mac.all (·.queue.isEmpty)

/-- Every CAN, LIN and Ethernet channel is turned off (R496). -/
def Dev.channelsOff (d : Dev) : Dev :=
  let d := (List.range 64).foldl (fun d c => d.canCtlWrite c (canReg Reg.pavCanCtl c) (setField (d.rd (canReg Reg.pavCanCtl c)) 0 1 0)) d
  let d := (List.range 32).foldl (fun d l => d.setFld (linReg Reg.pavLinCtl l) 0 1 0) d
  (List.range 15).foldl (fun d i => d.setFld (ethReg Reg.ethCtl i) 0 1 0) d

/-- The buffered paths hold no posted write (R496). -/
def Dev.pathsEmpty (d : Dev) : Bool := (drainPaths true).all fun p => (d.pathWrites p).isEmpty

/-- The commit of WKT_SLEEP_CTL that ends the preparation, or the return to operation where it is refused (R419, R496). -/
def Dev.sleepEnd (d : Dev) (c : MbxCmd) (m : Nat) : Dev :=
  let d := (d.drainEnd true).wktEnter m
  if d.wkt.mode = .entering then d.mbxEnd c 0 []
  else (((d.reapply (2 ^ 17 - 1)).1).setFld Reg.ldgStatus 0 3 5).mbxEnd c 5 []

/-- One stage of the mailbox command SLEEP (R496): the scheduler and the Gazebo stop; the channels go off and the drain begins once the transmit
buffers are empty, or after their 10 ms (`expired`); the commit follows once the posted writes are gone, or after the drain's 20 µs. -/
def Dev.sleepStage (d : Dev) (c : MbxCmd) (expired : Bool) : Dev :=
  let m := c.num 0 1
  if m ≠ 1 ∧ m ≠ 2 then d.mbxEnd c 1 []
  else
    let d : Dev :=
      if d.fld Reg.ldgStatus 0 3 = 7 then d
      else ((d.setFld Reg.blvSchedCfg 16 1 0).setFld Reg.gzbCtl 0 1 0).setFld Reg.ldgStatus 0 3 7
    let was := d.lbu.draining
    let d := if !was && (d.txEmpty || expired) then d.channelsOff.drainStart true else d
    if d.lbu.draining && (d.pathsEmpty || (was && expired)) then d.sleepEnd c m else d

/-! ### Meanings: the mailbox -/

/-- CFG_REAPPLY (R497, R499). -/
def execCfgReapply (s : State) : Host.Outcome State Fault Refusal :=
  s.act fun d => d.mbxServe 1 fun d c =>
    let r := d.reapply (c.num 0 4)
    (r.1, if r.2.2 then 4 else 0, leBytes 4 r.2.1)

/-- FLASH_READ (R499); `fails`: the flash device reports an error. -/
def execFlashRead (fails : Bool) (s : State) : Host.Outcome State Fault Refusal :=
  s.act fun d => d.mbxServe 2 fun d c => d.mbxFlashRead c fails

/-- FLASH_WRITE (R499); `ext`: what a read of a source outside this device's memory returns. -/
def execFlashWrite (ext : Option (List Byte)) (fails : Bool) (s : State) : Host.Outcome State Fault Refusal :=
  s.act fun d => d.mbxServe 3 fun d c => d.mbxFlashWrite c ext fails

/-- SLOT_STATE (R499). -/
def execSlotState (fails : Bool) (s : State) : Host.Outcome State Fault Refusal :=
  s.act fun d => d.mbxServe 4 fun d c => d.mbxSlotState c fails

/-- KEY_LOAD (R499). -/
def execKeyLoad (ext : Option (List Byte)) (s : State) : Host.Outcome State Fault Refusal :=
  s.act fun d => d.mbxServe 5 fun d c => d.mbxKeyLoad c ext

/-- KEY_PROVISION (R495). -/
def execKeyProvision (ext : Option (List Byte)) (s : State) : Host.Outcome State Fault Refusal :=
  s.act fun d => d.mbxServe 6 fun d c => d.mbxKeyProvision c ext

/-- DEVKEY_PUB (R499). -/
def execDevkeyPub (s : State) : Host.Outcome State Fault Refusal :=
  s.act fun d => d.mbxServe 7 fun d c => (d.svcWrite (c.num 0 6) (byteNats (beList 64 (Config.provisioningKey 0).toNat)), 0, [])

/-- CAL_WRITE (R499). -/
def execCalWrite (ext : Option (List Byte)) (fails : Bool) (s : State) : Host.Outcome State Fault Refusal :=
  s.act fun d => d.mbxServe 8 fun d c => d.mbxCalWrite c ext fails

/-- SLEEP (R496). -/
def execSleep (expired : Bool) (s : State) : Host.Outcome State Fault Refusal :=
  s.act fun d =>
    match d.ldg.mbx with
    | some c => if c.cmd ≠ 9 ∨ !d.lodgeRuns then d else if d.ldg.recovery then d.mbxEnd c 5 [] else d.sleepStage c expired
    | none => d

/-- ARC_RESTART (R499). -/
def execArcRestart (s : State) : Host.Outcome State Fault Refusal := s.act fun d => d.mbxServe 10 fun d _ => d.mbxArcRestart

/-! ### The Kiosk -/

/-- A line of the Kiosk. -/
def Dev.say (d : Dev) (line : String) : Dev := d.emit (.text line)

/-- The Kiosk runs a command of a level (R502, R503): 0 VIEW, 1 SERVICE. -/
def Dev.kiosk (d : Dev) (level : Nat) (f : Dev → Dev) : Dev :=
  if !d.lodgeRuns then d else if d.fld Reg.ldgStatus 6 2 < level then d.say "E LEVEL" else f d

/-- The GA of a Kiosk address: a local one, or one of the device named (R503). -/
def Dev.kioskGa (d : Dev) (dev : Option (Fin 1024)) (a : Nat) : Nat :=
  (match dev with | some x => x.val | none => d.devid) * 2 ^ 38 + a % 2 ^ 38

/-- The Kiosk reads `n` words as requester LODGE (R501, R503); each answer is the output of the read's completion. -/
def Dev.kioskRead (d : Dev) (ga n : Nat) : Dev :=
  (List.range n).foldl (fun d k =>
    d.issue { seq := 0, agent := 63, ident := 63, orig := d.devid, ing := .lodge, op := .read, posted := false, ga := ga + 4 * k, len := 4,
              ts := d.stamp }) d

/-- The Kiosk writes a word as requester LODGE. -/
def Dev.kioskWrite (d : Dev) (ga : Nat) (v : Word) : Dev :=
  d.issue { seq := 0, agent := 63, ident := 63, orig := d.devid, ing := .lodge, op := .write, posted := true, ga := ga, len := 4,
            data := allOn (leBytes 4 v.toNat), ts := d.stamp }

/-- A word in hexadecimal. -/
def wordText (v : Word) : String := hexText 8 v.toNat

/-- Words of a record in hexadecimal, apart by a space. -/
def wordsText (vs : List Word) : String := vs.foldl (fun s v => s ++ " " ++ wordText v) ""

/-- The name of a window family. -/
def famName : WinFam → String
  | .iw => "IW" | .ow => "OW" | .lw => "LW" | .lz => "LZ"

/-- The settings and HITS of a window (R83, R503). -/
def Dev.winLine (d : Dev) (f : WinFam) (n : Nat) : Dev :=
  d.say (famName f ++ " " ++ hexText 2 n ++ wordsText ((List.range 7).map fun k => d.regWord 63 (winBase f n + 4 * k)))

/-- `tab key` (R381, R503): a FIND through the command interface; the Lodge waits for its end and prints the entry and its location. -/
def Dev.kioskTab (d : Dev) (key : List Byte) : Dev :=
  if key.length ≠ 16 then d.say "E SYNTAX"
  else if d.trl.cmd.isSome then d.trlCmdWrite 3
  else
    let d := (List.range 4).foldl (fun d k => d.wr (0x64_0000 + 4 * k) (recWord key k)) d
    let d := (d.trlCmdWrite 3).trlFind
    if d.fld Reg.trlCmdStatus 2 3 ≠ 0 then d.say "NOT_FOUND"
    else
      d.say (wordsText ((List.range 8).map fun k => d.rd (0x64_0000 + 4 * k)) ++ " BUCKET " ++ wordText (d.rd Reg.trlCmdBucket) ++ " SLOT " ++
        hexText 1 (d.fld Reg.trlCmdStatus 5 2))

/-- The response that a challenge expects (R502): the first 8 bytes of the CMAC under the service key; none without such a key. -/
def Dev.kioskExpects (d : Dev) (challenge : Nat) : Option Nat :=
  match d.ldg.svcSlot with
  | none => none
  | some slot => match d.gth.slots.find? fun x => x.slot == slot && x.use == 1 with
    | none => none
    | some x =>
      let m := natBytes (ascii "GSKC") ++ beList 2 d.devid ++ beList 8 challenge
      some (cmac (natBytes x.key) m / 2 ^ 64)

/-- `unlock` with a response (R502). -/
def Dev.kioskResponse (d : Dev) (r : Nat) : Dev :=
  if d.flag Reg.ldgStatus 8 then d.say "E LEVEL"
  else
    let good : Bool := match d.ldg.challenge with
      | some c => d.kioskExpects c == some r
      | none => false
    if good then ((d.setFld Reg.ldgStatus 6 2 1).onLdg fun l => { l with challenge := none, wrong := 0 }).say "SERVICE"
    else
      let d := (d.bump Reg.ldgKioskFail).say "E LEVEL"
      if 2 ≤ d.ldg.wrong then (d.setFld Reg.ldgStatus 8 1 1).onLdg fun l => { l with wrong := 0 }
      else d.onLdg fun l => { l with wrong := l.wrong + 1 }

/-! ### Meanings: the Kiosk -/

/-- KIOSK_RD (R503). -/
def execKioskRd (dev : Option (Fin 1024)) (a n : Nat) (s : State) : Host.Outcome State Fault Refusal :=
  s.act fun d => d.kiosk 0 fun d => if n = 0 ∨ 256 < n then d.say "E SYNTAX" else d.kioskRead (d.kioskGa dev a) n

/-- KIOSK_DUMP (R503). -/
def execKioskDump (dev : Option (Fin 1024)) (a len : Nat) (s : State) : Host.Outcome State Fault Refusal :=
  s.act fun d => d.kiosk 0 fun d => if 4096 < len then d.say "E SYNTAX" else d.kioskRead (d.kioskGa dev a) ((len + 3) / 4)

/-- KIOSK_WR (R503): with `keyed`, V and then NOT V at the next word (R40). -/
def execKioskWr (dev : Option (Fin 1024)) (a : Nat) (v : Word) (keyed : Bool) (s : State) : Host.Outcome State Fault Refusal :=
  s.act fun d => d.kiosk 1 fun d =>
    let d := d.kioskWrite (d.kioskGa dev a) v
    if keyed then d.kioskWrite (d.kioskGa dev (a + 4)) (~~~v) else d

/-- KIOSK_WIN (R503): one window, or all. -/
def execKioskWin (w : Option (WinFam × Fin 32)) (s : State) : Host.Outcome State Fault Refusal :=
  s.act fun d => d.kiosk 0 fun d =>
    match w with
    | some (f, n) => if n.val < winCount f then d.winLine f n.val else d.say "E SYNTAX"
    | none => [WinFam.iw, .ow, .lw, .lz].foldl (fun d f => (List.range (winCount f)).foldl (fun d n => d.winLine f n) d) d

/-- KIOSK_TAB (R503). -/
def execKioskTab (key : List Byte) (s : State) : Host.Outcome State Fault Refusal := s.act fun d => d.kiosk 0 fun d => d.kioskTab key

/-- KIOSK_TIME (R503). -/
def execKioskTime (s : State) : Host.Outcome State Fault Refusal :=
  s.act fun d => d.kiosk 0 fun d =>
    d.say ("BLV_STATUS " ++ wordText d.blvStatus ++ " VT " ++ hexText 16 d.blv.vt ++ " OFFSET " ++ wordText (d.rd Reg.blvOffset) ++ " SOURCE " ++
      hexText 1 d.sourceCode)

/-- KIOSK_TWIN (R503). -/
def execKioskTwin (s : State) : Host.Outcome State Fault Refusal :=
  s.act fun d => d.kiosk 0 fun d => d.say ("DEP_TWIN_STATUS " ++ wordText d.twinStatus)

/-- KIOSK_TWIN_SWITCH (R447, R503). -/
def execKioskTwinSwitch (s : State) : Host.Outcome State Fault Refusal :=
  s.act fun d => d.kiosk 1 fun d => d.keyedEffect 63 Reg.depTwinRole (d.rd Reg.depTwinRole ||| 4)

/-- KIOSK_SPARE (R503). -/
def execKioskSpare (s : State) : Host.Outcome State Fault Refusal :=
  s.act fun d => d.kiosk 0 fun d =>
    (List.range d.dep.mapUsed).foldl (fun d k =>
      d.say (hexText 2 k ++ wordsText [d.rd (Reg.depSpareMap + 8 * k), d.rd (Reg.depSpareMap + 8 * k + 4)])) d

/-- KIOSK_SPARE_SWAP (R450, R503). -/
def execKioskSpareSwap (kind : Fin 16) (unit : BitVec 24) (s : State) : Host.Outcome State Fault Refusal :=
  s.act fun d => d.kiosk 1 fun d => d.keyedEffect 63 Reg.depSpareCmd (BitVec.ofNat 32 (kind.val + 16 * unit.toNat + 2 ^ 28))

/-- KIOSK_LOG (R503). -/
def execKioskLog (s : State) : Host.Outcome State Fault Refusal :=
  s.act fun d => d.kiosk 0 fun d =>
    match d.elog.entries with
    | e :: _ => d.say (wordsText ((List.range 8).map (recWord e.bytes)))
    | [] => d.say "EMPTY"

/-- KIOSK_LOG_POP (R285, R503). -/
def execKioskLogPop (s : State) : Host.Outcome State Fault Refusal :=
  s.act fun d => d.kiosk 1 fun d =>
    match d.elog.entries with
    | e :: _ => d.elPop e.seq
    | [] => d

/-- KIOSK_RESTORE_FACTORY (R491). -/
def execKioskRestoreFactory (s : State) : Host.Outcome State Fault Refusal := s.act fun d => d.kiosk 1 fun d => d.eraseStart

/-- The line that shows a challenge: 16 hex digits in four groups, as in the session that R502 shows. -/
def challengeText (c : Nat) : String :=
  "challenge " ++ hexText 4 (c / 2 ^ 48) ++ " " ++ hexText 4 (c / 2 ^ 32) ++ " " ++ hexText 4 (c / 2 ^ 16) ++ " " ++ hexText 4 c

/-- KIOSK_UNLOCK (R502): a fresh challenge, a free value. -/
def execKioskUnlock (s : State) : Host.Outcome State Fault Refusal :=
  s.act fun d => d.kiosk 0 fun d =>
    if d.flag Reg.ldgStatus 8 then d.say "E LEVEL"
    else
      let c := (Config.freeWord d.fresh).toNat * 2 ^ 32 + (Config.freeWord (d.fresh + 1)).toNat
      ((d.tick.tick).onLdg fun l => { l with challenge := some c }).say (challengeText c)

/-- KIOSK_UNLOCK_RESPONSE (R502). -/
def execKioskUnlockResponse (r : BitVec 64) (s : State) : Host.Outcome State Fault Refusal :=
  s.act fun d => d.kiosk 0 fun d => d.kioskResponse r.toNat

/-- KIOSK_LOCK (R502). -/
def execKioskLock (s : State) : Host.Outcome State Fault Refusal := s.act fun d => d.kiosk 0 fun d => d.setFld Reg.ldgStatus 6 2 0

/-- KIOSK_REBOOT (R503): a warm reset. -/
def execKioskReboot (s : State) : Host.Outcome State Fault Refusal :=
  s.act fun d => d.kiosk (if d.ldg.recovery then 0 else 1) fun d => d.warmStart

/-- KIOSK_REBOOT_COLD (R464, R503): a power-on reset. -/
def execKioskRebootCold (peer : Bool) (s : State) : Host.Outcome State Fault Refusal :=
  s.act fun d => d.kiosk (if d.ldg.recovery then 0 else 1) fun d => d.resetAndStart .powerOn peer

/-- KIOSK_LOCKOUT_EXPIRY (R502). -/
def execKioskLockoutExpiry (s : State) : Host.Outcome State Fault Refusal := s.act fun d => d.setFld Reg.ldgStatus 8 1 0

/-- KIOSK_IDLE_TIMEOUT (R502). -/
def execKioskIdleTimeout (s : State) : Host.Outcome State Fault Refusal :=
  s.act fun d => if d.fld Reg.ldgStatus 6 2 = 1 then d.setFld Reg.ldgStatus 6 2 0 else d

end Sys2Proof.Machine
end

