-- ==== Sys2Proof/Machine/Dispatch.lean ====
section
/-!
DEFINITION. What each command does: one arm per constructor of Instr, each a direct call of the command's meaning.
-/
namespace Sys2Proof.Machine

/-- The effect of a command on everything but the queue of pending commands. -/
def exec (i : Instr) (s : State) : Host.Outcome State Fault Refusal :=
  match i with
  | .registerWrite who off v be => Sys2Proof.Machine.execRegisterWrite who off v be s
  | .setAliasWrite who off v => Sys2Proof.Machine.execSetAliasWrite who off v s
  | .clearAliasWrite who off v => Sys2Proof.Machine.execClearAliasWrite who off v s
  | .toggleAliasWrite who off v => Sys2Proof.Machine.execToggleAliasWrite who off v s
  | .maskedWrite who off v => Sys2Proof.Machine.execMaskedWrite who off v s
  | .keyedArm who off v => Sys2Proof.Machine.execKeyedArm who off v s
  | .keyedCommit who off v => Sys2Proof.Machine.execKeyedCommit who off v s
  | .keyedExpiry off => Sys2Proof.Machine.execKeyedExpiry off s
  | .rwsApply frame => Sys2Proof.Machine.execRwsApply frame s
  | .rw64LowWrite who off v => Sys2Proof.Machine.execRw64LowWrite who off v s
  | .rw64HighWrite who off v => Sys2Proof.Machine.execRw64HighWrite who off v s
  | .rw64FullWrite who off lo hi => Sys2Proof.Machine.execRw64FullWrite who off lo hi s
  | .cfgParityMismatch off v shadowOk => Sys2Proof.Machine.execCfgParityMismatch off v shadowOk s
  | .warmReset => Sys2Proof.Machine.execWarmReset s
  | .blockReset b => Sys2Proof.Machine.execBlockReset b s
  | .restoreFactory => Sys2Proof.Machine.execRestoreFactory s
  | .calEraseDone => Sys2Proof.Machine.execCalEraseDone s
  | .vtLoRead who => Sys2Proof.Machine.execVtLoRead who s
  | .hostMwr r data => Sys2Proof.Machine.execHostMwr r data s
  | .hostMrd r len => Sys2Proof.Machine.execHostMrd r len s
  | .hostFetchadd r len add => Sys2Proof.Machine.execHostFetchadd r len add s
  | .hostSwap r len new => Sys2Proof.Machine.execHostSwap r len new s
  | .hostCas r len compare new => Sys2Proof.Machine.execHostCas r len compare new s
  | .hostConfigRequest c => Sys2Proof.Machine.execHostConfigRequest c s
  | .hostIoRequest rid ptag write => Sys2Proof.Machine.execHostIoRequest rid ptag write s
  | .hostMessage vendorType1 => Sys2Proof.Machine.execHostMessage vendorType1 s
  | .hostBar4Access r len w => Sys2Proof.Machine.execHostBar4Access r len w s
  | .msixUnmask v => Sys2Proof.Machine.execMsixUnmask v s
  | .hostCompletionReturn tag => Sys2Proof.Machine.execHostCompletionReturn tag s
  | .inbWatchdogExpiry tag => Sys2Proof.Machine.execInbWatchdogExpiry tag s
  | .outboundWrite seq => Sys2Proof.Machine.execOutboundWrite seq s
  | .outboundReadIssue seq => Sys2Proof.Machine.execOutboundReadIssue seq s
  | .outboundCompletion ptag st data => Sys2Proof.Machine.execOutboundCompletion ptag st data s
  | .outboundCplTimeout ptag => Sys2Proof.Machine.execOutboundCplTimeout ptag s
  | .msixMessageSend => Sys2Proof.Machine.execMsixMessageSend s
  | .hostLinkLoss c => Sys2Proof.Machine.execHostLinkLoss c s
  | .functionLevelReset => Sys2Proof.Machine.execFunctionLevelReset s
  | .d3hotEntry => Sys2Proof.Machine.execD3hotEntry s
  | .hostLinkUp speed width => Sys2Proof.Machine.execHostLinkUp speed width s
  | .hpReconfig => Sys2Proof.Machine.execHpReconfig s
  | .linkRetrain speed width => Sys2Proof.Machine.execLinkRetrain speed width s
  | .windowDisable f n => Sys2Proof.Machine.execWindowDisable f n s
  | .orderBarrier src => Sys2Proof.Machine.execOrderBarrier src s
  | .completeBarrier src => Sys2Proof.Machine.execCompleteBarrier src s
  | .barrierDone seq => Sys2Proof.Machine.execBarrierDone seq s
  | .lwBarrierRead c => Sys2Proof.Machine.execLwBarrierRead c s
  | .hostSemClaim who sem => Sys2Proof.Machine.execHostSemClaim who sem s
  | .hostSemRelease who sem => Sys2Proof.Machine.execHostSemRelease who sem s
  | .hostSemGrant sem => Sys2Proof.Machine.execHostSemGrant sem s
  | .endpointRequest seq => Sys2Proof.Machine.execEndpointRequest seq s
  | .writePerformed seq => Sys2Proof.Machine.execWritePerformed seq s
  | .pwbEntryFree p => Sys2Proof.Machine.execPwbEntryFree p s
  | .cwbLineAgeExpiry p k => Sys2Proof.Machine.execCwbLineAgeExpiry p k s
  | .waitingReadRelease seq => Sys2Proof.Machine.execWaitingReadRelease seq s
  | .reservationExpiry agent ident => Sys2Proof.Machine.execReservationExpiry agent ident s
  | .prefetchExpiry k => Sys2Proof.Machine.execPrefetchExpiry k s
  | .zoneRequestArrive seq => Sys2Proof.Machine.execZoneRequestArrive seq s
  | .zoneRequestStart => Sys2Proof.Machine.execZoneRequestStart s
  | .zoneLockedRmw => Sys2Proof.Machine.execZoneLockedRmw s
  | .lbusCycleTermination t lad lpar => Sys2Proof.Machine.execLbusCycleTermination t lad lpar s
  | .retryReissue => Sys2Proof.Machine.execRetryReissue s
  | .zoneTimeout seq => Sys2Proof.Machine.execZoneTimeout seq s
  | .busRequest k => Sys2Proof.Machine.execBusRequest k s
  | .arbitration => Sys2Proof.Machine.execArbitration s
  | .extGrant low => Sys2Proof.Machine.execExtGrant low s
  | .guardWindowStart => Sys2Proof.Machine.execGuardWindowStart s
  | .busMonitorObserve master addr beN write burst t data => Sys2Proof.Machine.execBusMonitorObserve master addr beN write burst t data s
  | .slavePostedWrite c data => Sys2Proof.Machine.execSlavePostedWrite c data s
  | .slaveRead c => Sys2Proof.Machine.execSlaveRead c s
  | .slaveDelayedWrite c data => Sys2Proof.Machine.execSlaveDelayedWrite c data s
  | .slaveCondStore c data => Sys2Proof.Machine.execSlaveCondStore c data s
  | .slaveLockedCycle c w => Sys2Proof.Machine.execSlaveLockedCycle c w s
  | .slaveFlushCycle c => Sys2Proof.Machine.execSlaveFlushCycle c s
  | .lwBarrierWrite c data => Sys2Proof.Machine.execLwBarrierWrite c data s
  | .slaveSlotCollect c w => Sys2Proof.Machine.execSlaveSlotCollect c w s
  | .drCompletion slot => Sys2Proof.Machine.execDrCompletion slot s
  | .lholdExpiry => Sys2Proof.Machine.execLholdExpiry s
  | .drDiscardExpiry slot => Sys2Proof.Machine.execDrDiscardExpiry slot s
  | .lockRelease k => Sys2Proof.Machine.execLockRelease k s
  | .lockLimitExpiry k => Sys2Proof.Machine.execLockLimitExpiry k s
  | .lresetRelease => Sys2Proof.Machine.execLresetRelease s
  | .lclkLoss => Sys2Proof.Machine.execLclkLoss s
  | .lclkRecovery => Sys2Proof.Machine.execLclkRecovery s
  | .lirqSample k low => Sys2Proof.Machine.execLirqSample k low s
  | .lirqAccept k => Sys2Proof.Machine.execLirqAccept k s
  | .lirqEffect => Sys2Proof.Machine.execLirqEffect s
  | .lirqQueueRoom => Sys2Proof.Machine.execLirqQueueRoom s
  | .linkTrained n lock => Sys2Proof.Machine.execLinkTrained n lock s
  | .trainingRetry n => Sys2Proof.Machine.execTrainingRetry n s
  | .helloSend n => Sys2Proof.Machine.execHelloSend n s
  | .helloReceive n h => Sys2Proof.Machine.execHelloReceive n h s
  | .itmLinkRestart n => Sys2Proof.Machine.execItmLinkRestart n s
  | .flitCrcFail n => Sys2Proof.Machine.execFlitCrcFail n s
  | .replayNak n same => Sys2Proof.Machine.execReplayNak n same s
  | .replayTimeout n same => Sys2Proof.Machine.execReplayTimeout n same s
  | .retrainTimeout n => Sys2Proof.Machine.execRetrainTimeout n s
  | .laneFailure n phys => Sys2Proof.Machine.execLaneFailure n phys s
  | .laneSwap n k => Sys2Proof.Machine.execLaneSwap n k s
  | .laneSwapResend n mapSeen => Sys2Proof.Machine.execLaneSwapResend n mapSeen s
  | .role n twin => Sys2Proof.Machine.execRole n twin s
  | .retrainReq n => Sys2Proof.Machine.execRetrainReq n s
  | .itmMwr n x => Sys2Proof.Machine.execItmMwr n x s
  | .itmMwrNp n t => Sys2Proof.Machine.execItmMwrNp n t s
  | .itmMrd n t => Sys2Proof.Machine.execItmMrd n t s
  | .itmRsvLd n t => Sys2Proof.Machine.execItmRsvLd n t s
  | .itmCondSt n t => Sys2Proof.Machine.execItmCondSt n t s
  | .itmFetchadd n t => Sys2Proof.Machine.execItmFetchadd n t s
  | .itmSwap n t => Sys2Proof.Machine.execItmSwap n t s
  | .itmCas n t => Sys2Proof.Machine.execItmCas n t s
  | .itmWbar n t => Sys2Proof.Machine.execItmWbar n t s
  | .itmCompletion n t => Sys2Proof.Machine.execItmCompletion n t s
  | .itmReqTimeout tag => Sys2Proof.Machine.execItmReqTimeout tag s
  | .wbarTimeout n entry => Sys2Proof.Machine.execWbarTimeout n entry s
  | .intAssert n t => Sys2Proof.Machine.execIntAssert n t s
  | .intDeassert n t => Sys2Proof.Machine.execIntDeassert n t s
  | .faultNote n t => Sys2Proof.Machine.execFaultNote n t s
  | .itmFrame n t => Sys2Proof.Machine.execItmFrame n t s
  | .timeSyncSend n => Sys2Proof.Machine.execTimeSyncSend n s
  | .timeSync n seqid tx rate source steps gm => Sys2Proof.Machine.execTimeSync n seqid tx rate source steps gm s
  | .delayReqSend n => Sys2Proof.Machine.execDelayReqSend n s
  | .delayReq n seqid => Sys2Proof.Machine.execDelayReq n seqid s
  | .delayResp n seqid t2 t3 => Sys2Proof.Machine.execDelayResp n seqid t2 t3 s
  | .stateReg seq off v form => Sys2Proof.Machine.execStateReg seq off v form s
  | .stateMem seq a data => Sys2Proof.Machine.execStateMem seq a data s
  | .stateMirror seq path idx agent orig win ga data => Sys2Proof.Machine.execStateMirror seq path idx agent orig win ga data s
  | .stateStarted seq path idx => Sys2Proof.Machine.execStateStarted seq path idx s
  | .stateRetired seq path idx failure => Sys2Proof.Machine.execStateRetired seq path idx failure s
  | .stateExecuted seq slot n type => Sys2Proof.Machine.execStateExecuted seq slot n type s
  | .stateHeartbeat seq => Sys2Proof.Machine.execStateHeartbeat seq s
  | .stateBulk seq a data => Sys2Proof.Machine.execStateBulk seq a data s
  | .stateSyncDone seq => Sys2Proof.Machine.execStateSyncDone seq s
  | .counterMismatch second check => Sys2Proof.Machine.execCounterMismatch second check s
  | .sourceValid src => Sys2Proof.Machine.execSourceValid src s
  | .sourceInvalid src => Sys2Proof.Machine.execSourceInvalid src s
  | .revertHoldExpiry => Sys2Proof.Machine.execRevertHoldExpiry s
  | .holdoverLimit => Sys2Proof.Machine.execHoldoverLimit s
  | .ppsEdge pin => Sys2Proof.Machine.execPpsEdge pin s
  | .rateWrite v => Sys2Proof.Machine.execRateWrite v s
  | .slewWrite v => Sys2Proof.Machine.execSlewWrite v s
  | .vtStep abs force => Sys2Proof.Machine.execVtStep abs force s
  | .slotWrite slot w v be => Sys2Proof.Machine.execSlotWrite slot w v be s
  | .slotArm slot => Sys2Proof.Machine.execSlotArm slot s
  | .slotDisarm slot => Sys2Proof.Machine.execSlotDisarm slot s
  | .schedulerEnable => Sys2Proof.Machine.execSchedulerEnable s
  | .eventDispatch => Sys2Proof.Machine.execEventDispatch s
  | .triggerExecute => Sys2Proof.Machine.execTriggerExecute s
  | .pulseReturn pin => Sys2Proof.Machine.execPulseReturn pin s
  | .timedWriteExecute => Sys2Proof.Machine.execTimedWriteExecute s
  | .timedReadExecute => Sys2Proof.Machine.execTimedReadExecute s
  | .canReleaseExecute => Sys2Proof.Machine.execCanReleaseExecute s
  | .timedAccessComplete => Sys2Proof.Machine.execTimedAccessComplete s
  | .tioCapture pin falling => Sys2Proof.Machine.execTioCapture pin falling s
  | .resultPop => Sys2Proof.Machine.execResultPop s
  | .capturePop => Sys2Proof.Machine.execCapturePop s
  | .txtsPop => Sys2Proof.Machine.execTxtsPop s
  | .elPop seq => Sys2Proof.Machine.execElPop seq s
  | .intEoi v => Sys2Proof.Machine.execIntEoi v s
  | .intVectorWrite who node n v => Sys2Proof.Machine.execIntVectorWrite who node n v s
  | .resetDrainEnd peer => Sys2Proof.Machine.execResetDrainEnd peer s
  | .supplyCollapse => Sys2Proof.Machine.execSupplyCollapse s
  | .gzbPiWrite c v => Sys2Proof.Machine.execGzbPiWrite c v s
  | .gzbChannelCtl c v => Sys2Proof.Machine.execGzbChannelCtl c v s
  | .gzbRunStart => Sys2Proof.Machine.execGzbRunStart s
  | .gzbDescFetchDone tag => Sys2Proof.Machine.execGzbDescFetchDone tag s
  | .gzbReadCompletion tag => Sys2Proof.Machine.execGzbReadCompletion tag s
  | .gzbHandback c => Sys2Proof.Machine.execGzbHandback c s
  | .gzbHalt tag => Sys2Proof.Machine.execGzbHalt tag s
  | .gzbDrainDone => Sys2Proof.Machine.execGzbDrainDone s
  | .restartResume chans => Sys2Proof.Machine.execRestartResume chans s
  | .restartSkip chans => Sys2Proof.Machine.execRestartSkip chans s
  | .canFrameRx ch r x => Sys2Proof.Machine.execCanFrameRx ch r x s
  | .linFrameRx l id enhanced ok x => Sys2Proof.Machine.execLinFrameRx l id enhanced ok x s
  | .linHeaderRx l id => Sys2Proof.Machine.execLinHeaderRx l id s
  | .ethFrameRx mac fcsOk x => Sys2Proof.Machine.execEthFrameRx mac fcsOk x s
  | .trlLookup => Sys2Proof.Machine.execTrlLookup s
  | .lookupResult id => Sys2Proof.Machine.execLookupResult id s
  | .authVerify id => Sys2Proof.Machine.execAuthVerify id s
  | .authGenerate id => Sys2Proof.Machine.execAuthGenerate id s
  | .macsecRx mac => Sys2Proof.Machine.execMacsecRx mac s
  | .macsecTx x => Sys2Proof.Machine.execMacsecTx x s
  | .canEgress x ch => Sys2Proof.Machine.execCanEgress x ch s
  | .canTransmit ch => Sys2Proof.Machine.execCanTransmit ch s
  | .canTxDone ch => Sys2Proof.Machine.execCanTxDone ch s
  | .canBusOff ch => Sys2Proof.Machine.execCanBusOff ch s
  | .canBusRecovery ch => Sys2Proof.Machine.execCanBusRecovery ch s
  | .txload ch b => Sys2Proof.Machine.execTxload ch b s
  | .linEgress x l => Sys2Proof.Machine.execLinEgress x l s
  | .linScheduleEntry l => Sys2Proof.Machine.execLinScheduleEntry l s
  | .ethEgress x mac => Sys2Proof.Machine.execEthEgress x mac s
  | .ethTransmit mac => Sys2Proof.Machine.execEthTransmit mac s
  | .tasGateChange mac => Sys2Proof.Machine.execTasGateChange mac s
  | .tunnelEgress x t => Sys2Proof.Machine.execTunnelEgress x t s
  | .tunnelFlush t => Sys2Proof.Machine.execTunnelFlush t s
  | .captureRecordCommit r => Sys2Proof.Machine.execCaptureRecordCommit r s
  | .pduTriggeredSend n => Sys2Proof.Machine.execPduTriggeredSend n s
  | .pduCyclicSend n => Sys2Proof.Machine.execPduCyclicSend n s
  | .pduGapEnd n => Sys2Proof.Machine.execPduGapEnd n s
  | .agePromoteExpiry x => Sys2Proof.Machine.execAgePromoteExpiry x s
  | .seqLossTimeout x forced => Sys2Proof.Machine.execSeqLossTimeout x forced s
  | .planeDisable k frames reqs => Sys2Proof.Machine.execPlaneDisable k frames reqs s
  | .trlInsert => Sys2Proof.Machine.execTrlInsert s
  | .trlDelete => Sys2Proof.Machine.execTrlDelete s
  | .trlFind => Sys2Proof.Machine.execTrlFind s
  | .sweeperVisit => Sys2Proof.Machine.execSweeperVisit s
  | .parkRetry k => Sys2Proof.Machine.execParkRetry k s
  | .parkLockLimit k => Sys2Proof.Machine.execParkLockLimit k s
  | .tableSwitch who area => Sys2Proof.Machine.execTableSwitch who area s
  | .genAdvance => Sys2Proof.Machine.execGenAdvance s
  | .rehashPop => Sys2Proof.Machine.execRehashPop s
  | .keySlotLoad who slot => Sys2Proof.Machine.execKeySlotLoad who slot s
  | .keySlotErase who slot => Sys2Proof.Machine.execKeySlotErase who slot s
  | .keySlotExport who slot => Sys2Proof.Machine.execKeySlotExport who slot s
  | .keyOpDone => Sys2Proof.Machine.execKeyOpDone s
  | .failPop => Sys2Proof.Machine.execFailPop s
  | .canWup ch us stale => Sys2Proof.Machine.execCanWup ch us stale s
  | .canWakeFrame ch rate id ide rtr dlc data => Sys2Proof.Machine.execCanWakeFrame ch rate id ide rtr dlc data s
  | .linWake l us stale => Sys2Proof.Machine.execLinWake l us stale s
  | .phyWake mac high us stale => Sys2Proof.Machine.execPhyWake mac high us stale s
  | .wakePin k high us stale => Sys2Proof.Machine.execWakePin k high us stale s
  | .wakeTimer => Sys2Proof.Machine.execWakeTimer s
  | .itemStart => Sys2Proof.Machine.execItemStart s
  | .itemReady j peer => Sys2Proof.Machine.execItemReady j peer s
  | .standbyEntry who => Sys2Proof.Machine.execStandbyEntry who s
  | .sleepEntry who => Sys2Proof.Machine.execSleepEntry who s
  | .itemSwitchOff => Sys2Proof.Machine.execItemSwitchOff s
  | .evtPop => Sys2Proof.Machine.execEvtPop s
  | .xtalFail => Sys2Proof.Machine.execXtalFail s
  | .lockstepMismatch => Sys2Proof.Machine.execLockstepMismatch s
  | .clockOutOfRange out => Sys2Proof.Machine.execClockOutOfRange out s
  | .supplyOutOfRange out => Sys2Proof.Machine.execSupplyOutOfRange out s
  | .planeFault k => Sys2Proof.Machine.execPlaneFault k s
  | .arcadeHeartbeatMissing => Sys2Proof.Machine.execArcadeHeartbeatMissing s
  | .unitFault kind unit => Sys2Proof.Machine.execUnitFault kind unit s
  | .safeRestart peer => Sys2Proof.Machine.execSafeRestart peer s
  | .scrubVisit m w f => Sys2Proof.Machine.execScrubVisit m w f s
  | .swapIn kind unit => Sys2Proof.Machine.execSwapIn kind unit s
  | .notePop => Sys2Proof.Machine.execNotePop s
  | .twinPreferWait rose => Sys2Proof.Machine.execTwinPreferWait rose s
  | .twinDualActive same => Sys2Proof.Machine.execTwinDualActive same s
  | .twinTieRound rose => Sys2Proof.Machine.execTwinTieRound rose s
  | .takeover => Sys2Proof.Machine.execTakeover s
  | .stateStreamTimeout => Sys2Proof.Machine.execStateStreamTimeout s
  | .heartbeatSend => Sys2Proof.Machine.execHeartbeatSend s
  | .resyncStart => Sys2Proof.Machine.execResyncStart s
  | .mirrorAck seq => Sys2Proof.Machine.execMirrorAck seq s
  | .mirrorAckTimeout seq => Sys2Proof.Machine.execMirrorAckTimeout seq s
  | .plannedHandover => Sys2Proof.Machine.execPlannedHandover s
  | .alwaysOnPowerUp straps image => Sys2Proof.Machine.execAlwaysOnPowerUp straps image s
  | .powerOnReset peer => Sys2Proof.Machine.execPowerOnReset peer s
  | .dramTrainingDone fail peer => Sys2Proof.Machine.execDramTrainingDone fail peer s
  | .dramInitDone => Sys2Proof.Machine.execDramInitDone s
  | .dramDriftCheck beyond rate hot => Sys2Proof.Machine.execDramDriftCheck beyond rate hot s
  | .cfgReapply => Sys2Proof.Machine.execCfgReapply s
  | .flashRead fails => Sys2Proof.Machine.execFlashRead fails s
  | .flashWrite ext fails => Sys2Proof.Machine.execFlashWrite ext fails s
  | .slotState fails => Sys2Proof.Machine.execSlotState fails s
  | .keyLoad ext => Sys2Proof.Machine.execKeyLoad ext s
  | .keyProvision ext => Sys2Proof.Machine.execKeyProvision ext s
  | .devkeyPub => Sys2Proof.Machine.execDevkeyPub s
  | .calWrite ext fails => Sys2Proof.Machine.execCalWrite ext fails s
  | .sleep expired => Sys2Proof.Machine.execSleep expired s
  | .arcRestart => Sys2Proof.Machine.execArcRestart s
  | .kioskRd dev a n => Sys2Proof.Machine.execKioskRd dev a n s
  | .kioskDump dev a len => Sys2Proof.Machine.execKioskDump dev a len s
  | .kioskWr dev a v keyed => Sys2Proof.Machine.execKioskWr dev a v keyed s
  | .kioskWin w => Sys2Proof.Machine.execKioskWin w s
  | .kioskTab key => Sys2Proof.Machine.execKioskTab key s
  | .kioskTime => Sys2Proof.Machine.execKioskTime s
  | .kioskTwin => Sys2Proof.Machine.execKioskTwin s
  | .kioskTwinSwitch => Sys2Proof.Machine.execKioskTwinSwitch s
  | .kioskSpare => Sys2Proof.Machine.execKioskSpare s
  | .kioskSpareSwap kind unit => Sys2Proof.Machine.execKioskSpareSwap kind unit s
  | .kioskLog => Sys2Proof.Machine.execKioskLog s
  | .kioskLogPop => Sys2Proof.Machine.execKioskLogPop s
  | .kioskRestoreFactory => Sys2Proof.Machine.execKioskRestoreFactory s
  | .kioskUnlock => Sys2Proof.Machine.execKioskUnlock s
  | .kioskUnlockResponse r => Sys2Proof.Machine.execKioskUnlockResponse r s
  | .kioskLock => Sys2Proof.Machine.execKioskLock s
  | .kioskReboot => Sys2Proof.Machine.execKioskReboot s
  | .kioskRebootCold peer => Sys2Proof.Machine.execKioskRebootCold peer s
  | .kioskLockoutExpiry => Sys2Proof.Machine.execKioskLockoutExpiry s
  | .kioskIdleTimeout => Sys2Proof.Machine.execKioskIdleTimeout s
  | .ethLinkChange mac up otherSpeed => Sys2Proof.Machine.execEthLinkChange mac up otherSpeed s
  | .twinFailNChange low => Sys2Proof.Machine.execTwinFailNChange low s
  | .canBusError ch transmitting eight => Sys2Proof.Machine.execCanBusError ch transmitting eight s
  | .canBusIntegration ch => Sys2Proof.Machine.execCanBusIntegration ch s
  | .linDomStuck l stuck => Sys2Proof.Machine.execLinDomStuck l stuck s
  | .linNoResponse l => Sys2Proof.Machine.execLinNoResponse l s

end Sys2Proof.Machine
end

