-- ==== Sys2Proof/Machine/Step.lean ====
section
/-!
DEFINITION. One step of the block: it takes the command at the front of its queue; with no command waiting, time goes on by one TIME edge
(DESIGN CHOICE, log 60).
-/
namespace Sys2Proof.Machine

/-- The block with no command waiting: one TIME edge, about 1 ns (R239, R413). -/
def idle (s : State) : Host.Outcome State Fault Refusal := s.act fun d => d.timeEdge

/-- One step. -/
def step (s : State) : Host.Outcome State Fault Refusal :=
  match s.pending with
  | c :: rest => exec c { s with pending := rest }
  | [] => idle s

/-- The state with the command that a word spells put at the front of the queue; unchanged where the word spells none. -/
def State.withFetchWord (s : State) (nbits w : Nat) : State :=
  match decodeTableWord nbits w with
  | some c => { s with pending := c :: s.pending }
  | none => s

end Sys2Proof.Machine
end

