-- ==== Sys2Proof/Safety.lean ====
section
/-!
DEFINITION. What a sound state of the block is, in the terms the statements use.
-/
namespace Sys2Proof.Machine

/-- The memory of the device is in its canonical form: addresses strictly rising, no listed byte equal to what an unlisted one reads as. -/
abbrev Memory.wf (m : Sparse 8) : Bool := cellsWf m

/-- A sound device: its register file, its memory and its flash are in canonical form, its FIFOs hold no more records than the spec gives them
room for (the error log R282, the Wicket's events R416, the notes R457), and the Wicket powers 16 items (R417). -/
structure Dev.Sound (d : Dev) : Prop where
  regs : cellsWf d.regs = true
  mem : Memory.wf d.mem = true
  flash : cellsWf d.ldg.flash = true
  log : d.elog.entries.length ≤ 64
  events : d.wkt.events.length ≤ 32
  items : d.wkt.items.length = 16
  notes : d.dep.notes.length ≤ 64

/-- The invariant of the block. -/
def Inv (s : State) : Prop := s.dev.Sound

/-- What the statements about registers ask of a device: its register store is canonical, it has its 16 Gazebo channels and none of its
registers is damaged (R47). -/
def Dev.Steady (d : Dev) : Prop := cellsWf d.regs = true ∧ d.gzb.chans.length = 16 ∧ d.hub.damaged = []

/-- The device a command acts on: that of the state, with the outputs of the command before it gone. -/
def State.clear (s : State) : Dev := { s.dev with out := [] }

/-- A command answers a next state: the queue stands as it did, and the device it leaves meets `P`. -/
def After (c : Instr) (s : State) (P : Dev → Prop) : Prop := ∃ t : State, exec c s = .next t ∧ t.pending = s.pending ∧ P t.dev

/-- A command answers a next state, and its own effect meets `P`: the device it leaves is that effect with what follows a command at once
(`settle`: the fault manager, the state stream, the interrupt messages). -/
def Does (c : Instr) (s : State) (P : Dev → Prop) : Prop := ∃ d : Dev, exec c s = .next { s with dev := settle s.dev d } ∧ P d

end Sys2Proof.Machine
end

