-- ==== Sys2Proof/Certificates/Slice0/Obligations.lean ====
section
/-!
DEFINITION. The statements for the provers. Most speak of a command's own effect (`Does`) or of the state it leaves (`After`), see
Sys2Proof/Safety.lean. A statement over several groups of commands is the conjunction of its parts under `Claims`.
-/
namespace Sys2Proof.Machine

/-- Registers of the CORE domain that only hold what is written to them, of class RWA, with the bits a write reaches. -/
def coreHeld : List (Nat × Word) :=
  [(Reg.lbuSlvCfg, 0xFF7F), (Reg.pglClassRsv, 0xFFFFFFFF), (Reg.pglVoqMax, 0x1FFF), (Reg.pglPduBase, 0xFFFF), (Reg.trlAgePeriod, 0x1FFF),
   (Reg.trlLockLimit, 0xFFF), (Reg.trlLearnCfg, 0x0FFF3FFF), (Reg.gthCtl, 7), (Reg.gthGuardAck, 0xFFFFFFFF), (Reg.depWearCfg, 0x3FFFFF),
   (Reg.depScrubCfg, 0xFFFFFF), (Reg.depSafeCfg, 0xFFFF), (Reg.intSw, 0xFFFF)]

/-- Registers of class RWM that only hold what is written to them, with the bits a write reaches. -/
def maskedHeld : List (Nat × Word) :=
  [(Reg.gthMsCtl, 0xFFFF), (Reg.gzbChEvtAck, 0xFFFF), (Reg.pglCrRi, 0xFFFF), (Reg.pglOutWrr1, 0xFFF)] ++
    (List.range 8).map (fun k => (Reg.intLirqCfg + 4 * k, 0x1FF)) ++ (List.range 64).map (fun k => (Reg.intNodeMap + 4 * k, 0x1FF)) ++
    (List.range 16).map (fun k => (Reg.pglInCfg + 0x40 * k, 0xFF))

/-- Registers of the slow domains that only hold what is written to them, of class RWS, with the bits a write reaches. -/
def slowHeld : List (Nat × Word) :=
  [(Reg.hpInbTimeout, 0x3FF), (Reg.hpOutCtl, 0x1FF), (Reg.itmCtl, 0x3FF3F), (Reg.blvServoCfg, 0xFFFFFFF), (Reg.blvPpsCfg, 0x3FFFFFFF),
   (Reg.wktWcuBudget, 0xFFF), (Reg.wktTimer, 0xFFFFFFFF), (Reg.wktPinCfg, 0xFFFFFF), (Reg.dmcTrain, 0xFF1F)]

/-- The device differs from another in no register but `a`, and in no byte of memory. -/
def Dev.onlyReg (d o : Dev) (a : Nat) (v : Word) : Prop := d.rd a = v ∧ (∀ x, x ≠ a → d.rd x = o.rd x) ∧ d.mem = o.mem

/-- The device has the registers and the memory of another. -/
def Dev.sameStores (d o : Dev) : Prop := d.regs = o.regs ∧ d.mem = o.mem

/-- Neither header copy of the flash is valid (R475). -/
def Dev.noHeader (d : Dev) : Prop := d.headerOk 0 = false ∧ d.headerOk 0xF000 = false

/-- A register of one block has its power-on value, and every other register is as it was. -/
def Dev.blockFresh (d o : Dev) (b : Nat) : Prop := ∀ x, d.rd x = if blockOf x = b then Dev.reset.rd x else o.rd x

/-- Every request in flight with this acceptance number meets `P`. -/
def Dev.eachReq (d : Dev) (seq : Nat) (P : Req → Prop) : Prop := ∀ q ∈ d.fab.reqs, q.seq = seq → P q

/-- One failure of a type is counted in the error log's counter of that type (R284). -/
def Dev.oneMore (d o : Dev) (t : ErrType) : Prop := d.rd (Reg.intTypeCount + 4 * errCode t) = o.rd (Reg.intTypeCount + 4 * errCode t) + 1

/-- The Orangery is owner of a running bus and drives no request yet. -/
def Dev.busFree (d : Dev) : Prop := d.busRuns = true ∧ d.lbu.owner = .orangery ∧ d.lbu.job = none

/-- The address phase of a cycle of zone `n` (R115, R193, R195): the address of its first byte, the enables of its first beat, burst, direction
and lock. -/
def Dev.phaseOf (d : Dev) (n : Nat) (c : BusCycle) (b : Beat) (lock : Bool) : Emit :=
  .busAddr (b.bytes.headD 0) (beatBeN (d.winBig .lz n) (d.zoneW n) b.bytes)
    (if d.flag (Reg.lbuZoneCfg + 4 * n) 16 then lparOf (b.bytes.headD 0) else 0) (decide (1 < c.beats.length)) c.write lock n

/-- The cycle in progress of a job and its next beat. -/
def ZoneJob.atBeat (j : ZoneJob) (c : BusCycle) (rest : List BusCycle) (b : Beat) : Prop :=
  j.cycles = c :: rest ∧ (c.beats.drop j.beat).head? = some b

/-- An external master's new single-beat cycle reaches the Orangery and falls into long window `lw`: nothing refuses or retries it (R113, R129, R134),
it repeats no cycle that holds a slot (R131), and with LLOCK_N high it ends no locked sequence (R124). -/
def Dev.slaveHeard (d : Dev) (c : SlaveCycle) (lw : Nat) (write : Bool) : Prop :=
  d.slaveOn = true ∧ d.slaveGate c write = none ∧ c.beat = 0 ∧ c.beats = 1 ∧ d.winFind .lw c.addr.toNat = some lw ∧
    d.slaveBusy c.master.val lw = false ∧ (∀ x ∈ d.lbu.slots, x.master ≠ c.master.val ∨ x.addr ≠ c.addr) ∧
    (c.lock = false → d.lockOf c.master.val = none)

/-- A cycle as `slaveHeard`, in a window that is no BARRIER window (R81), and no loop (R66). -/
def Dev.slaveReady (d : Dev) (c : SlaveCycle) (lw : Nat) (write : Bool) : Prop :=
  d.slaveHeard c lw write ∧ (∀ a, d.lwLoop (d.winGa .lw lw a) = false) ∧ d.winBit .lw lw 13 = false

/-- A write cycle as `slaveReady`, with contiguous enables that are not all off (R196, R205). -/
def Dev.slaveWriteReady (d : Dev) (c : SlaveCycle) (lw : Nat) : Prop :=
  d.slaveReady c lw true ∧ beContiguous c.beN = true ∧ c.beN ≠ 15

/-- A new slave cycle finds a delayed-read slot and a TT entry, no semaphore slot is held, and its master has no request and no barrier outstanding
(R130). -/
def Dev.slotReady (d : Dev) (k : Fin 2) : Prop :=
  d.lholdZero = false ∧ d.freeSlot.isSome = true ∧ d.ttRoom 1 = true ∧ d.fab.semLocks = [] ∧ d.fab.semGranted = 0 ∧
    (∀ r ∈ d.fab.reqs ++ d.fab.held, r.agent ≠ 56 + k.val) ∧ d.barrierHolds (56 + k.val) = false

/-- A cycle is held with LWAIT_N on a slot it has taken, whose request waits for its far side (R130). -/
def Dev.heldOn (d : Dev) (c : SlaveCycle) (op : DrOp) : Prop :=
  .slave .hold ∈ d.out ∧ ∃ x ∈ d.lbu.slots, d.lbu.cyc = some (c.master.val, x.idx) ∧ x.master = c.master.val ∧ x.op = op ∧ x.addr = c.addr ∧
    x.beN = c.beN ∧ x.state = .waiting

/-- A command has no effect of its own on the device. -/
def Quiet (c : Instr) (s : State) : Prop := Does c s fun d => d = s.clear

/-- One register advances by one, and no other register and no byte of memory changes. -/
def Dev.counts (d o : Dev) (a : Nat) : Prop := d.onlyReg o a (o.rd a + 1)

/-- A CAN channel. -/
def Dev.canCh (d : Dev) (ch : Nat) : CanCh := d.can.getD ch {}

/-- A frame has entered the ingress path behind the others, with its key on the lookup bus. -/
def Dev.entered (d o : Dev) (P : InFrame → Prop) : Prop :=
  ∃ y k, d.frm.ins = o.frm.ins ++ [y] ∧ k.id = y.id ∧ k ∈ d.frm.keys ∧ P y

/-- The RESULT and the DONE state that TRL_CMD_STATUS shows of a command that has ended (R392). -/
def Dev.trlEnded (d : Dev) (result : Nat) : Prop := d.trl.cmd = none ∧ d.fld Reg.trlCmdStatus 0 2 = 1 ∧ d.fld Reg.trlCmdStatus 2 3 = result

/-- An event of a class has its record in the event FIFO, and outside RUN and an entry the class's plan is wanted. -/
def Dev.woke (d o : Dev) (cls idx : Nat) : Prop :=
  (∃ x, d.wkt.events = o.wkt.events ++ [x] ∧ x.take 6 = leBytes 6 (o.rd64 Reg.wktAonTime) ∧ x.getD 6 0 = BitVec.ofNat 8 cls ∧
    x.getD 7 0 = BitVec.ofNat 8 idx) ∧
  ((o.wkt.mode = .standby ∨ o.wkt.mode = .sleep) → ∀ j : Fin 16, o.flag (Reg.wktPlan + 4 * (cls - 1)) j = true → (o.item j).on = false →
    (d.item j).wanted = true) ∧ d.mem = o.mem

/-- A record of the state stream is in sequence: the device follows the stream, and the record is the one it expects next, or the stream's first. -/
def Dev.inSequence (d : Dev) (seq : Nat) : Prop :=
  (d.twin.state = .syncing ∨ d.twin.state = .standby) ∧ (d.twin.recvAny = false ∨ d.twin.recvSeq = seq % 65536)

/-- The twin unit after a record in sequence has been counted. -/
def Twin.next (t : Twin) (seq : Nat) : Twin := { t with recvAny := true, recvSeq := (seq + 1) % 65536 }

/-- The mailbox shows the end of its command with a RESULT. -/
def Dev.answered (d : Dev) (result : Nat) : Prop := d.ldg.mbx = none ∧ d.fld Reg.ldgMbxStatus 0 5 = 2 + 4 * result

/-- The Kiosk prints one line, and does nothing else. -/
def Dev.prints (d o : Dev) (line : String) : Prop := d = { o with out := [.text line] }

/-- The largest value of SIZE in a window family (R65). -/
def sizeLimit : WinFam → Nat
  | .iw | .ow => 24
  | .lw | .lz => 20

/-- The bits of LBU_CTL that hold a field (R143), and those of BUS_EN, PARK, PARK_OWNER, MASTER_EN and LSEL_EN (R141). -/
def lbuCtlBits : Word := 0x3FFF
def lbuRunBits : Word := 0x1F81

/-- Some registers whose reset value the spec's tables give: each with that value (R83, R110, R143, R186, R275, R299, R391, R362, R461, R471). -/
def resetTable : List (Nat × Word) :=
  [(Reg.hpLinkCtl, 0x1B), (Reg.lbuCtl, 0x30), (Reg.pglCtl, 3), (Reg.trlAgePeriod, 300), (Reg.trlCtrl, 0), (Reg.winBar0Req, 0), (Reg.intVector, 0),
   (Reg.gzbCtl, 0), (Reg.itmCtl, 0x3C00), (Reg.gthCtl, 0), (Reg.ldgStatus, 0), (Reg.sysKeyReject, 0)]

/-- Commands that may store to the device's memory: end-point accesses, the mailbox and key services, the Trellis's upkeep, records of the twin, the
cyclic PDUs, MACsec and CAN frames that rewrite table entries, and whatever resets the device or switches its memory off. -/
def storesMemory : Instr → Bool
  | .endpointRequest _ | .stateMem .. | .stateBulk .. | .stateReg .. | .busMonitorObserve .. | .hpReconfig .. | .dramTrainingDone .. | .rwsApply ..
  | .cfgReapply | .flashRead _ | .flashWrite .. | .slotState _ | .keyLoad _ | .keyProvision _ | .devkeyPub | .calWrite .. | .sleep _ | .arcRestart
  | .kioskRebootCold _ | .powerOnReset _ | .alwaysOnPowerUp .. | .supplyCollapse | .safeRestart _ | .resetDrainEnd _ | .itemReady .. | .itemSwitchOff
  | .trlInsert | .trlDelete | .trlLookup | .lookupResult _ | .parkRetry _ | .sweeperVisit .. | .authVerify _ | .authGenerate _ | .macsecRx _
  | .ethFrameRx .. | .pduTriggeredSend _ | .pduCyclicSend _ | .pduGapEnd _ => true
  | _ => false

end Sys2Proof.Machine

open Sys2Proof Sys2Proof.Machine

/-- The block's own rule of its queue: a step takes the command at the front and is that command on the state with the rest of the queue; with no
command waiting, time goes on by one edge (DESIGN CHOICE, log 60), which leaves the queue and the memory. -/
def Obligations.StepTakesTheFront : Prop :=
  ∀ (s : State) (c : Instr) (rest : List Instr),
    (s.pending = c :: rest → step s = exec c { s with pending := rest }) ∧
    (s.pending = [] → ∃ t, step s = .next t ∧ t.pending = [] ∧ t.dev.mem = s.dev.mem)

/-- Every command answers a next state, which leaves the queue as it stood; a command that stores nothing to memory leaves every byte of it. -/
def Obligations.CommandsAnswer : Prop :=
  ∀ (c : Instr) (s : State), ∃ t, exec c s = .next t ∧ t.pending = s.pending ∧
    (storesMemory c = false → ∀ a, t.dev.byteAt a = s.dev.byteAt a)

/-- The state after reset is sound: its register file and its memory are canonical, and its FIFOs hold no more than they have room for. -/
def Obligations.ResetIsSound : Prop := Inv State.reset

/-- Every step from a sound state leaves a sound state, whichever command is at the front of the queue. Sound: the register file, the memory and
the flash are in canonical form (the model's own, log 1), and the error log, the event FIFO and the note FIFO hold at most what they have room
for. -/
def Obligations.StepsKeepSound : Prop := ∀ (s t : State), Inv s → step s = .next t → Inv t

/-- After power-on reset the registers of `resetTable` hold the values the spec's tables give, the queue is empty and no byte of memory is listed
(the last two are the model's: DESIGN CHOICE, log 1). -/
def Obligations.ResetValues : Prop :=
  (∀ p ∈ resetTable, State.reset.dev.rd p.1 = p.2) ∧ State.reset.pending = [] ∧ State.reset.dev.mem = [] ∧ State.reset.dev.blv.vt = 0 ∧
    State.reset.dev.elog.entries = [] ∧ State.reset.dev.gth.slots = []

/-- R65: SIZE takes values 0–24 in IW and OW and 0–20 in LW and LZ; a write that would put a larger value into SIZE is ignored as a whole and
counted in SYS_ACCESS_REJECT. -/
def Obligations.WindowSizeLimits : Prop :=
  ∀ (s : State) (who : Requester) (f : WinFam) (n : Nat) (v : Word), Inv s → n < winCount f →
    s.dev.writeDenied who.val (winBase f n) v = none →
    (sizeLimit f < fieldOf v 1 5 → Does (.registerWrite who (winBase f n) v 15) s (fun d => d.counts s.dev Reg.sysAccessReject)) ∧
    (fieldOf v 1 5 ≤ sizeLimit f → s.dev.winEn f n = false → v.getLsbD 0 = false → v.getLsbD 10 = false →
      Does (.registerWrite who (winBase f n) v 15) s (fun d => d.fld (winBase f n) 1 5 = fieldOf v 1 5 ∧
        (∀ x, x ≠ winBase f n → d.rd x = s.dev.rd x) ∧ d.mem = s.dev.mem))

/-- R141: while BUS_EN = 1 only BUS_EN, PARK, PARK_OWNER, MASTER_EN and LSEL_EN of LBU_CTL change; a write that would change any other field is
ignored as a whole and counted in SYS_ACCESS_REJECT. -/
def Obligations.RunningBusSettings : Prop :=
  ∀ (s : State) (who : Requester) (v : Word), Inv s → s.dev.flag Reg.lbuCtl 0 = true → s.dev.writeDenied who.val Reg.lbuCtl v = none →
    ((s.dev.rd Reg.lbuCtl ^^^ v) &&& lbuCtlBits &&& ~~~lbuRunBits ≠ 0 → Does (.registerWrite who Reg.lbuCtl v 15) s (fun d =>
      d.counts s.dev Reg.sysAccessReject ∧ d.lbu = s.dev.lbu)) ∧
    ((s.dev.rd Reg.lbuCtl ^^^ v) &&& lbuCtlBits &&& ~~~lbuRunBits = 0 → Does (.registerWrite who Reg.lbuCtl v 15) s (fun d =>
      d.onlyReg s.dev Reg.lbuCtl ((s.dev.rd Reg.lbuCtl &&& ~~~lbuRunBits) ||| (v &&& lbuRunBits)) ∧
      (v.getLsbD 0 = true → d.lbu = s.dev.lbu)))

/-- R14: a cell's age is (VT[39:0] − TS) modulo 2^40 ns, and an age of 2^39 ns or more exceeds every age limit. -/
def Obligations.CellAges : Prop :=
  ∀ (d : Dev) (ts limit : Nat), ts < 2 ^ 40 → limit ≠ 0 → limit < 2 ^ 39 →
    d.age ts < 2 ^ 40 ∧ ((d.age ts : Int) = ((d.blv.vt % 2 ^ 40 : Nat) - (ts : Int)) % 2 ^ 40) ∧
    (d.tooOld ts limit = true ↔ limit < d.age ts ∨ 2 ^ 39 ≤ d.age ts)

/-- R64: where several enabled windows of one family, or several enabled zones, match an address, the lowest-numbered one applies. -/
def Obligations.LowestWindowApplies : Prop :=
  ∀ (d : Dev) (f : WinFam) (a n : Nat),
    (d.winFind f a = some n ↔ n < winCount f ∧ d.winMatches f n a = true ∧ ∀ m, m < n → d.winMatches f m a = false) ∧
    (d.winMatches f n a = true → d.winEn f n = true)

/-- R37, R38: a write of a plain register of class RWA sets the bits its mask names; at the SET, CLEAR and TOGGLE alias it sets, clears and
inverts the bits that are 1 in the value written. No other register and no byte of memory changes. -/
def Sys2Proof.Claims.PlainAndAliasWrites : Prop :=
  ∀ (s : State) (who : Requester) (p : Nat × Word) (v : Word), p ∈ coreHeld → Inv s →
    (s.dev.writeDenied who.val p.1 v = none → Does (.registerWrite who p.1 v 15) s (fun d => d.onlyReg s.dev p.1
      ((s.dev.rd p.1 &&& ~~~p.2) ||| (v &&& p.2)))) ∧
    (s.dev.writeDenied who.val (p.1 + 0x10000) v = none → Does (.setAliasWrite who p.1 v) s (fun d => d.onlyReg s.dev p.1
      (s.dev.rd p.1 ||| (v &&& p.2)))) ∧
    (s.dev.writeDenied who.val (p.1 + 0x20000) v = none → Does (.clearAliasWrite who p.1 v) s (fun d => d.onlyReg s.dev p.1
      (s.dev.rd p.1 &&& ~~~(v &&& p.2)))) ∧
    (s.dev.writeDenied who.val (p.1 + 0x30000) v = none → Does (.toggleAliasWrite who p.1 v) s (fun d => d.onlyReg s.dev p.1
      (s.dev.rd p.1 ^^^ (v &&& p.2))))

/-- R39, R41: a masked write changes the bits that the upper half of its value selects, and no others. A write of a register of a slow domain is
held in flight while its frame is free, and otherwise dropped and counted in the frame's own counter; when the slow domain applies it, the bits of
the register's mask take the value. -/
def Sys2Proof.Claims.MaskedAndSlowWrites : Prop :=
  ∀ (s : State) (who : Requester) (v : Word), Inv s →
    (∀ p ∈ maskedHeld, s.dev.writeDenied who.val p.1 v = none → Does (.maskedWrite who p.1 v) s (fun d =>
      d.onlyReg s.dev p.1 (d.rd p.1) ∧
      ∀ i : Fin 16, (d.rd p.1).getLsbD i = if v.getLsbD (16 + i) && p.2.getLsbD i then v.getLsbD i else (s.dev.rd p.1).getLsbD i)) ∧
    (∀ p ∈ slowHeld, s.dev.writeDenied who.val p.1 v = none → Does (.registerWrite who p.1 v 15) s (fun d =>
      if s.dev.hub.rws.any (fun x => x.frame == frameOf p.1) then
        d.onlyReg s.dev (frameOf p.1 * 0x10000 + 0xFFF4) (s.dev.rd (frameOf p.1 * 0x10000 + 0xFFF4) + 1) ∧ d.hub = s.dev.hub
      else d.sameStores s.dev ∧ d.hub.rws = s.dev.hub.rws ++ [{ frame := frameOf p.1, off := p.1, val := v, who := who.val }])) ∧
    (∀ p ∈ slowHeld, ∀ x : RwsWrite, (s.dev.hub.rws.find? fun y => y.frame == frameOf p.1) = some x → x.off = p.1 →
      Does (.rwsApply (frameOf p.1)) s (fun d => d.onlyReg s.dev p.1 ((s.dev.rd p.1 &&& ~~~p.2) ||| (x.val &&& p.2)) ∧
        d.hub.rws = s.dev.hub.rws.filter fun y => y.frame != frameOf p.1))

/-- Writes of plain, aliased, masked and slow registers leave the values their classes give and nothing else. -/
def Obligations.RegisterClasses : Prop := Sys2Proof.Claims.PlainAndAliasWrites ∧ Sys2Proof.Claims.MaskedAndSlowWrites

/-- R40: a write of a keyed register arms an attempt and replaces, and counts, one that is armed; a companion write of the complement by the
requester that armed it commits the value, here of DEP_FAULT_ACT, whose fixed fields stay (R461); any other companion write, and the expiry,
discard the attempt and count it. -/
def Sys2Proof.Claims.KeyedWrites : Prop :=
  ∀ (s : State) (who : Requester) (v : Word), Inv s →
    (s.dev.writeDenied who.val Reg.depFaultAct v = none → Does (.keyedArm who Reg.depFaultAct v) s (fun d =>
      d.hub.armed = (s.dev.hub.armed.filter fun a => a.off != Reg.depFaultAct) ++ [{ off := Reg.depFaultAct, who := who.val, val := v }] ∧
      d.onlyReg s.dev Reg.sysKeyReject (s.dev.rd Reg.sysKeyReject +
        if s.dev.hub.armed.any (fun a => a.off == Reg.depFaultAct) then 1 else 0))) ∧
    (∀ x : Word, s.dev.commits who.val Reg.depFaultAct v = some x → s.dev.writeDenied who.val (Reg.depFaultAct + 4) v = none →
      Does (.keyedCommit who Reg.depFaultAct v) s (fun d =>
        d.onlyReg s.dev Reg.depFaultAct ((x &&& ~~~fixedActs) ||| (s.dev.rd Reg.depFaultAct &&& fixedActs)) ∧
        d.hub.armed = s.dev.hub.armed.filter fun a => a.off != Reg.depFaultAct)) ∧
    (s.dev.commits who.val Reg.depFaultAct v = none → s.dev.writeDenied who.val (Reg.depFaultAct + 4) v = none →
      Does (.keyedCommit who Reg.depFaultAct v) s (fun d =>
        d.onlyReg s.dev Reg.sysKeyReject (s.dev.rd Reg.sysKeyReject + 1) ∧
        d.hub.armed = s.dev.hub.armed.filter fun a => a.off != Reg.depFaultAct)) ∧
    ∀ off : Nat, (s.dev.hub.armed.any fun a => a.off == off) = true → Does (.keyedExpiry off) s (fun d =>
      d.onlyReg s.dev Reg.sysKeyReject (s.dev.rd Reg.sysKeyReject + 1) ∧ d.hub.armed = s.dev.hub.armed.filter fun a => a.off != off)

/-- R42: the low word of a 64-bit value is held with its writer's number; the high word commits both, with the low word that its writer holds or
else the current one; an aligned 64-bit write commits both at once. Shown of GTH_MSn_TX_SCI. -/
def Sys2Proof.Claims.WideWrites : Prop :=
  ∀ (s : State) (who : Requester) (n : Fin 14) (lo hi : Word), Inv s →
    let off := Reg.gthMsTxSci + 0x40 * n.val
    (s.dev.writeDenied who.val off lo = none → Does (.rw64LowWrite who off lo) s (fun d =>
      { off := off, who := who.val, low := lo } ∈ d.hub.held64 ∧ d.mem = s.dev.mem ∧ d.rd off = s.dev.rd off ∧
      (∀ h ∈ d.hub.held64, h.off = off → h.who = who.val))) ∧
    (s.dev.writeDenied who.val (off + 4) hi = none → Does (.rw64HighWrite who off hi) s (fun d =>
      d.rd (off + 4) = hi ∧
      d.rd off = (match s.dev.hub.held64.find? fun h => h.off == off && h.who == who.val with | some h => h.low | none => s.dev.rd off) ∧
      (∀ x, x ≠ off → x ≠ off + 4 → d.rd x = s.dev.rd x) ∧ d.mem = s.dev.mem)) ∧
    (s.dev.writeDenied who.val off lo = none → Does (.rw64FullWrite who off lo hi) s (fun d =>
      d.rd off = lo ∧ d.rd (off + 4) = hi ∧ (∀ x, x ≠ off → x ≠ off + 4 → d.rd x = s.dev.rd x) ∧ d.mem = s.dev.mem))

/-- Keyed pairs commit or are counted, and 64-bit values are written whole. -/
def Obligations.PairedWrites : Prop := Sys2Proof.Claims.KeyedWrites ∧ Sys2Proof.Claims.WideWrites

/-- R47, R242, R491: a configuration register whose parity fails holds its damaged value beside its shadow copy, and PARITY is counted; a read of
BLV_VT_LO returns the low word of VT and latches the fraction for its reader; restore-factory erases both user calibration copies. -/
def Obligations.HubEvents : Prop :=
  ∀ (s : State) (who : Requester) (v : Word) (ok : Bool), Inv s →
    (∀ p ∈ coreHeld, (s.dev.hub.damaged.any fun x => x.off == p.1) = false → Does (.cfgParityMismatch p.1 v ok) s (fun d =>
      d.rd p.1 = v ∧ d.hub.damaged = s.dev.hub.damaged ++ [{ off := p.1, shadow := s.dev.rd p.1, ok := ok }] ∧
      d.rd (Reg.intTypeCount + 4 * errCode .parity) = s.dev.rd (Reg.intTypeCount + 4 * errCode .parity) + 1 ∧ d.mem = s.dev.mem)) ∧
    After (.vtLoRead who) s (fun d => .word (BitVec.ofNat 32 s.dev.blv.vt) ∈ d.out ∧
      (d.hub.vtFrac.find? fun x => x.1 == who.val) = some (who.val, s.dev.blv.acc / 2 ^ 32) ∧ d.mem = s.dev.mem) ∧
    (s.dev.ldg.mbx = none → After .restoreFactory s (fun d => d.ldg.erasing = true ∧ d.ldg.flash = s.dev.ldg.flash)) ∧
    (s.dev.ldg.erasing = true → After .calEraseDone s (fun d => d.ldg.erasing = false ∧
      ∀ a, cellGet d.ldg.flash a = if 0x10000 ≤ a ∧ a < 0x18000 then 0 else cellGet s.dev.ldg.flash a))

/-- R464, R467, R475, R483: what a reset of the whole device keeps. With the always-on power nothing is kept but the flash and the straps; a
power-on reset empties the memory, and where no header copy is valid it ends in recovery; a supply collapse leaves its record; a restart out of
the safe state keeps DEP_TWIN_LOST, and none happens where RESTART_MS is 0. -/
def Obligations.DeviceResets : Prop :=
  ∀ (s : State) (straps : Fin 4) (peer : Bool), Inv s →
    Does (.alwaysOnPowerUp straps []) s (fun d => d.regs = Dev.reset.regs ∧ d.mem = [] ∧ d.ldg.straps = straps.val ∧ d.blv.vt = 0 ∧
      d.ldg.flash = s.dev.ldg.flash ∧ (d.wkt.items.all fun i => !i.on && i.wanted) = true) ∧
    (s.dev.lodgeReady = true → s.dev.noHeader → Does (.powerOnReset peer) s (fun d => d.mem = [] ∧ d.ldg.recovery = true ∧
      d.fld Reg.ldgStatus 0 3 = 6 ∧ d.flag Reg.hpLinkCtl 5 = true ∧ d.twin.state = .none ∧ d.ldg.flash = s.dev.ldg.flash)) ∧
    (s.dev.lodgeReady = false → Does (.powerOnReset peer) s (fun d => d.mem = [] ∧ d.blv.vt = 0 ∧ d.ldg.flash = s.dev.ldg.flash ∧
      ∀ x, blockOf x ≠ 12 → x ≠ Reg.intBrownoutLost → d.rd x = Dev.reset.rd x)) ∧
    Does .supplyCollapse s (fun d => d.mem = [] ∧ d.blv.vt = 0 ∧ d.ldg.flash = s.dev.ldg.flash ∧
      d.ldg.brownout = some (min 65535 (((drainPaths true).map s.dev.pwbUsed).sum + s.dev.fab.cwb.length))) ∧
    (s.dev.fld Reg.depSafeCfg 0 16 = 0 → Does (.safeRestart peer) s (fun d => d = s.clear)) ∧
    (s.dev.dep.safe = true → s.dev.fld Reg.depSafeCfg 0 16 ≠ 0 → s.dev.noHeader → Does (.safeRestart peer) s (fun d =>
      d.dep.safe = false ∧ d.mem = [] ∧ d.rd Reg.depTwinLost = s.dev.rd Reg.depTwinLost ∧ d.ldg.flash = s.dev.ldg.flash))

/-- R52, R290, R464–R466: a warm reset and a reset of the LBU block begin with a drain, in which no request is accepted; a reset of PGL, TRL, GTH
or DMC gives the block's registers their power-on values and leaves every other register and all memory; a block that may not be reset is refused
and counted. The end of the drain resets the LBU block, or the device, whose VT goes on. -/
def Obligations.BlockResets : Prop :=
  ∀ (s : State) (b : Fin 32) (peer : Bool), Inv s →
    (s.dev.ldg.warm = false → After .warmReset s (fun d => d.ldg.warm = true ∧ d.lbu.draining = true ∧ d.blv.vt = s.dev.blv.vt)) ∧
    (b.val ∈ [5, 6, 7, 15] → Does (.blockReset b) s (fun d => d.blockFresh s.dev b.val ∧ d.mem = s.dev.mem)) ∧
    (b.val ∈ [0, 12, 13] ∨ 16 ≤ b.val → Does (.blockReset b) s (fun d =>
      d.onlyReg s.dev Reg.sysAccessReject (s.dev.rd Reg.sysAccessReject + 1))) ∧
    (b.val = 2 → s.dev.ldg.warm = false → 2 ∉ s.dev.ldg.resetBlocks → After (.blockReset b) s (fun d =>
      2 ∈ d.ldg.resetBlocks ∧ d.lbu.draining = true)) ∧
    (s.dev.ldg.warm = false → 2 ∈ s.dev.ldg.resetBlocks → After (.resetDrainEnd peer) s (fun d =>
      2 ∉ d.ldg.resetBlocks ∧ d.lbu.draining = false)) ∧
    (s.dev.ldg.warm = true → s.dev.noHeader → After (.resetDrainEnd peer) s (fun d =>
      d.ldg.warm = false ∧ d.lbu.draining = false ∧ d.ldg.recovery = true ∧ d.blv.vt = s.dev.blv.vt))

/-- R108, R467, R469, R472: the outcome of DRAM training stands in DMC_STATUS, and start-up goes on, here to the factory defaults where no slot
supplies a configuration; the end of the initialisation clears LDG_STATUS.DRAM_INIT; a drift check is counted and shows the DRAM's rate field, and
drift beyond the range sets PHY_ERR; after the host's reset the configuration is done again. -/
def Obligations.DramAndStartUp : Prop :=
  ∀ (s : State) (fail : Fin 6) (peer beyond : Bool) (rate : Byte) (hot : Nat), Inv s →
    (∀ b, s.dev.ldg.boot = some b → (∀ k, s.dev.configCode b.hdr k ≠ 0) → Does (.dramTrainingDone fail peer) s (fun d =>
      d.ldg.boot = none ∧ d.flag Reg.sysBootStatus 0 = true ∧ d.flag Reg.hpLinkCtl 5 = true ∧
      (fail.val ≠ 0 → s.dev.flag Reg.dmcTrain (fail.val - 1) = true → d.fld Reg.dmcStatus 4 4 = fail.val ∧ d.rd Reg.winDramSize = 0) ∧
      ((fail.val = 0 ∨ s.dev.flag Reg.dmcTrain (fail.val - 1) = false) → d.flag Reg.dmcStatus 0 = true ∧ d.fld Reg.dmcStatus 4 4 = 0))) ∧
    Does .dramInitDone s (fun d => d.fld Reg.ldgStatus 9 1 = 0 ∧ (∀ i, i < 32 → i ≠ 9 → d.flag Reg.ldgStatus i = s.dev.flag Reg.ldgStatus i) ∧
      d.onlyReg s.dev Reg.ldgStatus (d.rd Reg.ldgStatus)) ∧
    (s.dev.flag Reg.dmcStatus 0 = true → Does (.dramDriftCheck beyond rate hot) s (fun d =>
      d.rd Reg.dmcDriftChecks = s.dev.rd Reg.dmcDriftChecks + 1 ∧ d.rd Reg.dmcRefreshHot = s.dev.rd Reg.dmcRefreshHot + BitVec.ofNat 32 hot ∧
      d.fld Reg.dmcStatus 8 8 = rate.toNat ∧ (beyond = true → d.flag Reg.dmcStatus 2 = true ∧ d.dep.dramPhy = true) ∧ d.mem = s.dev.mem)) ∧
    (s.dev.hp.reconfig = true → s.dev.hp.perst = false → Does .hpReconfig s (fun d =>
      d.flag Reg.hpLinkCtl 5 = true ∧ d.hp.reconfig = false ∧
      ((∀ r ∈ (configOf s.dev.ldg.config).getD [], r.block ≠ 1) → d.mem = s.dev.mem ∧ ∀ x, x ≠ Reg.hpLinkCtl → d.rd x = s.dev.rd x)))

/-- R94, R95: a memory write or read through BAR 0 of a function in D0 becomes a request of the requester in WIN_BAR0_REQ, at the device's own
register space, and is given to the request fabric; a write first discards prefetched copies of the bytes it writes. -/
def Sys2Proof.Claims.BarZeroRequests : Prop :=
  ∀ (s : State) (r : HostReq) (len : Nat) (data : WData), r.bar = .bar0 → s.dev.hp.d3hot = false →
    Does (.hostMrd r len) s (fun d => d = s.clear.issue
      { seq := 0, agent := s.dev.fld Reg.winBar0Req 0 5, ident := r.rid.toNat, orig := s.dev.devid, ing := .bar0, op := .read, posted := false,
        ga := s.dev.devid * 2 ^ 38 + r.off, len := len, otag := r.ptag, ts := s.dev.stamp }) ∧
    (r.ep = false → s.dev.silent = false → s.dev.standbyRefuses .bar0 r.off true = false →
      Does (.hostMwr r data) s (fun d =>
        d = (s.clear.prefWrite none (s.dev.devid * 2 ^ 38 + r.off) data.length).issue
          { seq := 0, agent := s.dev.fld Reg.winBar0Req 0 5, ident := r.rid.toNat, orig := s.dev.devid, ing := .bar0, op := .write,
            posted := true, ga := s.dev.devid * 2 ^ 38 + r.off, len := data.length, data := data, otag := r.ptag, ts := s.dev.stamp }))

/-- R92, R106, R107: before configuration is done a configuration request is answered with Configuration Request Retry Status; after it the
identity reads as the spec gives it and the controls the device acts on are set. -/
def Sys2Proof.Claims.ConfigurationRequests : Prop :=
  ∀ (s : State) (c : CfgReq) (on fm : Bool),
    (s.dev.flag Reg.hpLinkCtl 5 = false → After (.hostConfigRequest c) s (fun d => .cfgCrs ∈ d.out ∧ d.hp.bme = s.dev.hp.bme)) ∧
    (s.dev.flag Reg.hpLinkCtl 5 = true →
      After (.hostConfigRequest .readId) s (fun d => .cfgAnswer 0x96401F4C ∈ d.out) ∧
      After (.hostConfigRequest .readRevClass) s (fun d => .cfgAnswer 0x068000B0 ∈ d.out) ∧
      After (.hostConfigRequest .readSubsys) s (fun d => .cfgAnswer (s.dev.rd Reg.hpSubsys) ∈ d.out) ∧
      After (.hostConfigRequest (.writeBme on)) s (fun d => d.hp.bme = on ∧ d.mem = s.dev.mem) ∧
      After (.hostConfigRequest (.writeMsix on fm)) s (fun d => d.hp.msixEn = on ∧ d.hp.msixFmask = fm ∧ d.mem = s.dev.mem))

/-- Host accesses through BAR 0 and configuration requests. -/
def Obligations.HostRegisterRequests : Prop := Sys2Proof.Claims.BarZeroRequests ∧ Sys2Proof.Claims.ConfigurationRequests

/-- R96, R100, R110: an I/O request ends with Unsupported Request, counted; a Vendor-Defined or other message changes nothing; a completion that
matches no open request is discarded and counted. -/
def Sys2Proof.Claims.HostRequestsWithoutTarget : Prop :=
  ∀ (s : State) (rid : BitVec 16) (ptag tag : Nat) (write k : Bool), s.dev.Steady →
    After (.hostIoRequest rid ptag write) s (fun d => .hostCpl rid.toNat ptag .unsupported 0 0 [] ∈ d.out ∧
      d.rd Reg.hpUrCount = s.dev.rd Reg.hpUrCount + 1 ∧ d.rd Reg.winDecodeMiss = s.dev.rd Reg.winDecodeMiss + 1) ∧
    Does (.hostMessage k) s (fun d => d = s.clear) ∧
    (s.dev.hostReq? tag = none → After (.hostCompletionReturn tag) s (fun d => d.rd Reg.hpLateCpl = s.dev.rd Reg.hpLateCpl + 1))

/-- R107, R108, R110: the link comes up with the speed and width that HP_LINK_CTL allows, retrains to them, and when it is lost its state, speed
and width are gone; a function-level reset and D3hot leave no posted write or message waiting toward the host. -/
def Sys2Proof.Claims.HostLinkEvents : Prop :=
  ∀ (s : State) (c : LinkLossCause) (speed width : Nat),
    (s.dev.flag Reg.hpLinkCtl 4 = true → After (.hostLinkUp speed width) s (fun d => d.hp.linkUp = true ∧ d.hp.perst = false ∧
      d.hp.speed = min (max speed 1) (s.dev.fld Reg.hpLinkCtl 0 2 + 1) ∧ d.hp.width ≤ 4)) ∧
    (s.dev.hp.linkUp = true → After (.linkRetrain speed width) s (fun d => d.hp.linkUp = true ∧
      d.hp.speed = min (max speed 1) (s.dev.fld Reg.hpLinkCtl 0 2 + 1) ∧ d.mem = s.dev.mem)) ∧
    After (.hostLinkLoss c) s (fun d => d.hp.linkUp = false ∧ d.hp.speed = 0 ∧ d.hp.width = 0) ∧
    After .functionLevelReset s (fun d => d.hp.flushes = []) ∧
    Does .functionLevelReset s (fun d => d.hp.msgs = []) ∧
    Does .d3hotEntry s (fun d => d.hp.msgs = [] ∧ d.hp.flushes = [])

/-- Host requests that reach no target, and the events of the host link. -/
def Obligations.HostPortEvents : Prop := Sys2Proof.Claims.HostRequestsWithoutTarget ∧ Sys2Proof.Claims.HostLinkEvents

/-- R61, R106: BAR 4 holds the MSI-X table: a write sets its word, a read returns it, and unmasking a vector clears its mask bit. -/
def Sys2Proof.Claims.MsixTable : Prop :=
  ∀ (s : State) (r : HostReq) (i : Fin 64) (w : Fin 2) (v : Word) (x : Fin 64), s.dev.hp.d3hot = false →
    (r.off = 16 * i.val + 4 * (1 + w.val) →
      After (.hostBar4Access r 4 (some ((leBytes 4 v.toNat).map some))) s (fun d =>
        d.hp.msix = cellSet s.dev.hp.msix (r.off / 4) v ∧ d.hp.msixMask = s.dev.hp.msixMask ∧ d.mem = s.dev.mem) ∧
      After (.hostBar4Access r 4 none) s (fun d =>
        0 < s.dev.hp.mps → r.off % s.dev.hp.mps + 4 ≤ s.dev.hp.mps →
          .hostCpl r.rid.toNat r.ptag .success 4 (r.off % 128) (leBytes 4 (cellGet s.dev.hp.msix (r.off / 4)).toNat) ∈ d.out)) ∧
    After (.msixUnmask (some x)) s (fun d => d.hp.msixMask = s.dev.hp.msixMask &&& ~~~(1#64 <<< x.val)) ∧
    After (.msixUnmask none) s (fun d => d.hp.msixFmask = false ∧ d.hp.msixMask = s.dev.hp.msixMask)

/-- R106: the oldest interrupt message cell leaves the queue: it is sent with the address and data of its vector's table entry, held as a pending
bit while the vector is masked, or dropped and counted while messages may not leave. -/
def Sys2Proof.Claims.InterruptMessageCells : Prop :=
  ∀ (s : State) (v : Nat) (rest : List Nat), s.dev.Steady → s.dev.hp.msgs = v :: rest →
    Does .msixMessageSend s (fun d => d.hp.msgs = rest ∧
      (s.dev.msixOpen = false → d.rd Reg.hpMsixDrop = s.dev.rd Reg.hpMsixDrop + 1 ∧ d.hp.pending = s.dev.hp.pending ∧ d.out = []) ∧
      (s.dev.msixOpen = true → s.dev.vecMasked v = true → d.hp.pending = s.dev.hp.pending ||| (1#64 <<< v) ∧ d.out = []) ∧
      (s.dev.msixOpen = true → s.dev.vecMasked v = false →
        d.out = [.msix v (cellGet s.dev.hp.msix (4 * v + 1)) (cellGet s.dev.hp.msix (4 * v)) (cellGet s.dev.hp.msix (4 * v + 2))]))

/-- The MSI-X table and the interrupt message cells. -/
def Obligations.InterruptMessages : Prop := Sys2Proof.Claims.MsixTable ∧ Sys2Proof.Claims.InterruptMessageCells

/-- R96, R97, R99: an AtomicOp through inbound window `n`, naturally aligned with a 4- or 8-byte operand outside the register space, becomes one
request of requester IW`n` with the operation and its operands. -/
def Obligations.WindowAtomics : Prop :=
  ∀ (s : State) (r : HostReq) (n len : Nat) (x y : List Byte), Inv s → r.bar = .bar2 → r.ep = false → s.dev.hp.d3hot = false →
    s.dev.silent = false → s.dev.standby = false → s.dev.winFind .iw r.off = some n → (len = 4 ∨ len = 8) → x.length = len → y.length = len →
    s.dev.winGa .iw n r.off % len = 0 → s.dev.iwLoop (s.dev.winGa .iw n r.off) = false →
    ¬(s.dev.winGa .iw n r.off / 2 ^ 38 % 1024 = s.dev.devid ∧ s.dev.winGa .iw n r.off % 2 ^ 38 < 0x1000_0000) →
    s.dev.winView .iw n r.off = .plain → s.dev.sameView .iw n r.off len = true →
    let q := fun (op : ReqOp) (data : List Byte) =>
      (((s.clear.bump (winBase .iw n + 0x18)).prefWrite (some (.iw n)) (s.dev.winGa .iw n r.off) len).issue
        { seq := 0, agent := n, ident := r.rid.toNat, orig := s.dev.devid, ing := .iw n, op := op, posted := false,
          ga := s.dev.winGa .iw n r.off, len := len, data := allOn data, otag := r.ptag, ts := s.dev.stamp } : Dev)
    Does (.hostFetchadd r len x) s (fun d => d = q .fetchAdd x) ∧ Does (.hostSwap r len x) s (fun d => d = q .swap x) ∧
    Does (.hostCas r len x y) s (fun d => d = q .cas (x ++ y))

/-- R98, R100, R102: the data of an open read of the host goes back to its requester under its tag; the inbound watchdog ends an open request as
TIMEOUT, counted, and a read through an ingress with SYNCERR = 1 is answered with Completer Abort. A completion that matches no open request is
counted as late. -/
def Sys2Proof.Claims.HostAnswers : Prop :=
  ∀ (s : State) (tag : Nat), Inv s →
    (s.dev.hostReq? tag = none → Does (.hostCompletionReturn tag) s (fun d =>
      d.onlyReg s.dev Reg.hpLateCpl (s.dev.rd Reg.hpLateCpl + 1) ∧ d.fab = s.dev.fab)) ∧
    ∀ r, s.dev.hostReq? tag = some r → r.op = .read → 1 ≤ r.len →
      (r.st = .ended → r.status = none → s.dev.tooOld r.rts (s.dev.ingAge r.ing) = false → r.ga % s.dev.hp.mps + r.len ≤ s.dev.hp.mps →
        After (.hostCompletionReturn tag) s (fun d => .hostCpl r.ident r.otag .success r.len (r.ga % 128) (r.rdata.take r.len) ∈ d.out)) ∧
      (r.st ≠ .ended → Does (.inbWatchdogExpiry tag) s (fun d =>
        d.rd Reg.hpInbTimeoutCount = s.dev.rd Reg.hpInbTimeoutCount + 1 ∧
        (s.dev.ingSyncErr r.ing = true → .hostCpl r.ident r.otag .abort r.len (r.ga % 128) [] ∈ d.out)))

/-- R105: the data of the only TLP of a device-issued read ends the read with that data; another completion status, and the host's Completion
Timeout, end it as TIMEOUT, which is logged; its TLPs are forgotten. -/
def Sys2Proof.Claims.HostCompletions : Prop :=
  ∀ (s : State) (x : OutRead) (r : Req) (ptag : Nat) (st : CplStatus) (data : List Byte), Inv s →
    (s.dev.hp.reads.find? fun y => y.ptag == ptag) = some x → s.dev.req? x.seq = some r → r.op = .read →
    ((s.dev.hp.reads.filter fun y => y.seq == x.seq) = [x] → s.dev.hostReadRange r = (r.ga, r.ga + r.len) → r.sentLen = r.len →
      Does (.outboundCompletion ptag .success data) s (fun d => d.hp.reads = s.dev.hp.reads.filter (fun y => y.seq != x.seq) ∧
        d.eachReq x.seq fun q => q.st = .ended ∧ q.status = none ∧ q.rdata = (data.take x.len).take r.len)) ∧
    (st ≠ .success → Does (.outboundCompletion ptag st data) s (fun d =>
      d.hp.reads = s.dev.hp.reads.filter (fun y => y.seq != x.seq) ∧ d.oneMore s.dev .timeout ∧
      d.eachReq x.seq fun q => q.st = .ended ∧ q.status = some .timeout)) ∧
    Does (.outboundCplTimeout ptag) s (fun d => d.rd Reg.hpOutTimeoutCount = s.dev.rd Reg.hpOutTimeoutCount + 1 ∧
      d.hp.reads = s.dev.hp.reads.filter (fun y => y.seq != x.seq) ∧ d.oneMore s.dev .timeout)

/-- Answers to the host, and the host's answers to the device. -/
def Obligations.HostAnswers : Prop := Sys2Proof.Claims.HostAnswers ∧ Sys2Proof.Claims.HostCompletions

/-- R103, R104, R108: a write that reaches the host port leaves as a memory write TLP at the address its outbound window gives, and a read as a
memory read TLP under a free tag; while the function may not issue requests a write is discarded and counted. -/
def Obligations.HostTraffic : Prop :=
  ∀ (s : State) (r : Req) (seq n : Nat), Inv s → s.dev.req? seq = some r → r.tgt = .ow n → s.dev.mayPerform r = true → s.dev.silent = false →
    (r.op = .write → (s.dev.hostOpen = false ∨ s.dev.hp.d3hot = true) → Does (.outboundWrite seq) s (fun d =>
      d.rd Reg.hpLinkDrop = s.dev.rd Reg.hpLinkDrop + 1 ∧ (∀ a bs ns, .hostWr a bs ns ∉ d.out) ∧ d.mem = s.dev.mem)) ∧
    (s.dev.hostOpen = true → s.dev.hp.d3hot = false → s.dev.tooOld r.ts (s.dev.winAge .ow n) = false →
      let a := s.dev.owAddr n r.ga
      let ns := s.dev.winBit .ow n 14
      (∀ bs : List Byte, r.op = .write → r.poison = false → r.data = allOn bs → bs ≠ [] → bs.length ≤ s.dev.hp.mps →
        a % 4096 + bs.length ≤ 4096 → After (.outboundWrite seq) s (fun d => .hostWr a bs ns ∈ d.out ∧ d.mem = s.dev.mem)) ∧
      (r.op = .read → s.dev.winBit .ow n 7 = false → r.sentLen = 0 → 1 ≤ r.len → r.len ≤ s.dev.hp.mrrs → a % 4096 + r.len ≤ 4096 →
        s.dev.hp.reads.length < s.dev.tagLimit → (s.dev.hp.reads.map (·.len)).sum + r.len ≤ 32768 →
        After (.outboundReadIssue seq) s (fun d => ∃ t, (∀ x ∈ s.dev.hp.reads, x.ptag ≠ t) ∧ .hostRd t a r.len ns ∈ d.out ∧
          d.hp.reads = s.dev.hp.reads ++ [{ ptag := t, seq := seq, addr := a, len := r.len, pos := 0 }])))

/-- R84, R220–R222: an ORDER or COMPLETE barrier that its writer may issue is accepted for its requester with the next acceptance number, and
WIN_BARRIER_STATUS shows that it is not yet done; a write of WIN_BARRIER by a requester other than a host ends as PERM. -/
def Sys2Proof.Claims.BarriersAccepted : Prop :=
  ∀ (s : State) (src : BarrierSrc) (complete : Bool), Inv s →
    let c : Instr := if complete then .completeBarrier src else .orderBarrier src
    ((∀ w h, src = .win w h → w.val < 32) → Does c s (fun d =>
      (∃ b ∈ d.fab.barriers, b.agent = barrierAgent src ∧ b.complete = complete ∧ b.src = src ∧ s.dev.fab.nextSeq ≤ b.seq) ∧
      (∀ w h, src = .win w h → d.rd Reg.winBarrierStatus = BitVec.ofNat 32 (h.val * 256 + (s.dev.fab.winBarSeq + 1) % 65536 * 65536)) ∧
      d.mem = s.dev.mem)) ∧
    (∀ w h, src = .win w h → 32 ≤ w.val → Does c s (fun d => d.fab = s.dev.fab ∧ d.oneMore s.dev .perm))

/-- R81, R85, R223: a barrier whose covered writes are all done leaves the list of those pending, and its status shows DONE and ERR; a read of a
BARRIER window answers the status word of the reading master's latest barrier on the lanes it enables. -/
def Sys2Proof.Claims.BarriersDone : Prop :=
  ∀ (s : State) (b : Barrier) (c : SlaveCycle) (lw : Nat), Inv s →
    ((s.dev.fab.barriers.find? fun c => c.seq == b.seq) = some b → s.dev.barrierReady b = true → Does (.barrierDone b.seq) s (fun d =>
      (∀ c ∈ d.fab.barriers, c.seq ≠ b.seq) ∧
      (isWinBarrier b.src = true → (∀ c ∈ s.dev.fab.barriers, isWinBarrier c.src = true → c = b) →
        d.flag Reg.winBarrierStatus 0 = true ∧ d.flag Reg.winBarrierStatus 1 = b.err) ∧ d.mem = s.dev.mem)) ∧
    (s.dev.slaveHeard c lw false → s.dev.winBit .lw lw 13 = true → Does (.lwBarrierRead c) s (fun d =>
      let x := s.dev.lwBarOf c.master.val
      .slave (.normal [BitVec.ofNat 32 (b2n x.2.1 + 2 * b2n x.2.2 + 256 * c.master.val + 65536 * x.1) &&& laneMask c.beN]) ∈ d.out ∧
        d.mem = s.dev.mem))

/-- Barriers are accepted, pending and done. -/
def Obligations.Barriers : Prop := Sys2Proof.Claims.BarriersAccepted ∧ Sys2Proof.Claims.BarriersDone

/-- R235: a host requester's write sets or clears a CLAIM bit, and clearing it gives up the slot; a write by another requester ends as PERM; a
claim is granted once no locked sequence holds the slot or its granule. -/
def Obligations.HostSemaphores : Prop :=
  ∀ (s : State) (who : Requester) (i : Fin 16), Inv s →
    (who.val < 32 → Does (.hostSemClaim who i) s (fun d => d.flag Reg.winHostSemClaim i.val = true ∧
        (∀ x, x ≠ Reg.winHostSemClaim → d.rd x = s.dev.rd x) ∧ d.fab = s.dev.fab ∧ d.mem = s.dev.mem) ∧
      Does (.hostSemRelease who i) s (fun d => d.flag Reg.winHostSemClaim i.val = false ∧ d.fab.semGranted.getLsbD i.val = false)) ∧
    (32 ≤ who.val → Does (.hostSemClaim who i) s (fun d => d.rd Reg.winHostSemClaim = s.dev.rd Reg.winHostSemClaim ∧ d.oneMore s.dev .perm) ∧
      Does (.hostSemRelease who i) s (fun d => d.rd Reg.winHostSemClaim = s.dev.rd Reg.winHostSemClaim ∧ d.oneMore s.dev .perm)) ∧
    (s.dev.semGrantable i.val = true → Does (.hostSemGrant i) s (fun d => d.fab.semGranted = s.dev.fab.semGranted ||| (1#16 <<< i.val) ∧
      d.sameStores s.dev)) ∧
    (s.dev.semGrantable i.val = false → Does (.hostSemGrant i) s (fun d => d = s.clear))

/-- R10, R212: a write that may be performed at DRAM or SRAM stores its enabled bytes, and nothing else; a read returns the bytes that stand there
and changes none; the acknowledgement of a write that has ended frees its buffer entries. -/
def Obligations.MemoryEndPoint : Prop :=
  ∀ (s : State) (r : Req) (seq : Nat), Inv s → s.dev.req? seq = some r → seq < s.dev.fab.nextSeq →
    (r.posted = true → r.st = .ended → Does (.writePerformed seq) s (fun d => ∀ q ∈ d.fab.reqs, q.seq ≠ seq)) ∧
    ((r.tgt = .dram ∨ r.tgt = .sram) → s.dev.mayPerform r = true → r.poison = false → s.dev.bad = [] →
      (r.op = .write → (r.posted = false ∨ s.dev.silent = false) → After (.endpointRequest seq) s (fun d => ∀ a, d.byteAt a =
        if r.ga % 2 ^ 38 ≤ a then (r.data.getD (a - r.ga % 2 ^ 38) none).getD (s.dev.byteAt a) else s.dev.byteAt a)) ∧
      (r.op = .read → r.posted = false → r.known = [] → r.orphan = 0 → Does (.endpointRequest seq) s (fun d => d.sameStores s.dev ∧
        d.eachReq seq fun q => q.st = .ended ∧ q.status = none ∧ q.rdata = s.dev.bytesAt (r.ga % 2 ^ 38) r.len)))

/-- R67, R210, R218: a window that is disabled holds no combining line and no prefetched data; a combining line that is emitted becomes a posted
write of its bytes where its path has room; the acknowledgement on a link frees the entries of the oldest write sent there, and an ended write of
another path gives back an entry. -/
def Sys2Proof.Claims.BuffersEmptied : Prop :=
  ∀ (s : State) (p : WPath) (i : Nat), Inv s →
    (∀ (f : WinFam) (n : Fin 32), n.val < winCount f → s.dev.winEn f n.val = true → Does (.windowDisable f n) s (fun d =>
      d.winEn f n.val = false ∧ (∀ l ∈ d.fab.cwb, l.ing.window ≠ some (f, n.val)) ∧
      (∀ b ∈ d.fab.pref, b.ing.window ≠ some (f, n.val)) ∧ d.mem = s.dev.mem)) ∧
    (∀ l, (s.dev.fab.cwb.filter fun l => l.path == p)[i]? = some l → (∃ t, s.dev.route (l.granule * 64) 64 = .ok t) → s.dev.pwbRoom p 1 = true →
      Does (.cwbLineAgeExpiry p i) s (fun d => l ∉ d.fab.cwb ∧ ∃ r ∈ d.fab.reqs, r.posted = true ∧ r.path = p ∧ r.agent = l.agent ∧
        r.ga = l.granule * 64 ∧ r.data = l.data)) ∧
    (∀ r n dst, p = .itm n → (s.dev.fab.reqs.find? fun r => r.path == p && r.posted && r.st == .started) = some r →
      r.tgt = .link n.val dst → r.seq < s.dev.fab.nextSeq → Does (.pwbEntryFree p) s (fun d => ∀ q ∈ d.fab.reqs, q.seq ≠ r.seq)) ∧
    (∀ r, (∀ n, p ≠ .itm n) → (s.dev.fab.reqs.find? fun r => r.path == p && r.st == .ended && decide (0 < r.entries)) = some r →
      (∀ q ∈ s.dev.fab.reqs, q.seq = r.seq → q = r) → r.seq < s.dev.fab.nextSeq →
      Does (.pwbEntryFree p) s (fun d => d.eachReq r.seq fun q => q.entries = r.entries - 1))

/-- R213, R229, R237: a read that waited for its requester's writes goes on once they are performed: toward its end point, or over its link; a
reservation lapses; an unused prefetched block is discarded, and its undelivered bytes are counted where it came from a zone. -/
def Sys2Proof.Claims.WaitsAndExpiries : Prop :=
  ∀ (s : State) (seq agent ident i : Nat), Inv s →
    (∀ r, s.dev.req? seq = some r → r.st = .waiting → s.dev.readState r = .ready → 0 < r.len → r.posted = false →
      ((∀ n dst, r.tgt ≠ .link n dst) → Does (.waitingReadRelease seq) s (fun d => d.sameStores s.dev ∧ d.eachReq seq fun q => q.st = .ready)) ∧
      (∀ n dst, r.tgt = .link n dst → (s.dev.link n).state = .up → s.dev.linkOutstanding n < 256 → Does (.waitingReadRelease seq) s (fun d =>
        (d.eachReq seq fun q => q.st = .started) ∧ ∀ t ∈ r.transfers dst, .itm n t ∈ d.out))) ∧
    Does (.reservationExpiry agent ident) s (fun d =>
      d.fab.rsv = s.dev.fab.rsv.filter (fun x => !(x.agent == agent && x.ident == ident)) ∧ d.sameStores s.dev) ∧
    (∀ b, s.dev.fab.pref[i]? = some b → Does (.prefetchExpiry i) s (fun d => d.fab.pref = s.dev.fab.pref.filter (· != b) ∧
      d.rd Reg.lbuPrefDiscard = s.dev.rd Reg.lbuPrefDiscard + (if b.zone.isSome ∧ b.left ≠ [] then 1 else 0) ∧ d.mem = s.dev.mem))

/-- Buffers empty, waits end and held things lapse. -/
def Obligations.BuffersEmptied : Prop := Sys2Proof.Claims.BuffersEmptied ∧ Sys2Proof.Claims.WaitsAndExpiries

/-- R70–R72, R209–R211: a posted write that nothing holds at its ingress and that does not combine takes its place with the next acceptance
number, on the path of its target; an arriving zone request joins the Orangery's queue behind those that came before it. -/
def Obligations.RequestsAccepted : Prop :=
  ∀ (s : State) (r : Req) (t : Target) (seq : Nat), Inv s →
    (r.posted = true → r.op = .write → s.dev.asWrite r = r → s.dev.holdReason r s.dev.fab.held = none → s.dev.needsRoom r = false →
      (∀ x ∈ s.dev.fab.stops, x.agent ≠ r.agent) → s.dev.tooOld r.ts (s.dev.ingAge r.ing) = false → s.dev.route r.ga (max r.len 1) = .ok t →
      s.dev.combines { r with tgt := t, path := writePath r.ing t, strict := s.dev.ingStrict r.ing } = false →
      ∃ q ∈ (s.dev.issue r).fab.reqs, q.seq = s.dev.fab.nextSeq ∧ q.agent = r.agent ∧ q.ga = r.ga ∧ q.data = r.data ∧ q.posted = true ∧
        q.tgt = t ∧ q.path = writePath r.ing t) ∧
    (∀ n, s.dev.req? seq = some r → r.tgt = .zone n → seq ∉ s.dev.lbu.zoneQ → (s.dev.lbu.draining = false ∨ r.posted = true) →
      (r.st = .ready ∨ r.st = .waiting) → After (.zoneRequestArrive seq) s (fun d => d.lbu.zoneQ = s.dev.lbu.zoneQ ++ [seq] ∧
        d.mem = s.dev.mem))

/-- R80, R115, R123, R126, R197, R198: a zone request that starts drives the cycles its bytes are shaped into, and its first address phase
appears; an AtomicOp starts with single-beat locked reads, and ends as BERR in a zone with LOCKOK = 0; the oldest retried request is re-issued. -/
def Obligations.ZoneRequestsStart : Prop :=
  ∀ (s : State) (r : Req) (n : Nat), Inv s → s.dev.busFree → r.tgt = .zone n → s.dev.tooOld r.ts (s.dev.winAge .lz n) = false →
    (s.dev.nextZone = some r → (r.op = .read ∨ r.op = .write ∨ r.op = .rsvLoad) → r.poison = false →
      s.dev.zoneBytes r (r.op == .write) ≠ [] → Does .zoneRequestStart s (fun d => ∃ j, d.lbu.job = some j ∧ j.seq = r.seq ∧ j.zone = n ∧
        j.cycles = shape (s.dev.zoneW n) (s.dev.zoneBb n) false (r.op == .write) (j.map.map (·.1)) ∧
        (j.map.map (·.2)) = s.dev.zoneBytes r (r.op == .write) ∧
        ∀ c rest b bs, j.cycles = c :: rest → c.beats = b :: bs → s.dev.phaseOf n c b false ∈ d.out)) ∧
    (s.dev.nextZone = some r → isAtomic r.op = true →
      (s.dev.winBit .lz n 6 = true → Does .zoneLockedRmw s (fun d => d.lbu.locked = some .orangery ∧ ∃ j, d.lbu.job = some j ∧ j.seq = r.seq ∧
        j.locked = true ∧ ∀ c ∈ j.cycles, c.lock = true ∧ c.write = false ∧ c.beats.length = 1)) ∧
      (s.dev.winBit .lz n 6 = false → Does .zoneLockedRmw s (fun d => d.oneMore s.dev .berr ∧ d.lbu.job = none ∧
        d.eachReq r.seq fun q => q.status = some .berr))) ∧
    (∀ j t, s.dev.lbu.guard = false → s.dev.lbu.retried = j :: t → Does .retryReissue s (fun d => d.lbu.job = some j ∧ d.lbu.retried = t ∧
      d.sameStores s.dev ∧ ∀ c rest b bs, j.cycles = c :: rest → c.beats = b :: bs → s.dev.phaseOf j.zone c b j.locked ∈ d.out))

/-- R116, R123, R126, R202, R225: how a beat ends. A wait changes nothing; a read beat that is not the last of its cycle delivers the bytes of its
lanes; the last beat of a request's last write cycle ends it; a retry leaves the request to be re-issued and is counted; a bus error ends it as
BERR. A zone timeout ends the request as TIMEOUT. -/
def Obligations.BusBeats : Prop :=
  ∀ (s : State) (j : ZoneJob) (r : Req) (c : BusCycle) (rest : List BusCycle) (b : Beat) (lad : Word) (lpar : BitVec 4), Inv s →
    s.dev.lbu.job = some j → j.paused = false → j.atBeat c rest b → s.dev.req? j.seq = some r →
    Does (.lbusCycleTermination .wait lad lpar) s (fun d => d = s.clear) ∧
    (c.write = false → j.beat + 1 < c.beats.length → s.dev.lbu.guard = false → s.dev.badLanes j b lad lpar = 0 →
      Does (.lbusCycleTermination .normal lad lpar) s (fun d => d.sameStores s.dev ∧ d.lbu.job = some { j with beat := j.beat + 1, got := j.got ++
        ((j.map.filter fun x => b.bytes.contains x.1).map fun x => (x.2, ladByte (s.dev.winBig .lz j.zone) (s.dev.zoneW j.zone) lad x.1)) })) ∧
    (c.write = true → r.op = .write → j.beat + 1 = c.beats.length → rest = [] → j.locked = false → j.parBad = none →
      Does (.lbusCycleTermination .normal lad lpar) s (fun d => d.lbu.job = none ∧ (d.eachReq j.seq fun q => q.st = .ended ∧ q.status = none) ∧
        d.mem = s.dev.mem)) ∧
    (j.locked = false → Does (.lbusCycleTermination .retry lad lpar) s (fun d =>
      d.onlyReg s.dev Reg.lbuRetryRcvd (s.dev.rd Reg.lbuRetryRcvd + 1) ∧ d.lbu.job = none ∧
      ∃ k, d.lbu.retried = s.dev.lbu.retried ++ [k] ∧ k.seq = j.seq ∧ k.beat = 0)) ∧
    (∀ t, t = .busError ∨ t = .cfail → Does (.lbusCycleTermination t lad lpar) s (fun d =>
      d.rd Reg.lbuBerrCount = s.dev.rd Reg.lbuBerrCount + 1 ∧ d.oneMore s.dev .berr ∧ d.lbu.job = none ∧
      d.eachReq j.seq fun q => q.st = .ended ∧ q.status = some .berr)) ∧
    Does (.zoneTimeout j.seq) s (fun d => d.lbu.job = none ∧ j.seq ∉ d.lbu.zoneQ ∧ d.eachReq j.seq fun q => q.st = .ended ∧ q.status = some .timeout)

/-- R135–R138: a master's bus request waits its turn, or is ignored where MASTER_EN is 0; the arbiter grants the bus in rotating order, or parks
it, while no guard window and no promoted request stands and the owner holds no lock; an external arbiter's grant is sampled; a guard window gives
the bus to the Orangery unless its owner holds it locked. -/
def Sys2Proof.Claims.BusArbitration : Prop :=
  ∀ (s : State) (k : Fin 2) (low : Bool), Inv s →
    let o : BusOwner := if k = 0 then .lbm0 else .lbm1
    (s.dev.masterEn k.val = false → Does (.busRequest k) s (fun d => d = s.clear)) ∧
    (s.dev.masterEn k.val = true → s.dev.flag Reg.lbuCtl 6 = false → o ∉ s.dev.lbu.requests → After (.busRequest k) s (fun d =>
      d.lbu.requests = s.dev.lbu.requests ++ [o] ∧ d.lbu.owner = s.dev.lbu.owner)) ∧
    (s.dev.flag Reg.lbuCtl 6 = false → s.dev.lbu.locked = none → s.dev.lbu.guard = false → s.dev.lbu.promoted = [] →
      After .arbitration s (fun d => d.lbu.owner = ((rotation s.dev.lbu.owner).find? s.dev.bidders).getD s.dev.parkOwner ∧
        .grant d.lbu.owner ∈ d.out ∧ d.lbu.owner ∉ d.lbu.requests)) ∧
    (s.dev.flag Reg.lbuCtl 6 = false → s.dev.lbu.locked = some s.dev.lbu.owner → Does .arbitration s (fun d => d = s.clear)) ∧
    (s.dev.flag Reg.lbuCtl 6 = true → After (.extGrant low) s (fun d => d.lbu.owner = if low then .orangery else .other)) ∧
    After .guardWindowStart s (fun d => d.lbu.guard = true ∧
      (s.dev.flag Reg.lbuCtl 6 = false → s.dev.lbu.locked = none → d.lbu.owner = .orangery))

/-- R139, R140, R142: LRESET_N is released while BUS_EN is 1; a lost LCLK ends every queued zone request, and its recovery lets the Orangery
resume; a full-word write of an external master that the monitor observes inside a zone ends every other requester's reservation on its granule.
-/
def Sys2Proof.Claims.BusClockAndMonitor : Prop :=
  ∀ (s : State) (k : Fin 2) (z : Nat) (addr data : Word) (t : Termination), Inv s →
    (s.dev.flag Reg.lbuCtl 0 = true → s.dev.lbu.draining = false → s.dev.live = true → Does .lresetRelease s (fun d => d.lbu.lreset = false ∧
      d.sameStores s.dev)) ∧
    (s.dev.flag Reg.lbuCtl 0 = false → Does .lresetRelease s (fun d => d = s.clear)) ∧
    (s.dev.flag Reg.lbuCtl 2 = true → Does .lclkLoss s (fun d => d.lbu.clkOk = false ∧ d.lbu.cyc = none ∧ d.lbu.heldWrite = none ∧
      ∀ q ∈ d.lbu.zoneQ, s.dev.req? q = none)) ∧
    After .lclkRecovery s (fun d => d.lbu.clkOk = true ∧ d.lbu.clkGood = 10) ∧
    (s.dev.winFind .lz addr.toNat = some z →
      Does (.busMonitorObserve (if k = 0 then .lbm0 else .lbm1) addr 0 true false t data) s (fun d => ∀ x ∈ d.fab.rsv,
        x.granule = (s.dev.devid * 2 ^ 38 + 0x20_0000_0000 + addr.toNat / s.dev.zoneW z * s.dev.zoneW z) / 64 →
        x.agent = 56 + k.val ∧ x.ident = 0))

/-- Arbitration, reset, clock and monitoring of the L-bus. -/
def Obligations.BusControl : Prop := Sys2Proof.Claims.BusArbitration ∧ Sys2Proof.Claims.BusClockAndMonitor

/-- R122, R125, R128, R130: a write beat through a window with EA = 1 is answered normally once it is taken, and held while its buffer has no
room; a write through a window with EA = 0, a read, a flush cycle and a conditional store take a delayed-read slot and are held. -/
def Obligations.SlaveCycles : Prop :=
  ∀ (s : State) (c : SlaveCycle) (lw : Nat) (data : Word), Inv s →
    (s.dev.slaveWriteReady c lw → s.dev.winView .lw lw c.addr.toNat = .plain →
      let p := s.dev.slaveData lw c.addr.toNat c.beN data
      let q : Req := { s.dev.lwReq c lw with op := .write, posted := true, ga := p.1, len := p.2.length, data := p.2 }
      (s.dev.delaysWrite c lw p.1 (max p.2.length 1) = false → s.dev.barrierHolds (56 + c.master.val) = false →
        (s.dev.needsRoom q = false → Does (.slavePostedWrite c data) s (fun d => .slave (.normal []) ∈ d.out ∧ d.lbu.heldWrite = none ∧
          d.rd (winBase .lw lw + 0x18) = s.dev.rd (winBase .lw lw + 0x18) + 1)) ∧
        (s.dev.needsRoom q = true → s.dev.lholdZero = false → Does (.slavePostedWrite c data) s (fun d => .slave .hold ∈ d.out ∧
          d.lbu.heldWrite = some (c, data)))) ∧
      (s.dev.delaysWrite c lw p.1 (max p.2.length 1) = true → c.lock = false → s.dev.slotReady c.master →
        Does (.slaveDelayedWrite c data) s (fun d => d.heldOn c .write))) ∧
    (s.dev.slaveWriteReady c lw → s.dev.winView .lw lw c.addr.toNat = .condStore → s.dev.slotReady c.master →
      Does (.slaveCondStore c data) s (fun d => d.heldOn c .condStore)) ∧
    (s.dev.slaveReady c lw false → s.dev.winView .lw lw c.addr.toNat = .plain → c.lock = false → s.dev.slotReady c.master →
      (c.beN ≠ 15 → Does (.slaveRead c) s (fun d => d.heldOn c .read)) ∧
      Does (.slaveFlushCycle c) s (fun d => d.heldOn { c with beN := 15 } .flush))

/-- R81, R124, R234: a cycle with LLOCK_N low takes a semaphore slot for its granule; LLOCK_N going high gives the slot back; a sequence that
still holds it after 10 µs is broken, counted and logged as LOCK_BROKEN. A write into a BARRIER window issues a barrier for its master: ORDER is
answered at once, COMPLETE is held. -/
def Obligations.SlaveLocksAndBarriers : Prop :=
  ∀ (s : State) (c : SlaveCycle) (lw : Nat) (data : Word) (k : Fin 2), Inv s →
    (s.dev.slaveReady c lw false → c.beN ≠ 15 → s.dev.winView .lw lw c.addr.toNat = .plain → s.dev.slotReady c.master →
      s.dev.lockOf c.master.val = none → s.dev.rd Reg.winHostSemClaim = 0 →
      Does (.slaveLockedCycle c none) s (fun d => d.heldOn c .read ∧ ∃ i g, i < 16 ∧ (i, c.master.val) ∈ d.fab.semLocks ∧
        { master := c.master.val, granule := g, slot := some i } ∈ d.lbu.locks ∧ d.semGranule i = g)) ∧
    Does (.lockRelease k) s (fun d => (∀ l ∈ d.fab.semLocks, l.2 ≠ k.val) ∧ (∀ x ∈ d.lbu.locks, x.master ≠ k.val) ∧
      ∀ x ∈ d.lbu.slots, x.master = k.val → x.locked = false) ∧
    (∀ q i, s.dev.lockOf k.val = some q → q.slot = some i → Does (.lockLimitExpiry k) s (fun d =>
      d.rd Reg.lbuLockBroken = s.dev.rd Reg.lbuLockBroken + 1 ∧ d.oneMore s.dev .lockBroken ∧ (∀ l ∈ d.fab.semLocks, l.2 ≠ k.val) ∧
      ∀ x ∈ d.lbu.locks, x.master = k.val → x.slot = none)) ∧
    (s.dev.slaveHeard c lw true → s.dev.winBit .lw lw 13 = true → beContiguous c.beN = true → c.beN ≠ 15 →
      (data.getLsbD 0 = false → Does (.lwBarrierWrite c data) s (fun d => .slave (.normal []) ∈ d.out ∧
        d.lwBarOf c.master.val = (((s.dev.lwBarOf c.master.val).1 + 1) % 65536, false, false) ∧
        ∃ b ∈ d.fab.barriers, b.agent = 56 + c.master.val ∧ b.complete = false ∧ b.src = .lw c.master)) ∧
      (data.getLsbD 0 = true → s.dev.freeSlot.isSome = true → s.dev.lholdZero = false → Does (.lwBarrierWrite c data) s (fun d =>
        d.heldOn c .barrier ∧ ∃ b ∈ d.fab.barriers, b.agent = 56 + c.master.val ∧ b.complete = true ∧ b.src = .lw c.master)))

/-- R130–R133: a repeated cycle is held again while its slot waits, and is served from the slot, which is then free, once its completion is there;
a completion that arrives while no cycle is held on its slot is kept; LHOLD_MAX ends a held cycle with retry; an uncollected completion is
discarded and counted. -/
def Obligations.DelayedReadSlots : Prop :=
  ∀ (s : State) (c : SlaveCycle) (w : Option Word) (x : DrSlot) (i : Fin 16), Inv s →
    (s.dev.slaveOn = true → s.dev.slaveGate c w.isSome = none → (c.lock = false → s.dev.lockOf c.master.val = none) →
      s.dev.winFind .lw c.addr.toNat = some x.lw → (s.dev.lbu.slots.find? fun y => y.repeats c x.lw w) = some x →
      (x.state = .waiting → s.dev.lholdZero = false → Does (.slaveSlotCollect c w) s (fun d => .slave .hold ∈ d.out ∧
        d.lbu.slots = s.dev.lbu.slots ∧ d.lbu.cyc = some (c.master.val, x.idx) ∧ d.sameStores s.dev)) ∧
      (x.state = .held → (∀ r, s.dev.req? x.seq = some r → s.dev.tooOld r.rts (s.dev.winAge .lw x.lw) = false) → x.status = none →
        Does (.slaveSlotCollect c w) s (fun d => (∀ y ∈ d.lbu.slots, y.idx ≠ x.idx) ∧
          (x.op = .flush ∨ x.op = .barrier ∨ x.op = .write → .slave (.normal []) ∈ d.out) ∧
          (x.op = .condStore → .slave (if x.csFail then .cfail else .normal []) ∈ d.out) ∧
          (x.op = .read ∨ x.op = .rsvLoad → .slave (.normal (s.dev.slaveWords x.lw x.addr.toNat x.beN (min c.beats 8) fun g => x.rdata.getD (g - x.first) 0)) ∈
            d.out)))) ∧
    ((s.dev.lbu.slots.find? fun y => y.idx == i.val) = some x →
      (∀ r, s.dev.req? x.seq = some r → r.st = .ended → x.state = .waiting → s.dev.lbu.cyc = none → Does (.drCompletion i) s (fun d =>
        d.sameStores s.dev ∧ ∃ y ∈ d.lbu.slots, y.idx = x.idx ∧ y.op = x.op ∧ y.state = .held ∧ y.status = r.status ∧ y.csFail = r.csFail ∧
        (r.status = none → y.rdata = r.rdata))) ∧
      (x.state = .held → Does (.drDiscardExpiry i) s (fun d => d.rd Reg.lbuDrDiscard = s.dev.rd Reg.lbuDrDiscard + 1 ∧
        ∀ y ∈ d.lbu.slots, y.idx ≠ i.val))) ∧
    ((s.dev.lbu.cyc.isSome = true ∨ s.dev.lbu.heldWrite.isSome = true) → Does .lholdExpiry s (fun d => .slave .retry ∈ d.out ∧
      d.lbu.cyc = none ∧ d.lbu.heldWrite = none ∧ d.lbu.slots = s.dev.lbu.slots ∧
      d.onlyReg s.dev Reg.lbuRetryIssued (s.dev.rd Reg.lbuRetryIssued + 1)))

/-- R297, R298: an enabled pin's first stage captures a new level; a debounced level that differs is accepted and, while the queue has room,
queued; a queued change takes effect in its source once the posted writes it covers are performed; room in the queue takes the pins that still
differ. -/
def Sys2Proof.Claims.InterruptPins : Prop :=
  ∀ (s : State) (k : Fin 8) (low : Bool), Inv s → s.dev.lbu.pins.length = 8 →
    (s.dev.flag (Reg.intLirqCfg + 4 * k.val) 8 = false → Does (.lirqSample k low) s (fun d => d = s.clear) ∧
      Does (.lirqAccept k) s (fun d => d = s.clear)) ∧
    (s.dev.flag (Reg.intLirqCfg + 4 * k.val) 8 = true →
      After (.lirqSample k low) s (fun d => (d.pin k.val).sampled = low ∧ (d.pin k.val).sampleMark = s.dev.fab.nextSeq ∧
        (d.pin k.val).level = (s.dev.pin k.val).level) ∧
      ((s.dev.pin k.val).sampled ≠ (s.dev.pin k.val).accepted → After (.lirqAccept k) s (fun d =>
        (d.pin k.val).accepted = (s.dev.pin k.val).sampled ∧ (d.pin k.val).level = (s.dev.pin k.val).level ∧
        (s.dev.lbu.lirqQ.length < 32 → (d.pin k.val).queued = (s.dev.pin k.val).sampled ∧
          { pin := k.val, low := (s.dev.pin k.val).sampled, mark := (s.dev.pin k.val).sampleMark } ∈ d.lbu.lirqQ)))) ∧
    (∀ c t, s.dev.lbu.lirqQ = c :: t → c.pin < 8 →
      (s.dev.lirqCovered c.mark = true → After .lirqEffect s (fun d => d.lbu.lirqQ = t ∧ (d.pin c.pin).level = c.low)) ∧
      (s.dev.lirqCovered c.mark = false → Does .lirqEffect s (fun d => d = s.clear))) ∧
    (s.dev.lbu.lirqQ.length + 8 ≤ 32 → (s.dev.pin k.val).accepted ≠ (s.dev.pin k.val).queued → After .lirqQueueRoom s (fun d =>
      (d.pin k.val).queued = (s.dev.pin k.val).accepted ∧
      { pin := k.val, low := (s.dev.pin k.val).accepted, mark := (s.dev.pin k.val).acceptMark } ∈ d.lbu.lirqQ))

/-- R293, R294: INT_EOI of a vector whose level is 1 sends one more message cell for it, and otherwise does nothing; a routing entry takes the
bits a masked write selects, but an entry that is or becomes the Lodge's only by the Lodge: another requester's write ends as PERM. -/
def Sys2Proof.Claims.InterruptRouting : Prop :=
  ∀ (s : State) (x : Fin 64) (who : Requester) (node : Bool) (i : Fin 256) (v : Word), Inv s →
    (x.val ∈ s.dev.vecsHigh → Does (.intEoi x) s (fun d => d.hp.msgs = s.dev.hp.msgs ++ [x.val] ∧ d.counts s.dev Reg.intMsgSent)) ∧
    (x.val ∉ s.dev.vecsHigh → Quiet (.intEoi x) s) ∧
    let off := if node then Reg.intNodeMap + 4 * (i.val % 64) else Reg.intVector + 4 * i.val
    let new := maskedValue (s.dev.rd off) v 0x1FF
    ((who.val = 63 ∨ (s.dev.fld off 6 3 ≠ 3 ∧ fieldOf new 6 3 ≠ 3)) → Does (.intVectorWrite who node i v) s (fun d => d.onlyReg s.dev off new)) ∧
    (who.val ≠ 63 → (s.dev.fld off 6 3 = 3 ∨ fieldOf new 6 3 = 3) → Does (.intVectorWrite who node i v) s (fun d =>
      d.rd off = s.dev.rd off ∧ d.oneMore s.dev .perm ∧ d.mem = s.dev.mem))

/-- Interrupt pins, end of interrupt and routing. -/
def Obligations.InterruptDelivery : Prop := Sys2Proof.Claims.InterruptPins ∧ Sys2Proof.Claims.InterruptRouting

/-- R153, R176–R178, R188: the lanes that lock give the lanes in use and HELLO begins; without a responding peer training starts again; each side
sends its HELLO; a received HELLO that fails a check holds the link with the check's cause, one that passes them all is answered, and both sides'
RESULT 1 brings the link UP; a restart trains it anew, or leaves it OFF. -/
def Sys2Proof.Claims.LinkTraining : Prop :=
  ∀ (s : State) (n : Fin 5) (h : Hello), Inv s → s.dev.itm.length = 5 →
    let l := s.dev.link n.val
    (s.dev.linkOn n.val = true → (l.state = .train ∨ l.state = .down ∨ l.state = .off) →
      After (.linkTrained n 7) s (fun d => (d.link n.val).state = .hello ∧ (d.link n.val).trained = true ∧ (d.link n.val).rx.single = none ∧
        (d.link n.val).rx.spareOk = true ∧ (d.link n.val).rx.lane0 = l.rx.lane0 ∧ (d.link n.val).rx.lane1 = l.rx.lane1) ∧
      After (.linkTrained n 6) s (fun d => (d.link n.val).state = .hello ∧ (d.link n.val).rx.lane0 = 1 ∧ (d.link n.val).rx.lane1 = 2 ∧
        (d.link n.val).rx.spareOk = false) ∧
      Does (.linkTrained n 0) s (fun d => d = s.clear)) ∧
    (s.dev.linkOn n.val = true → (l.state = .off ∨ l.state = .train ∨ l.state = .down ∨ l.state = .hello) →
      After (.trainingRetry n) s (fun d => (d.link n.val).state = .train ∧ (d.link n.val).trained = false)) ∧
    (l.trained = true → l.state = .hello →
      After (.helloSend n) s (fun d => .hello n.val (s.dev.helloOf n.val) ∈ d.out ∧
        (d.link n.val).state = if l.verdict = 1 ∧ l.peerResult = 1 then .up else .hello) ∧
      After (.helloReceive n h) s (fun d => (d.link n.val).peerDevid = h.devid ∧ (d.link n.val).peerTwin = h.twin ∧
        (s.dev.helloCheck n.val h ≠ 1 → (d.link n.val).state = .held ∧ (d.link n.val).cause = s.dev.helloCheck n.val h) ∧
        (s.dev.helloCheck n.val h = 1 → (h.result = 0 ∨ h.result = 1) → (d.link n.val).verdict = 1 ∧ (d.link n.val).peerEpoch = h.epoch ∧
          (d.link n.val).state = if l.sentOk = true ∧ h.result = 1 then .up else .hello))) ∧
    After (.itmLinkRestart n) s (fun d => (d.link n.val).state = (if s.dev.linkOn n.val then .train else .off) ∧ (d.link n.val).cause = 0)

/-- R180–R182: a parent answers DELAY_REQ with the vehicle time; a child sends DELAY_REQ with its own, and takes half of the round trip that the
answer completes as one link delay, where it lies between 0 and 10 µs, counting any other in ITMn_TIME_DROP. -/
def Sys2Proof.Claims.TimeFlits : Prop :=
  ∀ (s : State) (n : Fin 5) (seqid t2 t3 : Nat), Inv s → s.dev.itm.length = 5 → s.dev.timeOn n.val = true →
    (s.dev.timeParent n.val = true → After (.delayReq n seqid) s (fun d => .timeFlit n.val 3 seqid s.dev.vtStamp s.dev.vtStamp ∈ d.out)) ∧
    (s.dev.timeChild n.val = true →
      After (.delayReqSend n) s (fun d => .timeFlit n.val 2 (s.dev.link n.val).timeSeq s.dev.vtStamp 0 ∈ d.out ∧
        (d.link n.val).delayReq = some ((s.dev.link n.val).timeSeq, s.dev.vtStamp) ∧
        (d.link n.val).timeSeq = ((s.dev.link n.val).timeSeq + 1) % 65536) ∧
      ∀ t1, (s.dev.link n.val).delayReq = some (seqid, t1) →
        let delay : Int := ((s.dev.vtStamp : Int) - t1 - ((t3 : Int) - t2)) / 2
        (0 ≤ delay → delay ≤ 10000 * 65536 → After (.delayResp n seqid t2 t3) s (fun d => (d.link n.val).delays.getLast? = some delay ∧
          (d.link n.val).delayReq = none)) ∧
        (delay < 0 ∨ 10000 * 65536 < delay → Does (.delayResp n seqid t2 t3) s (fun d => (d.link n.val).delayReq = none ∧
          d.onlyReg s.dev (itmReg Reg.itmTimeDrop n.val) (s.dev.rd (itmReg Reg.itmTimeDrop n.val) + 1))))

/-- Itmos links train, agree and measure their delay. -/
def Obligations.LinkStates : Prop := Sys2Proof.Claims.LinkTraining ∧ Sys2Proof.Claims.TimeFlits

/-- R157, R169–R172, R184: a corrupted flit is counted and asks once for replay; a replay is counted and sent, and repeated without progress makes
the link retrain, as a RETRAIN_REQ does; a retrain that does not end in time takes the link DOWN in a new epoch; a ROLE flit records the peer's
state. -/
def Sys2Proof.Claims.LinkReplay : Prop :=
  ∀ (s : State) (n : Fin 5) (same : Bool) (twin : Fin 3), Inv s → s.dev.itm.length = 5 →
    let l := s.dev.link n.val
    Does (.flitCrcFail n) s (fun d => d.onlyReg s.dev (itmReg Reg.itmCrcErr n.val) (s.dev.rd (itmReg Reg.itmCrcErr n.val) + 1) ∧
      (l.state = .up → l.nakSent = false → .nak n.val ∈ d.out ∧ (d.link n.val).nakSent = true)) ∧
    (l.state = .up →
      let k := if same then l.replays + 1 else 1
      let limit := max 1 (s.dev.fld (itmReg Reg.itmLinkCtl n.val) 4 4)
      (∀ c : Instr, c = .replayNak n same ∨ c = .replayTimeout n same → Does c s (fun d =>
        d.rd (itmReg Reg.itmReplay n.val) = s.dev.rd (itmReg Reg.itmReplay n.val) + 1 ∧ .replay n.val ∈ d.out ∧
        (d.link n.val).state = (if limit ≤ k then .retrain else .up) ∧ (k < limit → (d.link n.val).replays = k) ∧ d.mem = s.dev.mem)) ∧
      After (.retrainReq n) s (fun d => (d.link n.val).state = .retrain ∧ (d.link n.val).epoch = l.epoch ∧ (d.link n.val).trained = false) ∧
      After (.role n twin) s (fun d => (d.link n.val).peerTwin = twin.val ∧ (d.link n.val).state = .up)) ∧
    (l.state = .retrain → After (.retrainTimeout n) s (fun d => (d.link n.val).state = .down ∧
      (d.link n.val).epoch = (l.epoch + 1) % 65536 ∧ (d.link n.val).trained = false)) ∧
    (l.state ≠ .retrain → Does (.retrainTimeout n) s (fun d => d = s.clear))

/-- R173, R174: a failed spare is marked unusable; a failed active lane asks its peer for a swap where a spare may be used or single-lane mode is
allowed; a LANE_SWAP received while the spare is usable moves the lane onto it and is counted; the request is repeated four times in all, and then
the link retrains. -/
def Sys2Proof.Claims.LaneRepair : Prop :=
  ∀ (s : State) (n : Fin 5) (phys : Fin 3) (k : Fin 2), Inv s → s.dev.itm.length = 5 →
    let l := s.dev.link n.val
    (l.state = .up → l.rx.mask.testBit phys.val = false → After (.laneFailure n phys) s (fun d =>
      (d.link n.val).rx.spareOk = false ∧ (d.link n.val).state = .up ∧ (d.link n.val).rx.lane0 = l.rx.lane0)) ∧
    (l.state = .up → l.rx.mask.testBit phys.val = true → l.rx.single = none → l.rx.spareOk = true →
      s.dev.flag (itmReg Reg.itmLinkCtl n.val) 8 = true → After (.laneFailure n phys) s (fun d =>
        let j := if l.rx.lane0 = phys.val then 0 else 1
        .linkFlit n.val 2 j ∈ d.out ∧ (d.link n.val).swapLane = some j ∧ (d.link n.val).swapTries = 1)) ∧
    (l.state = .up → l.tx.single = none → l.tx.spareOk = true → Does (.laneSwap n k) s (fun d =>
      (if k = 0 then (d.link n.val).tx.lane0 else (d.link n.val).tx.lane1) = 3 - l.tx.lane0 - l.tx.lane1 ∧
      (if k = 0 then (d.link n.val).tx.lane1 = l.tx.lane1 else (d.link n.val).tx.lane0 = l.tx.lane0) ∧
      (d.link n.val).tx.spareOk = false ∧ d.rd (itmReg Reg.itmLaneSwap n.val) = s.dev.rd (itmReg Reg.itmLaneSwap n.val) + 1)) ∧
    (∀ j, l.swapLane = some j →
      (l.swapTries < 4 → After (.laneSwapResend n false) s (fun d => .linkFlit n.val 2 j ∈ d.out ∧
        (d.link n.val).swapTries = l.swapTries + 1 ∧ (d.link n.val).state = l.state)) ∧
      (4 ≤ l.swapTries → After (.laneSwapResend n false) s (fun d => (d.link n.val).state = .retrain)))

/-- Itmos links replay, retrain and repair their lanes. -/
def Obligations.LinkRepair : Prop := Sys2Proof.Claims.LinkReplay ∧ Sys2Proof.Claims.LaneRepair

/-- R97, R160–R164, R227: a bridge request that arrives over a link becomes a request of the peer's requester, with the bytes its enables name,
and goes on as one of this device; one whose operation or length does not fit is dropped and counted as a protocol error. -/
def Obligations.PeerRequests : Prop :=
  ∀ (s : State) (n : Fin 5) (t : Transfer), Inv s → s.dev.itm.length = 5 → (s.dev.link n.val).state = .up → s.dev.silent = false →
    (∀ (c : Instr) (code : Nat) (op : ReqOp), (c, code, op) ∈ [(.itmMwr n (.whole t), 0, .write), (.itmMwrNp n t, 1, .write), (.itmMrd n t, 2, .read),
        (.itmRsvLd n t, 3, .rsvLoad), (.itmCondSt n t, 4, .condStore), (.itmFetchadd n t, 5, .fetchAdd), (.itmSwap n t, 6, .swap),
        (.itmCas n t, 7, .cas)] →
      (t.op = code → wellSized t (op != .read && op != .rsvLoad) = true → s.dev.standby = false →
        let q := peerReq n.val t op
        Does c s (fun d => d = ((s.clear.rxOn n.val).prefWrite none q.ga (if op = .read ∨ op = .rsvLoad then 0 else q.len)).issue q) ∧
        q.agent = 32 + t.orig % 8 ∧ q.ident = t.orig ∧ q.orig = t.orig ∧ q.ing = .link n.val t.tag ∧ q.op = op ∧ q.posted = (t.op == 0) ∧
        (∀ b, b < 4 → t.length = 1 → t.fbe = 2 ^ b → code ≤ 4 →
          q.len = 1 ∧ q.ga = t.dst % 1024 * 2 ^ 38 + t.addr % 2 ^ 38 + b)) ∧
      (t.op ≠ code → Does c s (fun d => d.rd (itmReg Reg.itmProtoErr n.val) = s.dev.rd (itmReg Reg.itmProtoErr n.val) + 1 ∧
        d.oneMore s.dev .decode ∧ d.fab = s.dev.fab ∧ d.mem = s.dev.mem))) ∧
    Does (.itmMwr n .strayData) s (fun d => d.rd (itmReg Reg.itmProtoErr n.val) = s.dev.rd (itmReg Reg.itmProtoErr n.val) + 1 ∧ d.fab = s.dev.fab)

/-- R166, R179, R296, R457: with no posted write before it, a WBAR at its destination is answered at once, INT_ASSERT sets and INT_DEASSERT clears
the remote bit of its source; behind posted writes of its link that are not done it waits; a fault note is placed in the FIFO, or counted as lost.
-/
def Sys2Proof.Claims.PeerMessages : Prop :=
  ∀ (s : State) (n : Fin 5) (t : Transfer), Inv s → s.dev.itm.length = 5 → (s.dev.link n.val).state = .up → s.dev.silent = false →
    s.dev.standby = false → t.dst = s.dev.devid →
    (t.length = 0 → s.dev.fab.waitMsgs = [] → (∀ r ∈ s.dev.fab.reqs, r.posted = false) →
      (t.op = 0x08 → s.dev.fab.peerFail = [] → Does (.itmWbar n t) s (fun d => d.fab.waitMsgs = [] ∧
        .itm n.val { op := 0x48, tag := t.tag, ts := s.dev.stamp, orig := s.dev.devid, dst := t.orig, status := 0, tc := 3 } ∈ d.out)) ∧
      (t.op = 0x20 → Does (.intAssert n t) s (fun d => (t.orig % 64, t.addr % 256) ∈ d.intb.remote ∧ d.fab.waitMsgs = [] ∧ d.sameStores s.dev)) ∧
      (t.op = 0x21 → Does (.intDeassert n t) s (fun d => (t.orig % 64, t.addr % 256) ∉ d.intb.remote ∧ d.fab.waitMsgs = [] ∧
        d.sameStores s.dev))) ∧
    (∀ r ∈ s.dev.fab.reqs, r.posted = true → r.orig = t.orig → r.seq < s.dev.fab.nextSeq → (∃ g, r.ing = .link n.val g) →
      (∀ m dst, r.tgt ≠ .link m dst) → t.op = 0x08 → t.length = 0 → s.dev.fab.waitMsgs = [] →
      After (.itmWbar n t) s (fun d => d.fab.waitMsgs = [{ link := n.val, t := t, mark := s.dev.fab.nextSeq }])) ∧
    (t.op = 0x22 → t.length = 0 → t.data.length = 32 → Does (.faultNote n t) s (fun d =>
      if 64 ≤ s.dev.dep.notes.length then d.onlyReg s.dev Reg.depNoteOvf (s.dev.rd Reg.depNoteOvf + 1) ∧ d.dep.notes = s.dev.dep.notes
      else d.dep.notes = s.dev.dep.notes ++ [t.data] ∧ d.sameStores s.dev))

/-- R163, R164, R166, R224, R279: a completion ends the request it matches with its data and status, one that matches none is counted as late; the
completion of an own WBAR covers the writes sent before it; a relayed WBAR's completion, or its timeout, goes back with its status; a request
without a completion in time ends as TIMEOUT. -/
def Sys2Proof.Claims.PeerCompletions : Prop :=
  ∀ (s : State) (n : Fin 5) (t : Transfer) (tag : Nat) (entry : Fin 32), Inv s → s.dev.itm.length = 5 →
    ((s.dev.link n.val).state = .up → t.op ≠ 0x48 →
      (s.dev.peerMatch n.val t = none → Does (.itmCompletion n t) s (fun d =>
        d.onlyReg s.dev (itmReg Reg.itmLateCpl n.val) (s.dev.rd (itmReg Reg.itmLateCpl n.val) + 1) ∧ d.fab = s.dev.fab)) ∧
      (∀ r, s.dev.peerMatch n.val t = some r → r.seq < s.dev.fab.nextSeq →
        (t.status = 0 → t.poison = false → r.op = .read → Does (.itmCompletion n t) s (fun d => d.eachReq r.seq fun q =>
          q.st = .ended ∧ q.status = none ∧ q.rdata = (List.range r.len).map fun i => t.data.getD (r.ga % 4 + i) 0)) ∧
        (∀ e, errOfCode t.status = some e → Does (.itmCompletion n t) s (fun d => d.eachReq r.seq fun q =>
          q.st = .ended ∧ q.status = some e ∧ q.remote = true)))) ∧
    (∀ w, (s.dev.fab.wbars.find? fun x => x.link == n.val && x.entry == t.tag) = some w → (s.dev.link n.val).state = .up → t.op = 0x48 →
      (w.backLink = none → t.status = 0 → Does (.itmCompletion n t) s (fun d => ∀ m ∈ d.fab.sent, m.link = n.val → m.dst = w.dst →
        w.last < m.first)) ∧
      (∀ k, w.backLink = some k → (s.dev.link k).state = .up → t.status = 0 → After (.itmCompletion n t) s (fun d =>
        .itm k { op := 0x48, tag := w.backTag, ts := s.dev.stamp, orig := s.dev.devid, dst := w.orig, status := 0, tc := 3 } ∈ d.out))) ∧
    (∀ w, (s.dev.fab.wbars.find? fun x => x.link == n.val && x.entry == entry.val) = some w → s.dev.elog.entries.length < 64 →
      After (.wbarTimeout n entry) s (fun d => (∃ e ∈ d.elog.entries, e.type = .timeout ∧ e.detail = 5 ∧ e.path = 4 + n.val) ∧
        ∀ k, w.backLink = some k → (s.dev.link k).state = .up →
          .itm k { op := 0x48, tag := w.backTag, ts := s.dev.stamp, orig := s.dev.devid, dst := w.orig, status := 2, tc := 3 } ∈ d.out)) ∧
    (∀ r m dst, (s.dev.fab.reqs.find? fun r => !r.posted && r.st == .started && r.tag == tag &&
        (match r.tgt with | .link _ _ => true | _ => false)) = some r → r.tgt = .link m dst → m < 5 → r.seq < s.dev.fab.nextSeq →
      Does (.itmReqTimeout tag) s (fun d => d.rd (itmReg Reg.itmReqTimeout m) = s.dev.rd (itmReg Reg.itmReqTimeout m) + 1 ∧
        d.eachReq r.seq fun q => q.st = .ended ∧ q.status = some .timeout))

/-- Messages and completions that arrive over an Itmos link. -/
def Obligations.PeerAnswers : Prop := Sys2Proof.Claims.PeerMessages ∧ Sys2Proof.Claims.PeerCompletions

/-- R246, R247, R275: BLV_RATE takes a rate and BLV_SLEW adds whole nanoseconds to the pending slew in FREE or under a type-1 source, and
otherwise a write of them is refused and counted; a step in LOCKED without FORCE is refused, and any other adds the delta to VT or sets it,
clearing its fraction, and is counted. -/
def Sys2Proof.Claims.SteeringAndStepping : Prop :=
  ∀ (s : State) (v : Word) (abs force : Bool), Inv s →
    (s.dev.steerable = true →
      Does (.rateWrite v) s (fun d => d.onlyReg s.dev Reg.blvRate v ∧ d.blv.vt = s.dev.blv.vt ∧ d.blv.slew = s.dev.blv.slew) ∧
      After (.slewWrite v) s (fun d => d.blv.slew = s.dev.blv.slew + v.toInt * 2 ^ 32 ∧ d.blv.vt = s.dev.blv.vt ∧ d.mem = s.dev.mem)) ∧
    (s.dev.steerable = false → ∀ c : Instr, c = .rateWrite v ∨ c = .slewWrite v → Does c s (fun d =>
      d.counts s.dev Reg.sysAccessReject ∧ d.blv = s.dev.blv)) ∧
    (s.dev.blv.servo = .locked → force = false → Does (.vtStep abs force) s (fun d => d.blv = s.dev.blv ∧ d.mem = s.dev.mem ∧
      d.rd Reg.sysAccessReject = s.dev.rd Reg.sysAccessReject + 1)) ∧
    ((s.dev.blv.servo ≠ .locked ∨ force = true) → Does (.vtStep abs force) s (fun d => d.mem = s.dev.mem ∧
      d.rd Reg.blvStepCount = s.dev.rd Reg.blvStepCount + 1 ∧
      (abs = true → d.blv.vt = s.dev.rd64 Reg.blvStepLo ∧ d.blv.acc = 0) ∧
      (abs = false → 0 ≤ (s.dev.blv.vt : Int) + s.dev.stepDelta → (s.dev.blv.vt : Int) + s.dev.stepDelta < 2 ^ 64 →
        (d.blv.vt : Int) = s.dev.blv.vt + s.dev.stepDelta ∧ d.blv.acc = s.dev.blv.acc)))

/-- R181, R182, R241, R252: a parent sends SYNC with the vehicle time, the applied rate, its source and its steps; a SYNC of the source link shows
its offset and takes its STEPS plus one and its GM_ID; the counter pair takes the reading within 80 ns of the check counter, and its time is
invalid where both or neither are. -/
def Sys2Proof.Claims.TimeLinksAndCounters : Prop :=
  ∀ (s : State) (n : Fin 5) (seqid tx : Nat) (rate : Int) (source steps gm second check : Nat), Inv s → s.dev.itm.length = 5 →
    (s.dev.timeOn n.val = true → s.dev.timeParent n.val = true → After (.timeSyncSend n) s (fun d =>
      (∃ g, .sync n.val (s.dev.link n.val).timeSeq s.dev.vtStamp (s.dev.appliedRate % 2 ^ 32).toNat s.dev.sourceCode s.dev.timeSteps g ∈ d.out) ∧
      (d.link n.val).timeSeq = ((s.dev.link n.val).timeSeq + 1) % 65536)) ∧
    (∀ src, s.dev.timeOn n.val = true → s.dev.timeChild n.val = true → s.dev.blv.use = some src → s.dev.srcLink src = some n.val →
      s.dev.srcType src = 2 → Does (.timeSync n seqid tx rate source steps gm) s (fun d => d.blv.steps = (steps + 1) % 256 ∧ d.blv.gm = gm ∧
        d.rd Reg.blvOffset = BitVec.ofInt 32 (clampTo (2 ^ 31 - 1) (((tx : Int) + s.dev.syncDelay n.val - s.dev.vtStamp) / 4096)))) ∧
    ((s.dev.timeOn n.val = false ∨ s.dev.timeChild n.val = false) → Quiet (.timeSync n seqid tx rate source steps gm) s) ∧
    Does (.counterMismatch second check) s (fun d =>
      let far := fun x : Nat => x + 80 < check ∨ check + 80 < x
      d.blv.ctrFault = true ∧ d.counts s.dev Reg.blvCtrMismatch ∧
      (far s.dev.blv.vt → ¬far second → d.blv.vt = second % 2 ^ 64 ∧ d.blv.ctrInvalid = false) ∧
      (¬far s.dev.blv.vt → far second → d.blv.vt = s.dev.blv.vt ∧ d.blv.ctrInvalid = false) ∧
      ((far s.dev.blv.vt ↔ far second) → d.blv.vt = s.dev.blv.vt ∧ d.blv.ctrInvalid = true))

/-- R243, R244, R253: a source whose conditions hold becomes valid, and the one in use follows: the primary, the secondary while the primary is
invalid, and none, in which the servo holds over at the mean of its last rates; the primary comes back after REVERT_HOLD; ten seconds in HOLDOVER
make VT invalid; an edge of a pulse pin shows its offset and is captured. -/
def Sys2Proof.Claims.TimeSources : Prop :=
  ∀ (s : State) (src : BlvSource) (pin : Fin 48), Inv s →
    (s.dev.srcHolds src = false → Quiet (.sourceValid src) s) ∧
    (s.dev.srcHolds src = true → After (.sourceValid src) s (fun d => d.blv.ok src = true)) ∧
    (s.dev.srcHolds .primary = true → s.dev.standby = false → s.dev.blv.use = none → Does (.sourceValid .primary) s (fun d =>
      d.blv.use = some .primary ∧ d.counts s.dev Reg.blvSrcSwitch ∧
      ((s.dev.blv.servo = .free ∨ s.dev.blv.servo = .holdover) → d.blv.servo = .acquire))) ∧
    (s.dev.standby = false → s.dev.blv.use = some .primary →
      (s.dev.blv.secOk = true → Does (.sourceInvalid .primary) s (fun d => d.blv.use = some .secondary ∧ d.blv.priOk = false ∧
        d.counts s.dev Reg.blvSrcSwitch)) ∧
      (s.dev.blv.secOk = false → (s.dev.blv.servo = .acquire ∨ s.dev.blv.servo = .locked) → Does (.sourceInvalid .primary) s (fun d =>
        d.blv.use = none ∧ d.blv.servo = .holdover ∧ d.blv.slew = 0 ∧ d.rd Reg.blvRate = BitVec.ofInt 32 (meanRate s.dev.blv.rates) ∧
        d.rd Reg.blvSrcSwitch = s.dev.rd Reg.blvSrcSwitch + 1))) ∧
    (s.dev.flag Reg.blvSrcCfg 18 = true → s.dev.blv.use = some .secondary → s.dev.blv.priOk = true → Does .revertHoldExpiry s (fun d =>
      d.blv.use = some .primary ∧ d.counts s.dev Reg.blvSrcSwitch)) ∧
    (s.dev.flag Reg.blvSrcCfg 18 = false → Quiet .revertHoldExpiry s) ∧
    (s.dev.blv.servo = .holdover → After .holdoverLimit s (fun d => d.blv.holdExc = true ∧ d.vtValid = false)) ∧
    (s.dev.fld (Reg.blvTioCfg + 4 * pin.val) 0 3 ≠ 3 → Quiet (.ppsEdge pin) s) ∧
    (s.dev.fld (Reg.blvTioCfg + 4 * pin.val) 0 3 = 3 →
      (∀ x, s.dev.blv.use = some x → s.dev.srcType x = 3 → s.dev.srcArg x = pin.val → Does (.ppsEdge pin) s (fun d => d.rd Reg.blvOffset =
        BitVec.ofInt 32 (clampTo (2 ^ 31 - 1) (ppsOffset (s.dev.captureVt pin.val) (s.dev.fld Reg.blvPpsCfg 0 30) * 65536 / 4096)))) ∧
      (s.dev.blv.caps.length < 512 → (s.dev.tioPin pin.val).lastCap = none → After (.ppsEdge pin) s (fun d => d.blv.caps = s.dev.blv.caps ++
        [leBytes 8 (s.dev.captureVt pin.val) ++ leBytes 1 (pin.val + 128 * b2n (s.dev.tioPin pin.val).ovr) ++ leBytes 7 0])))

/-- Vehicle time: steering, stepping, sources and the time links. -/
def Obligations.TimeBase : Prop := Sys2Proof.Claims.SteeringAndStepping ∧ Sys2Proof.Claims.TimeLinksAndCounters ∧ Sys2Proof.Claims.TimeSources

/-- R254, R256, R258, R259: an armed slot is written by nobody and armed by nobody else; an arm that fails its checks is counted, and one that
passes arms the slot; a disarm leaves what is dispatched; enabling the scheduler skips an event that is already past its tolerance; at its instant
the next event is dispatched. -/
def Obligations.SchedulerSlots : Prop :=
  ∀ (s : State) (i : Fin 4096) (w : Fin 8) (v : Word) (be : BitVec 4), Inv s →
    let off := 0x84_0000 + 32 * i.val + 4 * w.val
    let img := s.dev.slotImg i.val
    ((s.dev.armedSlot? i.val).isSome = true → ∀ c : Instr, c = .slotWrite i w v be ∨ c = .slotArm i → Does c s (fun d =>
      d.rd Reg.sysAccessReject = s.dev.rd Reg.sysAccessReject + 1 ∧ d.blv = s.dev.blv ∧ d.rd off = s.dev.rd off ∧ d.mem = s.dev.mem)) ∧
    (s.dev.armedSlot? i.val = none →
      Does (.slotWrite i w v be) s (fun d => d.onlyReg s.dev off (mergeWord (s.dev.rd off) v be) ∧ d.blv = s.dev.blv) ∧
      (s.dev.armOk img = false → Does (.slotArm i) s (fun d => d.rd Reg.blvArmReject = s.dev.rd Reg.blvArmReject + 1 ∧ d.blv = s.dev.blv ∧
        d.mem = s.dev.mem)) ∧
      (s.dev.armOk img = true → s.dev.blv.vt ≤ bitsOf img 0 64 + slotTol img → After (.slotArm i) s (fun d =>
        d.blv.armed = s.dev.blv.armed ++ [{ slot := i.val, ref := s.dev.fab.nextSeq }] ∧ d.blv.res = s.dev.blv.res))) ∧
    After (.slotDisarm i) s (fun d => d.blv.armed = s.dev.blv.armed.filter (fun a => a.slot != i.val) ∧ d.blv.events = s.dev.blv.events) ∧
    (s.dev.flag Reg.blvSchedCfg 16 = true → Quiet .schedulerEnable s) ∧
    (s.dev.flag Reg.blvSchedCfg 16 = false → Does .schedulerEnable s (fun d => d.flag Reg.blvSchedCfg 16 = true ∧ d.mem = s.dev.mem ∧
      ∀ a : ArmedSlot, s.dev.blv.armed = [a] → a.next = 0 → bitsOf (s.dev.slotImg a.slot) 64 32 = 0 → s.dev.blv.events = [] →
        s.dev.blv.res.length < 256 → bitsOf (s.dev.slotImg a.slot) 0 64 + slotTol (s.dev.slotImg a.slot) < s.dev.blv.vt →
        d.blv.armed = [] ∧ d.blv.res.length = s.dev.blv.res.length + 1 ∧ d.rd Reg.blvSkipCount = s.dev.rd Reg.blvSkipCount + 1)) ∧
    ((s.dev.schedOn = false ∨ s.dev.nextDispatch = none) → Quiet .eventDispatch s) ∧
    ∀ a, s.dev.schedOn = true → s.dev.nextDispatch = some a → s.dev.standby = false → After .eventDispatch s (fun d =>
      (let img := s.dev.slotImg a.slot;
        d.blv.events = s.dev.blv.events ++ [{ slot := a.slot, img := img, n := a.next, due := dueOf img a.next, ref := a.ref, id := s.dev.blv.nextId }]) ∧
      d.blv.armed = s.dev.blv.armed.map fun (x : ArmedSlot) => if x.slot = a.slot then { x with next := a.next + 1 } else x)

/-- R263, R268: a due trigger drives its pin at VT less the pin's delays, and its event ends; the return edge of a pulse drives the pin back; an
edge that the pin's mode selects enters the capture FIFO with its stamp, or is counted as lost where that is full; in the safe state no trigger
executes. -/
def Sys2Proof.Claims.TriggersAndCaptures : Prop :=
  ∀ (s : State) (pin : Fin 48) (falling : Bool), Inv s → s.dev.blv.pins.length = 48 →
    let p := s.dev.tioPin pin.val
    let at' := ((16 * s.dev.blv.vt : Int) - s.dev.tioShift pin.val s.dev.blv.trimOut).toNat
    (s.dev.dep.safe = true → Quiet .triggerExecute s) ∧
    (∀ e : BlvEvent, s.dev.live = true → s.dev.blv.events = [e] → slotAction e.img = 1 → e.due ≤ s.dev.blv.vt → e.img.testBit 108 = false →
      bitsOf e.img 144 6 = pin.val → bitsOf e.img 152 3 = 2 → s.dev.fld (Reg.blvTioCfg + 4 * pin.val) 0 3 = 1 → p.level = false →
      p.lastEdge = none → e.dropLate ((s.dev.blv.vt : Int) - e.due) = false → After .triggerExecute s (fun d =>
        .tio pin.val true at' ∈ d.out ∧ d.blv.events = [] ∧ (d.tioPin pin.val).level = true ∧ (d.tioPin pin.val).lastEdge = some s.dev.blv.vt)) ∧
    (∀ t level, p.returnAt = some (t, level) → t ≤ s.dev.blv.vt → p.level = !level → s.dev.live = true → After (.pulseReturn pin) s (fun d =>
      .tio pin.val level at' ∈ d.out ∧ (d.tioPin pin.val).level = level ∧ (d.tioPin pin.val).returnAt = none)) ∧
    (p.returnAt = none → Quiet (.pulseReturn pin) s) ∧
    (s.dev.captures pin.val falling = false → Quiet (.tioCapture pin falling) s) ∧
    (s.dev.captures pin.val falling = true → p.lastCap = none →
      (s.dev.blv.caps.length < 512 → After (.tioCapture pin falling) s (fun d => d.blv.caps = s.dev.blv.caps ++
        [leBytes 8 (s.dev.captureVt pin.val) ++ leBytes 1 (pin.val + 64 * b2n falling + 128 * b2n p.ovr) ++ leBytes 7 0])) ∧
      (512 ≤ s.dev.blv.caps.length → Does (.tioCapture pin falling) s (fun d => d.counts s.dev Reg.blvCapOvf ∧ d.blv.caps = s.dev.blv.caps ∧
        (d.tioPin pin.val).ovr = true)))

/-- R259, R262, R264, R266: a due timed write or read is issued, and dropped and counted where it is later than its policy allows; its end leaves
a record with the time it executed and, for a read, the data, or with the failure; a CAN release makes a loaded, idle timed buffer pending, and is
NOT_READY where there is none; a device that drives nothing executes none of them. -/
def Sys2Proof.Claims.TimedAccesses : Prop :=
  ∀ (s : State) (e : BlvEvent), Inv s →
    (s.dev.live = false → ∀ c ∈ [Instr.timedWriteExecute, .timedReadExecute, .canReleaseExecute], Quiet c s) ∧
    (s.dev.live = true → s.dev.blv.events = [e] → e.issued = false → e.due ≤ s.dev.blv.vt → e.img.testBit 108 = false →
      (∀ (c : Instr) (k : Nat), (c, k) ∈ [(Instr.timedWriteExecute, 2), (Instr.timedReadExecute, 3)] → slotAction e.img = k →
        s.dev.timedUnit e = true →
        (e.dropLate ((s.dev.blv.vt : Int) - e.due) = false → After c s (fun d =>
          d.blv.events = [{ e with issued := true, execVt := s.dev.blv.vt, late := (s.dev.blv.vt : Int) - e.due }])) ∧
        (e.dropLate ((s.dev.blv.vt : Int) - e.due) = true → Does c s (fun d => d.rd Reg.blvDropCount = s.dev.rd Reg.blvDropCount + 1 ∧
          d.blv.events = [] ∧ d.fab = s.dev.fab ∧ d.mem = s.dev.mem))) ∧
      (slotAction e.img = 4 → e.dropLate ((s.dev.blv.vt : Int) - e.due) = false →
        let ch := 8 * bitsOf e.img 144 3 + bitsOf e.img 147 4
        let buf := bitsOf e.img 152 5
        (∀ x, ((s.dev.can.getD ch {}).bufs.find? fun y => y.1 == buf) = some x → x.2.pending = false → (s.dev.can.getD ch {}).busOff = false →
          (s.dev.rd (Reg.pavCanTxtimed + 0x10000 * bitsOf e.img 144 3 + 0x80 * bitsOf e.img 147 4)).getLsbD buf = true →
          Does .canReleaseExecute s (fun d => (∀ y ∈ (d.can.getD ch {}).bufs, y.1 = buf → y.2.pending = true) ∧ d.blv.events = [])) ∧
        (((s.dev.can.getD ch {}).bufs.find? fun y => y.1 == buf) = none → Does .canReleaseExecute s (fun d =>
          d.rd Reg.blvNotReady = s.dev.rd Reg.blvNotReady + 1 ∧ d.can = s.dev.can ∧ d.blv.events = [])))) ∧
    ∀ r, (s.dev.fab.reqs.find? fun r => r.agent == 62 && !r.posted && r.st == .ended) = some r →
      (s.dev.blv.events.find? fun x => x.id == r.otag) = some e → slotAction e.img = 3 → s.dev.blv.res.length < 256 →
      After .timedAccessComplete s (fun d => d.blv.events = s.dev.blv.events.filter (fun x => x.id != e.id) ∧
        ∃ x, d.blv.res = s.dev.blv.res ++ [x] ∧ x.take 8 = leBytes 8 e.execVt ∧
          (r.status = none → (x.drop 16).take 8 = leBytes 8 (leNat r.rdata)) ∧
          (∀ t, r.status = some t → (x.drop 10).take 2 = leBytes 1 4 ++ leBytes 1 (errCode t)))

/-- Triggers, captures, timed accesses and CAN releases. -/
def Obligations.TimedActions : Prop := Sys2Proof.Claims.TriggersAndCaptures ∧ Sys2Proof.Claims.TimedAccesses

/-- R276, R285, R380, R404, R416, R463: a pop removes the oldest record of its FIFO and nothing else; the error log's pop removes its oldest entry
only where it names that entry's SEQ, and is otherwise counted. -/
def Obligations.FifoPops : Prop :=
  ∀ (s : State) (q : BitVec 16), Inv s →
    Does .resultPop s (fun d => d = { s.clear with blv := { s.dev.blv with res := s.dev.blv.res.drop 1 } }) ∧
    Does .capturePop s (fun d => d = { s.clear with blv := { s.dev.blv with caps := s.dev.blv.caps.drop 1 } }) ∧
    Does .txtsPop s (fun d => d = { s.clear with blv := { s.dev.blv with txts := s.dev.blv.txts.drop 1 } }) ∧
    Does .rehashPop s (fun d => d = { s.clear with trl := { s.dev.trl with fifo := s.dev.trl.fifo.drop 1 } }) ∧
    Does .failPop s (fun d => d = { s.clear with gth := { s.dev.gth with fails := s.dev.gth.fails.drop 1 } }) ∧
    Does .evtPop s (fun d => d = { s.clear with wkt := { s.dev.wkt with events := s.dev.wkt.events.drop 1 } }) ∧
    Does .notePop s (fun d => d = { s.clear with dep := { s.dev.dep with notes := s.dev.dep.notes.drop 1 } }) ∧
    (∀ e t, s.dev.elog.entries = e :: t → e.seq = q.toNat → After (.elPop q) s (fun d => d.elog.entries = t ∧ d.mem = s.dev.mem)) ∧
    ((∀ e, s.dev.elog.entries.head? = some e → e.seq ≠ q.toNat) → Does (.elPop q) s (fun d =>
      d.counts s.dev Reg.intElPopMiss ∧ d.elog = s.dev.elog))

/-- R305, R319, R320, R326: a producer index is taken while the ring has room for it and otherwise refused and counted; a channel starts from its
producer index when it is enabled, is OFF when it is disabled, is held by HOLD, and keeps its ring size while it is enabled; with the Gazebo
enabled and no channel running, the next waiting channel runs and its first descriptor is fetched. -/
def Obligations.DmaChannels : Prop :=
  ∀ (s : State) (c : Fin 16) (v : Word), Inv s → s.dev.gzb.chans.length = 16 →
    let pi' := (maskedValue (s.dev.rd (gzbReg Reg.gzbChPi c)) v 0xFFFF).toNat % 65536
    let room := s.dev.ringSize c - s.dev.owned c
    let step := (pi' + 65536 - s.dev.pi c) % 65536
    let old := s.dev.rd (gzbReg Reg.gzbChCtl c)
    let new := maskedValue old v 0x1FF
    (room < step → Does (.gzbPiWrite c v) s (fun d => d.counts s.dev Reg.sysAccessReject ∧ d.gzb = s.dev.gzb)) ∧
    (step ≤ room → s.dev.gzb.running ≠ some c.val → Does (.gzbPiWrite c v) s (fun d => d.pi c = pi' ∧ (d.chan c).ownWait = false ∧
      (d.chan c).stopped = false ∧ d.mem = s.dev.mem)) ∧
    (fieldOf old 0 1 = 1 → fieldOf old 4 4 ≠ fieldOf new 4 4 → Does (.gzbChannelCtl c v) s (fun d =>
      d.counts s.dev Reg.sysAccessReject ∧ d.gzb = s.dev.gzb)) ∧
    (fieldOf old 0 1 = 0 → fieldOf new 0 1 = 1 → s.dev.gzb.halted = 0 → s.dev.gzb.running ≠ some c.val → Does (.gzbChannelCtl c v) s (fun d =>
      d.rd (gzbReg Reg.gzbChCtl c) = new ∧ d.ci c = s.dev.pi c ∧ (d.chan c).off = false ∧ (d.chan c).stopped = false ∧
      (d.chan c).held = (fieldOf new 1 1 == 1) ∧ d.mem = s.dev.mem)) ∧
    (fieldOf old 0 1 = 1 → fieldOf old 4 4 = fieldOf new 4 4 → s.dev.gzb.running ≠ some c.val →
      (fieldOf new 0 1 = 0 → Does (.gzbChannelCtl c v) s (fun d => d.onlyReg s.dev (gzbReg Reg.gzbChCtl c) new ∧ (d.chan c).off = true ∧
        (d.chan c).cause = 5)) ∧
      (fieldOf new 0 1 = 1 → fieldOf old 1 1 = 0 → fieldOf new 1 1 = 1 → Does (.gzbChannelCtl c v) s (fun d =>
        d.onlyReg s.dev (gzbReg Reg.gzbChCtl c) new ∧ (d.chan c).held = true ∧ (d.chan c).cause = 1))) ∧
    ((s.dev.gzb.running.isSome = true ∨ s.dev.gzb.draining = true) → Quiet .gzbRunStart s) ∧
    (s.dev.gzb.running = none → s.dev.gzb.draining = false → s.dev.flag Reg.gzbCtl 0 = true → s.dev.live = true → s.dev.nextRun = some c.val →
      s.dev.chanEn c = true → s.dev.chanHold c = false → (s.dev.chan c).pend = 0 → (s.dev.chan c).work = [] → (s.dev.chan c).fetched = [] →
      s.dev.gzb.reads = [] → Does .gzbRunStart s (fun d => d.gzb.running = some c.val ∧
        ∃ x ∈ d.gzb.reads, x.ch = c.val ∧ x.kind = 0 ∧ x.idx = s.dev.ci c))

/-- R307, R311, R313, R314, R316, R317, R321: a fetched block of two descriptors is kept in ring order; data that returns in order enters the
stream and the running CRC of its descriptor; what returns after a halt is discarded; with its write-back performed a descriptor is handed back:
CI and the count of descriptors advance. -/
def Sys2Proof.Claims.DmaDescriptors : Prop :=
  ∀ (s : State) (c : Fin 16) (tag : Nat), Inv s → s.dev.gzb.chans.length = 16 →
    (∀ r q, s.dev.gzbReq? tag = some r → (s.dev.gzb.reads.find? fun x => x.id == r.otag) = some q → r.status = none → q.ch = c.val →
      (q.kind = 0 → s.dev.gzb.running ≠ some c.val → (s.dev.chan c).work = [] → s.dev.descGa c q.idx % 64 = 0 →
        s.dev.descGa c (q.idx + 1) = s.dev.descGa c q.idx + 32 → (s.dev.chan c).fetched.length + 2 ≤ s.dev.owned c →
        Does (.gzbDescFetchDone tag) s (fun d => (d.chan c).fetched = (s.dev.chan c).fetched ++
          [(q.idx, leNat (r.rdata.take 32)), ((q.idx + 1) % 65536, leNat ((r.rdata.drop 32).take 32))])) ∧
      (∀ x, q.kind = 2 → r.op = .read → s.dev.desc? c q.idx = some x → x.parts = [] → x.inpos = q.pos → Does (.gzbReadCompletion tag) s (fun d =>
        ∃ y, d.desc? c q.idx = some y ∧ y.inpos = x.inpos + r.rdata.length ∧ y.crc = crcBytes x.crcSel x.crc r.rdata))) ∧
    (∀ r, s.dev.gzbReq? tag = some r → (s.dev.gzb.reads.find? fun x => x.id == r.otag) = none → r.seq < s.dev.fab.nextSeq →
      Does (.gzbReadCompletion tag) s (fun d => d.gzb = s.dev.gzb ∧ ∀ y ∈ d.fab.reqs, y.seq ≠ r.seq)) ∧
    (s.dev.gzbReq? tag = none → ∀ k ∈ [Instr.gzbDescFetchDone tag, .gzbReadCompletion tag, .gzbHalt tag], Quiet k s) ∧
    ∀ x t lo hi, (s.dev.chan c).work = x :: t → x.wb = some (lo, some hi) →
      (s.dev.gzbPending c lo hi = true → Quiet (.gzbHandback c) s) ∧
      (s.dev.gzbPending c lo hi = false → Does (.gzbHandback c) s (fun d => d.ci c = (s.dev.ci c + 1) % 65536 ∧
        d.rd (gzbReg Reg.gzbChDescDone c) = s.dev.rd (gzbReg Reg.gzbChDescDone c) + 1 ∧ d.mem = s.dev.mem))

/-- R321, R322: a failed request halts the engine: its enabled channels are HALTED, what was being read is discarded, and the first failure is
recorded; the drain ends with the last transaction of the Gazebo, and a restart held meanwhile then takes effect; a restart commit resumes the
channels it names, and with SKIP hands the interrupted descriptor back with ERR. -/
def Sys2Proof.Claims.DmaHaltAndRestart : Prop :=
  ∀ (s : State) (tag : Nat) (mask : BitVec 16) (skip : Bool), Inv s → s.dev.gzb.chans.length = 16 →
    let restart := if skip then Instr.restartSkip mask else Instr.restartResume mask
    (∀ r q t, s.dev.gzbReq? tag = some r → (s.dev.gzb.reads.find? fun x => x.id == r.otag) = some q → r.status = some t →
      Does (.gzbHalt tag) s (fun d => d.gzb.draining = true ∧ d.gzb.running = none ∧ d.gzb.reads = [] ∧
        (∀ c : Fin 16, s.dev.chanEn c = true → d.gzb.halted.getLsbD c = true) ∧
        (s.dev.gzb.halted = 0 → d.rd Reg.gzbHaltCount = s.dev.rd Reg.gzbHaltCount + 1 ∧ d.rd64 Reg.gzbHaltGa = r.ga % 2 ^ 48 ∧
          d.fld Reg.gzbHaltCause 0 8 = errCode t))) ∧
    (s.dev.gzb.draining = false → Quiet .gzbDrainDone s) ∧
    (s.dev.gzb.draining = true → (∀ r ∈ s.dev.fab.reqs, r.posted = false → ∀ c, r.ing ≠ .gzb c) →
      (s.dev.gzb.restart = none → After .gzbDrainDone s (fun d => d.gzb.draining = false ∧ d.gzb.halted = s.dev.gzb.halted)) ∧
      (∀ m k, s.dev.gzb.restart = some (m, k) → After .gzbDrainDone s (fun d => d.gzb.draining = false ∧
        d.gzb.halted = s.dev.gzb.halted &&& ~~~m ∧ d.gzb.restart = none))) ∧
    (s.dev.gzb.draining = true → After restart s (fun d => d.gzb.restart = some (mask, skip) ∧ d.gzb.halted = s.dev.gzb.halted)) ∧
    (s.dev.gzb.draining = false → After restart s (fun d => d.gzb.halted = s.dev.gzb.halted &&& ~~~mask ∧ d.gzb.restart = none)) ∧
    ∀ (c : Fin 16) (raw : Nat), s.dev.gzb.draining = false → skip = true → mask.getLsbD c = true → s.dev.gzb.halted.getLsbD c = true →
      0 < s.dev.owned c → (s.dev.chan c).lastRaw = some (s.dev.ci c, raw) → raw.testBit 255 = true → Does restart s (fun d =>
        ∃ x, (d.chan c).work = (s.dev.chan c).work ++ [x] ∧ x.idx = s.dev.ci c ∧ x.raw = raw ∧ x.noData = true ∧ x.err.isSome = true)

/-- Gazebo descriptors, halt, drain and restart. -/
def Obligations.DmaWork : Prop := Sys2Proof.Claims.DmaDescriptors ∧ Sys2Proof.Claims.DmaHaltAndRestart

/-- R328, R329, R333, R335, R340, R342: a good frame of an enabled CAN, LIN or Ethernet channel, or of a link that is UP, enters the ingress path
with its data and its source and is counted; a LIN frame with an error is counted only, as is an Ethernet frame with a bad FCS without cut-through
and a FRAME transfer of a wrong form; a channel that is off takes nothing. -/
def Obligations.FramesReceived : Prop :=
  ∀ (s : State) (ch : Fin 64) (r : CanRecord) (x : Received) (l : Fin 32) (id : Fin 64) (enh : Bool) (i : Fin 14) (n : Fin 5) (t : Transfer),
    Inv s → s.dev.itm.length = 5 →
    (s.dev.flag (canReg Reg.pavCanCtl ch) 0 = false → Quiet (.canFrameRx ch r x) s) ∧
    (s.dev.silent = false → s.dev.flag (canReg Reg.pavCanCtl ch) 0 = true → (s.dev.canCh ch).busOff = false → r.fmt.val = 0 → x.data.length ≤ 8 →
      s.dev.flag Reg.gthCtl 1 = false → (s.dev.frm.ins.filter fun y => y.port == 8 && y.chan == ch.val).length < 32 →
      1 ≤ s.dev.poolFree (ch / 8) → Does (.canFrameRx ch r x) s (fun d =>
        d.rd (canReg Reg.pavCanRxOk ch) = s.dev.rd (canReg Reg.pavCanRxOk ch) + 1 ∧
        d.entered s.dev fun y => y.frame.kind = 1 ∧ y.frame.src = ch.val ∧ y.frame.data = x.data ∧ y.frame.sof = x.sof ∧ y.chan = ch.val)) ∧
    (s.dev.silent = false → s.dev.flag (linReg Reg.pavLinCtl l) 0 = true → 1 ≤ x.data.length → x.data.length ≤ 8 →
      Does (.linFrameRx l id enh true x) s (fun d => d.rd (linReg Reg.pavLinRxOk l) = s.dev.rd (linReg Reg.pavLinRxOk l) + 1 ∧
        d.entered s.dev fun y => y.frame.kind = 2 ∧ y.frame.src = 64 + l.val ∧ y.frame.data = x.data) ∧
      Does (.linFrameRx l id enh false x) s (fun d => d.counts s.dev (linReg Reg.pavLinRxErr l) ∧ d.frm = s.dev.frm)) ∧
    (s.dev.silent = false → s.dev.flag (ethReg Reg.ethCtl i) 0 = true → (s.dev.mac.getD i {}).link = true →
      (60 ≤ x.data.length → x.data.length + 4 ≤ min 9216 (max 64 (s.dev.fld (ethReg Reg.ethCfg i) 0 14)) → (ethType x.data).1 ≠ 0x8808 →
        (ethType x.data).1 ≠ 0x22F0 → s.dev.flag (ethReg Reg.ethCtl i) 3 = false → s.dev.flag (secReg Reg.gthMsCtl i) 1 = false →
        Does (.ethFrameRx i true x) s (fun d => d.rd (ethReg Reg.ethRxOk i) = s.dev.rd (ethReg Reg.ethRxOk i) + 1 ∧
          d.entered s.dev fun y => y.frame.kind = 3 ∧ y.frame.src = 96 + i.val ∧ y.frame.data = x.data)) ∧
      (s.dev.cutThrough 7 4 = false → s.dev.cutThrough 7 5 = false → Does (.ethFrameRx i false x) s (fun d =>
        d.counts s.dev (ethReg Reg.ethRxFcsErr i) ∧ d.frm = s.dev.frm))) ∧
    (s.dev.linkUp n = true → s.dev.silent = false →
      (t.op ≠ 0x30 → Does (.itmFrame n t) s (fun d => d.rd (itmReg Reg.itmProtoErr n) = s.dev.rd (itmReg Reg.itmProtoErr n) + 1 ∧
        d.frm = s.dev.frm)) ∧
      (t.op = 0x30 → 1 ≤ t.length → t.length ≤ 9216 → t.data.length = t.length + 56 → leNat ((t.data.drop 2).take 2) % 2 ^ 14 = t.length →
        ((t.data.getD 0 0).toNat % 16 = 1 ∨ (t.data.getD 0 0).toNat % 16 = 2) → t.data.getD (48 + t.length) 0 = 0 →
        Does (.itmFrame n t) s (fun d => d.entered s.dev fun y => y.frame.data = (t.data.drop 48).take t.length ∧ y.frame.orig = t.orig ∧
          y.frame.ts = t.ts ∧ y.frame.src = (t.data.getD 1 0).toNat ∧ y.port = 2 + n.val)))

/-- R342, R346, R368, R373, R384: the next key on the lookup bus is looked up: a hit gives its frame the entry's TYPE and action; a STREAM miss
goes on with the ETH_L2 key; a miss whose channel drops unknown frames drops its frame; a hit on a locked entry parks the lookup, and a retry that
finds it still locked leaves it in its place; a lookup parked too long gives up and is counted. -/
def Obligations.FrameLookups : Prop :=
  ∀ (s : State) (i : Nat), Inv s →
    (s.dev.nextKey = none → Quiet .trlLookup s) ∧
    (∀ k, s.dev.nextKey = some k → k.ord = none →
      (∀ a, (s.dev.lookup k.key).2 = some a → entLock (s.dev.entAt a) = false → ∀ x, s.dev.inFrame? k.id = some x → Does .trlLookup s (fun d =>
        ∃ y, d.inFrame? k.id = some y ∧ y.hit = entType (s.dev.entAt a) ∧ y.action = entAction (s.dev.entAt a) ∧
          y.frame.group = bitsOf (entAction (s.dev.entAt a)) 0 12 ∧ y.frame.data = x.frame.data)) ∧
      (∀ a, (s.dev.lookup k.key).2 = some a → entLock (s.dev.entAt a) = true → s.dev.frm.parked.length < 64 → Does .trlLookup s (fun d =>
        d.frm.parked = s.dev.frm.parked ++ [{ key := k, since := s.dev.blv.vt }] ∧
        d.rd Reg.trlParked = s.dev.rd Reg.trlParked + 1 ∧ d.mem = s.dev.mem)) ∧
      ((s.dev.lookup k.key).2 = none →
        (∀ b, k.alt = some b → Does .trlLookup s (fun d => d.frm.keys = { k with key := b, alt := none } :: s.dev.frm.keys.erase k)) ∧
        (k.alt = none → ∀ x, s.dev.inFrame? k.id = some x → s.dev.missGroup x = none → Does .trlLookup s (fun d =>
          d.frm.ins = s.dev.frm.ins.filter fun y => y.id != k.id)))) ∧
    (s.dev.frm.parked[i]? = none → Quiet (.parkRetry i) s ∧ Quiet (.parkLockLimit i) s) ∧
    ∀ p, s.dev.frm.parked[i]? = some p →
      (∀ a, (s.dev.lookup p.key.key).2 = some a → entLock (s.dev.entAt a) = true → Does (.parkRetry i) s (fun d =>
        d.frm.parked = s.dev.frm.parked ∧ d.frm.ins = s.dev.frm.ins)) ∧
      (s.dev.blv.vt < p.since + s.dev.lockLimit → Quiet (.parkLockLimit i) s) ∧
      (p.since + s.dev.lockLimit ≤ s.dev.blv.vt → Does (.parkLockLimit i) s (fun d =>
        d.frm.parked = s.dev.frm.parked.take i ++ s.dev.frm.parked.drop (i + 1) ∧
        d.rd Reg.trlLockOverrun = s.dev.rd Reg.trlLockOverrun + 1 ∧ d.mem = s.dev.mem))

/-- R346, R347, R348, R353, R354: a frame whose action only forwards it leaves the ingress path as one transfer to the port of its egress,
rewritten as the action says; a capture record that is written advances its ring's WI by its slots; a PDU that is due is sent, or waits for
MIN_GAP. -/
def Obligations.FrameActions : Prop :=
  ∀ (s : State) (id e : Nat) (r : Fin 8) (n : Fin 2048), Inv s →
    (s.dev.inFrame? id = none → Quiet (.lookupResult id) s) ∧
    (∀ x, s.dev.inFrame? id = some x → x.stage ≠ .ready → Quiet (.lookupResult id) s) ∧
    (∀ x, s.dev.inFrame? id = some x → x.stage = .ready → s.dev.firstOfChan x = true → s.dev.live = true → x.frame.status = 0 → x.hit ≠ 2 →
      x.action.testBit 20 = false → x.action.testBit 24 = false → x.action.testBit 37 = false → x.sigs = [] → s.dev.flag Reg.gthCtl 0 = false →
      x.frame.dmask = 2 ^ e → e < 64 → e ≠ x.chan →
      let f := rewrite x.action { x.frame with yellow := false }
      s.dev.admits x.port 8 f.cls (frameCells f.data.length) = true → Does (.lookupResult id) s (fun d =>
        d.frm.xfers = s.dev.frm.xfers ++ [{ id := s.dev.frm.nextId, frame := f, inPort := x.port, outPort := 8, cls := f.cls, left := [e],
                                            cells := frameCells f.data.length }] ∧
        d.frm.ins = s.dev.frm.ins.filter (fun y => y.id != x.id) ∧ d.mem = s.dev.mem)) ∧
    ((s.dev.frm.caps.find? fun c => c.ring == r.val) = none → Quiet (.captureRecordCommit r) s) ∧
    (∀ c, (s.dev.frm.caps.find? fun c => c.ring == r.val) = some c → s.dev.capDone c = true → Does (.captureRecordCommit r) s (fun d =>
      d.fld (capReg Reg.pglCrWi r) 0 16 = (s.dev.fld (capReg Reg.pglCrWi r) 0 16 + c.slots) % 65536 ∧ d.frm.caps = s.dev.frm.caps.erase c ∧
      d.mem = s.dev.mem)) ∧
    (s.dev.gapOver n = true → ∀ c : Instr,
      (c = .pduTriggeredSend n ∧ s.dev.pduMode n % 2 = 1 ∧ (s.dev.pduSt n).trig = true) ∨ (c = .pduCyclicSend n ∧ s.dev.cyclicDue n = true) ∨
        (c = .pduGapEnd n ∧ (s.dev.pduSt n).wait = true ∧ s.dev.pduMode n ≠ 0) →
      After c s (fun d => (d.pduSt n).last = some s.dev.blv.vt ∧ (d.pduSt n).trig = false ∧ (d.pduSt n).wait = false)) ∧
    (s.dev.gapOver n = false → Quiet (.pduGapEnd n) s ∧ ∀ c : Instr,
      (c = .pduTriggeredSend n ∧ s.dev.pduMode n % 2 = 1 ∧ (s.dev.pduSt n).trig = true) ∨ (c = .pduCyclicSend n ∧ s.dev.cyclicDue n = true) →
      Does c s (fun d => (d.pduSt n).wait = true ∧ (d.pduSt n).trig = false ∧ (d.pduSt n).last = (s.dev.pduSt n).last ∧ d.sameStores s.dev))

/-- R401, R402, R404, R411: verification counts a frame that passes, and counts and drops one that fails where its profile does not pass failures
on; generation advances the profile's freshness value; a MACsec frame that is valid goes on to be parsed without its SecTAG, and any other is
discarded; a frame for a protected port goes on protected, or is discarded and counted where no SA may send it. -/
def Sys2Proof.Claims.FrameSecurity : Prop :=
  ∀ (s : State) (id : Nat) (i : Fin 14), Inv s →
    (s.dev.inFrame? id = none → Quiet (.authVerify id) s ∧ Quiet (.authGenerate id) s) ∧
    (∀ x k, s.dev.inFrame? id = some x → x.stage = .verify → s.dev.firstOfChan x = true → x.pdu = none → s.dev.authProf x = some k →
      (s.dev.profMode k ≠ 4 →
        (∀ b, s.dev.verifyTag k x.frame.data x.frame.sof = .ok b → (s.dev.profMode k = 1 ∨ s.dev.profMode k = 2) → Does (.authVerify id) s (fun d =>
          d.rd Reg.gthAuthOk = s.dev.rd Reg.gthAuthOk + 1 ∧ ∀ y ∈ d.frm.ins, y.id ≠ x.id)) ∧
        (∀ c, s.dev.verifyTag k x.frame.data x.frame.sof = .error c → s.dev.flag (profReg k 0) 3 = false → x.action.testBit 20 = false →
          Does (.authVerify id) s (fun d => d.rd Reg.gthAuthFail = s.dev.rd Reg.gthAuthFail + 1 ∧
            d.rd (profReg k 7) = s.dev.rd (profReg k 7) + 1 ∧ d.frm.ins = s.dev.frm.ins.filter (fun y => y.id != x.id) ∧
            d.frm.xfers = s.dev.frm.xfers ∧ d.mem = s.dev.mem))) ∧
      (∀ b, s.dev.profMode k = 4 → s.dev.genTag k x.frame.data = .ok b → s.dev.lastFv k + 1 < 2 ^ 64 → Does (.authGenerate id) s (fun d =>
        d.rd Reg.gthGenCount = s.dev.rd Reg.gthGenCount + 1 ∧ s.dev.lastFv k < d.lastFv k ∧ ∀ y ∈ d.frm.ins, y.id ≠ x.id))) ∧
    ((s.dev.frm.sec.find? fun q => q.mac == i.val) = none → Quiet (.macsecRx i) s) ∧
    (∀ q, (s.dev.frm.sec.find? fun q => q.mac == i.val) = some q →
      ((s.dev.secValidate i q.data).2 = none → Does (.macsecRx i) s (fun d => d.frm.sec = s.dev.frm.sec.erase q ∧ d.frm.ins = s.dev.frm.ins)) ∧
      (∀ data, (s.dev.secValidate i q.data).2 = some data → (ethType data).1 ≠ 0x22F0 → Does (.macsecRx i) s (fun d =>
        d.frm.sec = s.dev.frm.sec.erase q ∧ d.entered s.dev fun y => y.frame.data = data ∧ y.frame.src = 96 + i.val))) ∧
    ((s.dev.frm.xfers.find? fun x => x.id == id) = none → Quiet (.macsecTx id) s) ∧
    ∀ x, (s.dev.frm.xfers.find? fun x => x.id == id) = some x → x.secured = some i.val → (s.dev.xferAt id (96 + i)).isSome = true →
      ((s.dev.secProtect i x.frame.data).2 = none → Does (.macsecTx id) s (fun d =>
        d.counts s.dev (secReg Reg.gthMsOutPnExhaust i))) ∧
      (∀ data, (s.dev.secProtect i x.frame.data).2 = some data → Does (.macsecTx id) s (fun d =>
        d.rd (secReg Reg.gthMsOutProtected i) = s.dev.rd (secReg Reg.gthMsOutProtected i) + 1 ∧
        ((∃ z ∈ d.frm.xfers, z.frame.data = data ∧ z.outPort = 7 ∧ z.left = [96 + i.val]) ∨
          d.rd (pglReg Reg.pglInAdmitDrop 12) = s.dev.rd (pglReg Reg.pglInAdmitDrop 12) + 1)))

/-- R283, R407–R409: LOAD and EXPORT are refused to the Arcade and ERASE to all but the Lodge; an operation runs until its end shows its RESULT,
and another is refused meanwhile; ERASE empties its slot, EXPORT of an empty slot ends as 5, of a filled one leaves the wrapped key in the blob
window. -/
def Sys2Proof.Claims.KeyStore : Prop :=
  ∀ (s : State) (who : Requester) (slot : Fin 1024), Inv s →
    (58 ≤ who.val → who.val ≤ 61 → ∀ c ∈ [Instr.keySlotLoad who slot, .keySlotErase who slot, .keySlotExport who slot], Does c s (fun d =>
      d.oneMore s.dev .perm ∧ d.gth = s.dev.gth ∧ d.mem = s.dev.mem)) ∧
    (¬(58 ≤ who.val ∧ who.val ≤ 61) →
      (who.val ≠ 63 → Does (.keySlotErase who slot) s (fun d => d.oneMore s.dev .perm ∧ d.gth = s.dev.gth)) ∧
      (s.dev.gth.keyOp.isSome = true → ∀ c ∈ [Instr.keySlotLoad who slot, .keySlotExport who slot], Does c s (fun d =>
        d.counts s.dev Reg.sysAccessReject ∧ d.gth = s.dev.gth)) ∧
      (s.dev.gth.keyOp = none →
        Does (.keySlotLoad who slot) s (fun d => d.gth.keyOp = some (s.dev.loadBlob slot s.dev.blobWindow).2 ∧
          d.gth.slots = (s.dev.loadBlob slot s.dev.blobWindow).1.gth.slots ∧ d.fld Reg.gthKeyStatus 0 2 = 1) ∧
        (who.val = 63 → Does (.keySlotErase who slot) s (fun d => d.gth.keyOp = some 0 ∧ (∀ k ∈ d.gth.slots, k.slot ≠ slot.val) ∧
          ∀ k ∈ s.dev.gth.slots, k.slot ≠ slot.val → k ∈ d.gth.slots)) ∧
        ((s.dev.gth.slots.find? fun k => k.slot == slot.val) = none → Does (.keySlotExport who slot) s (fun d => d.gth.keyOp = some 5 ∧
          d.gth.slots = s.dev.gth.slots)) ∧
        (∀ k, (s.dev.gth.slots.find? fun k => k.slot == slot.val) = some k → Does (.keySlotExport who slot) s (fun d => d.gth.keyOp = some 0 ∧
          d.blobWindow = s.dev.wrapBlob k ∧ d.gth.slots = s.dev.gth.slots)))) ∧
    (∀ x, s.dev.gth.keyOp = some x → x < 8 → Does .keyOpDone s (fun d => d.gth.keyOp = none ∧ d.fld Reg.gthKeyStatus 0 2 = 2 ∧
      d.fld Reg.gthKeyStatus 2 3 = x ∧ d.gth.slots = s.dev.gth.slots)) ∧
    (s.dev.gth.keyOp = none → Quiet .keyOpDone s)

/-- Authentication, MACsec and the key store. -/
def Obligations.Gatehouse : Prop := Sys2Proof.Claims.FrameSecurity ∧ Sys2Proof.Claims.KeyStore

/-- R336–R338, R363, R450: a frame takes the lowest free buffer of its CAN channel, or is dropped and counted while the channel is off the bus;
the buffer that wins arbitration is offered and, once sent, emptied and counted; a timed buffer is loaded from the staging area; entry into
bus-off empties the buffers that are not timed, and recovery clears the error counters; an error on the bus adds to them. -/
def Sys2Proof.Claims.CanTransmission : Prop :=
  ∀ (s : State) (ch : Fin 64) (b : Fin 32) (tx eight : Bool) (xid : Nat), Inv s → s.dev.can.length = 64 →
    let c := s.dev.canCh ch
    let ctl := canReg Reg.pavCanCtl ch
    (s.dev.xferAt xid ch = none → Quiet (.canEgress xid ch) s) ∧
    (∀ y, s.dev.xferAt xid ch = some y →
      (c.busOff = true → Does (.canEgress xid ch) s (fun d => d.counts s.dev (canReg Reg.pavCanTxDrop ch) ∧ d.can = s.dev.can)) ∧
      (∀ f, s.dev.freeBuf ch = some f → c.busOff = false → s.dev.flag ctl 0 = true → s.dev.canSendable ch y.frame = true →
        poolBlocks y.frame.data.length ≤ s.dev.poolFree (ch / 8) → Does (.canEgress xid ch) s (fun d =>
          (f, ({ frame := y.frame } : CanBuf)) ∈ (d.canCh ch).bufs ∧ (∀ z ∈ c.bufs, z ∈ (d.canCh ch).bufs) ∧ d.sameStores s.dev))) ∧
    (s.dev.canActive ch = false → Quiet (.canTransmit ch) s ∧ Quiet (.canTxDone ch) s) ∧
    (s.dev.canActive ch = true →
      (∀ f x, winner c.bufs = some (f, x) → s.dev.tooOld x.frame.ts x.frame.maxAge = false → Does (.canTransmit ch) s (fun d =>
        (d.canCh ch).offer = some f ∧ (d.canCh ch).bufs = c.bufs ∧ d.sameStores s.dev)) ∧
      (∀ f x, c.offer = some f → (c.bufs.find? fun y => y.1 == f) = some (f, x) → s.dev.timedBuf ch f = false → Does (.canTxDone ch) s (fun d =>
        .can ch x.frame.fmeta x.frame.data ∈ d.out ∧ d.counts s.dev (canReg Reg.pavCanTxOk ch) ∧ (d.canCh ch).offer = none ∧
        (d.canCh ch).bufs = c.bufs.filter (fun y => y.1 != f) ∧ (d.canCh ch).txErr = c.txErr - 1))) ∧
    (s.dev.flag ctl 0 = true → c.busOff = false →
      Does (.canBusOff ch) s (fun d => (d.canCh ch).busOff = true ∧ (d.canCh ch).offer = none ∧
        d.rd (canReg Reg.pavCanBusOffCount ch) = s.dev.rd (canReg Reg.pavCanBusOffCount ch) + 1 ∧
        ∀ z ∈ (d.canCh ch).bufs, s.dev.timedBuf ch z.1 = true) ∧
      Does (.canBusError ch tx eight) s (fun d => d.counts s.dev (canReg Reg.pavCanBusErr ch) ∧
        (d.canCh ch).txErr = (if tx then min 255 (c.txErr + if eight then 8 else 1) else c.txErr) ∧
        (d.canCh ch).rxErr = if tx then c.rxErr else min 255 (c.rxErr + if eight then 8 else 1)) ∧
      Does (.canBusIntegration ch) s (fun d => (d.canCh ch).sync = true ∧ (d.canCh ch).bufs = c.bufs ∧ d.sameStores s.dev)) ∧
    (s.dev.flag ctl 4 = true → c.busOff = true → Does (.canBusRecovery ch) s (fun d => (d.canCh ch).busOff = false ∧ (d.canCh ch).txErr = 0 ∧
      (d.canCh ch).rxErr = 0 ∧ (d.canCh ch).sync = true ∧ d.sameStores s.dev)) ∧
    (s.dev.flag ctl 4 = false → Quiet (.canBusRecovery ch) s) ∧
    (s.dev.timedBuf ch b = false → Does (.txload ch b) s (fun d => d.counts s.dev Reg.sysAccessReject ∧ d.can = s.dev.can)) ∧
    ∀ (r : CanRecord) (bs : List Byte), s.dev.timedBuf ch b = true → r.fmt.val < 2 → canLenOk r.fmt.val bs.length = true →
      s.dev.blockBytes (stageReg ch) 16 = canRecordBytes r ++ leBytes 4 bs.length → s.dev.blockBytes (stageReg ch + 16) bs.length = bs →
      Does (.txload ch b) s (fun d => d.sameStores s.dev ∧ ∃ x, (b.val, x) ∈ (d.canCh ch).bufs ∧ x.pending = false ∧ x.frame.data = bs ∧
        x.frame.fmeta = canRecordBytes r)

/-- R340, R363: a frame fills the response-table entry of its frame ID; a header for which the channel publishes a response is answered and
counted, any other is waited for; the next entry of a running schedule sends its header; a header nobody answers is counted. -/
def Sys2Proof.Claims.LinChannels : Prop :=
  ∀ (s : State) (l : Fin 32) (id : Fin 64) (xid : Nat) (stuck : Bool), Inv s → s.dev.lin.length = 32 →
    let ctl := linReg Reg.pavLinCtl l
    (s.dev.xferAt xid (64 + l) = none → Quiet (.linEgress xid l) s) ∧
    (∀ y, s.dev.xferAt xid (64 + l) = some y → y.frame.kind = 2 → 1 ≤ y.frame.data.length → y.frame.data.length ≤ 8 →
      (y.frame.fmeta.getD 0 0).toNat % 64 = id.val → Does (.linEgress xid l) s (fun d =>
        d.rd64 (linEntry l id 0) = leNat y.frame.data ∧ d.fld (linEntry l id 2) 0 4 = y.frame.data.length ∧ d.flag (linEntry l id 2) 6 = true ∧
        d.flag (linEntry l id 2) 5 = s.dev.flag (linEntry l id 2) 5 ∧ d.mem = s.dev.mem)) ∧
    (s.dev.live = true → s.dev.flag ctl 0 = true → s.dev.flag ctl 1 = false →
      (∀ e data, s.dev.linResponse l id = some (e, data) → Does (.linHeaderRx l id) s (fun d => .linResponse l id e data ∈ d.out ∧
        d.counts s.dev (linReg Reg.pavLinTxOk l) ∧ (d.lin.getD l {}).header = none)) ∧
      (s.dev.linResponse l id = none → Does (.linHeaderRx l id) s (fun d => (d.lin.getD l {}).header = some id.val ∧ d.sameStores s.dev))) ∧
    (s.dev.live = true → s.dev.flag ctl 0 = true → s.dev.flag ctl 1 = true → s.dev.flag ctl 2 = true →
      let pos := if (s.dev.lin.getD l {}).active then ((s.dev.lin.getD l {}).pos + 1) % s.dev.linLen l else 0
      Does (.linScheduleEntry l) s (fun d => (d.lin.getD l {}).active = true ∧ (d.lin.getD l {}).pos = pos ∧
        .linHeader l (s.dev.fld (linMem l + 8 * pos) 0 6) ∈ d.out)) ∧
    Does (.linDomStuck l stuck) s (fun d => (d.lin.getD l {}).domStuck = stuck ∧ d.sameStores s.dev) ∧
    ((s.dev.lin.getD l {}).header.isSome = true → Does (.linNoResponse l) s (fun d => (d.lin.getD l {}).header = none ∧
      d.counts s.dev (linReg Reg.pavLinNoResp l))) ∧
    ((s.dev.lin.getD l {}).header = none → Quiet (.linNoResponse l) s)

/-- Transmission on CAN and LIN channels. -/
def Obligations.FieldTransmission : Prop := Sys2Proof.Claims.CanTransmission ∧ Sys2Proof.Claims.LinChannels

/-- R341, R343, R344, R349: a frame joins the queue of its MAC; a MAC that is ready starts the frame its gates and shapers choose, padded, with
the complemented FCS where its check failed; the gates follow the list, and stand open while it does not run; a link at another speed stays down;
a frame for a tunnel becomes one more message of it, CAN XL frames are dropped and counted, and a flush empties the tunnel into a frame. -/
def Obligations.EthernetTransmission : Prop :=
  ∀ (s : State) (i : Fin 14) (t : Fin 4) (xid : Nat) (data : List Byte) (up other : Bool), Inv s → s.dev.mac.length = 15 → s.dev.tun.length = 4 →
    let m := s.dev.mac.getD i {}
    (∀ y, s.dev.xferAt xid (96 + i) = some y → y.secured = none → y.frame.kind = 3 → Does (.ethEgress (.xfer xid) i) s (fun d =>
      (d.mac.getD i {}).queue = m.queue ++ [(s.dev.ethQueue i y.frame, y.frame)] ∧ d.sameStores s.dev)) ∧
    Does (.ethEgress (.gptp data) i) s (fun d => ∃ q f, (d.mac.getD i {}).queue = m.queue ++ [(q, f)] ∧ f.data = data ∧ d.sameStores s.dev) ∧
    (s.dev.ethReady i = false → Quiet (.ethTransmit i) s) ∧
    (∀ q f, s.dev.ethReady i = true → (s.dev.creditNow i).ethPick i = some (q, f) → s.dev.tooOld f.ts f.maxAge = false → Does (.ethTransmit i) s (fun d =>
      .eth i (f.data ++ List.replicate (60 - f.data.length) 0) (f.status != 0) ∈ d.out ∧ (d.mac.getD i {}).queue = m.queue.erase (q, f) ∧
      d.rd (ethReg (if f.status = 0 then Reg.ethTxOk else Reg.ethTxStomp) i) =
        s.dev.rd (ethReg (if f.status = 0 then Reg.ethTxOk else Reg.ethTxStomp) i) + 1 ∧ d.mem = s.dev.mem)) ∧
    (s.dev.flag (ethReg Reg.ethTasCtl i) 0 = false → Does (.tasGateChange i) s (fun d => (d.mac.getD i {}).gates = 255 ∧
      (d.mac.getD i {}).tasRun = false ∧ d.sameStores s.dev)) ∧
    (s.dev.flag (ethReg Reg.ethTasCtl i) 0 = true →
      (s.dev.blv.vt < s.dev.rd64 (ethReg Reg.ethTasBaseLo i) → Quiet (.tasGateChange i) s) ∧
      (∀ p, s.dev.rd64 (ethReg Reg.ethTasBaseLo i) ≤ s.dev.blv.vt → m.tasRun = true →
        ((s.dev.tasPieces i).find? fun p => decide (p.2.1 ≤ s.dev.tasOffset i) && decide (s.dev.tasOffset i < p.2.2)) = some p →
        Does (.tasGateChange i) s (fun d => (d.mac.getD i {}).gates = p.1 ∧ d.sameStores s.dev))) ∧
    Does (.ethLinkChange i up other) s (fun d => (d.mac.getD i {}).link = (up && !other) ∧ (d.mac.getD i {}).speedErr = other ∧ d.sameStores s.dev) ∧
    (∀ y, s.dev.xferAt xid (120 + t) = some y → s.dev.flag (tunReg Reg.ethTunCtl t) 0 = true → y.frame.kind = 1 →
      (y.frame.canFmt = 2 → Does (.tunnelEgress xid t) s (fun d => d.counts s.dev (tunReg Reg.ethTunXlDrop t) ∧ d.tun = s.dev.tun)) ∧
      (y.frame.canFmt ≠ 2 →
        let x := acfMessage (s.dev.flag (tunReg Reg.ethTunCtl t) 3) y.frame
        s.dev.avtpHead t + (s.dev.tun.getD t {}).msgs.flatten.length + x.length ≤ 64 → After (.tunnelEgress xid t) s (fun d =>
          (d.tun.getD t {}).msgs = (s.dev.tun.getD t {}).msgs ++ [x] ∧ d.mem = s.dev.mem))) ∧
    ((s.dev.tun.getD t {}).since + 1000 * min 1000 (s.dev.fld (tunReg Reg.ethTunCtl t) 19 10) ≤ s.dev.blv.vt →
      ((s.dev.tun.getD t {}).msgs = [] → Quiet (.tunnelFlush t) s) ∧
      ((s.dev.tun.getD t {}).msgs ≠ [] → After (.tunnelFlush t) s (fun d => (d.tun.getD t {}).msgs = [] ∧
        (d.tun.getD t {}).txSeq = ((s.dev.tun.getD t {}).txSeq + 1) % 256 ∧ d.mem = s.dev.mem)))

/-- R19, R357, R358, R360: what has waited beyond its limit is promoted, and a promoted transfer is counted; a transfer with lost cells is
discarded, its cells counted and its plane out; what had a cell in a plane that stops loses it. -/
def Obligations.PergolaEvents : Prop :=
  ∀ (s : State) (o : BusOwner) (xid : Nat) (forced : Bool) (k : Fin 2) (frames : List Nat), Inv s →
    (s.dev.bidders o = true → o ∉ s.dev.lbu.promoted → After (.agePromoteExpiry (.bus o)) s (fun d =>
      d.lbu.promoted = s.dev.lbu.promoted ++ [o] ∧ d.mem = s.dev.mem)) ∧
    (s.dev.bidders o = false → Quiet (.agePromoteExpiry (.bus o)) s) ∧
    (∀ y, (s.dev.frm.xfers.find? fun y => y.id == xid && !y.promoted) = some y → Does (.agePromoteExpiry (.xfer xid)) s (fun d =>
      d.counts s.dev (pglReg Reg.pglOutPromote y.outPort) ∧
      d.frm.xfers = s.dev.frm.xfers.map fun (z : Xfer) => if z.id = xid then { z with promoted := true } else z)) ∧
    (∀ y, (s.dev.frm.xfers.find? fun y => y.id == xid) = some y →
      (y.lost = 0 → Quiet (.seqLossTimeout xid forced) s) ∧
      (y.lost ≠ 0 → Does (.seqLossTimeout xid forced) s (fun d => d.frm.xfers = s.dev.frm.xfers.filter (fun z => z.id != xid) ∧
        d.rd Reg.pglLostSum = s.dev.rd Reg.pglLostSum + BitVec.ofNat 32 y.lost ∧
        d.dep.planeOk = s.dev.dep.planeOk &&& (3 - 2 ^ y.lostPlane) ∧ d.mem = s.dev.mem))) ∧
    ((s.dev.flag Reg.pglCtl k && s.dev.dep.planeOk.testBit k) = true → Quiet (.planeDisable k frames []) s) ∧
    ((s.dev.flag Reg.pglCtl k && s.dev.dep.planeOk.testBit k) = false → Does (.planeDisable k frames []) s (fun d =>
      d.frm.xfers = s.dev.frm.xfers.map (fun (x : Xfer) => if frames.contains x.id then { x with lost := x.lost + 1, lostPlane := k } else x) ∧
      d.sameStores s.dev))

/-- R378, R381, R392: INSERT of a key that is there ends as EXISTS; of a new key it writes the entry, valid and of the current generation, into
the first free slot of its first bucket; DELETE of a key that is not there ends as NOT_FOUND, of a locked entry as LOCKED, and otherwise makes the
entry invalid; FIND leaves the entry in TRL_CMD_ENTRY. -/
def Sys2Proof.Claims.TableCommands : Prop :=
  ∀ (s : State) (b sl : Nat), Inv s →
    let key := leBytes 16 (entKey s.dev.cmdEntry)
    let found := s.dev.findIn s.dev.trl.active key
    let a := s.dev.slotAddr s.dev.trl.active b sl
    (s.dev.trl.cmd = none → ∀ c ∈ [Instr.trlInsert, .trlDelete, .trlFind], Quiet c s) ∧
    (s.dev.trl.cmd = some (1, false) → s.dev.shadowOn = false →
      (found = some (b, sl) → Does .trlInsert s (fun d => d.trlEnded 1 ∧ d.mem = s.dev.mem)) ∧
      (found = none → b = (s.dev.buckets s.dev.trl.active key).1 → s.dev.slotIn s.dev.trl.active b entFree = some sl → Does .trlInsert s (fun d =>
        d.trlEnded 0 ∧ d.entAt a = putBits (putBits s.dev.cmdEntry 240 1 1) 248 8 s.dev.generation ∧
        d.rd Reg.trlCmdBucket = BitVec.ofNat 32 b ∧ d.fld Reg.trlCmdStatus 5 2 = sl ∧
        ∀ x, (x < a ∨ a + 32 ≤ x) → d.byteAt x = s.dev.byteAt x))) ∧
    (s.dev.trl.cmd = some (2, false) → s.dev.shadowOn = false →
      (found = none → Does .trlDelete s (fun d => d.trlEnded 2 ∧ d.mem = s.dev.mem)) ∧
      (found = some (b, sl) →
        (entLock (s.dev.entAt a) = true → Does .trlDelete s (fun d => d.trlEnded 5 ∧ d.mem = s.dev.mem)) ∧
        (entLock (s.dev.entAt a) = false → Does .trlDelete s (fun d => d.trlEnded 0 ∧ entValid (d.entAt a) = false ∧
          ∀ x, (x < a ∨ a + 32 ≤ x) → d.byteAt x = s.dev.byteAt x)))) ∧
    (s.dev.trl.cmd = some (3, false) →
      (found = none → Does .trlFind s (fun d => d.trlEnded 2 ∧ d.mem = s.dev.mem)) ∧
      (found = some (b, sl) → Does .trlFind s (fun d => d.trlEnded 0 ∧ d.cmdEntry = s.dev.entAt a ∧ d.mem = s.dev.mem)))

/-- R382, R385–R387: the sweeper clears a hit mark, then marks an entry, then removes it where it is not static, and leaves a locked one; the
generation advances while no transfer of the next one is inside, and otherwise the advance is refused; the rehash owner switches the tables with
the generation, anyone else's switch ends as PERM. -/
def Sys2Proof.Claims.TableUpkeep : Prop :=
  ∀ (s : State) (sl : Fin 4) (who : Requester) (area : Fin 2), Inv s →
    let bk := s.dev.trl.sweep % s.dev.areaNb s.dev.trl.active
    let a := s.dev.slotAddr s.dev.trl.active bk sl
    let e := s.dev.entAt a
    ((s.dev.flag Reg.trlAgePeriod 12 = false ∨ s.dev.standby = true) → Quiet .sweeperVisit s) ∧
    (s.dev.flag Reg.trlAgePeriod 12 = true → s.dev.standby = false → s.dev.shadowOn = false → Does .sweeperVisit s (fun d =>
      d.trl.sweep = (bk + 1) % s.dev.areaNb s.dev.trl.active ∧
      (entLock e = true → d.entAt a = e) ∧
      (entValid e = true → entLock e = false → typeOk (entType e) = true →
        (entHit e = true → entHit (d.entAt a) = false ∧ entValid (d.entAt a) = true ∧ entKey (d.entAt a) = entKey e) ∧
        (entHit e = false → entAge e = false → entAge (d.entAt a) = true ∧ entValid (d.entAt a) = true) ∧
        (entHit e = false → entAge e = true → entValid (d.entAt a) = entStatic e)))) ∧
    (s.dev.genFree = true → Does .genAdvance s (fun d => d.onlyReg s.dev Reg.trlGen (BitVec.ofNat 32 ((s.dev.generation + 1) % 256)))) ∧
    (s.dev.genFree = false → Does .genAdvance s (fun d => d.counts s.dev Reg.sysAccessReject)) ∧
    (s.dev.ownerAdmits who.val = false → Does (.tableSwitch who area) s (fun d => d.oneMore s.dev .perm ∧ d.trl = s.dev.trl ∧ d.mem = s.dev.mem)) ∧
    (s.dev.ownerAdmits who.val = true →
      (s.dev.shadowOn = false → Does (.tableSwitch who area) s (fun d => d.counts s.dev Reg.sysAccessReject ∧ d.trl = s.dev.trl)) ∧
      (s.dev.shadowOn = true → s.dev.genFree = true → s.dev.areaOk area = true → Does (.tableSwitch who area) s (fun d =>
        d.trl.active = area.val ∧ d.trl.sweep = 0 ∧ d.shadowOn = false ∧ d.generation = (s.dev.generation + 1) % 256 ∧ d.mem = s.dev.mem)))

/-- Trellis commands, sweeping, generations and table switches. -/
def Obligations.TableCommands : Prop := Sys2Proof.Claims.TableCommands ∧ Sys2Proof.Claims.TableUpkeep

/-- R414–R417: a wake-up pattern, a wake frame, a LIN wake pulse, a PHY pin, a wake pin and the wake timer, each where it is enabled and lasts
long enough, leave a record with the time, the class and the input, and outside RUN want the items of their class's plan. -/
def Obligations.WakeEvents : Prop :=
  ∀ (s : State) (ch : Fin 64) (l : Fin 32) (i : Fin 14) (k : Fin 8) (us : Nat) (high stale : Bool) (rate : Fin 4) (id : BitVec 29) (ide rtr : Bool)
    (dlc : Fin 16) (data : List Byte), Inv s → s.dev.wkt.events.length < 32 →
    let find := (List.range 64).find? fun p => s.dev.patMatches p ch.val id.toNat ide rtr dlc.val data
    (s.dev.inputCounts stale = true →
      (s.dev.flag (Reg.wktCanCfg + 4 * ch) 0 = true → max 1 (s.dev.fld (Reg.wktCanCfg + 4 * ch) 8 8) ≤ us →
        After (.canWup ch us stale) s (fun d => d.woke s.dev 2 ch)) ∧
      (s.dev.flag (Reg.wktLinCfg + 4 * l) 0 = true → 10 * s.dev.fld (Reg.wktLinCfg + 4 * l) 8 8 ≤ us →
        After (.linWake l us stale) s (fun d => d.woke s.dev 3 l)) ∧
      (100 * s.dev.fld Reg.wktPinCfg 16 8 ≤ us →
        (s.dev.flag Reg.wktPhyCfg i = true → s.dev.flag Reg.wktPhyCfg (16 + i) = high → After (.phyWake i high us stale) s (fun d =>
          d.woke s.dev 4 i)) ∧
        (s.dev.flag Reg.wktPinCfg k = true → s.dev.flag Reg.wktPinCfg (8 + k) = high → After (.wakePin k high us stale) s (fun d =>
          d.woke s.dev 5 k)))) ∧
    (s.dev.inputCounts stale = false → ∀ c ∈ [Instr.canWup ch us stale, .linWake l us stale, .phyWake i high us stale, .wakePin k high us stale],
      Quiet c s) ∧
    (s.dev.flag (Reg.wktCanCfg + 4 * ch) 1 = true → s.dev.fld (Reg.wktCanCfg + 4 * ch) 2 2 = rate.val →
      (∀ p, find = some p → After (.canWakeFrame ch rate id ide rtr dlc data) s (fun d => d.woke s.dev 1 p)) ∧
      (find = none → Quiet (.canWakeFrame ch rate id ide rtr dlc data) s)) ∧
    (∀ e, s.dev.wkt.entered = some e → s.dev.fld Reg.wktTimer 0 32 ≠ 0 → (s.dev.wkt.mode = .standby ∨ s.dev.wkt.mode = .sleep) →
      e + s.dev.fld Reg.wktTimer 0 32 ≤ s.dev.rd64 Reg.wktAonTime → After .wakeTimer s (fun d => d.woke s.dev 6 0 ∧ d.wkt.entered = none)) ∧
    (s.dev.wkt.entered = none → Quiet .wakeTimer s)

/-- R413, R417–R419: the next item starts where the wake-current budget allows it, and otherwise waits and is counted once; it is ready after its
SETTLE, the Lodge's item with start-up; STANDBY and SLEEP are entered by the Lodge alone, and not while an event waits; items are switched off one
by one, and with the last the mode is entered. -/
def Obligations.PowerItems : Prop :=
  ∀ (s : State) (j : Fin 16) (peer : Bool) (who : Requester), Inv s →
    let cost := min (s.dev.itemCost j) s.dev.wcuBudget
    (s.dev.nextItem = none → Quiet .itemStart s) ∧
    (s.dev.nextItem = some j.val →
      (s.dev.wcuUsed + cost ≤ s.dev.wcuBudget → After .itemStart s (fun d => d.item j = { on := true, ready := false, wanted := true, since := s.dev.wkt.now } ∧
        d.wkt.starts = s.dev.wcuStarts ++ [(s.dev.wkt.now, cost)] ∧ (j.val < 8 → .pwrEn j true ∈ d.out) ∧ d.mem = s.dev.mem)) ∧
      (s.dev.wcuBudget < s.dev.wcuUsed + cost → (s.dev.item j).waited = false → Does .itemStart s (fun d => d.counts s.dev Reg.wktBudgetWait ∧
        (d.item j).waited = true ∧ (d.item j).on = (s.dev.item j).on)) ∧
      (s.dev.wcuBudget < s.dev.wcuUsed + cost → (s.dev.item j).waited = true → Quiet .itemStart s)) ∧
    (s.dev.wkt.now < (s.dev.item j).since + s.dev.itemSettle j → Quiet (.itemReady j peer) s) ∧
    ((s.dev.item j).on = true → (s.dev.item j).ready = false → (s.dev.item j).since + s.dev.itemSettle j ≤ s.dev.wkt.now →
      (j.val ≠ 9 → After (.itemReady j peer) s (fun d => (d.item j).ready = true ∧ d.mem = s.dev.mem)) ∧
      (j.val = 9 → s.dev.wkt.mode ≠ .standby → s.dev.noHeader → Does (.itemReady j peer) s (fun d => d.ldg.recovery = true ∧
        d.fld Reg.ldgStatus 0 3 = 6 ∧ d.mem = [] ∧ d.ldg.flash = s.dev.ldg.flash))) ∧
    (who.val ≠ 63 → ∀ c ∈ [Instr.standbyEntry who, .sleepEntry who], Does c s (fun d => d.oneMore s.dev .perm ∧ d.wkt = s.dev.wkt)) ∧
    (who.val = 63 → s.dev.wkt.mode = .run → ∀ c m, (c, m) ∈ [(Instr.standbyEntry who, WktMode.standby), (Instr.sleepEntry who, WktMode.sleep)] →
      (s.dev.wkt.events = [] → After c s (fun d => d.wkt.mode = .entering ∧ d.wkt.target = m)) ∧
      (s.dev.wkt.events ≠ [] → After c s (fun d => d.wkt.mode = .run ∧ d.wkt.lastEntry = 2))) ∧
    (s.dev.wkt.mode ≠ .entering → Quiet .itemSwitchOff s) ∧
    (s.dev.wkt.mode = .entering → s.dev.nextOff = none → After .itemSwitchOff s (fun d => d.wkt.mode = s.dev.wkt.target ∧ d.wkt.lastEntry = 1 ∧
      d.wkt.entered = some (s.dev.rd64 Reg.wktAonTime) ∧ d.mem = s.dev.mem)) ∧
    (s.dev.wkt.mode = .entering → s.dev.nextOff = some j.val → 3 ≤ j.val → j.val < 8 → After .itemSwitchOff s (fun d =>
      (d.item j).on = false ∧ .pwrEn j false ∈ d.out ∧ d.mem = s.dev.mem)) ∧
    After .xtalFail s (fun d => d.wkt.xtalOk = false ∧ d.wkt.mode = s.dev.wkt.mode ∧ d.mem = s.dev.mem)

/-- R426, R429–R431, R450, R455, R462, R494: each checker's finding stands in the dependability block; a clean word is forgotten, a corrected one
counted, an uncorrectable one logged once; a swap-in moves the unit onto a free spare, with its entry in the spare map, and is refused where there
is none. -/
def Sys2Proof.Claims.CheckersAndSpares : Prop :=
  ∀ (s : State) (out : Bool) (k : Fin 2) (kind : Fin 16) (unit : Nat) (u : BitVec 24) (m : Fin 15) (w : Nat) (f : ScrubFind), Inv s →
    Does .lockstepMismatch s (fun d => d = { s.clear with dep := { s.dev.dep with lockstep := true } }) ∧
    Does (.clockOutOfRange out) s (fun d => d = { s.clear with dep := { s.dev.dep with clockBad := out } }) ∧
    Does (.supplyOutOfRange out) s (fun d => d = { s.clear with dep := { s.dev.dep with supplyBad := out } }) ∧
    (s.dev.dep.planeOk < 4 → Does (.planeFault k) s (fun d => d.dep.planeOk.testBit k = false ∧
      d.dep.planeOk.testBit (1 - k) = s.dev.dep.planeOk.testBit (1 - k) ∧ d.sameStores s.dev)) ∧
    (s.dev.fld Reg.ldgStatus 3 3 = 2 → Does .arcadeHeartbeatMissing s (fun d => d = { s.clear with dep := { s.dev.dep with arcadeMissing := true } })) ∧
    (s.dev.fld Reg.ldgStatus 3 3 ≠ 2 → Quiet .arcadeHeartbeatMissing s) ∧
    (unitExists kind unit = true → (kind.val, unit) ∉ s.dev.dep.unitFaults → Does (.unitFault kind unit) s (fun d =>
      d.dep.unitFaults = s.dev.dep.unitFaults ++ [(kind.val, unit)] ∧ d.sameStores s.dev)) ∧
    (unitExists kind unit = false → Quiet (.unitFault kind unit) s) ∧
    (s.dev.fld Reg.depScrubCfg (if m.val = 2 then 8 else 0) (if m.val = 2 then 16 else 8) = 0 → Quiet (.scrubVisit m w f) s) ∧
    (s.dev.fld Reg.depScrubCfg (if m.val = 2 then 8 else 0) (if m.val = 2 then 16 else 8) ≠ 0 →
      Does (.scrubVisit m w .clean) s (fun d => eccDetail m w ∉ d.dep.scrubbed ∧ d.sameStores s.dev) ∧
      (∀ b, m.val ≠ 2 → Does (.scrubVisit m w (.corrected b)) s (fun d => d.rd Reg.depCorrCount = s.dev.rd Reg.depCorrCount + 1 ∧
        d.mem = s.dev.mem)) ∧
      (eccDetail m w ∈ s.dev.dep.scrubbed → Quiet (.scrubVisit m w .uncorrectable) s) ∧
      (eccDetail m w ∉ s.dev.dep.scrubbed → Does (.scrubVisit m w .uncorrectable) s (fun d => d.oneMore s.dev .decUncorr ∧
        eccDetail m w ∈ d.dep.scrubbed ∧ d.mem = s.dev.mem))) ∧
    (5 ≤ kind.val → kind.val ≤ 8 →
      (s.dev.spareFree kind u.toNat = true → s.dev.dep.mapUsed < 64 → Does (.swapIn kind u) s (fun d =>
        (∃ x, d.dep.spares = s.dev.dep.spares ++ [x] ∧ x.kind = kind.val ∧ x.unit = u.toNat) ∧ d.dep.mapUsed = s.dev.dep.mapUsed + 1 ∧
        (kind.val, u.toNat) ∉ d.dep.unitFaults ∧ d.rd Reg.depSpareCount = s.dev.rd Reg.depSpareCount + 1 ∧ d.mem = s.dev.mem)) ∧
      (s.dev.spareFree kind u.toNat = false → Does (.swapIn kind u) s (fun d => d.dep = s.dev.dep ∧
        d.rd Reg.sysAccessReject = s.dev.rd Reg.sysAccessReject + 1 ∧ d.mem = s.dev.mem)))

/-- R432–R434: a fault bit of fixed action that rises with its action set to FAIL brings a device without a standing twin into the safe state: its
outputs are silent, LRESET_N is low and the fault manager's register names the bit. -/
def Sys2Proof.Claims.SafeState : Prop :=
  ∀ (s : State), Inv s → s.dev.dep.lockstep = false → s.dev.hub.damaged = [] → s.dev.fld Reg.depFaultAct 2 2 = 2 → s.dev.peerStandby = false →
    s.dev.dep.safe = false → After .lockstepMismatch s (fun d => d.dep.safe = true ∧ d.silent = true ∧ d.lbu.lreset = true ∧
      d.fld Reg.depFaultLast 0 4 = 1 ∧ d.mem = s.dev.mem)

/-- Checkers, spares, scrubbing and the safe state. -/
def Obligations.DependabilityUnits : Prop := Sys2Proof.Claims.CheckersAndSpares ∧ Sys2Proof.Claims.SafeState

/-- R438, R444, R447: a member in STARTING, or in a round of the tie-break, becomes ACTIVE when its wait ends and SYNCING when the peer rose
meanwhile; of two ACTIVE members of one preference each leaves ACTIVE for a round, of two preferences only the one without it leaves; a STANDBY
takes over where the peer's line falls; a planned handover ends in SYNCING and is refused where nothing protects it. -/
def Obligations.TwinDecisions : Prop :=
  ∀ (s : State) (rose same : Bool), Inv s →
    (∀ c : Instr, (c = .twinPreferWait rose ∧ s.dev.twin.state = .starting ∧ s.dev.twin.en = true ∧ s.dev.fld Reg.ldgStatus 0 3 = 5) ∨
        (c = .twinTieRound rose ∧ s.dev.twin.state = .unsync ∧ s.dev.twin.tieRound.isSome = true) →
      Does c s (fun d => d.mem = s.dev.mem ∧ (rose = true → d.twin.state = .syncing ∧ d.twin.peerAct = true) ∧
        (rose = false → d.twin.state = .active ∧ d.lbu.lreset = !s.dev.flag Reg.lbuCtl 0))) ∧
    (s.dev.twin.state ≠ .starting → Quiet (.twinPreferWait rose) s) ∧
    (s.dev.twin.tieRound = none → Quiet (.twinTieRound rose) s) ∧
    (s.dev.twin.state ≠ .active → Quiet (.twinDualActive same) s) ∧
    (s.dev.twin.state = .active →
      (same = true → Does (.twinDualActive same) s (fun d => d.twin.state = .unsync ∧ d.twin.tieRound.isSome = true ∧
        d.rd Reg.depDualActive = s.dev.rd Reg.depDualActive + 1)) ∧
      (same = false → s.dev.twin.prefer = false → Does (.twinDualActive same) s (fun d => d.twin.state = .syncing ∧
        d.rd Reg.depDualActive = s.dev.rd Reg.depDualActive + 1)) ∧
      (same = false → s.dev.twin.prefer = true → Quiet (.twinDualActive same) s)) ∧
    (s.dev.twin.state = .standby → Does .takeover s (fun d => d.twin.state = .active ∧ d.twin.mirror = [] ∧
      d.twin.planned = !s.dev.twin.peerUnfit ∧ d.lbu.lreset = (!s.dev.flag Reg.lbuCtl 0) ∧
      d.rd Reg.depTwinTakeovers = s.dev.rd Reg.depTwinTakeovers + 1 ∧ d.mem = s.dev.mem)) ∧
    (s.dev.twin.state ≠ .standby → Does .takeover s (fun d => d = { s.clear with twin := { s.dev.twin with peerAct := false } })) ∧
    (s.dev.twin.handover = false → s.dev.twin.prot = false → Does .plannedHandover s (fun d => d.counts s.dev Reg.sysAccessReject ∧
      d.twin = s.dev.twin)) ∧
    (s.dev.twin.handover = true → Does .plannedHandover s (fun d => d.twin.state = .syncing ∧ d.twin.planned = true ∧ d.twin.handover = false ∧
      d.lbu.draining = false ∧ d.mem = s.dev.mem))

/-- R436, R440, R441, R443: a heartbeat leaves on the TWIN link; the peer's entry into SYNCING starts the stream; an entry that the twin has
acknowledged may be performed; one that waits too long, and a peer that becomes unfit, end the protection; a fit peer under a running stream
begins it. -/
def Sys2Proof.Claims.StreamSending : Prop :=
  ∀ (s : State) (seq : Nat) (low : Bool), Inv s → s.dev.itm.length = 5 →
    (s.dev.twin.streaming = false → Quiet .heartbeatSend s) ∧
    (∀ n, s.dev.twin.streaming = true → s.dev.twin.state = .active → s.dev.roleLink 4 = some n → After .heartbeatSend s (fun d =>
      ∃ t : Transfer, .itm n t ∈ d.out ∧ t.op = 0x38 ∧ t.data.take 1 = leBytes 1 7 ∧ (t.data.drop 2).take 2 = leBytes 2 s.dev.twin.sendSeq)) ∧
    ((s.dev.twin.state ≠ .active ∨ s.dev.twinLinkUp = false) → Quiet .resyncStart s) ∧
    (s.dev.twin.state = .active → s.dev.twinLinkUp = true → Does .resyncStart s (fun d => d.twin.streaming = true ∧ d.twin.peerUnfit = true ∧
      d.twin.prot = false ∧ d.sameStores s.dev)) ∧
    (∀ r, s.dev.req? seq = some r → seq < s.dev.fab.nextSeq →
      (r.mirrored = false → Quiet (.mirrorAck seq) s ∧ Quiet (.mirrorAckTimeout seq) s) ∧
      (r.mirrored = true → r.startedSent = false → Quiet (.mirrorAck seq) s) ∧
      (r.mirrored = true → r.startedSent = true → Does (.mirrorAck seq) s (fun d => d.eachReq seq fun q => q.mirrored = false)) ∧
      (r.mirrored = true → Does (.mirrorAckTimeout seq) s (fun d => d.twin.prot = false ∧ d.twin.streaming = false ∧
        d.eachReq seq fun q => q.mirrored = false))) ∧
    (s.dev.failDrive = true → Quiet (.twinFailNChange low) s) ∧
    (s.dev.failDrive = false →
      (low = true → Does (.twinFailNChange low) s (fun d => d.twin.peerUnfit = true ∧ d.twin.prot = false ∧ d.mem = s.dev.mem)) ∧
      (low = false → Does (.twinFailNChange low) s (fun d => d.twin.peerUnfit = false ∧ d.sameStores s.dev ∧
        (s.dev.twin.state = .active → s.dev.twin.streaming = true → s.dev.twinLinkUp = true → d.twin.prot = true))))

/-- R437, R440, R441, R445: a record in sequence is applied: a register, memory, a mirrored entry, its start, its end, an event executed, a bulk
copy, and the end of the copy, which makes the device STANDBY; a gap in the sequence, or no heartbeat, takes it out of sync; a device that follows
no stream takes no record. -/
def Sys2Proof.Claims.StreamReceiving : Prop :=
  ∀ (s : State) (seq : Nat) (a : Nat) (data : List Byte) (m : MirrorEntry) (slot : Fin 4096) (n fail : Nat) (p : Nat × Word) (v : Word), Inv s →
    let t := s.dev.twin.next seq
    let mirror := Instr.stateMirror seq m.path m.idx m.agent m.orig m.win m.ga m.data
    let all := [Instr.stateReg seq p.1 v 0, .stateMem seq a data, mirror, .stateStarted seq m.path m.idx, .stateRetired seq m.path m.idx fail,
      .stateExecuted seq slot n fail, .stateHeartbeat seq, .stateBulk seq a data, .stateSyncDone seq]
    (s.dev.inSequence seq →
      Does (.stateHeartbeat seq) s (fun d => d = { s.clear with twin := t }) ∧
      Does (.stateSyncDone seq) s (fun d => d = { s.clear with twin := { t with state := .standby } }) ∧
      (m.started = false → Does mirror s (fun d => d.twin.mirror = (s.dev.twin.mirror.filter fun x => !(x.path == m.path && x.idx == m.idx)) ++ [m] ∧
        d.sameStores s.dev)) ∧
      Does (.stateStarted seq m.path m.idx) s (fun d => (∀ x ∈ d.twin.mirror, x.path = m.path → x.idx = m.idx → x.started = true) ∧
        d.twin.mirror.length = s.dev.twin.mirror.length ∧ d.sameStores s.dev) ∧
      Does (.stateRetired seq m.path m.idx fail) s (fun d => d.twin.mirror =
        (s.dev.twin.mirror.filter fun x => !(x.path == m.path && x.idx == m.idx)) ∧ d.sameStores s.dev) ∧
      ((∀ e ∈ s.dev.blv.events, e.slot ≠ slot.val) → Does (.stateExecuted seq slot n fail) s (fun d =>
        d.twin.executed = s.dev.twin.executed ++ [(slot.val, n)] ∧ d.blv = s.dev.blv)) ∧
      (p ∈ coreHeld → mirroredBlock (blockOf p.1) = true → Does (.stateReg seq p.1 v 0) s (fun d =>
        d.onlyReg s.dev p.1 ((s.dev.rd p.1 &&& ~~~p.2) ||| (v &&& p.2)))) ∧
      (0x1000_0000 ≤ a → ∀ c ∈ [Instr.stateMem seq a data, .stateBulk seq a data], Does c s (fun d => d.bytesAt a data.length = data ∧
        d.regs = s.dev.regs ∧ ∀ x, (x < a ∨ a + data.length ≤ x) → d.byteAt x = s.dev.byteAt x))) ∧
    ((s.dev.twin.state = .syncing ∨ s.dev.twin.state = .standby) → s.dev.twin.recvAny = true → s.dev.twin.recvSeq ≠ seq % 65536 → ∀ c ∈ all,
      Does c s (fun d => d.twin.state = .unsync ∧ d.twin.mirror = [] ∧ d.sameStores s.dev)) ∧
    ((s.dev.twin.state = .syncing ∨ s.dev.twin.state = .standby) → Does .stateStreamTimeout s (fun d => d.twin.state = .unsync ∧ d.sameStores s.dev)) ∧
    (s.dev.twin.state ≠ .syncing → s.dev.twin.state ≠ .standby → (∀ c ∈ all, Quiet c s) ∧ Quiet .stateStreamTimeout s)

/-- The state stream between twins. -/
def Obligations.StateStream : Prop := Sys2Proof.Claims.StreamSending ∧ Sys2Proof.Claims.StreamReceiving

/-- R483, R490, R491, R494–R499: the Lodge serves the pending mailbox command and shows its RESULT: a flash read within its limit reads, a flash
write of whole sectors outside the protected areas writes, others end as BAD_ARG or PROTECTED; a key that unwraps is loaded, another is not;
calibration of known items is written; a failed Arcade restarts; SLEEP with nothing left to send enters its mode; no other command is served. -/
def Obligations.MailboxServices : Prop :=
  ∀ (s : State) (c : MbxCmd) (b : List Byte) (fails expired : Bool), Inv s → s.dev.lodgeRuns = true → s.dev.ldg.mbx = some c →
    s.dev.ldg.recovery = false →
    let off := c.num 0 4
    let len := c.num 4 4
    (c.cmd = 1 → ((configOf s.dev.ldg.config).getD [] = []) → Does .cfgReapply s (fun d => d.answered 0)) ∧
    (c.cmd = 2 →
      (65536 < len → Does (.flashRead fails) s (fun d => d.answered 1)) ∧
      (len ≤ 65536 → fails = true → Does (.flashRead fails) s (fun d => d.answered 3)) ∧
      (len ≤ 65536 → fails = false → Does (.flashRead fails) s (fun d => d.answered 0 ∧ d.ldg.flash = s.dev.ldg.flash ∧
        ∀ a, s.dev.ownMemory (c.num 8 6) len = some a → s.dev.bad = [] → (c.addr + 36 ≤ a ∨ a + len ≤ c.addr + 32) →
          d.bytesAt a len = s.dev.flashBytes off len))) ∧
    (c.cmd = 3 →
      ((off % 4096 ≠ 0 ∨ len % 4096 ≠ 0 ∨ 65536 < len) → Does (.flashWrite (some b) fails) s (fun d => d.answered 1 ∧ d.ldg.flash = s.dev.ldg.flash)) ∧
      (off % 4096 = 0 → len % 4096 = 0 → 4096 ≤ len → len ≤ 65536 →
        (off < 0xF000 ∧ 0x1000 < off + len → Does (.flashWrite (some b) fails) s (fun d => d.answered 2 ∧ d.ldg.flash = s.dev.ldg.flash)) ∧
        ((off + len ≤ 0x1000 ∨ 0x20000 ≤ off) → s.dev.ownMemory (c.num 8 6) len = none →
          (b.length ≠ len → Does (.flashWrite (some b) fails) s (fun d => d.answered 4 ∧ d.ldg.flash = s.dev.ldg.flash)) ∧
          (b.length = len → fails = false → Does (.flashWrite (some b) fails) s (fun d => d.answered 0 ∧ d.flashBytes off len = b))))) ∧
    (c.cmd = 4 → (4 ≤ c.num 0 1 → Does (.slotState fails) s (fun d => d.answered 1)) ∧
      (c.num 0 1 < 4 → Does (.slotState fails) s (fun d =>
        d.answered (if s.dev.header?.isNone then 4 else if fails then 3 else 0)))) ∧
    (c.cmd = 5 → s.dev.ownMemory (c.num 0 6) 64 = none → b.length = 64 → Does (.keyLoad (some b)) s (fun d =>
      let r := s.dev.loadBlob (leNat (b.take 2) % 1024) b
      d.answered (if r.2 = 0 then 0 else 4) ∧ d.gth.slots = r.1.gth.slots)) ∧
    (c.cmd = 6 → s.dev.ownMemory (c.num 0 6) 112 = none → (b.getD 67 0).toNat ≠ 1 → b.length = 112 → Does (.keyProvision (some b)) s (fun d =>
      d.answered 4 ∧ d.gth = s.dev.gth)) ∧
    (c.cmd = 7 → Does .devkeyPub s (fun d => d.answered 0)) ∧
    (c.cmd = 8 → (0x4000 < c.num 8 4 → Does (.calWrite (some b) fails) s (fun d => d.answered 1 ∧ d.ldg.flash = s.dev.ldg.flash)) ∧
      (c.num 8 4 ≤ 0x4000 → c.late = true → Does (.calWrite (some b) fails) s (fun d => d.answered 5 ∧ d.ldg.flash = s.dev.ldg.flash)) ∧
      (c.num 8 4 = 0 → c.late = false → s.dev.userCal? = none → b = [] → fails = false → Does (.calWrite (some b) fails) s (fun d => d.answered 0))) ∧
    (c.cmd = 9 → (c.num 0 1 ≠ 1 ∧ c.num 0 1 ≠ 2 → Does (.sleep expired) s (fun d => d.answered 1)) ∧
      (c.num 0 1 = 1 → s.dev.txEmpty = true → s.dev.pathsEmpty = true → s.dev.fab.cwb = [] → s.dev.fab.held = [] → s.dev.lbu.draining = false →
        s.dev.wkt.mode = .run → s.dev.wkt.events = [] → Does (.sleep expired) s (fun d => d.answered 0 ∧ d.wkt.mode = .entering ∧
          d.wkt.target = .standby))) ∧
    (c.cmd = 10 → (s.dev.fld Reg.ldgStatus 3 3 ≠ 4 → Does .arcRestart s (fun d => d.answered 5)) ∧
      (s.dev.fld Reg.ldgStatus 3 3 = 4 → Does .arcRestart s (fun d => d.answered (if s.dev.arcImageOk then 0 else 4) ∧
        d.fld Reg.ldgStatus 3 3 = if s.dev.arcImageOk then 2 else 4))) ∧
    (∀ k x, (k, x) ∈ [(1, Instr.cfgReapply), (2, .flashRead fails), (3, .flashWrite (some b) fails), (4, .slotState fails), (5, .keyLoad (some b)),
      (6, .keyProvision (some b)), (7, .devkeyPub), (8, .calWrite (some b) fails), (9, .sleep expired), (10, .arcRestart)] → c.cmd ≠ k → Quiet x s)

/-- R501–R503: the Kiosk answers E LEVEL to a command above its level, and runs any other: reads and writes go out as requests of the Lodge, state
is printed, and the commands of SERVICE act. -/
def Sys2Proof.Claims.KioskCommands : Prop :=
  ∀ (s : State) (dev : Option (Fin 1024)) (a : Nat) (v : Word) (f : WinFam) (w : Fin 32) (key : List Byte) (kind : Fin 16) (u : BitVec 24) (peer : Bool),
    Inv s → s.dev.lodgeRuns = true →
    let ga := s.dev.kioskGa dev a
    let service := [Instr.kioskWr dev a v false, .kioskTwinSwitch, .kioskSpareSwap kind u, .kioskLogPop, .kioskRestoreFactory, .kioskReboot,
      .kioskRebootCold peer]
    (s.dev.fld Reg.ldgStatus 6 2 = 0 → s.dev.ldg.recovery = false → ∀ c ∈ service, Does c s (fun d => d.prints s.dev "E LEVEL")) ∧
    (∀ c ∈ [Instr.kioskRd dev a 1, .kioskDump dev a 4], Does c s (fun d => d = s.clear.issue
      { seq := 0, agent := 63, ident := 63, orig := s.dev.devid, ing := .lodge, op := .read, posted := false, ga := ga, len := 4, ts := s.dev.stamp })) ∧
    Does (.kioskRd dev a 257) s (fun d => d.prints s.dev "E SYNTAX") ∧
    (w.val < winCount f → Does (.kioskWin (some (f, w))) s (fun d => ∃ line, d.prints s.dev line)) ∧
    (winCount f ≤ w.val → Does (.kioskWin (some (f, w))) s (fun d => d.prints s.dev "E SYNTAX")) ∧
    (key.length ≠ 16 → Does (.kioskTab key) s (fun d => d.prints s.dev "E SYNTAX")) ∧
    (key.length = 16 → s.dev.trl.cmd = none → s.dev.findIn s.dev.trl.active key = none → Does (.kioskTab key) s (fun d =>
      d.trlEnded 2 ∧ d.out = [.text "NOT_FOUND"] ∧ d.mem = s.dev.mem)) ∧
    (∀ c ∈ [Instr.kioskTime, .kioskTwin], Does c s (fun d => ∃ line, d.prints s.dev line)) ∧
    Does .kioskSpare s (fun d => d.out.length = s.dev.dep.mapUsed ∧ d.sameStores s.dev) ∧
    (s.dev.elog.entries = [] → Does .kioskLog s (fun d => d.prints s.dev "EMPTY")) ∧
    (s.dev.elog.entries ≠ [] → Does .kioskLog s (fun d => ∃ line, d.prints s.dev line)) ∧
    (1 ≤ s.dev.fld Reg.ldgStatus 6 2 →
      Does (.kioskWr dev a v false) s (fun d => d = s.clear.issue
        { seq := 0, agent := 63, ident := 63, orig := s.dev.devid, ing := .lodge, op := .write, posted := true, ga := ga, len := 4,
          data := allOn (leBytes 4 v.toNat), ts := s.dev.stamp }) ∧
      (s.dev.twin.prot = false → Does .kioskTwinSwitch s (fun d => d.rd Reg.sysAccessReject = s.dev.rd Reg.sysAccessReject + 1 ∧
        d.twin = s.dev.twin)) ∧
      (5 ≤ kind.val → kind.val ≤ 8 → s.dev.spareFree kind u.toNat = true → Does (.kioskSpareSwap kind u) s (fun d =>
        ∃ x, d.dep.spares = s.dev.dep.spares ++ [x] ∧ x.kind = kind.val ∧ x.unit = u.toNat)) ∧
      (∀ e t, s.dev.elog.entries = e :: t → Does .kioskLogPop s (fun d => d.elog.entries = t ∧ d.sameStores s.dev)) ∧
      (s.dev.ldg.mbx = none → Does .kioskRestoreFactory s (fun d => d.ldg.erasing = true ∧ d.sameStores s.dev)) ∧
      (s.dev.ldg.warm = false → After .kioskReboot s (fun d => d.ldg.warm = true ∧ d.lbu.draining = true)) ∧
      (s.dev.lodgeReady = false → Does (.kioskRebootCold peer) s (fun d => d.mem = [] ∧ d.blv.vt = 0 ∧ d.ldg.flash = s.dev.ldg.flash)))

/-- R502: an unlock draws a challenge; its right answer gives SERVICE and uses it up, a wrong one is counted, and the third locks the Kiosk out; a
lock and a long silence give SERVICE up; while locked out both steps answer E LEVEL, until the lockout ends. -/
def Sys2Proof.Claims.KioskSessions : Prop :=
  ∀ (s : State) (r : BitVec 64), Inv s →
    (s.dev.lodgeRuns = true →
      (s.dev.flag Reg.ldgStatus 8 = true → ∀ c ∈ [Instr.kioskUnlock, .kioskUnlockResponse r], Does c s (fun d => d.prints s.dev "E LEVEL")) ∧
      (s.dev.flag Reg.ldgStatus 8 = false →
        Does .kioskUnlock s (fun d => (∃ c line, d.ldg.challenge = some c ∧ d.out = [.text line]) ∧ d.sameStores s.dev) ∧
        (∀ c, s.dev.ldg.challenge = some c → s.dev.kioskExpects c = some r.toNat → Does (.kioskUnlockResponse r) s (fun d =>
          d.fld Reg.ldgStatus 6 2 = 1 ∧ d.ldg.challenge = none ∧ d.ldg.wrong = 0 ∧ d.out = [.text "SERVICE"])) ∧
        ((∀ c, s.dev.ldg.challenge = some c → s.dev.kioskExpects c ≠ some r.toNat) → Does (.kioskUnlockResponse r) s (fun d =>
          d.rd Reg.ldgKioskFail = s.dev.rd Reg.ldgKioskFail + 1 ∧ d.fld Reg.ldgStatus 6 2 = s.dev.fld Reg.ldgStatus 6 2 ∧
          d.flag Reg.ldgStatus 8 = decide (2 ≤ s.dev.ldg.wrong) ∧ d.out = [.text "E LEVEL"]))) ∧
      Does .kioskLock s (fun d => d.onlyReg s.dev Reg.ldgStatus (d.rd Reg.ldgStatus) ∧ d.fld Reg.ldgStatus 6 2 = 0)) ∧
    Does .kioskLockoutExpiry s (fun d => d.onlyReg s.dev Reg.ldgStatus (d.rd Reg.ldgStatus) ∧ d.flag Reg.ldgStatus 8 = false) ∧
    (s.dev.fld Reg.ldgStatus 6 2 = 1 → Does .kioskIdleTimeout s (fun d => d.onlyReg s.dev Reg.ldgStatus (d.rd Reg.ldgStatus) ∧
      d.fld Reg.ldgStatus 6 2 = 0)) ∧
    (s.dev.fld Reg.ldgStatus 6 2 ≠ 1 → Quiet .kioskIdleTimeout s)

/-- The Kiosk's commands and sessions. The texts of its lines are the model's choice (log 64). -/
def Obligations.Kiosk : Prop := Sys2Proof.Claims.KioskCommands ∧ Sys2Proof.Claims.KioskSessions
end

