-- ==== Sys2Proof/Laws/Cells.lean ====
section
/-!
SUPPORT. Sparse stores: what a read after a set gives, and that every operation over them keeps their canonical form.
-/
namespace Sys2Proof.Machine

variable {w : Nat}

theorem cellsAbove_mono {a b : Nat} (hab : a ≤ b) : ∀ {m : Sparse w}, cellsAbove b m = true → cellsAbove a m = true
  | [], _ => rfl
  | (k, v) :: t, h => by
    simp only [cellsAbove, Bool.and_eq_true, decide_eq_true_eq] at h ⊢
    exact ⟨⟨Nat.le_trans hab h.1.1, h.1.2⟩, h.2⟩

theorem cellsAbove_filter (p : Nat × BitVec w → Bool) : ∀ {b : Nat} {m : Sparse w}, cellsAbove b m = true → cellsAbove b (m.filter p) = true
  | _, [], _ => rfl
  | b, (k, v) :: t, h => by
    simp only [cellsAbove, Bool.and_eq_true, decide_eq_true_eq] at h
    have ih := cellsAbove_filter p h.2
    simp only [List.filter_cons]
    split
    · simp only [cellsAbove, Bool.and_eq_true, decide_eq_true_eq]
      exact ⟨h.1, ih⟩
    · exact cellsAbove_mono (by omega) ih

/-- Leaving cells out keeps the canonical form. -/
theorem cellsWf_filter (p : Nat × BitVec w → Bool) {m : Sparse w} (h : cellsWf m = true) : cellsWf (m.filter p) = true := cellsAbove_filter p h

theorem cellsAbove_set (a : Nat) (x : BitVec w) : ∀ {b : Nat} {m : Sparse w}, b ≤ a → cellsAbove b m = true → cellsAbove b (cellSet m a x) = true
  | b, [], hb, _ => by
    simp only [cellSet]
    split
    · rfl
    · rename_i hx
      simp only [cellsAbove, Bool.and_eq_true, decide_eq_true_eq, bne_iff_ne, ne_eq, and_true]
      exact ⟨hb, hx⟩
  | b, (k, v) :: t, hb, h => by
    simp only [cellsAbove, Bool.and_eq_true, decide_eq_true_eq] at h
    simp only [cellSet]
    split
    · rename_i hak
      split
      · simp only [cellsAbove, Bool.and_eq_true, decide_eq_true_eq]; exact h
      · rename_i hx
        simp only [cellsAbove, Bool.and_eq_true, decide_eq_true_eq, bne_iff_ne, ne_eq]
        refine ⟨⟨hb, hx⟩, ⟨⟨by omega, ?_⟩, h.2⟩⟩
        simpa using h.1.2
    · split
      · rename_i _ hak
        subst hak
        split
        · exact cellsAbove_mono (by omega) h.2
        · rename_i hx
          simp only [cellsAbove, Bool.and_eq_true, decide_eq_true_eq, bne_iff_ne, ne_eq]
          exact ⟨⟨hb, hx⟩, h.2⟩
      · rename_i h1 h2
        simp only [cellsAbove, Bool.and_eq_true, decide_eq_true_eq]
        exact ⟨h.1, cellsAbove_set a x (by omega) h.2⟩

/-- Setting a cell keeps the canonical form. -/
theorem cellsWf_set {m : Sparse w} (a : Nat) (x : BitVec w) (h : cellsWf m = true) : cellsWf (cellSet m a x) = true :=
  cellsAbove_set a x (Nat.zero_le _) h

/-- Clearing a range keeps the canonical form. -/
theorem cellsWf_clear {m : Sparse w} (lo hi : Nat) (h : cellsWf m = true) : cellsWf (cellsClear m lo hi) = true := cellsWf_filter _ h

/-- Setting cells one after the other keeps the canonical form. -/
theorem cellsWf_put {m : Sparse w} (new : Sparse w) (h : cellsWf m = true) : cellsWf (cellsPut m new) = true := by
  unfold cellsPut
  induction new generalizing m with
  | nil => exact h
  | cons c t ih => exact ih (cellsWf_set _ _ h)

theorem cellGet_above {a : Nat} : ∀ {b : Nat} {m : Sparse w}, a < b → cellsAbove b m = true → cellGet m a = 0
  | _, [], _, _ => rfl
  | b, (k, v) :: t, hab, h => by
    simp only [cellsAbove, Bool.and_eq_true, decide_eq_true_eq] at h
    have h1 : k ≠ a := by omega
    have h2 : a < k := by omega
    simp [cellGet, h1, h2]

theorem cellGet_set_above {a c : Nat} (x : BitVec w) : ∀ {b : Nat} {m : Sparse w}, cellsAbove b m = true →
    cellGet (cellSet m a x) c = if c = a then x else cellGet m c
  | _, [], _ => by
    simp only [cellSet, cellGet]
    by_cases hx : x = 0
    · simp only [hx, if_true, cellGet, ite_self]
    · simp only [hx, if_false, cellGet]
      by_cases hc : c = a
      · simp only [hc, if_true]
      · have h3 : a ≠ c := fun e => hc e.symm
        simp only [hc, h3, if_false, ite_self]
  | b, (k, v) :: t, h => by
    simp only [cellsAbove, Bool.and_eq_true, decide_eq_true_eq] at h
    simp only [cellSet]
    by_cases h1 : a < k
    · simp only [h1, if_true]
      by_cases hx : x = 0
      · simp only [hx, if_true]
        by_cases hc : c = a
        · subst hc
          have : k ≠ c := by omega
          simp [cellGet, this, h1]
        · simp [hc]
      · simp only [hx, if_false]
        by_cases hc : c = a
        · subst hc; simp [cellGet]
        · have h3 : a ≠ c := fun e => hc e.symm
          simp only [cellGet, h3, if_false, hc]
          by_cases h4 : c < a
          · have h5 : k ≠ c := by omega
            have h6 : c < k := by omega
            simp [h4, h5, h6]
          · simp [h4]
    · simp only [h1, if_false]
      by_cases h2 : a = k
      · subst h2
        simp only [if_true]
        by_cases hx : x = 0
        · simp only [hx, if_true]
          by_cases hc : c = a
          · subst hc
            simp only [if_true]
            exact cellGet_above (Nat.lt_succ_self _) h.2
          · have h3 : a ≠ c := fun e => hc e.symm
            simp only [hc, if_false, cellGet, h3]
            by_cases h4 : c < a
            · simp only [h4, if_true]
              exact cellGet_above (by omega) h.2
            · simp [h4]
        · simp only [hx, if_false]
          by_cases hc : c = a
          · subst hc; simp [cellGet]
          · have h3 : a ≠ c := fun e => hc e.symm
            simp [cellGet, h3, hc]
      · simp only [h2, if_false, cellGet]
        by_cases hk : k = c
        · have : c ≠ a := by omega
          simp [hk, this]
        · simp only [hk, if_false]
          by_cases hck : c < k
          · have : c ≠ a := by omega
            simp [hck, this]
          · simp only [hck, if_false]
            exact cellGet_set_above x h.2

/-- A read after a set of a canonical store: the value set at that cell, what stood before at every other. -/
theorem cellGet_set {m : Sparse w} (h : cellsWf m = true) (a c : Nat) (x : BitVec w) :
    cellGet (cellSet m a x) c = if c = a then x else cellGet m c := cellGet_set_above x h

end Sys2Proof.Machine
end

