-- ==== Sys2Proof/Laws/Settle.lean ====
section
/-!
SUPPORT. Everything that what follows a command at once (`settle`) can do to the device, said once: a property that the updates listed in
`SettleClosed` keep is kept by `settle`.
-/
namespace Sys2Proof.Machine

/-- A property of the device that every single update made by what follows a command keeps. The registers written are those of the
fault manager (DEP_TWIN_LOST, DEP_FAULT_LAST, DEP_NOTE_OVF, DEP_SPARE_MAP, DEP_SPARE_COUNT, DEP_SPARE_LOST), INT_MSG_SENT, LDG_STATUS and
LDG_ARC_RESTARTS, and GZB_CH_EVT and GZB_CH_WRFAIL of a channel the device has. -/
structure SettleClosed (P : Dev → Prop) : Prop where
  wr : ∀ d off v, off ∈ [Reg.intMsgSent, Reg.depTwinLost, Reg.depTwinLost + 4, Reg.depFaultLast, Reg.depNoteOvf, Reg.depSpareCount,
    Reg.depSpareLost, Reg.ldgStatus, Reg.ldgArcRestarts] → P d → P (d.wr off v)
  wrMap : ∀ d k v, k < 128 → P d → P (d.wr (Reg.depSpareMap + 4 * k) v)
  wrGzb : ∀ d c v, c < d.gzb.chans.length → P d → P (d.wr (gzbReg Reg.gzbChEvt c) v) ∧ P (d.wr (gzbReg Reg.gzbChWrFail c) v)
  shadow : ∀ d, P d → P d.restoreShadows
  emit : ∀ d e, P d → P (d.emit e)
  fab : ∀ d reqs held cwb barriers gzbFail rsv rsvInfo, P d →
    P { d with fab := { d.fab with reqs := reqs, held := held, cwb := cwb, barriers := barriers, gzbFail := gzbFail, rsv := rsv, rsvInfo := rsvInfo } }
  twin : ∀ d f, P d → P (d.onTwin f)
  dep : ∀ d miss exh map unit spares safe notes, P d →
    P { d with dep := { d.dep with arcadeMissing := miss, exhausted := exh, mapUsed := map, unitFaults := unit, spares := spares, safe := safe,
                                   notes := notes } }
  chan : ∀ d c f, P d → P (d.onChan c f)
  msgs : ∀ d n m, P d → P { d with itm := d.itm.modify n fun l => { l with msgs := l.msgs ++ [m] } }
  hp : ∀ d v, P d → P { d with hp := { d.hp with msgs := d.hp.msgs ++ [v] } }
  intb : ∀ d x, P d → P { d with intb := { d.intb with remote := x } }
  bus : ∀ d job cyc heldWrite locked lreset, P d →
    P { d with lbu := { d.lbu with job := job, cyc := cyc, heldWrite := heldWrite, locked := locked, lreset := lreset } }
  can : ∀ d c ins keys parked, P d → P { d with can := c, frm := { d.frm with ins := ins, keys := keys, parked := parked } }
  lin : ∀ d i (f : LinCh → Nat), P d → P { d with lin := d.lin.modify i fun l => { l with pos := f l } }
  mac : ∀ d i, P d → P { d with mac := d.mac.modify i fun m => { m with queue := [] } }
  restarts : ∀ d x, P d → P { d with ldg := { d.ldg with restarts := x } }

theorem SettleClosed.foldl {P : Dev → Prop} {α : Type} (g : Dev → α → Dev) (hg : ∀ d a, P d → P (g d a)) (l : List α) (d : Dev) (h : P d) : P (l.foldl g d) := by
  induction l generalizing d with
  | nil => exact h
  | cons a l ih => exact ih _ (hg d a h)

theorem SettleClosed.ite {P : Dev → Prop} {c : Prop} [Decidable c] {a b : Dev} (ha : P a) (hb : P b) : P (if c then a else b) := by
  split <;> assumption

variable {P : Dev → Prop} (hP : SettleClosed P)
include hP

theorem SettleClosed.bump (d : Dev) (off n : Nat) (h : off ∈ [Reg.intMsgSent, Reg.depNoteOvf, Reg.depSpareCount, Reg.depSpareLost, Reg.ldgArcRestarts])
    (hd : P d) : P (d.bump off n) := hP.wr d off _ (by simp at h ⊢; tauto) hd

theorem SettleClosed.sendMsg (d : Dev) (n : Nat) (t : Transfer) (h : P d) : P (d.sendMsg n t) := hP.emit _ _ (hP.msgs d _ _ h)

theorem SettleClosed.placeNote (d : Dev) (n : List Byte) (h : P d) : P (d.placeNote n) := by
  unfold Dev.placeNote
  exact SettleClosed.ite (hP.bump d _ _ (by simp) h) (hP.dep d _ _ _ _ _ _ _ h)

theorem SettleClosed.sendNote (d : Dev) (a b c : Nat) (h : P d) : P (d.sendNote a b c) := by
  unfold Dev.sendNote
  dsimp only
  refine SettleClosed.ite (hP.placeNote d _ h) ?_
  split
  · exact hP.sendMsg d _ _ h
  · exact h

theorem SettleClosed.recordSpare (d : Dev) (k c u s : Nat) (h : P d) : P (d.recordSpare k c u s) := by
  unfold Dev.recordSpare
  refine hP.sendNote _ _ _ _ (hP.bump _ _ _ (by simp) ?_)
  split
  · refine hP.dep _ _ _ _ _ _ _ _ ?_
    rename_i hk
    have h1 := hP.wrMap d (2 * d.dep.mapUsed)
    have h2 := fun e => hP.wrMap e (2 * d.dep.mapUsed + 1)
    unfold Dev.wr64
    have e1 : Reg.depSpareMap + 8 * d.dep.mapUsed = Reg.depSpareMap + 4 * (2 * d.dep.mapUsed) := by omega
    have e2 : Reg.depSpareMap + 4 * (2 * d.dep.mapUsed) + 4 = Reg.depSpareMap + 4 * (2 * d.dep.mapUsed + 1) := by omega
    rw [e1, e2]
    exact h2 _ _ (by omega) (h1 _ (by omega) h)
  · exact h

theorem SettleClosed.swapUnit (d : Dev) (k u c : Nat) (h : P d) : P (d.swapUnit k u c) := by
  unfold Dev.swapUnit
  refine hP.recordSpare _ _ _ _ _ ?_
  have h1 : P (d.onDep fun p => { p with
      spares := p.spares ++ [{ kind := k, unit := u, spare := (d.dep.spares.filter fun s => s.kind == k && sparePool k s.unit == sparePool k u).length }]
      unitFaults := p.unitFaults.filter fun q => q != (k, u) }) := hP.dep d _ _ _ _ _ _ _ h
  split
  · exact hP.bump _ _ _ (by simp) (hP.can _ _ _ _ _ h1)
  · exact hP.lin _ _ _ h1
  · exact hP.bump _ _ _ (by simp) (hP.mac _ _ h1)
  · exact h1

theorem SettleClosed.sendRec (d : Dev) (a : Nat) (b : List Byte) (h : P d) : P (d.sendRec a b) := by
  unfold Dev.sendRec
  split
  · split
    · exact hP.twin _ _ (hP.sendMsg d _ _ h)
    · exact h
  · exact h

theorem SettleClosed.leaveActive (d : Dev) (t : TwinState) (h : P d) : P (d.leaveActive t) := by
  unfold Dev.leaveActive
  extract_lets cells tt d1 d2
  have h1 : P d1 := hP.wr _ _ _ (by simp) (hP.wr _ _ _ (by simp) h)
  have h2 : P d2 := hP.bus _ _ _ _ _ _ (hP.twin _ _ h1)
  exact SettleClosed.ite h2 (hP.fab _ _ _ _ _ _ _ _ h2)

theorem SettleClosed.enterSafe (d : Dev) (b : Nat) (h : P d) : P (d.enterSafe b) := by
  unfold Dev.enterSafe
  refine SettleClosed.ite h ?_
  exact hP.sendNote _ _ _ _ (hP.twin _ _ (hP.bus _ _ _ _ _ _ (hP.bus _ _ _ _ _ _ (hP.dep d _ _ _ _ _ _ _ h))))

theorem SettleClosed.updRsvInfo (d : Dev) (a : Nat) (f : RsvInfo → RsvInfo) (h : P d) : P (d.updRsvInfo a f) := by
  unfold Dev.updRsvInfo
  exact hP.fab d _ _ _ _ _ _ _ h

theorem SettleClosed.loseRsv (d : Dev) (q : Rsv → Bool) (h : P d) : P (d.loseRsv q) := by
  unfold Dev.loseRsv
  refine SettleClosed.foldl _ (fun d r h => ?_) _ _ (hP.fab d _ _ _ _ _ _ _ h)
  exact hP.updRsvInfo d _ _ h

theorem SettleClosed.arcRestart (d : Dev) (h : P d) : P d.arcRestart := by
  unfold Dev.arcRestart
  extract_lets d1 recent l d2 e p
  have h1 : P d1 := hP.bump _ _ _ (by simp) (hP.loseRsv _ _ (hP.fab d _ _ _ _ _ _ _ h))
  have h2 : P d2 := hP.restarts d1 _ h1
  clear_value d1 d2
  have h3 : P e := hP.wr d2 Reg.ldgStatus _ (by simp) h2
  exact SettleClosed.ite (hP.wr _ _ _ (by simp) h2) (hP.dep e _ _ _ _ _ _ _ h3)

theorem SettleClosed.contain (d : Dev) (b : Nat) (h : P d) : P (d.contain b) := by
  unfold Dev.contain
  split
  · exact hP.shadow _ h
  · exact hP.arcRestart _ h
  · refine SettleClosed.foldl _ (fun d u h => ?_) _ _ h
    exact SettleClosed.ite (hP.swapUnit _ _ _ _ h) (hP.dep _ _ _ _ _ _ _ _ h)
  · exact h

theorem SettleClosed.faultRise (d : Dev) (b : Nat) (h : P d) : P (d.faultRise b) := by
  unfold Dev.faultRise
  extract_lets set act code rises d1
  have h1 : P d1 := hP.sendNote _ _ _ _ (hP.wr _ _ _ (by simp) h)
  clear_value d1 code
  split
  · exact hP.contain _ _ h1
  · exact hP.twin _ _ (hP.leaveActive _ _ h1)
  · exact hP.enterSafe _ _ h1
  · exact h1

theorem SettleClosed.faultSettle (o d : Dev) (h : P d) : P (faultSettle o d) := by
  unfold Machine.faultSettle
  exact SettleClosed.foldl _ (fun d b h => hP.faultRise d b h) _ _ (SettleClosed.foldl _ (fun d b h => hP.faultRise d b h) _ _ h)

theorem SettleClosed.gzbFailed (d : Dev) (f : GzbFail) (h : P d) : P (d.gzbFailed f) := by
  unfold Dev.gzbFailed
  extract_lets c mine
  split
  · exact h
  · rename_i y hy
    have hc : ∀ g : GzbChan → GzbChan, c < (d.onChan c g).gzb.chans.length := by
      intro g
      simpa [Dev.onChan] using (List.getElem?_eq_some_iff.mp hy).1
    exact SettleClosed.ite (hP.wrGzb _ c _ (hc _) (hP.chan _ _ _ h)).2
      (SettleClosed.ite (hP.wrGzb _ c _ (hc _) (hP.chan _ _ _ h)).2 h)

theorem SettleClosed.gzbWatch (d : Dev) (c : Nat) (h : P d) : P (d.gzbWatch c) := by
  unfold Dev.gzbWatch
  split
  · exact h
  · rename_i y hy
    have hc := (List.getElem?_eq_some_iff.mp hy).1
    extract_lets half n d1
    refine hP.chan _ _ _ ?_
    have h2 : P d1 ∧ c < d1.gzb.chans.length := by
      unfold d1
      refine SettleClosed.foldl (P := fun d => P d ∧ c < d.gzb.chans.length) (fun d _ => d.gzbEvent c) (fun d _ hd => ⟨?_, hd.2⟩) _ _ ⟨h, hc⟩
      exact (hP.wrGzb d c _ hd.2 hd.1).1
    exact h2.1

theorem SettleClosed.gzbSettle (d : Dev) (h : P d) : P (gzbSettle d) := by
  unfold Machine.gzbSettle
  extract_lets new d1 d2
  have h1 : P d1 := SettleClosed.foldl _ (fun d f h => hP.gzbFailed d f h) _ _ h
  refine SettleClosed.foldl _ (fun d c h => ?_) _ _ (hP.fab _ _ _ _ _ _ _ _ h1)
  exact SettleClosed.ite (hP.gzbWatch _ _ h) h

theorem SettleClosed.twinSettle (d : Dev) (h : P d) : P (twinSettle d) := SettleClosed.ite (hP.twin _ _ h) h

theorem SettleClosed.sendMirror (d : Dev) (r : Req) (h : P d) : P (d.sendMirror r) :=
  SettleClosed.foldl _ (fun d _ h => hP.sendRec d _ _ h) _ _ h

theorem SettleClosed.sendStarted (d : Dev) (h : P d) : P d.sendStarted := by
  unfold Dev.sendStarted
  refine SettleClosed.foldl _ (fun d r h => ?_) _ _ h
  exact hP.fab _ _ _ _ _ _ _ _ (SettleClosed.foldl _ (fun d i h => hP.sendRec d _ _ h) _ _ h)

theorem SettleClosed.mirrorSettle (o d : Dev) (h : P d) : P (mirrorSettle o d) := by
  unfold Machine.mirrorSettle
  refine SettleClosed.ite h ?_
  extract_lets fresh d1 gone
  have h1 : P d1 := hP.sendStarted _ (SettleClosed.foldl _ (fun d r h => hP.sendMirror d r h) _ _ h)
  refine SettleClosed.foldl _ (fun d r h => ?_) _ _ h1
  exact SettleClosed.foldl _ (fun d i h => hP.sendRec d _ _ h) _ _ h

theorem SettleClosed.itmosLevel (d : Dev) (s : Nat) (on : Bool) (h : P d) : P (d.itmosLevel s on) := by
  unfold Dev.itmosLevel
  extract_lets root
  refine SettleClosed.ite (hP.intb d _ h) ?_
  split
  · exact hP.sendMsg _ _ _ h
  · exact h

theorem SettleClosed.sendVec (d : Dev) (v : Nat) (h : P d) : P (d.sendVec v) := hP.bump _ _ _ (by simp) (hP.hp d _ h)

theorem SettleClosed.intSettle (o d : Dev) (h : P d) : P (intSettle o d) := by
  unfold Machine.intSettle
  extract_lets was now d1 d2 fw d3 d4 v
  have h1 : P d1 := SettleClosed.foldl _ (fun d s h => hP.itmosLevel d s _ h) _ _ h
  have h2 : P d2 := SettleClosed.foldl _ (fun d s h => hP.itmosLevel d s _ h) _ _ h1
  have h3 : P d3 := SettleClosed.foldl _ (fun d s h => hP.emit d _ h) _ _ h2
  have h4 : P d4 := SettleClosed.foldl _ (fun d s h => hP.emit d _ h) _ _ h3
  exact SettleClosed.foldl _ (fun d v h => hP.sendVec d v h) _ _ h4

/-- What follows a command keeps every property that its single updates keep. -/
theorem SettleClosed.settle (o d : Dev) (h : P d) : P (settle o d) :=
  hP.intSettle _ _ (hP.mirrorSettle _ _ (hP.twinSettle _ (hP.faultSettle _ _ (hP.gzbSettle _ h))))

omit hP

/-- The device with everything set aside that what follows a command may change. -/
def Dev.quiet (d : Dev) : Dev :=
  { d with
    regs := []
    hub := { d.hub with damaged := [] }
    fab := { d.fab with reqs := [], held := [], cwb := [], barriers := [], gzbFail := [], rsv := [], rsvInfo := [] }
    hp := { d.hp with msgs := [] }
    lbu := { d.lbu with job := none, cyc := none, heldWrite := none, locked := none, lreset := false }
    itm := d.itm.map fun l => { l with msgs := [] }
    intb := {}
    can := []
    lin := d.lin.map fun l => { l with pos := 0 }
    mac := d.mac.map fun m => { m with queue := [] }
    frm := { d.frm with ins := [], keys := [], parked := [] }
    dep := { d.dep with arcadeMissing := false, exhausted := false, mapUsed := 0, unitFaults := [], spares := [], safe := false, notes := [] }
    twin := {}
    gzb := { d.gzb with chans := [] }
    ldg := { d.ldg with restarts := [] }
    out := [] }

theorem Dev.foldl_wr_keeps {α : Type} (g : Dev → α) (hg : ∀ d off v, g (d.wr off v) = g d) (l : List Damage) (d : Dev) :
    g (l.foldl (fun d x => d.wr x.off x.shadow) d) = g d := by
  induction l generalizing d with
  | nil => rfl
  | cons x l ih => exact (ih _).trans (hg d x.off x.shadow)

theorem map_modify_of {α β : Type} (g : α → β) (f : α → α) (h : ∀ a, g (f a) = g a) : ∀ (l : List α) (n : Nat), (l.modify n f).map g = l.map g
  | [], n => by cases n <;> rfl
  | a :: l, 0 => by simp [h]
  | a :: l, n + 1 => by simp [map_modify_of g f h l n]

theorem settleClosed_quiet (q : Dev) : SettleClosed (fun d => d.quiet = q) where
  wr _ _ _ _ h := h
  wrMap _ _ _ _ h := h
  wrGzb _ _ _ _ h := ⟨h, h⟩
  shadow d h := (Dev.foldl_wr_keeps Dev.quiet (fun _ _ _ => rfl) (d.hub.damaged.filter (·.ok)) d).trans h
  emit _ _ h := h
  fab _ _ _ _ _ _ _ _ h := h
  twin _ _ h := h
  dep _ _ _ _ _ _ _ _ h := h
  chan _ _ _ h := h
  msgs d n m h := by
    rw [← h]
    simp only [Dev.quiet]
    rw [map_modify_of (α := Link) (β := Link) (fun l => { l with msgs := [] }) (fun l => { l with msgs := l.msgs ++ [m] }) (fun _ => rfl)]
  hp _ _ h := h
  intb _ _ h := h
  bus _ _ _ _ _ _ h := h
  can _ _ _ _ _ h := h
  lin d i f h := by
    rw [← h]
    simp only [Dev.quiet]
    rw [map_modify_of (α := LinCh) (β := LinCh) (fun l => { l with pos := 0 }) (fun l => { l with pos := f l }) (fun _ => rfl)]
  mac d i h := by
    rw [← h]
    simp only [Dev.quiet]
    rw [map_modify_of (α := Mac) (β := Mac) (fun m => { m with queue := [] }) (fun m => { m with queue := [] }) (fun _ => rfl)]
  restarts _ _ h := h

/-- What follows a command changes nothing but what `Dev.quiet` sets aside. -/
theorem settle_quiet (o d : Dev) : (settle o d).quiet = d.quiet := (settleClosed_quiet d.quiet).settle o d rfl

/-- A part of the device that `Dev.quiet` keeps is left by what follows a command. -/
theorem settle_keeps {α : Type} (g : Dev → α) (hg : ∀ d, g d.quiet = g d) (o d : Dev) : g (settle o d) = g d := by
  rw [← hg, settle_quiet, hg]

@[simp] theorem settle_mem (o d : Dev) : (settle o d).mem = d.mem := settle_keeps Dev.mem (fun _ => rfl) o d
@[simp] theorem settle_bad (o d : Dev) : (settle o d).bad = d.bad := settle_keeps Dev.bad (fun _ => rfl) o d
@[simp] theorem settle_elog (o d : Dev) : (settle o d).elog = d.elog := settle_keeps Dev.elog (fun _ => rfl) o d
@[simp] theorem settle_tun (o d : Dev) : (settle o d).tun = d.tun := settle_keeps Dev.tun (fun _ => rfl) o d
@[simp] theorem settle_trl (o d : Dev) : (settle o d).trl = d.trl := settle_keeps Dev.trl (fun _ => rfl) o d
@[simp] theorem settle_gth (o d : Dev) : (settle o d).gth = d.gth := settle_keeps Dev.gth (fun _ => rfl) o d
@[simp] theorem settle_wkt (o d : Dev) : (settle o d).wkt = d.wkt := settle_keeps Dev.wkt (fun _ => rfl) o d
@[simp] theorem settle_blv (o d : Dev) : (settle o d).blv = d.blv := settle_keeps Dev.blv (fun _ => rfl) o d
@[simp] theorem settle_fresh (o d : Dev) : (settle o d).fresh = d.fresh := settle_keeps Dev.fresh (fun _ => rfl) o d
@[simp] theorem settle_hub_armed (o d : Dev) : (settle o d).hub.armed = d.hub.armed :=
  settle_keeps (fun d => d.hub.armed) (fun _ => rfl) o d
@[simp] theorem settle_hub_rws (o d : Dev) : (settle o d).hub.rws = d.hub.rws :=
  settle_keeps (fun d => d.hub.rws) (fun _ => rfl) o d
@[simp] theorem settle_hub_held64 (o d : Dev) : (settle o d).hub.held64 = d.hub.held64 :=
  settle_keeps (fun d => d.hub.held64) (fun _ => rfl) o d
@[simp] theorem settle_hub_vtFrac (o d : Dev) : (settle o d).hub.vtFrac = d.hub.vtFrac :=
  settle_keeps (fun d => d.hub.vtFrac) (fun _ => rfl) o d
@[simp] theorem settle_fab_nextSeq (o d : Dev) : (settle o d).fab.nextSeq = d.fab.nextSeq :=
  settle_keeps (fun d => d.fab.nextSeq) (fun _ => rfl) o d
@[simp] theorem settle_fab_wbars (o d : Dev) : (settle o d).fab.wbars = d.fab.wbars :=
  settle_keeps (fun d => d.fab.wbars) (fun _ => rfl) o d
@[simp] theorem settle_fab_wbarNeed (o d : Dev) : (settle o d).fab.wbarNeed = d.fab.wbarNeed :=
  settle_keeps (fun d => d.fab.wbarNeed) (fun _ => rfl) o d
@[simp] theorem settle_fab_waitMsgs (o d : Dev) : (settle o d).fab.waitMsgs = d.fab.waitMsgs :=
  settle_keeps (fun d => d.fab.waitMsgs) (fun _ => rfl) o d
@[simp] theorem settle_fab_sent (o d : Dev) : (settle o d).fab.sent = d.fab.sent :=
  settle_keeps (fun d => d.fab.sent) (fun _ => rfl) o d
@[simp] theorem settle_fab_failed (o d : Dev) : (settle o d).fab.failed = d.fab.failed :=
  settle_keeps (fun d => d.fab.failed) (fun _ => rfl) o d
@[simp] theorem settle_fab_peerFail (o d : Dev) : (settle o d).fab.peerFail = d.fab.peerFail :=
  settle_keeps (fun d => d.fab.peerFail) (fun _ => rfl) o d
@[simp] theorem settle_fab_stops (o d : Dev) : (settle o d).fab.stops = d.fab.stops :=
  settle_keeps (fun d => d.fab.stops) (fun _ => rfl) o d
@[simp] theorem settle_fab_breaks (o d : Dev) : (settle o d).fab.breaks = d.fab.breaks :=
  settle_keeps (fun d => d.fab.breaks) (fun _ => rfl) o d
@[simp] theorem settle_fab_semLocks (o d : Dev) : (settle o d).fab.semLocks = d.fab.semLocks :=
  settle_keeps (fun d => d.fab.semLocks) (fun _ => rfl) o d
@[simp] theorem settle_fab_semGranted (o d : Dev) : (settle o d).fab.semGranted = d.fab.semGranted :=
  settle_keeps (fun d => d.fab.semGranted) (fun _ => rfl) o d
@[simp] theorem settle_fab_pref (o d : Dev) : (settle o d).fab.pref = d.fab.pref :=
  settle_keeps (fun d => d.fab.pref) (fun _ => rfl) o d
@[simp] theorem settle_fab_winBarSeq (o d : Dev) : (settle o d).fab.winBarSeq = d.fab.winBarSeq :=
  settle_keeps (fun d => d.fab.winBarSeq) (fun _ => rfl) o d
@[simp] theorem settle_fab_lwBar (o d : Dev) : (settle o d).fab.lwBar = d.fab.lwBar :=
  settle_keeps (fun d => d.fab.lwBar) (fun _ => rfl) o d
@[simp] theorem settle_hp_linkUp (o d : Dev) : (settle o d).hp.linkUp = d.hp.linkUp :=
  settle_keeps (fun d => d.hp.linkUp) (fun _ => rfl) o d
@[simp] theorem settle_hp_speed (o d : Dev) : (settle o d).hp.speed = d.hp.speed :=
  settle_keeps (fun d => d.hp.speed) (fun _ => rfl) o d
@[simp] theorem settle_hp_width (o d : Dev) : (settle o d).hp.width = d.hp.width :=
  settle_keeps (fun d => d.hp.width) (fun _ => rfl) o d
@[simp] theorem settle_hp_perst (o d : Dev) : (settle o d).hp.perst = d.hp.perst :=
  settle_keeps (fun d => d.hp.perst) (fun _ => rfl) o d
@[simp] theorem settle_hp_bme (o d : Dev) : (settle o d).hp.bme = d.hp.bme :=
  settle_keeps (fun d => d.hp.bme) (fun _ => rfl) o d
@[simp] theorem settle_hp_msixEn (o d : Dev) : (settle o d).hp.msixEn = d.hp.msixEn :=
  settle_keeps (fun d => d.hp.msixEn) (fun _ => rfl) o d
@[simp] theorem settle_hp_msixFmask (o d : Dev) : (settle o d).hp.msixFmask = d.hp.msixFmask :=
  settle_keeps (fun d => d.hp.msixFmask) (fun _ => rfl) o d
@[simp] theorem settle_hp_d3hot (o d : Dev) : (settle o d).hp.d3hot = d.hp.d3hot :=
  settle_keeps (fun d => d.hp.d3hot) (fun _ => rfl) o d
@[simp] theorem settle_hp_mps (o d : Dev) : (settle o d).hp.mps = d.hp.mps :=
  settle_keeps (fun d => d.hp.mps) (fun _ => rfl) o d
@[simp] theorem settle_hp_mrrs (o d : Dev) : (settle o d).hp.mrrs = d.hp.mrrs :=
  settle_keeps (fun d => d.hp.mrrs) (fun _ => rfl) o d
@[simp] theorem settle_hp_extTag (o d : Dev) : (settle o d).hp.extTag = d.hp.extTag :=
  settle_keeps (fun d => d.hp.extTag) (fun _ => rfl) o d
@[simp] theorem settle_hp_tag10 (o d : Dev) : (settle o d).hp.tag10 = d.hp.tag10 :=
  settle_keeps (fun d => d.hp.tag10) (fun _ => rfl) o d
@[simp] theorem settle_hp_cplTimeoutOff (o d : Dev) : (settle o d).hp.cplTimeoutOff = d.hp.cplTimeoutOff :=
  settle_keeps (fun d => d.hp.cplTimeoutOff) (fun _ => rfl) o d
@[simp] theorem settle_hp_msix (o d : Dev) : (settle o d).hp.msix = d.hp.msix :=
  settle_keeps (fun d => d.hp.msix) (fun _ => rfl) o d
@[simp] theorem settle_hp_msixMask (o d : Dev) : (settle o d).hp.msixMask = d.hp.msixMask :=
  settle_keeps (fun d => d.hp.msixMask) (fun _ => rfl) o d
@[simp] theorem settle_hp_pending (o d : Dev) : (settle o d).hp.pending = d.hp.pending :=
  settle_keeps (fun d => d.hp.pending) (fun _ => rfl) o d
@[simp] theorem settle_hp_reads (o d : Dev) : (settle o d).hp.reads = d.hp.reads :=
  settle_keeps (fun d => d.hp.reads) (fun _ => rfl) o d
@[simp] theorem settle_hp_flushes (o d : Dev) : (settle o d).hp.flushes = d.hp.flushes :=
  settle_keeps (fun d => d.hp.flushes) (fun _ => rfl) o d
@[simp] theorem settle_hp_downLogged (o d : Dev) : (settle o d).hp.downLogged = d.hp.downLogged :=
  settle_keeps (fun d => d.hp.downLogged) (fun _ => rfl) o d
@[simp] theorem settle_hp_reconfig (o d : Dev) : (settle o d).hp.reconfig = d.hp.reconfig :=
  settle_keeps (fun d => d.hp.reconfig) (fun _ => rfl) o d
@[simp] theorem settle_lbu_io3v3 (o d : Dev) : (settle o d).lbu.io3v3 = d.lbu.io3v3 :=
  settle_keeps (fun d => d.lbu.io3v3) (fun _ => rfl) o d
@[simp] theorem settle_lbu_clkGood (o d : Dev) : (settle o d).lbu.clkGood = d.lbu.clkGood :=
  settle_keeps (fun d => d.lbu.clkGood) (fun _ => rfl) o d
@[simp] theorem settle_lbu_clkOk (o d : Dev) : (settle o d).lbu.clkOk = d.lbu.clkOk :=
  settle_keeps (fun d => d.lbu.clkOk) (fun _ => rfl) o d
@[simp] theorem settle_lbu_owner (o d : Dev) : (settle o d).lbu.owner = d.lbu.owner :=
  settle_keeps (fun d => d.lbu.owner) (fun _ => rfl) o d
@[simp] theorem settle_lbu_requests (o d : Dev) : (settle o d).lbu.requests = d.lbu.requests :=
  settle_keeps (fun d => d.lbu.requests) (fun _ => rfl) o d
@[simp] theorem settle_lbu_promoted (o d : Dev) : (settle o d).lbu.promoted = d.lbu.promoted :=
  settle_keeps (fun d => d.lbu.promoted) (fun _ => rfl) o d
@[simp] theorem settle_lbu_guard (o d : Dev) : (settle o d).lbu.guard = d.lbu.guard :=
  settle_keeps (fun d => d.lbu.guard) (fun _ => rfl) o d
@[simp] theorem settle_lbu_zoneQ (o d : Dev) : (settle o d).lbu.zoneQ = d.lbu.zoneQ :=
  settle_keeps (fun d => d.lbu.zoneQ) (fun _ => rfl) o d
@[simp] theorem settle_lbu_retried (o d : Dev) : (settle o d).lbu.retried = d.lbu.retried :=
  settle_keeps (fun d => d.lbu.retried) (fun _ => rfl) o d
@[simp] theorem settle_lbu_slots (o d : Dev) : (settle o d).lbu.slots = d.lbu.slots :=
  settle_keeps (fun d => d.lbu.slots) (fun _ => rfl) o d
@[simp] theorem settle_lbu_wburst (o d : Dev) : (settle o d).lbu.wburst = d.lbu.wburst :=
  settle_keeps (fun d => d.lbu.wburst) (fun _ => rfl) o d
@[simp] theorem settle_lbu_locks (o d : Dev) : (settle o d).lbu.locks = d.lbu.locks :=
  settle_keeps (fun d => d.lbu.locks) (fun _ => rfl) o d
@[simp] theorem settle_lbu_pins (o d : Dev) : (settle o d).lbu.pins = d.lbu.pins :=
  settle_keeps (fun d => d.lbu.pins) (fun _ => rfl) o d
@[simp] theorem settle_lbu_lirqQ (o d : Dev) : (settle o d).lbu.lirqQ = d.lbu.lirqQ :=
  settle_keeps (fun d => d.lbu.lirqQ) (fun _ => rfl) o d
@[simp] theorem settle_lbu_draining (o d : Dev) : (settle o d).lbu.draining = d.lbu.draining :=
  settle_keeps (fun d => d.lbu.draining) (fun _ => rfl) o d
@[simp] theorem settle_frm_nextId (o d : Dev) : (settle o d).frm.nextId = d.frm.nextId :=
  settle_keeps (fun d => d.frm.nextId) (fun _ => rfl) o d
@[simp] theorem settle_frm_xfers (o d : Dev) : (settle o d).frm.xfers = d.frm.xfers :=
  settle_keeps (fun d => d.frm.xfers) (fun _ => rfl) o d
@[simp] theorem settle_frm_sec (o d : Dev) : (settle o d).frm.sec = d.frm.sec :=
  settle_keeps (fun d => d.frm.sec) (fun _ => rfl) o d
@[simp] theorem settle_frm_caps (o d : Dev) : (settle o d).frm.caps = d.frm.caps :=
  settle_keeps (fun d => d.frm.caps) (fun _ => rfl) o d
@[simp] theorem settle_frm_pdus (o d : Dev) : (settle o d).frm.pdus = d.frm.pdus :=
  settle_keeps (fun d => d.frm.pdus) (fun _ => rfl) o d
@[simp] theorem settle_dep_lockstep (o d : Dev) : (settle o d).dep.lockstep = d.dep.lockstep :=
  settle_keeps (fun d => d.dep.lockstep) (fun _ => rfl) o d
@[simp] theorem settle_dep_clockBad (o d : Dev) : (settle o d).dep.clockBad = d.dep.clockBad :=
  settle_keeps (fun d => d.dep.clockBad) (fun _ => rfl) o d
@[simp] theorem settle_dep_supplyBad (o d : Dev) : (settle o d).dep.supplyBad = d.dep.supplyBad :=
  settle_keeps (fun d => d.dep.supplyBad) (fun _ => rfl) o d
@[simp] theorem settle_dep_dramPhy (o d : Dev) : (settle o d).dep.dramPhy = d.dep.dramPhy :=
  settle_keeps (fun d => d.dep.dramPhy) (fun _ => rfl) o d
@[simp] theorem settle_dep_planeOk (o d : Dev) : (settle o d).dep.planeOk = d.dep.planeOk :=
  settle_keeps (fun d => d.dep.planeOk) (fun _ => rfl) o d
@[simp] theorem settle_dep_dramFree (o d : Dev) : (settle o d).dep.dramFree = d.dep.dramFree :=
  settle_keeps (fun d => d.dep.dramFree) (fun _ => rfl) o d
@[simp] theorem settle_dep_wear (o d : Dev) : (settle o d).dep.wear = d.dep.wear :=
  settle_keeps (fun d => d.dep.wear) (fun _ => rfl) o d
@[simp] theorem settle_dep_scrubbed (o d : Dev) : (settle o d).dep.scrubbed = d.dep.scrubbed :=
  settle_keeps (fun d => d.dep.scrubbed) (fun _ => rfl) o d
@[simp] theorem settle_gzb_running (o d : Dev) : (settle o d).gzb.running = d.gzb.running :=
  settle_keeps (fun d => d.gzb.running) (fun _ => rfl) o d
@[simp] theorem settle_gzb_runDone (o d : Dev) : (settle o d).gzb.runDone = d.gzb.runDone :=
  settle_keeps (fun d => d.gzb.runDone) (fun _ => rfl) o d
@[simp] theorem settle_gzb_served (o d : Dev) : (settle o d).gzb.served = d.gzb.served :=
  settle_keeps (fun d => d.gzb.served) (fun _ => rfl) o d
@[simp] theorem settle_gzb_halted (o d : Dev) : (settle o d).gzb.halted = d.gzb.halted :=
  settle_keeps (fun d => d.gzb.halted) (fun _ => rfl) o d
@[simp] theorem settle_gzb_draining (o d : Dev) : (settle o d).gzb.draining = d.gzb.draining :=
  settle_keeps (fun d => d.gzb.draining) (fun _ => rfl) o d
@[simp] theorem settle_gzb_restart (o d : Dev) : (settle o d).gzb.restart = d.gzb.restart :=
  settle_keeps (fun d => d.gzb.restart) (fun _ => rfl) o d
@[simp] theorem settle_gzb_reads (o d : Dev) : (settle o d).gzb.reads = d.gzb.reads :=
  settle_keeps (fun d => d.gzb.reads) (fun _ => rfl) o d
@[simp] theorem settle_gzb_nextId (o d : Dev) : (settle o d).gzb.nextId = d.gzb.nextId :=
  settle_keeps (fun d => d.gzb.nextId) (fun _ => rfl) o d
@[simp] theorem settle_ldg_flash (o d : Dev) : (settle o d).ldg.flash = d.ldg.flash :=
  settle_keeps (fun d => d.ldg.flash) (fun _ => rfl) o d
@[simp] theorem settle_ldg_straps (o d : Dev) : (settle o d).ldg.straps = d.ldg.straps :=
  settle_keeps (fun d => d.ldg.straps) (fun _ => rfl) o d
@[simp] theorem settle_ldg_boot (o d : Dev) : (settle o d).ldg.boot = d.ldg.boot :=
  settle_keeps (fun d => d.ldg.boot) (fun _ => rfl) o d
@[simp] theorem settle_ldg_recovery (o d : Dev) : (settle o d).ldg.recovery = d.ldg.recovery :=
  settle_keeps (fun d => d.ldg.recovery) (fun _ => rfl) o d
@[simp] theorem settle_ldg_config (o d : Dev) : (settle o d).ldg.config = d.ldg.config :=
  settle_keeps (fun d => d.ldg.config) (fun _ => rfl) o d
@[simp] theorem settle_ldg_access (o d : Dev) : (settle o d).ldg.access = d.ldg.access :=
  settle_keeps (fun d => d.ldg.access) (fun _ => rfl) o d
@[simp] theorem settle_ldg_svcSlot (o d : Dev) : (settle o d).ldg.svcSlot = d.ldg.svcSlot :=
  settle_keeps (fun d => d.ldg.svcSlot) (fun _ => rfl) o d
@[simp] theorem settle_ldg_mbx (o d : Dev) : (settle o d).ldg.mbx = d.ldg.mbx :=
  settle_keeps (fun d => d.ldg.mbx) (fun _ => rfl) o d
@[simp] theorem settle_ldg_mbxIe (o d : Dev) : (settle o d).ldg.mbxIe = d.ldg.mbxIe :=
  settle_keeps (fun d => d.ldg.mbxIe) (fun _ => rfl) o d
@[simp] theorem settle_ldg_erasing (o d : Dev) : (settle o d).ldg.erasing = d.ldg.erasing :=
  settle_keeps (fun d => d.ldg.erasing) (fun _ => rfl) o d
@[simp] theorem settle_ldg_eraseWait (o d : Dev) : (settle o d).ldg.eraseWait = d.ldg.eraseWait :=
  settle_keeps (fun d => d.ldg.eraseWait) (fun _ => rfl) o d
@[simp] theorem settle_ldg_warm (o d : Dev) : (settle o d).ldg.warm = d.ldg.warm :=
  settle_keeps (fun d => d.ldg.warm) (fun _ => rfl) o d
@[simp] theorem settle_ldg_resetBlocks (o d : Dev) : (settle o d).ldg.resetBlocks = d.ldg.resetBlocks :=
  settle_keeps (fun d => d.ldg.resetBlocks) (fun _ => rfl) o d
@[simp] theorem settle_ldg_remaps (o d : Dev) : (settle o d).ldg.remaps = d.ldg.remaps :=
  settle_keeps (fun d => d.ldg.remaps) (fun _ => rfl) o d
@[simp] theorem settle_ldg_challenge (o d : Dev) : (settle o d).ldg.challenge = d.ldg.challenge :=
  settle_keeps (fun d => d.ldg.challenge) (fun _ => rfl) o d
@[simp] theorem settle_ldg_wrong (o d : Dev) : (settle o d).ldg.wrong = d.ldg.wrong :=
  settle_keeps (fun d => d.ldg.wrong) (fun _ => rfl) o d
@[simp] theorem settle_ldg_itmLat (o d : Dev) : (settle o d).ldg.itmLat = d.ldg.itmLat :=
  settle_keeps (fun d => d.ldg.itmLat) (fun _ => rfl) o d
@[simp] theorem settle_ldg_lbusTap (o d : Dev) : (settle o d).ldg.lbusTap = d.ldg.lbusTap :=
  settle_keeps (fun d => d.ldg.lbusTap) (fun _ => rfl) o d
@[simp] theorem settle_ldg_tempTrim (o d : Dev) : (settle o d).ldg.tempTrim = d.ldg.tempTrim :=
  settle_keeps (fun d => d.ldg.tempTrim) (fun _ => rfl) o d
@[simp] theorem settle_ldg_ptpLat (o d : Dev) : (settle o d).ldg.ptpLat = d.ldg.ptpLat :=
  settle_keeps (fun d => d.ldg.ptpLat) (fun _ => rfl) o d
@[simp] theorem settle_ldg_brownout (o d : Dev) : (settle o d).ldg.brownout = d.ldg.brownout :=
  settle_keeps (fun d => d.ldg.brownout) (fun _ => rfl) o d

/-- A part of a link other than its waiting messages is left. -/
theorem Dev.quiet_link_keeps {α : Type} (g : Link → α) (hg : ∀ l : Link, g { l with msgs := [] } = g l) {e d : Dev} (hq : e.quiet = d.quiet) (n : Nat) :
    g (e.link n) = g (d.link n) := by
  have h := congrArg (fun e : Dev => g (e.itm.getD n { msgs := [] })) hq
  have k : ∀ l : List Link, g ((l.map fun x => { x with msgs := [] }).getD n { msgs := [] }) = g (l.getD n {}) := by
    intro l
    have hm : (l.map fun x : Link => ({ x with msgs := [] } : Link)).getD n { msgs := [] } = { (l.getD n {} : Link) with msgs := [] } := by
      simp only [List.getD_eq_getElem?_getD, List.getElem?_map]
      cases l[n]? <;> rfl
    rw [hm, hg]
  exact (k _).symm.trans (h.trans (k _))

/-- A part of a MAC other than its queue is left. -/
theorem Dev.quiet_mac_keeps {α : Type} (g : Mac → α) (hg : ∀ m : Mac, g { m with queue := [] } = g m) {e d : Dev} (hq : e.quiet = d.quiet) (n : Nat) :
    g (e.mac.getD n {}) = g (d.mac.getD n {}) := by
  have h := congrArg (fun e : Dev => g (e.mac.getD n { queue := [] })) hq
  have k : ∀ l : List Mac, g ((l.map fun x => { x with queue := [] }).getD n { queue := [] }) = g (l.getD n {}) := by
    intro l
    have hm : (l.map fun x : Mac => ({ x with queue := [] } : Mac)).getD n { queue := [] } = { (l.getD n {} : Mac) with queue := [] } := by
      simp only [List.getD_eq_getElem?_getD, List.getElem?_map]
      cases l[n]? <;> rfl
    rw [hm, hg]
  exact (k _).symm.trans (h.trans (k _))

/-- A part of a LIN channel other than its place in the schedule is left. -/
theorem Dev.quiet_lin_keeps {α : Type} (g : LinCh → α) (hg : ∀ c : LinCh, g { c with pos := 0 } = g c) {e d : Dev} (hq : e.quiet = d.quiet) (n : Nat) :
    g (e.lin.getD n {}) = g (d.lin.getD n {}) := by
  have h := congrArg (fun e : Dev => g (e.lin.getD n { pos := 0 })) hq
  have k : ∀ l : List LinCh, g ((l.map fun x => { x with pos := 0 }).getD n { pos := 0 }) = g (l.getD n {}) := by
    intro l
    have hm : (l.map fun x : LinCh => ({ x with pos := 0 } : LinCh)).getD n { pos := 0 } = { (l.getD n {} : LinCh) with pos := 0 } := by
      simp only [List.getD_eq_getElem?_getD, List.getElem?_map]
      cases l[n]? <;> rfl
    rw [hm, hg]
  exact (k _).symm.trans (h.trans (k _))

@[simp] theorem settle_link_state (o d : Dev) (n : Nat) : ((settle o d).link n).state = (d.link n).state :=
  Dev.quiet_link_keeps Link.state (fun _ => rfl) (settle_quiet o d) n
@[simp] theorem settle_link_cause (o d : Dev) (n : Nat) : ((settle o d).link n).cause = (d.link n).cause :=
  Dev.quiet_link_keeps Link.cause (fun _ => rfl) (settle_quiet o d) n
@[simp] theorem settle_link_peerTwin (o d : Dev) (n : Nat) : ((settle o d).link n).peerTwin = (d.link n).peerTwin :=
  Dev.quiet_link_keeps Link.peerTwin (fun _ => rfl) (settle_quiet o d) n
@[simp] theorem settle_link_trained (o d : Dev) (n : Nat) : ((settle o d).link n).trained = (d.link n).trained :=
  Dev.quiet_link_keeps Link.trained (fun _ => rfl) (settle_quiet o d) n
@[simp] theorem settle_link_rx (o d : Dev) (n : Nat) : ((settle o d).link n).rx = (d.link n).rx :=
  Dev.quiet_link_keeps Link.rx (fun _ => rfl) (settle_quiet o d) n
@[simp] theorem settle_link_tx (o d : Dev) (n : Nat) : ((settle o d).link n).tx = (d.link n).tx :=
  Dev.quiet_link_keeps Link.tx (fun _ => rfl) (settle_quiet o d) n
@[simp] theorem settle_link_peerDevid (o d : Dev) (n : Nat) : ((settle o d).link n).peerDevid = (d.link n).peerDevid :=
  Dev.quiet_link_keeps Link.peerDevid (fun _ => rfl) (settle_quiet o d) n
@[simp] theorem settle_link_epoch (o d : Dev) (n : Nat) : ((settle o d).link n).epoch = (d.link n).epoch :=
  Dev.quiet_link_keeps Link.epoch (fun _ => rfl) (settle_quiet o d) n
@[simp] theorem settle_link_peerEpoch (o d : Dev) (n : Nat) : ((settle o d).link n).peerEpoch = (d.link n).peerEpoch :=
  Dev.quiet_link_keeps Link.peerEpoch (fun _ => rfl) (settle_quiet o d) n
@[simp] theorem settle_link_peerCredits (o d : Dev) (n : Nat) : ((settle o d).link n).peerCredits = (d.link n).peerCredits :=
  Dev.quiet_link_keeps Link.peerCredits (fun _ => rfl) (settle_quiet o d) n
@[simp] theorem settle_link_verdict (o d : Dev) (n : Nat) : ((settle o d).link n).verdict = (d.link n).verdict :=
  Dev.quiet_link_keeps Link.verdict (fun _ => rfl) (settle_quiet o d) n
@[simp] theorem settle_link_sentOk (o d : Dev) (n : Nat) : ((settle o d).link n).sentOk = (d.link n).sentOk :=
  Dev.quiet_link_keeps Link.sentOk (fun _ => rfl) (settle_quiet o d) n
@[simp] theorem settle_link_peerResult (o d : Dev) (n : Nat) : ((settle o d).link n).peerResult = (d.link n).peerResult :=
  Dev.quiet_link_keeps Link.peerResult (fun _ => rfl) (settle_quiet o d) n
@[simp] theorem settle_link_fromUp (o d : Dev) (n : Nat) : ((settle o d).link n).fromUp = (d.link n).fromUp :=
  Dev.quiet_link_keeps Link.fromUp (fun _ => rfl) (settle_quiet o d) n
@[simp] theorem settle_link_rxAny (o d : Dev) (n : Nat) : ((settle o d).link n).rxAny = (d.link n).rxAny :=
  Dev.quiet_link_keeps Link.rxAny (fun _ => rfl) (settle_quiet o d) n
@[simp] theorem settle_link_replays (o d : Dev) (n : Nat) : ((settle o d).link n).replays = (d.link n).replays :=
  Dev.quiet_link_keeps Link.replays (fun _ => rfl) (settle_quiet o d) n
@[simp] theorem settle_link_swapLane (o d : Dev) (n : Nat) : ((settle o d).link n).swapLane = (d.link n).swapLane :=
  Dev.quiet_link_keeps Link.swapLane (fun _ => rfl) (settle_quiet o d) n
@[simp] theorem settle_link_swapTries (o d : Dev) (n : Nat) : ((settle o d).link n).swapTries = (d.link n).swapTries :=
  Dev.quiet_link_keeps Link.swapTries (fun _ => rfl) (settle_quiet o d) n
@[simp] theorem settle_link_nakSent (o d : Dev) (n : Nat) : ((settle o d).link n).nakSent = (d.link n).nakSent :=
  Dev.quiet_link_keeps Link.nakSent (fun _ => rfl) (settle_quiet o d) n
@[simp] theorem settle_link_delays (o d : Dev) (n : Nat) : ((settle o d).link n).delays = (d.link n).delays :=
  Dev.quiet_link_keeps Link.delays (fun _ => rfl) (settle_quiet o d) n
@[simp] theorem settle_link_delayReq (o d : Dev) (n : Nat) : ((settle o d).link n).delayReq = (d.link n).delayReq :=
  Dev.quiet_link_keeps Link.delayReq (fun _ => rfl) (settle_quiet o d) n
@[simp] theorem settle_link_timeSeq (o d : Dev) (n : Nat) : ((settle o d).link n).timeSeq = (d.link n).timeSeq :=
  Dev.quiet_link_keeps Link.timeSeq (fun _ => rfl) (settle_quiet o d) n

/-- The memory reads the same byte before and after what follows a command. -/
@[simp] theorem settle_byteAt (o d : Dev) (a : Nat) : (settle o d).byteAt a = d.byteAt a := by
  simp [Dev.byteAt]

/-- What a command has sent stays sent. -/
theorem settle_out (o d : Dev) (e : Emit) (h : e ∈ d.out) : e ∈ (settle o d).out := by
  refine SettleClosed.settle (P := fun d => e ∈ d.out) ?_ o d h
  exact {
    wr := fun _ _ _ _ h => h, wrMap := fun _ _ _ _ h => h, wrGzb := fun _ _ _ _ h => ⟨h, h⟩
    shadow := fun d h => by
      have hk := Dev.foldl_wr_keeps Dev.out (fun _ _ _ => rfl) (d.hub.damaged.filter (·.ok)) d
      show e ∈ ((d.hub.damaged.filter (·.ok)).foldl (fun d x => d.wr x.off x.shadow) d).out
      rw [hk]; exact h
    emit := fun d x h => List.mem_append_left _ h
    fab := fun _ _ _ _ _ _ _ _ h => h, twin := fun _ _ h => h, dep := fun _ _ _ _ _ _ _ _ h => h, chan := fun _ _ _ h => h
    msgs := fun _ _ _ h => h, hp := fun _ _ h => h, intb := fun _ _ h => h, bus := fun _ _ _ _ _ _ h => h, can := fun _ _ _ _ _ h => h
    lin := fun _ _ _ h => h, mac := fun _ _ h => h, restarts := fun _ _ h => h }

/-- A register is one of those that what follows a command may write. -/
def settleWrites (off : Nat) : Bool :=
  [Reg.intMsgSent, Reg.depTwinLost, Reg.depTwinLost + 4, Reg.depFaultLast, Reg.depNoteOvf, Reg.depSpareCount, Reg.depSpareLost, Reg.ldgStatus,
    Reg.ldgArcRestarts].contains off ||
  (decide (Reg.depSpareMap ≤ off) && decide (off < Reg.depSpareMap + 512)) ||
  (List.range 16).any fun c => off == gzbReg Reg.gzbChEvt c || off == gzbReg Reg.gzbChWrFail c

/-- Outside the Gazebo, the fault manager, the interrupt block and the Lodge, what follows a command writes no register. -/
theorem settleWrites_block {off : Nat} (h : off / 0x100000 ∉ [9, 13, 14, 16]) : settleWrites off = false := by
  rw [Bool.eq_false_iff]
  intro hw
  apply h
  simp only [settleWrites, Bool.or_eq_true, List.contains_eq_mem, decide_eq_true_eq, List.mem_cons, List.not_mem_nil, or_false,
    Bool.and_eq_true, List.any_eq_true, List.mem_range, beq_iff_eq, gzbReg, Reg.intMsgSent, Reg.depTwinLost, Reg.depFaultLast,
    Reg.depNoteOvf, Reg.depSpareCount, Reg.depSpareLost, Reg.ldgStatus, Reg.ldgArcRestarts, Reg.depSpareMap, Reg.gzbChEvt,
    Reg.gzbChWrFail] at hw ⊢
  rcases hw with (hw | hw) | ⟨c, hc, hw⟩ <;> omega

theorem Dev.rd_wr_ne {d : Dev} (hw : cellsWf d.regs = true) {a c : Nat} (v : Word) (h : c ≠ a) : (d.wr a v).rd c = d.rd c := by
  show cellGet (cellSet d.regs a v) c = _
  rw [cellGet_set hw, if_neg h]
  rfl

theorem Dev.rd_wr_same {d : Dev} (hw : cellsWf d.regs = true) (a : Nat) (v : Word) : (d.wr a v).rd a = v := by
  show cellGet (cellSet d.regs a v) a = _
  rw [cellGet_set hw, if_pos rfl]

/-- What follows a command leaves every other register of a steady device, and leaves it steady. -/
theorem settle_rd (o : Dev) {d : Dev} (hd : d.Steady) {off : Nat} (h : settleWrites off = false) : (settle o d).rd off = d.rd off := by
  let P : Dev → Prop := fun e => e.rd off = d.rd off ∧ e.Steady
  have hne : ∀ a, settleWrites a = true → off ≠ a := fun a ha e => by rw [e, ha] at h; exact absurd h (by decide)
  have hw : ∀ e a v, settleWrites a = true → P e → P (e.wr a v) := fun e a v ha he =>
    ⟨(Dev.rd_wr_ne he.2.1 v (hne a ha)).trans he.1, cellsWf_set a v he.2.1, he.2.2⟩
  have hP : SettleClosed P := {
    wr := fun e a v ha he => hw e a v (by
      have : [Reg.intMsgSent, Reg.depTwinLost, Reg.depTwinLost + 4, Reg.depFaultLast, Reg.depNoteOvf, Reg.depSpareCount, Reg.depSpareLost,
        Reg.ldgStatus, Reg.ldgArcRestarts].contains a = true := by simpa using ha
      simp only [settleWrites, this, Bool.true_or]) he
    wrMap := fun e k v hk he => hw e _ v (by
      have h1 : decide (Reg.depSpareMap ≤ Reg.depSpareMap + 4 * k) = true := by simp
      have h2 : decide (Reg.depSpareMap + 4 * k < Reg.depSpareMap + 512) = true := by simp; omega
      simp only [settleWrites, h1, h2, Bool.and_self, Bool.or_true, Bool.true_or]) he
    wrGzb := fun e c v hc he => by
      have hc' : c ∈ List.range 16 := by rw [List.mem_range]; rw [he.2.2.1] at hc; exact hc
      have h1 : settleWrites (gzbReg Reg.gzbChEvt c) = true := by
        have : (List.range 16).any (fun x => gzbReg Reg.gzbChEvt c == gzbReg Reg.gzbChEvt x || gzbReg Reg.gzbChEvt c == gzbReg Reg.gzbChWrFail x) = true :=
          List.any_eq_true.mpr ⟨c, hc', by simp⟩
        simp only [settleWrites, this, Bool.or_true]
      have h2 : settleWrites (gzbReg Reg.gzbChWrFail c) = true := by
        have : (List.range 16).any (fun x => gzbReg Reg.gzbChWrFail c == gzbReg Reg.gzbChEvt x || gzbReg Reg.gzbChWrFail c == gzbReg Reg.gzbChWrFail x) = true :=
          List.any_eq_true.mpr ⟨c, hc', by simp⟩
        simp only [settleWrites, this, Bool.or_true]
      exact ⟨hw e _ v h1 he, hw e _ v h2 he⟩
    shadow := fun e he => by
      have hn : e.hub.damaged = [] := he.2.2.2
      have hk : e.restoreShadows = { e with hub := { e.hub with damaged := [] } } := by
        simp only [Dev.restoreShadows, hn, List.filter_nil, List.foldl_nil]
      rw [hk]
      exact ⟨he.1, he.2.1, he.2.2.1, rfl⟩
    emit := fun _ _ h => h
    fab := fun _ _ _ _ _ _ _ _ h => h
    twin := fun _ _ h => h
    dep := fun _ _ _ _ _ _ _ _ h => h
    chan := fun e c f h => ⟨h.1, h.2.1, by simpa [Dev.onChan] using h.2.2.1, h.2.2.2⟩
    msgs := fun _ _ _ h => h
    hp := fun _ _ h => h
    intb := fun _ _ h => h
    bus := fun _ _ _ _ _ _ h => h
    can := fun _ _ _ _ _ h => h
    lin := fun _ _ _ h => h
    mac := fun _ _ h => h
    restarts := fun _ _ h => h }
  exact (hP.settle o d ⟨rfl, hd⟩).1

end Sys2Proof.Machine
end

