-- ==== Sys2Proof/Laws/Answer.lean ====
section
/-!
SUPPORT. How a meaning written as `State.act` answers: it always gives a next state, with the queue as it stood.
-/
namespace Sys2Proof.Machine

/-- A command whose meaning is an effect `f` on the device answers a next state. -/
theorem after_act {c : Instr} {s : State} {P : Dev → Prop} (f : Dev → Dev) (h : exec c s = s.act f)
    (hP : P (settle s.dev (f s.clear))) : After c s P := by
  rw [State.act, ← State.clear] at h
  generalize settle s.dev (f s.clear) = e at h hP
  exact ⟨_, h, rfl, hP⟩

/-- The same, with the effect before what follows a command. -/
theorem does_act {c : Instr} {s : State} {P : Dev → Prop} (f : Dev → Dev) (h : exec c s = s.act f)
    (hP : P (f s.clear)) : Does c s P := by
  rw [State.act, ← State.clear] at h
  generalize f s.clear = e at h hP
  exact ⟨e, h, hP⟩

/-! ### The device a command acts on -/

@[simp] theorem State.clear_regs (s : State) : s.clear.regs = s.dev.regs := rfl
@[simp] theorem State.clear_mem (s : State) : s.clear.mem = s.dev.mem := rfl
@[simp] theorem State.clear_bad (s : State) : s.clear.bad = s.dev.bad := rfl
@[simp] theorem State.clear_hub (s : State) : s.clear.hub = s.dev.hub := rfl
@[simp] theorem State.clear_elog (s : State) : s.clear.elog = s.dev.elog := rfl
@[simp] theorem State.clear_fab (s : State) : s.clear.fab = s.dev.fab := rfl
@[simp] theorem State.clear_hp (s : State) : s.clear.hp = s.dev.hp := rfl
@[simp] theorem State.clear_lbu (s : State) : s.clear.lbu = s.dev.lbu := rfl
@[simp] theorem State.clear_itm (s : State) : s.clear.itm = s.dev.itm := rfl
@[simp] theorem State.clear_intb (s : State) : s.clear.intb = s.dev.intb := rfl
@[simp] theorem State.clear_can (s : State) : s.clear.can = s.dev.can := rfl
@[simp] theorem State.clear_lin (s : State) : s.clear.lin = s.dev.lin := rfl
@[simp] theorem State.clear_mac (s : State) : s.clear.mac = s.dev.mac := rfl
@[simp] theorem State.clear_tun (s : State) : s.clear.tun = s.dev.tun := rfl
@[simp] theorem State.clear_frm (s : State) : s.clear.frm = s.dev.frm := rfl
@[simp] theorem State.clear_trl (s : State) : s.clear.trl = s.dev.trl := rfl
@[simp] theorem State.clear_gth (s : State) : s.clear.gth = s.dev.gth := rfl
@[simp] theorem State.clear_wkt (s : State) : s.clear.wkt = s.dev.wkt := rfl
@[simp] theorem State.clear_dep (s : State) : s.clear.dep = s.dev.dep := rfl
@[simp] theorem State.clear_twin (s : State) : s.clear.twin = s.dev.twin := rfl
@[simp] theorem State.clear_gzb (s : State) : s.clear.gzb = s.dev.gzb := rfl
@[simp] theorem State.clear_blv (s : State) : s.clear.blv = s.dev.blv := rfl
@[simp] theorem State.clear_ldg (s : State) : s.clear.ldg = s.dev.ldg := rfl
@[simp] theorem State.clear_fresh (s : State) : s.clear.fresh = s.dev.fresh := rfl
@[simp] theorem State.clear_out (s : State) : s.clear.out = [] := rfl
@[simp] theorem State.clear_rd (s : State) (o : Nat) : s.clear.rd o = s.dev.rd o := rfl
@[simp] theorem State.clear_fld (s : State) (o lo n : Nat) : s.clear.fld o lo n = s.dev.fld o lo n := rfl
@[simp] theorem State.clear_flag (s : State) (o i : Nat) : s.clear.flag o i = s.dev.flag o i := rfl
@[simp] theorem State.clear_steady (s : State) : s.clear.Steady ↔ s.dev.Steady := Iff.rfl

@[simp] theorem Dev.wr_wf {d : Dev} (hw : cellsWf d.regs = true) (a : Nat) (v : Word) : cellsWf (d.wr a v).regs = true := cellsWf_set a v hw
@[simp] theorem Dev.bump_wf {d : Dev} (hw : cellsWf d.regs = true) (a n : Nat) : cellsWf (d.bump a n).regs = true := cellsWf_set a _ hw
@[simp] theorem Dev.setFld_wf {d : Dev} (hw : cellsWf d.regs = true) (a lo n x : Nat) : cellsWf (d.setFld a lo n x).regs = true := cellsWf_set a _ hw

/-- A register read after a register write. -/
@[simp] theorem Dev.rd_wr {d : Dev} (hw : cellsWf d.regs = true) (a c : Nat) (v : Word) : (d.wr a v).rd c = if c = a then v else d.rd c := by
  split
  · subst c; exact Dev.rd_wr_same hw _ _
  · exact Dev.rd_wr_ne hw _ ‹_›

/-- A register read after a counter has advanced. -/
@[simp] theorem Dev.rd_bump {d : Dev} (hw : cellsWf d.regs = true) (a c n : Nat) : (d.bump a n).rd c = if c = a then d.rd a + BitVec.ofNat 32 n else d.rd c :=
  Dev.rd_wr hw a c _

/-- A register read after a field has been set. -/
@[simp] theorem Dev.rd_setFld {d : Dev} (hw : cellsWf d.regs = true) (a c lo n x : Nat) :
    (d.setFld a lo n x).rd c = if c = a then setField (d.rd a) lo n x else d.rd c := Dev.rd_wr hw a c _

end Sys2Proof.Machine
end

