-- ==== Sys2Proof/Laws/Sound.lean ====
section
/-!
SUPPORT. Every operation of the device keeps it sound (`Dev.Sound`), part 1: one lemma for each.
-/
set_option linter.all false
namespace Sys2Proof.Machine

/-- A device that differs from a sound one only in fields the invariant does not name is sound. -/
theorem Dev.Sound.of {d e : Dev} (h : d.Sound) (hr : e.regs = d.regs) (hm : e.mem = d.mem) (hf : e.ldg.flash = d.ldg.flash)
    (hl : e.elog = d.elog) (hw : e.wkt = d.wkt) (hn : e.dep.notes = d.dep.notes) : e.Sound :=
  ⟨hr ▸ h.regs, hm ▸ h.mem, hf ▸ h.flash, hl ▸ h.log, hw ▸ h.events, hw ▸ h.items, hn ▸ h.notes⟩

/-- The invariant, said of the parts it names. -/
structure Parts (r : Sparse 32) (m : Sparse 8) (f : Sparse 8) (l : List LogEntry) (ev : List (List Byte)) (it : List Item) (n : List (List Byte)) : Prop where
  regs : cellsWf r = true
  mem : Memory.wf m = true
  flash : cellsWf f = true
  log : l.length ≤ 64
  events : ev.length ≤ 32
  items : it.length = 16
  notes : n.length ≤ 64

theorem Dev.Sound.parts {d : Dev} (h : d.Sound) : Parts d.regs d.mem d.ldg.flash d.elog.entries d.wkt.events d.wkt.items d.dep.notes :=
  ⟨h.regs, h.mem, h.flash, h.log, h.events, h.items, h.notes⟩

theorem Dev.sound_mk (r m bad hub elog fab hp lbu itm intb can lin mac tun frm trl gth wkt dep twin gzb blv ldg fresh out) :
    (Dev.mk r m bad hub elog fab hp lbu itm intb can lin mac tun frm trl gth wkt dep twin gzb blv ldg fresh out).Sound =
      Parts r m ldg.flash elog.entries wkt.events wkt.items dep.notes :=
  propext ⟨fun h => h.parts, fun h => ⟨h.regs, h.mem, h.flash, h.log, h.events, h.items, h.notes⟩⟩

theorem foldl_sound {α : Type} (g : Dev → α → Dev) (hg : ∀ d a, d.Sound → (g d a).Sound) (l : List α) {d : Dev} (h : d.Sound) :
    (l.foldl g d).Sound := by
  induction l generalizing d with
  | nil => exact h
  | cons a l ih => exact ih (hg d a h)

theorem foldl_fst_sound {α β : Type} (g : Dev × β → α → Dev × β) (hg : ∀ p a, p.1.Sound → (g p a).1.Sound) (l : List α) {p : Dev × β}
    (h : p.1.Sound) : (l.foldl g p).1.Sound := by
  induction l generalizing p with
  | nil => exact h
  | cons a l ih => exact ih (hg p a h)

theorem Dev.wr_sound (d : Dev) (off : Nat) (v : Word) (h : d.Sound) : (d.wr off v).Sound :=
  ⟨cellsWf_set _ _ h.regs, h.mem, h.flash, h.log, h.events, h.items, h.notes⟩

theorem Dev.setByte_sound (d : Dev) (a : Nat) (b : Byte) (h : d.Sound) : (d.setByte a b).Sound :=
  ⟨h.regs, cellsWf_set _ _ h.mem, h.flash, h.log, h.events, h.items, h.notes⟩

theorem Dev.onLdg_sound (d : Dev) (f : Lodge → Lodge) (h : d.Sound) (hf : (f d.ldg).flash = d.ldg.flash) : (d.onLdg f).Sound :=
  ⟨h.regs, h.mem, hf ▸ h.flash, h.log, h.events, h.items, h.notes⟩

theorem Dev.onDep_sound (d : Dev) (f : Dep → Dep) (h : d.Sound) (hf : (f d.dep).notes = d.dep.notes) : (d.onDep f).Sound :=
  ⟨h.regs, h.mem, h.flash, h.log, h.events, h.items, hf ▸ h.notes⟩

theorem Dev.onWkt_sound (d : Dev) (f : Wkt → Wkt) (h : d.Sound) (he : (f d.wkt).events.length ≤ 32) (hi : (f d.wkt).items.length = 16) :
    (d.onWkt f).Sound := ⟨h.regs, h.mem, h.flash, h.log, he, hi, h.notes⟩

theorem Dev.onItem_sound (d : Dev) (j : Nat) (f : Item → Item) (h : d.Sound) : (d.onItem j f).Sound :=
  Dev.onWkt_sound d _ h h.events (by simpa using h.items)

theorem Dev.bump_sound (d : Dev) (off n : Nat) (h : d.Sound) : (d.bump off n).Sound := Dev.wr_sound _ _ _ h

theorem Dev.log_sound (d : Dev) (c : Culprit) (t : ErrType) (ga det n : Nat) (h : d.Sound) : (d.log c t ga det n).Sound := by
  unfold Dev.log
  have h1 := Dev.bump_sound d (Reg.intTypeCount + 4 * errCode t) n h
  generalize d.bump (Reg.intTypeCount + 4 * errCode t) n = d1 at h1
  dsimp only
  split
  · exact Dev.bump_sound _ _ _ ⟨h1.regs, h1.mem, h1.flash, h1.log, h1.events, h1.items, h1.notes⟩
  · rename_i hn
    refine Dev.bump_sound _ _ _ ⟨h1.regs, h1.mem, h1.flash, ?_, h1.events, h1.items, h1.notes⟩
    simp only [List.length_append, List.length_singleton]
    omega

theorem Dev.placeNote_sound (d : Dev) (n : List Byte) (h : d.Sound) : (d.placeNote n).Sound := by
  unfold Dev.placeNote
  split
  · exact Dev.bump_sound _ _ _ h
  · rename_i hn
    refine ⟨h.regs, h.mem, h.flash, h.log, h.events, h.items, ?_⟩
    simp only [Dev.onDep, List.length_append, List.length_singleton]
    omega

theorem Dev.elPop_sound (d : Dev) (n : Nat) (h : d.Sound) : (d.elPop n).Sound := by
  unfold Dev.elPop
  split
  · rename_i e t he
    split
    · have := h.log
      rw [he] at this
      exact ⟨h.regs, h.mem, h.flash, by simp at this ⊢; omega, h.events, h.items, h.notes⟩
    · exact Dev.bump_sound _ _ _ h
  · exact Dev.bump_sound _ _ _ h

theorem Dev.setBytes_sound (d : Dev) : ∀ (x : WData) (a : Nat), d.Sound → (d.setBytes a x).Sound := by
  intro x
  induction x generalizing d with
  | nil => intro a h; exact h
  | cons b t ih =>
    intro a h
    cases b with
    | none => exact ih d _ h
    | some b => exact ih _ _ (Dev.setByte_sound _ _ _ h)

theorem Dev.flashPut_sound (d : Dev) (off : Nat) (bs : List Byte) (h : d.Sound) : (d.flashPut off bs).Sound := by
  refine ⟨h.regs, h.mem, ?_, h.log, h.events, h.items, h.notes⟩
  unfold Dev.flashPut
  dsimp only
  have : ∀ (l : List (Byte × Nat)) (m : Sparse 8), cellsWf m = true → cellsWf (l.foldl (fun m p => cellSet m (off + p.2) (~~~ p.1)) m) = true := by
    intro l
    induction l with
    | nil => intro m h; exact h
    | cons a l ih => intro m h; exact ih _ (cellsWf_set _ _ h)
  exact this _ _ h.flash

theorem Dev.flashErase_sound (d : Dev) (off n : Nat) (h : d.Sound) : (d.flashErase off n).Sound :=
  ⟨h.regs, h.mem, cellsWf_clear _ _ h.flash, h.log, h.events, h.items, h.notes⟩

theorem Dev.regsReset_sound (d : Dev) (b : Nat) (keep : Nat → Bool) (h : d.Sound) : (d.regsReset b keep).Sound :=
  ⟨cellsWf_put _ (cellsWf_put _ (cellsWf_clear _ _ h.regs)), h.mem, h.flash, h.log, h.events, h.items, h.notes⟩

theorem Dev.wktEnter_sound (d : Dev) (m : Nat) (h : d.Sound) : (d.wktEnter m).Sound := by
  unfold Dev.wktEnter
  repeat' split
  all_goals exact ⟨h.regs, h.mem, h.flash, h.log, h.events, h.items, h.notes⟩

theorem Dev.aonEdge_sound (d : Dev) (h : d.Sound) : (d.aonEdge).Sound := by
  unfold Dev.aonEdge
  have h1 : Dev.Sound { d with wkt := { d.wkt with now := d.wkt.now + 1, acc := (d.wkt.acc + 32768) % 1000000000 } } :=
    ⟨h.regs, h.mem, h.flash, h.log, h.events, h.items, h.notes⟩
  dsimp only
  split
  · exact h1
  · unfold Dev.wr64
    exact Dev.wr_sound _ _ _ (Dev.wr_sound _ _ _ h1)

theorem Dev.setFld_sound (d : Dev) (a1) (a2) (a3) (a4) (h : d.Sound) : (Dev.setFld d a1 a2 a3 a4).Sound := by
  unfold Dev.setFld
  try dsimp only
  repeat' (first | assumption | (with_reducible apply Dev.wr_sound))

theorem Dev.bump64_sound (d : Dev) (a1) (a2) (h : d.Sound) : (Dev.bump64 d a1 a2).Sound := by
  unfold Dev.bump64
  try dsimp only
  repeat' (first | assumption | (with_reducible apply Dev.wr_sound))

theorem Dev.tick_sound (d : Dev) (h : d.Sound) : (Dev.tick d).Sound := by
  unfold Dev.tick
  try dsimp only
  repeat' (first | assumption | ((simp only [Dev.sound_mk]); (refine Dev.Sound.parts ?_)))

theorem Dev.emit_sound (d : Dev) (a1) (h : d.Sound) : (Dev.emit d a1).Sound := by
  unfold Dev.emit
  try dsimp only
  repeat' (first | assumption | ((simp only [Dev.sound_mk]); (refine Dev.Sound.parts ?_)))

theorem Dev.setNum_sound (d : Dev) (a1) (a2) (a3) (h : d.Sound) : (Dev.setNum d a1 a2 a3).Sound := by
  unfold Dev.setNum
  try dsimp only
  repeat' (first | assumption | (with_reducible apply Dev.setBytes_sound))

theorem Dev.wr64_sound (d : Dev) (a1) (a2) (h : d.Sound) : (Dev.wr64 d a1 a2).Sound := by
  unfold Dev.wr64
  try dsimp only
  repeat' (first | assumption | (with_reducible apply Dev.wr_sound))

theorem Dev.sendGen_sound (d : Dev) (a1) (a2) (a3) (h : d.Sound) : (Dev.sendGen d a1 a2 a3).Sound := by
  unfold Dev.sendGen
  try dsimp only
  repeat' (first | assumption | (with_reducible apply Dev.emit_sound) | ((simp only [Dev.sound_mk]); (refine Dev.Sound.parts ?_)))

theorem Dev.sendMsg_sound (d : Dev) (a1) (a2) (h : d.Sound) : (Dev.sendMsg d a1 a2).Sound := by
  unfold Dev.sendMsg
  try dsimp only
  repeat' (first | assumption | (with_reducible apply Dev.sendGen_sound))

theorem Dev.setRemote_sound (d : Dev) (a1) (a2) (a3) (h : d.Sound) : (Dev.setRemote d a1 a2 a3).Sound := by
  unfold Dev.setRemote
  try dsimp only
  repeat' (first | assumption | ((simp only [Dev.sound_mk]); (refine Dev.Sound.parts ?_)))

theorem Dev.sendVec_sound (d : Dev) (a1) (h : d.Sound) : (Dev.sendVec d a1).Sound := by
  unfold Dev.sendVec
  try dsimp only
  repeat' (first | assumption | (with_reducible apply Dev.bump_sound) | ((simp only [Dev.sound_mk]); (refine Dev.Sound.parts ?_)))

theorem Dev.onFab_sound (d : Dev) (a1) (h : d.Sound) : (Dev.onFab d a1).Sound := by
  unfold Dev.onFab
  try dsimp only
  repeat' (first | assumption | ((simp only [Dev.sound_mk]); (refine Dev.Sound.parts ?_)))

theorem Dev.updRsvInfo_sound (d : Dev) (a1) (a2) (h : d.Sound) : (Dev.updRsvInfo d a1 a2).Sound := by
  unfold Dev.updRsvInfo
  try dsimp only
  repeat' (first | assumption | (with_reducible apply Dev.onFab_sound))

theorem Dev.loseRsv_sound (d : Dev) (a1) (h : d.Sound) : (Dev.loseRsv d a1).Sound := by
  unfold Dev.loseRsv
  try dsimp only
  repeat' (first | assumption | (with_reducible apply Dev.updRsvInfo_sound) | (with_reducible apply Dev.onFab_sound) | (with_reducible refine foldl_sound _ (fun _ _ _ => ?_) _ ?_))

theorem Dev.arcHeld_sound (d : Dev) (h : d.Sound) : (Dev.arcHeld d).Sound := by
  unfold Dev.arcHeld
  try dsimp only
  repeat' (first | assumption | (with_reducible apply Dev.loseRsv_sound) | (with_reducible apply Dev.onFab_sound))

theorem Dev.loseWrites_sound (d : Dev) (h : d.Sound) : (Dev.loseWrites d).Sound := by
  unfold Dev.loseWrites
  try dsimp only
  repeat' (first | assumption | (with_reducible apply Dev.onFab_sound))

theorem Dev.restoreShadows_sound (d : Dev) (h : d.Sound) : (Dev.restoreShadows d).Sound := by
  unfold Dev.restoreShadows
  try dsimp only
  repeat' (first | assumption | (with_reducible apply Dev.wr_sound) | (with_reducible refine foldl_sound _ (fun _ _ _ => ?_) _ ?_) | ((simp only [Dev.sound_mk]); (refine Dev.Sound.parts ?_)))

theorem Dev.onTwin_sound (d : Dev) (a1) (h : d.Sound) : (Dev.onTwin d a1).Sound := by
  unfold Dev.onTwin
  try dsimp only
  repeat' (first | assumption | ((simp only [Dev.sound_mk]); (refine Dev.Sound.parts ?_)))

theorem Dev.cutBus_sound (d : Dev) (h : d.Sound) : (Dev.cutBus d).Sound := by
  unfold Dev.cutBus
  try dsimp only
  repeat' (first | assumption | ((simp only [Dev.sound_mk]); (refine Dev.Sound.parts ?_)))

theorem Dev.freshWords_sound (d : Dev) (a1) (a2) (h : d.Sound) : (Dev.freshWords d a1 a2).Sound := by
  unfold Dev.freshWords
  try dsimp only
  repeat' (first | assumption | ((simp only [Dev.sound_mk]); (refine Dev.Sound.parts ?_)))

theorem Dev.wearEntry_sound (d : Dev) (a1) (a2) (a3) (h : d.Sound) : (Dev.wearEntry d a1 a2 a3).Sound := by
  unfold Dev.wearEntry
  try dsimp only
  repeat' (first | assumption | (with_reducible apply Dev.onDep_sound) | (fail_if_no_progress split) | rfl)

theorem Dev.dropReq_sound (d : Dev) (a1) (h : d.Sound) : (Dev.dropReq d a1).Sound := by
  unfold Dev.dropReq
  try dsimp only
  repeat' (first | assumption | (with_reducible apply Dev.onFab_sound))

theorem Dev.ackMsgs_sound (d : Dev) (a1) (a2) (h : d.Sound) : (Dev.ackMsgs d a1 a2).Sound := by
  unfold Dev.ackMsgs
  try dsimp only
  repeat' (first | assumption | ((simp only [Dev.sound_mk]); (refine Dev.Sound.parts ?_)))

theorem Dev.rsvStore_sound (d : Dev) (a1) (a2) (a3) (a4) (a5) (h : d.Sound) : (Dev.rsvStore d a1 a2 a3 a4 a5).Sound := by
  unfold Dev.rsvStore
  try dsimp only
  repeat' (first | assumption | (with_reducible apply Dev.loseRsv_sound))

theorem Dev.updReq_sound (d : Dev) (a1) (a2) (h : d.Sound) : (Dev.updReq d a1 a2).Sound := by
  unfold Dev.updReq
  try dsimp only
  repeat' (first | assumption | (with_reducible apply Dev.onFab_sound))

theorem Dev.prefServe_sound (d : Dev) (a1) (h : d.Sound) : (Dev.prefServe d a1).Sound := by
  unfold Dev.prefServe
  try dsimp only
  repeat' (first | assumption | (with_reducible apply Dev.onFab_sound))

theorem Dev.peerAcked_sound (d : Dev) (a1) (h : d.Sound) : (Dev.peerAcked d a1).Sound := by
  unfold Dev.peerAcked
  try dsimp only
  repeat' (first | assumption | (with_reducible apply Dev.dropReq_sound) | (with_reducible apply Dev.onFab_sound) | (fail_if_no_progress split))

theorem Dev.onChan_sound (d : Dev) (a1) (a2) (h : d.Sound) : (Dev.onChan d a1 a2).Sound := by
  unfold Dev.onChan
  try dsimp only
  repeat' (first | assumption | ((simp only [Dev.sound_mk]); (refine Dev.Sound.parts ?_)))

theorem Dev.gzbEvent_sound (d : Dev) (a1) (h : d.Sound) : (Dev.gzbEvent d a1).Sound := by
  unfold Dev.gzbEvent
  try dsimp only
  repeat' (first | assumption | (with_reducible apply Dev.setFld_sound))

theorem Dev.gzbWatch_sound (d : Dev) (a1) (h : d.Sound) : (Dev.gzbWatch d a1).Sound := by
  unfold Dev.gzbWatch
  try dsimp only
  repeat' (first | assumption | (with_reducible apply Dev.onChan_sound) | (with_reducible apply Dev.gzbEvent_sound) | (with_reducible refine foldl_sound _ (fun _ _ _ => ?_) _ ?_) | (fail_if_no_progress split))

theorem Dev.condCheck_sound (d : Dev) (a1) (h : d.Sound) : (Dev.condCheck d a1).2.Sound := by
  unfold Dev.condCheck
  try dsimp only
  repeat' (first | assumption | (with_reducible apply Dev.onFab_sound))

theorem Dev.onHp_sound (d : Dev) (a1) (h : d.Sound) : (Dev.onHp d a1).Sound := by
  unfold Dev.onHp
  try dsimp only
  repeat' (first | assumption | ((simp only [Dev.sound_mk]); (refine Dev.Sound.parts ?_)))

theorem Dev.emitHostWrite_sound (d : Dev) (a1) (h : d.Sound) : (Dev.emitHostWrite d a1).Sound := by
  unfold Dev.emitHostWrite
  try dsimp only
  repeat' (first | assumption | (with_reducible apply Dev.emit_sound) | (with_reducible refine foldl_sound _ (fun _ _ _ => ?_) _ ?_))

theorem Dev.emitMsix_sound (d : Dev) (a1) (h : d.Sound) : (Dev.emitMsix d a1).Sound := by
  unfold Dev.emitMsix
  try dsimp only
  repeat' (first | assumption | (with_reducible apply Dev.emit_sound))

theorem Dev.dropReads_sound (d : Dev) (a1) (h : d.Sound) : (Dev.dropReads d a1).Sound := by
  unfold Dev.dropReads
  try dsimp only
  repeat' (first | assumption | (with_reducible apply Dev.onHp_sound))

theorem Dev.errCpl_sound (d : Dev) (a1) (a2) (a3) (a4) (a5) (h : d.Sound) : (Dev.errCpl d a1 a2 a3 a4 a5).Sound := by
  unfold Dev.errCpl
  try dsimp only
  repeat' (first | assumption | (with_reducible apply Dev.bump_sound) | (with_reducible apply Dev.emit_sound))

theorem Dev.trainHost_sound (d : Dev) (a1) (a2) (h : d.Sound) : (Dev.trainHost d a1 a2).Sound := by
  unfold Dev.trainHost
  try dsimp only
  repeat' (first | assumption | (with_reducible apply Dev.onHp_sound))

theorem Dev.setLwBar_sound (d : Dev) (a1) (a2) (h : d.Sound) : (Dev.setLwBar d a1 a2).Sound := by
  unfold Dev.setLwBar
  try dsimp only
  repeat' (first | assumption | (with_reducible apply Dev.onFab_sound))

theorem Dev.onLbu_sound (d : Dev) (a1) (h : d.Sound) : (Dev.onLbu d a1).Sound := by
  unfold Dev.onLbu
  try dsimp only
  repeat' (first | assumption | ((simp only [Dev.sound_mk]); (refine Dev.Sound.parts ?_)))

theorem Dev.driveBeat_sound (d : Dev) (a1) (a2) (a3) (a4) (h : d.Sound) : (Dev.driveBeat d a1 a2 a3 a4).Sound := by
  unfold Dev.driveBeat
  try dsimp only
  repeat' (first | assumption | (with_reducible apply Dev.emit_sound))

theorem Dev.zoneLeave_sound (d : Dev) (a1) (h : d.Sound) : (Dev.zoneLeave d a1).Sound := by
  unfold Dev.zoneLeave
  try dsimp only
  repeat' (first | assumption | (with_reducible apply Dev.onLbu_sound))

theorem Dev.timedRetried_sound (d : Dev) (a1) (h : d.Sound) : (Dev.timedRetried d a1).Sound := by
  unfold Dev.timedRetried
  try dsimp only
  repeat' (first | assumption | ((simp only [Dev.sound_mk]); (refine Dev.Sound.parts ?_)) | (fail_if_no_progress split))

theorem Dev.answer_sound (d : Dev) (a1) (h : d.Sound) : (Dev.answer d a1).Sound := by
  unfold Dev.answer
  try dsimp only
  repeat' (first | assumption | (with_reducible apply Dev.bump_sound) | (with_reducible apply Dev.emit_sound) | (fail_if_no_progress split))

theorem Dev.updSlot_sound (d : Dev) (a1) (a2) (h : d.Sound) : (Dev.updSlot d a1 a2).Sound := by
  unfold Dev.updSlot
  try dsimp only
  repeat' (first | assumption | (with_reducible apply Dev.onLbu_sound))

theorem Dev.updPin_sound (d : Dev) (a1) (a2) (h : d.Sound) : (Dev.updPin d a1 a2).Sound := by
  unfold Dev.updPin
  try dsimp only
  repeat' (first | assumption | (with_reducible apply Dev.onLbu_sound))

theorem Dev.onLink_sound (d : Dev) (a1) (a2) (h : d.Sound) : (Dev.onLink d a1 a2).Sound := by
  unfold Dev.onLink
  try dsimp only
  repeat' (first | assumption | ((simp only [Dev.sound_mk]); (refine Dev.Sound.parts ?_)))

theorem Dev.rxOn_sound (d : Dev) (a1) (h : d.Sound) : (Dev.rxOn d a1).Sound := by
  unfold Dev.rxOn
  try dsimp only
  repeat' (first | assumption | (with_reducible apply Dev.onLink_sound))

theorem Dev.onBlv_sound (d : Dev) (a1) (h : d.Sound) : (Dev.onBlv d a1).Sound := by
  unfold Dev.onBlv
  try dsimp only
  repeat' (first | assumption | ((simp only [Dev.sound_mk]); (refine Dev.Sound.parts ?_)))

theorem Dev.showOffset_sound (d : Dev) (a1) (h : d.Sound) : (Dev.showOffset d a1).Sound := by
  unfold Dev.showOffset
  try dsimp only
  repeat' (first | assumption | (with_reducible apply Dev.wr_sound))

theorem Dev.enterAcquire_sound (d : Dev) (h : d.Sound) : (Dev.enterAcquire d).Sound := by
  unfold Dev.enterAcquire
  try dsimp only
  repeat' (first | assumption | (with_reducible apply Dev.onBlv_sound))

theorem Dev.disarmSlot_sound (d : Dev) (a1) (h : d.Sound) : (Dev.disarmSlot d a1).Sound := by
  unfold Dev.disarmSlot
  try dsimp only
  repeat' (first | assumption | (with_reducible apply Dev.onBlv_sound))

theorem Dev.slotRef_sound (d : Dev) (a1) (a2) (h : d.Sound) : (Dev.slotRef d a1 a2).Sound := by
  unfold Dev.slotRef
  try dsimp only
  repeat' (first | assumption | (with_reducible apply Dev.onBlv_sound) | (fail_if_no_progress split))

theorem Dev.blvClear_sound (d : Dev) (h : d.Sound) : (Dev.blvClear d).Sound := by
  unfold Dev.blvClear
  try dsimp only
  repeat' (first | assumption | (with_reducible apply Dev.onBlv_sound))

theorem Dev.updTio_sound (d : Dev) (a1) (a2) (h : d.Sound) : (Dev.updTio d a1 a2).Sound := by
  unfold Dev.updTio
  try dsimp only
  repeat' (first | assumption | (with_reducible apply Dev.onBlv_sound))

theorem Dev.advance_sound (d : Dev) (h : d.Sound) : (Dev.advance d).Sound := by
  unfold Dev.advance
  try dsimp only
  repeat' (first | assumption | (with_reducible apply Dev.onBlv_sound))

theorem Dev.onGzb_sound (d : Dev) (a1) (h : d.Sound) : (Dev.onGzb d a1).Sound := by
  unfold Dev.onGzb
  try dsimp only
  repeat' (first | assumption | ((simp only [Dev.sound_mk]); (refine Dev.Sound.parts ?_)))

theorem Dev.updDesc_sound (d : Dev) (a1) (a2) (a3) (h : d.Sound) : (Dev.updDesc d a1 a2 a3).Sound := by
  unfold Dev.updDesc
  try dsimp only
  repeat' (first | assumption | (with_reducible apply Dev.onChan_sound))

theorem Dev.reject_sound (d : Dev) (h : d.Sound) : (Dev.reject d).Sound := by
  unfold Dev.reject
  try dsimp only
  repeat' (first | assumption | (with_reducible apply Dev.bump_sound))

theorem Dev.onTrl_sound (d : Dev) (a1) (h : d.Sound) : (Dev.onTrl d a1).Sound := by
  unfold Dev.onTrl
  try dsimp only
  repeat' (first | assumption | ((simp only [Dev.sound_mk]); (refine Dev.Sound.parts ?_)))

theorem Dev.permFail_sound (d : Dev) (a1) (a2) (a3) (h : d.Sound) : (Dev.permFail d a1 a2 a3).Sound := by
  unfold Dev.permFail
  try dsimp only
  repeat' (first | assumption | (with_reducible apply Dev.log_sound))

theorem Dev.rehashPop_sound (d : Dev) (h : d.Sound) : (Dev.rehashPop d).Sound := by
  unfold Dev.rehashPop
  try dsimp only
  repeat' (first | assumption | (with_reducible apply Dev.onTrl_sound))

theorem Dev.onFrm_sound (d : Dev) (a1) (h : d.Sound) : (Dev.onFrm d a1).Sound := by
  unfold Dev.onFrm
  try dsimp only
  repeat' (first | assumption | ((simp only [Dev.sound_mk]); (refine Dev.Sound.parts ?_)))

theorem Dev.onGth_sound (d : Dev) (a1) (h : d.Sound) : (Dev.onGth d a1).Sound := by
  unfold Dev.onGth
  try dsimp only
  repeat' (first | assumption | ((simp only [Dev.sound_mk]); (refine Dev.Sound.parts ?_)))

theorem Dev.authFailed_sound (d : Dev) (a1) (a2) (a3) (h : d.Sound) : (Dev.authFailed d a1 a2 a3).1.Sound := by
  unfold Dev.authFailed
  try dsimp only
  repeat' (first | assumption | (with_reducible apply Dev.bump_sound) | (with_reducible apply Dev.onGth_sound) | (fail_if_no_progress split))

theorem Dev.authFail_sound (d : Dev) (a1) (a2) (a3) (h : d.Sound) : (Dev.authFail d a1 a2 a3).1.Sound := by
  unfold Dev.authFail
  try dsimp only
  repeat' (first | assumption | (with_reducible apply Dev.authFailed_sound))

theorem Dev.installKey_sound (d : Dev) (a1) (a2) (a3) (a4) (h : d.Sound) : (Dev.installKey d a1 a2 a3 a4).Sound := by
  unfold Dev.installKey
  try dsimp only
  repeat' (first | assumption | (with_reducible apply Dev.onGth_sound))

theorem Dev.keyDone_sound (d : Dev) (h : d.Sound) : (Dev.keyDone d).Sound := by
  unfold Dev.keyDone
  try dsimp only
  repeat' (first | assumption | (with_reducible apply Dev.wr_sound) | (with_reducible apply Dev.onGth_sound) | (fail_if_no_progress split))

theorem Dev.setMeter_sound (d : Dev) (a1) (h : d.Sound) : (Dev.setMeter d a1).Sound := by
  unfold Dev.setMeter
  try dsimp only
  repeat' (first | assumption | (with_reducible apply Dev.onGth_sound))

theorem Dev.meterFill_sound (d : Dev) (a1) (h : d.Sound) : (Dev.meterFill d a1).Sound := by
  unfold Dev.meterFill
  try dsimp only
  repeat' (first | assumption | (with_reducible apply Dev.setMeter_sound))

theorem Dev.secProtect_sound (d : Dev) (a1) (a2) (h : d.Sound) : (Dev.secProtect d a1 a2).1.Sound := by
  unfold Dev.secProtect
  try dsimp only
  repeat' (first | assumption | (with_reducible apply Dev.bump_sound) | (with_reducible apply Dev.wr_sound) | (fail_if_no_progress split))

theorem Dev.setBlob_sound (d : Dev) (a1) (h : d.Sound) : (Dev.setBlob d a1).Sound := by
  unfold Dev.setBlob
  try dsimp only
  repeat' (first | assumption | (with_reducible apply Dev.wr_sound) | (with_reducible refine foldl_sound _ (fun _ _ _ => ?_) _ ?_))

theorem Dev.failPop_sound (d : Dev) (h : d.Sound) : (Dev.failPop d).Sound := by
  unfold Dev.failPop
  try dsimp only
  repeat' (first | assumption | (with_reducible apply Dev.onGth_sound))

theorem Dev.guardPass_sound (d : Dev) (a1) (a2) (h : d.Sound) : (Dev.guardPass d a1 a2).1.Sound := by
  unfold Dev.guardPass
  try dsimp only
  repeat' (first | assumption | (with_reducible apply Dev.bump_sound) | (with_reducible apply Dev.onGth_sound) | (fail_if_no_progress split))

theorem Dev.keyBusy_sound (d : Dev) (a1) (h : d.Sound) : (Dev.keyBusy d a1).Sound := by
  unfold Dev.keyBusy
  try dsimp only
  repeat' (first | assumption | (with_reducible apply Dev.wr_sound) | (with_reducible apply Dev.onGth_sound))

theorem Dev.loadBlob_sound (d : Dev) (a1) (a2) (h : d.Sound) : (Dev.loadBlob d a1 a2).1.Sound := by
  unfold Dev.loadBlob
  try dsimp only
  repeat' (first | assumption | (with_reducible apply Dev.installKey_sound) | (fail_if_no_progress split))

theorem Dev.guardFill_sound (d : Dev) (a1) (h : d.Sound) : (Dev.guardFill d a1).Sound := by
  unfold Dev.guardFill
  try dsimp only
  repeat' (first | assumption | (with_reducible apply Dev.onGth_sound))

theorem Dev.meterOp_sound (d : Dev) (a1) (a2) (a3) (h : d.Sound) : (Dev.meterOp d a1 a2 a3).1.Sound := by
  unfold Dev.meterOp
  try dsimp only
  repeat' (first | assumption | (with_reducible apply Dev.bump_sound) | (with_reducible apply Dev.setMeter_sound) | (fail_if_no_progress split))

theorem Dev.onCan_sound (d : Dev) (a1) (a2) (h : d.Sound) : (Dev.onCan d a1 a2).Sound := by
  unfold Dev.onCan
  try dsimp only
  repeat' (first | assumption | ((simp only [Dev.sound_mk]); (refine Dev.Sound.parts ?_)))

theorem Dev.setPdu_sound (d : Dev) (a1) (h : d.Sound) : (Dev.setPdu d a1).Sound := by
  unfold Dev.setPdu
  try dsimp only
  repeat' (first | assumption | (with_reducible apply Dev.onFrm_sound))

theorem Dev.crossCells_sound (d : Dev) (a1) (a2) (a3) (h : d.Sound) : (Dev.crossCells d a1 a2 a3).Sound := by
  unfold Dev.crossCells
  try dsimp only
  repeat' (first | assumption | (with_reducible apply Dev.bump_sound))

theorem Dev.dropIn_sound (d : Dev) (a1) (h : d.Sound) : (Dev.dropIn d a1).Sound := by
  unfold Dev.dropIn
  try dsimp only
  repeat' (first | assumption | (with_reducible apply Dev.onFrm_sound))

theorem Dev.updIn_sound (d : Dev) (a1) (a2) (h : d.Sound) : (Dev.updIn d a1 a2).Sound := by
  unfold Dev.updIn
  try dsimp only
  repeat' (first | assumption | (with_reducible apply Dev.onFrm_sound))

theorem Dev.frameMiss_sound (d : Dev) (a1) (h : d.Sound) : (Dev.frameMiss d a1).Sound := by
  unfold Dev.frameMiss
  try dsimp only
  repeat' (first | assumption | (with_reducible apply Dev.updIn_sound) | (with_reducible apply Dev.dropIn_sound) | (fail_if_no_progress split))

theorem Dev.keyMiss_sound (d : Dev) (a1) (h : d.Sound) : (Dev.keyMiss d a1).Sound := by
  unfold Dev.keyMiss
  try dsimp only
  repeat' (first | assumption | (with_reducible apply Dev.onFrm_sound) | (with_reducible apply Dev.updIn_sound) | (with_reducible apply Dev.frameMiss_sound) | (fail_if_no_progress split))

theorem Dev.keyGiveUp_sound (d : Dev) (a1) (h : d.Sound) : (Dev.keyGiveUp d a1).Sound := by
  unfold Dev.keyGiveUp
  try dsimp only
  repeat' (first | assumption | (with_reducible apply Dev.keyMiss_sound))

theorem Dev.keyHit_sound (d : Dev) (a1) (a2) (h : d.Sound) : (Dev.keyHit d a1 a2).Sound := by
  unfold Dev.keyHit
  try dsimp only
  repeat' (first | assumption | (with_reducible apply Dev.onFrm_sound) | (with_reducible apply Dev.updIn_sound) | (fail_if_no_progress split))

theorem Dev.loadTimed_sound (d : Dev) (a1) (a2) (a3) (h : d.Sound) : (Dev.loadTimed d a1 a2 a3).Sound := by
  unfold Dev.loadTimed
  try dsimp only
  repeat' (first | assumption | (with_reducible apply Dev.onCan_sound))

theorem Dev.enterFrame_sound (d : Dev) (a1) (a2) (a3) (a4) (a5) (a6) (h : d.Sound) : (Dev.enterFrame d a1 a2 a3 a4 a5 a6).Sound := by
  unfold Dev.enterFrame
  try dsimp only
  repeat' (first | assumption | (with_reducible apply Dev.onFrm_sound))

theorem Dev.onLin_sound (d : Dev) (a1) (a2) (h : d.Sound) : (Dev.onLin d a1 a2).Sound := by
  unfold Dev.onLin
  try dsimp only
  repeat' (first | assumption | ((simp only [Dev.sound_mk]); (refine Dev.Sound.parts ?_)))

theorem Dev.xferTaken_sound (d : Dev) (a1) (a2) (h : d.Sound) : (Dev.xferTaken d a1 a2).Sound := by
  unfold Dev.xferTaken
  try dsimp only
  repeat' (first | assumption | (with_reducible apply Dev.onFrm_sound))

theorem Dev.canReturn_sound (d : Dev) (a1) (h : d.Sound) : (Dev.canReturn d a1).Sound := by
  unfold Dev.canReturn
  try dsimp only
  repeat' (first | assumption | (with_reducible apply Dev.onCan_sound))

theorem Dev.onMac_sound (d : Dev) (a1) (a2) (h : d.Sound) : (Dev.onMac d a1 a2).Sound := by
  unfold Dev.onMac
  try dsimp only
  repeat' (first | assumption | ((simp only [Dev.sound_mk]); (refine Dev.Sound.parts ?_)))

theorem Dev.creditNow_sound (d : Dev) (a1) (h : d.Sound) : (Dev.creditNow d a1).Sound := by
  unfold Dev.creditNow
  try dsimp only
  repeat' (first | assumption | (with_reducible apply Dev.onMac_sound))

theorem Dev.linAnswer_sound (d : Dev) (a1) (a2) (h : d.Sound) : (Dev.linAnswer d a1 a2).Sound := by
  unfold Dev.linAnswer
  try dsimp only
  repeat' (first | assumption | (with_reducible apply Dev.bump_sound) | (with_reducible apply Dev.onLin_sound) | (with_reducible apply Dev.emit_sound) | (fail_if_no_progress split))

theorem Dev.canErr_sound (d : Dev) (a1) (a2) (a3) (h : d.Sound) : (Dev.canErr d a1 a2 a3).Sound := by
  unfold Dev.canErr
  try dsimp only
  repeat' (first | assumption | (with_reducible apply Dev.bump_sound) | (with_reducible apply Dev.onCan_sound))

theorem Dev.canBusOff_sound (d : Dev) (a1) (h : d.Sound) : (Dev.canBusOff d a1).Sound := by
  unfold Dev.canBusOff
  try dsimp only
  repeat' (first | assumption | (with_reducible apply Dev.bump_sound) | (with_reducible apply Dev.onCan_sound))

theorem Dev.dropIngress_sound (d : Dev) (a1) (h : d.Sound) : (Dev.dropIngress d a1).Sound := by
  unfold Dev.dropIngress
  try dsimp only
  repeat' (first | assumption | ((simp only [Dev.sound_mk]); (refine Dev.Sound.parts ?_)))

theorem Dev.ethReset_sound (d : Dev) (h : d.Sound) : (Dev.ethReset d).Sound := by
  unfold Dev.ethReset
  try dsimp only
  repeat' (first | assumption | (with_reducible apply Dev.dropIngress_sound) | (with_reducible apply Dev.regsReset_sound) | ((simp only [Dev.sound_mk]); (refine Dev.Sound.parts ?_)))

theorem Dev.pavReset_sound (d : Dev) (h : d.Sound) : (Dev.pavReset d).Sound := by
  unfold Dev.pavReset
  try dsimp only
  repeat' (first | assumption | (with_reducible apply Dev.dropIngress_sound) | (with_reducible apply Dev.regsReset_sound) | ((simp only [Dev.sound_mk]); (refine Dev.Sound.parts ?_)))

theorem Dev.blvReset_sound (d : Dev) (h : d.Sound) : (Dev.blvReset d).Sound := by
  unfold Dev.blvReset
  try dsimp only
  repeat' (first | assumption | (with_reducible apply Dev.wr_sound) | (with_reducible apply Dev.regsReset_sound) | (with_reducible apply Dev.blvClear_sound) | (with_reducible refine foldl_sound _ (fun _ _ _ => ?_) _ ?_) | ((simp only [Dev.sound_mk]); (refine Dev.Sound.parts ?_)))

theorem Dev.dropArmed_sound (d : Dev) (a1) (h : d.Sound) : (Dev.dropArmed d a1).Sound := by
  unfold Dev.dropArmed
  try dsimp only
  repeat' (first | assumption | (with_reducible apply Dev.bump_sound) | ((simp only [Dev.sound_mk]); (refine Dev.Sound.parts ?_)))

theorem Dev.hubRead_sound (d : Dev) (a1) (a2) (h : d.Sound) : (Dev.hubRead d a1 a2).1.Sound := by
  unfold Dev.hubRead
  try dsimp only
  repeat' (first | assumption | ((simp only [Dev.sound_mk]); (refine Dev.Sound.parts ?_)) | (fail_if_no_progress split))

theorem Dev.regAccessRead_sound (d : Dev) (a1) (a2) (a3) (h : d.Sound) : (Dev.regAccessRead d a1 a2 a3).1.Sound := by
  unfold Dev.regAccessRead
  try dsimp only
  repeat' (first | assumption | (with_reducible apply Dev.hubRead_sound) | (with_reducible refine foldl_fst_sound _ (fun _ _ _ => ?_) _ ?_))

theorem Dev.enterSyncing_sound (d : Dev) (h : d.Sound) : (Dev.enterSyncing d).Sound := by
  unfold Dev.enterSyncing
  try dsimp only
  repeat' (first | assumption | (with_reducible apply Dev.onTwin_sound))

theorem Dev.enterUnsync_sound (d : Dev) (h : d.Sound) : (Dev.enterUnsync d).Sound := by
  unfold Dev.enterUnsync
  try dsimp only
  repeat' (first | assumption | (with_reducible apply Dev.onTwin_sound))

theorem Dev.replaySlot_sound (d : Dev) (a1) (a2) (a3) (a4) (h : d.Sound) : (Dev.replaySlot d a1 a2 a3 a4).Sound := by
  unfold Dev.replaySlot
  try dsimp only
  repeat' (first | assumption | (with_reducible apply Dev.onLbu_sound))

theorem Dev.calApply_sound (d : Dev) (a1) (h : d.Sound) : (Dev.calApply d a1).Sound := by
  unfold Dev.calApply
  try dsimp only
  repeat' (first | assumption | (with_reducible apply Dev.wr_sound) | (with_reducible apply Dev.onLdg_sound) | (with_reducible apply Dev.onBlv_sound) | (with_reducible refine foldl_sound _ (fun _ _ _ => ?_) _ ?_) | (fail_if_no_progress split) | rfl)

theorem Dev.defaults_sound (d : Dev) (h : d.Sound) : (Dev.defaults d).Sound := by
  unfold Dev.defaults
  try dsimp only
  repeat' (first | assumption | (with_reducible apply Dev.wr_sound) | (with_reducible apply Dev.setFld_sound) | (with_reducible apply Dev.onLdg_sound) | rfl)

theorem Dev.slotReport_sound (d : Dev) (a1) (a2) (h : d.Sound) : (Dev.slotReport d a1 a2).Sound := by
  unfold Dev.slotReport
  try dsimp only
  repeat' (first | assumption | (with_reducible apply Dev.setFld_sound))

theorem Dev.pollWord_sound (d : Dev) (a1) (h : d.Sound) : (Dev.pollWord d a1).1.Sound := by
  unfold Dev.pollWord
  try dsimp only
  repeat' (first | assumption | (with_reducible apply Dev.tick_sound) | (with_reducible apply Dev.hubRead_sound) | (fail_if_no_progress split))

theorem Dev.say_sound (d : Dev) (a1) (h : d.Sound) : (Dev.say d a1).Sound := by
  unfold Dev.say
  try dsimp only
  repeat' (first | assumption | (with_reducible apply Dev.emit_sound))

theorem Dev.winLine_sound (d : Dev) (a1) (a2) (h : d.Sound) : (Dev.winLine d a1 a2).Sound := by
  unfold Dev.winLine
  try dsimp only
  repeat' (first | assumption | (with_reducible apply Dev.say_sound))

theorem Dev.flashLost_sound (d : Dev) (a1) (a2) (h : d.Sound) : (Dev.flashLost d a1 a2).Sound := by
  unfold Dev.flashLost
  try dsimp only
  repeat' (first | assumption | (with_reducible apply Dev.flashErase_sound) | (with_reducible apply Dev.flashPut_sound) | ((simp only [Dev.sound_mk]); (refine Dev.Sound.parts ?_)))

theorem Dev.mbxFlashWrite_sound (d : Dev) (a1) (a2) (a3) (h : d.Sound) : (Dev.mbxFlashWrite d a1 a2 a3).1.Sound := by
  unfold Dev.mbxFlashWrite
  try dsimp only
  repeat' (first | assumption | (with_reducible apply Dev.flashErase_sound) | (with_reducible apply Dev.flashPut_sound) | (with_reducible apply Dev.flashLost_sound) | (fail_if_no_progress split))

theorem Dev.mbxKeyProvision_sound (d : Dev) (a1) (a2) (h : d.Sound) : (Dev.mbxKeyProvision d a1 a2).1.Sound := by
  unfold Dev.mbxKeyProvision
  try dsimp only
  repeat' (first | assumption | (with_reducible apply Dev.installKey_sound) | (fail_if_no_progress split))

theorem Dev.mbxKeyLoad_sound (d : Dev) (a1) (a2) (h : d.Sound) : (Dev.mbxKeyLoad d a1 a2).1.Sound := by
  unfold Dev.mbxKeyLoad
  try dsimp only
  repeat' (first | assumption | (with_reducible apply Dev.loadBlob_sound) | (fail_if_no_progress split))

theorem Dev.mbxArcRestart_sound (d : Dev) (h : d.Sound) : (Dev.mbxArcRestart d).1.Sound := by
  unfold Dev.mbxArcRestart
  try dsimp only
  repeat' (first | assumption | (with_reducible apply Dev.arcHeld_sound) | (with_reducible apply Dev.bump_sound) | (with_reducible apply Dev.setFld_sound) | (with_reducible apply Dev.onLdg_sound) | (with_reducible apply Dev.onDep_sound) | (fail_if_no_progress split) | rfl)

theorem Dev.itmosLevel_sound (d : Dev) (a1) (a2) (h : d.Sound) : (Dev.itmosLevel d a1 a2).Sound := by
  unfold Dev.itmosLevel
  try dsimp only
  repeat' (first | assumption | (with_reducible apply Dev.sendMsg_sound) | (with_reducible apply Dev.setRemote_sound) | (fail_if_no_progress split))

theorem Dev.arcRestart_sound (d : Dev) (h : d.Sound) : (Dev.arcRestart d).Sound := by
  unfold Dev.arcRestart
  try dsimp only
  repeat' (first | assumption | (with_reducible apply Dev.arcHeld_sound) | (with_reducible apply Dev.bump_sound) | (with_reducible apply Dev.setFld_sound) | ((simp only [Dev.sound_mk]); (refine Dev.Sound.parts ?_)) | (fail_if_no_progress split))

theorem Dev.sendNote_sound (d : Dev) (a1) (a2) (a3) (h : d.Sound) : (Dev.sendNote d a1 a2 a3).Sound := by
  unfold Dev.sendNote
  try dsimp only
  repeat' (first | assumption | (with_reducible apply Dev.placeNote_sound) | (with_reducible apply Dev.sendMsg_sound) | (fail_if_no_progress split))

theorem Dev.recordSpare_sound (d : Dev) (a1) (a2) (a3) (a4) (h : d.Sound) : (Dev.recordSpare d a1 a2 a3 a4).Sound := by
  unfold Dev.recordSpare
  try dsimp only
  repeat' (first | assumption | (with_reducible apply Dev.bump_sound) | (with_reducible apply Dev.wr64_sound) | (with_reducible apply Dev.sendNote_sound) | (with_reducible apply Dev.onDep_sound) | (fail_if_no_progress split) | rfl)

theorem Dev.swapUnit_sound (d : Dev) (a1) (a2) (a3) (h : d.Sound) : (Dev.swapUnit d a1 a2 a3).Sound := by
  unfold Dev.swapUnit
  try dsimp only
  repeat' (first | assumption | (with_reducible apply Dev.bump_sound) | (with_reducible apply Dev.recordSpare_sound) | (with_reducible apply Dev.onDep_sound) | ((simp only [Dev.sound_mk]); (refine Dev.Sound.parts ?_)) | (fail_if_no_progress split) | rfl)

theorem Dev.contain_sound (d : Dev) (a1) (h : d.Sound) : (Dev.contain d a1).Sound := by
  unfold Dev.contain
  try dsimp only
  repeat' (first | assumption | (with_reducible apply Dev.swapUnit_sound) | (with_reducible apply Dev.arcRestart_sound) | (with_reducible apply Dev.restoreShadows_sound) | (with_reducible apply Dev.onDep_sound) | (with_reducible refine foldl_sound _ (fun _ _ _ => ?_) _ ?_) | (fail_if_no_progress split) | rfl)

theorem Dev.leaveActive_sound (d : Dev) (a1) (h : d.Sound) : (Dev.leaveActive d a1).Sound := by
  unfold Dev.leaveActive
  try dsimp only
  repeat' (first | assumption | (with_reducible apply Dev.wr64_sound) | (with_reducible apply Dev.onTwin_sound) | (with_reducible apply Dev.loseWrites_sound) | (with_reducible apply Dev.cutBus_sound) | (fail_if_no_progress split))

theorem Dev.enterSafe_sound (d : Dev) (a1) (h : d.Sound) : (Dev.enterSafe d a1).Sound := by
  unfold Dev.enterSafe
  try dsimp only
  repeat' (first | assumption | (with_reducible apply Dev.onTwin_sound) | (with_reducible apply Dev.sendNote_sound) | (with_reducible apply Dev.cutBus_sound) | (with_reducible apply Dev.onDep_sound) | ((simp only [Dev.sound_mk]); (refine Dev.Sound.parts ?_)) | (fail_if_no_progress split) | rfl)

theorem Dev.faultRise_sound (d : Dev) (a1) (h : d.Sound) : (Dev.faultRise d a1).Sound := by
  unfold Dev.faultRise
  try dsimp only
  repeat' (first | assumption | (with_reducible apply Dev.contain_sound) | (with_reducible apply Dev.leaveActive_sound) | (with_reducible apply Dev.wr_sound) | (with_reducible apply Dev.onTwin_sound) | (with_reducible apply Dev.sendNote_sound) | (with_reducible apply Dev.enterSafe_sound) | (fail_if_no_progress split))

theorem faultSettle_sound (a0) (d : Dev) (h : d.Sound) : (faultSettle a0 d).Sound := by
  unfold faultSettle
  try dsimp only
  repeat' (first | assumption | (with_reducible apply Dev.faultRise_sound) | (with_reducible refine foldl_sound _ (fun _ _ _ => ?_) _ ?_))

theorem Dev.sendRec_sound (d : Dev) (a1) (a2) (h : d.Sound) : (Dev.sendRec d a1 a2).Sound := by
  unfold Dev.sendRec
  try dsimp only
  repeat' (first | assumption | (with_reducible apply Dev.sendMsg_sound) | (with_reducible apply Dev.onTwin_sound) | (fail_if_no_progress split))

theorem Dev.keepRemap_sound (d : Dev) (a1) (a2) (a3) (h : d.Sound) : (Dev.keepRemap d a1 a2 a3).Sound := by
  unfold Dev.keepRemap
  try dsimp only
  repeat' (first | assumption | ((simp only [Dev.sound_mk]); (refine Dev.Sound.parts ?_)) | (fail_if_no_progress split))

theorem Dev.retireRow_sound (d : Dev) (a1) (a2) (h : d.Sound) : (Dev.retireRow d a1 a2).Sound := by
  unfold Dev.retireRow
  try dsimp only
  repeat' (first | assumption | (with_reducible apply Dev.keepRemap_sound) | (with_reducible apply Dev.recordSpare_sound) | (with_reducible apply Dev.onDep_sound) | (fail_if_no_progress split) | rfl)

theorem Dev.swapBank_sound (d : Dev) (a1) (a2) (a3) (a4) (h : d.Sound) : (Dev.swapBank d a1 a2 a3 a4).Sound := by
  unfold Dev.swapBank
  try dsimp only
  repeat' (first | assumption | (with_reducible apply Dev.keepRemap_sound) | (with_reducible apply Dev.recordSpare_sound) | (with_reducible apply Dev.onDep_sound) | (fail_if_no_progress split) | rfl)

theorem Dev.eccUncorr_sound (d : Dev) (a1) (a2) (h : d.Sound) : (Dev.eccUncorr d a1 a2).Sound := by
  unfold Dev.eccUncorr
  try dsimp only
  repeat' (first | assumption | (with_reducible apply Dev.bump_sound) | (with_reducible apply Dev.retireRow_sound) | (with_reducible apply Dev.swapBank_sound) | (fail_if_no_progress split))

theorem Dev.wearSwap_sound (d : Dev) (a1) (a2) (a3) (h : d.Sound) : (Dev.wearSwap d a1 a2 a3).Sound := by
  unfold Dev.wearSwap
  try dsimp only
  repeat' (first | assumption | (with_reducible apply Dev.retireRow_sound) | (with_reducible apply Dev.swapBank_sound) | (fail_if_no_progress split))

theorem Dev.eccCorrected_sound (d : Dev) (a1) (a2) (a3) (h : d.Sound) : (Dev.eccCorrected d a1 a2 a3).Sound := by
  unfold Dev.eccCorrected
  try dsimp only
  repeat' (first | assumption | (with_reducible apply Dev.bump_sound) | (with_reducible apply Dev.wearEntry_sound) | (with_reducible apply Dev.wearSwap_sound))

theorem Dev.markBad_sound (d : Dev) (a1) (h : d.Sound) : (Dev.markBad d a1).Sound := by
  unfold Dev.markBad
  try dsimp only
  repeat' (first | assumption | (with_reducible apply Dev.eccUncorr_sound) | ((simp only [Dev.sound_mk]); (refine Dev.Sound.parts ?_)) | (fail_if_no_progress split))

theorem Dev.logFail_sound (d : Dev) (a1) (a2) (a3) (a4) (h : d.Sound) : (Dev.logFail d a1 a2 a3 a4).Sound := by
  unfold Dev.logFail
  try dsimp only
  repeat' (first | assumption | (with_reducible apply Dev.log_sound) | (with_reducible apply Dev.bump_sound) | (fail_if_no_progress split))

theorem Dev.sendPeer_sound (d : Dev) (a1) (h : d.Sound) : (Dev.sendPeer d a1).Sound := by
  unfold Dev.sendPeer
  try dsimp only
  repeat' (first | assumption | (with_reducible apply Dev.updReq_sound) | (with_reducible apply Dev.emit_sound) | (with_reducible refine foldl_sound _ (fun _ _ _ => ?_) _ ?_) | (fail_if_no_progress split))

theorem Dev.rsvException_sound (d : Dev) (a1) (a2) (h : d.Sound) : (Dev.rsvException d a1 a2).Sound := by
  unfold Dev.rsvException
  try dsimp only
  repeat' (first | assumption | (with_reducible apply Dev.updRsvInfo_sound) | (with_reducible apply Dev.loseRsv_sound) | (with_reducible apply Dev.onFab_sound) | (fail_if_no_progress split))

theorem Dev.noteFail_sound (d : Dev) (a1) (a2) (a3) (a4) (a5) (a6) (h : d.Sound) : (Dev.noteFail d a1 a2 a3 a4 a5 a6).Sound := by
  unfold Dev.noteFail
  try dsimp only
  repeat' (first | assumption | (with_reducible apply Dev.rsvException_sound) | (with_reducible apply Dev.onFab_sound))

theorem Dev.wbarEnd_sound (d : Dev) (a1) (a2) (a3) (a4) (h : d.Sound) : (Dev.wbarEnd d a1 a2 a3 a4).Sound := by
  unfold Dev.wbarEnd
  try dsimp only
  repeat' (first | assumption | (with_reducible apply Dev.noteFail_sound) | (with_reducible apply Dev.onFab_sound) | (with_reducible refine foldl_sound _ (fun _ _ _ => ?_) _ ?_) | (fail_if_no_progress split))

theorem Dev.sendWbar_sound (d : Dev) (a1) (a2) (h : d.Sound) : (Dev.sendWbar d a1 a2).Sound := by
  unfold Dev.sendWbar
  try dsimp only
  repeat' (first | assumption | (with_reducible apply Dev.wbarEnd_sound) | (with_reducible apply Dev.onFab_sound) | (with_reducible apply Dev.emit_sound) | (fail_if_no_progress split))

theorem Dev.sendOut_sound (d : Dev) (a1) (h : d.Sound) : (Dev.sendOut d a1).Sound := by
  unfold Dev.sendOut
  try dsimp only
  repeat' (first | (with_reducible assumption) | (with_reducible apply Dev.sendPeer_sound) | (with_reducible apply Dev.sendWbar_sound) | (fail_if_no_progress split))

theorem Dev.place_sound (d : Dev) (a1) (h : d.Sound) : (Dev.place d a1).Sound := by
  unfold Dev.place
  try dsimp only
  repeat' (first | assumption | (with_reducible apply Dev.sendOut_sound) | (with_reducible apply Dev.onFab_sound) | (fail_if_no_progress split))

theorem Dev.emitLine_sound (d : Dev) (a1) (h : d.Sound) : (Dev.emitLine d a1).Sound := by
  unfold Dev.emitLine
  try dsimp only
  repeat' (first | assumption | (with_reducible apply Dev.logFail_sound) | (with_reducible apply Dev.place_sound) | (with_reducible apply Dev.noteFail_sound) | (with_reducible apply Dev.onFab_sound) | (fail_if_no_progress split))

theorem Dev.combineBlock_sound (d : Dev) (a1) (a2) (a3) (h : d.Sound) : (Dev.combineBlock d a1 a2 a3).Sound := by
  unfold Dev.combineBlock
  try dsimp only
  repeat' (first | assumption | (with_reducible apply Dev.emitLine_sound) | (with_reducible apply Dev.onFab_sound) | (fail_if_no_progress split))

theorem Dev.combine_sound (d : Dev) (a1) (h : d.Sound) : (Dev.combine d a1).Sound := by
  unfold Dev.combine
  try dsimp only
  repeat' (first | assumption | (with_reducible apply Dev.combineBlock_sound) | (with_reducible refine foldl_sound _ (fun _ _ _ => ?_) _ ?_))

theorem Dev.rsvRecord_sound (d : Dev) (a1) (h : d.Sound) : (Dev.rsvRecord d a1).Sound := by
  unfold Dev.rsvRecord
  try dsimp only
  repeat' (first | assumption | (with_reducible apply Dev.updRsvInfo_sound) | (with_reducible apply Dev.onFab_sound) | (fail_if_no_progress split))

theorem Dev.deliver_sound (d : Dev) (a1) (h : d.Sound) : (Dev.deliver d a1).Sound := by
  unfold Dev.deliver
  try dsimp only
  repeat' (first | assumption | (with_reducible apply Dev.rsvRecord_sound) | (with_reducible apply Dev.bump_sound) | (with_reducible apply Dev.rsvException_sound) | (with_reducible apply Dev.dropReq_sound) | (with_reducible apply Dev.emit_sound) | (fail_if_no_progress split))

theorem Dev.wbarsFor_sound (d : Dev) (a1) (h : d.Sound) : (Dev.wbarsFor d a1).Sound := by
  unfold Dev.wbarsFor
  try dsimp only
  repeat' (first | assumption | (with_reducible apply Dev.sendWbar_sound) | (with_reducible refine foldl_sound _ (fun _ _ _ => ?_) _ ?_))

theorem Dev.wbarsForRead_sound (d : Dev) (a1) (h : d.Sound) : (Dev.wbarsForRead d a1).Sound := by
  unfold Dev.wbarsForRead
  try dsimp only
  repeat' (first | (with_reducible assumption) | (with_reducible apply Dev.sendWbar_sound) | (with_reducible refine foldl_sound _ (fun _ _ _ => ?_) _ ?_))

theorem Dev.emitLines_sound (d : Dev) (a1) (h : d.Sound) : (Dev.emitLines d a1).Sound := by
  unfold Dev.emitLines
  try dsimp only
  repeat' (first | assumption | (with_reducible apply Dev.emitLine_sound) | (with_reducible refine foldl_sound _ (fun _ _ _ => ?_) _ ?_))

theorem Dev.failEarly_sound (d : Dev) (a1) (a2) (a3) (h : d.Sound) : (Dev.failEarly d a1 a2 a3).Sound := by
  unfold Dev.failEarly
  try dsimp only
  repeat' (first | assumption | (with_reducible apply Dev.deliver_sound) | (with_reducible apply Dev.logFail_sound) | (with_reducible apply Dev.place_sound) | (with_reducible apply Dev.noteFail_sound) | (with_reducible apply Dev.onFab_sound) | (fail_if_no_progress split))

theorem Dev.pumpWbars_sound (d : Dev) (a1) (h : d.Sound) : (Dev.pumpWbars d a1).Sound := by
  unfold Dev.pumpWbars
  try dsimp only
  repeat' (first | assumption | (with_reducible apply Dev.sendWbar_sound) | (with_reducible apply Dev.onFab_sound) | (with_reducible refine foldl_sound _ (fun _ _ _ => ?_) _ ?_))

theorem Dev.dropBlock_sound (d : Dev) (a1) (h : d.Sound) : (Dev.dropBlock d a1).Sound := by
  unfold Dev.dropBlock
  try dsimp only
  repeat' (first | assumption | (with_reducible apply Dev.log_sound) | (with_reducible apply Dev.bump_sound) | (with_reducible apply Dev.onFab_sound) | (fail_if_no_progress split))

theorem Dev.finishAt_sound (d : Dev) (a1) (a2) (a3) (a4) (a5) (h : d.Sound) : (Dev.finishAt d a1 a2 a3 a4 a5).Sound := by
  unfold Dev.finishAt
  try dsimp only
  repeat' (first | assumption | (with_reducible apply Dev.deliver_sound) | (with_reducible apply Dev.updReq_sound) | (fail_if_no_progress split))

theorem Dev.finish_sound (d : Dev) (a1) (a2) (a3) (a4) (h : d.Sound) : (Dev.finish d a1 a2 a3 a4).Sound := by
  unfold Dev.finish
  try dsimp only
  repeat' (first | assumption | (with_reducible apply Dev.finishAt_sound))

theorem Dev.failReq_sound (d : Dev) (a1) (a2) (a3) (a4) (a5) (h : d.Sound) : (Dev.failReq d a1 a2 a3 a4 a5).Sound := by
  unfold Dev.failReq
  try dsimp only
  repeat' (first | assumption | (with_reducible apply Dev.finish_sound) | (with_reducible apply Dev.logFail_sound))

theorem Dev.dropBlocks_sound (d : Dev) (a1) (h : d.Sound) : (Dev.dropBlocks d a1).Sound := by
  unfold Dev.dropBlocks
  try dsimp only
  repeat' (first | assumption | (with_reducible apply Dev.dropBlock_sound) | (with_reducible refine foldl_sound _ (fun _ _ _ => ?_) _ ?_))

theorem Dev.prefWrite_sound (d : Dev) (a1) (a2) (a3) (h : d.Sound) : (Dev.prefWrite d a1 a2 a3).Sound := by
  unfold Dev.prefWrite
  try dsimp only
  repeat' (first | assumption | (with_reducible apply Dev.dropBlocks_sound))

theorem Dev.pumpPeers_sound (d : Dev) (h : d.Sound) : (Dev.pumpPeers d).Sound := by
  unfold Dev.pumpPeers
  try dsimp only
  repeat' (first | assumption | (with_reducible apply Dev.sendOut_sound) | (with_reducible refine foldl_sound _ (fun _ _ _ => ?_) _ ?_) | (fail_if_no_progress split))

theorem Dev.wbarAnswer_sound (d : Dev) (a1) (a2) (a3) (a4) (h : d.Sound) : (Dev.wbarAnswer d a1 a2 a3 a4).Sound := by
  unfold Dev.wbarAnswer
  try dsimp only
  repeat' (first | assumption | (with_reducible apply Dev.emit_sound) | (fail_if_no_progress split))

theorem Dev.gzbFailed_sound (d : Dev) (a1) (h : d.Sound) : (Dev.gzbFailed d a1).Sound := by
  unfold Dev.gzbFailed
  try dsimp only
  repeat' (first | assumption | (with_reducible apply Dev.bump_sound) | (with_reducible apply Dev.onChan_sound) | (fail_if_no_progress split))

theorem Dev.sendMirror_sound (d : Dev) (a1) (h : d.Sound) : (Dev.sendMirror d a1).Sound := by
  unfold Dev.sendMirror
  try dsimp only
  repeat' (first | assumption | (with_reducible apply Dev.sendRec_sound) | (with_reducible refine foldl_sound _ (fun _ _ _ => ?_) _ ?_))

theorem intSettle_sound (a0) (d : Dev) (h : d.Sound) : (intSettle a0 d).Sound := by
  unfold intSettle
  try dsimp only
  repeat' (first | assumption | (with_reducible apply Dev.sendVec_sound) | (with_reducible apply Dev.itmosLevel_sound) | (with_reducible apply Dev.emit_sound) | (with_reducible refine foldl_sound _ (fun _ _ _ => ?_) _ ?_))

theorem Dev.sendStarted_sound (d : Dev) (h : d.Sound) : (Dev.sendStarted d).Sound := by
  unfold Dev.sendStarted
  try dsimp only
  repeat' (first | assumption | (with_reducible apply Dev.sendRec_sound) | (with_reducible apply Dev.updReq_sound) | (with_reducible refine foldl_sound _ (fun _ _ _ => ?_) _ ?_))

theorem mirrorSettle_sound (a0) (d : Dev) (h : d.Sound) : (mirrorSettle a0 d).Sound := by
  unfold mirrorSettle
  try dsimp only
  repeat' (first | assumption | (with_reducible apply Dev.sendRec_sound) | (with_reducible apply Dev.sendStarted_sound) | (with_reducible apply Dev.sendMirror_sound) | (with_reducible refine foldl_sound _ (fun _ _ _ => ?_) _ ?_) | (fail_if_no_progress split))

theorem twinSettle_sound (d : Dev) (h : d.Sound) : (twinSettle d).Sound := by
  unfold twinSettle
  try dsimp only
  repeat' (first | assumption | (with_reducible apply Dev.onTwin_sound) | (fail_if_no_progress split))

theorem Dev.hostDown_sound (d : Dev) (a1) (h : d.Sound) : (Dev.hostDown d a1).Sound := by
  unfold Dev.hostDown
  try dsimp only
  repeat' (first | assumption | (with_reducible apply Dev.finish_sound) | (with_reducible apply Dev.log_sound) | (with_reducible apply Dev.bump_sound) | (with_reducible apply Dev.onHp_sound) | (with_reducible apply Dev.failReq_sound) | (fail_if_no_progress split))

theorem Dev.outboundWrite_sound (d : Dev) (a1) (h : d.Sound) : (Dev.outboundWrite d a1).Sound := by
  unfold Dev.outboundWrite
  try dsimp only
  repeat' (first | assumption | (with_reducible apply Dev.finish_sound) | (with_reducible apply Dev.condCheck_sound) | (with_reducible apply Dev.onHp_sound) | (with_reducible apply Dev.hostDown_sound) | (with_reducible apply Dev.rsvStore_sound) | (with_reducible apply Dev.emitHostWrite_sound) | (with_reducible apply Dev.updReq_sound) | (with_reducible apply Dev.failReq_sound) | (fail_if_no_progress split))

theorem Dev.sendPending_sound (d : Dev) (h : d.Sound) : (Dev.sendPending d).Sound := by
  unfold Dev.sendPending
  try dsimp only
  repeat' (first | assumption | (with_reducible apply Dev.onHp_sound) | (with_reducible apply Dev.emitMsix_sound) | (with_reducible refine foldl_sound _ (fun _ _ _ => ?_) _ ?_) | (fail_if_no_progress split))

theorem Dev.bar4Write_sound (d : Dev) (a1) (a2) (h : d.Sound) : (Dev.bar4Write d a1 a2).Sound := by
  unfold Dev.bar4Write
  try dsimp only
  repeat' (first | assumption | (with_reducible apply Dev.onHp_sound) | (with_reducible apply Dev.sendPending_sound) | (fail_if_no_progress split))

theorem Dev.outboundFail_sound (d : Dev) (a1) (a2) (h : d.Sound) : (Dev.outboundFail d a1 a2).Sound := by
  unfold Dev.outboundFail
  try dsimp only
  repeat' (first | assumption | (with_reducible apply Dev.dropReads_sound) | (with_reducible apply Dev.failReq_sound) | (fail_if_no_progress split))

theorem Dev.dataCpls_sound (d : Dev) (a1) (a2) (a3) (a4) (a5) (h : d.Sound) : (Dev.dataCpls d a1 a2 a3 a4 a5).Sound := by
  unfold Dev.dataCpls
  try dsimp only
  repeat' (first | assumption | (with_reducible apply Dev.emit_sound) | (with_reducible refine foldl_sound _ (fun _ _ _ => ?_) _ ?_) | (fail_if_no_progress split))

theorem Dev.hostAnswer_sound (d : Dev) (a1) (a2) (a3) (a4) (a5) (a6) (a7) (a8) (h : d.Sound) : (Dev.hostAnswer d a1 a2 a3 a4 a5 a6 a7 a8).Sound := by
  unfold Dev.hostAnswer
  try dsimp only
  repeat' (first | assumption | (with_reducible apply Dev.dataCpls_sound) | (with_reducible apply Dev.errCpl_sound) | (with_reducible apply Dev.emit_sound) | (with_reducible refine foldl_sound _ (fun _ _ _ => ?_) _ ?_) | (fail_if_no_progress split))

theorem Dev.bar2Miss_sound (d : Dev) (a1) (a2) (a3) (h : d.Sound) : (Dev.bar2Miss d a1 a2 a3).Sound := by
  unfold Dev.bar2Miss
  try dsimp only
  repeat' (first | assumption | (with_reducible apply Dev.hostAnswer_sound) | (with_reducible apply Dev.log_sound) | (with_reducible apply Dev.bump_sound) | (fail_if_no_progress split))

theorem Dev.hostRefuse_sound (d : Dev) (a1) (a2) (a3) (a4) (a5) (a6) (a7) (h : d.Sound) : (Dev.hostRefuse d a1 a2 a3 a4 a5 a6 a7).Sound := by
  unfold Dev.hostRefuse
  try dsimp only
  repeat' (first | assumption | (with_reducible apply Dev.log_sound) | (with_reducible apply Dev.bump_sound) | (with_reducible apply Dev.errCpl_sound) | (fail_if_no_progress split))

theorem Dev.bar4Access_sound (d : Dev) (a1) (a2) (a3) (h : d.Sound) : (Dev.bar4Access d a1 a2 a3).Sound := by
  unfold Dev.bar4Access
  try dsimp only
  repeat' (first | assumption | (with_reducible apply Dev.hostRefuse_sound) | (with_reducible apply Dev.dataCpls_sound) | (with_reducible apply Dev.errCpl_sound) | (with_reducible apply Dev.bar4Write_sound) | (fail_if_no_progress split))

theorem Dev.hostFail_sound (d : Dev) (a1) (a2) (a3) (h : d.Sound) : (Dev.hostFail d a1 a2 a3).Sound := by
  unfold Dev.hostFail
  try dsimp only
  repeat' (first | assumption | (with_reducible apply Dev.hostAnswer_sound) | (with_reducible apply Dev.logFail_sound) | (with_reducible apply Dev.rsvException_sound) | (with_reducible apply Dev.noteFail_sound) | (with_reducible apply Dev.onFab_sound) | (fail_if_no_progress split))

theorem Dev.keepBlocks_sound (d : Dev) (a1) (a2) (a3) (a4) (a5) (h : d.Sound) : (Dev.keepBlocks d a1 a2 a3 a4 a5).Sound := by
  unfold Dev.keepBlocks
  try dsimp only
  repeat' (first | assumption | (with_reducible apply Dev.dropBlock_sound) | (with_reducible apply Dev.onFab_sound) | (with_reducible refine foldl_sound _ (fun _ _ _ => ?_) _ ?_) | (fail_if_no_progress split))

theorem Dev.discardHostWrites_sound (d : Dev) (h : d.Sound) : (Dev.discardHostWrites d).Sound := by
  unfold Dev.discardHostWrites
  try dsimp only
  repeat' (first | assumption | (with_reducible apply Dev.finish_sound) | (with_reducible apply Dev.log_sound) | (with_reducible apply Dev.bump_sound) | (with_reducible apply Dev.onHp_sound) | (with_reducible refine foldl_sound _ (fun _ _ _ => ?_) _ ?_) | (fail_if_no_progress split))

theorem Dev.enterD3_sound (d : Dev) (h : d.Sound) : (Dev.enterD3 d).Sound := by
  unfold Dev.enterD3
  try dsimp only
  repeat' (first | assumption | (with_reducible apply Dev.onHp_sound) | (with_reducible apply Dev.discardHostWrites_sound))

theorem Dev.hostLinkDown_sound (d : Dev) (h : d.Sound) : (Dev.hostLinkDown d).Sound := by
  unfold Dev.hostLinkDown
  try dsimp only
  repeat' (first | assumption | (with_reducible apply Dev.bump_sound) | (with_reducible apply Dev.onHp_sound) | (fail_if_no_progress split))

theorem Dev.writeFail_sound (d : Dev) (a1) (h : d.Sound) : (Dev.writeFail d a1).Sound := by
  unfold Dev.writeFail
  try dsimp only
  repeat' (first | assumption | (with_reducible apply Dev.noteFail_sound) | (fail_if_no_progress split))

theorem Dev.outboundCpl_sound (d : Dev) (a1) (a2) (a3) (h : d.Sound) : (Dev.outboundCpl d a1 a2 a3).Sound := by
  unfold Dev.outboundCpl
  try dsimp only
  repeat' (first | assumption | (with_reducible apply Dev.finish_sound) | (with_reducible apply Dev.onHp_sound) | (with_reducible apply Dev.dropReads_sound) | (with_reducible apply Dev.outboundFail_sound) | (with_reducible apply Dev.keepBlocks_sound) | (fail_if_no_progress split))

theorem Dev.setRsv_sound (d : Dev) (a1) (h : d.Sound) : (Dev.setRsv d a1).Sound := by
  unfold Dev.setRsv
  try dsimp only
  repeat' (first | assumption | (with_reducible apply Dev.loseRsv_sound) | (with_reducible apply Dev.onFab_sound) | (fail_if_no_progress split))

theorem Dev.outboundRead_sound (d : Dev) (a1) (h : d.Sound) : (Dev.outboundRead d a1).Sound := by
  unfold Dev.outboundRead
  try dsimp only
  repeat' (first | assumption | (with_reducible apply Dev.setRsv_sound) | (with_reducible apply Dev.onHp_sound) | (with_reducible apply Dev.hostDown_sound) | (with_reducible apply Dev.updReq_sound) | (with_reducible apply Dev.failReq_sound) | (with_reducible apply Dev.emit_sound) | (fail_if_no_progress split))

theorem Dev.functionReset_sound (d : Dev) (h : d.Sound) : (Dev.functionReset d).Sound := by
  unfold Dev.functionReset
  try dsimp only
  repeat' (first | assumption | (with_reducible apply Dev.setFld_sound) | (with_reducible apply Dev.onHp_sound) | (with_reducible apply Dev.discardHostWrites_sound) | (with_reducible apply Dev.dropReads_sound) | (with_reducible apply Dev.failReq_sound) | (with_reducible apply Dev.onFab_sound) | (with_reducible refine foldl_sound _ (fun _ _ _ => ?_) _ ?_))

theorem Dev.windowOff_sound (d : Dev) (a1) (a2) (h : d.Sound) : (Dev.windowOff d a1 a2).Sound := by
  unfold Dev.windowOff
  try dsimp only
  repeat' (first | assumption | (with_reducible apply Dev.setFld_sound) | (with_reducible apply Dev.emitLines_sound) | (with_reducible apply Dev.dropBlocks_sound))

theorem Dev.gzbBarDone_sound (d : Dev) (a1) (a2) (h : d.Sound) : (Dev.gzbBarDone d a1 a2).Sound := by
  unfold Dev.gzbBarDone
  try dsimp only
  repeat' (first | assumption | (with_reducible apply Dev.bump_sound) | (with_reducible apply Dev.onFab_sound) | ((simp only [Dev.sound_mk]); (refine Dev.Sound.parts ?_)) | (fail_if_no_progress split))

theorem Dev.l2hMove_sound (d : Dev) (h : d.Sound) : (Dev.l2hMove d).Sound := by
  unfold Dev.l2hMove
  try dsimp only
  repeat' (first | assumption | (with_reducible apply Dev.sendOut_sound) | (with_reducible apply Dev.updReq_sound) | (fail_if_no_progress split))

theorem Dev.takeBarrier_sound (d : Dev) (a1) (a2) (h : d.Sound) : (Dev.takeBarrier d a1 a2).Sound := by
  unfold Dev.takeBarrier
  try dsimp only
  repeat' (first | assumption | (with_reducible apply Dev.wr_sound) | (with_reducible apply Dev.setLwBar_sound) | (with_reducible apply Dev.wbarsFor_sound) | (with_reducible apply Dev.emitLines_sound) | (with_reducible apply Dev.onFab_sound) | (fail_if_no_progress split))

theorem Dev.barrierFrom_sound (d : Dev) (a1) (a2) (h : d.Sound) : (Dev.barrierFrom d a1 a2).Sound := by
  unfold Dev.barrierFrom
  try dsimp only
  repeat' (first | assumption | (with_reducible apply Dev.log_sound) | (with_reducible apply Dev.takeBarrier_sound) | (fail_if_no_progress split))

theorem Dev.driveCycle_sound (d : Dev) (a1) (h : d.Sound) : (Dev.driveCycle d a1).Sound := by
  unfold Dev.driveCycle
  try dsimp only
  repeat' (first | assumption | (with_reducible apply Dev.driveBeat_sound) | (with_reducible apply Dev.emit_sound) | (fail_if_no_progress split))

theorem Dev.lockedReads_sound (d : Dev) (a1) (h : d.Sound) : (Dev.lockedReads d a1).Sound := by
  unfold Dev.lockedReads
  try dsimp only
  repeat' (first | assumption | (with_reducible apply Dev.finish_sound) | (with_reducible apply Dev.driveCycle_sound) | (with_reducible apply Dev.zoneLeave_sound) | (with_reducible apply Dev.updReq_sound) | (with_reducible apply Dev.onLbu_sound) | (fail_if_no_progress split))

theorem Dev.zoneStored_sound (d : Dev) (a1) (h : d.Sound) : (Dev.zoneStored d a1).Sound := by
  unfold Dev.zoneStored
  try dsimp only
  repeat' (first | assumption | (with_reducible apply Dev.rsvStore_sound) | (with_reducible apply Dev.prefWrite_sound) | (fail_if_no_progress split))

theorem Dev.zoneFail_sound (d : Dev) (a1) (a2) (a3) (a4) (h : d.Sound) : (Dev.zoneFail d a1 a2 a3 a4).Sound := by
  unfold Dev.zoneFail
  try dsimp only
  repeat' (first | assumption | (with_reducible apply Dev.zoneLeave_sound) | (with_reducible apply Dev.failReq_sound) | (with_reducible apply Dev.zoneStored_sound) | (fail_if_no_progress split))

theorem Dev.zoneEnd_sound (d : Dev) (a1) (a2) (h : d.Sound) : (Dev.zoneEnd d a1 a2).Sound := by
  unfold Dev.zoneEnd
  try dsimp only
  repeat' (first | assumption | (with_reducible apply Dev.bump_sound) | (with_reducible apply Dev.zoneLeave_sound) | (with_reducible apply Dev.failReq_sound))

theorem Dev.monitorStore_sound (d : Dev) (a1) (a2) (a3) (a4) (h : d.Sound) : (Dev.monitorStore d a1 a2 a3 a4).Sound := by
  unfold Dev.monitorStore
  try dsimp only
  repeat' (first | assumption | (with_reducible apply Dev.rsvStore_sound) | (with_reducible refine foldl_sound _ (fun _ _ _ => ?_) _ ?_) | (fail_if_no_progress split))

theorem Dev.zoneFinish_sound (d : Dev) (a1) (h : d.Sound) : (Dev.zoneFinish d a1).Sound := by
  unfold Dev.zoneFinish
  try dsimp only
  repeat' (first | assumption | (with_reducible apply Dev.setRsv_sound) | (with_reducible apply Dev.finish_sound) | (with_reducible apply Dev.zoneLeave_sound) | (with_reducible apply Dev.zoneStored_sound) | (with_reducible apply Dev.keepBlocks_sound) | (fail_if_no_progress split))

theorem Dev.zoneStart_sound (d : Dev) (a1) (h : d.Sound) : (Dev.zoneStart d a1).Sound := by
  unfold Dev.zoneStart
  try dsimp only
  repeat' (first | assumption | (with_reducible apply Dev.finish_sound) | (with_reducible apply Dev.driveCycle_sound) | (with_reducible apply Dev.condCheck_sound) | (with_reducible apply Dev.zoneLeave_sound) | (with_reducible apply Dev.updReq_sound) | (with_reducible apply Dev.onLbu_sound) | (with_reducible apply Dev.zoneFinish_sound) | (with_reducible apply Dev.failReq_sound) | (fail_if_no_progress split))

theorem Dev.zoneTimeout_sound (d : Dev) (a1) (h : d.Sound) : (Dev.zoneTimeout d a1).Sound := by
  unfold Dev.zoneTimeout
  try dsimp only
  repeat' (first | assumption | (with_reducible apply Dev.bump_sound) | (with_reducible apply Dev.zoneFail_sound) | (with_reducible apply Dev.zoneEnd_sound) | (with_reducible refine foldl_sound _ (fun _ _ _ => ?_) _ ?_) | (fail_if_no_progress split))

theorem Dev.arbitrate_sound (d : Dev) (h : d.Sound) : (Dev.arbitrate d).Sound := by
  unfold Dev.arbitrate
  try dsimp only
  repeat' (first | assumption | (with_reducible apply Dev.bump_sound) | (with_reducible apply Dev.onLbu_sound) | (with_reducible apply Dev.emit_sound) | (fail_if_no_progress split))

theorem Dev.lockedStart_sound (d : Dev) (a1) (h : d.Sound) : (Dev.lockedStart d a1).Sound := by
  unfold Dev.lockedStart
  try dsimp only
  repeat' (first | assumption | (with_reducible apply Dev.driveCycle_sound) | (with_reducible apply Dev.zoneLeave_sound) | (with_reducible apply Dev.updReq_sound) | (with_reducible apply Dev.onLbu_sound) | (with_reducible apply Dev.failReq_sound) | (fail_if_no_progress split))

theorem Dev.slaveFail_sound (d : Dev) (a1) (a2) (a3) (a4) (a5) (a6) (h : d.Sound) : (Dev.slaveFail d a1 a2 a3 a4 a5 a6).Sound := by
  unfold Dev.slaveFail
  try dsimp only
  repeat' (first | assumption | (with_reducible apply Dev.log_sound) | (with_reducible apply Dev.bump_sound) | (with_reducible apply Dev.answer_sound) | (fail_if_no_progress split))

theorem Dev.holdOn_sound (d : Dev) (a1) (a2) (h : d.Sound) : (Dev.holdOn d a1 a2).Sound := by
  unfold Dev.holdOn
  try dsimp only
  repeat' (first | assumption | (with_reducible apply Dev.answer_sound) | (with_reducible apply Dev.onLbu_sound) | (with_reducible apply Dev.emit_sound) | (fail_if_no_progress split))

theorem Dev.freeDr_sound (d : Dev) (a1) (h : d.Sound) : (Dev.freeDr d a1).Sound := by
  unfold Dev.freeDr
  try dsimp only
  repeat' (first | assumption | (with_reducible apply Dev.updReq_sound) | (with_reducible apply Dev.onLbu_sound) | (with_reducible apply Dev.dropReq_sound) | (fail_if_no_progress split))

theorem Dev.markStale_sound (d : Dev) (a1) (a2) (a3) (h : d.Sound) : (Dev.markStale d a1 a2 a3).Sound := by
  unfold Dev.markStale
  try dsimp only
  repeat' (first | assumption | (with_reducible apply Dev.bump_sound) | (with_reducible apply Dev.onLbu_sound) | (with_reducible apply Dev.freeDr_sound) | (with_reducible refine foldl_sound _ (fun _ _ _ => ?_) _ ?_) | (fail_if_no_progress split))

theorem Dev.slotAnswer_sound (d : Dev) (a1) (a2) (h : d.Sound) : (Dev.slotAnswer d a1 a2).Sound := by
  unfold Dev.slotAnswer
  try dsimp only
  repeat' (first | assumption | (with_reducible apply Dev.log_sound) | (with_reducible apply Dev.answer_sound) | (with_reducible apply Dev.noteFail_sound) | (fail_if_no_progress split))

theorem Dev.serveSlot_sound (d : Dev) (a1) (a2) (h : d.Sound) : (Dev.serveSlot d a1 a2).Sound := by
  unfold Dev.serveSlot
  try dsimp only
  repeat' (first | assumption | (with_reducible apply Dev.slotAnswer_sound) | (with_reducible apply Dev.rsvRecord_sound) | (with_reducible apply Dev.freeDr_sound) | (fail_if_no_progress split))

theorem Dev.drArrive_sound (d : Dev) (a1) (h : d.Sound) : (Dev.drArrive d a1).Sound := by
  unfold Dev.drArrive
  try dsimp only
  repeat' (first | assumption | (with_reducible apply Dev.updSlot_sound) | (with_reducible apply Dev.freeDr_sound) | (with_reducible apply Dev.serveSlot_sound) | (fail_if_no_progress split))

theorem Dev.queueLirq_sound (d : Dev) (a1) (h : d.Sound) : (Dev.queueLirq d a1).Sound := by
  unfold Dev.queueLirq
  try dsimp only
  repeat' (first | assumption | (with_reducible apply Dev.updPin_sound) | (with_reducible apply Dev.onLbu_sound) | (fail_if_no_progress split))

theorem Dev.clockLost_sound (d : Dev) (h : d.Sound) : (Dev.clockLost d).Sound := by
  unfold Dev.clockLost
  try dsimp only
  repeat' (first | assumption | (with_reducible apply Dev.zoneEnd_sound) | (with_reducible apply Dev.answer_sound) | (with_reducible apply Dev.onLbu_sound) | (with_reducible refine foldl_sound _ (fun _ _ _ => ?_) _ ?_) | (fail_if_no_progress split))

theorem Dev.twinLinkLost_sound (d : Dev) (a1) (h : d.Sound) : (Dev.twinLinkLost d a1).Sound := by
  unfold Dev.twinLinkLost
  try dsimp only
  repeat' (first | assumption | (with_reducible apply Dev.onTwin_sound) | (fail_if_no_progress split))

theorem Dev.enterRetrain_sound (d : Dev) (a1) (h : d.Sound) : (Dev.enterRetrain d a1).Sound := by
  unfold Dev.enterRetrain
  try dsimp only
  repeat' (first | assumption | (with_reducible apply Dev.bump_sound) | (with_reducible apply Dev.twinLinkLost_sound) | (with_reducible apply Dev.onLink_sound))

theorem Dev.replayFrom_sound (d : Dev) (a1) (a2) (h : d.Sound) : (Dev.replayFrom d a1 a2).Sound := by
  unfold Dev.replayFrom
  try dsimp only
  repeat' (first | assumption | (with_reducible apply Dev.bump_sound) | (with_reducible apply Dev.enterRetrain_sound) | (with_reducible apply Dev.onLink_sound) | (with_reducible apply Dev.emit_sound) | (fail_if_no_progress split))

theorem Dev.protoErr_sound (d : Dev) (a1) (a2) (h : d.Sound) : (Dev.protoErr d a1 a2).Sound := by
  unfold Dev.protoErr
  try dsimp only
  repeat' (first | assumption | (with_reducible apply Dev.log_sound) | (with_reducible apply Dev.bump_sound) | (with_reducible apply Dev.emit_sound) | (fail_if_no_progress split))

theorem Dev.endPeerReqs_sound (d : Dev) (a1) (a2) (h : d.Sound) : (Dev.endPeerReqs d a1 a2).Sound := by
  unfold Dev.endPeerReqs
  try dsimp only
  repeat' (first | assumption | (with_reducible apply Dev.bump_sound) | (with_reducible apply Dev.failReq_sound) | (with_reducible refine foldl_sound _ (fun _ _ _ => ?_) _ ?_))

theorem Dev.levelResend_sound (d : Dev) (h : d.Sound) : (Dev.levelResend d).Sound := by
  unfold Dev.levelResend
  try dsimp only
  repeat' (first | assumption | (with_reducible apply Dev.itmosLevel_sound) | (with_reducible refine foldl_sound _ (fun _ _ _ => ?_) _ ?_))

theorem Dev.laneSwapped_sound (d : Dev) (a1) (a2) (h : d.Sound) : (Dev.laneSwapped d a1 a2).Sound := by
  unfold Dev.laneSwapped
  try dsimp only
  repeat' (first | assumption | (with_reducible apply Dev.bump_sound) | (with_reducible apply Dev.recordSpare_sound))

theorem Dev.pushResult_sound (d : Dev) (a1) (a2) (a3) (a4) (a5) (a6) (a7) (a8) (h : d.Sound) : (Dev.pushResult d a1 a2 a3 a4 a5 a6 a7 a8).Sound := by
  unfold Dev.pushResult
  try dsimp only
  repeat' (first | assumption | (with_reducible apply Dev.bump_sound) | (with_reducible apply Dev.onBlv_sound) | (fail_if_no_progress split))

theorem Dev.slotDone_sound (d : Dev) (a1) (h : d.Sound) : (Dev.slotDone d a1).Sound := by
  unfold Dev.slotDone
  try dsimp only
  repeat' (first | assumption | (with_reducible apply Dev.onBlv_sound) | (fail_if_no_progress split))

theorem Dev.skipSlot_sound (d : Dev) (a1) (a2) (h : d.Sound) : (Dev.skipSlot d a1 a2).Sound := by
  unfold Dev.skipSlot
  try dsimp only
  repeat' (first | assumption | (with_reducible apply Dev.pushResult_sound) | (with_reducible apply Dev.bump_sound) | (with_reducible apply Dev.onBlv_sound) | (with_reducible apply Dev.slotDone_sound) | (fail_if_no_progress split))

theorem Dev.skipPassed_sound (d : Dev) (h : d.Sound) : (Dev.skipPassed d).Sound := by
  unfold Dev.skipPassed
  try dsimp only
  repeat' (first | assumption | (with_reducible apply Dev.skipSlot_sound) | (with_reducible refine foldl_sound _ (fun _ _ _ => ?_) _ ?_))

theorem Dev.stepVt_sound (d : Dev) (a1) (a2) (h : d.Sound) : (Dev.stepVt d a1 a2).Sound := by
  unfold Dev.stepVt
  try dsimp only
  repeat' (first | assumption | (with_reducible apply Dev.bump_sound) | (with_reducible apply Dev.skipPassed_sound) | (with_reducible apply Dev.onBlv_sound) | (fail_if_no_progress split))

theorem Dev.lockUpdate_sound (d : Dev) (a1) (h : d.Sound) : (Dev.lockUpdate d a1).Sound := by
  unfold Dev.lockUpdate
  try dsimp only
  repeat' (first | assumption | (with_reducible apply Dev.enterAcquire_sound) | (with_reducible apply Dev.onBlv_sound) | (fail_if_no_progress split))

theorem Dev.servoUpdate_sound (d : Dev) (a1) (h : d.Sound) : (Dev.servoUpdate d a1).Sound := by
  unfold Dev.servoUpdate
  try dsimp only
  repeat' (first | assumption | (with_reducible apply Dev.showOffset_sound) | (with_reducible apply Dev.wr_sound) | (with_reducible apply Dev.tick_sound) | (with_reducible apply Dev.stepVt_sound) | (with_reducible apply Dev.lockUpdate_sound) | (with_reducible apply Dev.onBlv_sound) | (fail_if_no_progress split))

theorem Dev.skipPast_sound (d : Dev) (a1) (h : d.Sound) : (Dev.skipPast d a1).Sound := by
  unfold Dev.skipPast
  try dsimp only
  repeat' (first | assumption | (with_reducible apply Dev.skipSlot_sound))

theorem Dev.armSlot_sound (d : Dev) (a1) (h : d.Sound) : (Dev.armSlot d a1).Sound := by
  unfold Dev.armSlot
  try dsimp only
  repeat' (first | assumption | (with_reducible apply Dev.bump_sound) | (with_reducible apply Dev.skipPast_sound) | (with_reducible apply Dev.onBlv_sound) | (fail_if_no_progress split))

theorem Dev.armWrite_sound (d : Dev) (a1) (h : d.Sound) : (Dev.armWrite d a1).Sound := by
  unfold Dev.armWrite
  try dsimp only
  repeat' (first | assumption | (with_reducible apply Dev.armSlot_sound) | (with_reducible apply Dev.wr_sound) | (with_reducible apply Dev.disarmSlot_sound) | (fail_if_no_progress split))

theorem Dev.sendSync_sound (d : Dev) (a1) (h : d.Sound) : (Dev.sendSync d a1).Sound := by
  unfold Dev.sendSync
  try dsimp only
  repeat' (first | assumption | (with_reducible apply Dev.onLink_sound) | (with_reducible apply Dev.emit_sound) | (fail_if_no_progress split))

theorem Dev.dispatch_sound (d : Dev) (a1) (h : d.Sound) : (Dev.dispatch d a1).Sound := by
  unfold Dev.dispatch
  try dsimp only
  repeat' (first | assumption | (with_reducible apply Dev.onTwin_sound) | (with_reducible apply Dev.onBlv_sound) | (with_reducible apply Dev.slotDone_sound) | (with_reducible apply Dev.slotRef_sound) | (fail_if_no_progress split))

theorem Dev.slotWrite_sound (d : Dev) (a1) (a2) (h : d.Sound) : (Dev.slotWrite d a1 a2).Sound := by
  unfold Dev.slotWrite
  try dsimp only
  repeat' (first | assumption | (with_reducible apply Dev.bump_sound) | (with_reducible apply Dev.wr_sound) | (fail_if_no_progress split))

theorem Dev.driveTio_sound (d : Dev) (a1) (a2) (a3) (h : d.Sound) : (Dev.driveTio d a1 a2 a3).Sound := by
  unfold Dev.driveTio
  try dsimp only
  repeat' (first | assumption | (with_reducible apply Dev.updTio_sound) | (with_reducible apply Dev.emit_sound) | (fail_if_no_progress split))

theorem Dev.pulseReturn_sound (d : Dev) (a1) (h : d.Sound) : (Dev.pulseReturn d a1).Sound := by
  unfold Dev.pulseReturn
  try dsimp only
  repeat' (first | assumption | (with_reducible apply Dev.driveTio_sound) | (with_reducible apply Dev.updTio_sound) | (fail_if_no_progress split))

theorem Dev.endEvent_sound (d : Dev) (a1) (h : d.Sound) : (Dev.endEvent d a1).Sound := by
  unfold Dev.endEvent
  try dsimp only
  repeat' (first | assumption | (with_reducible apply Dev.onBlv_sound) | (with_reducible apply Dev.slotDone_sound) | (with_reducible apply Dev.slotRef_sound))

theorem Dev.recordEvent_sound (d : Dev) (a1) (a2) (a3) (a4) (a5) (a6) (h : d.Sound) : (Dev.recordEvent d a1 a2 a3 a4 a5 a6).Sound := by
  unfold Dev.recordEvent
  try dsimp only
  repeat' (first | assumption | (with_reducible apply Dev.pushResult_sound) | (with_reducible apply Dev.bump_sound) | (with_reducible apply Dev.sendRec_sound) | (with_reducible apply Dev.endEvent_sound) | (fail_if_no_progress split))

theorem Dev.fireTriggers_sound (d : Dev) (a1) (a2) (a3) (h : d.Sound) : (Dev.fireTriggers d a1 a2 a3).Sound := by
  unfold Dev.fireTriggers
  try dsimp only
  repeat' (first | assumption | (with_reducible apply Dev.driveTio_sound) | (with_reducible apply Dev.recordEvent_sound) | (with_reducible apply Dev.updTio_sound) | (with_reducible refine foldl_sound _ (fun _ _ _ => ?_) _ ?_) | (fail_if_no_progress split))

theorem Dev.tioCfgWrite_sound (d : Dev) (a1) (a2) (h : d.Sound) : (Dev.tioCfgWrite d a1 a2).Sound := by
  unfold Dev.tioCfgWrite
  try dsimp only
  repeat' (first | assumption | (with_reducible apply Dev.wr_sound) | (with_reducible apply Dev.driveTio_sound) | (with_reducible apply Dev.updTio_sound) | (fail_if_no_progress split))

theorem Dev.capture_sound (d : Dev) (a1) (a2) (h : d.Sound) : (Dev.capture d a1 a2).Sound := by
  unfold Dev.capture
  try dsimp only
  repeat' (first | assumption | (with_reducible apply Dev.bump_sound) | (with_reducible apply Dev.onBlv_sound) | (with_reducible apply Dev.updTio_sound) | (fail_if_no_progress split))

theorem Dev.softStep_sound (d : Dev) (a1) (a2) (h : d.Sound) : (Dev.softStep d a1 a2).Sound := by
  unfold Dev.softStep
  try dsimp only
  repeat' (first | assumption | (with_reducible apply Dev.bump_sound) | (with_reducible apply Dev.stepVt_sound) | (fail_if_no_progress split))

theorem Dev.useSource_sound (d : Dev) (a1) (h : d.Sound) : (Dev.useSource d a1).Sound := by
  unfold Dev.useSource
  try dsimp only
  repeat' (first | assumption | (with_reducible apply Dev.bump_sound) | (with_reducible apply Dev.wr_sound) | (with_reducible apply Dev.enterAcquire_sound) | (with_reducible apply Dev.onBlv_sound) | (fail_if_no_progress split))

theorem Dev.srcCfgWrite_sound (d : Dev) (a1) (h : d.Sound) : (Dev.srcCfgWrite d a1).Sound := by
  unfold Dev.srcCfgWrite
  try dsimp only
  repeat' (first | assumption | (with_reducible apply Dev.useSource_sound) | (with_reducible apply Dev.wr_sound) | (with_reducible apply Dev.onBlv_sound))

theorem Dev.stepCtlWrite_sound (d : Dev) (a1) (h : d.Sound) : (Dev.stepCtlWrite d a1).Sound := by
  unfold Dev.stepCtlWrite
  try dsimp only
  repeat' (first | assumption | (with_reducible apply Dev.wr_sound) | (with_reducible apply Dev.softStep_sound) | (fail_if_no_progress split))

theorem Dev.checkSources_sound (d : Dev) (h : d.Sound) : (Dev.checkSources d).Sound := by
  unfold Dev.checkSources
  try dsimp only
  repeat' (first | assumption | (with_reducible apply Dev.useSource_sound) | (with_reducible apply Dev.onBlv_sound) | (fail_if_no_progress split))

theorem Dev.setSource_sound (d : Dev) (a1) (a2) (h : d.Sound) : (Dev.setSource d a1 a2).Sound := by
  unfold Dev.setSource
  try dsimp only
  repeat' (first | assumption | (with_reducible apply Dev.useSource_sound) | (with_reducible apply Dev.onBlv_sound))

theorem Dev.syncUpdate_sound (d : Dev) (a1) (a2) (a3) (a4) (h : d.Sound) : (Dev.syncUpdate d a1 a2 a3 a4).Sound := by
  unfold Dev.syncUpdate
  try dsimp only
  repeat' (first | assumption | (with_reducible apply Dev.servoUpdate_sound) | (with_reducible apply Dev.onBlv_sound) | (fail_if_no_progress split))

theorem Dev.runCan_sound (d : Dev) (h : d.Sound) : (Dev.runCan d).Sound := by
  unfold Dev.runCan
  try dsimp only
  repeat' (first | assumption | (with_reducible apply Dev.recordEvent_sound) | ((simp only [Dev.sound_mk]); (refine Dev.Sound.parts ?_)) | (fail_if_no_progress split))

theorem Dev.slewWrite_sound (d : Dev) (a1) (h : d.Sound) : (Dev.slewWrite d a1).Sound := by
  unfold Dev.slewWrite
  try dsimp only
  repeat' (first | assumption | (with_reducible apply Dev.bump_sound) | (with_reducible apply Dev.showOffset_sound) | (with_reducible apply Dev.lockUpdate_sound) | (with_reducible apply Dev.onBlv_sound) | (fail_if_no_progress split))

theorem Dev.runTriggers_sound (d : Dev) (h : d.Sound) : (Dev.runTriggers d).Sound := by
  unfold Dev.runTriggers
  try dsimp only
  repeat' (first | assumption | (with_reducible apply Dev.fireTriggers_sound) | (fail_if_no_progress split))

theorem Dev.enableSched_sound (d : Dev) (h : d.Sound) : (Dev.enableSched d).Sound := by
  unfold Dev.enableSched
  try dsimp only
  repeat' (first | assumption | (with_reducible apply Dev.skipPast_sound) | (with_reducible apply Dev.setFld_sound) | (with_reducible refine foldl_sound _ (fun _ _ _ => ?_) _ ?_) | (fail_if_no_progress split))

theorem Dev.rateWrite_sound (d : Dev) (a1) (h : d.Sound) : (Dev.rateWrite d a1).Sound := by
  unfold Dev.rateWrite
  try dsimp only
  repeat' (first | assumption | (with_reducible apply Dev.bump_sound) | (with_reducible apply Dev.wr_sound) | (with_reducible apply Dev.onBlv_sound) | (fail_if_no_progress split))

theorem Dev.schedCfgWrite_sound (d : Dev) (a1) (h : d.Sound) : (Dev.schedCfgWrite d a1).Sound := by
  unfold Dev.schedCfgWrite
  try dsimp only
  repeat' (first | assumption | (with_reducible apply Dev.bump_sound) | (with_reducible apply Dev.wr_sound) | (with_reducible apply Dev.setFld_sound) | (with_reducible apply Dev.enableSched_sound) | (fail_if_no_progress split))

theorem Dev.eoi_sound (d : Dev) (a1) (h : d.Sound) : (Dev.eoi d a1).Sound := by
  unfold Dev.eoi
  try dsimp only
  repeat' (first | assumption | (with_reducible apply Dev.sendVec_sound) | (fail_if_no_progress split))

theorem Dev.vectorWrite_sound (d : Dev) (a1) (a2) (a3) (h : d.Sound) : (Dev.vectorWrite d a1 a2 a3).Sound := by
  unfold Dev.vectorWrite
  try dsimp only
  repeat' (first | assumption | (with_reducible apply Dev.log_sound) | (with_reducible apply Dev.wr_sound) | (fail_if_no_progress split))

end Sys2Proof.Machine
end

