-- ==== Sys2Proof/Laws/Sound2.lean ====
section
/-!
SUPPORT. Every operation of the device keeps it sound (`Dev.Sound`), part 2: one lemma for each.
-/
set_option linter.all false
namespace Sys2Proof.Machine

theorem Dev.endRun_sound (d : Dev) (a1) (h : d.Sound) : (Dev.endRun d a1).Sound := by
  unfold Dev.endRun
  try dsimp only
  repeat' (first | assumption | (with_reducible apply Dev.onChan_sound) | (with_reducible apply Dev.onGzb_sound) | (fail_if_no_progress split))

theorem Dev.gzbHalt_sound (d : Dev) (a1) (a2) (a3) (h : d.Sound) : (Dev.gzbHalt d a1 a2 a3).Sound := by
  unfold Dev.gzbHalt
  try dsimp only
  repeat' (first | assumption | (with_reducible apply Dev.bump_sound) | (with_reducible apply Dev.wr_sound) | (with_reducible apply Dev.wr64_sound) | (with_reducible apply Dev.rsvException_sound) | (with_reducible apply Dev.onGzb_sound) | (with_reducible refine foldl_sound _ (fun _ _ _ => ?_) _ ?_) | (fail_if_no_progress split))

theorem Dev.gzbRestart_sound (d : Dev) (a1) (a2) (h : d.Sound) : (Dev.gzbRestart d a1 a2).Sound := by
  unfold Dev.gzbRestart
  try dsimp only
  repeat' (first | assumption | (with_reducible apply Dev.onChan_sound) | (with_reducible apply Dev.onGzb_sound) | (with_reducible refine foldl_sound _ (fun _ _ _ => ?_) _ ?_) | (fail_if_no_progress split))

theorem Dev.ringWrite_sound (d : Dev) (a1) (a2) (h : d.Sound) : (Dev.ringWrite d a1 a2).Sound := by
  unfold Dev.ringWrite
  try dsimp only
  repeat' (first | assumption | (with_reducible apply Dev.bump_sound) | (with_reducible apply Dev.wr64_sound) | (fail_if_no_progress split))

theorem Dev.beginDesc_sound (d : Dev) (a1) (a2) (a3) (h : d.Sound) : (Dev.beginDesc d a1 a2 a3).Sound := by
  unfold Dev.beginDesc
  try dsimp only
  repeat' (first | assumption | (with_reducible apply Dev.log_sound) | (with_reducible apply Dev.bump_sound) | (with_reducible apply Dev.onChan_sound) | (with_reducible apply Dev.onGzb_sound) | (fail_if_no_progress split))

theorem Dev.chanCtl_sound (d : Dev) (a1) (a2) (h : d.Sound) : (Dev.chanCtl d a1 a2).Sound := by
  unfold Dev.chanCtl
  try dsimp only
  repeat' (first | assumption | (with_reducible apply Dev.endRun_sound) | (with_reducible apply Dev.bump_sound) | (with_reducible apply Dev.onChan_sound) | (with_reducible apply Dev.wr_sound) | (with_reducible apply Dev.setFld_sound) | (with_reducible apply Dev.onGzb_sound) | (fail_if_no_progress split))

theorem Dev.insertFail_sound (d : Dev) (a1) (a2) (h : d.Sound) : (Dev.insertFail d a1 a2).1.Sound := by
  unfold Dev.insertFail
  try dsimp only
  repeat' (first | assumption | (with_reducible apply Dev.bump_sound) | (with_reducible apply Dev.sendRec_sound) | (with_reducible apply Dev.onTrl_sound) | (fail_if_no_progress split))

theorem Dev.genAdvance_sound (d : Dev) (h : d.Sound) : (Dev.genAdvance d).Sound := by
  unfold Dev.genAdvance
  try dsimp only
  repeat' (first | assumption | (with_reducible apply Dev.wr_sound) | (with_reducible apply Dev.reject_sound) | (fail_if_no_progress split))

theorem Dev.trlCmdEnd_sound (d : Dev) (a1) (h : d.Sound) : (Dev.trlCmdEnd d a1).Sound := by
  unfold Dev.trlCmdEnd
  try dsimp only
  repeat' (first | assumption | (with_reducible apply Dev.wr_sound) | (with_reducible apply Dev.onTrl_sound) | (fail_if_no_progress split))

theorem Dev.readBucket_sound (d : Dev) (a1) (h : d.Sound) : (Dev.readBucket d a1).1.Sound := by
  unfold Dev.readBucket
  try dsimp only
  repeat' (first | assumption | (with_reducible apply Dev.log_sound) | (with_reducible apply Dev.tick_sound) | (with_reducible apply Dev.bump64_sound) | (fail_if_no_progress split))

theorem Dev.lookup_sound (d : Dev) (a1) (h : d.Sound) : (Dev.lookup d a1).1.Sound := by
  unfold Dev.lookup
  try dsimp only
  repeat' (first | assumption | (with_reducible apply Dev.readBucket_sound) | (with_reducible apply Dev.bump64_sound) | (fail_if_no_progress split))

theorem Dev.trlFind_sound (d : Dev) (h : d.Sound) : (Dev.trlFind d).Sound := by
  unfold Dev.trlFind
  try dsimp only
  repeat' (first | assumption | (with_reducible apply Dev.wr_sound) | (with_reducible apply Dev.trlCmdEnd_sound) | (with_reducible refine foldl_sound _ (fun _ _ _ => ?_) _ ?_) | (fail_if_no_progress split))

theorem Dev.tableSwitch_sound (d : Dev) (a1) (a2) (h : d.Sound) : (Dev.tableSwitch d a1 a2).Sound := by
  unfold Dev.tableSwitch
  try dsimp only
  repeat' (first | assumption | (with_reducible apply Dev.wr_sound) | (with_reducible apply Dev.reject_sound) | (with_reducible apply Dev.setFld_sound) | (with_reducible apply Dev.genAdvance_sound) | (with_reducible apply Dev.onTrl_sound) | (with_reducible apply Dev.permFail_sound) | (fail_if_no_progress split))

theorem Dev.trlCmdWrite_sound (d : Dev) (a1) (h : d.Sound) : (Dev.trlCmdWrite d a1).Sound := by
  unfold Dev.trlCmdWrite
  try dsimp only
  repeat' (first | assumption | (with_reducible apply Dev.wr_sound) | (with_reducible apply Dev.reject_sound) | (with_reducible apply Dev.onTrl_sound) | (fail_if_no_progress split))

theorem Dev.secValidate_sound (d : Dev) (a1) (a2) (h : d.Sound) : (Dev.secValidate d a1 a2).1.Sound := by
  unfold Dev.secValidate
  try dsimp only
  repeat' (first | assumption | (with_reducible apply Dev.bump_sound) | (with_reducible apply Dev.wr_sound) | (fail_if_no_progress split))

theorem Dev.sendItm_sound (d : Dev) (a1) (a2) (a3) (h : d.Sound) : (Dev.sendItm d a1 a2 a3).Sound := by
  unfold Dev.sendItm
  try dsimp only
  repeat' (first | assumption | (with_reducible apply Dev.bump_sound) | (with_reducible apply Dev.crossCells_sound) | (with_reducible apply Dev.sendGen_sound) | (fail_if_no_progress split))

theorem Dev.sendXfer_sound (d : Dev) (a1) (a2) (a3) (a4) (a5) (h : d.Sound) : (Dev.sendXfer d a1 a2 a3 a4 a5).Sound := by
  unfold Dev.sendXfer
  try dsimp only
  repeat' (first | assumption | (with_reducible apply Dev.onFrm_sound) | (with_reducible apply Dev.bump_sound) | (with_reducible apply Dev.crossCells_sound) | (fail_if_no_progress split))

theorem Dev.forward_sound (d : Dev) (a1) (a2) (a3) (h : d.Sound) : (Dev.forward d a1 a2 a3).Sound := by
  unfold Dev.forward
  try dsimp only
  repeat' (first | assumption | (with_reducible apply Dev.sendItm_sound) | (with_reducible apply Dev.sendXfer_sound) | (with_reducible refine foldl_sound _ (fun _ _ _ => ?_) _ ?_) | (fail_if_no_progress split))

theorem Dev.capCommit_sound (d : Dev) (a1) (h : d.Sound) : (Dev.capCommit d a1).Sound := by
  unfold Dev.capCommit
  try dsimp only
  repeat' (first | assumption | (with_reducible apply Dev.onFrm_sound) | (with_reducible apply Dev.wbarsFor_sound) | (with_reducible apply Dev.setFld_sound) | (fail_if_no_progress split))

theorem Dev.pduOut_sound (d : Dev) (a1) (a2) (h : d.Sound) : (Dev.pduOut d a1 a2).Sound := by
  unfold Dev.pduOut
  try dsimp only
  repeat' (first | assumption | (with_reducible apply Dev.loadTimed_sound) | (with_reducible apply Dev.forward_sound) | (fail_if_no_progress split))

theorem Dev.acfFrame_sound (d : Dev) (a1) (a2) (a3) (a4) (a5) (a6) (h : d.Sound) : (Dev.acfFrame d a1 a2 a3 a4 a5 a6).Sound := by
  unfold Dev.acfFrame
  try dsimp only
  repeat' (first | assumption | (with_reducible apply Dev.tick_sound) | (with_reducible apply Dev.enterFrame_sound) | (fail_if_no_progress split))

theorem Dev.avtpUnpack_sound (d : Dev) (a1) (a2) (a3) (a4) (a5) (a6) (h : d.Sound) : (Dev.avtpUnpack d a1 a2 a3 a4 a5 a6).Sound := by
  unfold Dev.avtpUnpack
  try dsimp only
  repeat' (first | assumption | (with_reducible apply Dev.acfFrame_sound) | (with_reducible apply Dev.bump_sound) | (with_reducible refine foldl_sound _ (fun _ _ _ => ?_) _ ?_) | ((simp only [Dev.sound_mk]); (refine Dev.Sound.parts ?_)) | (fail_if_no_progress split))

theorem Dev.errDown_sound (d : Dev) (a1) (a2) (h : d.Sound) : (Dev.errDown d a1 a2).Sound := by
  unfold Dev.errDown
  try dsimp only
  repeat' (first | assumption | (with_reducible apply Dev.tick_sound) | (with_reducible apply Dev.onCan_sound) | (fail_if_no_progress split))

theorem Dev.parkLimit_sound (d : Dev) (a1) (h : d.Sound) : (Dev.parkLimit d a1).Sound := by
  unfold Dev.parkLimit
  try dsimp only
  repeat' (first | assumption | (with_reducible apply Dev.onFrm_sound) | (with_reducible apply Dev.bump_sound) | (with_reducible apply Dev.keyGiveUp_sound) | (fail_if_no_progress split))

theorem Dev.linRx_sound (d : Dev) (a1) (a2) (a3) (a4) (a5) (h : d.Sound) : (Dev.linRx d a1 a2 a3 a4 a5).Sound := by
  unfold Dev.linRx
  try dsimp only
  repeat' (first | assumption | (with_reducible apply Dev.bump_sound) | (with_reducible apply Dev.enterFrame_sound) | ((simp only [Dev.sound_mk]); (refine Dev.Sound.parts ?_)) | (fail_if_no_progress split))

theorem Dev.itmFrame_sound (d : Dev) (a1) (a2) (h : d.Sound) : (Dev.itmFrame d a1 a2).Sound := by
  unfold Dev.itmFrame
  try dsimp only
  repeat' (first | assumption | (with_reducible apply Dev.protoErr_sound) | (with_reducible apply Dev.enterFrame_sound) | (fail_if_no_progress split))

theorem Dev.linTake_sound (d : Dev) (a1) (a2) (h : d.Sound) : (Dev.linTake d a1 a2).Sound := by
  unfold Dev.linTake
  try dsimp only
  repeat' (first | assumption | (with_reducible apply Dev.wr_sound) | (with_reducible apply Dev.setFld_sound) | (fail_if_no_progress split))

theorem Dev.secTx_sound (d : Dev) (a1) (h : d.Sound) : (Dev.secTx d a1).Sound := by
  unfold Dev.secTx
  try dsimp only
  repeat' (first | assumption | (with_reducible apply Dev.xferTaken_sound) | (with_reducible apply Dev.sendXfer_sound) | (with_reducible apply Dev.secProtect_sound) | (fail_if_no_progress split))

theorem Dev.ptpStamp_sound (d : Dev) (a1) (a2) (h : d.Sound) : (Dev.ptpStamp d a1 a2).Sound := by
  unfold Dev.ptpStamp
  try dsimp only
  repeat' (first | assumption | (with_reducible apply Dev.bump_sound) | (with_reducible apply Dev.onBlv_sound) | (fail_if_no_progress split))

theorem Dev.canSent_sound (d : Dev) (a1) (h : d.Sound) : (Dev.canSent d a1).Sound := by
  unfold Dev.canSent
  try dsimp only
  repeat' (first | assumption | (with_reducible apply Dev.bump_sound) | (with_reducible apply Dev.errDown_sound) | (with_reducible apply Dev.onCan_sound) | (with_reducible apply Dev.emit_sound) | (fail_if_no_progress split))

theorem Dev.canTake_sound (d : Dev) (a1) (a2) (h : d.Sound) : (Dev.canTake d a1 a2).Sound := by
  unfold Dev.canTake
  try dsimp only
  repeat' (first | assumption | (with_reducible apply Dev.bump_sound) | (with_reducible apply Dev.onCan_sound) | (fail_if_no_progress split))

theorem Dev.ethTake_sound (d : Dev) (a1) (a2) (h : d.Sound) : (Dev.ethTake d a1 a2).Sound := by
  unfold Dev.ethTake
  try dsimp only
  repeat' (first | assumption | (with_reducible apply Dev.bump_sound) | (with_reducible apply Dev.onMac_sound) | (with_reducible apply Dev.creditNow_sound) | (fail_if_no_progress split))

theorem Dev.tunFlush_sound (d : Dev) (a1) (h : d.Sound) : (Dev.tunFlush d a1).Sound := by
  unfold Dev.tunFlush
  try dsimp only
  repeat' (first | assumption | (with_reducible apply Dev.ethTake_sound) | (with_reducible apply Dev.sendXfer_sound) | ((simp only [Dev.sound_mk]); (refine Dev.Sound.parts ?_)) | (fail_if_no_progress split))

theorem Dev.linStep_sound (d : Dev) (a1) (h : d.Sound) : (Dev.linStep d a1).Sound := by
  unfold Dev.linStep
  try dsimp only
  repeat' (first | assumption | (with_reducible apply Dev.linAnswer_sound) | (with_reducible apply Dev.onLin_sound) | (with_reducible apply Dev.emit_sound) | (fail_if_no_progress split))

theorem Dev.tunTake_sound (d : Dev) (a1) (a2) (h : d.Sound) : (Dev.tunTake d a1 a2).Sound := by
  unfold Dev.tunTake
  try dsimp only
  repeat' (first | assumption | (with_reducible apply Dev.bump_sound) | (with_reducible apply Dev.tunFlush_sound) | ((simp only [Dev.sound_mk]); (refine Dev.Sound.parts ?_)) | (fail_if_no_progress split))

theorem Dev.tasChange_sound (d : Dev) (a1) (h : d.Sound) : (Dev.tasChange d a1).Sound := by
  unfold Dev.tasChange
  try dsimp only
  repeat' (first | assumption | (with_reducible apply Dev.onMac_sound) | (fail_if_no_progress split))

theorem Dev.seqLoss_sound (d : Dev) (a1) (a2) (h : d.Sound) : (Dev.seqLoss d a1 a2).Sound := by
  unfold Dev.seqLoss
  try dsimp only
  repeat' (first | assumption | (with_reducible apply Dev.onFrm_sound) | (with_reducible apply Dev.bump_sound) | (with_reducible apply Dev.onDep_sound) | (fail_if_no_progress split) | rfl)

theorem Dev.txLoad_sound (d : Dev) (a1) (a2) (h : d.Sound) : (Dev.txLoad d a1 a2).Sound := by
  unfold Dev.txLoad
  try dsimp only
  repeat' (first | assumption | (with_reducible apply Dev.loadTimed_sound) | (with_reducible apply Dev.reject_sound) | (fail_if_no_progress split))

theorem Dev.discardPath_sound (d : Dev) (a1) (h : d.Sound) : (Dev.discardPath d a1).Sound := by
  unfold Dev.discardPath
  try dsimp only
  repeat' (first | assumption | (with_reducible apply Dev.log_sound) | (with_reducible apply Dev.bump_sound) | (with_reducible apply Dev.zoneLeave_sound) | (with_reducible apply Dev.noteFail_sound) | (with_reducible apply Dev.dropReq_sound) | (with_reducible refine foldl_sound _ (fun _ _ _ => ?_) _ ?_) | (fail_if_no_progress split))

theorem Dev.endQueued_sound (d : Dev) (a1) (h : d.Sound) : (Dev.endQueued d a1).Sound := by
  unfold Dev.endQueued
  try dsimp only
  repeat' (first | assumption | (with_reducible apply Dev.zoneEnd_sound) | (with_reducible refine foldl_sound _ (fun _ _ _ => ?_) _ ?_))

theorem Dev.drainEnd_sound (d : Dev) (a1) (h : d.Sound) : (Dev.drainEnd d a1).Sound := by
  unfold Dev.drainEnd
  try dsimp only
  repeat' (first | assumption | (with_reducible apply Dev.discardPath_sound) | (with_reducible apply Dev.endQueued_sound) | (with_reducible apply Dev.onLbu_sound) | (with_reducible apply Dev.cutBus_sound) | (with_reducible refine foldl_sound _ (fun _ _ _ => ?_) _ ?_))

theorem Dev.lbuReset_sound (d : Dev) (h : d.Sound) : (Dev.lbuReset d).Sound := by
  unfold Dev.lbuReset
  try dsimp only
  repeat' (first | assumption | (with_reducible apply Dev.bump_sound) | (with_reducible apply Dev.regsReset_sound) | (with_reducible apply Dev.rsvException_sound) | (with_reducible apply Dev.dropBlocks_sound) | (with_reducible apply Dev.onLbu_sound) | (with_reducible apply Dev.freeDr_sound) | (with_reducible apply Dev.onFab_sound) | (with_reducible refine foldl_sound _ (fun _ _ _ => ?_) _ ?_))

theorem Dev.hpReset_sound (d : Dev) (h : d.Sound) : (Dev.hpReset d).Sound := by
  unfold Dev.hpReset
  extract_lets x0 x1 x2
  have h_x0 : x0.Sound := by
    unfold x0
    repeat' (first | assumption | (with_reducible apply Dev.functionReset_sound) | (with_reducible apply Dev.hostLinkDown_sound))
  clear_value x0
  have h_x1 : x1.Sound := by
    unfold x1
    repeat' (first | assumption | (with_reducible apply Dev.loseRsv_sound))
  clear_value x1
  have h_x2 : x2.Sound := by
    unfold x2
    repeat' (first | assumption | (with_reducible apply Dev.dropBlocks_sound))
  clear_value x2
  repeat' (first | assumption | (with_reducible apply Dev.regsReset_sound) | (with_reducible apply Dev.setFld_sound))

theorem Dev.drainStart_sound (d : Dev) (a1) (h : d.Sound) : (Dev.drainStart d a1).Sound := by
  unfold Dev.drainStart
  try dsimp only
  repeat' (first | assumption | (with_reducible apply Dev.endQueued_sound) | (with_reducible apply Dev.emitLines_sound) | (with_reducible apply Dev.onLbu_sound))

theorem Dev.sendMem_sound (d : Dev) (a1) (h : d.Sound) : (Dev.sendMem d a1).Sound := by
  unfold Dev.sendMem
  try dsimp only
  repeat' (first | assumption | (with_reducible apply Dev.sendRec_sound) | (fail_if_no_progress split))

theorem Dev.trlCtrlWrite_sound (d : Dev) (a1) (h : d.Sound) : (Dev.trlCtrlWrite d a1).Sound := by
  unfold Dev.trlCtrlWrite
  try dsimp only
  repeat' (first | assumption | (with_reducible apply Dev.wr_sound) | (with_reducible apply Dev.reject_sound) | (fail_if_no_progress split))

theorem Dev.handoverStart_sound (d : Dev) (h : d.Sound) : (Dev.handoverStart d).Sound := by
  unfold Dev.handoverStart
  try dsimp only
  repeat' (first | assumption | (with_reducible apply Dev.reject_sound) | (with_reducible apply Dev.emitLines_sound) | (with_reducible apply Dev.onTwin_sound) | (with_reducible apply Dev.onLbu_sound) | (fail_if_no_progress split))

theorem Dev.wideEffect_sound (d : Dev) (a1) (a2) (h : d.Sound) : (Dev.wideEffect d a1 a2).Sound := by
  unfold Dev.wideEffect
  try dsimp only
  repeat' (first | assumption | (with_reducible apply Dev.wr64_sound) | (with_reducible apply Dev.reject_sound) | (with_reducible apply Dev.ringWrite_sound) | (fail_if_no_progress split))

theorem Dev.keyedArm_sound (d : Dev) (a1) (a2) (a3) (h : d.Sound) : (Dev.keyedArm d a1 a2 a3).Sound := by
  unfold Dev.keyedArm
  try dsimp only
  repeat' (first | assumption | (with_reducible apply Dev.dropArmed_sound) | ((simp only [Dev.sound_mk]); (refine Dev.Sound.parts ?_)) | (fail_if_no_progress split))

theorem Dev.sendReg_sound (d : Dev) (a1) (a2) (a3) (h : d.Sound) : (Dev.sendReg d a1 a2 a3).Sound := by
  unfold Dev.sendReg
  try dsimp only
  repeat' (first | assumption | (with_reducible apply Dev.sendRec_sound) | (fail_if_no_progress split))

theorem Dev.applied_sound (a0) (d : Dev) (a2) (a3) (a4) (h : d.Sound) : (Dev.applied a0 d a2 a3 a4).Sound := by
  unfold Dev.applied
  try dsimp only
  repeat' (first | assumption | (with_reducible apply Dev.sendReg_sound) | ((simp only [Dev.sound_mk]); (refine Dev.Sound.parts ?_)) | (fail_if_no_progress split))

theorem Dev.sendArea_sound (d : Dev) (a1) (a2) (h : d.Sound) : (Dev.sendArea d a1 a2).Sound := by
  unfold Dev.sendArea
  try dsimp only
  repeat' (first | assumption | (with_reducible apply Dev.sendRec_sound) | (fail_if_no_progress split))

theorem Dev.memStore_sound (d : Dev) (a1) (a2) (h : d.Sound) : (Dev.memStore d a1 a2).1.Sound := by
  unfold Dev.memStore
  try dsimp only
  repeat' (first | assumption | (with_reducible apply Dev.freshWords_sound) | (with_reducible apply Dev.sendArea_sound) | (with_reducible apply Dev.setBytes_sound) | (with_reducible refine foldl_fst_sound _ (fun _ _ _ => ?_) _ ?_) | (fail_if_no_progress split))

theorem Dev.mbxEnd_sound (d : Dev) (a1) (a2) (a3) (h : d.Sound) : (Dev.mbxEnd d a1 a2 a3).Sound := by
  unfold Dev.mbxEnd
  try dsimp only
  repeat' (first | assumption | (with_reducible apply Dev.wr_sound) | (with_reducible apply Dev.memStore_sound) | (with_reducible apply Dev.rsvStore_sound) | ((simp only [Dev.sound_mk]); (refine Dev.Sound.parts ?_)))

theorem Dev.warmStart_sound (d : Dev) (h : d.Sound) : (Dev.warmStart d).Sound := by
  unfold Dev.warmStart
  try dsimp only
  repeat' (first | assumption | (with_reducible apply Dev.drainStart_sound) | ((simp only [Dev.sound_mk]); (refine Dev.Sound.parts ?_)) | (fail_if_no_progress split))

theorem Dev.wideWrite_sound (d : Dev) (a1) (a2) (a3) (h : d.Sound) : (Dev.wideWrite d a1 a2 a3).Sound := by
  unfold Dev.wideWrite
  try dsimp only
  repeat' (first | assumption | (with_reducible apply Dev.wideEffect_sound) | (with_reducible apply Dev.applied_sound) | (fail_if_no_progress split))

theorem Dev.wideHigh_sound (d : Dev) (a1) (a2) (a3) (h : d.Sound) : (Dev.wideHigh d a1 a2 a3).Sound := by
  unfold Dev.wideHigh
  try dsimp only
  repeat' (first | assumption | (with_reducible apply Dev.wideWrite_sound) | ((simp only [Dev.sound_mk]); (refine Dev.Sound.parts ?_)) | (fail_if_no_progress split))

theorem Dev.mbxWrite_sound (d : Dev) (a1) (a2) (h : d.Sound) : (Dev.mbxWrite d a1 a2).Sound := by
  unfold Dev.mbxWrite
  try dsimp only
  repeat' (first | assumption | (with_reducible apply Dev.bump_sound) | (with_reducible apply Dev.wr_sound) | (with_reducible apply Dev.mbxEnd_sound) | ((simp only [Dev.sound_mk]); (refine Dev.Sound.parts ?_)) | (fail_if_no_progress split))

theorem Dev.eraseStart_sound (d : Dev) (h : d.Sound) : (Dev.eraseStart d).Sound := by
  unfold Dev.eraseStart
  try dsimp only
  repeat' (first | assumption | ((simp only [Dev.sound_mk]); (refine Dev.Sound.parts ?_)) | (fail_if_no_progress split))

theorem Dev.lbuCtlWrite_sound (d : Dev) (a1) (h : d.Sound) : (Dev.lbuCtlWrite d a1).Sound := by
  unfold Dev.lbuCtlWrite
  try dsimp only
  repeat' (first | assumption | (with_reducible apply Dev.wr_sound) | (with_reducible apply Dev.reject_sound) | (with_reducible apply Dev.onLbu_sound) | (fail_if_no_progress split))

theorem Dev.pathCfgWrite_sound (d : Dev) (a1) (h : d.Sound) : (Dev.pathCfgWrite d a1).Sound := by
  unfold Dev.pathCfgWrite
  try dsimp only
  repeat' (first | assumption | (with_reducible apply Dev.wr_sound) | (with_reducible apply Dev.emitLines_sound))

theorem Dev.tasCtlWrite_sound (d : Dev) (a1) (a2) (a3) (h : d.Sound) : (Dev.tasCtlWrite d a1 a2 a3).Sound := by
  unfold Dev.tasCtlWrite
  try dsimp only
  repeat' (first | assumption | (with_reducible apply Dev.wr_sound) | (with_reducible apply Dev.onMac_sound) | (fail_if_no_progress split))

theorem Dev.canCtlWrite_sound (d : Dev) (a1) (a2) (a3) (h : d.Sound) : (Dev.canCtlWrite d a1 a2 a3).Sound := by
  unfold Dev.canCtlWrite
  try dsimp only
  repeat' (first | assumption | (with_reducible apply Dev.wr_sound) | (with_reducible apply Dev.onCan_sound) | (fail_if_no_progress split))

theorem Dev.rwsPost_sound (d : Dev) (a1) (a2) (a3) (h : d.Sound) : (Dev.rwsPost d a1 a2 a3).Sound := by
  unfold Dev.rwsPost
  try dsimp only
  repeat' (first | assumption | (with_reducible apply Dev.bump_sound) | ((simp only [Dev.sound_mk]); (refine Dev.Sound.parts ?_)) | (fail_if_no_progress split))

theorem Dev.ringCfgWrite_sound (d : Dev) (a1) (a2) (a3) (h : d.Sound) : (Dev.ringCfgWrite d a1 a2 a3).Sound := by
  unfold Dev.ringCfgWrite
  try dsimp only
  repeat' (first | assumption | (with_reducible apply Dev.onFrm_sound) | (with_reducible apply Dev.wr_sound) | (fail_if_no_progress split))

theorem Dev.lirqCfgWrite_sound (d : Dev) (a1) (a2) (a3) (h : d.Sound) : (Dev.lirqCfgWrite d a1 a2 a3).Sound := by
  unfold Dev.lirqCfgWrite
  try dsimp only
  repeat' (first | assumption | (with_reducible apply Dev.wr_sound) | ((simp only [Dev.sound_mk]); (refine Dev.Sound.parts ?_)) | (fail_if_no_progress split))

theorem Dev.pglCtlWrite_sound (d : Dev) (a1) (h : d.Sound) : (Dev.pglCtlWrite d a1).Sound := by
  unfold Dev.pglCtlWrite
  try dsimp only
  repeat' (first | assumption | (with_reducible apply Dev.wr_sound) | (with_reducible apply Dev.reject_sound) | (fail_if_no_progress split))

theorem Dev.spareCommit_sound (d : Dev) (a1) (h : d.Sound) : (Dev.spareCommit d a1).Sound := by
  unfold Dev.spareCommit
  try dsimp only
  repeat' (first | assumption | (with_reducible apply Dev.swapUnit_sound) | (with_reducible apply Dev.wr_sound) | (with_reducible apply Dev.reject_sound) | (fail_if_no_progress split))

theorem Dev.wideLow_sound (d : Dev) (a1) (a2) (a3) (h : d.Sound) : (Dev.wideLow d a1 a2 a3).Sound := by
  unfold Dev.wideLow
  try dsimp only
  repeat' (first | assumption | (with_reducible apply Dev.reject_sound) | ((simp only [Dev.sound_mk]); (refine Dev.Sound.parts ?_)) | (fail_if_no_progress split))

theorem Dev.wideFull_sound (d : Dev) (a1) (a2) (a3) (a4) (h : d.Sound) : (Dev.wideFull d a1 a2 a3 a4).Sound := by
  unfold Dev.wideFull
  try dsimp only
  repeat' (first | assumption | (with_reducible apply Dev.wideWrite_sound) | ((simp only [Dev.sound_mk]); (refine Dev.Sound.parts ?_)))

theorem Dev.eccFail_sound (d : Dev) (a1) (a2) (a3) (h : d.Sound) : (Dev.eccFail d a1 a2 a3).Sound := by
  unfold Dev.eccFail
  try dsimp only
  repeat' (first | assumption | (with_reducible apply Dev.failReq_sound))

theorem Dev.replayNote_sound (d : Dev) (a1) (a2) (h : d.Sound) : (Dev.replayNote d a1 a2).Sound := by
  unfold Dev.replayNote
  try dsimp only
  repeat' (first | assumption | (with_reducible apply Dev.log_sound) | (with_reducible apply Dev.bump_sound) | (with_reducible apply Dev.onTwin_sound) | (fail_if_no_progress split))

theorem Dev.recvMem_sound (d : Dev) (a1) (a2) (h : d.Sound) : (Dev.recvMem d a1 a2).Sound := by
  unfold Dev.recvMem
  try dsimp only
  repeat' (first | assumption | (with_reducible apply Dev.wr_sound) | (with_reducible apply Dev.onTrl_sound) | (with_reducible apply Dev.setBytes_sound) | (with_reducible refine foldl_sound _ (fun _ _ _ => ?_) _ ?_) | (fail_if_no_progress split))

theorem Dev.bulkRegs_sound (d : Dev) (a1) (a2) (h : d.Sound) : (Dev.bulkRegs d a1 a2).Sound := by
  unfold Dev.bulkRegs
  try dsimp only
  repeat' (first | assumption | (with_reducible apply Dev.sendRec_sound) | (with_reducible refine foldl_sound _ (fun _ _ _ => ?_) _ ?_))

theorem Dev.bulkMem_sound (d : Dev) (a1) (a2) (h : d.Sound) : (Dev.bulkMem d a1 a2).Sound := by
  unfold Dev.bulkMem
  try dsimp only
  repeat' (first | assumption | (with_reducible apply Dev.sendRec_sound) | (with_reducible refine foldl_sound _ (fun _ _ _ => ?_) _ ?_))

theorem Dev.calibrate_sound (d : Dev) (h : d.Sound) : (Dev.calibrate d).Sound := by
  unfold Dev.calibrate
  try dsimp only
  repeat' (first | assumption | (with_reducible apply Dev.bump_sound) | (with_reducible apply Dev.setFld_sound) | (with_reducible apply Dev.calApply_sound) | (with_reducible refine foldl_sound _ (fun _ _ _ => ?_) _ ?_) | (fail_if_no_progress split))

theorem Dev.startRecovery_sound (d : Dev) (h : d.Sound) : (Dev.startRecovery d).Sound := by
  unfold Dev.startRecovery
  try dsimp only
  repeat' (first | assumption | (with_reducible apply Dev.setFld_sound) | (with_reducible apply Dev.onHp_sound) | (with_reducible apply Dev.calibrate_sound) | (with_reducible apply Dev.onLdg_sound) | (with_reducible apply Dev.onTwin_sound) | (with_reducible apply Dev.emit_sound) | (with_reducible apply Dev.defaults_sound) | rfl)

theorem Dev.loadKeys_sound (d : Dev) (a1) (h : d.Sound) : (Dev.loadKeys d a1).Sound := by
  unfold Dev.loadKeys
  try dsimp only
  repeat' (first | assumption | (with_reducible apply Dev.bump_sound) | (with_reducible apply Dev.loadBlob_sound) | (with_reducible refine foldl_sound _ (fun _ _ _ => ?_) _ ?_) | (fail_if_no_progress split))

theorem Dev.restoreRemaps_sound (d : Dev) (h : d.Sound) : (Dev.restoreRemaps d).Sound := by
  unfold Dev.restoreRemaps
  try dsimp only
  repeat' (first | assumption | (with_reducible apply Dev.recordSpare_sound) | (with_reducible apply Dev.retireRow_sound) | (with_reducible apply Dev.onDep_sound) | (with_reducible refine foldl_sound _ (fun _ _ _ => ?_) _ ?_) | (fail_if_no_progress split) | rfl)

theorem Dev.scrub_sound (d : Dev) (a1) (a2) (a3) (h : d.Sound) : (Dev.scrub d a1 a2 a3).Sound := by
  unfold Dev.scrub
  try dsimp only
  repeat' (first | assumption | (with_reducible apply Dev.log_sound) | (with_reducible apply Dev.rsvStore_sound) | (with_reducible apply Dev.eccCorrected_sound) | (with_reducible apply Dev.eccUncorr_sound) | (with_reducible apply Dev.onDep_sound) | (with_reducible apply Dev.markBad_sound) | (fail_if_no_progress split) | rfl)

theorem Dev.parityFail_sound (d : Dev) (a1) (a2) (a3) (h : d.Sound) : (Dev.parityFail d a1 a2 a3).Sound := by
  unfold Dev.parityFail
  try dsimp only
  repeat' (first | assumption | (with_reducible apply Dev.log_sound) | (with_reducible apply Dev.wr_sound) | ((simp only [Dev.sound_mk]); (refine Dev.Sound.parts ?_)) | (fail_if_no_progress split))

theorem Dev.eraseEnd_sound (d : Dev) (h : d.Sound) : (Dev.eraseEnd d).Sound := by
  unfold Dev.eraseEnd
  try dsimp only
  repeat' (first | assumption | (with_reducible apply Dev.flashErase_sound) | (with_reducible apply Dev.onLdg_sound) | (fail_if_no_progress split) | rfl)

theorem Dev.sleepCommit_sound (d : Dev) (a1) (a2) (h : d.Sound) : (Dev.sleepCommit d a1 a2).Sound := by
  unfold Dev.sleepCommit
  try dsimp only
  repeat' (first | assumption | (with_reducible apply Dev.wktEnter_sound) | (with_reducible apply Dev.permFail_sound) | (fail_if_no_progress split))

theorem Dev.kioskTab_sound (d : Dev) (a1) (h : d.Sound) : (Dev.kioskTab d a1).Sound := by
  unfold Dev.kioskTab
  try dsimp only
  repeat' (first | assumption | (with_reducible apply Dev.wr_sound) | (with_reducible apply Dev.say_sound) | (with_reducible apply Dev.trlFind_sound) | (with_reducible apply Dev.trlCmdWrite_sound) | (with_reducible refine foldl_sound _ (fun _ _ _ => ?_) _ ?_) | (fail_if_no_progress split))

theorem Dev.kioskResponse_sound (d : Dev) (a1) (h : d.Sound) : (Dev.kioskResponse d a1).Sound := by
  unfold Dev.kioskResponse
  try dsimp only
  repeat' (first | assumption | (with_reducible apply Dev.bump_sound) | (with_reducible apply Dev.say_sound) | (with_reducible apply Dev.setFld_sound) | (with_reducible apply Dev.onLdg_sound) | (fail_if_no_progress split) | rfl)

theorem elim_sound {α : Type} (o : Option α) {a : Dev} {f : α → Dev} (h : a.Sound) (hf : ∀ x, (f x).Sound) : (o.elim a f).Sound := by
  cases o with
  | none => exact h
  | some x => exact hf x

theorem gzbSettle_sound (d : Dev) (h : d.Sound) : (gzbSettle d).Sound := by
  unfold gzbSettle
  try dsimp only
  repeat' (first | (with_reducible assumption) | (with_reducible apply Dev.gzbFailed_sound) | (with_reducible apply Dev.onFab_sound) | (with_reducible apply Dev.gzbWatch_sound) | (with_reducible refine foldl_sound _ (fun _ _ _ => ?_) _ ?_) | (fail_if_no_progress split))

theorem settle_sound (a0) (d : Dev) (h : d.Sound) : (settle a0 d).Sound := by
  unfold settle
  try dsimp only
  repeat' (first | (with_reducible assumption) | (with_reducible apply faultSettle_sound) | (with_reducible apply intSettle_sound) | (with_reducible apply gzbSettle_sound) | (with_reducible apply mirrorSettle_sound) | (with_reducible apply twinSettle_sound))

theorem Dev.zoneNext_sound (d : Dev) (a1) (h : d.Sound) : (Dev.zoneNext d a1).Sound := by
  unfold Dev.zoneNext
  try dsimp only
  repeat' (first | (with_reducible assumption) | (with_reducible apply Dev.finish_sound) | (with_reducible apply Dev.driveCycle_sound) | (with_reducible apply Dev.zoneFail_sound) | (with_reducible apply Dev.zoneLeave_sound) | (with_reducible apply Dev.lockedReads_sound) | (with_reducible apply Dev.onLbu_sound) | (with_reducible apply Dev.zoneFinish_sound) | (with_reducible apply Dev.driveBeat_sound) | (with_reducible apply Dev.zoneStored_sound) | (with_reducible refine elim_sound _ ?_ (fun _ => ?_)) | (fail_if_no_progress split))

theorem Dev.terminate_sound (d : Dev) (a1) (a2) (a3) (a4) (h : d.Sound) : (Dev.terminate d a1 a2 a3 a4).Sound := by
  unfold Dev.terminate
  try dsimp only
  repeat' (first | (with_reducible assumption) | (with_reducible apply Dev.zoneNext_sound) | (with_reducible apply Dev.bump_sound) | (with_reducible apply Dev.driveCycle_sound) | (with_reducible apply Dev.zoneFail_sound) | (with_reducible apply Dev.onLbu_sound) | (fail_if_no_progress split))

theorem Dev.timeEdge_sound (d : Dev) (h : d.Sound) : (Dev.timeEdge d).Sound := by
  unfold Dev.timeEdge
  try dsimp only
  repeat' (first | (with_reducible assumption) | (with_reducible apply Dev.advance_sound) | (with_reducible apply Dev.aonEdge_sound) | (with_reducible apply Dev.checkSources_sound) | (fail_if_no_progress split))

theorem Dev.gzbClear_sound (d : Dev) (h : d.Sound) : (Dev.gzbClear d).Sound := by
  unfold Dev.gzbClear
  try dsimp only
  repeat' (first | (with_reducible assumption) | (with_reducible apply Dev.rsvException_sound) | (with_reducible apply Dev.onGzb_sound) | (with_reducible refine foldl_sound _ (fun _ _ _ => ?_) _ ?_))

theorem Dev.putEnt_sound (d : Dev) (a1) (a2) (h : d.Sound) : (Dev.putEnt d a1 a2).Sound := by
  unfold Dev.putEnt
  try dsimp only
  repeat' (first | (with_reducible assumption) | (with_reducible apply Dev.setNum_sound) | (with_reducible apply Dev.sendRec_sound) | (with_reducible apply Dev.freshWords_sound) | (with_reducible apply Dev.rsvStore_sound))

theorem Dev.pipeWrite_sound (d : Dev) (a1) (a2) (h : d.Sound) : (Dev.pipeWrite d a1 a2).Sound := by
  unfold Dev.pipeWrite
  try dsimp only
  repeat' (first | (with_reducible assumption) | (with_reducible apply Dev.putEnt_sound))

theorem Dev.hitMark_sound (d : Dev) (a1) (h : d.Sound) : (Dev.hitMark d a1).Sound := by
  unfold Dev.hitMark
  try dsimp only
  repeat' (first | (with_reducible assumption) | (with_reducible apply Dev.pipeWrite_sound) | (fail_if_no_progress split))

theorem Dev.removeEnt_sound (d : Dev) (a1) (h : d.Sound) : (Dev.removeEnt d a1).Sound := by
  unfold Dev.removeEnt
  try dsimp only
  repeat' (first | (with_reducible assumption) | (with_reducible apply Dev.pipeWrite_sound) | (fail_if_no_progress split))

theorem Dev.sweepEntry_sound (d : Dev) (a1) (h : d.Sound) : (Dev.sweepEntry d a1).Sound := by
  unfold Dev.sweepEntry
  try dsimp only
  repeat' (first | (with_reducible assumption) | (with_reducible apply Dev.bump_sound) | (with_reducible apply Dev.pipeWrite_sound) | (with_reducible apply Dev.removeEnt_sound) | (fail_if_no_progress split))

theorem Dev.watchPut_sound (d : Dev) (a1) (h : d.Sound) : (Dev.watchPut d a1).Sound := by
  unfold Dev.watchPut
  try dsimp only
  repeat' (first | (with_reducible assumption) | (with_reducible apply Dev.setNum_sound) | (with_reducible apply Dev.bump_sound) | (with_reducible apply Dev.wr_sound) | (with_reducible apply Dev.freshWords_sound) | (with_reducible apply Dev.rsvStore_sound) | (fail_if_no_progress split))

theorem Dev.watch_sound (d : Dev) (a1) (a2) (a3) (a4) (a5) (a6) (a7) (h : d.Sound) : (Dev.watch d a1 a2 a3 a4 a5 a6 a7).Sound := by
  unfold Dev.watch
  try dsimp only
  repeat' (first | (with_reducible assumption) | (with_reducible apply Dev.watchPut_sound) | (with_reducible apply Dev.lookup_sound) | (fail_if_no_progress split))

theorem Dev.sweepVisit_sound (d : Dev) (h : d.Sound) : (Dev.sweepVisit d).Sound := by
  unfold Dev.sweepVisit
  try dsimp only
  repeat' (first | (with_reducible assumption) | (with_reducible apply Dev.onTrl_sound) | (with_reducible apply Dev.sweepEntry_sound) | (with_reducible refine foldl_sound _ (fun _ _ _ => ?_) _ ?_) | (fail_if_no_progress split))

theorem Dev.trlDelete_sound (d : Dev) (h : d.Sound) : (Dev.trlDelete d).Sound := by
  unfold Dev.trlDelete
  try dsimp only
  repeat' (first | (with_reducible assumption) | (with_reducible apply Dev.pipeWrite_sound) | (with_reducible apply Dev.trlCmdEnd_sound) | (with_reducible apply Dev.removeEnt_sound) | (fail_if_no_progress split))

theorem Dev.keyCommit_sound (d : Dev) (a1) (a2) (a3) (h : d.Sound) : (Dev.keyCommit d a1 a2 a3).Sound := by
  unfold Dev.keyCommit
  try dsimp only
  repeat' (first | (with_reducible assumption) | (with_reducible apply Dev.keyBusy_sound) | (with_reducible apply Dev.reject_sound) | (with_reducible apply Dev.installKey_sound) | (with_reducible apply Dev.setBlob_sound) | (with_reducible apply Dev.loadBlob_sound) | (with_reducible apply Dev.permFail_sound) | (fail_if_no_progress split))

theorem Dev.guardsAdmit_sound (d : Dev) (a1) (a2) (a3) (a4) (h : d.Sound) : (Dev.guardsAdmit d a1 a2 a3 a4).1.Sound := by
  unfold Dev.guardsAdmit
  try dsimp only
  repeat' (first | (with_reducible assumption) | (with_reducible apply Dev.guardPass_sound) | (fail_if_no_progress split))

theorem Dev.setImage_sound (d : Dev) (a1) (a2) (h : d.Sound) : (Dev.setImage d a1 a2).Sound := by
  unfold Dev.setImage
  try dsimp only
  repeat' (first | (with_reducible assumption) | (with_reducible apply Dev.setNum_sound) | (with_reducible apply Dev.freshWords_sound) | (with_reducible apply Dev.rsvStore_sound) | (fail_if_no_progress split))

theorem Dev.applySignal_sound (d : Dev) (a1) (a2) (h : d.Sound) : (Dev.applySignal d a1 a2).Sound := by
  unfold Dev.applySignal
  try dsimp only
  repeat' (first | (with_reducible assumption) | (with_reducible apply Dev.bump_sound) | (with_reducible apply Dev.setPdu_sound) | (with_reducible apply Dev.setImage_sound) | (fail_if_no_progress split))

theorem Dev.applySignals_sound (d : Dev) (a1) (h : d.Sound) : (Dev.applySignals d a1).Sound := by
  unfold Dev.applySignals
  try dsimp only
  repeat' (first | (with_reducible assumption) | (with_reducible apply Dev.applySignal_sound) | (with_reducible refine foldl_sound _ (fun _ _ _ => ?_) _ ?_))

theorem Dev.tryKey_sound (d : Dev) (a1) (a2) (h : d.Sound) : (Dev.tryKey d a1 a2).Sound := by
  unfold Dev.tryKey
  try dsimp only
  repeat' (first | (with_reducible assumption) | (with_reducible apply Dev.onFrm_sound) | (with_reducible apply Dev.hitMark_sound) | (with_reducible apply Dev.bump_sound) | (with_reducible apply Dev.keyMiss_sound) | (with_reducible apply Dev.lookup_sound) | (with_reducible apply Dev.keyGiveUp_sound) | (with_reducible apply Dev.keyHit_sound) | (fail_if_no_progress split))

theorem Dev.trlLookup_sound (d : Dev) (h : d.Sound) : (Dev.trlLookup d).Sound := by
  unfold Dev.trlLookup
  try dsimp only
  repeat' (first | (with_reducible assumption) | (with_reducible apply Dev.onFrm_sound) | (with_reducible apply Dev.tryKey_sound) | (fail_if_no_progress split))

theorem Dev.canRx_sound (d : Dev) (a1) (a2) (a3) (h : d.Sound) : (Dev.canRx d a1 a2 a3).Sound := by
  unfold Dev.canRx
  try dsimp only
  repeat' (first | (with_reducible assumption) | (with_reducible apply Dev.bump_sound) | (with_reducible apply Dev.errDown_sound) | (with_reducible apply Dev.enterFrame_sound) | (with_reducible apply Dev.guardsAdmit_sound) | (fail_if_no_progress split))

theorem Dev.pduSend_sound (d : Dev) (a1) (h : d.Sound) : (Dev.pduSend d a1).Sound := by
  unfold Dev.pduSend
  try dsimp only
  repeat' (first | (with_reducible assumption) | (with_reducible apply Dev.onFrm_sound) | (with_reducible apply Dev.setPdu_sound) | (with_reducible apply Dev.pduOut_sound) | (with_reducible apply Dev.setImage_sound) | (fail_if_no_progress split))

theorem Dev.parkRetry_sound (d : Dev) (a1) (h : d.Sound) : (Dev.parkRetry d a1).Sound := by
  unfold Dev.parkRetry
  try dsimp only
  repeat' (first | (with_reducible assumption) | (with_reducible apply Dev.onFrm_sound) | (with_reducible apply Dev.tryKey_sound) | (fail_if_no_progress split))

theorem Dev.pduDue_sound (d : Dev) (a1) (h : d.Sound) : (Dev.pduDue d a1).Sound := by
  unfold Dev.pduDue
  try dsimp only
  repeat' (first | (with_reducible assumption) | (with_reducible apply Dev.setPdu_sound) | (with_reducible apply Dev.pduSend_sound) | (fail_if_no_progress split))

theorem Dev.gzbReset_sound (d : Dev) (h : d.Sound) : (Dev.gzbReset d).Sound := by
  unfold Dev.gzbReset
  try dsimp only
  repeat' (first | (with_reducible assumption) | (with_reducible apply Dev.gzbClear_sound) | (with_reducible apply Dev.regsReset_sound))

theorem Dev.gthMemWrite_sound (d : Dev) (a1) (a2) (h : d.Sound) : (Dev.gthMemWrite d a1 a2).Sound := by
  unfold Dev.gthMemWrite
  try dsimp only
  repeat' (first | (with_reducible assumption) | (with_reducible apply Dev.wr_sound) | (with_reducible apply Dev.reject_sound) | (with_reducible apply Dev.guardFill_sound) | (with_reducible apply Dev.meterFill_sound) | (fail_if_no_progress split))

theorem Dev.memWrite_sound (d : Dev) (a1) (a2) (a3) (a4) (h : d.Sound) : (Dev.memWrite d a1 a2 a3 a4).Sound := by
  unfold Dev.memWrite
  try dsimp only
  repeat' (first | (with_reducible assumption) | (with_reducible apply Dev.sendMem_sound) | (with_reducible apply Dev.bump_sound) | (with_reducible apply Dev.wr_sound) | (with_reducible apply Dev.reject_sound) | (with_reducible apply Dev.slotWrite_sound) | (with_reducible apply Dev.gthMemWrite_sound) | ((simp only [Dev.sound_mk]); (refine Dev.Sound.parts ?_)) | (fail_if_no_progress split))

theorem Dev.memPerform_sound (d : Dev) (a1) (h : d.Sound) : (Dev.memPerform d a1).Sound := by
  unfold Dev.memPerform
  try dsimp only
  repeat' (first | (with_reducible assumption) | (with_reducible apply Dev.setRsv_sound) | (with_reducible apply Dev.finish_sound) | (with_reducible apply Dev.condCheck_sound) | (with_reducible apply Dev.memStore_sound) | (with_reducible apply Dev.rsvStore_sound) | (with_reducible apply Dev.updReq_sound) | (with_reducible apply Dev.prefWrite_sound) | (with_reducible apply Dev.eccFail_sound) | (fail_if_no_progress split))

theorem Dev.sendRoles_sound (d : Dev) (a1) (h : d.Sound) : (Dev.sendRoles d a1).Sound := by
  unfold Dev.sendRoles
  try dsimp only
  repeat' (first | (with_reducible assumption) | (with_reducible apply Dev.emit_sound) | (with_reducible refine foldl_sound _ (fun _ _ _ => ?_) _ ?_) | (fail_if_no_progress split))

theorem Dev.enterActive_sound (d : Dev) (h : d.Sound) : (Dev.enterActive d).Sound := by
  unfold Dev.enterActive
  try dsimp only
  repeat' (first | (with_reducible assumption) | (with_reducible apply Dev.onTwin_sound) | (with_reducible apply Dev.onLbu_sound) | (with_reducible apply Dev.sendRoles_sound))

theorem Dev.waitOver_sound (d : Dev) (a1) (h : d.Sound) : (Dev.waitOver d a1).Sound := by
  unfold Dev.waitOver
  try dsimp only
  repeat' (first | (with_reducible assumption) | (with_reducible apply Dev.enterSyncing_sound) | (with_reducible apply Dev.onTwin_sound) | (with_reducible apply Dev.enterActive_sound) | (fail_if_no_progress split))

theorem Dev.twinDecide_sound (d : Dev) (h : d.Sound) : (Dev.twinDecide d).Sound := by
  unfold Dev.twinDecide
  try dsimp only
  repeat' (first | (with_reducible assumption) | (with_reducible apply Dev.enterSyncing_sound) | (with_reducible apply Dev.onTwin_sound) | (with_reducible apply Dev.enterActive_sound) | (fail_if_no_progress split))

theorem Dev.bulkCopy_sound (d : Dev) (h : d.Sound) : (Dev.bulkCopy d).Sound := by
  unfold Dev.bulkCopy
  try dsimp only
  repeat' (first | (with_reducible assumption) | (with_reducible apply Dev.sendRec_sound) | (with_reducible apply Dev.bulkRegs_sound) | (with_reducible apply Dev.bulkMem_sound) | (with_reducible refine foldl_sound _ (fun _ _ _ => ?_) _ ?_) | (fail_if_no_progress split))

theorem Dev.startEnd_sound (d : Dev) (a1) (h : d.Sound) : (Dev.startEnd d a1).Sound := by
  unfold Dev.startEnd
  try dsimp only
  repeat' (first | (with_reducible assumption) | (with_reducible apply Dev.twinDecide_sound) | (with_reducible apply Dev.setFld_sound) | (with_reducible apply Dev.onHp_sound) | (with_reducible apply Dev.onTwin_sound) | (with_reducible apply Dev.emit_sound))

theorem Dev.mbxSlotState_sound (d : Dev) (a1) (a2) (h : d.Sound) : (Dev.mbxSlotState d a1 a2).1.Sound := by
  unfold Dev.mbxSlotState
  try dsimp only
  repeat' (first | (with_reducible assumption) | (with_reducible apply Dev.flashErase_sound) | (with_reducible apply Dev.flashPut_sound) | (with_reducible apply Dev.flashLost_sound) | (fail_if_no_progress split))

theorem Dev.channelsOff_sound (d : Dev) (h : d.Sound) : (Dev.channelsOff d).Sound := by
  unfold Dev.channelsOff
  try dsimp only
  repeat' (first | (with_reducible assumption) | (with_reducible apply Dev.setFld_sound) | (with_reducible apply Dev.canCtlWrite_sound) | (with_reducible refine foldl_sound _ (fun _ _ _ => ?_) _ ?_))

theorem Dev.mbxCalWrite_sound (d : Dev) (a1) (a2) (a3) (h : d.Sound) : (Dev.mbxCalWrite d a1 a2 a3).1.Sound := by
  unfold Dev.mbxCalWrite
  try dsimp only
  repeat' (first | (with_reducible assumption) | (with_reducible apply Dev.flashErase_sound) | (with_reducible apply Dev.flashPut_sound) | (with_reducible apply Dev.flashLost_sound) | (fail_if_no_progress split))

theorem ite_sound {c : Prop} [Decidable c] {a b : Dev} (h : a.Sound) (hb : b.Sound) : (if c then a else b).Sound := by
  split <;> assumption

theorem Dev.reqDeliver_sound (d : Dev) (n : Nat) (h : d.Sound) :
    (match d.req? n with | some r => d.deliver r | none => d).Sound := by
  repeat' (first | (with_reducible assumption) | (with_reducible apply Dev.deliver_sound) | (fail_if_no_progress split))

theorem Dev.acceptRouted_sound (d : Dev) (r : Req) (t : Target) (h : d.Sound) : (d.acceptRouted r t).Sound := by
  unfold Dev.acceptRouted
  extract_lets r' d1 s1 s2 d2 d3 d4 known d5 flush st d6
  have h1 : d1.Sound := by
    unfold d1
    repeat' (first | (with_reducible assumption) | (with_reducible apply Dev.bump_sound) | (fail_if_no_progress split))
  have k1 : s1.Sound := by
    unfold s1
    repeat' (first | (with_reducible assumption) | (with_reducible apply Dev.emitLines_sound) | (with_reducible apply Dev.wbarsFor_sound) | (fail_if_no_progress split))
  have k2 : s2.Sound := by
    unfold s2
    repeat' (first | (with_reducible assumption) | (with_reducible apply Dev.emitLines_sound) | (fail_if_no_progress split))
  have h2 : d2.Sound := by
    unfold d2
    repeat' (first | (with_reducible assumption) | (with_reducible apply Dev.emitLines_sound))
  have h3 : d3.Sound := by
    unfold d3
    repeat' (first | (with_reducible assumption) | (with_reducible apply Dev.onFab_sound))
  have h4 : d4.Sound := by
    unfold d4
    repeat' (first | (with_reducible assumption) | (with_reducible apply Dev.place_sound))
  have h5 : d5.Sound := by
    unfold d5
    repeat' (first | (with_reducible assumption) | (with_reducible apply Dev.place_sound) | (with_reducible apply Dev.prefServe_sound))
  have h6 : d6.Sound := by
    unfold d6
    repeat' (first | (with_reducible assumption) | (with_reducible apply Dev.place_sound))
  clear_value d1 s1 s2 d2 d3 d4 d5 d6 st known flush
  repeat' (first | (with_reducible assumption) | (exact Dev.reqDeliver_sound _ _ (Dev.place_sound _ _ h2)) | (with_reducible apply Dev.combine_sound) | (with_reducible apply Dev.place_sound) | (with_reducible apply Dev.deliver_sound) | (with_reducible apply Dev.wbarsForRead_sound) | (fail_if_no_progress split))

theorem Dev.accept_sound (d : Dev) (r : Req) (h : d.Sound) : (d.accept r).Sound := by
  unfold Dev.accept
  repeat' (first | (with_reducible assumption) | (with_reducible apply Dev.noteFail_sound) | (with_reducible apply Dev.log_sound) | (with_reducible apply Dev.failEarly_sound) | (with_reducible apply Dev.acceptRouted_sound) | (fail_if_no_progress split))

theorem Dev.issue_sound (d : Dev) (r : Req) (h : d.Sound) : (d.issue r).Sound := by
  unfold Dev.issue
  extract_lets r'
  clear_value r'
  repeat' (first | (with_reducible assumption) | (with_reducible apply Dev.onFab_sound) | (with_reducible apply Dev.accept_sound) | (fail_if_no_progress split))

theorem Dev.retryHeldFrom_sound (d : Dev) (s l : List Req) (h : d.Sound) : (d.retryHeldFrom s l).Sound := by
  induction l generalizing d s with
  | nil => exact h
  | cons r t ih =>
    unfold Dev.retryHeldFrom
    repeat' (first | (with_reducible assumption) | (with_reducible apply ih) | (with_reducible apply Dev.onFab_sound) | (with_reducible apply Dev.accept_sound) | (fail_if_no_progress split))

theorem Dev.actMsg_sound (d : Dev) (w : WaitMsg) (h : d.Sound) (d' : Dev) (hd : d.actMsg w = some d') : d'.Sound := by
  unfold Dev.actMsg at hd
  split at hd
  · split at hd
    · cases hd; repeat' (first | (with_reducible assumption) | (with_reducible apply Dev.wbarAnswer_sound) | (with_reducible apply Dev.onFab_sound))
    · cases hd; repeat' (first | (with_reducible assumption) | (with_reducible apply Dev.setRemote_sound))
  · split at hd
    · cases hd; repeat' (first | (with_reducible assumption) | (with_reducible apply Dev.wbarAnswer_sound) | (fail_if_no_progress split))
    · split at hd
      · rw [Option.map_eq_some_iff] at hd
        obtain ⟨e, _, rfl⟩ := hd
        repeat' (first | (with_reducible assumption) | (with_reducible apply Dev.emit_sound) | (with_reducible apply Dev.onFab_sound))
      · cases hd; repeat' (first | (with_reducible assumption) | (with_reducible apply Dev.sendMsg_sound))

theorem Dev.pumpMsgsFrom_sound (d : Dev) (s l : List WaitMsg) (h : d.Sound) : (d.pumpMsgsFrom s l).Sound := by
  induction l generalizing d s with
  | nil => exact Dev.onFab_sound _ _ h
  | cons r t ih =>
    unfold Dev.pumpMsgsFrom
    extract_lets
    split
    · exact ih _ _ h
    · split
      · rename_i he
        exact ih _ _ (Dev.actMsg_sound _ _ h _ he)
      · exact ih _ _ h

theorem Dev.descMarks_sound (d : Dev) (c i : Nat) (h : d.Sound) : (d.descMarks c i).Sound := by
  unfold Dev.descMarks
  split
  · exact h
  · split
    · exact h
    · extract_lets half d1 d2
      have h1 : d1.Sound := by
        unfold d1
        exact ite_sound (Dev.wbarsFor_sound _ _ (Dev.updDesc_sound _ _ _ _ h)) h
      have h2 : d2.Sound := Dev.updDesc_sound _ _ _ _ h1
      clear_value d1 d2
      split
      · split
        · split
          · exact Dev.takeBarrier_sound _ _ _ (Dev.updDesc_sound _ _ _ _ h2)
          · exact h2
        · split
          · exact Dev.wbarsFor_sound _ _ h2
          · exact h2
      · exact h1

theorem Dev.cuckooMove_sound (d : Dev) (t : Nat) (l : List (Nat × Nat)) (h : d.Sound) : (d.cuckooMove t l).Sound := by
  induction l with
  | nil => exact h
  | cons x l ih =>
    cases l with
    | nil => exact h
    | cons y r =>
      unfold Dev.cuckooMove
      repeat' (first | (with_reducible assumption) | (with_reducible apply Dev.putEnt_sound) | (with_reducible apply Dev.bump_sound))

theorem Dev.canChoose_sound (d : Dev) (c n : Nat) (h : d.Sound) : (d.canChoose c n).Sound := by
  induction n generalizing d with
  | zero => exact h
  | succ n ih =>
    unfold Dev.canChoose
    repeat' (first | (with_reducible assumption) | (with_reducible apply Dev.onCan_sound) | (with_reducible apply ih) | (with_reducible apply Dev.bump_sound) | (fail_if_no_progress split))

theorem Dev.ethStart_sound (d : Dev) (i n : Nat) (h : d.Sound) : (d.ethStart i n).Sound := by
  induction n generalizing d with
  | zero => exact h
  | succ n ih =>
    unfold Dev.ethStart
    split
    · exact h
    · extract_lets d1 t d2 d3
      have h1 : d1.Sound := Dev.onMac_sound _ _ _ h
      have h2 : d2.Sound := Dev.onMac_sound _ _ _ h1
      have h3 : d3.Sound := by
        unfold d3
        clear_value d2
        repeat' (first | (with_reducible assumption) | (with_reducible apply Dev.ptpStamp_sound) | (with_reducible apply Dev.bump_sound) | (fail_if_no_progress split))
      clear_value d1 d2 d3
      repeat' (first | (with_reducible assumption) | (with_reducible apply Dev.emit_sound) | (with_reducible apply ih) | (with_reducible apply Dev.bump_sound) | (fail_if_no_progress split))

theorem Dev.withPins_sound (r d : Dev) (h : r.Sound) : (r.withPins d).Sound :=
  ⟨h.regs, h.mem, h.flash, h.log, h.events, h.items, h.notes⟩

theorem Dev.notesDrop_sound (d : Dev) (h : d.Sound) : (d.onDep fun p => { p with notes := p.notes.drop 1 }).Sound :=
  ⟨h.regs, h.mem, h.flash, h.log, h.events, h.items, by have := h.notes; simp [Dev.onDep] at *; omega⟩

theorem Dev.actionWrite_sound (d : Dev) (w off : Nat) (v : Word) (h : d.Sound) : (d.actionWrite w off v).Sound := by
  unfold Dev.actionWrite
  extract_lets go
  repeat' (first | (with_reducible assumption) | (with_reducible apply Dev.takeBarrier_sound) | (with_reducible apply Dev.elPop_sound) | (with_reducible apply Dev.eoi_sound) | (with_reducible apply Dev.notesDrop_sound) | (with_reducible apply Dev.genAdvance_sound) | (with_reducible apply Dev.trlCmdWrite_sound) | (with_reducible apply Dev.rehashPop_sound) | (with_reducible apply Dev.failPop_sound) | (fail_if_no_progress split))

theorem Dev.recvRec_sound (d : Dev) (q : Nat) (f : Dev → Dev) (h : d.Sound) (hf : ∀ e, e.Sound → (f e).Sound) : (d.recvRec q f).Sound := by
  unfold Dev.recvRec
  repeat' (first | (with_reducible assumption) | (with_reducible apply Dev.enterUnsync_sound) | (with_reducible apply hf) | (with_reducible apply Dev.onTwin_sound) | (fail_if_no_progress split))

theorem Dev.chooseFirmware_sound (d : Dev) (x : Nat) (l : List Nat) (h : d.Sound) : (d.chooseFirmware x l).1.Sound := by
  induction l generalizing d with
  | nil => exact h
  | cons s t ih =>
    unfold Dev.chooseFirmware
    extract_lets c
    clear_value c
    repeat' (first | (with_reducible assumption) | (with_reducible apply ih) | (with_reducible apply Dev.slotReport_sound) | (fail_if_no_progress split))

theorem Dev.wakePlan_sound (d : Dev) (c : Nat) (h : d.Sound) : (d.wakePlan c).Sound := by
  unfold Dev.wakePlan
  exact Dev.bump_sound _ _ _ (Dev.onWkt_sound _ _ h h.events (by simpa using h.items))

theorem Dev.itemStart_sound (d : Dev) (h : d.Sound) : (d.itemStart).Sound := by
  unfold Dev.itemStart
  split
  · exact h
  · extract_lets cost d1 d2
    have h1 : d1.Sound := Dev.onWkt_sound _ _ h h.events h.items
    have h2 : d2.Sound := Dev.onItem_sound _ _ _ h1
    clear_value d1 d2
    repeat' (first | (with_reducible assumption) | (with_reducible apply Dev.emit_sound) | (with_reducible apply Dev.bump_sound) | (with_reducible apply Dev.onItem_sound) | (fail_if_no_progress split))

theorem Dev.genTag_sound (d : Dev) (k : Nat) (x : List Byte) (h : d.Sound) (r : Dev × List Byte) (hr : d.genTag k x = .ok r) : r.1.Sound := by
  unfold Dev.genTag at hr
  split at hr
  · cases hr
  · extract_lets t last c fv d1 at hr
    split at hr
    · cases hr
    · cases hr
      exact Dev.bump_sound _ _ _ (Dev.bump_sound _ _ _ (Dev.wr64_sound _ _ _ h))

theorem Dev.verifyTag_sound (d : Dev) (k : Nat) (x : List Byte) (n : Nat) (h : d.Sound) (r : Dev × List Byte) (hr : d.verifyTag k x n = .ok r) :
    r.1.Sound := by
  unfold Dev.verifyTag at hr
  extract_lets tb keys body tag cands at hr
  repeat' (first | (cases hr; done) | split at hr)
  cases hr
  exact Dev.bump_sound _ _ _ (Dev.bump_sound _ _ _ (Dev.wr64_sound _ _ _ h))

theorem Dev.authGenerate_sound (d : Dev) (k : Nat) (f : Frame) (h : d.Sound) : (d.authGenerate k f).1.Sound := by
  unfold Dev.authGenerate
  split
  · exact Dev.authFail_sound _ _ _ _ h
  · split
    · exact Dev.authFail_sound _ _ _ _ h
    · rename_i he
      exact Dev.genTag_sound _ _ _ h _ he

theorem Dev.authVerify_sound (d : Dev) (k : Nat) (f : Frame) (h : d.Sound) : (d.authVerify k f).1.Sound := by
  unfold Dev.authVerify
  split
  · exact Dev.authFail_sound _ _ _ _ h
  · rename_i he
    have h' := Dev.verifyTag_sound _ _ _ _ h _ he
    split
    · exact h'
    · exact h'
    · extract_lets q
      split
      · exact Dev.authFail_sound _ _ _ _ h'
      · split
        · exact Dev.authFail_sound _ _ _ _ h'
        · rename_i he2
          exact Dev.genTag_sound _ _ _ h' _ he2

theorem Dev.regsPut_sound (d : Dev) (r : Sparse 32) (cs : List (Nat × Nat)) (h : d.Sound) : True := trivial

theorem Dev.pumpMsgs_sound (d : Dev) (h : d.Sound) : (Dev.pumpMsgs d).Sound := by
  unfold Dev.pumpMsgs
  try dsimp only
  repeat' (first | (with_reducible assumption) | (with_reducible apply Dev.pumpMsgsFrom_sound))

theorem Dev.retryHeld_sound (d : Dev) (h : d.Sound) : (Dev.retryHeld d).Sound := by
  unfold Dev.retryHeld
  try dsimp only
  repeat' (first | (with_reducible assumption) | (with_reducible apply Dev.pumpPeers_sound) | (with_reducible apply Dev.pumpMsgs_sound) | (with_reducible apply Dev.retryHeldFrom_sound) | (with_reducible apply Dev.onFab_sound))

theorem Dev.writeDone_sound (d : Dev) (a1) (h : d.Sound) : (Dev.writeDone d a1).Sound := by
  unfold Dev.writeDone
  try dsimp only
  repeat' (first | (with_reducible assumption) | (with_reducible apply Dev.retryHeld_sound) | (with_reducible apply Dev.noteFail_sound) | (with_reducible apply Dev.dropReq_sound) | (fail_if_no_progress split))

theorem Dev.hostWrite_sound (d : Dev) (a1) (a2) (h : d.Sound) : (Dev.hostWrite d a1 a2).Sound := by
  unfold Dev.hostWrite
  try dsimp only
  repeat' (first | (with_reducible assumption) | (with_reducible apply Dev.log_sound) | (with_reducible apply Dev.bump_sound) | (with_reducible apply Dev.bar2Miss_sound) | (with_reducible apply Dev.bar4Access_sound) | (with_reducible apply Dev.issue_sound) | (with_reducible apply Dev.hostFail_sound) | (with_reducible apply Dev.prefWrite_sound) | (fail_if_no_progress split))

theorem Dev.hostReturn_sound (d : Dev) (a1) (h : d.Sound) : (Dev.hostReturn d a1).Sound := by
  unfold Dev.hostReturn
  try dsimp only
  repeat' (first | (with_reducible assumption) | (with_reducible apply Dev.hostAnswer_sound) | (with_reducible apply Dev.log_sound) | (with_reducible apply Dev.retryHeld_sound) | (with_reducible apply Dev.rsvRecord_sound) | (with_reducible apply Dev.dropReq_sound) | (with_reducible apply Dev.writeFail_sound) | (fail_if_no_progress split))

theorem Dev.hostAtomic_sound (d : Dev) (a1) (a2) (a3) (a4) (h : d.Sound) : (Dev.hostAtomic d a1 a2 a3 a4).Sound := by
  unfold Dev.hostAtomic
  try dsimp only
  repeat' (first | (with_reducible assumption) | (with_reducible apply Dev.hostAnswer_sound) | (with_reducible apply Dev.log_sound) | (with_reducible apply Dev.bump_sound) | (with_reducible apply Dev.bar2Miss_sound) | (with_reducible apply Dev.hostRefuse_sound) | (with_reducible apply Dev.errCpl_sound) | (with_reducible apply Dev.issue_sound) | (with_reducible apply Dev.hostFail_sound) | (with_reducible apply Dev.prefWrite_sound) | (fail_if_no_progress split))

theorem Dev.watchdog_sound (d : Dev) (a1) (h : d.Sound) : (Dev.watchdog d a1).Sound := by
  unfold Dev.watchdog
  try dsimp only
  repeat' (first | (with_reducible assumption) | (with_reducible apply Dev.hostAnswer_sound) | (with_reducible apply Dev.log_sound) | (with_reducible apply Dev.bump_sound) | (with_reducible apply Dev.retryHeld_sound) | (with_reducible apply Dev.rsvRecord_sound) | (with_reducible apply Dev.rsvException_sound) | (with_reducible apply Dev.updReq_sound) | (with_reducible apply Dev.writeFail_sound) | (fail_if_no_progress split))

theorem Dev.hostRead_sound (d : Dev) (a1) (a2) (h : d.Sound) : (Dev.hostRead d a1 a2).Sound := by
  unfold Dev.hostRead
  try dsimp only
  repeat' (first | (with_reducible assumption) | (with_reducible apply Dev.bump_sound) | (with_reducible apply Dev.bar2Miss_sound) | (with_reducible apply Dev.bar4Access_sound) | (with_reducible apply Dev.errCpl_sound) | (with_reducible apply Dev.issue_sound) | (with_reducible apply Dev.hostFail_sound) | (fail_if_no_progress split))

theorem Dev.barrierDone_sound (d : Dev) (a1) (h : d.Sound) : (Dev.barrierDone d a1).Sound := by
  unfold Dev.barrierDone
  try dsimp only
  repeat' (first | (with_reducible assumption) | (with_reducible apply Dev.retryHeld_sound) | (with_reducible apply Dev.setLwBar_sound) | (with_reducible apply Dev.setFld_sound) | (with_reducible apply Dev.rsvException_sound) | (with_reducible apply Dev.onFab_sound) | (with_reducible apply Dev.emit_sound) | (with_reducible apply Dev.gzbBarDone_sound) | ((simp only [Dev.sound_mk]); (refine Dev.Sound.parts ?_)) | (fail_if_no_progress split))

theorem Dev.semClaim_sound (d : Dev) (a1) (a2) (a3) (h : d.Sound) : (Dev.semClaim d a1 a2 a3).Sound := by
  unfold Dev.semClaim
  try dsimp only
  repeat' (first | (with_reducible assumption) | (with_reducible apply Dev.log_sound) | (with_reducible apply Dev.retryHeld_sound) | (with_reducible apply Dev.setFld_sound) | (with_reducible apply Dev.onFab_sound) | (fail_if_no_progress split))

theorem Dev.releaseLock_sound (d : Dev) (a1) (h : d.Sound) : (Dev.releaseLock d a1).Sound := by
  unfold Dev.releaseLock
  try dsimp only
  repeat' (first | (with_reducible assumption) | (with_reducible apply Dev.retryHeld_sound) | (with_reducible apply Dev.onFab_sound))

theorem Dev.breakLock_sound (d : Dev) (a1) (h : d.Sound) : (Dev.breakLock d a1).Sound := by
  unfold Dev.breakLock
  try dsimp only
  repeat' (first | (with_reducible assumption) | (with_reducible apply Dev.onLbu_sound) | (with_reducible apply Dev.releaseLock_sound))

theorem Dev.lockCheck_sound (d : Dev) (a1) (a2) (a3) (h : d.Sound) : (Dev.lockCheck d a1 a2 a3).1.Sound := by
  unfold Dev.lockCheck
  try dsimp only
  repeat' (first | (with_reducible assumption) | (with_reducible apply Dev.log_sound) | (with_reducible apply Dev.wr64_sound) | (with_reducible apply Dev.onLbu_sound) | (with_reducible apply Dev.onFab_sound) | (with_reducible apply Dev.breakLock_sound) | (fail_if_no_progress split))

theorem Dev.allocSlot_sound (d : Dev) (a1) (a2) (a3) (a4) (a5) (h : d.Sound) : (Dev.allocSlot d a1 a2 a3 a4 a5).Sound := by
  unfold Dev.allocSlot
  try dsimp only
  repeat' (first | (with_reducible assumption) | (with_reducible apply Dev.bump_sound) | (with_reducible apply Dev.answer_sound) | (with_reducible apply Dev.issue_sound) | (with_reducible apply Dev.onLbu_sound) | (with_reducible apply Dev.holdOn_sound) | (fail_if_no_progress split))

theorem Dev.slavePost_sound (d : Dev) (a1) (a2) (a3) (h : d.Sound) : (Dev.slavePost d a1 a2 a3).Sound := by
  unfold Dev.slavePost
  try dsimp only
  repeat' (first | (with_reducible assumption) | (with_reducible apply Dev.answer_sound) | (with_reducible apply Dev.markStale_sound) | (with_reducible apply Dev.issue_sound) | (with_reducible apply Dev.prefWrite_sound) | (with_reducible apply Dev.onLbu_sound) | (with_reducible apply Dev.emit_sound) | (fail_if_no_progress split))

theorem Dev.peerMessage_sound (d : Dev) (a1) (a2) (a3) (h : d.Sound) : (Dev.peerMessage d a1 a2 a3).Sound := by
  unfold Dev.peerMessage
  try dsimp only
  repeat' (first | (with_reducible assumption) | (with_reducible apply Dev.bump_sound) | (with_reducible apply Dev.wbarAnswer_sound) | (with_reducible apply Dev.protoErr_sound) | (with_reducible apply Dev.pumpMsgs_sound) | (with_reducible apply Dev.rxOn_sound) | (with_reducible apply Dev.onFab_sound) | (fail_if_no_progress split))

theorem Dev.peerComplete_sound (d : Dev) (a1) (a2) (h : d.Sound) : (Dev.peerComplete d a1 a2).Sound := by
  unfold Dev.peerComplete
  try dsimp only
  repeat' (first | (with_reducible assumption) | (with_reducible apply Dev.log_sound) | (with_reducible apply Dev.retryHeld_sound) | (with_reducible apply Dev.updReq_sound) | (with_reducible apply Dev.failReq_sound) | (with_reducible apply Dev.finishAt_sound) | (fail_if_no_progress split))

theorem Dev.linkDown_sound (d : Dev) (a1) (h : d.Sound) : (Dev.linkDown d a1).Sound := by
  unfold Dev.linkDown
  try dsimp only
  repeat' (first | (with_reducible assumption) | (with_reducible apply Dev.log_sound) | (with_reducible apply Dev.bump_sound) | (with_reducible apply Dev.endPeerReqs_sound) | (with_reducible apply Dev.retryHeld_sound) | (with_reducible apply Dev.twinLinkLost_sound) | (with_reducible apply Dev.wbarAnswer_sound) | (with_reducible apply Dev.wbarEnd_sound) | (with_reducible apply Dev.loseRsv_sound) | (with_reducible apply Dev.noteFail_sound) | (with_reducible apply Dev.dropReq_sound) | (with_reducible apply Dev.onLink_sound) | (with_reducible apply Dev.onFab_sound) | (with_reducible refine foldl_sound _ (fun _ _ _ => ?_) _ ?_) | ((simp only [Dev.sound_mk]); (refine Dev.Sound.parts ?_)) | (fail_if_no_progress split))

theorem Dev.linkRestart_sound (d : Dev) (a1) (h : d.Sound) : (Dev.linkRestart d a1).Sound := by
  unfold Dev.linkRestart
  try dsimp only
  repeat' (first | (with_reducible assumption) | (with_reducible apply Dev.onLink_sound) | (with_reducible apply Dev.linkDown_sound) | (fail_if_no_progress split))

theorem Dev.linkEnterUp_sound (d : Dev) (a1) (h : d.Sound) : (Dev.linkEnterUp d a1).Sound := by
  unfold Dev.linkEnterUp
  try dsimp only
  repeat' (first | (with_reducible assumption) | (with_reducible apply Dev.retryHeld_sound) | (with_reducible apply Dev.pumpWbars_sound) | (with_reducible apply Dev.onTwin_sound) | (with_reducible apply Dev.onLink_sound) | (with_reducible apply Dev.levelResend_sound) | (fail_if_no_progress split))

theorem Dev.hello_sound (d : Dev) (a1) (a2) (h : d.Sound) : (Dev.hello d a1 a2).Sound := by
  unfold Dev.hello
  try dsimp only
  repeat' (first | (with_reducible assumption) | (with_reducible apply Dev.linkEnterUp_sound) | (with_reducible apply Dev.onLink_sound) | (with_reducible apply Dev.linkDown_sound) | (fail_if_no_progress split))

theorem Dev.wbarDone_sound (d : Dev) (a1) (a2) (h : d.Sound) : (Dev.wbarDone d a1 a2).Sound := by
  unfold Dev.wbarDone
  try dsimp only
  repeat' (first | (with_reducible assumption) | (with_reducible apply Dev.retryHeld_sound) | (with_reducible apply Dev.wbarAnswer_sound) | (with_reducible apply Dev.wbarEnd_sound) | (with_reducible apply Dev.pumpWbars_sound) | (with_reducible apply Dev.onFab_sound) | (fail_if_no_progress split))

theorem Dev.peerRequest_sound (d : Dev) (a1) (a2) (a3) (a4) (h : d.Sound) : (Dev.peerRequest d a1 a2 a3 a4).Sound := by
  unfold Dev.peerRequest
  try dsimp only
  repeat' (first | (with_reducible assumption) | (with_reducible apply Dev.bump_sound) | (with_reducible apply Dev.protoErr_sound) | (with_reducible apply Dev.rxOn_sound) | (with_reducible apply Dev.issue_sound) | (with_reducible apply Dev.prefWrite_sound) | (with_reducible apply Dev.failEarly_sound) | (fail_if_no_progress split))

theorem Dev.timedComplete_sound (d : Dev) (h : d.Sound) : (Dev.timedComplete d).Sound := by
  unfold Dev.timedComplete
  try dsimp only
  repeat' (first | (with_reducible assumption) | (with_reducible apply Dev.retryHeld_sound) | (with_reducible apply Dev.recordEvent_sound) | (with_reducible apply Dev.dropReq_sound) | (fail_if_no_progress split))

theorem Dev.endGuard_sound (d : Dev) (a1) (h : d.Sound) : (Dev.endGuard d a1).Sound := by
  unfold Dev.endGuard
  try dsimp only
  repeat' (first | (with_reducible assumption) | (with_reducible apply Dev.onLbu_sound) | (fail_if_no_progress split))

theorem Dev.dropTimed_sound (d : Dev) (a1) (a2) (h : d.Sound) : (Dev.dropTimed d a1 a2).Sound := by
  unfold Dev.dropTimed
  try dsimp only
  repeat' (first | (with_reducible assumption) | (with_reducible apply Dev.recordEvent_sound) | (with_reducible apply Dev.endGuard_sound))

theorem Dev.startTimed_sound (d : Dev) (a1) (h : d.Sound) : (Dev.startTimed d a1).Sound := by
  unfold Dev.startTimed
  try dsimp only
  repeat' (first | (with_reducible assumption) | (with_reducible apply Dev.dropTimed_sound) | (with_reducible apply Dev.endGuard_sound) | (with_reducible apply Dev.issue_sound) | (with_reducible apply Dev.onBlv_sound) | (with_reducible apply Dev.recordEvent_sound) | (with_reducible apply Dev.onLbu_sound) | (with_reducible apply Dev.zoneStart_sound) | (fail_if_no_progress split))

theorem Dev.runTimed_sound (d : Dev) (a1) (h : d.Sound) : (Dev.runTimed d a1).Sound := by
  unfold Dev.runTimed
  try dsimp only
  repeat' (first | (with_reducible assumption) | (with_reducible apply Dev.dropTimed_sound) | (with_reducible apply Dev.endGuard_sound) | (with_reducible apply Dev.startTimed_sound) | (with_reducible apply Dev.recordEvent_sound) | (fail_if_no_progress split))

theorem Dev.gzbRead_sound (d : Dev) (a1) (a2) (a3) (a4) (a5) (a6) (a7) (a8) (a9) (h : d.Sound) : (Dev.gzbRead d a1 a2 a3 a4 a5 a6 a7 a8 a9).Sound := by
  unfold Dev.gzbRead
  try dsimp only
  repeat' (first | (with_reducible assumption) | (with_reducible apply Dev.issue_sound) | (with_reducible apply Dev.onGzb_sound))

theorem Dev.gzbFetch_sound (d : Dev) (a1) (h : d.Sound) : (Dev.gzbFetch d a1).Sound := by
  unfold Dev.gzbFetch
  try dsimp only
  repeat' (first | (with_reducible assumption) | (with_reducible apply Dev.gzbRead_sound) | (fail_if_no_progress split))

theorem Dev.gzbWrite_sound (d : Dev) (a1) (a2) (a3) (h : d.Sound) : (Dev.gzbWrite d a1 a2 a3).Sound := by
  unfold Dev.gzbWrite
  try dsimp only
  repeat' (first | (with_reducible assumption) | (with_reducible apply Dev.issue_sound))

theorem Dev.writeBack_sound (d : Dev) (a1) (a2) (h : d.Sound) : (Dev.writeBack d a1 a2).Sound := by
  unfold Dev.writeBack
  try dsimp only
  repeat' (first | (with_reducible assumption) | (with_reducible apply Dev.updDesc_sound) | (with_reducible apply Dev.gzbWrite_sound))

theorem Dev.insertIn_sound (d : Dev) (a1) (a2) (a3) (h : d.Sound) : (Dev.insertIn d a1 a2 a3).1.Sound := by
  unfold Dev.insertIn
  try dsimp only
  repeat' (first | (with_reducible assumption) | (with_reducible apply Dev.cuckooMove_sound) | (with_reducible apply Dev.tick_sound) | (with_reducible apply Dev.pipeWrite_sound) | (with_reducible apply Dev.insertFail_sound) | (with_reducible apply Dev.onTrl_sound) | (fail_if_no_progress split))

theorem Dev.insert_sound (d : Dev) (a1) (a2) (h : d.Sound) : (Dev.insert d a1 a2).1.Sound := by
  unfold Dev.insert
  try dsimp only
  repeat' (first | (with_reducible assumption) | (with_reducible apply Dev.insertIn_sound) | (fail_if_no_progress split))

theorem Dev.trlInsert_sound (d : Dev) (h : d.Sound) : (Dev.trlInsert d).Sound := by
  unfold Dev.trlInsert
  try dsimp only
  repeat' (first | (with_reducible assumption) | (with_reducible apply Dev.trlCmdEnd_sound) | (with_reducible apply Dev.insertIn_sound) | (with_reducible apply Dev.insert_sound) | (fail_if_no_progress split))

theorem Dev.learn_sound (d : Dev) (a1) (a2) (h : d.Sound) : (Dev.learn d a1 a2).Sound := by
  unfold Dev.learn
  try dsimp only
  repeat' (first | (with_reducible assumption) | (with_reducible apply Dev.hitMark_sound) | (with_reducible apply Dev.bump_sound) | (with_reducible apply Dev.lookup_sound) | (with_reducible apply Dev.pipeWrite_sound) | (with_reducible apply Dev.insert_sound) | (fail_if_no_progress split))

theorem Dev.capWrite_sound (d : Dev) (a1) (a2) (a3) (a4) (a5) (h : d.Sound) : (Dev.capWrite d a1 a2 a3 a4 a5).Sound := by
  unfold Dev.capWrite
  try dsimp only
  repeat' (first | (with_reducible assumption) | (with_reducible apply Dev.issue_sound))

theorem Dev.capWrites_sound (d : Dev) (a1) (a2) (a3) (a4) (a5) (a6) (h : d.Sound) : (Dev.capWrites d a1 a2 a3 a4 a5 a6).Sound := by
  unfold Dev.capWrites
  try dsimp only
  repeat' (first | (with_reducible assumption) | (with_reducible apply Dev.capWrite_sound) | (with_reducible refine foldl_sound _ (fun _ _ _ => ?_) _ ?_))

theorem Dev.capRecord_sound (d : Dev) (a1) (a2) (a3) (h : d.Sound) : (Dev.capRecord d a1 a2 a3).Sound := by
  unfold Dev.capRecord
  try dsimp only
  repeat' (first | (with_reducible assumption) | (with_reducible apply Dev.onFrm_sound) | (with_reducible apply Dev.bump_sound) | (with_reducible apply Dev.capWrites_sound) | (fail_if_no_progress split))

theorem Dev.logCopy_sound (d : Dev) (a1) (a2) (a3) (h : d.Sound) : (Dev.logCopy d a1 a2 a3).Sound := by
  unfold Dev.logCopy
  try dsimp only
  repeat' (first | (with_reducible assumption) | (with_reducible apply Dev.capRecord_sound) | (fail_if_no_progress split))

theorem Dev.finishStages_sound (d : Dev) (a1) (a2) (h : d.Sound) : (Dev.finishStages d a1 a2).Sound := by
  unfold Dev.finishStages
  try dsimp only
  repeat' (first | (with_reducible assumption) | (with_reducible apply Dev.applySignals_sound) | (with_reducible apply Dev.logCopy_sound) | (with_reducible apply Dev.meterOp_sound) | (with_reducible apply Dev.capRecord_sound) | (with_reducible apply Dev.forward_sound) | (with_reducible apply Dev.dropIn_sound) | (fail_if_no_progress split))

theorem Dev.applyAction_sound (d : Dev) (a1) (h : d.Sound) : (Dev.applyAction d a1).Sound := by
  unfold Dev.applyAction
  try dsimp only
  repeat' (first | (with_reducible assumption) | (with_reducible apply Dev.finishStages_sound) | (with_reducible apply Dev.bump_sound) | (with_reducible apply Dev.logCopy_sound) | (with_reducible apply Dev.updIn_sound) | (with_reducible apply Dev.dropIn_sound) | (fail_if_no_progress split))

theorem Dev.ethParse_sound (d : Dev) (a1) (a2) (h : d.Sound) : (Dev.ethParse d a1 a2).Sound := by
  unfold Dev.ethParse
  try dsimp only
  repeat' (first | (with_reducible assumption) | (with_reducible apply Dev.learn_sound) | (with_reducible apply Dev.enterFrame_sound) | (with_reducible apply Dev.avtpUnpack_sound) | (fail_if_no_progress split))

theorem Dev.secRx_sound (d : Dev) (a1) (h : d.Sound) : (Dev.secRx d a1).Sound := by
  unfold Dev.secRx
  try dsimp only
  repeat' (first | (with_reducible assumption) | (with_reducible apply Dev.onFrm_sound) | (with_reducible apply Dev.secValidate_sound) | (with_reducible apply Dev.ethParse_sound) | (fail_if_no_progress split))

theorem Dev.loseReq_sound (d : Dev) (a1) (h : d.Sound) : (Dev.loseReq d a1).Sound := by
  unfold Dev.loseReq
  try dsimp only
  repeat' (first | (with_reducible assumption) | (with_reducible apply Dev.writeDone_sound) | (with_reducible apply Dev.updReq_sound) | (fail_if_no_progress split))

theorem Dev.planeStop_sound (d : Dev) (a1) (a2) (a3) (h : d.Sound) : (Dev.planeStop d a1 a2 a3).Sound := by
  unfold Dev.planeStop
  try dsimp only
  repeat' (first | (with_reducible assumption) | (with_reducible apply Dev.onFrm_sound) | (with_reducible apply Dev.loseReq_sound) | (with_reducible refine foldl_sound _ (fun _ _ _ => ?_) _ ?_) | (fail_if_no_progress split))

theorem Dev.breakLogged_sound (d : Dev) (a1) (h : d.Sound) : (Dev.breakLogged d a1).Sound := by
  unfold Dev.breakLogged
  try dsimp only
  repeat' (first | (with_reducible assumption) | (with_reducible apply Dev.log_sound) | (with_reducible apply Dev.bump_sound) | (with_reducible apply Dev.breakLock_sound) | (fail_if_no_progress split))

theorem Dev.itmReset_sound (d : Dev) (h : d.Sound) : (Dev.itmReset d).Sound := by
  unfold Dev.itmReset
  try dsimp only
  repeat' (first | (with_reducible assumption) | (with_reducible apply Dev.regsReset_sound) | (with_reducible apply Dev.linkDown_sound) | (with_reducible refine foldl_sound _ (fun _ _ _ => ?_) _ ?_) | ((simp only [Dev.sound_mk]); (refine Dev.Sound.parts ?_)) | (fail_if_no_progress split))

theorem Dev.winReset_sound (d : Dev) (h : d.Sound) : (Dev.winReset d).Sound := by
  unfold Dev.winReset
  try dsimp only
  repeat' (first | (with_reducible assumption) | (with_reducible apply Dev.retryHeld_sound) | (with_reducible apply Dev.breakLogged_sound) | (with_reducible apply Dev.regsReset_sound) | (with_reducible apply Dev.loseRsv_sound) | (with_reducible apply Dev.windowOff_sound) | (with_reducible apply Dev.onFab_sound) | (with_reducible refine foldl_sound _ (fun _ _ _ => ?_) _ ?_) | (fail_if_no_progress split))

theorem Dev.linkCfgWrite_sound (d : Dev) (a1) (a2) (a3) (h : d.Sound) : (Dev.linkCfgWrite d a1 a2 a3).Sound := by
  unfold Dev.linkCfgWrite
  try dsimp only
  repeat' (first | (with_reducible assumption) | (with_reducible apply Dev.wr_sound) | (with_reducible apply Dev.reject_sound) | (with_reducible apply Dev.linkRestart_sound) | (fail_if_no_progress split))

theorem Dev.winWrite_sound (d : Dev) (a1) (a2) (a3) (a4) (a5) (h : d.Sound) : (Dev.winWrite d a1 a2 a3 a4 a5).Sound := by
  unfold Dev.winWrite
  try dsimp only
  repeat' (first | (with_reducible assumption) | (with_reducible apply Dev.retryHeld_sound) | (with_reducible apply Dev.wr_sound) | (with_reducible apply Dev.reject_sound) | (with_reducible apply Dev.windowOff_sound) | (fail_if_no_progress split))

theorem Dev.handoverEnd_sound (d : Dev) (h : d.Sound) : (Dev.handoverEnd d).Sound := by
  unfold Dev.handoverEnd
  try dsimp only
  repeat' (first | (with_reducible assumption) | (with_reducible apply Dev.retryHeld_sound) | (with_reducible apply Dev.leaveActive_sound) | (with_reducible apply Dev.enterSyncing_sound) | (with_reducible apply Dev.endQueued_sound) | (with_reducible apply Dev.onTwin_sound) | (with_reducible apply Dev.onLbu_sound))

theorem Dev.unprotect_sound (d : Dev) (h : d.Sound) : (Dev.unprotect d).Sound := by
  unfold Dev.unprotect
  try dsimp only
  repeat' (first | (with_reducible assumption) | (with_reducible apply Dev.retryHeld_sound) | (with_reducible apply Dev.onTwin_sound) | (with_reducible apply Dev.onFab_sound))

theorem Dev.replay_sound (d : Dev) (a1) (a2) (h : d.Sound) : (Dev.replay d a1 a2).Sound := by
  unfold Dev.replay
  try dsimp only
  repeat' (first | (with_reducible assumption) | (with_reducible apply Dev.replaySlot_sound) | (with_reducible apply Dev.accept_sound) | (with_reducible apply Dev.replayNote_sound) | (fail_if_no_progress split))

theorem Dev.takeover_sound (d : Dev) (h : d.Sound) : (Dev.takeover d).Sound := by
  unfold Dev.takeover
  try dsimp only
  repeat' (first | (with_reducible assumption) | (with_reducible apply Dev.bump_sound) | (with_reducible apply Dev.wr_sound) | (with_reducible apply Dev.gzbClear_sound) | (with_reducible apply Dev.loseRsv_sound) | (with_reducible apply Dev.replay_sound) | (with_reducible apply Dev.onTwin_sound) | (with_reducible apply Dev.onTrl_sound) | (with_reducible apply Dev.sendNote_sound) | (with_reducible apply Dev.onFab_sound) | (with_reducible apply Dev.enterActive_sound) | (with_reducible refine foldl_fst_sound _ (fun _ _ _ => ?_) _ ?_))

theorem Dev.localWrite_sound (d : Dev) (a1) (a2) (h : d.Sound) : (Dev.localWrite d a1 a2).Sound := by
  unfold Dev.localWrite
  try dsimp only
  repeat' (first | (with_reducible assumption) | (with_reducible apply Dev.log_sound) | (with_reducible apply Dev.memStore_sound) | (with_reducible apply Dev.issue_sound) | (with_reducible apply Dev.rsvStore_sound) | (fail_if_no_progress split))

theorem Dev.kioskWrite_sound (d : Dev) (a1) (a2) (h : d.Sound) : (Dev.kioskWrite d a1 a2).Sound := by
  unfold Dev.kioskWrite
  try dsimp only
  repeat' (first | (with_reducible assumption) | (with_reducible apply Dev.issue_sound))

theorem Dev.svcWrite_sound (d : Dev) (a1) (a2) (h : d.Sound) : (Dev.svcWrite d a1 a2).Sound := by
  unfold Dev.svcWrite
  try dsimp only
  repeat' (first | (with_reducible assumption) | (with_reducible apply Dev.memStore_sound) | (with_reducible apply Dev.issue_sound) | (with_reducible apply Dev.rsvStore_sound) | (with_reducible refine foldl_sound _ (fun _ _ _ => ?_) _ ?_) | (fail_if_no_progress split))

theorem Dev.kioskRead_sound (d : Dev) (a1) (a2) (h : d.Sound) : (Dev.kioskRead d a1 a2).Sound := by
  unfold Dev.kioskRead
  try dsimp only
  repeat' (first | (with_reducible assumption) | (with_reducible apply Dev.issue_sound) | (with_reducible refine foldl_sound _ (fun _ _ _ => ?_) _ ?_))

theorem Dev.mbxFlashRead_sound (d : Dev) (a1) (a2) (h : d.Sound) : (Dev.mbxFlashRead d a1 a2).1.Sound := by
  unfold Dev.mbxFlashRead
  try dsimp only
  repeat' (first | (with_reducible assumption) | (with_reducible apply Dev.svcWrite_sound) | (fail_if_no_progress split))

theorem Dev.lockCheck_ite_sound {c : Prop} [Decidable c] (d : Dev) (a : Dev × Option SlaveAns) (h : d.Sound) (ha : a.1.Sound) :
    (if c then a else (d, none)).1.Sound := by
  split <;> assumption

theorem Dev.lockEnd_sound (d : Dev) (a1) (h : d.Sound) : (Dev.lockEnd d a1).Sound := by
  unfold Dev.lockEnd
  try dsimp only
  repeat' (first | (with_reducible assumption) | (with_reducible apply Dev.onLbu_sound) | (with_reducible apply Dev.freeDr_sound) | (with_reducible apply Dev.releaseLock_sound) | (with_reducible refine foldl_sound _ (fun _ _ _ => ?_) _ ?_))

theorem Dev.lockLevel_sound (d : Dev) (a1) (h : d.Sound) : (Dev.lockLevel d a1).Sound := by
  unfold Dev.lockLevel
  try dsimp only
  repeat' (first | (with_reducible assumption) | (with_reducible apply Dev.lockEnd_sound) | (fail_if_no_progress split))

theorem Dev.beatErr_sound (d : Dev) (a1) (a2) (a3) (a4) (h : d.Sound) : (Dev.beatErr d a1 a2 a3 a4).Sound := by
  unfold Dev.beatErr
  try dsimp only
  repeat' (first | (with_reducible assumption) | (with_reducible apply Dev.log_sound) | (fail_if_no_progress split))

theorem Dev.collect_sound (d : Dev) (a1) (a2) (h : d.Sound) : (Dev.collect d a1 a2).Sound := by
  unfold Dev.collect
  try dsimp only
  repeat' (first | (with_reducible assumption) | (with_reducible apply Dev.serveSlot_sound) | (with_reducible apply Dev.holdOn_sound) | (fail_if_no_progress split))

theorem Dev.lwBarrier_sound (d : Dev) (a1) (a2) (a3) (h : d.Sound) : (Dev.lwBarrier d a1 a2 a3).Sound := by
  unfold Dev.lwBarrier
  try dsimp only
  repeat' (first | (with_reducible assumption) | (with_reducible apply Dev.answer_sound) | (with_reducible apply Dev.bump_sound) | (with_reducible apply Dev.takeBarrier_sound) | (with_reducible apply Dev.onLbu_sound) | (with_reducible apply Dev.holdOn_sound) | (fail_if_no_progress split))

theorem Dev.slaveGate_sound (d : Dev) (c : SlaveCycle) (w : Bool) (h : d.Sound) (r : Dev × SlaveAns) (hr : d.slaveGate c w = some r) :
    r.1.Sound := by
  unfold Dev.slaveGate at hr
  extract_lets k at hr
  repeat' (first | (cases hr; done) | (cases hr; first | exact h | exact Dev.beatErr_sound _ _ _ _ _ h | exact Dev.beatErr_sound _ _ _ _ _ (Dev.bump_sound _ _ _ h)) | split at hr)

theorem Dev.slaveBeat_sound (d : Dev) (c : SlaveCycle) (lw : Nat) (x : Word) (h : d.Sound) : (d.slaveBeat c lw x).Sound := by
  unfold Dev.slaveBeat
  extract_lets p r0 r view delayed odd k
  have h3 : k.1.Sound := Dev.lockCheck_ite_sound _ _ h (Dev.lockCheck_sound _ _ _ _ h)
  clear_value k odd delayed view r r0 p
  repeat' (first | (with_reducible assumption) | (with_reducible apply Dev.answer_sound) | (with_reducible apply Dev.slaveFail_sound) | (with_reducible apply Dev.allocSlot_sound) | (with_reducible apply Dev.log_sound) | (with_reducible apply Dev.bump_sound) | (with_reducible apply Dev.onLbu_sound) | (with_reducible apply Dev.markStale_sound) | (with_reducible apply Dev.slavePost_sound) | (with_reducible apply Dev.lwBarrier_sound) | (fail_if_no_progress split))

theorem Dev.slaveWrite_sound (d : Dev) (c : SlaveCycle) (x : Word) (h : d.Sound) : (d.slaveWrite c x).Sound := by
  unfold Dev.slaveWrite
  extract_lets d0 d1
  have h0 : d0.Sound := Dev.lockLevel_sound _ _ h
  have h1 : d1.Sound := Dev.onLbu_sound _ _ h0
  clear_value d0 d1
  split
  · exact h0
  split
  · rename_i he
    exact Dev.answer_sound _ _ (Dev.slaveGate_sound _ _ _ h0 _ he)
  repeat' (first | (with_reducible assumption) | (with_reducible apply Dev.answer_sound) | (with_reducible apply Dev.slaveFail_sound) | (with_reducible apply Dev.log_sound) | (with_reducible apply Dev.bump_sound) | (with_reducible apply Dev.onLbu_sound) | (with_reducible apply Dev.collect_sound) | (with_reducible apply Dev.slaveBeat_sound) | (fail_if_no_progress split))

theorem Dev.slaveFetch_sound (d : Dev) (c : SlaveCycle) (lw : Nat) (h : d.Sound) : (d.slaveFetch c lw).Sound := by
  unfold Dev.slaveFetch
  extract_lets flush gas lo hi base r0 r k
  clear_value r
  have h3 : k.1.Sound := Dev.lockCheck_ite_sound _ _ h (Dev.lockCheck_sound _ _ _ _ h)
  clear_value k
  repeat' (first | (with_reducible assumption) | (with_reducible apply Dev.answer_sound) | (with_reducible apply Dev.slaveFail_sound) | (with_reducible apply Dev.allocSlot_sound) | (fail_if_no_progress split))

theorem Dev.slaveRead_sound (d : Dev) (c : SlaveCycle) (h : d.Sound) : (d.slaveRead c).Sound := by
  unfold Dev.slaveRead
  extract_lets d0
  have h0 : d0.Sound := Dev.lockLevel_sound _ _ h
  clear_value d0
  split
  · exact h0
  split
  · rename_i he
    exact Dev.answer_sound _ _ (Dev.slaveGate_sound _ _ _ h0 _ he)
  split
  · exact Dev.slaveFail_sound _ _ _ _ _ _ _ h0
  split
  · exact Dev.collect_sound _ _ _ h0
  · extract_lets d1 out d2
    have h1 : d1.Sound := Dev.bump_sound _ _ _ h0
    have h2 : d2.Sound := by
      unfold d2
      clear_value d1 out
      repeat' (first | (with_reducible assumption) | (with_reducible apply Dev.log_sound) | (with_reducible apply Dev.bump_sound) | (fail_if_no_progress split))
    clear_value d1 d2
    repeat' (first | (with_reducible assumption) | (with_reducible apply Dev.answer_sound) | (with_reducible apply Dev.slaveFetch_sound) | (fail_if_no_progress split))

theorem Dev.descRead_sound (d : Dev) (c : Nat) (x : GzbDesc) (h : d.Sound) (d' : Dev) (hd : d.descRead c x = some d') : d'.Sound := by
  unfold Dev.descRead at hd
  extract_lets e a k at hd
  repeat' (first | (cases hd; done) | (cases hd; exact Dev.updDesc_sound _ _ _ _ (Dev.gzbRead_sound _ _ _ _ _ _ _ _ _ _ h)) | split at hd | dsimp only at hd)

theorem Dev.descWrite_sound (d : Dev) (c : Nat) (x : GzbDesc) (h : d.Sound) (d' : Dev) (hd : d.descWrite c x = some d') : d'.Sound := by
  unfold Dev.descWrite at hd
  split at hd
  · cases hd
  split at hd
  · split at hd
    · cases hd
      exact Dev.updDesc_sound _ _ _ _ (Dev.gzbRead_sound _ _ _ _ _ _ _ _ _ _ h)
    · cases hd
  split at hd
  · split at hd
    · cases hd
    · extract_lets k at hd
      split at hd
      · cases hd
        exact Dev.updDesc_sound _ _ _ _ (Dev.bump64_sound _ _ _ (Dev.gzbWrite_sound _ _ _ _ h))
      · cases hd
  split at hd
  · extract_lets bs a k d1 d2 at hd
    have h1 : d1.Sound := Dev.gzbWrite_sound _ _ _ _ h
    have h2 : d2.Sound := ite_sound (Dev.gzbWrite_sound _ _ _ _ h1) h1
    clear_value d1 d2
    cases hd
    exact Dev.updDesc_sound _ _ _ _ h2
  · cases hd

theorem Dev.gzbPump_sound (d : Dev) (c n : Nat) (h : d.Sound) : (d.gzbPump c n).Sound := by
  induction n generalizing d with
  | zero => exact h
  | succ n ih =>
    unfold Dev.gzbPump
    split
    · exact h
    split
    · split
      · rename_i he
        exact ih _ (Dev.descRead_sound _ _ _ h _ he)
      split
      · rename_i he
        exact ih _ (Dev.descMarks_sound _ _ _ (Dev.descWrite_sound _ _ _ h _ he))
      · exact Dev.descMarks_sound _ _ _ h
    · repeat' (first | (with_reducible assumption) | (with_reducible apply ih) | (with_reducible apply Dev.beginDesc_sound) | (fail_if_no_progress split))

theorem authEnd_sound (x : InFrame) (r : Dev × Option Frame) (h : r.1.Sound) : (authEnd x r).Sound := by
  unfold authEnd
  repeat' (first | (with_reducible assumption) | (with_reducible apply Dev.dropIn_sound) | (with_reducible apply Dev.logCopy_sound) | (with_reducible apply Dev.finishStages_sound) | (with_reducible apply Dev.pduOut_sound) | (fail_if_no_progress split))

theorem Dev.authRun_sound (d : Dev) (id : Nat) (g : Bool) (h : d.Sound) : (d.authRun id g).Sound := by
  unfold Dev.authRun
  repeat' (first | (with_reducible assumption) | (with_reducible apply authEnd_sound) | (with_reducible apply Dev.authGenerate_sound) | (with_reducible apply Dev.authVerify_sound) | (with_reducible apply Dev.finishStages_sound) | (fail_if_no_progress split))

theorem Dev.ethRx_sound (d : Dev) (i : Nat) (f : Bool) (x : Received) (h : d.Sound) : (d.ethRx i f x).Sound := by
  unfold Dev.ethRx
  extract_lets m n d1 st f1 f2 rxEn q d2
  have h1 : d1.Sound := Dev.bump_sound _ _ _ h
  have h2 : d2.Sound := ite_sound (Dev.bump_sound _ _ _ h1) h1
  clear_value m n d1 f1 f2 rxEn q d2
  repeat' (first | (with_reducible assumption) | (with_reducible apply Dev.bump_sound) | (with_reducible apply Dev.emit_sound) | (with_reducible apply Dev.onFrm_sound) | (with_reducible apply Dev.ethParse_sound) | (fail_if_no_progress split))

theorem reset_regs_wf : cellsWf resetRegs = true := by decide +kernel

theorem Dev.reset_sound : Dev.reset.Sound :=
  ⟨reset_regs_wf, rfl, rfl, by decide, by decide, by decide, by decide⟩

theorem Dev.coldReset_sound (d : Dev) (k : StartKind) (h : d.Sound) : (d.coldReset k).Sound := by
  unfold Dev.coldReset
  extract_lets keep wake r0 r
  refine Dev.withPins_sound _ _ ⟨cellsWf_put _ (cellsWf_filter _ reset_regs_wf), ?_, h.flash, Nat.zero_le _, h.events, h.items, Nat.zero_le _⟩
  show Memory.wf (if wake = true then _ else _) = true
  split
  · exact cellsWf_filter _ h.mem
  · rfl

theorem Dev.blockReset_sound (d : Dev) (b : Nat) (h : d.Sound) : (d.blockReset b).Sound := by
  unfold Dev.blockReset
  have hk : ∀ e : Dev, e.Sound → ∀ n f, (e.regsReset n f).Sound := fun e he n f => Dev.regsReset_sound e n f he
  split
  · exact Dev.hpReset_sound _ h
  · exact Dev.lbuReset_sound _ h
  · exact Dev.winReset_sound _ h
  · exact Dev.itmReset_sound _ h
  · refine hk _ ?_ _ _
    repeat' (first | (with_reducible assumption) | ((simp only [Dev.sound_mk]); (refine Dev.Sound.parts ?_)))
  · refine hk _ ?_ _ _
    repeat' (first | (with_reducible assumption) | ((simp only [Dev.sound_mk]); (refine Dev.Sound.parts ?_)))
  · refine hk _ ?_ _ _
    repeat' (first | (with_reducible assumption) | ((simp only [Dev.sound_mk]); (refine Dev.Sound.parts ?_)))
  · exact Dev.blvReset_sound _ h
  · exact Dev.gzbReset_sound _ h
  · exact Dev.pavReset_sound _ h
  · exact Dev.ethReset_sound _ h
  · refine hk _ (Dev.onLbu_sound _ _ ?_) _ _
    simp only [Dev.sound_mk]
    exact ⟨h.regs, h.mem, h.flash, Nat.zero_le _, h.events, h.items, h.notes⟩
  · exact hk _ h _ _
  · exact h

theorem Dev.evtDrop_sound (d : Dev) (h : d.Sound) : Dev.Sound { d with wkt := { d.wkt with events := d.wkt.events.drop 1 } } :=
  ⟨h.regs, h.mem, h.flash, h.log, by have := h.events; simp; omega, h.items, h.notes⟩

theorem Dev.slowEffect_sound (d : Dev) (w off : Nat) (v : Word) (h : d.Sound) : (d.slowEffect w off v).Sound := by
  unfold Dev.slowEffect
  extract_lets w0 x ch
  have he : Dev.Sound { d with wkt := { w0 with events := d.wkt.events.drop 1 } } := Dev.evtDrop_sound d h
  clear_value w0 x ch
  repeat' (first | (with_reducible assumption) | (with_reducible refine ite_sound ?_ ?_) | (with_reducible apply Dev.reject_sound) | (with_reducible apply Dev.wr_sound) | (with_reducible apply Dev.srcCfgWrite_sound) | (with_reducible apply Dev.schedCfgWrite_sound) | (with_reducible apply Dev.rateWrite_sound) | (with_reducible apply Dev.slewWrite_sound) | (with_reducible apply Dev.stepCtlWrite_sound) | (with_reducible apply Dev.armWrite_sound) | (with_reducible apply Dev.onBlv_sound) | (with_reducible apply Dev.wktEnter_sound) | (with_reducible apply Dev.mbxWrite_sound) | (with_reducible apply Dev.tioCfgWrite_sound) | (with_reducible apply Dev.linkCfgWrite_sound) | (with_reducible apply Dev.canCtlWrite_sound) | (with_reducible apply Dev.txLoad_sound) | (with_reducible apply Dev.tasCtlWrite_sound) | (fail_if_no_progress split))

theorem Dev.wakeEvent_sound (d : Dev) (c i : Nat) (h : d.Sound) : (d.wakeEvent c i).Sound := by
  unfold Dev.wakeEvent
  extract_lets rc d1 d2 d3
  have h1 : d1.Sound := by
    unfold d1
    split
    · exact Dev.bump_sound _ _ _ h
    · exact Dev.onWkt_sound _ _ h (by simp; omega) h.items
  have h2 : d2.Sound := Dev.bump_sound _ _ _ (Dev.onWkt_sound _ _ h1 h1.events h1.items)
  have h3 : d3.Sound := Dev.onItem_sound _ _ _ h2
  clear_value d1 d2 d3
  split
  · exact h1
  · exact Dev.wakePlan_sound _ _ h1
  · exact Dev.wakePlan_sound _ _ h1
  · exact Dev.wakePlan_sound _ _ h3

theorem Dev.kiosk_sound (d : Dev) (l : Nat) (f : Dev → Dev) (h : d.Sound) (hf : ∀ e, e.Sound → (f e).Sound) : (d.kiosk l f).Sound := by
  unfold Dev.kiosk
  repeat' (first | (with_reducible assumption) | (with_reducible apply Dev.say_sound) | (with_reducible apply hf) | (fail_if_no_progress split))

theorem Dev.mbxServe_sound (d : Dev) (n : Nat) (f : Dev → MbxCmd → Dev × Nat × List Byte) (h : d.Sound)
    (hf : ∀ e c, e.Sound → (f e c).1.Sound) : (d.mbxServe n f).Sound := by
  unfold Dev.mbxServe
  repeat' (first | (with_reducible assumption) | (with_reducible apply Dev.mbxEnd_sound) | (with_reducible apply hf) | (fail_if_no_progress split))

theorem Dev.insertAll_sound (d : Dev) (bs : List Byte) (l : List Nat) (h : d.Sound) : (d.insertAll bs l).1.Sound := by
  induction l generalizing d with
  | nil => exact h
  | cons k t ih =>
    unfold Dev.insertAll
    extract_lets r
    have hr : r.1.Sound := Dev.insertIn_sound _ _ _ _ h
    clear_value r
    split
    · exact hr
    · exact ih _ (ite_sound (Dev.bump_sound _ _ _ hr) hr)

theorem Dev.slaveNew_sound (d : Dev) (a1) (a2) (h : d.Sound) : (Dev.slaveNew d a1 a2).Sound := by
  unfold Dev.slaveNew
  try dsimp only
  repeat' (first | (with_reducible assumption) | (with_reducible apply Dev.slaveRead_sound) | (with_reducible apply Dev.slaveWrite_sound) | (fail_if_no_progress split))

theorem Dev.gzbGo_sound (d : Dev) (a1) (h : d.Sound) : (Dev.gzbGo d a1).Sound := by
  unfold Dev.gzbGo
  try dsimp only
  repeat' (first | (with_reducible assumption) | (with_reducible apply Dev.endRun_sound) | (with_reducible apply Dev.gzbPump_sound) | (with_reducible apply Dev.gzbFetch_sound) | (fail_if_no_progress split))

theorem Dev.gzbReturn_sound (d : Dev) (a1) (h : d.Sound) : (Dev.gzbReturn d a1).Sound := by
  unfold Dev.gzbReturn
  try dsimp only
  repeat' (first | (with_reducible assumption) | (with_reducible apply Dev.retryHeld_sound) | (with_reducible apply Dev.onChan_sound) | (with_reducible apply Dev.gzbGo_sound) | (with_reducible apply Dev.rsvRecord_sound) | (with_reducible apply Dev.gzbHalt_sound) | (with_reducible apply Dev.updDesc_sound) | (with_reducible apply Dev.bump64_sound) | (with_reducible apply Dev.onGzb_sound) | (with_reducible apply Dev.dropReq_sound) | (fail_if_no_progress split))

theorem Dev.handedBack_sound (d : Dev) (a1) (a2) (h : d.Sound) : (Dev.handedBack d a1 a2).Sound := by
  unfold Dev.handedBack
  extract_lets x0 x1 x2 x3 x4 x5 x6 x7 x8 x9
  have h_x1 : x1.Sound := by
    unfold x1
    repeat' (first | (with_reducible assumption) | (with_reducible apply Dev.gzbEvent_sound) | (fail_if_no_progress split))
  clear_value x1
  have h_x2 : x2.Sound := by
    unfold x2
    repeat' (first | (with_reducible assumption) | (with_reducible apply Dev.gzbEvent_sound) | (fail_if_no_progress split))
  clear_value x2
  have h_x3 : x3.Sound := by
    unfold x3
    repeat' (first | (with_reducible assumption) | (with_reducible apply Dev.bump_sound) | (with_reducible apply Dev.setFld_sound))
  clear_value x3
  have h_x5 : x5.Sound := by
    unfold x5
    repeat' (first | (with_reducible assumption) | (with_reducible apply Dev.wr_sound) | (fail_if_no_progress split))
  clear_value x5
  have h_x8 : x8.Sound := by
    unfold x8
    repeat' (first | (with_reducible assumption) | (with_reducible apply Dev.onChan_sound))
  clear_value x8
  have h_x9 : x9.Sound := by
    unfold x9
    repeat' (first | (with_reducible assumption) | (with_reducible apply Dev.onChan_sound) | (fail_if_no_progress split))
  clear_value x9
  repeat' (first | (with_reducible assumption) | (with_reducible apply Dev.gzbGo_sound))

theorem Dev.piWrite_sound (d : Dev) (a1) (a2) (h : d.Sound) : (Dev.piWrite d a1 a2).Sound := by
  unfold Dev.piWrite
  try dsimp only
  repeat' (first | (with_reducible assumption) | (with_reducible apply Dev.bump_sound) | (with_reducible apply Dev.onChan_sound) | (with_reducible apply Dev.gzbGo_sound) | (with_reducible apply Dev.setFld_sound) | (with_reducible apply Dev.gzbFetch_sound) | (fail_if_no_progress split))

theorem Dev.startRun_sound (d : Dev) (h : d.Sound) : (Dev.startRun d).Sound := by
  unfold Dev.startRun
  try dsimp only
  repeat' (first | (with_reducible assumption) | (with_reducible apply Dev.gzbGo_sound) | (with_reducible apply Dev.onGzb_sound) | (fail_if_no_progress split))

theorem Dev.handback_sound (d : Dev) (a1) (h : d.Sound) : (Dev.handback d a1).Sound := by
  unfold Dev.handback
  try dsimp only
  repeat' (first | (with_reducible assumption) | (with_reducible apply Dev.handedBack_sound) | (with_reducible apply Dev.gzbGo_sound) | (with_reducible apply Dev.gzbPump_sound) | (with_reducible apply Dev.updDesc_sound) | (with_reducible apply Dev.wbarsFor_sound) | (with_reducible apply Dev.writeBack_sound) | (fail_if_no_progress split))

theorem Dev.rwsReach_sound (d : Dev) (a1) (h : d.Sound) : (Dev.rwsReach d a1).Sound := by
  unfold Dev.rwsReach
  try dsimp only
  repeat' (first | (with_reducible assumption) | (with_reducible apply Dev.sendMem_sound) | (with_reducible apply Dev.wr_sound) | (with_reducible apply Dev.slowEffect_sound) | (with_reducible apply Dev.applied_sound) | (fail_if_no_progress split))

theorem Dev.coreEffect_sound (d : Dev) (a1) (a2) (a3) (h : d.Sound) : (Dev.coreEffect d a1 a2 a3).Sound := by
  unfold Dev.coreEffect
  try dsimp only
  repeat' (first | (with_reducible assumption) | (with_reducible apply Dev.lirqCfgWrite_sound) | (with_reducible apply Dev.ringCfgWrite_sound) | (with_reducible apply Dev.wr_sound) | (with_reducible apply Dev.chanCtl_sound) | (with_reducible apply Dev.piWrite_sound) | (with_reducible apply Dev.semClaim_sound) | (with_reducible apply Dev.lbuCtlWrite_sound) | (with_reducible apply Dev.reject_sound) | (with_reducible apply Dev.pathCfgWrite_sound) | (with_reducible apply Dev.winWrite_sound) | (with_reducible apply Dev.pglCtlWrite_sound) | (with_reducible apply Dev.trlCtrlWrite_sound) | (with_reducible refine foldl_sound _ (fun _ _ _ => ?_) _ ?_) | (fail_if_no_progress split))

theorem Dev.aliasWrite_sound (d : Dev) (a1) (a2) (a3) (a4) (h : d.Sound) : (Dev.aliasWrite d a1 a2 a3 a4).Sound := by
  unfold Dev.aliasWrite
  try dsimp only
  repeat' (first | (with_reducible assumption) | (with_reducible apply Dev.coreEffect_sound) | (with_reducible apply Dev.reject_sound) | (with_reducible apply Dev.applied_sound) | (fail_if_no_progress split))

theorem Dev.resetCommit_sound (d : Dev) (a1) (h : d.Sound) : (Dev.resetCommit d a1).Sound := by
  unfold Dev.resetCommit
  try dsimp only
  repeat' (first | (with_reducible assumption) | (with_reducible apply Dev.warmStart_sound) | (with_reducible apply Dev.reject_sound) | (with_reducible apply Dev.drainStart_sound) | (with_reducible apply Dev.blockReset_sound) | ((simp only [Dev.sound_mk]); (refine Dev.Sound.parts ?_)) | (fail_if_no_progress split))

theorem Dev.keyedEffect_sound (d : Dev) (a1) (a2) (a3) (h : d.Sound) : (Dev.keyedEffect d a1 a2 a3).Sound := by
  unfold Dev.keyedEffect
  try dsimp only
  repeat' (first | (with_reducible assumption) | (with_reducible apply Dev.gzbRestart_sound) | (with_reducible apply Dev.wr_sound) | (with_reducible apply Dev.resetCommit_sound) | (with_reducible apply Dev.handoverStart_sound) | (with_reducible apply Dev.tableSwitch_sound) | (with_reducible apply Dev.spareCommit_sound) | (with_reducible apply Dev.eraseStart_sound) | (with_reducible apply Dev.keyCommit_sound) | (fail_if_no_progress split))

theorem Dev.keyedCompanion_sound (d : Dev) (a1) (a2) (a3) (a4) (h : d.Sound) : (Dev.keyedCompanion d a1 a2 a3 a4).Sound := by
  unfold Dev.keyedCompanion
  try dsimp only
  repeat' (first | (with_reducible assumption) | (with_reducible apply Dev.bump_sound) | (with_reducible apply Dev.dropArmed_sound) | (with_reducible apply Dev.keyedEffect_sound) | (with_reducible apply Dev.applied_sound) | ((simp only [Dev.sound_mk]); (refine Dev.Sound.parts ?_)) | (fail_if_no_progress split))

theorem Dev.regWrite_sound (d : Dev) (a1) (a2) (a3) (h : d.Sound) : (Dev.regWrite d a1 a2 a3).Sound := by
  unfold Dev.regWrite
  try dsimp only
  repeat' (first | (with_reducible assumption) | (with_reducible apply Dev.rwsPost_sound) | (with_reducible apply Dev.wideHigh_sound) | (with_reducible apply Dev.coreEffect_sound) | (with_reducible apply Dev.aliasWrite_sound) | (with_reducible apply Dev.memWrite_sound) | (with_reducible apply Dev.keyedCompanion_sound) | (with_reducible apply Dev.actionWrite_sound) | (with_reducible apply Dev.wideLow_sound) | (with_reducible apply Dev.keyedArm_sound) | (with_reducible apply Dev.applied_sound) | (fail_if_no_progress split))

theorem Dev.rwsApply_sound (d : Dev) (a1) (h : d.Sound) : (Dev.rwsApply d a1).Sound := by
  unfold Dev.rwsApply
  try dsimp only
  repeat' (first | (with_reducible assumption) | (with_reducible apply Dev.rwsReach_sound) | ((simp only [Dev.sound_mk]); (refine Dev.Sound.parts ?_)) | (fail_if_no_progress split))

theorem Dev.recvReg_sound (d : Dev) (a1) (a2) (a3) (h : d.Sound) : (Dev.recvReg d a1 a2 a3).Sound := by
  unfold Dev.recvReg
  try dsimp only
  repeat' (first | (with_reducible assumption) | (with_reducible apply Dev.aliasWrite_sound) | (with_reducible apply Dev.keyedEffect_sound) | (with_reducible apply Dev.slowEffect_sound) | (with_reducible apply Dev.regWrite_sound) | (fail_if_no_progress split))

theorem Dev.hubWrite_sound (d : Dev) (who off : Nat) (v : Word) (h : d.Sound) (d' : Dev) (hd : d.hubWrite who off v = .ok d') : d'.Sound := by
  unfold Dev.hubWrite at hd
  split at hd
  · cases hd
  · cases hd
    exact Dev.regWrite_sound _ _ _ _ h

theorem Dev.hubTwo_sound (d : Dev) (who off : Nat) (lo hi : Word) (h : d.Sound) (d' : Dev)
    (hd : (d.hubWrite who off lo).bind (fun d => d.hubWrite who (off + 4) hi) = .ok d') : d'.Sound := by
  cases he : d.hubWrite who off lo with
  | error c => rw [he] at hd; cases hd
  | ok e =>
    rw [he] at hd
    exact Dev.hubWrite_sound _ _ _ _ (Dev.hubWrite_sound _ _ _ _ h _ he) _ hd

theorem Dev.hubWrite64_sound (d : Dev) (who off : Nat) (lo hi : Word) (h : d.Sound) (d' : Dev) (hd : d.hubWrite64 who off lo hi = .ok d') :
    d'.Sound := by
  unfold Dev.hubWrite64 at hd
  split at hd
  · split at hd
    · split at hd
      · cases hd
      · cases hd
        exact Dev.wideFull_sound _ _ _ _ _ h
    · exact Dev.hubTwo_sound _ _ _ _ _ h _ hd
  · exact Dev.hubTwo_sound _ _ _ _ _ h _ hd

theorem Dev.regWordWrite_sound (d : Dev) (who off : Nat) (v : Word) (be : BitVec 4) (h : d.Sound) (d' : Dev)
    (hd : d.regWordWrite who off v be = .ok d') : d'.Sound := by
  unfold Dev.regWordWrite at hd
  split at hd
  · cases hd; exact h
  split at hd
  · exact Dev.hubWrite_sound _ _ _ _ h _ hd
  split at hd
  · cases hd
  split at hd
  · cases hd; exact Dev.memWrite_sound _ _ _ _ _ h
  split at hd
  · cases hd; exact Dev.reject_sound _ h
  · cases hd; exact h

theorem Dev.regAccessWrite_sound (d : Dev) (who lo : Nat) (x : WData) (h : d.Sound) : (d.regAccessWrite who lo x).1.Sound := by
  unfold Dev.regAccessWrite
  split
  · split
    · rename_i he
      exact Dev.hubWrite64_sound _ _ _ _ _ h _ he
    · exact h
  · refine foldl_fst_sound _ (fun p off hp => ?_) _ h
    split
    · rename_i he
      exact Dev.regWordWrite_sound _ _ _ _ _ hp _ he
    · exact hp

theorem Dev.hubPut_sound (d : Dev) (who off : Nat) (v : Word) (h : d.Sound) : (d.hubPut who off v).Sound := by
  unfold Dev.hubPut
  split
  · rename_i he
    exact Dev.hubWrite_sound _ _ _ _ h _ he
  · exact Dev.permFail_sound _ _ _ _ h

theorem Dev.hubPut64_sound (d : Dev) (who off : Nat) (lo hi : Word) (h : d.Sound) : (d.hubPut64 who off lo hi).Sound := by
  unfold Dev.hubPut64
  split
  · rename_i he
    exact Dev.hubWrite64_sound _ _ _ _ _ h _ he
  · exact Dev.permFail_sound _ _ _ _ h

theorem Dev.hubPutEn_sound (d : Dev) (who off : Nat) (v : Word) (be : BitVec 4) (h : d.Sound) : (d.hubPutEn who off v be).Sound := by
  unfold Dev.hubPutEn
  split
  · rename_i he
    exact Dev.regWordWrite_sound _ _ _ _ _ h _ he
  · exact Dev.permFail_sound _ _ _ _ h

theorem Dev.warmReset_sound (d : Dev) (h : d.Sound) : (d.warmReset).Sound := by
  unfold Dev.warmReset
  extract_lets d1 d2 w0 l0 r
  have h1 : d1.Sound := by
    unfold d1
    refine foldl_sound _ (fun _ _ he => ?_) _ (Dev.lbuReset_sound _ (Dev.blvReset_sound _ h))
    exact Dev.blockReset_sound _ _ he
  have h2 : d2.Sound := Dev.regsReset_sound _ _ _ h1
  clear_value d1 d2
  have h3 : r.Sound := by
    unfold r
    simp only [Dev.sound_mk]
    exact ⟨cellsWf_put _ (cellsWf_filter _ reset_regs_wf), cellsWf_filter _ h2.mem, h2.flash, h2.log, h2.events, h2.items, h2.notes⟩
  exact Dev.onLbu_sound _ _ (Dev.withPins_sound _ _ h3)

theorem Dev.undoConfig_sound (d : Dev) (h : d.Sound) : (d.undoConfig).Sound := by
  unfold Dev.undoConfig
  extract_lets dmc d1 l0
  have h1 : d1.Sound := by
    unfold d1
    refine foldl_sound _ (fun _ _ he => ?_) _ h
    exact Dev.blockReset_sound _ _ he
  clear_value d1
  refine Dev.onLdg_sound _ _ ?_ rfl
  simp only [Dev.sound_mk]
  exact ⟨cellsWf_put _ h1.regs, h1.mem, h1.flash, h1.log, h1.events, h1.items, h1.notes⟩

theorem Dev.loadTrellis_sound (d : Dev) (bs : List Byte) (h : d.Sound) : (d.loadTrellis bs).1.Sound := by
  unfold Dev.loadTrellis
  split
  · exact h
  · extract_lets word d1 d2 a n d3
    have h1 : d1.Sound := Dev.wr64_sound _ _ _ h
    have h2 : d2.Sound := Dev.wr_sound _ _ _ (Dev.wr_sound _ _ _ (Dev.wr_sound _ _ _ h1))
    have h3 : d3.Sound := by
      unfold d3
      simp only [Dev.sound_mk]
      exact ⟨h2.regs, cellsWf_clear _ _ h2.mem, h2.flash, h2.log, h2.events, h2.items, h2.notes⟩
    exact Dev.insertAll_sound _ _ _ h3

theorem Dev.itemLost_sound (d : Dev) (j : Nat) (h : d.Sound) : (d.itemLost j).Sound := by
  unfold Dev.itemLost
  split
  · simp only [Dev.sound_mk]
    exact ⟨h.regs, cellsWf_filter _ h.mem, h.flash, h.log, h.events, h.items, h.notes⟩
  · extract_lets w r
    have hc : r.Sound := Dev.coldReset_sound d .standbyWake h
    clear_value r
    simp only [Dev.sound_mk]
    exact ⟨hc.regs, hc.mem, hc.flash, hc.log, h.events, h.items, hc.notes⟩
  · exact Dev.hostLinkDown_sound _ h
  · repeat' (first | (with_reducible assumption) | ((simp only [Dev.sound_mk]); (refine Dev.Sound.parts ?_)))
  · repeat' (first | (with_reducible assumption) | (with_reducible apply Dev.linkDown_sound) | (with_reducible refine foldl_sound _ (fun _ _ _ => ?_) _ ?_) | (fail_if_no_progress split))
  · refine Dev.onWkt_sound _ _ ?_ h.events h.items
    repeat' (first | (with_reducible assumption) | ((simp only [Dev.sound_mk]); (refine Dev.Sound.parts ?_)))
  · exact h

theorem Dev.barrierCovers_sound (d : Dev) (a1) (a2) (h : d.Sound) : (Dev.barrierCovers d a1 a2).Sound := by
  unfold Dev.barrierCovers
  try dsimp only
  repeat' (first | (with_reducible assumption) | (with_reducible apply Dev.onFab_sound))

theorem Dev.regPerform_sound (d : Dev) (a1) (h : d.Sound) : (Dev.regPerform d a1).Sound := by
  unfold Dev.regPerform
  try dsimp only
  repeat' (first | (with_reducible assumption) | (with_reducible apply Dev.barrierCovers_sound) | (with_reducible apply Dev.finish_sound) | (with_reducible apply Dev.regAccessWrite_sound) | (with_reducible apply Dev.regAccessRead_sound) | (with_reducible apply Dev.failReq_sound) | (fail_if_no_progress split))

theorem Dev.endpoint_sound (d : Dev) (a1) (h : d.Sound) : (Dev.endpoint d a1).Sound := by
  unfold Dev.endpoint
  try dsimp only
  repeat' (first | (with_reducible assumption) | (with_reducible apply Dev.regPerform_sound) | (with_reducible apply Dev.memPerform_sound) | (with_reducible apply Dev.failReq_sound) | (fail_if_no_progress split))

theorem Dev.hubWriteMatch_sound (d : Dev) (o : Nat) (v : Word) (h : d.Sound) :
    (match d.hubWrite 63 o v with | .ok d => d | .error c => d.permFail 63 o c).Sound := by
  split
  · rename_i he
    exact Dev.hubWrite_sound _ _ _ _ h _ he
  · exact Dev.permFail_sound _ _ _ _ h

theorem Dev.recordWrite_sound (d : Dev) (off : Nat) (v : Word) (h : d.Sound) : (d.recordWrite off v).Sound := by
  unfold Dev.recordWrite
  split
  · exact Dev.bump_sound _ _ _ h
  split
  · extract_lets keep d1
    have h1 : d1.Sound := ite_sound h (Dev.bump_sound _ _ _ h)
    exact Dev.wr_sound _ _ _ h1
  · extract_lets counted was write cls d1
    have hw : ∀ (e : Dev) o v, e.Sound → (write e o v).Sound := fun e o v he => Dev.hubWriteMatch_sound e o v he
    clear_value write
    have h1 : d1.Sound := by
      unfold d1
      clear_value cls
      repeat' (first | (with_reducible assumption) | (with_reducible apply hw) | (with_reducible apply Dev.rwsApply_sound) | (fail_if_no_progress split))
    clear_value d1
    exact ite_sound h1 (Dev.bump_sound _ _ _ h1)

theorem Dev.recordPut_sound (d : Dev) (r : CfgRec) (k v : Nat) (h : d.Sound) : (d.recordPut r k v).Sound := by
  unfold Dev.recordPut
  exact ite_sound (Dev.localWrite_sound _ _ _ h) (Dev.recordWrite_sound _ _ _ h)

theorem Dev.applyRecord_sound (d : Dev) (r : CfgRec) (h : d.Sound) : (d.applyRecord r).1.Sound := by
  unfold Dev.applyRecord
  split
  · exact foldl_sound _ (fun _ _ he => Dev.recordPut_sound _ _ _ _ he) _ h
  · exact foldl_sound _ (fun _ _ he => Dev.recordPut_sound _ _ _ _ he) _ h
  · extract_lets x
    have hx : x.1.Sound := Dev.pollWord_sound _ _ h
    clear_value x
    repeat' (first | exact hx | exact Dev.setFld_sound _ _ _ _ _ hx | split)
  · exact h

theorem Dev.applyRecords_sound (d : Dev) (l : List CfgRec) (n : Nat) (h : d.Sound) : (d.applyRecords l n).1.Sound := by
  induction l generalizing d n with
  | nil => exact h
  | cons r t ih =>
    unfold Dev.applyRecords
    extract_lets x e
    have he : e.Sound := faultSettle_sound _ _ (Dev.applyRecord_sound _ _ h)
    clear_value e
    split
    · exact he
    · exact ih _ _ he

theorem Dev.applySlot_sound (d : Dev) (x s : Nat) (h : d.Sound) : (d.applySlot x s).1.Sound := by
  unfold Dev.applySlot
  extract_lets d1 t bytes
  have h1 : d1.Sound := Dev.loadKeys_sound _ _ (Dev.setFld_sound _ _ _ _ _ h)
  have ht : t.1.Sound := Dev.loadTrellis_sound _ _ (Dev.setFld_sound _ _ _ _ _ h1)
  clear_value t
  split
  · exact ht
  · split
    · exact ht
    · extract_lets d2 r
      exact Dev.applyRecords_sound _ _ _ (Dev.onLdg_sound _ _ (Dev.setFld_sound _ _ _ _ _ ht) rfl)

theorem Dev.configure_sound (d : Dev) (x : Nat) (l : List Nat) (h : d.Sound) : (d.configure x l).1.Sound := by
  induction l generalizing d with
  | nil => exact h
  | cons s t ih =>
    unfold Dev.configure
    extract_lets c r
    have hr : r.1.Sound := Dev.applySlot_sound _ _ _ h
    clear_value r c
    split
    · exact ih _ (Dev.slotReport_sound _ _ _ h)
    · split
      · exact ih _ (Dev.slotReport_sound _ _ _ (Dev.undoConfig_sound _ hr))
      · exact Dev.slotReport_sound _ _ _ hr

theorem Dev.switchOff_sound (d : Dev) (h : d.Sound) : (d.switchOff).Sound := by
  unfold Dev.switchOff
  split
  · exact h
  · extract_lets d1
    have h1 : d1.Sound := by
      unfold d1
      repeat' (first | (with_reducible assumption) | (with_reducible apply Dev.emit_sound) | (with_reducible apply Dev.itemLost_sound) | (with_reducible apply Dev.onItem_sound) | (fail_if_no_progress split))
    clear_value d1
    exact ite_sound h1 (Dev.onWkt_sound _ _ h1 h1.events h1.items)

theorem Dev.startRest_sound (d : Dev) (a1) (a2) (a3) (h : d.Sound) : (Dev.startRest d a1 a2 a3).Sound := by
  unfold Dev.startRest
  try dsimp only
  repeat' (first | (with_reducible assumption) | (with_reducible apply Dev.startEnd_sound) | (with_reducible apply Dev.restoreRemaps_sound) | (with_reducible apply Dev.setFld_sound) | (with_reducible apply Dev.configure_sound) | (with_reducible apply Dev.calibrate_sound) | (with_reducible apply Dev.onLdg_sound) | (with_reducible apply Dev.defaults_sound) | (fail_if_no_progress split) | (show _ = _; rfl))

theorem Dev.reapply_sound (d : Dev) (a1) (h : d.Sound) : (Dev.reapply d a1).1.Sound := by
  unfold Dev.reapply
  try dsimp only
  repeat' (first | (with_reducible assumption) | (with_reducible apply Dev.applyRecords_sound))

theorem Dev.sleepEnd_sound (d : Dev) (a1) (a2) (h : d.Sound) : (Dev.sleepEnd d a1 a2).Sound := by
  unfold Dev.sleepEnd
  try dsimp only
  repeat' (first | (with_reducible assumption) | (with_reducible apply Dev.wktEnter_sound) | (with_reducible apply Dev.mbxEnd_sound) | (with_reducible apply Dev.setFld_sound) | (with_reducible apply Dev.reapply_sound) | (with_reducible apply Dev.drainEnd_sound) | (fail_if_no_progress split))

theorem Dev.sleepStage_sound (d : Dev) (a1) (a2) (h : d.Sound) : (Dev.sleepStage d a1 a2).Sound := by
  unfold Dev.sleepStage
  try dsimp only
  repeat' (first | (with_reducible assumption) | (with_reducible apply Dev.channelsOff_sound) | (with_reducible apply Dev.mbxEnd_sound) | (with_reducible apply Dev.setFld_sound) | (with_reducible apply Dev.drainStart_sound) | (with_reducible apply Dev.sleepEnd_sound) | (fail_if_no_progress split))

theorem Dev.startUp_sound (d : Dev) (p : Bool) (h : d.Sound) : (d.startUp p).Sound := by
  unfold Dev.startUp
  extract_lets lost d1 d2 mode hdr d3
  have h1 : d1.Sound := Dev.onLdg_sound _ _ (Dev.wr_sound _ _ _ h) rfl
  have h2 : d2.Sound := by
    unfold d2
    clear_value d1 lost
    split
    · exact Dev.wr_sound _ _ _ h1
    · exact h1
  have h3 : d3.Sound := Dev.wr_sound _ _ _ h2
  clear_value d3 hdr mode
  split
  · exact Dev.startRecovery_sound _ h3
  split
  · exact Dev.startRecovery_sound _ h3
  extract_lets r
  have hr : r.1.Sound := Dev.chooseFirmware_sound _ _ _ h3
  clear_value r
  split
  · exact Dev.startRecovery_sound _ hr
  extract_lets ver d4 d5 retire units d6 d7 d8 svc d9 d10 d11 d12
  have h4 : d4.Sound := Dev.wr_sound _ _ _ (Dev.setFld_sound _ _ _ _ _ hr)
  have h5 : d5.Sound := Dev.setFld_sound _ _ _ _ _ (Dev.setFld_sound _ _ _ _ _ h4)
  have h6 : d6.Sound := Dev.wr_sound _ _ _ (Dev.wr_sound _ _ _ h5)
  have h7 : d7.Sound := Dev.wr_sound _ _ _ (Dev.setFld_sound _ _ _ _ _ h6)
  have h8 : d8.Sound := Dev.onTwin_sound _ _ h7
  have h9 : d9.Sound := Dev.onLdg_sound _ _ h8 rfl
  clear_value d9
  have h10 : d10.Sound := by
    unfold d10
    repeat' (first | (with_reducible assumption) | (with_reducible apply Dev.wr_sound) | (with_reducible refine foldl_sound _ (fun _ _ _ => ?_) _ ?_) | (fail_if_no_progress split))
  have h11 : d11.Sound := Dev.wr_sound _ _ _ h10
  have h12 : d12.Sound := ite_sound (Dev.onDep_sound _ _ h11 rfl) h11
  clear_value d5 d10 d11 d12
  split
  · exact Dev.startRest_sound _ _ _ _ h5
  split
  · exact Dev.startRest_sound _ _ _ _ h10
  · exact Dev.onLdg_sound _ _ h12 rfl

theorem Dev.resetAndStart_sound (d : Dev) (a1) (a2) (h : d.Sound) : (Dev.resetAndStart d a1 a2).Sound := by
  unfold Dev.resetAndStart
  try dsimp only
  repeat' (first | (with_reducible assumption) | (with_reducible apply Dev.coldReset_sound) | (with_reducible apply Dev.startUp_sound) | (fail_if_no_progress split))

theorem Dev.warmAndStart_sound (d : Dev) (a1) (h : d.Sound) : (Dev.warmAndStart d a1).Sound := by
  unfold Dev.warmAndStart
  try dsimp only
  repeat' (first | (with_reducible assumption) | (with_reducible apply Dev.warmReset_sound) | (with_reducible apply Dev.startUp_sound))

theorem Dev.itemReady_sound (d : Dev) (a1) (a2) (h : d.Sound) : (Dev.itemReady d a1 a2).Sound := by
  unfold Dev.itemReady
  try dsimp only
  repeat' (first | (with_reducible assumption) | (with_reducible apply Dev.resetAndStart_sound) | (with_reducible apply Dev.onItem_sound) | (fail_if_no_progress split))

end Sys2Proof.Machine
end

