-- ==== Sys2Proof/Laws/Invariant.lean ====
section
/-!
SUPPORT. Every command's meaning keeps the invariant (`Inv`): one lemma for each.
-/
set_option linter.all false
namespace Sys2Proof.Machine

theorem State.act_inv (s : State) (f : Dev → Dev) (h : Inv s) (hf : ∀ d : Dev, d.Sound → (f d).Sound) (t : State) (ht : s.act f = .next t) :
    Inv t := by
  unfold State.act at ht
  rw [← Host.Outcome.next.inj ht]
  simp only [Inv]
  with_reducible apply settle_sound
  with_reducible apply hf
  exact ⟨h.regs, h.mem, h.flash, h.log, h.events, h.items, h.notes⟩

theorem execClearAliasWrite_inv (a0) (a1) (a2) (s : State) (h : Inv s) (t : State) (ht : execClearAliasWrite a0 a1 a2 s = .next t) : Inv t := by
  refine State.act_inv s _ h (fun d hd => ?_) t ht
  repeat' (first | (with_reducible assumption) | (with_reducible apply Dev.hubPut_sound))

theorem execParkRetry_inv (a0) (s : State) (h : Inv s) (t : State) (ht : execParkRetry a0 s = .next t) : Inv t := by
  refine State.act_inv s _ h (fun d hd => ?_) t ht
  repeat' (first | (with_reducible assumption) | (with_reducible apply Dev.parkRetry_sound))

theorem execZoneLockedRmw_inv (s : State) (h : Inv s) (t : State) (ht : execZoneLockedRmw s = .next t) : Inv t := by
  refine State.act_inv s _ h (fun d hd => ?_) t ht
  repeat' (first | (with_reducible assumption) | (with_reducible apply Dev.lockedStart_sound) | (fail_if_no_progress split))

theorem execSourceValid_inv (a0) (s : State) (h : Inv s) (t : State) (ht : execSourceValid a0 s = .next t) : Inv t := by
  refine State.act_inv s _ h (fun d hd => ?_) t ht
  repeat' (first | (with_reducible assumption) | (with_reducible apply Dev.setSource_sound) | (fail_if_no_progress split))

theorem execLockRelease_inv (a0) (s : State) (h : Inv s) (t : State) (ht : execLockRelease a0 s = .next t) : Inv t := by
  refine State.act_inv s _ h (fun d hd => ?_) t ht
  repeat' (first | (with_reducible assumption) | (with_reducible apply Dev.lockEnd_sound))

theorem execDrDiscardExpiry_inv (a0) (s : State) (h : Inv s) (t : State) (ht : execDrDiscardExpiry a0 s = .next t) : Inv t := by
  refine State.act_inv s _ h (fun d hd => ?_) t ht
  repeat' (first | (with_reducible assumption) | (with_reducible apply Dev.bump_sound) | (with_reducible apply Dev.freeDr_sound) | (fail_if_no_progress split))

theorem execTrlInsert_inv (s : State) (h : Inv s) (t : State) (ht : execTrlInsert s = .next t) : Inv t := by
  refine State.act_inv s _ h (fun d hd => ?_) t ht
  repeat' (first | (with_reducible assumption) | (with_reducible apply Dev.trlInsert_sound))

theorem execLockLimitExpiry_inv (a0) (s : State) (h : Inv s) (t : State) (ht : execLockLimitExpiry a0 s = .next t) : Inv t := by
  refine State.act_inv s _ h (fun d hd => ?_) t ht
  repeat' (first | (with_reducible assumption) | (with_reducible apply Dev.log_sound) | (with_reducible apply Dev.bump_sound) | (with_reducible apply Dev.breakLock_sound) | (fail_if_no_progress split))

theorem execMsixUnmask_inv (a0) (s : State) (h : Inv s) (t : State) (ht : execMsixUnmask a0 s = .next t) : Inv t := by
  refine State.act_inv s _ h (fun d hd => ?_) t ht
  repeat' (first | (with_reducible assumption) | (with_reducible apply Dev.onHp_sound) | (with_reducible apply Dev.sendPending_sound))

theorem execPlaneDisable_inv (a0) (a1) (a2) (s : State) (h : Inv s) (t : State) (ht : execPlaneDisable a0 a1 a2 s = .next t) : Inv t := by
  refine State.act_inv s _ h (fun d hd => ?_) t ht
  repeat' (first | (with_reducible assumption) | (with_reducible apply Dev.planeStop_sound))

theorem execWaitingReadRelease_inv (a0) (s : State) (h : Inv s) (t : State) (ht : execWaitingReadRelease a0 s = .next t) : Inv t := by
  refine State.act_inv s _ h (fun d hd => ?_) t ht
  repeat' (first | (with_reducible assumption) | (with_reducible apply Dev.finish_sound) | (with_reducible apply Dev.sendPeer_sound) | (with_reducible apply Dev.updReq_sound) | (fail_if_no_progress split))

theorem execHostFetchadd_inv (a0) (a1) (a2) (s : State) (h : Inv s) (t : State) (ht : execHostFetchadd a0 a1 a2 s = .next t) : Inv t := by
  refine State.act_inv s _ h (fun d hd => ?_) t ht
  repeat' (first | (with_reducible assumption) | (with_reducible apply Dev.hostAtomic_sound))

theorem execItemReady_inv (a0) (a1) (s : State) (h : Inv s) (t : State) (ht : execItemReady a0 a1 s = .next t) : Inv t := by
  refine State.act_inv s _ h (fun d hd => ?_) t ht
  repeat' (first | (with_reducible assumption) | (with_reducible apply Dev.itemReady_sound))

theorem execRateWrite_inv (a0) (s : State) (h : Inv s) (t : State) (ht : execRateWrite a0 s = .next t) : Inv t := by
  refine State.act_inv s _ h (fun d hd => ?_) t ht
  repeat' (first | (with_reducible assumption) | (with_reducible apply Dev.rateWrite_sound))

theorem execAuthGenerate_inv (a0) (s : State) (h : Inv s) (t : State) (ht : execAuthGenerate a0 s = .next t) : Inv t := by
  refine State.act_inv s _ h (fun d hd => ?_) t ht
  repeat' (first | (with_reducible assumption) | (with_reducible apply Dev.authRun_sound))

theorem execTwinPreferWait_inv (a0) (s : State) (h : Inv s) (t : State) (ht : execTwinPreferWait a0 s = .next t) : Inv t := by
  refine State.act_inv s _ h (fun d hd => ?_) t ht
  repeat' (first | (with_reducible assumption) | (with_reducible apply Dev.waitOver_sound) | (fail_if_no_progress split))

theorem execRw64HighWrite_inv (a0) (a1) (a2) (s : State) (h : Inv s) (t : State) (ht : execRw64HighWrite a0 a1 a2 s = .next t) : Inv t := by
  refine State.act_inv s _ h (fun d hd => ?_) t ht
  repeat' (first | (with_reducible assumption) | (with_reducible apply Dev.hubPut_sound))

theorem execCaptureRecordCommit_inv (a0) (s : State) (h : Inv s) (t : State) (ht : execCaptureRecordCommit a0 s = .next t) : Inv t := by
  refine State.act_inv s _ h (fun d hd => ?_) t ht
  repeat' (first | (with_reducible assumption) | (with_reducible apply Dev.capCommit_sound))

theorem execOutboundReadIssue_inv (a0) (s : State) (h : Inv s) (t : State) (ht : execOutboundReadIssue a0 s = .next t) : Inv t := by
  refine State.act_inv s _ h (fun d hd => ?_) t ht
  repeat' (first | (with_reducible assumption) | (with_reducible apply Dev.outboundRead_sound) | (fail_if_no_progress split))

theorem execTasGateChange_inv (a0) (s : State) (h : Inv s) (t : State) (ht : execTasGateChange a0 s = .next t) : Inv t := by
  refine State.act_inv s _ h (fun d hd => ?_) t ht
  repeat' (first | (with_reducible assumption) | (with_reducible apply Dev.tasChange_sound))

theorem execWbarTimeout_inv (a0) (a1) (s : State) (h : Inv s) (t : State) (ht : execWbarTimeout a0 a1 s = .next t) : Inv t := by
  refine State.act_inv s _ h (fun d hd => ?_) t ht
  repeat' (first | (with_reducible assumption) | (with_reducible apply Dev.log_sound) | (with_reducible apply Dev.wbarDone_sound) | (fail_if_no_progress split))

theorem execHelloReceive_inv (a0) (a1) (s : State) (h : Inv s) (t : State) (ht : execHelloReceive a0 a1 s = .next t) : Inv t := by
  refine State.act_inv s _ h (fun d hd => ?_) t ht
  repeat' (first | (with_reducible assumption) | (with_reducible apply Dev.hello_sound))

theorem execKeySlotErase_inv (a0) (a1) (s : State) (h : Inv s) (t : State) (ht : execKeySlotErase a0 a1 s = .next t) : Inv t := by
  refine State.act_inv s _ h (fun d hd => ?_) t ht
  repeat' (first | (with_reducible assumption) | (with_reducible apply Dev.keyCommit_sound))

theorem execIntAssert_inv (a0) (a1) (s : State) (h : Inv s) (t : State) (ht : execIntAssert a0 a1 s = .next t) : Inv t := by
  refine State.act_inv s _ h (fun d hd => ?_) t ht
  repeat' (first | (with_reducible assumption) | (with_reducible apply Dev.peerMessage_sound))

theorem execHostLinkUp_inv (a0) (a1) (s : State) (h : Inv s) (t : State) (ht : execHostLinkUp a0 a1 s = .next t) : Inv t := by
  refine State.act_inv s _ h (fun d hd => ?_) t ht
  repeat' (first | (with_reducible assumption) | (with_reducible apply Dev.onHp_sound) | (with_reducible apply Dev.trainHost_sound) | (fail_if_no_progress split))

theorem execItmMwr_inv (a0) (a1) (s : State) (h : Inv s) (t : State) (ht : execItmMwr a0 a1 s = .next t) : Inv t := by
  refine State.act_inv s _ h (fun d hd => ?_) t ht
  repeat' (first | (with_reducible assumption) | (with_reducible apply Dev.protoErr_sound) | (with_reducible apply Dev.peerRequest_sound) | (fail_if_no_progress split))

theorem execPrefetchExpiry_inv (a0) (s : State) (h : Inv s) (t : State) (ht : execPrefetchExpiry a0 s = .next t) : Inv t := by
  refine State.act_inv s _ h (fun d hd => ?_) t ht
  repeat' (first | (with_reducible assumption) | (with_reducible apply Dev.dropBlock_sound) | (fail_if_no_progress split))

theorem execResyncStart_inv (s : State) (h : Inv s) (t : State) (ht : execResyncStart s = .next t) : Inv t := by
  refine State.act_inv s _ h (fun d hd => ?_) t ht
  repeat' (first | (with_reducible assumption) | (with_reducible apply Dev.bulkCopy_sound) | (with_reducible apply Dev.onTwin_sound) | (fail_if_no_progress split))

theorem execEthTransmit_inv (a0) (s : State) (h : Inv s) (t : State) (ht : execEthTransmit a0 s = .next t) : Inv t := by
  refine State.act_inv s _ h (fun d hd => ?_) t ht
  repeat' (first | (with_reducible assumption) | (with_reducible apply Dev.ethStart_sound) | (with_reducible apply Dev.creditNow_sound) | (fail_if_no_progress split))

theorem execLirqEffect_inv (s : State) (h : Inv s) (t : State) (ht : execLirqEffect s = .next t) : Inv t := by
  refine State.act_inv s _ h (fun d hd => ?_) t ht
  repeat' (first | (with_reducible assumption) | (with_reducible apply Dev.updPin_sound) | (with_reducible apply Dev.onLbu_sound) | (fail_if_no_progress split))

theorem execPulseReturn_inv (a0) (s : State) (h : Inv s) (t : State) (ht : execPulseReturn a0 s = .next t) : Inv t := by
  refine State.act_inv s _ h (fun d hd => ?_) t ht
  repeat' (first | (with_reducible assumption) | (with_reducible apply Dev.pulseReturn_sound))

theorem execReplayTimeout_inv (a0) (a1) (s : State) (h : Inv s) (t : State) (ht : execReplayTimeout a0 a1 s = .next t) : Inv t := by
  refine State.act_inv s _ h (fun d hd => ?_) t ht
  repeat' (first | (with_reducible assumption) | (with_reducible apply Dev.replayFrom_sound))

theorem execStandbyEntry_inv (a0) (s : State) (h : Inv s) (t : State) (ht : execStandbyEntry a0 s = .next t) : Inv t := by
  refine State.act_inv s _ h (fun d hd => ?_) t ht
  repeat' (first | (with_reducible assumption) | (with_reducible apply Dev.sleepCommit_sound))

theorem execSchedulerEnable_inv (s : State) (h : Inv s) (t : State) (ht : execSchedulerEnable s = .next t) : Inv t := by
  refine State.act_inv s _ h (fun d hd => ?_) t ht
  repeat' (first | (with_reducible assumption) | (with_reducible apply Dev.enableSched_sound))

theorem execSweeperVisit_inv (s : State) (h : Inv s) (t : State) (ht : execSweeperVisit s = .next t) : Inv t := by
  refine State.act_inv s _ h (fun d hd => ?_) t ht
  repeat' (first | (with_reducible assumption) | (with_reducible apply Dev.sweepVisit_sound))

theorem execItmWbar_inv (a0) (a1) (s : State) (h : Inv s) (t : State) (ht : execItmWbar a0 a1 s = .next t) : Inv t := by
  refine State.act_inv s _ h (fun d hd => ?_) t ht
  repeat' (first | (with_reducible assumption) | (with_reducible apply Dev.peerMessage_sound))

theorem execDelayReqSend_inv (a0) (s : State) (h : Inv s) (t : State) (ht : execDelayReqSend a0 s = .next t) : Inv t := by
  refine State.act_inv s _ h (fun d hd => ?_) t ht
  repeat' (first | (with_reducible assumption) | (with_reducible apply Dev.bump_sound) | (with_reducible apply Dev.onLink_sound) | (with_reducible apply Dev.emit_sound) | (fail_if_no_progress split))

theorem execItmFetchadd_inv (a0) (a1) (s : State) (h : Inv s) (t : State) (ht : execItmFetchadd a0 a1 s = .next t) : Inv t := by
  refine State.act_inv s _ h (fun d hd => ?_) t ht
  repeat' (first | (with_reducible assumption) | (with_reducible apply Dev.peerRequest_sound))

theorem execLinkRetrain_inv (a0) (a1) (s : State) (h : Inv s) (t : State) (ht : execLinkRetrain a0 a1 s = .next t) : Inv t := by
  refine State.act_inv s _ h (fun d hd => ?_) t ht
  repeat' (first | (with_reducible assumption) | (with_reducible apply Dev.trainHost_sound) | (fail_if_no_progress split))

theorem execEthEgress_inv (a0) (a1) (s : State) (h : Inv s) (t : State) (ht : execEthEgress a0 a1 s = .next t) : Inv t := by
  refine State.act_inv s _ h (fun d hd => ?_) t ht
  repeat' (first | (with_reducible assumption) | (with_reducible apply Dev.xferTaken_sound) | (with_reducible apply Dev.ethTake_sound) | (fail_if_no_progress split))

theorem execSlotArm_inv (a0) (s : State) (h : Inv s) (t : State) (ht : execSlotArm a0 s = .next t) : Inv t := by
  refine State.act_inv s _ h (fun d hd => ?_) t ht
  repeat' (first | (with_reducible assumption) | (with_reducible apply Dev.armWrite_sound))

theorem execCanBusOff_inv (a0) (s : State) (h : Inv s) (t : State) (ht : execCanBusOff a0 s = .next t) : Inv t := by
  refine State.act_inv s _ h (fun d hd => ?_) t ht
  repeat' (first | (with_reducible assumption) | (with_reducible apply Dev.canBusOff_sound) | (fail_if_no_progress split))

theorem execCanTxDone_inv (a0) (s : State) (h : Inv s) (t : State) (ht : execCanTxDone a0 s = .next t) : Inv t := by
  refine State.act_inv s _ h (fun d hd => ?_) t ht
  repeat' (first | (with_reducible assumption) | (with_reducible apply Dev.canSent_sound) | (fail_if_no_progress split))

theorem execTxload_inv (a0) (a1) (s : State) (h : Inv s) (t : State) (ht : execTxload a0 a1 s = .next t) : Inv t := by
  refine State.act_inv s _ h (fun d hd => ?_) t ht
  repeat' (first | (with_reducible assumption) | (with_reducible apply Dev.txLoad_sound))

theorem execReservationExpiry_inv (a0) (a1) (s : State) (h : Inv s) (t : State) (ht : execReservationExpiry a0 a1 s = .next t) : Inv t := by
  refine State.act_inv s _ h (fun d hd => ?_) t ht
  repeat' (first | (with_reducible assumption) | (with_reducible apply Dev.loseRsv_sound))

theorem execTakeover_inv (s : State) (h : Inv s) (t : State) (ht : execTakeover s = .next t) : Inv t := by
  refine State.act_inv s _ h (fun d hd => ?_) t ht
  repeat' (first | (with_reducible assumption) | (with_reducible apply Dev.onTwin_sound) | (with_reducible apply Dev.takeover_sound) | (fail_if_no_progress split))

theorem execStateStreamTimeout_inv (s : State) (h : Inv s) (t : State) (ht : execStateStreamTimeout s = .next t) : Inv t := by
  refine State.act_inv s _ h (fun d hd => ?_) t ht
  repeat' (first | (with_reducible assumption) | (with_reducible apply Dev.enterUnsync_sound) | (fail_if_no_progress split))

theorem execInbWatchdogExpiry_inv (a0) (s : State) (h : Inv s) (t : State) (ht : execInbWatchdogExpiry a0 s = .next t) : Inv t := by
  refine State.act_inv s _ h (fun d hd => ?_) t ht
  repeat' (first | (with_reducible assumption) | (with_reducible apply Dev.watchdog_sound) | (fail_if_no_progress split))

theorem execHeartbeatSend_inv (s : State) (h : Inv s) (t : State) (ht : execHeartbeatSend s = .next t) : Inv t := by
  refine State.act_inv s _ h (fun d hd => ?_) t ht
  repeat' (first | (with_reducible assumption) | (with_reducible apply Dev.sendRec_sound))

theorem execEventDispatch_inv (s : State) (h : Inv s) (t : State) (ht : execEventDispatch s = .next t) : Inv t := by
  refine State.act_inv s _ h (fun d hd => ?_) t ht
  repeat' (first | (with_reducible assumption) | (with_reducible apply Dev.dispatch_sound) | (fail_if_no_progress split))

theorem execArcadeHeartbeatMissing_inv (s : State) (h : Inv s) (t : State) (ht : execArcadeHeartbeatMissing s = .next t) : Inv t := by
  refine State.act_inv s _ h (fun d hd => ?_) t ht
  repeat' (first | (with_reducible assumption) | (with_reducible apply Dev.onDep_sound) | (fail_if_no_progress split) | (show _ = _; rfl))

theorem execCwbLineAgeExpiry_inv (a0) (a1) (s : State) (h : Inv s) (t : State) (ht : execCwbLineAgeExpiry a0 a1 s = .next t) : Inv t := by
  refine State.act_inv s _ h (fun d hd => ?_) t ht
  repeat' (first | (with_reducible assumption) | (with_reducible apply Dev.emitLine_sound) | (fail_if_no_progress split))

theorem execZoneRequestStart_inv (s : State) (h : Inv s) (t : State) (ht : execZoneRequestStart s = .next t) : Inv t := by
  refine State.act_inv s _ h (fun d hd => ?_) t ht
  repeat' (first | (with_reducible assumption) | (with_reducible apply Dev.driveCycle_sound) | (with_reducible apply Dev.onLbu_sound) | (with_reducible apply Dev.zoneStart_sound) | (fail_if_no_progress split))

theorem execCanBusRecovery_inv (a0) (s : State) (h : Inv s) (t : State) (ht : execCanBusRecovery a0 s = .next t) : Inv t := by
  refine State.act_inv s _ h (fun d hd => ?_) t ht
  repeat' (first | (with_reducible assumption) | (with_reducible apply Dev.canReturn_sound) | (fail_if_no_progress split))

theorem execPduCyclicSend_inv (a0) (s : State) (h : Inv s) (t : State) (ht : execPduCyclicSend a0 s = .next t) : Inv t := by
  refine State.act_inv s _ h (fun d hd => ?_) t ht
  repeat' (first | (with_reducible assumption) | (with_reducible apply Dev.pduDue_sound) | (fail_if_no_progress split))

theorem execEthFrameRx_inv (a0) (a1) (a2) (s : State) (h : Inv s) (t : State) (ht : execEthFrameRx a0 a1 a2 s = .next t) : Inv t := by
  refine State.act_inv s _ h (fun d hd => ?_) t ht
  repeat' (first | (with_reducible assumption) | (with_reducible apply Dev.ethRx_sound))

theorem execSlewWrite_inv (a0) (s : State) (h : Inv s) (t : State) (ht : execSlewWrite a0 s = .next t) : Inv t := by
  refine State.act_inv s _ h (fun d hd => ?_) t ht
  repeat' (first | (with_reducible assumption) | (with_reducible apply Dev.slewWrite_sound))

theorem execKioskLockoutExpiry_inv (s : State) (h : Inv s) (t : State) (ht : execKioskLockoutExpiry s = .next t) : Inv t := by
  refine State.act_inv s _ h (fun d hd => ?_) t ht
  repeat' (first | (with_reducible assumption) | (with_reducible apply Dev.setFld_sound))

theorem execZoneTimeout_inv (a0) (s : State) (h : Inv s) (t : State) (ht : execZoneTimeout a0 s = .next t) : Inv t := by
  refine State.act_inv s _ h (fun d hd => ?_) t ht
  repeat' (first | (with_reducible assumption) | (with_reducible apply Dev.zoneTimeout_sound) | (fail_if_no_progress split))

theorem execGzbPiWrite_inv (a0) (a1) (s : State) (h : Inv s) (t : State) (ht : execGzbPiWrite a0 a1 s = .next t) : Inv t := by
  refine State.act_inv s _ h (fun d hd => ?_) t ht
  repeat' (first | (with_reducible assumption) | (with_reducible apply Dev.piWrite_sound))

theorem execVtStep_inv (a0) (a1) (s : State) (h : Inv s) (t : State) (ht : execVtStep a0 a1 s = .next t) : Inv t := by
  refine State.act_inv s _ h (fun d hd => ?_) t ht
  repeat' (first | (with_reducible assumption) | (with_reducible apply Dev.stepCtlWrite_sound))

theorem execHostLinkLoss_inv (a0) (s : State) (h : Inv s) (t : State) (ht : execHostLinkLoss a0 s = .next t) : Inv t := by
  refine State.act_inv s _ h (fun d hd => ?_) t ht
  repeat' (first | (with_reducible assumption) | (with_reducible apply Dev.functionReset_sound) | (with_reducible apply Dev.hostLinkDown_sound) | (with_reducible apply Dev.onHp_sound))

theorem execIntEoi_inv (a0) (s : State) (h : Inv s) (t : State) (ht : execIntEoi a0 s = .next t) : Inv t := by
  refine State.act_inv s _ h (fun d hd => ?_) t ht
  repeat' (first | (with_reducible assumption) | (with_reducible apply Dev.eoi_sound))

theorem execSourceInvalid_inv (a0) (s : State) (h : Inv s) (t : State) (ht : execSourceInvalid a0 s = .next t) : Inv t := by
  refine State.act_inv s _ h (fun d hd => ?_) t ht
  repeat' (first | (with_reducible assumption) | (with_reducible apply Dev.setSource_sound))

theorem execLresetRelease_inv (s : State) (h : Inv s) (t : State) (ht : execLresetRelease s = .next t) : Inv t := by
  refine State.act_inv s _ h (fun d hd => ?_) t ht
  repeat' (first | (with_reducible assumption) | (with_reducible apply Dev.onLbu_sound) | (fail_if_no_progress split))

theorem execPlaneFault_inv (a0) (s : State) (h : Inv s) (t : State) (ht : execPlaneFault a0 s = .next t) : Inv t := by
  refine State.act_inv s _ h (fun d hd => ?_) t ht
  repeat' (first | (with_reducible assumption) | (with_reducible apply Dev.onDep_sound) | (show _ = _; rfl))

theorem execItmSwap_inv (a0) (a1) (s : State) (h : Inv s) (t : State) (ht : execItmSwap a0 a1 s = .next t) : Inv t := by
  refine State.act_inv s _ h (fun d hd => ?_) t ht
  repeat' (first | (with_reducible assumption) | (with_reducible apply Dev.peerRequest_sound))

theorem execRestoreFactory_inv (s : State) (h : Inv s) (t : State) (ht : execRestoreFactory s = .next t) : Inv t := by
  refine State.act_inv s _ h (fun d hd => ?_) t ht
  repeat' (first | (with_reducible assumption) | (with_reducible apply Dev.eraseStart_sound))

theorem execLirqSample_inv (a0) (a1) (s : State) (h : Inv s) (t : State) (ht : execLirqSample a0 a1 s = .next t) : Inv t := by
  refine State.act_inv s _ h (fun d hd => ?_) t ht
  repeat' (first | (with_reducible assumption) | (with_reducible apply Dev.updPin_sound) | (with_reducible apply Dev.onFab_sound) | (fail_if_no_progress split))

theorem execResetDrainEnd_inv (a0) (s : State) (h : Inv s) (t : State) (ht : execResetDrainEnd a0 s = .next t) : Inv t := by
  refine State.act_inv s _ h (fun d hd => ?_) t ht
  repeat' (first | (with_reducible assumption) | (with_reducible apply Dev.retryHeld_sound) | (with_reducible apply Dev.warmAndStart_sound) | (with_reducible apply Dev.onLdg_sound) | (with_reducible apply Dev.blockReset_sound) | (with_reducible apply Dev.drainEnd_sound) | (fail_if_no_progress split) | (show _ = _; rfl))

theorem execD3hotEntry_inv (s : State) (h : Inv s) (t : State) (ht : execD3hotEntry s = .next t) : Inv t := by
  refine State.act_inv s _ h (fun d hd => ?_) t ht
  repeat' (first | (with_reducible assumption) | (with_reducible apply Dev.enterD3_sound))

theorem execHostMwr_inv (a0) (a1) (s : State) (h : Inv s) (t : State) (ht : execHostMwr a0 a1 s = .next t) : Inv t := by
  refine State.act_inv s _ h (fun d hd => ?_) t ht
  repeat' (first | (with_reducible assumption) | (with_reducible apply Dev.hostWrite_sound))

theorem execSlavePostedWrite_inv (a0) (a1) (s : State) (h : Inv s) (t : State) (ht : execSlavePostedWrite a0 a1 s = .next t) : Inv t := by
  refine State.act_inv s _ h (fun d hd => ?_) t ht
  repeat' (first | (with_reducible assumption) | (with_reducible apply Dev.slaveWrite_sound))

theorem execHostIoRequest_inv (a0) (a1) (a2) (s : State) (h : Inv s) (t : State) (ht : execHostIoRequest a0 a1 a2 s = .next t) : Inv t := by
  refine State.act_inv s _ h (fun d hd => ?_) t ht
  repeat' (first | (with_reducible assumption) | (with_reducible apply Dev.hostRefuse_sound))

theorem execSleep_inv (a0) (s : State) (h : Inv s) (t : State) (ht : execSleep a0 s = .next t) : Inv t := by
  refine State.act_inv s _ h (fun d hd => ?_) t ht
  repeat' (first | (with_reducible assumption) | (with_reducible apply Dev.sleepStage_sound) | (with_reducible apply Dev.mbxEnd_sound) | (fail_if_no_progress split))

theorem execCapturePop_inv (s : State) (h : Inv s) (t : State) (ht : execCapturePop s = .next t) : Inv t := by
  refine State.act_inv s _ h (fun d hd => ?_) t ht
  repeat' (first | (with_reducible assumption) | (with_reducible apply Dev.onBlv_sound))

theorem execOutboundCompletion_inv (a0) (a1) (a2) (s : State) (h : Inv s) (t : State) (ht : execOutboundCompletion a0 a1 a2 s = .next t) : Inv t := by
  refine State.act_inv s _ h (fun d hd => ?_) t ht
  repeat' (first | (with_reducible assumption) | (with_reducible apply Dev.outboundCpl_sound) | (fail_if_no_progress split))

theorem execSlotWrite_inv (a0) (a1) (a2) (a3) (s : State) (h : Inv s) (t : State) (ht : execSlotWrite a0 a1 a2 a3 s = .next t) : Inv t := by
  refine State.act_inv s _ h (fun d hd => ?_) t ht
  repeat' (first | (with_reducible assumption) | (with_reducible apply Dev.slotWrite_sound))

theorem execKeySlotLoad_inv (a0) (a1) (s : State) (h : Inv s) (t : State) (ht : execKeySlotLoad a0 a1 s = .next t) : Inv t := by
  refine State.act_inv s _ h (fun d hd => ?_) t ht
  repeat' (first | (with_reducible assumption) | (with_reducible apply Dev.keyCommit_sound))

theorem execTioCapture_inv (a0) (a1) (s : State) (h : Inv s) (t : State) (ht : execTioCapture a0 a1 s = .next t) : Inv t := by
  refine State.act_inv s _ h (fun d hd => ?_) t ht
  repeat' (first | (with_reducible assumption) | (with_reducible apply Dev.capture_sound) | (fail_if_no_progress split))

theorem execTrlLookup_inv (s : State) (h : Inv s) (t : State) (ht : execTrlLookup s = .next t) : Inv t := by
  refine State.act_inv s _ h (fun d hd => ?_) t ht
  repeat' (first | (with_reducible assumption) | (with_reducible apply Dev.trlLookup_sound))

theorem execItemStart_inv (s : State) (h : Inv s) (t : State) (ht : execItemStart s = .next t) : Inv t := by
  refine State.act_inv s _ h (fun d hd => ?_) t ht
  repeat' (first | (with_reducible assumption) | (with_reducible apply Dev.itemStart_sound))

theorem execSetAliasWrite_inv (a0) (a1) (a2) (s : State) (h : Inv s) (t : State) (ht : execSetAliasWrite a0 a1 a2 s = .next t) : Inv t := by
  refine State.act_inv s _ h (fun d hd => ?_) t ht
  repeat' (first | (with_reducible assumption) | (with_reducible apply Dev.hubPut_sound))

theorem execHostConfigRequest_inv (a0) (s : State) (h : Inv s) (t : State) (ht : execHostConfigRequest a0 s = .next t) : Inv t := by
  refine State.act_inv s _ h (fun d hd => ?_) t ht
  repeat' (first | (with_reducible assumption) | (with_reducible apply Dev.tick_sound) | (with_reducible apply Dev.onHp_sound) | (with_reducible apply Dev.enterD3_sound) | (with_reducible apply Dev.sendPending_sound) | (with_reducible apply Dev.emit_sound) | (fail_if_no_progress split))

theorem execGzbRunStart_inv (s : State) (h : Inv s) (t : State) (ht : execGzbRunStart s = .next t) : Inv t := by
  refine State.act_inv s _ h (fun d hd => ?_) t ht
  repeat' (first | (with_reducible assumption) | (with_reducible apply Dev.startRun_sound))

theorem execClockOutOfRange_inv (a0) (s : State) (h : Inv s) (t : State) (ht : execClockOutOfRange a0 s = .next t) : Inv t := by
  refine State.act_inv s _ h (fun d hd => ?_) t ht
  repeat' (first | (with_reducible assumption) | (with_reducible apply Dev.onDep_sound) | (show _ = _; rfl))

theorem execLinDomStuck_inv (a0) (a1) (s : State) (h : Inv s) (t : State) (ht : execLinDomStuck a0 a1 s = .next t) : Inv t := by
  refine State.act_inv s _ h (fun d hd => ?_) t ht
  repeat' (first | (with_reducible assumption) | (with_reducible apply Dev.onLin_sound))

theorem execKioskIdleTimeout_inv (s : State) (h : Inv s) (t : State) (ht : execKioskIdleTimeout s = .next t) : Inv t := by
  refine State.act_inv s _ h (fun d hd => ?_) t ht
  repeat' (first | (with_reducible assumption) | (with_reducible apply Dev.setFld_sound) | (fail_if_no_progress split))

theorem execGenAdvance_inv (s : State) (h : Inv s) (t : State) (ht : execGenAdvance s = .next t) : Inv t := by
  refine State.act_inv s _ h (fun d hd => ?_) t ht
  repeat' (first | (with_reducible assumption) | (with_reducible apply Dev.genAdvance_sound))

theorem execRetrainReq_inv (a0) (s : State) (h : Inv s) (t : State) (ht : execRetrainReq a0 s = .next t) : Inv t := by
  refine State.act_inv s _ h (fun d hd => ?_) t ht
  repeat' (first | (with_reducible assumption) | (with_reducible apply Dev.enterRetrain_sound) | (fail_if_no_progress split))

theorem execMacsecTx_inv (a0) (s : State) (h : Inv s) (t : State) (ht : execMacsecTx a0 s = .next t) : Inv t := by
  refine State.act_inv s _ h (fun d hd => ?_) t ht
  repeat' (first | (with_reducible assumption) | (with_reducible apply Dev.secTx_sound))

theorem execSlaveFlushCycle_inv (a0) (s : State) (h : Inv s) (t : State) (ht : execSlaveFlushCycle a0 s = .next t) : Inv t := by
  refine State.act_inv s _ h (fun d hd => ?_) t ht
  repeat' (first | (with_reducible assumption) | (with_reducible apply Dev.slaveRead_sound))

theorem execLbusCycleTermination_inv (a0) (a1) (a2) (s : State) (h : Inv s) (t : State) (ht : execLbusCycleTermination a0 a1 a2 s = .next t) : Inv t := by
  refine State.act_inv s _ h (fun d hd => ?_) t ht
  repeat' (first | (with_reducible assumption) | (with_reducible apply Dev.terminate_sound) | (fail_if_no_progress split))

theorem execSupplyCollapse_inv (s : State) (h : Inv s) (t : State) (ht : execSupplyCollapse s = .next t) : Inv t := by
  refine State.act_inv s _ h (fun d hd => ?_) t ht
  repeat' (first | (with_reducible assumption) | (with_reducible apply Dev.onLdg_sound) | (with_reducible apply Dev.coldReset_sound) | (show _ = _; rfl))

theorem execItmMwrNp_inv (a0) (a1) (s : State) (h : Inv s) (t : State) (ht : execItmMwrNp a0 a1 s = .next t) : Inv t := by
  refine State.act_inv s _ h (fun d hd => ?_) t ht
  repeat' (first | (with_reducible assumption) | (with_reducible apply Dev.peerRequest_sound))

theorem execStateHeartbeat_inv (a0) (s : State) (h : Inv s) (t : State) (ht : execStateHeartbeat a0 s = .next t) : Inv t := by
  refine State.act_inv s _ h (fun d hd => ?_) t ht
  repeat' (first | (with_reducible assumption) | (with_reducible apply Dev.recvRec_sound) | (simp; done))

theorem execFunctionLevelReset_inv (s : State) (h : Inv s) (t : State) (ht : execFunctionLevelReset s = .next t) : Inv t := by
  refine State.act_inv s _ h (fun d hd => ?_) t ht
  repeat' (first | (with_reducible assumption) | (with_reducible apply Dev.functionReset_sound))

theorem execGzbHalt_inv (a0) (s : State) (h : Inv s) (t : State) (ht : execGzbHalt a0 s = .next t) : Inv t := by
  refine State.act_inv s _ h (fun d hd => ?_) t ht
  repeat' (first | (with_reducible assumption) | (with_reducible apply Dev.gzbReturn_sound) | (fail_if_no_progress split))

theorem execLinScheduleEntry_inv (a0) (s : State) (h : Inv s) (t : State) (ht : execLinScheduleEntry a0 s = .next t) : Inv t := by
  refine State.act_inv s _ h (fun d hd => ?_) t ht
  repeat' (first | (with_reducible assumption) | (with_reducible apply Dev.linStep_sound))

theorem execBlockReset_inv (a0) (s : State) (h : Inv s) (t : State) (ht : execBlockReset a0 s = .next t) : Inv t := by
  refine State.act_inv s _ h (fun d hd => ?_) t ht
  repeat' (first | (with_reducible assumption) | (with_reducible apply Dev.resetCommit_sound))

theorem execKeyOpDone_inv (s : State) (h : Inv s) (t : State) (ht : execKeyOpDone s = .next t) : Inv t := by
  refine State.act_inv s _ h (fun d hd => ?_) t ht
  repeat' (first | (with_reducible assumption) | (with_reducible apply Dev.keyDone_sound))

theorem execRetryReissue_inv (s : State) (h : Inv s) (t : State) (ht : execRetryReissue s = .next t) : Inv t := by
  refine State.act_inv s _ h (fun d hd => ?_) t ht
  repeat' (first | (with_reducible assumption) | (with_reducible apply Dev.driveCycle_sound) | (with_reducible apply Dev.timedRetried_sound) | (with_reducible apply Dev.onLbu_sound) | (fail_if_no_progress split))

theorem execElPop_inv (a0) (s : State) (h : Inv s) (t : State) (ht : execElPop a0 s = .next t) : Inv t := by
  refine State.act_inv s _ h (fun d hd => ?_) t ht
  repeat' (first | (with_reducible assumption) | (with_reducible apply Dev.elPop_sound))

theorem execHostSemClaim_inv (a0) (a1) (s : State) (h : Inv s) (t : State) (ht : execHostSemClaim a0 a1 s = .next t) : Inv t := by
  refine State.act_inv s _ h (fun d hd => ?_) t ht
  repeat' (first | (with_reducible assumption) | (with_reducible apply Dev.semClaim_sound))

theorem execDramDriftCheck_inv (a0) (a1) (a2) (s : State) (h : Inv s) (t : State) (ht : execDramDriftCheck a0 a1 a2 s = .next t) : Inv t := by
  refine State.act_inv s _ h (fun d hd => ?_) t ht
  repeat' (first | (with_reducible assumption) | (with_reducible apply Dev.bump_sound) | (with_reducible apply Dev.setFld_sound) | (with_reducible apply Dev.onDep_sound) | (fail_if_no_progress split) | (show _ = _; rfl))

theorem execKioskReboot_inv (s : State) (h : Inv s) (t : State) (ht : execKioskReboot s = .next t) : Inv t := by
  refine State.act_inv s _ h (fun d hd => ?_) t ht
  repeat' (first | (with_reducible assumption) | (with_reducible apply Dev.warmStart_sound) | (with_reducible apply Dev.kiosk_sound))

theorem execTimeSyncSend_inv (a0) (s : State) (h : Inv s) (t : State) (ht : execTimeSyncSend a0 s = .next t) : Inv t := by
  refine State.act_inv s _ h (fun d hd => ?_) t ht
  repeat' (first | (with_reducible assumption) | (with_reducible apply Dev.sendSync_sound))

theorem execCanReleaseExecute_inv (s : State) (h : Inv s) (t : State) (ht : execCanReleaseExecute s = .next t) : Inv t := by
  refine State.act_inv s _ h (fun d hd => ?_) t ht
  repeat' (first | (with_reducible assumption) | (with_reducible apply Dev.runCan_sound))

theorem execTunnelFlush_inv (a0) (s : State) (h : Inv s) (t : State) (ht : execTunnelFlush a0 s = .next t) : Inv t := by
  refine State.act_inv s _ h (fun d hd => ?_) t ht
  repeat' (first | (with_reducible assumption) | (with_reducible apply Dev.tunFlush_sound) | (fail_if_no_progress split))

theorem execSlaveSlotCollect_inv (a0) (a1) (s : State) (h : Inv s) (t : State) (ht : execSlaveSlotCollect a0 a1 s = .next t) : Inv t := by
  refine State.act_inv s _ h (fun d hd => ?_) t ht
  repeat' (first | (with_reducible assumption) | (with_reducible apply Dev.slaveNew_sound))

theorem execItemSwitchOff_inv (s : State) (h : Inv s) (t : State) (ht : execItemSwitchOff s = .next t) : Inv t := by
  refine State.act_inv s _ h (fun d hd => ?_) t ht
  repeat' (first | (with_reducible assumption) | (with_reducible apply Dev.switchOff_sound))

theorem execTunnelEgress_inv (a0) (a1) (s : State) (h : Inv s) (t : State) (ht : execTunnelEgress a0 a1 s = .next t) : Inv t := by
  refine State.act_inv s _ h (fun d hd => ?_) t ht
  repeat' (first | (with_reducible assumption) | (with_reducible apply Dev.tunTake_sound) | (with_reducible apply Dev.xferTaken_sound) | (fail_if_no_progress split))

theorem execLclkRecovery_inv (s : State) (h : Inv s) (t : State) (ht : execLclkRecovery s = .next t) : Inv t := by
  refine State.act_inv s _ h (fun d hd => ?_) t ht
  repeat' (first | (with_reducible assumption) | (with_reducible apply Dev.onLbu_sound))

theorem execLinNoResponse_inv (a0) (s : State) (h : Inv s) (t : State) (ht : execLinNoResponse a0 s = .next t) : Inv t := by
  refine State.act_inv s _ h (fun d hd => ?_) t ht
  repeat' (first | (with_reducible assumption) | (with_reducible apply Dev.bump_sound) | (with_reducible apply Dev.onLin_sound) | (fail_if_no_progress split))

theorem execTwinTieRound_inv (a0) (s : State) (h : Inv s) (t : State) (ht : execTwinTieRound a0 s = .next t) : Inv t := by
  refine State.act_inv s _ h (fun d hd => ?_) t ht
  repeat' (first | (with_reducible assumption) | (with_reducible apply Dev.waitOver_sound) | (fail_if_no_progress split))

theorem execHpReconfig_inv (s : State) (h : Inv s) (t : State) (ht : execHpReconfig s = .next t) : Inv t := by
  refine State.act_inv s _ h (fun d hd => ?_) t ht
  repeat' (first | (with_reducible assumption) | (with_reducible apply Dev.setFld_sound) | (with_reducible apply Dev.onHp_sound) | (with_reducible apply Dev.applyRecords_sound) | (fail_if_no_progress split))

theorem execPhyWake_inv (a0) (a1) (a2) (a3) (s : State) (h : Inv s) (t : State) (ht : execPhyWake a0 a1 a2 a3 s = .next t) : Inv t := by
  refine State.act_inv s _ h (fun d hd => ?_) t ht
  repeat' (first | (with_reducible assumption) | (with_reducible apply Dev.wakeEvent_sound) | (fail_if_no_progress split))

theorem execLclkLoss_inv (s : State) (h : Inv s) (t : State) (ht : execLclkLoss s = .next t) : Inv t := by
  refine State.act_inv s _ h (fun d hd => ?_) t ht
  repeat' (first | (with_reducible assumption) | (with_reducible apply Dev.clockLost_sound) | (fail_if_no_progress split))

theorem execCalEraseDone_inv (s : State) (h : Inv s) (t : State) (ht : execCalEraseDone s = .next t) : Inv t := by
  refine State.act_inv s _ h (fun d hd => ?_) t ht
  repeat' (first | (with_reducible assumption) | (with_reducible apply Dev.eraseEnd_sound))

theorem execCanFrameRx_inv (a0) (a1) (a2) (s : State) (h : Inv s) (t : State) (ht : execCanFrameRx a0 a1 a2 s = .next t) : Inv t := by
  refine State.act_inv s _ h (fun d hd => ?_) t ht
  repeat' (first | (with_reducible assumption) | (with_reducible apply Dev.canRx_sound))

theorem execSafeRestart_inv (a0) (s : State) (h : Inv s) (t : State) (ht : execSafeRestart a0 s = .next t) : Inv t := by
  refine State.act_inv s _ h (fun d hd => ?_) t ht
  repeat' (first | (with_reducible assumption) | (with_reducible apply Dev.resetAndStart_sound) | (fail_if_no_progress split))

theorem execGzbHandback_inv (a0) (s : State) (h : Inv s) (t : State) (ht : execGzbHandback a0 s = .next t) : Inv t := by
  refine State.act_inv s _ h (fun d hd => ?_) t ht
  repeat' (first | (with_reducible assumption) | (with_reducible apply Dev.handback_sound))

theorem execRevertHoldExpiry_inv (s : State) (h : Inv s) (t : State) (ht : execRevertHoldExpiry s = .next t) : Inv t := by
  refine State.act_inv s _ h (fun d hd => ?_) t ht
  repeat' (first | (with_reducible assumption) | (with_reducible apply Dev.useSource_sound) | (fail_if_no_progress split))

theorem execCanTransmit_inv (a0) (s : State) (h : Inv s) (t : State) (ht : execCanTransmit a0 s = .next t) : Inv t := by
  refine State.act_inv s _ h (fun d hd => ?_) t ht
  repeat' (first | (with_reducible assumption) | (with_reducible apply Dev.canChoose_sound) | (fail_if_no_progress split))

theorem execMaskedWrite_inv (a0) (a1) (a2) (s : State) (h : Inv s) (t : State) (ht : execMaskedWrite a0 a1 a2 s = .next t) : Inv t := by
  refine State.act_inv s _ h (fun d hd => ?_) t ht
  repeat' (first | (with_reducible assumption) | (with_reducible apply Dev.hubPut_sound))

theorem execAgePromoteExpiry_inv (a0) (s : State) (h : Inv s) (t : State) (ht : execAgePromoteExpiry a0 s = .next t) : Inv t := by
  refine State.act_inv s _ h (fun d hd => ?_) t ht
  repeat' (first | (with_reducible assumption) | (with_reducible apply Dev.onFrm_sound) | (with_reducible apply Dev.bump_sound) | (with_reducible apply Dev.onLbu_sound) | (fail_if_no_progress split))

theorem execExtGrant_inv (a0) (s : State) (h : Inv s) (t : State) (ht : execExtGrant a0 s = .next t) : Inv t := by
  refine State.act_inv s _ h (fun d hd => ?_) t ht
  repeat' (first | (with_reducible assumption) | (with_reducible apply Dev.onLbu_sound) | (fail_if_no_progress split))

theorem execIntVectorWrite_inv (a0) (a1) (a2) (a3) (s : State) (h : Inv s) (t : State) (ht : execIntVectorWrite a0 a1 a2 a3 s = .next t) : Inv t := by
  refine State.act_inv s _ h (fun d hd => ?_) t ht
  repeat' (first | (with_reducible assumption) | (with_reducible apply Dev.vectorWrite_sound))

theorem execLockstepMismatch_inv (s : State) (h : Inv s) (t : State) (ht : execLockstepMismatch s = .next t) : Inv t := by
  refine State.act_inv s _ h (fun d hd => ?_) t ht
  repeat' (first | (with_reducible assumption) | (with_reducible apply Dev.onDep_sound) | (show _ = _; rfl))

theorem execMirrorAckTimeout_inv (a0) (s : State) (h : Inv s) (t : State) (ht : execMirrorAckTimeout a0 s = .next t) : Inv t := by
  refine State.act_inv s _ h (fun d hd => ?_) t ht
  repeat' (first | (with_reducible assumption) | (with_reducible apply Dev.unprotect_sound) | (fail_if_no_progress split))

theorem execSlaveLockedCycle_inv (a0) (a1) (s : State) (h : Inv s) (t : State) (ht : execSlaveLockedCycle a0 a1 s = .next t) : Inv t := by
  refine State.act_inv s _ h (fun d hd => ?_) t ht
  repeat' (first | (with_reducible assumption) | (with_reducible apply Dev.slaveNew_sound))

theorem execDrCompletion_inv (a0) (s : State) (h : Inv s) (t : State) (ht : execDrCompletion a0 s = .next t) : Inv t := by
  refine State.act_inv s _ h (fun d hd => ?_) t ht
  repeat' (first | (with_reducible assumption) | (with_reducible apply Dev.drArrive_sound) | (fail_if_no_progress split))

theorem execTrlDelete_inv (s : State) (h : Inv s) (t : State) (ht : execTrlDelete s = .next t) : Inv t := by
  refine State.act_inv s _ h (fun d hd => ?_) t ht
  repeat' (first | (with_reducible assumption) | (with_reducible apply Dev.trlDelete_sound))

theorem execGzbChannelCtl_inv (a0) (a1) (s : State) (h : Inv s) (t : State) (ht : execGzbChannelCtl a0 a1 s = .next t) : Inv t := by
  refine State.act_inv s _ h (fun d hd => ?_) t ht
  repeat' (first | (with_reducible assumption) | (with_reducible apply Dev.chanCtl_sound))

theorem execRetrainTimeout_inv (a0) (s : State) (h : Inv s) (t : State) (ht : execRetrainTimeout a0 s = .next t) : Inv t := by
  refine State.act_inv s _ h (fun d hd => ?_) t ht
  repeat' (first | (with_reducible assumption) | (with_reducible apply Dev.linkDown_sound) | (fail_if_no_progress split))

theorem execOutboundWrite_inv (a0) (s : State) (h : Inv s) (t : State) (ht : execOutboundWrite a0 s = .next t) : Inv t := by
  refine State.act_inv s _ h (fun d hd => ?_) t ht
  repeat' (first | (with_reducible assumption) | (with_reducible apply Dev.outboundWrite_sound) | (fail_if_no_progress split))

theorem execVtLoRead_inv (a0) (s : State) (h : Inv s) (t : State) (ht : execVtLoRead a0 s = .next t) : Inv t := by
  refine State.act_inv s _ h (fun d hd => ?_) t ht
  repeat' (first | (with_reducible assumption) | (with_reducible apply Dev.hubRead_sound) | (with_reducible apply Dev.emit_sound))

theorem execSwapIn_inv (a0) (a1) (s : State) (h : Inv s) (t : State) (ht : execSwapIn a0 a1 s = .next t) : Inv t := by
  refine State.act_inv s _ h (fun d hd => ?_) t ht
  repeat' (first | (with_reducible assumption) | (with_reducible apply Dev.spareCommit_sound))

theorem execLirqQueueRoom_inv (s : State) (h : Inv s) (t : State) (ht : execLirqQueueRoom s = .next t) : Inv t := by
  refine State.act_inv s _ h (fun d hd => ?_) t ht
  repeat' (first | (with_reducible assumption) | (with_reducible apply Dev.queueLirq_sound) | (with_reducible refine foldl_sound _ (fun _ _ _ => ?_) _ ?_))

theorem execKeySlotExport_inv (a0) (a1) (s : State) (h : Inv s) (t : State) (ht : execKeySlotExport a0 a1 s = .next t) : Inv t := by
  refine State.act_inv s _ h (fun d hd => ?_) t ht
  repeat' (first | (with_reducible assumption) | (with_reducible apply Dev.keyCommit_sound))

theorem execTimedWriteExecute_inv (s : State) (h : Inv s) (t : State) (ht : execTimedWriteExecute s = .next t) : Inv t := by
  refine State.act_inv s _ h (fun d hd => ?_) t ht
  repeat' (first | (with_reducible assumption) | (with_reducible apply Dev.runTimed_sound))

theorem execOutboundCplTimeout_inv (a0) (s : State) (h : Inv s) (t : State) (ht : execOutboundCplTimeout a0 s = .next t) : Inv t := by
  refine State.act_inv s _ h (fun d hd => ?_) t ht
  repeat' (first | (with_reducible assumption) | (with_reducible apply Dev.bump_sound) | (with_reducible apply Dev.outboundFail_sound) | (fail_if_no_progress split))

theorem execRehashPop_inv (s : State) (h : Inv s) (t : State) (ht : execRehashPop s = .next t) : Inv t := by
  refine State.act_inv s _ h (fun d hd => ?_) t ht
  repeat' (first | (with_reducible assumption) | (with_reducible apply Dev.rehashPop_sound))

theorem execGzbDescFetchDone_inv (a0) (s : State) (h : Inv s) (t : State) (ht : execGzbDescFetchDone a0 s = .next t) : Inv t := by
  refine State.act_inv s _ h (fun d hd => ?_) t ht
  repeat' (first | (with_reducible assumption) | (with_reducible apply Dev.gzbReturn_sound) | (fail_if_no_progress split))

theorem execHostMrd_inv (a0) (a1) (s : State) (h : Inv s) (t : State) (ht : execHostMrd a0 a1 s = .next t) : Inv t := by
  refine State.act_inv s _ h (fun d hd => ?_) t ht
  repeat' (first | (with_reducible assumption) | (with_reducible apply Dev.hostRead_sound))

theorem execDelayReq_inv (a0) (a1) (s : State) (h : Inv s) (t : State) (ht : execDelayReq a0 a1 s = .next t) : Inv t := by
  refine State.act_inv s _ h (fun d hd => ?_) t ht
  repeat' (first | (with_reducible assumption) | (with_reducible apply Dev.emit_sound) | (fail_if_no_progress split))

theorem execKeyedCommit_inv (a0) (a1) (a2) (s : State) (h : Inv s) (t : State) (ht : execKeyedCommit a0 a1 a2 s = .next t) : Inv t := by
  refine State.act_inv s _ h (fun d hd => ?_) t ht
  repeat' (first | (with_reducible assumption) | (with_reducible apply Dev.hubPut_sound))

theorem execResultPop_inv (s : State) (h : Inv s) (t : State) (ht : execResultPop s = .next t) : Inv t := by
  refine State.act_inv s _ h (fun d hd => ?_) t ht
  repeat' (first | (with_reducible assumption) | (with_reducible apply Dev.onBlv_sound))

theorem execHostSemGrant_inv (a0) (s : State) (h : Inv s) (t : State) (ht : execHostSemGrant a0 s = .next t) : Inv t := by
  refine State.act_inv s _ h (fun d hd => ?_) t ht
  repeat' (first | (with_reducible assumption) | (with_reducible apply Dev.onFab_sound) | (fail_if_no_progress split))

theorem execLinFrameRx_inv (a0) (a1) (a2) (a3) (a4) (s : State) (h : Inv s) (t : State) (ht : execLinFrameRx a0 a1 a2 a3 a4 s = .next t) : Inv t := by
  refine State.act_inv s _ h (fun d hd => ?_) t ht
  repeat' (first | (with_reducible assumption) | (with_reducible apply Dev.linRx_sound))

theorem execSlotDisarm_inv (a0) (s : State) (h : Inv s) (t : State) (ht : execSlotDisarm a0 s = .next t) : Inv t := by
  refine State.act_inv s _ h (fun d hd => ?_) t ht
  repeat' (first | (with_reducible assumption) | (with_reducible apply Dev.armWrite_sound))

theorem execLinEgress_inv (a0) (a1) (s : State) (h : Inv s) (t : State) (ht : execLinEgress a0 a1 s = .next t) : Inv t := by
  refine State.act_inv s _ h (fun d hd => ?_) t ht
  repeat' (first | (with_reducible assumption) | (with_reducible apply Dev.xferTaken_sound) | (with_reducible apply Dev.linTake_sound) | (fail_if_no_progress split))

theorem execTrlFind_inv (s : State) (h : Inv s) (t : State) (ht : execTrlFind s = .next t) : Inv t := by
  refine State.act_inv s _ h (fun d hd => ?_) t ht
  repeat' (first | (with_reducible assumption) | (with_reducible apply Dev.trlFind_sound))

theorem execDramInitDone_inv (s : State) (h : Inv s) (t : State) (ht : execDramInitDone s = .next t) : Inv t := by
  refine State.act_inv s _ h (fun d hd => ?_) t ht
  repeat' (first | (with_reducible assumption) | (with_reducible apply Dev.setFld_sound))

theorem execTimedReadExecute_inv (s : State) (h : Inv s) (t : State) (ht : execTimedReadExecute s = .next t) : Inv t := by
  refine State.act_inv s _ h (fun d hd => ?_) t ht
  repeat' (first | (with_reducible assumption) | (with_reducible apply Dev.runTimed_sound))

theorem execCanBusIntegration_inv (a0) (s : State) (h : Inv s) (t : State) (ht : execCanBusIntegration a0 s = .next t) : Inv t := by
  refine State.act_inv s _ h (fun d hd => ?_) t ht
  repeat' (first | (with_reducible assumption) | (with_reducible apply Dev.onCan_sound) | (fail_if_no_progress split))

theorem execTableSwitch_inv (a0) (a1) (s : State) (h : Inv s) (t : State) (ht : execTableSwitch a0 a1 s = .next t) : Inv t := by
  refine State.act_inv s _ h (fun d hd => ?_) t ht
  repeat' (first | (with_reducible assumption) | (with_reducible apply Dev.tableSwitch_sound))

theorem execZoneRequestArrive_inv (a0) (s : State) (h : Inv s) (t : State) (ht : execZoneRequestArrive a0 s = .next t) : Inv t := by
  refine State.act_inv s _ h (fun d hd => ?_) t ht
  repeat' (first | (with_reducible assumption) | (with_reducible apply Dev.onLbu_sound) | (fail_if_no_progress split))

theorem execSlaveCondStore_inv (a0) (a1) (s : State) (h : Inv s) (t : State) (ht : execSlaveCondStore a0 a1 s = .next t) : Inv t := by
  refine State.act_inv s _ h (fun d hd => ?_) t ht
  repeat' (first | (with_reducible assumption) | (with_reducible apply Dev.slaveWrite_sound))

theorem execParkLockLimit_inv (a0) (s : State) (h : Inv s) (t : State) (ht : execParkLockLimit a0 s = .next t) : Inv t := by
  refine State.act_inv s _ h (fun d hd => ?_) t ht
  repeat' (first | (with_reducible assumption) | (with_reducible apply Dev.parkLimit_sound))

theorem execSlaveRead_inv (a0) (s : State) (h : Inv s) (t : State) (ht : execSlaveRead a0 s = .next t) : Inv t := by
  refine State.act_inv s _ h (fun d hd => ?_) t ht
  repeat' (first | (with_reducible assumption) | (with_reducible apply Dev.slaveRead_sound))

theorem execCfgParityMismatch_inv (a0) (a1) (a2) (s : State) (h : Inv s) (t : State) (ht : execCfgParityMismatch a0 a1 a2 s = .next t) : Inv t := by
  refine State.act_inv s _ h (fun d hd => ?_) t ht
  repeat' (first | (with_reducible assumption) | (with_reducible apply Dev.parityFail_sound))

theorem execItmCondSt_inv (a0) (a1) (s : State) (h : Inv s) (t : State) (ht : execItmCondSt a0 a1 s = .next t) : Inv t := by
  refine State.act_inv s _ h (fun d hd => ?_) t ht
  repeat' (first | (with_reducible assumption) | (with_reducible apply Dev.peerRequest_sound))

theorem execScrubVisit_inv (a0) (a1) (a2) (s : State) (h : Inv s) (t : State) (ht : execScrubVisit a0 a1 a2 s = .next t) : Inv t := by
  refine State.act_inv s _ h (fun d hd => ?_) t ht
  repeat' (first | (with_reducible assumption) | (with_reducible apply Dev.scrub_sound))

theorem execHoldoverLimit_inv (s : State) (h : Inv s) (t : State) (ht : execHoldoverLimit s = .next t) : Inv t := by
  refine State.act_inv s _ h (fun d hd => ?_) t ht
  repeat' (first | (with_reducible assumption) | (with_reducible apply Dev.onBlv_sound) | (fail_if_no_progress split))

theorem execSupplyOutOfRange_inv (a0) (s : State) (h : Inv s) (t : State) (ht : execSupplyOutOfRange a0 s = .next t) : Inv t := by
  refine State.act_inv s _ h (fun d hd => ?_) t ht
  repeat' (first | (with_reducible assumption) | (with_reducible apply Dev.onDep_sound) | (show _ = _; rfl))

theorem execHostCas_inv (a0) (a1) (a2) (a3) (s : State) (h : Inv s) (t : State) (ht : execHostCas a0 a1 a2 a3 s = .next t) : Inv t := by
  refine State.act_inv s _ h (fun d hd => ?_) t ht
  repeat' (first | (with_reducible assumption) | (with_reducible apply Dev.hostAtomic_sound))

theorem execItmReqTimeout_inv (a0) (s : State) (h : Inv s) (t : State) (ht : execItmReqTimeout a0 s = .next t) : Inv t := by
  refine State.act_inv s _ h (fun d hd => ?_) t ht
  repeat' (first | (with_reducible assumption) | (with_reducible apply Dev.bump_sound) | (with_reducible apply Dev.retryHeld_sound) | (with_reducible apply Dev.failReq_sound) | (fail_if_no_progress split))

theorem execKioskRestoreFactory_inv (s : State) (h : Inv s) (t : State) (ht : execKioskRestoreFactory s = .next t) : Inv t := by
  refine State.act_inv s _ h (fun d hd => ?_) t ht
  repeat' (first | (with_reducible assumption) | (with_reducible apply Dev.kiosk_sound) | (with_reducible apply Dev.eraseStart_sound))

theorem execRestartSkip_inv (a0) (s : State) (h : Inv s) (t : State) (ht : execRestartSkip a0 s = .next t) : Inv t := by
  refine State.act_inv s _ h (fun d hd => ?_) t ht
  repeat' (first | (with_reducible assumption) | (with_reducible apply Dev.gzbRestart_sound))

theorem execSlaveDelayedWrite_inv (a0) (a1) (s : State) (h : Inv s) (t : State) (ht : execSlaveDelayedWrite a0 a1 s = .next t) : Inv t := by
  refine State.act_inv s _ h (fun d hd => ?_) t ht
  repeat' (first | (with_reducible assumption) | (with_reducible apply Dev.slaveWrite_sound))

theorem execPduTriggeredSend_inv (a0) (s : State) (h : Inv s) (t : State) (ht : execPduTriggeredSend a0 s = .next t) : Inv t := by
  refine State.act_inv s _ h (fun d hd => ?_) t ht
  repeat' (first | (with_reducible assumption) | (with_reducible apply Dev.pduDue_sound) | (fail_if_no_progress split))

theorem execWakePin_inv (a0) (a1) (a2) (a3) (s : State) (h : Inv s) (t : State) (ht : execWakePin a0 a1 a2 a3 s = .next t) : Inv t := by
  refine State.act_inv s _ h (fun d hd => ?_) t ht
  repeat' (first | (with_reducible assumption) | (with_reducible apply Dev.wakeEvent_sound) | (fail_if_no_progress split))

theorem execReplayNak_inv (a0) (a1) (s : State) (h : Inv s) (t : State) (ht : execReplayNak a0 a1 s = .next t) : Inv t := by
  refine State.act_inv s _ h (fun d hd => ?_) t ht
  repeat' (first | (with_reducible assumption) | (with_reducible apply Dev.replayFrom_sound))

theorem execWarmReset_inv (s : State) (h : Inv s) (t : State) (ht : execWarmReset s = .next t) : Inv t := by
  refine State.act_inv s _ h (fun d hd => ?_) t ht
  repeat' (first | (with_reducible assumption) | (with_reducible apply Dev.resetCommit_sound))

theorem execWindowDisable_inv (a0) (a1) (s : State) (h : Inv s) (t : State) (ht : execWindowDisable a0 a1 s = .next t) : Inv t := by
  refine State.act_inv s _ h (fun d hd => ?_) t ht
  repeat' (first | (with_reducible assumption) | (with_reducible apply Dev.windowOff_sound) | (fail_if_no_progress split))

theorem execCanEgress_inv (a0) (a1) (s : State) (h : Inv s) (t : State) (ht : execCanEgress a0 a1 s = .next t) : Inv t := by
  refine State.act_inv s _ h (fun d hd => ?_) t ht
  repeat' (first | (with_reducible assumption) | (with_reducible apply Dev.xferTaken_sound) | (with_reducible apply Dev.canTake_sound) | (fail_if_no_progress split))

theorem execWritePerformed_inv (a0) (s : State) (h : Inv s) (t : State) (ht : execWritePerformed a0 s = .next t) : Inv t := by
  refine State.act_inv s _ h (fun d hd => ?_) t ht
  repeat' (first | (with_reducible assumption) | (with_reducible apply Dev.writeDone_sound) | (fail_if_no_progress split))

theorem execMirrorAck_inv (a0) (s : State) (h : Inv s) (t : State) (ht : execMirrorAck a0 s = .next t) : Inv t := by
  refine State.act_inv s _ h (fun d hd => ?_) t ht
  repeat' (first | (with_reducible assumption) | (with_reducible apply Dev.retryHeld_sound) | (with_reducible apply Dev.updReq_sound) | (fail_if_no_progress split))

theorem execSleepEntry_inv (a0) (s : State) (h : Inv s) (t : State) (ht : execSleepEntry a0 s = .next t) : Inv t := by
  refine State.act_inv s _ h (fun d hd => ?_) t ht
  repeat' (first | (with_reducible assumption) | (with_reducible apply Dev.sleepCommit_sound))

theorem execRw64LowWrite_inv (a0) (a1) (a2) (s : State) (h : Inv s) (t : State) (ht : execRw64LowWrite a0 a1 a2 s = .next t) : Inv t := by
  refine State.act_inv s _ h (fun d hd => ?_) t ht
  repeat' (first | (with_reducible assumption) | (with_reducible apply Dev.hubPut_sound))

theorem execItmCas_inv (a0) (a1) (s : State) (h : Inv s) (t : State) (ht : execItmCas a0 a1 s = .next t) : Inv t := by
  refine State.act_inv s _ h (fun d hd => ?_) t ht
  repeat' (first | (with_reducible assumption) | (with_reducible apply Dev.peerRequest_sound))

theorem execArbitration_inv (s : State) (h : Inv s) (t : State) (ht : execArbitration s = .next t) : Inv t := by
  refine State.act_inv s _ h (fun d hd => ?_) t ht
  repeat' (first | (with_reducible assumption) | (with_reducible apply Dev.arbitrate_sound) | (fail_if_no_progress split))

theorem execHostBar4Access_inv (a0) (a1) (a2) (s : State) (h : Inv s) (t : State) (ht : execHostBar4Access a0 a1 a2 s = .next t) : Inv t := by
  refine State.act_inv s _ h (fun d hd => ?_) t ht
  repeat' (first | (with_reducible assumption) | (with_reducible apply Dev.bar4Access_sound))

theorem execTriggerExecute_inv (s : State) (h : Inv s) (t : State) (ht : execTriggerExecute s = .next t) : Inv t := by
  refine State.act_inv s _ h (fun d hd => ?_) t ht
  repeat' (first | (with_reducible assumption) | (with_reducible apply Dev.runTriggers_sound) | (fail_if_no_progress split))

theorem execFailPop_inv (s : State) (h : Inv s) (t : State) (ht : execFailPop s = .next t) : Inv t := by
  refine State.act_inv s _ h (fun d hd => ?_) t ht
  repeat' (first | (with_reducible assumption) | (with_reducible apply Dev.failPop_sound))

theorem execTxtsPop_inv (s : State) (h : Inv s) (t : State) (ht : execTxtsPop s = .next t) : Inv t := by
  refine State.act_inv s _ h (fun d hd => ?_) t ht
  repeat' (first | (with_reducible assumption) | (with_reducible apply Dev.onBlv_sound))

theorem execLookupResult_inv (a0) (s : State) (h : Inv s) (t : State) (ht : execLookupResult a0 s = .next t) : Inv t := by
  refine State.act_inv s _ h (fun d hd => ?_) t ht
  repeat' (first | (with_reducible assumption) | (with_reducible apply Dev.applyAction_sound) | (fail_if_no_progress split))

theorem execTimedAccessComplete_inv (s : State) (h : Inv s) (t : State) (ht : execTimedAccessComplete s = .next t) : Inv t := by
  refine State.act_inv s _ h (fun d hd => ?_) t ht
  repeat' (first | (with_reducible assumption) | (with_reducible apply Dev.timedComplete_sound))

theorem execKeyedExpiry_inv (a0) (s : State) (h : Inv s) (t : State) (ht : execKeyedExpiry a0 s = .next t) : Inv t := by
  refine State.act_inv s _ h (fun d hd => ?_) t ht
  repeat' (first | (with_reducible assumption) | (with_reducible apply Dev.dropArmed_sound) | (fail_if_no_progress split))

theorem execHostSwap_inv (a0) (a1) (a2) (s : State) (h : Inv s) (t : State) (ht : execHostSwap a0 a1 a2 s = .next t) : Inv t := by
  refine State.act_inv s _ h (fun d hd => ?_) t ht
  repeat' (first | (with_reducible assumption) | (with_reducible apply Dev.hostAtomic_sound))

theorem execItmMrd_inv (a0) (a1) (s : State) (h : Inv s) (t : State) (ht : execItmMrd a0 a1 s = .next t) : Inv t := by
  refine State.act_inv s _ h (fun d hd => ?_) t ht
  repeat' (first | (with_reducible assumption) | (with_reducible apply Dev.peerRequest_sound))

theorem execCompleteBarrier_inv (a0) (s : State) (h : Inv s) (t : State) (ht : execCompleteBarrier a0 s = .next t) : Inv t := by
  refine State.act_inv s _ h (fun d hd => ?_) t ht
  repeat' (first | (with_reducible assumption) | (with_reducible apply Dev.barrierFrom_sound))

theorem execBarrierDone_inv (a0) (s : State) (h : Inv s) (t : State) (ht : execBarrierDone a0 s = .next t) : Inv t := by
  refine State.act_inv s _ h (fun d hd => ?_) t ht
  repeat' (first | (with_reducible assumption) | (with_reducible apply Dev.barrierDone_sound) | (fail_if_no_progress split))

theorem execAuthVerify_inv (a0) (s : State) (h : Inv s) (t : State) (ht : execAuthVerify a0 s = .next t) : Inv t := by
  refine State.act_inv s _ h (fun d hd => ?_) t ht
  repeat' (first | (with_reducible assumption) | (with_reducible apply Dev.authRun_sound))

theorem execIntDeassert_inv (a0) (a1) (s : State) (h : Inv s) (t : State) (ht : execIntDeassert a0 a1 s = .next t) : Inv t := by
  refine State.act_inv s _ h (fun d hd => ?_) t ht
  repeat' (first | (with_reducible assumption) | (with_reducible apply Dev.peerMessage_sound))

theorem execEthLinkChange_inv (a0) (a1) (a2) (s : State) (h : Inv s) (t : State) (ht : execEthLinkChange a0 a1 a2 s = .next t) : Inv t := by
  refine State.act_inv s _ h (fun d hd => ?_) t ht
  repeat' (first | (with_reducible assumption) | (with_reducible apply Dev.onMac_sound))

theorem execLwBarrierWrite_inv (a0) (a1) (s : State) (h : Inv s) (t : State) (ht : execLwBarrierWrite a0 a1 s = .next t) : Inv t := by
  refine State.act_inv s _ h (fun d hd => ?_) t ht
  repeat' (first | (with_reducible assumption) | (with_reducible apply Dev.slaveWrite_sound))

theorem execLwBarrierRead_inv (a0) (s : State) (h : Inv s) (t : State) (ht : execLwBarrierRead a0 s = .next t) : Inv t := by
  refine State.act_inv s _ h (fun d hd => ?_) t ht
  repeat' (first | (with_reducible assumption) | (with_reducible apply Dev.slaveRead_sound))

theorem execCanBusError_inv (a0) (a1) (a2) (s : State) (h : Inv s) (t : State) (ht : execCanBusError a0 a1 a2 s = .next t) : Inv t := by
  refine State.act_inv s _ h (fun d hd => ?_) t ht
  repeat' (first | (with_reducible assumption) | (with_reducible apply Dev.canErr_sound) | (fail_if_no_progress split))

theorem execHostCompletionReturn_inv (a0) (s : State) (h : Inv s) (t : State) (ht : execHostCompletionReturn a0 s = .next t) : Inv t := by
  refine State.act_inv s _ h (fun d hd => ?_) t ht
  repeat' (first | (with_reducible assumption) | (with_reducible apply Dev.hostReturn_sound) | (with_reducible apply Dev.bump_sound) | (fail_if_no_progress split))

theorem execRegisterWrite_inv (a0) (a1) (a2) (a3) (s : State) (h : Inv s) (t : State) (ht : execRegisterWrite a0 a1 a2 a3 s = .next t) : Inv t := by
  refine State.act_inv s _ h (fun d hd => ?_) t ht
  repeat' (first | (with_reducible assumption) | (with_reducible apply Dev.hubPutEn_sound))

theorem execKeyedArm_inv (a0) (a1) (a2) (s : State) (h : Inv s) (t : State) (ht : execKeyedArm a0 a1 a2 s = .next t) : Inv t := by
  refine State.act_inv s _ h (fun d hd => ?_) t ht
  repeat' (first | (with_reducible assumption) | (with_reducible apply Dev.hubPut_sound))

theorem execTwinDualActive_inv (a0) (s : State) (h : Inv s) (t : State) (ht : execTwinDualActive a0 s = .next t) : Inv t := by
  refine State.act_inv s _ h (fun d hd => ?_) t ht
  repeat' (first | (with_reducible assumption) | (with_reducible apply Dev.bump_sound) | (with_reducible apply Dev.leaveActive_sound) | (with_reducible apply Dev.enterSyncing_sound) | (with_reducible apply Dev.onTwin_sound) | (fail_if_no_progress split))

theorem execLholdExpiry_inv (s : State) (h : Inv s) (t : State) (ht : execLholdExpiry s = .next t) : Inv t := by
  refine State.act_inv s _ h (fun d hd => ?_) t ht
  repeat' (first | (with_reducible assumption) | (with_reducible apply Dev.answer_sound) | (with_reducible apply Dev.onLbu_sound) | (fail_if_no_progress split))

theorem execRwsApply_inv (a0) (s : State) (h : Inv s) (t : State) (ht : execRwsApply a0 s = .next t) : Inv t := by
  refine State.act_inv s _ h (fun d hd => ?_) t ht
  repeat' (first | (with_reducible assumption) | (with_reducible apply Dev.rwsApply_sound))

theorem execLinHeaderRx_inv (a0) (a1) (s : State) (h : Inv s) (t : State) (ht : execLinHeaderRx a0 a1 s = .next t) : Inv t := by
  refine State.act_inv s _ h (fun d hd => ?_) t ht
  repeat' (first | (with_reducible assumption) | (with_reducible apply Dev.linAnswer_sound) | (fail_if_no_progress split))

theorem execMacsecRx_inv (a0) (s : State) (h : Inv s) (t : State) (ht : execMacsecRx a0 s = .next t) : Inv t := by
  refine State.act_inv s _ h (fun d hd => ?_) t ht
  repeat' (first | (with_reducible assumption) | (with_reducible apply Dev.secRx_sound))

theorem execUnitFault_inv (a0) (a1) (s : State) (h : Inv s) (t : State) (ht : execUnitFault a0 a1 s = .next t) : Inv t := by
  refine State.act_inv s _ h (fun d hd => ?_) t ht
  repeat' (first | (with_reducible assumption) | (with_reducible apply Dev.onDep_sound) | (fail_if_no_progress split) | (show _ = _; rfl))

theorem execItmLinkRestart_inv (a0) (s : State) (h : Inv s) (t : State) (ht : execItmLinkRestart a0 s = .next t) : Inv t := by
  refine State.act_inv s _ h (fun d hd => ?_) t ht
  repeat' (first | (with_reducible assumption) | (with_reducible apply Dev.linkRestart_sound))

theorem execGzbReadCompletion_inv (a0) (s : State) (h : Inv s) (t : State) (ht : execGzbReadCompletion a0 s = .next t) : Inv t := by
  refine State.act_inv s _ h (fun d hd => ?_) t ht
  repeat' (first | (with_reducible assumption) | (with_reducible apply Dev.gzbReturn_sound) | (fail_if_no_progress split))

theorem execRw64FullWrite_inv (a0) (a1) (a2) (a3) (s : State) (h : Inv s) (t : State) (ht : execRw64FullWrite a0 a1 a2 a3 s = .next t) : Inv t := by
  refine State.act_inv s _ h (fun d hd => ?_) t ht
  repeat' (first | (with_reducible assumption) | (with_reducible apply Dev.hubPut64_sound))

theorem execItmRsvLd_inv (a0) (a1) (s : State) (h : Inv s) (t : State) (ht : execItmRsvLd a0 a1 s = .next t) : Inv t := by
  refine State.act_inv s _ h (fun d hd => ?_) t ht
  repeat' (first | (with_reducible assumption) | (with_reducible apply Dev.peerRequest_sound))

theorem execSeqLossTimeout_inv (a0) (a1) (s : State) (h : Inv s) (t : State) (ht : execSeqLossTimeout a0 a1 s = .next t) : Inv t := by
  refine State.act_inv s _ h (fun d hd => ?_) t ht
  repeat' (first | (with_reducible assumption) | (with_reducible apply Dev.seqLoss_sound))

theorem execItmFrame_inv (a0) (a1) (s : State) (h : Inv s) (t : State) (ht : execItmFrame a0 a1 s = .next t) : Inv t := by
  refine State.act_inv s _ h (fun d hd => ?_) t ht
  repeat' (first | (with_reducible assumption) | (with_reducible apply Dev.itmFrame_sound))

theorem execHostSemRelease_inv (a0) (a1) (s : State) (h : Inv s) (t : State) (ht : execHostSemRelease a0 a1 s = .next t) : Inv t := by
  refine State.act_inv s _ h (fun d hd => ?_) t ht
  repeat' (first | (with_reducible assumption) | (with_reducible apply Dev.semClaim_sound))

theorem execOrderBarrier_inv (a0) (s : State) (h : Inv s) (t : State) (ht : execOrderBarrier a0 s = .next t) : Inv t := by
  refine State.act_inv s _ h (fun d hd => ?_) t ht
  repeat' (first | (with_reducible assumption) | (with_reducible apply Dev.barrierFrom_sound))

theorem execPduGapEnd_inv (a0) (s : State) (h : Inv s) (t : State) (ht : execPduGapEnd a0 s = .next t) : Inv t := by
  refine State.act_inv s _ h (fun d hd => ?_) t ht
  repeat' (first | (with_reducible assumption) | (with_reducible apply Dev.pduSend_sound) | (fail_if_no_progress split))

theorem execBusMonitorObserve_inv (a0) (a1) (a2) (a3) (a4) (a5) (a6) (s : State) (h : Inv s) (t : State) (ht : execBusMonitorObserve a0 a1 a2 a3 a4 a5 a6 s = .next t) : Inv t := by
  refine State.act_inv s _ h (fun d hd => ?_) t ht
  repeat' (first | (with_reducible assumption) | (with_reducible apply Dev.monitorStore_sound) | (with_reducible apply Dev.watch_sound) | (fail_if_no_progress split))

theorem execEndpointRequest_inv (a0) (s : State) (h : Inv s) (t : State) (ht : execEndpointRequest a0 s = .next t) : Inv t := by
  refine State.act_inv s _ h (fun d hd => ?_) t ht
  repeat' (first | (with_reducible assumption) | (with_reducible apply Dev.endpoint_sound) | (fail_if_no_progress split))

theorem execRestartResume_inv (a0) (s : State) (h : Inv s) (t : State) (ht : execRestartResume a0 s = .next t) : Inv t := by
  refine State.act_inv s _ h (fun d hd => ?_) t ht
  repeat' (first | (with_reducible assumption) | (with_reducible apply Dev.gzbRestart_sound))

theorem execToggleAliasWrite_inv (a0) (a1) (a2) (s : State) (h : Inv s) (t : State) (ht : execToggleAliasWrite a0 a1 a2 s = .next t) : Inv t := by
  refine State.act_inv s _ h (fun d hd => ?_) t ht
  repeat' (first | (with_reducible assumption) | (with_reducible apply Dev.hubPut_sound))

theorem execTimeSync_inv (a0) (a1) (a2) (a3) (a4) (a5) (a6) (s : State) (h : Inv s) (t : State) (ht : execTimeSync a0 a1 a2 a3 a4 a5 a6 s = .next t) : Inv t := by
  refine State.act_inv s _ h (fun d hd => ?_) t ht
  repeat' (first | (with_reducible assumption) | (with_reducible apply Dev.syncUpdate_sound) | (fail_if_no_progress split))

theorem execStateRetired_inv (a0) (a1) (a2) (a3) (s : State) (h : Inv s) (t : State) (ht : execStateRetired a0 a1 a2 a3 s = .next t) : Inv t := by
  refine State.act_inv s _ h (fun d hd => ?_) t ht
  extract_lets 
  repeat' (first | (with_reducible assumption) | (with_reducible apply Dev.onTwin_sound) | (with_reducible apply Dev.recvRec_sound) | (refine fun e he => ?_))

theorem execCalWrite_inv (a0) (a1) (s : State) (h : Inv s) (t : State) (ht : execCalWrite a0 a1 s = .next t) : Inv t := by
  refine State.act_inv s _ h (fun d hd => ?_) t ht
  extract_lets 
  repeat' (first | (with_reducible assumption) | (with_reducible apply Dev.mbxServe_sound) | (with_reducible apply Dev.mbxCalWrite_sound) | (refine fun e he => ?_))

theorem execKioskTwin_inv (s : State) (h : Inv s) (t : State) (ht : execKioskTwin s = .next t) : Inv t := by
  refine State.act_inv s _ h (fun d hd => ?_) t ht
  extract_lets 
  repeat' (first | (with_reducible assumption) | (with_reducible apply Dev.say_sound) | (with_reducible apply Dev.kiosk_sound) | (refine fun e he => ?_))

theorem execPpsEdge_inv (a0) (s : State) (h : Inv s) (t : State) (ht : execPpsEdge a0 s = .next t) : Inv t := by
  refine State.act_inv s _ h (fun d hd => ?_) t ht
  extract_lets 
  repeat' (first | (with_reducible assumption) | (with_reducible apply Dev.servoUpdate_sound) | (with_reducible apply Dev.capture_sound) | (fail_if_no_progress split))

theorem execHostMessage_inv (a0) (s : State) (h : Inv s) (t : State) (ht : execHostMessage a0 s = .next t) : Inv t := by
  refine State.act_inv s _ h (fun d hd => ?_) t ht
  extract_lets 
  repeat' (first | (with_reducible assumption) | (simp only [id]))

theorem execKioskLog_inv (s : State) (h : Inv s) (t : State) (ht : execKioskLog s = .next t) : Inv t := by
  refine State.act_inv s _ h (fun d hd => ?_) t ht
  extract_lets 
  repeat' (first | (with_reducible assumption) | (with_reducible apply Dev.say_sound) | (with_reducible apply Dev.kiosk_sound) | (fail_if_no_progress split) | (refine fun e he => ?_))

theorem execStateExecuted_inv (a0) (a1) (a2) (a3) (s : State) (h : Inv s) (t : State) (ht : execStateExecuted a0 a1 a2 a3 s = .next t) : Inv t := by
  refine State.act_inv s _ h (fun d hd => ?_) t ht
  extract_lets 
  repeat' (first | (with_reducible assumption) | (with_reducible apply Dev.onTwin_sound) | (with_reducible apply Dev.endEvent_sound) | (with_reducible apply Dev.recvRec_sound) | (with_reducible refine foldl_sound _ (fun _ _ _ => ?_) _ ?_) | (fail_if_no_progress split) | (refine fun e he => ?_) | (simp only [id]))

theorem execKioskLogPop_inv (s : State) (h : Inv s) (t : State) (ht : execKioskLogPop s = .next t) : Inv t := by
  refine State.act_inv s _ h (fun d hd => ?_) t ht
  extract_lets 
  repeat' (first | (with_reducible assumption) | (with_reducible apply Dev.kiosk_sound) | (with_reducible apply Dev.elPop_sound) | (fail_if_no_progress split) | (refine fun e he => ?_))

theorem execStateMem_inv (a0) (a1) (a2) (s : State) (h : Inv s) (t : State) (ht : execStateMem a0 a1 a2 s = .next t) : Inv t := by
  refine State.act_inv s _ h (fun d hd => ?_) t ht
  extract_lets 
  repeat' (first | (with_reducible assumption) | (with_reducible apply Dev.recvMem_sound) | (with_reducible apply Dev.recvRec_sound) | (refine fun e he => ?_))

theorem execPlannedHandover_inv (s : State) (h : Inv s) (t : State) (ht : execPlannedHandover s = .next t) : Inv t := by
  refine State.act_inv s _ h (fun d hd => ?_) t ht
  extract_lets 
  repeat' (first | (with_reducible assumption) | (with_reducible apply Dev.handoverEnd_sound) | (with_reducible apply Dev.handoverStart_sound) | (fail_if_no_progress split))

theorem execFlitCrcFail_inv (a0) (s : State) (h : Inv s) (t : State) (ht : execFlitCrcFail a0 s = .next t) : Inv t := by
  refine State.act_inv s _ h (fun d hd => ?_) t ht
  extract_lets 
  repeat' (first | (with_reducible assumption) | (with_reducible apply Dev.bump_sound) | (with_reducible apply Dev.onLink_sound) | (with_reducible apply Dev.emit_sound) | (fail_if_no_progress split))

theorem execSlotState_inv (a0) (s : State) (h : Inv s) (t : State) (ht : execSlotState a0 s = .next t) : Inv t := by
  refine State.act_inv s _ h (fun d hd => ?_) t ht
  extract_lets 
  repeat' (first | (with_reducible assumption) | (with_reducible apply Dev.mbxServe_sound) | (with_reducible apply Dev.mbxSlotState_sound) | (refine fun e he => ?_))

theorem execKioskUnlock_inv (s : State) (h : Inv s) (t : State) (ht : execKioskUnlock s = .next t) : Inv t := by
  refine State.act_inv s _ h (fun d hd => ?_) t ht
  extract_lets 
  repeat' (first | (with_reducible assumption) | (with_reducible apply Dev.say_sound) | (with_reducible apply Dev.tick_sound) | (with_reducible apply Dev.kiosk_sound) | (with_reducible apply Dev.onLdg_sound) | (fail_if_no_progress split) | (show _ = _; rfl) | (refine fun e he => ?_))

theorem execKeyProvision_inv (a0) (s : State) (h : Inv s) (t : State) (ht : execKeyProvision a0 s = .next t) : Inv t := by
  refine State.act_inv s _ h (fun d hd => ?_) t ht
  extract_lets 
  repeat' (first | (with_reducible assumption) | (with_reducible apply Dev.mbxServe_sound) | (with_reducible apply Dev.mbxKeyProvision_sound) | (refine fun e he => ?_))

theorem execKioskLock_inv (s : State) (h : Inv s) (t : State) (ht : execKioskLock s = .next t) : Inv t := by
  refine State.act_inv s _ h (fun d hd => ?_) t ht
  extract_lets 
  repeat' (first | (with_reducible assumption) | (with_reducible apply Dev.setFld_sound) | (with_reducible apply Dev.kiosk_sound) | (refine fun e he => ?_))

theorem execLirqAccept_inv (a0) (s : State) (h : Inv s) (t : State) (ht : execLirqAccept a0 s = .next t) : Inv t := by
  refine State.act_inv s _ h (fun d hd => ?_) t ht
  extract_lets 
  repeat' (first | (with_reducible assumption) | (with_reducible apply Dev.queueLirq_sound) | (with_reducible apply Dev.wbarsFor_sound) | (with_reducible apply Dev.updPin_sound) | (fail_if_no_progress split))

theorem execDramTrainingDone_inv (a0) (a1) (s : State) (h : Inv s) (t : State) (ht : execDramTrainingDone a0 a1 s = .next t) : Inv t := by
  refine State.act_inv s _ h (fun d hd => ?_) t ht
  repeat' (first | (with_reducible assumption) | (with_reducible apply Dev.bump_sound) | (with_reducible apply Dev.wr_sound) | (with_reducible apply Dev.setFld_sound) | (with_reducible apply Dev.startRest_sound) | (fail_if_no_progress split) | (simp only [id]))

theorem execTrainingRetry_inv (a0) (s : State) (h : Inv s) (t : State) (ht : execTrainingRetry a0 s = .next t) : Inv t := by
  refine State.act_inv s _ h (fun d hd => ?_) t ht
  extract_lets 
  repeat' (first | (with_reducible assumption) | (with_reducible apply Dev.onLink_sound) | (fail_if_no_progress split))

theorem execStateBulk_inv (a0) (a1) (a2) (s : State) (h : Inv s) (t : State) (ht : execStateBulk a0 a1 a2 s = .next t) : Inv t := by
  refine State.act_inv s _ h (fun d hd => ?_) t ht
  extract_lets 
  repeat' (first | (with_reducible assumption) | (with_reducible apply Dev.recvMem_sound) | (with_reducible apply Dev.recvRec_sound) | (refine fun e he => ?_))

theorem execLinkTrained_inv (a0) (a1) (s : State) (h : Inv s) (t : State) (ht : execLinkTrained a0 a1 s = .next t) : Inv t := by
  refine State.act_inv s _ h (fun d hd => ?_) t ht
  extract_lets 
  repeat' (first | (with_reducible assumption) | (with_reducible apply Dev.onLink_sound) | (fail_if_no_progress split))

theorem execMsixMessageSend_inv (s : State) (h : Inv s) (t : State) (ht : execMsixMessageSend s = .next t) : Inv t := by
  refine State.act_inv s _ h (fun d hd => ?_) t ht
  extract_lets 
  repeat' (first | (with_reducible assumption) | (with_reducible apply Dev.bump_sound) | (with_reducible apply Dev.onHp_sound) | (with_reducible apply Dev.emitMsix_sound) | (fail_if_no_progress split) | (simp only [id]))

theorem execKioskTab_inv (a0) (s : State) (h : Inv s) (t : State) (ht : execKioskTab a0 s = .next t) : Inv t := by
  refine State.act_inv s _ h (fun d hd => ?_) t ht
  extract_lets 
  repeat' (first | (with_reducible assumption) | (with_reducible apply Dev.kiosk_sound) | (with_reducible apply Dev.kioskTab_sound) | (refine fun e he => ?_))

theorem execCanWakeFrame_inv (a0) (a1) (a2) (a3) (a4) (a5) (a6) (s : State) (h : Inv s) (t : State) (ht : execCanWakeFrame a0 a1 a2 a3 a4 a5 a6 s = .next t) : Inv t := by
  refine State.act_inv s _ h (fun d hd => ?_) t ht
  extract_lets 
  repeat' (first | (with_reducible assumption) | (with_reducible apply Dev.wakeEvent_sound) | (fail_if_no_progress split))

theorem execArcRestart_inv (s : State) (h : Inv s) (t : State) (ht : execArcRestart s = .next t) : Inv t := by
  refine State.act_inv s _ h (fun d hd => ?_) t ht
  extract_lets 
  repeat' (first | (with_reducible assumption) | (with_reducible apply Dev.mbxServe_sound) | (with_reducible apply Dev.mbxArcRestart_sound) | (refine fun e he => ?_))

theorem execStateSyncDone_inv (a0) (s : State) (h : Inv s) (t : State) (ht : execStateSyncDone a0 s = .next t) : Inv t := by
  refine State.act_inv s _ h (fun d hd => ?_) t ht
  extract_lets 
  repeat' (first | (with_reducible assumption) | (with_reducible apply Dev.onTwin_sound) | (with_reducible apply Dev.recvRec_sound) | (refine fun e he => ?_))

theorem execKioskSpare_inv (s : State) (h : Inv s) (t : State) (ht : execKioskSpare s = .next t) : Inv t := by
  refine State.act_inv s _ h (fun d hd => ?_) t ht
  extract_lets 
  repeat' (first | (with_reducible assumption) | (with_reducible apply Dev.say_sound) | (with_reducible apply Dev.kiosk_sound) | (with_reducible refine foldl_sound _ (fun _ _ _ => ?_) _ ?_) | (refine fun e he => ?_))

theorem execKioskTwinSwitch_inv (s : State) (h : Inv s) (t : State) (ht : execKioskTwinSwitch s = .next t) : Inv t := by
  refine State.act_inv s _ h (fun d hd => ?_) t ht
  extract_lets 
  repeat' (first | (with_reducible assumption) | (with_reducible apply Dev.keyedEffect_sound) | (with_reducible apply Dev.kiosk_sound) | (refine fun e he => ?_))

theorem execFaultNote_inv (a0) (a1) (s : State) (h : Inv s) (t : State) (ht : execFaultNote a0 a1 s = .next t) : Inv t := by
  refine State.act_inv s _ h (fun d hd => ?_) t ht
  extract_lets 
  repeat' (first | (with_reducible assumption) | (with_reducible apply Dev.bump_sound) | (with_reducible apply Dev.placeNote_sound) | (with_reducible apply Dev.protoErr_sound) | (with_reducible apply Dev.sendMsg_sound) | (with_reducible apply Dev.rxOn_sound) | (fail_if_no_progress split))

theorem execKioskUnlockResponse_inv (a0) (s : State) (h : Inv s) (t : State) (ht : execKioskUnlockResponse a0 s = .next t) : Inv t := by
  refine State.act_inv s _ h (fun d hd => ?_) t ht
  extract_lets 
  repeat' (first | (with_reducible assumption) | (with_reducible apply Dev.kioskResponse_sound) | (with_reducible apply Dev.kiosk_sound) | (refine fun e he => ?_))

theorem execRole_inv (a0) (a1) (s : State) (h : Inv s) (t : State) (ht : execRole a0 a1 s = .next t) : Inv t := by
  refine State.act_inv s _ h (fun d hd => ?_) t ht
  extract_lets 
  repeat' (first | (with_reducible assumption) | (with_reducible apply Dev.endPeerReqs_sound) | (with_reducible apply Dev.retryHeld_sound) | (with_reducible apply Dev.onLink_sound) | (fail_if_no_progress split))

theorem execCfgReapply_inv (s : State) (h : Inv s) (t : State) (ht : execCfgReapply s = .next t) : Inv t := by
  refine State.act_inv s _ h (fun d hd => ?_) t ht
  extract_lets 
  repeat' (first | (with_reducible assumption) | (with_reducible apply Dev.mbxServe_sound) | (with_reducible apply Dev.reapply_sound) | (refine fun e he => ?_))

theorem execHelloSend_inv (a0) (s : State) (h : Inv s) (t : State) (ht : execHelloSend a0 s = .next t) : Inv t := by
  refine State.act_inv s _ h (fun d hd => ?_) t ht
  extract_lets 
  repeat' (first | (with_reducible assumption) | (with_reducible apply Dev.linkEnterUp_sound) | (with_reducible apply Dev.onLink_sound) | (with_reducible apply Dev.emit_sound) | (fail_if_no_progress split))

theorem execKioskRd_inv (a0) (a1) (a2) (s : State) (h : Inv s) (t : State) (ht : execKioskRd a0 a1 a2 s = .next t) : Inv t := by
  refine State.act_inv s _ h (fun d hd => ?_) t ht
  extract_lets 
  repeat' (first | (with_reducible assumption) | (with_reducible apply Dev.say_sound) | (with_reducible apply Dev.kioskRead_sound) | (with_reducible apply Dev.kiosk_sound) | (fail_if_no_progress split) | (refine fun e he => ?_))

theorem execKioskSpareSwap_inv (a0) (a1) (s : State) (h : Inv s) (t : State) (ht : execKioskSpareSwap a0 a1 s = .next t) : Inv t := by
  refine State.act_inv s _ h (fun d hd => ?_) t ht
  extract_lets 
  repeat' (first | (with_reducible assumption) | (with_reducible apply Dev.keyedEffect_sound) | (with_reducible apply Dev.kiosk_sound) | (refine fun e he => ?_))

theorem execStateStarted_inv (a0) (a1) (a2) (s : State) (h : Inv s) (t : State) (ht : execStateStarted a0 a1 a2 s = .next t) : Inv t := by
  refine State.act_inv s _ h (fun d hd => ?_) t ht
  extract_lets 
  repeat' (first | (with_reducible assumption) | (with_reducible apply Dev.onTwin_sound) | (with_reducible apply Dev.recvRec_sound) | (refine fun e he => ?_))

theorem execPwbEntryFree_inv (a0) (s : State) (h : Inv s) (t : State) (ht : execPwbEntryFree a0 s = .next t) : Inv t := by
  refine State.act_inv s _ h (fun d hd => ?_) t ht
  repeat' (first | (with_reducible assumption) | (with_reducible apply Dev.l2hMove_sound) | (with_reducible apply Dev.retryHeld_sound) | (with_reducible apply Dev.peerAcked_sound) | (with_reducible apply Dev.slavePost_sound) | (with_reducible apply Dev.ackMsgs_sound) | (with_reducible apply Dev.updReq_sound) | (fail_if_no_progress split) | (simp only [id]))

theorem execBusRequest_inv (a0) (s : State) (h : Inv s) (t : State) (ht : execBusRequest a0 s = .next t) : Inv t := by
  refine State.act_inv s _ h (fun d hd => ?_) t ht
  extract_lets 
  repeat' (first | (with_reducible assumption) | (with_reducible apply Dev.onLbu_sound) | (fail_if_no_progress split))

theorem execKioskRebootCold_inv (a0) (s : State) (h : Inv s) (t : State) (ht : execKioskRebootCold a0 s = .next t) : Inv t := by
  refine State.act_inv s _ h (fun d hd => ?_) t ht
  extract_lets 
  repeat' (first | (with_reducible assumption) | (with_reducible apply Dev.resetAndStart_sound) | (with_reducible apply Dev.kiosk_sound) | (refine fun e he => ?_))

theorem execGzbDrainDone_inv (s : State) (h : Inv s) (t : State) (ht : execGzbDrainDone s = .next t) : Inv t := by
  refine State.act_inv s _ h (fun d hd => ?_) t ht
  extract_lets 
  repeat' (first | (with_reducible assumption) | (with_reducible apply Dev.gzbRestart_sound) | (with_reducible apply Dev.onGzb_sound) | (fail_if_no_progress split))

theorem execCanWup_inv (a0) (a1) (a2) (s : State) (h : Inv s) (t : State) (ht : execCanWup a0 a1 a2 s = .next t) : Inv t := by
  refine State.act_inv s _ h (fun d hd => ?_) t ht
  extract_lets 
  repeat' (first | (with_reducible assumption) | (with_reducible apply Dev.wakeEvent_sound) | (fail_if_no_progress split))

theorem execLaneSwapResend_inv (a0) (a1) (s : State) (h : Inv s) (t : State) (ht : execLaneSwapResend a0 a1 s = .next t) : Inv t := by
  refine State.act_inv s _ h (fun d hd => ?_) t ht
  extract_lets 
  repeat' (first | (with_reducible assumption) | (with_reducible apply Dev.enterRetrain_sound) | (with_reducible apply Dev.laneSwapped_sound) | (with_reducible apply Dev.onLink_sound) | (with_reducible apply Dev.emit_sound) | (fail_if_no_progress split))

theorem execTwinFailNChange_inv (a0) (s : State) (h : Inv s) (t : State) (ht : execTwinFailNChange a0 s = .next t) : Inv t := by
  refine State.act_inv s _ h (fun d hd => ?_) t ht
  extract_lets 
  repeat' (first | (with_reducible assumption) | (with_reducible apply Dev.unprotect_sound) | (with_reducible apply Dev.onTwin_sound) | (fail_if_no_progress split))

theorem execGuardWindowStart_inv (s : State) (h : Inv s) (t : State) (ht : execGuardWindowStart s = .next t) : Inv t := by
  refine State.act_inv s _ h (fun d hd => ?_) t ht
  extract_lets 
  repeat' (first | (with_reducible assumption) | (with_reducible apply Dev.arbitrate_sound) | (with_reducible apply Dev.onLbu_sound) | (fail_if_no_progress split))

theorem execKioskWr_inv (a0) (a1) (a2) (a3) (s : State) (h : Inv s) (t : State) (ht : execKioskWr a0 a1 a2 a3 s = .next t) : Inv t := by
  refine State.act_inv s _ h (fun d hd => ?_) t ht
  extract_lets 
  repeat' (first | (with_reducible assumption) | (with_reducible apply Dev.kioskWrite_sound) | (with_reducible apply Dev.kiosk_sound) | (fail_if_no_progress split) | (refine fun e he => ?_))

theorem execKioskTime_inv (s : State) (h : Inv s) (t : State) (ht : execKioskTime s = .next t) : Inv t := by
  refine State.act_inv s _ h (fun d hd => ?_) t ht
  extract_lets 
  repeat' (first | (with_reducible assumption) | (with_reducible apply Dev.say_sound) | (with_reducible apply Dev.kiosk_sound) | (refine fun e he => ?_))

theorem execFlashWrite_inv (a0) (a1) (s : State) (h : Inv s) (t : State) (ht : execFlashWrite a0 a1 s = .next t) : Inv t := by
  refine State.act_inv s _ h (fun d hd => ?_) t ht
  extract_lets 
  repeat' (first | (with_reducible assumption) | (with_reducible apply Dev.mbxServe_sound) | (with_reducible apply Dev.mbxFlashWrite_sound) | (refine fun e he => ?_))

theorem execKioskDump_inv (a0) (a1) (a2) (s : State) (h : Inv s) (t : State) (ht : execKioskDump a0 a1 a2 s = .next t) : Inv t := by
  refine State.act_inv s _ h (fun d hd => ?_) t ht
  extract_lets 
  repeat' (first | (with_reducible assumption) | (with_reducible apply Dev.say_sound) | (with_reducible apply Dev.kioskRead_sound) | (with_reducible apply Dev.kiosk_sound) | (fail_if_no_progress split) | (refine fun e he => ?_))

theorem execLaneSwap_inv (a0) (a1) (s : State) (h : Inv s) (t : State) (ht : execLaneSwap a0 a1 s = .next t) : Inv t := by
  refine State.act_inv s _ h (fun d hd => ?_) t ht
  extract_lets 
  repeat' (first | (with_reducible assumption) | (with_reducible apply Dev.enterRetrain_sound) | (with_reducible apply Dev.laneSwapped_sound) | (with_reducible apply Dev.onLink_sound) | (fail_if_no_progress split))

theorem execItmCompletion_inv (a0) (a1) (s : State) (h : Inv s) (t : State) (ht : execItmCompletion a0 a1 s = .next t) : Inv t := by
  refine State.act_inv s _ h (fun d hd => ?_) t ht
  extract_lets 
  repeat' (first | (with_reducible assumption) | (with_reducible apply Dev.bump_sound) | (with_reducible apply Dev.peerComplete_sound) | (with_reducible apply Dev.wbarDone_sound) | (with_reducible apply Dev.rxOn_sound) | (fail_if_no_progress split))

theorem execKeyLoad_inv (a0) (s : State) (h : Inv s) (t : State) (ht : execKeyLoad a0 s = .next t) : Inv t := by
  refine State.act_inv s _ h (fun d hd => ?_) t ht
  extract_lets 
  repeat' (first | (with_reducible assumption) | (with_reducible apply Dev.mbxKeyLoad_sound) | (with_reducible apply Dev.mbxServe_sound) | (refine fun e he => ?_))

theorem execKioskWin_inv (a0) (s : State) (h : Inv s) (t : State) (ht : execKioskWin a0 s = .next t) : Inv t := by
  refine State.act_inv s _ h (fun d hd => ?_) t ht
  extract_lets 
  repeat' (first | (with_reducible assumption) | (with_reducible apply Dev.winLine_sound) | (with_reducible apply Dev.say_sound) | (with_reducible apply Dev.kiosk_sound) | (with_reducible refine foldl_sound _ (fun _ _ _ => ?_) _ ?_) | (fail_if_no_progress split) | (refine fun e he => ?_))

theorem execFlashRead_inv (a0) (s : State) (h : Inv s) (t : State) (ht : execFlashRead a0 s = .next t) : Inv t := by
  refine State.act_inv s _ h (fun d hd => ?_) t ht
  extract_lets 
  repeat' (first | (with_reducible assumption) | (with_reducible apply Dev.mbxServe_sound) | (with_reducible apply Dev.mbxFlashRead_sound) | (refine fun e he => ?_))

theorem execLaneFailure_inv (a0) (a1) (s : State) (h : Inv s) (t : State) (ht : execLaneFailure a0 a1 s = .next t) : Inv t := by
  refine State.act_inv s _ h (fun d hd => ?_) t ht
  extract_lets 
  repeat' (first | (with_reducible assumption) | (with_reducible apply Dev.enterRetrain_sound) | (with_reducible apply Dev.onLink_sound) | (with_reducible apply Dev.emit_sound) | (fail_if_no_progress split))

theorem execDelayResp_inv (a0) (a1) (a2) (a3) (s : State) (h : Inv s) (t : State) (ht : execDelayResp a0 a1 a2 a3 s = .next t) : Inv t := by
  refine State.act_inv s _ h (fun d hd => ?_) t ht
  extract_lets 
  repeat' (first | (with_reducible assumption) | (with_reducible apply Dev.bump_sound) | (with_reducible apply Dev.onLink_sound) | (fail_if_no_progress split) | (simp only [id]))

theorem execStateMirror_inv (a0) (a1) (a2) (a3) (a4) (a5) (a6) (a7) (s : State) (h : Inv s) (t : State) (ht : execStateMirror a0 a1 a2 a3 a4 a5 a6 a7 s = .next t) : Inv t := by
  refine State.act_inv s _ h (fun d hd => ?_) t ht
  extract_lets 
  repeat' (first | (with_reducible assumption) | (with_reducible apply Dev.onTwin_sound) | (with_reducible apply Dev.recvRec_sound) | (refine fun e he => ?_))

theorem execStateReg_inv (a0) (a1) (a2) (a3) (s : State) (h : Inv s) (t : State) (ht : execStateReg a0 a1 a2 a3 s = .next t) : Inv t := by
  refine State.act_inv s _ h (fun d hd => ?_) t ht
  extract_lets 
  repeat' (first | (with_reducible assumption) | (with_reducible apply Dev.recvReg_sound) | (with_reducible apply Dev.recvRec_sound) | (refine fun e he => ?_))

theorem execDevkeyPub_inv (s : State) (h : Inv s) (t : State) (ht : execDevkeyPub s = .next t) : Inv t := by
  refine State.act_inv s _ h (fun d hd => ?_) t ht
  extract_lets 
  repeat' (first | (with_reducible assumption) | (with_reducible apply Dev.mbxServe_sound) | (with_reducible apply Dev.svcWrite_sound) | (refine fun e he => ?_))

theorem execCounterMismatch_inv (a0) (a1) (s : State) (h : Inv s) (t : State) (ht : execCounterMismatch a0 a1 s = .next t) : Inv t := by
  refine State.act_inv s _ h (fun d hd => ?_) t ht
  extract_lets 
  repeat' (first | (with_reducible assumption) | (with_reducible apply Dev.bump_sound) | (with_reducible apply Dev.onBlv_sound) | (fail_if_no_progress split))

theorem execLinWake_inv (a0) (a1) (a2) (s : State) (h : Inv s) (t : State) (ht : execLinWake a0 a1 a2 s = .next t) : Inv t := by
  refine State.act_inv s _ h (fun d hd => ?_) t ht
  extract_lets 
  repeat' (first | (with_reducible assumption) | (with_reducible apply Dev.wakeEvent_sound) | (fail_if_no_progress split))

theorem execAlwaysOnPowerUp_inv (a : Fin 4) (m : List (Nat × List Byte)) (s : State) (h : Inv s) (t : State)
    (ht : execAlwaysOnPowerUp a m s = .next t) : Inv t := by
  refine State.act_inv s _ h (fun d hd => ?_) t ht
  extract_lets w r0 off w2 r2
  have hr : r0.Sound := by
    unfold r0 w
    simp only [Dev.sound_mk]
    exact ⟨reset_regs_wf, rfl, hd.flash, Dev.reset_sound.log, Dev.reset_sound.events, Dev.reset_sound.items, Dev.reset_sound.notes⟩
  clear_value r0
  have hw := Dev.withPins_sound r0 d hr
  have h2 : r2.Sound := by
    unfold r2 w2
    generalize r0.withPins d = q at hw
    simp only [Dev.sound_mk]
    exact ⟨hw.regs, hw.mem, hw.flash, hw.log, Nat.zero_le _, List.length_replicate, hw.notes⟩
  exact foldl_sound _ (fun _ _ he => Dev.flashPut_sound _ _ _ (Dev.flashErase_sound _ _ _ he)) _ h2

theorem execWakeTimer_inv (s : State) (h : Inv s) (t : State) (ht : execWakeTimer s = .next t) : Inv t := by
  refine State.act_inv s _ h (fun d hd => ?_) t ht
  extract_lets x
  split
  · exact ite_sound (Dev.wakeEvent_sound _ _ _ (Dev.onWkt_sound _ _ hd hd.events hd.items)) hd
  · exact hd

theorem execNotePop_inv (s : State) (h : Inv s) (t : State) (ht : execNotePop s = .next t) : Inv t :=
  State.act_inv s _ h (fun d hd => Dev.notesDrop_sound d hd) t ht

theorem execEvtPop_inv (s : State) (h : Inv s) (t : State) (ht : execEvtPop s = .next t) : Inv t :=
  State.act_inv s _ h (fun d hd => Dev.evtDrop_sound d hd) t ht

theorem execXtalFail_inv (s : State) (h : Inv s) (t : State) (ht : execXtalFail s = .next t) : Inv t :=
  State.act_inv s _ h (fun d hd => Dev.onWkt_sound _ _ hd hd.events hd.items) t ht

theorem execPowerOnReset_inv (p : Bool) (s : State) (h : Inv s) (t : State) (ht : execPowerOnReset p s = .next t) : Inv t := by
  refine State.act_inv s _ h (fun d hd => ?_) t ht
  extract_lets w d1
  refine Dev.resetAndStart_sound _ _ _ ?_
  unfold d1 w
  simp only [Dev.sound_mk]
  exact ⟨hd.regs, hd.mem, hd.flash, hd.log, hd.events, by simpa using hd.items, hd.notes⟩

end Sys2Proof.Machine
end

