-- ==== Sys2Proof/Laws/State.lean ====
section
/-!
SUPPORT. What each update of the device leaves and sets: one lemma per field per update.
-/
namespace Sys2Proof.Machine

/-! ### `Dev.wr` -/

@[simp] theorem Dev.wr_regs (d : Dev) (a : Nat) (v : Word) : (d.wr a v).regs = cellSet d.regs a v := rfl
@[simp] theorem Dev.wr_mem (d : Dev) (a : Nat) (v : Word) : (d.wr a v).mem = d.mem := rfl
@[simp] theorem Dev.wr_bad (d : Dev) (a : Nat) (v : Word) : (d.wr a v).bad = d.bad := rfl
@[simp] theorem Dev.wr_hub (d : Dev) (a : Nat) (v : Word) : (d.wr a v).hub = d.hub := rfl
@[simp] theorem Dev.wr_elog (d : Dev) (a : Nat) (v : Word) : (d.wr a v).elog = d.elog := rfl
@[simp] theorem Dev.wr_fab (d : Dev) (a : Nat) (v : Word) : (d.wr a v).fab = d.fab := rfl
@[simp] theorem Dev.wr_hp (d : Dev) (a : Nat) (v : Word) : (d.wr a v).hp = d.hp := rfl
@[simp] theorem Dev.wr_lbu (d : Dev) (a : Nat) (v : Word) : (d.wr a v).lbu = d.lbu := rfl
@[simp] theorem Dev.wr_itm (d : Dev) (a : Nat) (v : Word) : (d.wr a v).itm = d.itm := rfl
@[simp] theorem Dev.wr_intb (d : Dev) (a : Nat) (v : Word) : (d.wr a v).intb = d.intb := rfl
@[simp] theorem Dev.wr_can (d : Dev) (a : Nat) (v : Word) : (d.wr a v).can = d.can := rfl
@[simp] theorem Dev.wr_lin (d : Dev) (a : Nat) (v : Word) : (d.wr a v).lin = d.lin := rfl
@[simp] theorem Dev.wr_mac (d : Dev) (a : Nat) (v : Word) : (d.wr a v).mac = d.mac := rfl
@[simp] theorem Dev.wr_tun (d : Dev) (a : Nat) (v : Word) : (d.wr a v).tun = d.tun := rfl
@[simp] theorem Dev.wr_frm (d : Dev) (a : Nat) (v : Word) : (d.wr a v).frm = d.frm := rfl
@[simp] theorem Dev.wr_trl (d : Dev) (a : Nat) (v : Word) : (d.wr a v).trl = d.trl := rfl
@[simp] theorem Dev.wr_gth (d : Dev) (a : Nat) (v : Word) : (d.wr a v).gth = d.gth := rfl
@[simp] theorem Dev.wr_wkt (d : Dev) (a : Nat) (v : Word) : (d.wr a v).wkt = d.wkt := rfl
@[simp] theorem Dev.wr_dep (d : Dev) (a : Nat) (v : Word) : (d.wr a v).dep = d.dep := rfl
@[simp] theorem Dev.wr_twin (d : Dev) (a : Nat) (v : Word) : (d.wr a v).twin = d.twin := rfl
@[simp] theorem Dev.wr_gzb (d : Dev) (a : Nat) (v : Word) : (d.wr a v).gzb = d.gzb := rfl
@[simp] theorem Dev.wr_blv (d : Dev) (a : Nat) (v : Word) : (d.wr a v).blv = d.blv := rfl
@[simp] theorem Dev.wr_ldg (d : Dev) (a : Nat) (v : Word) : (d.wr a v).ldg = d.ldg := rfl
@[simp] theorem Dev.wr_fresh (d : Dev) (a : Nat) (v : Word) : (d.wr a v).fresh = d.fresh := rfl
@[simp] theorem Dev.wr_out (d : Dev) (a : Nat) (v : Word) : (d.wr a v).out = d.out := rfl

/-! ### `Dev.setFld` -/

@[simp] theorem Dev.setFld_mem (d : Dev) (a lo n x : Nat) : (d.setFld a lo n x).mem = d.mem := rfl
@[simp] theorem Dev.setFld_bad (d : Dev) (a lo n x : Nat) : (d.setFld a lo n x).bad = d.bad := rfl
@[simp] theorem Dev.setFld_hub (d : Dev) (a lo n x : Nat) : (d.setFld a lo n x).hub = d.hub := rfl
@[simp] theorem Dev.setFld_elog (d : Dev) (a lo n x : Nat) : (d.setFld a lo n x).elog = d.elog := rfl
@[simp] theorem Dev.setFld_fab (d : Dev) (a lo n x : Nat) : (d.setFld a lo n x).fab = d.fab := rfl
@[simp] theorem Dev.setFld_hp (d : Dev) (a lo n x : Nat) : (d.setFld a lo n x).hp = d.hp := rfl
@[simp] theorem Dev.setFld_lbu (d : Dev) (a lo n x : Nat) : (d.setFld a lo n x).lbu = d.lbu := rfl
@[simp] theorem Dev.setFld_itm (d : Dev) (a lo n x : Nat) : (d.setFld a lo n x).itm = d.itm := rfl
@[simp] theorem Dev.setFld_intb (d : Dev) (a lo n x : Nat) : (d.setFld a lo n x).intb = d.intb := rfl
@[simp] theorem Dev.setFld_can (d : Dev) (a lo n x : Nat) : (d.setFld a lo n x).can = d.can := rfl
@[simp] theorem Dev.setFld_lin (d : Dev) (a lo n x : Nat) : (d.setFld a lo n x).lin = d.lin := rfl
@[simp] theorem Dev.setFld_mac (d : Dev) (a lo n x : Nat) : (d.setFld a lo n x).mac = d.mac := rfl
@[simp] theorem Dev.setFld_tun (d : Dev) (a lo n x : Nat) : (d.setFld a lo n x).tun = d.tun := rfl
@[simp] theorem Dev.setFld_frm (d : Dev) (a lo n x : Nat) : (d.setFld a lo n x).frm = d.frm := rfl
@[simp] theorem Dev.setFld_trl (d : Dev) (a lo n x : Nat) : (d.setFld a lo n x).trl = d.trl := rfl
@[simp] theorem Dev.setFld_gth (d : Dev) (a lo n x : Nat) : (d.setFld a lo n x).gth = d.gth := rfl
@[simp] theorem Dev.setFld_wkt (d : Dev) (a lo n x : Nat) : (d.setFld a lo n x).wkt = d.wkt := rfl
@[simp] theorem Dev.setFld_dep (d : Dev) (a lo n x : Nat) : (d.setFld a lo n x).dep = d.dep := rfl
@[simp] theorem Dev.setFld_twin (d : Dev) (a lo n x : Nat) : (d.setFld a lo n x).twin = d.twin := rfl
@[simp] theorem Dev.setFld_gzb (d : Dev) (a lo n x : Nat) : (d.setFld a lo n x).gzb = d.gzb := rfl
@[simp] theorem Dev.setFld_blv (d : Dev) (a lo n x : Nat) : (d.setFld a lo n x).blv = d.blv := rfl
@[simp] theorem Dev.setFld_ldg (d : Dev) (a lo n x : Nat) : (d.setFld a lo n x).ldg = d.ldg := rfl
@[simp] theorem Dev.setFld_fresh (d : Dev) (a lo n x : Nat) : (d.setFld a lo n x).fresh = d.fresh := rfl
@[simp] theorem Dev.setFld_out (d : Dev) (a lo n x : Nat) : (d.setFld a lo n x).out = d.out := rfl

/-! ### `Dev.bump` -/

@[simp] theorem Dev.bump_mem (d : Dev) (a n : Nat) : (d.bump a n).mem = d.mem := rfl
@[simp] theorem Dev.bump_bad (d : Dev) (a n : Nat) : (d.bump a n).bad = d.bad := rfl
@[simp] theorem Dev.bump_hub (d : Dev) (a n : Nat) : (d.bump a n).hub = d.hub := rfl
@[simp] theorem Dev.bump_elog (d : Dev) (a n : Nat) : (d.bump a n).elog = d.elog := rfl
@[simp] theorem Dev.bump_fab (d : Dev) (a n : Nat) : (d.bump a n).fab = d.fab := rfl
@[simp] theorem Dev.bump_hp (d : Dev) (a n : Nat) : (d.bump a n).hp = d.hp := rfl
@[simp] theorem Dev.bump_lbu (d : Dev) (a n : Nat) : (d.bump a n).lbu = d.lbu := rfl
@[simp] theorem Dev.bump_itm (d : Dev) (a n : Nat) : (d.bump a n).itm = d.itm := rfl
@[simp] theorem Dev.bump_intb (d : Dev) (a n : Nat) : (d.bump a n).intb = d.intb := rfl
@[simp] theorem Dev.bump_can (d : Dev) (a n : Nat) : (d.bump a n).can = d.can := rfl
@[simp] theorem Dev.bump_lin (d : Dev) (a n : Nat) : (d.bump a n).lin = d.lin := rfl
@[simp] theorem Dev.bump_mac (d : Dev) (a n : Nat) : (d.bump a n).mac = d.mac := rfl
@[simp] theorem Dev.bump_tun (d : Dev) (a n : Nat) : (d.bump a n).tun = d.tun := rfl
@[simp] theorem Dev.bump_frm (d : Dev) (a n : Nat) : (d.bump a n).frm = d.frm := rfl
@[simp] theorem Dev.bump_trl (d : Dev) (a n : Nat) : (d.bump a n).trl = d.trl := rfl
@[simp] theorem Dev.bump_gth (d : Dev) (a n : Nat) : (d.bump a n).gth = d.gth := rfl
@[simp] theorem Dev.bump_wkt (d : Dev) (a n : Nat) : (d.bump a n).wkt = d.wkt := rfl
@[simp] theorem Dev.bump_dep (d : Dev) (a n : Nat) : (d.bump a n).dep = d.dep := rfl
@[simp] theorem Dev.bump_twin (d : Dev) (a n : Nat) : (d.bump a n).twin = d.twin := rfl
@[simp] theorem Dev.bump_gzb (d : Dev) (a n : Nat) : (d.bump a n).gzb = d.gzb := rfl
@[simp] theorem Dev.bump_blv (d : Dev) (a n : Nat) : (d.bump a n).blv = d.blv := rfl
@[simp] theorem Dev.bump_ldg (d : Dev) (a n : Nat) : (d.bump a n).ldg = d.ldg := rfl
@[simp] theorem Dev.bump_fresh (d : Dev) (a n : Nat) : (d.bump a n).fresh = d.fresh := rfl
@[simp] theorem Dev.bump_out (d : Dev) (a n : Nat) : (d.bump a n).out = d.out := rfl

/-! ### `Dev.bump64` -/

@[simp] theorem Dev.bump64_mem (d : Dev) (a n : Nat) : (d.bump64 a n).mem = d.mem := rfl
@[simp] theorem Dev.bump64_bad (d : Dev) (a n : Nat) : (d.bump64 a n).bad = d.bad := rfl
@[simp] theorem Dev.bump64_hub (d : Dev) (a n : Nat) : (d.bump64 a n).hub = d.hub := rfl
@[simp] theorem Dev.bump64_elog (d : Dev) (a n : Nat) : (d.bump64 a n).elog = d.elog := rfl
@[simp] theorem Dev.bump64_fab (d : Dev) (a n : Nat) : (d.bump64 a n).fab = d.fab := rfl
@[simp] theorem Dev.bump64_hp (d : Dev) (a n : Nat) : (d.bump64 a n).hp = d.hp := rfl
@[simp] theorem Dev.bump64_lbu (d : Dev) (a n : Nat) : (d.bump64 a n).lbu = d.lbu := rfl
@[simp] theorem Dev.bump64_itm (d : Dev) (a n : Nat) : (d.bump64 a n).itm = d.itm := rfl
@[simp] theorem Dev.bump64_intb (d : Dev) (a n : Nat) : (d.bump64 a n).intb = d.intb := rfl
@[simp] theorem Dev.bump64_can (d : Dev) (a n : Nat) : (d.bump64 a n).can = d.can := rfl
@[simp] theorem Dev.bump64_lin (d : Dev) (a n : Nat) : (d.bump64 a n).lin = d.lin := rfl
@[simp] theorem Dev.bump64_mac (d : Dev) (a n : Nat) : (d.bump64 a n).mac = d.mac := rfl
@[simp] theorem Dev.bump64_tun (d : Dev) (a n : Nat) : (d.bump64 a n).tun = d.tun := rfl
@[simp] theorem Dev.bump64_frm (d : Dev) (a n : Nat) : (d.bump64 a n).frm = d.frm := rfl
@[simp] theorem Dev.bump64_trl (d : Dev) (a n : Nat) : (d.bump64 a n).trl = d.trl := rfl
@[simp] theorem Dev.bump64_gth (d : Dev) (a n : Nat) : (d.bump64 a n).gth = d.gth := rfl
@[simp] theorem Dev.bump64_wkt (d : Dev) (a n : Nat) : (d.bump64 a n).wkt = d.wkt := rfl
@[simp] theorem Dev.bump64_dep (d : Dev) (a n : Nat) : (d.bump64 a n).dep = d.dep := rfl
@[simp] theorem Dev.bump64_twin (d : Dev) (a n : Nat) : (d.bump64 a n).twin = d.twin := rfl
@[simp] theorem Dev.bump64_gzb (d : Dev) (a n : Nat) : (d.bump64 a n).gzb = d.gzb := rfl
@[simp] theorem Dev.bump64_blv (d : Dev) (a n : Nat) : (d.bump64 a n).blv = d.blv := rfl
@[simp] theorem Dev.bump64_ldg (d : Dev) (a n : Nat) : (d.bump64 a n).ldg = d.ldg := rfl
@[simp] theorem Dev.bump64_fresh (d : Dev) (a n : Nat) : (d.bump64 a n).fresh = d.fresh := rfl
@[simp] theorem Dev.bump64_out (d : Dev) (a n : Nat) : (d.bump64 a n).out = d.out := rfl

/-! ### `Dev.wr64` -/

@[simp] theorem Dev.wr64_mem (d : Dev) (a x : Nat) : (d.wr64 a x).mem = d.mem := rfl
@[simp] theorem Dev.wr64_bad (d : Dev) (a x : Nat) : (d.wr64 a x).bad = d.bad := rfl
@[simp] theorem Dev.wr64_hub (d : Dev) (a x : Nat) : (d.wr64 a x).hub = d.hub := rfl
@[simp] theorem Dev.wr64_elog (d : Dev) (a x : Nat) : (d.wr64 a x).elog = d.elog := rfl
@[simp] theorem Dev.wr64_fab (d : Dev) (a x : Nat) : (d.wr64 a x).fab = d.fab := rfl
@[simp] theorem Dev.wr64_hp (d : Dev) (a x : Nat) : (d.wr64 a x).hp = d.hp := rfl
@[simp] theorem Dev.wr64_lbu (d : Dev) (a x : Nat) : (d.wr64 a x).lbu = d.lbu := rfl
@[simp] theorem Dev.wr64_itm (d : Dev) (a x : Nat) : (d.wr64 a x).itm = d.itm := rfl
@[simp] theorem Dev.wr64_intb (d : Dev) (a x : Nat) : (d.wr64 a x).intb = d.intb := rfl
@[simp] theorem Dev.wr64_can (d : Dev) (a x : Nat) : (d.wr64 a x).can = d.can := rfl
@[simp] theorem Dev.wr64_lin (d : Dev) (a x : Nat) : (d.wr64 a x).lin = d.lin := rfl
@[simp] theorem Dev.wr64_mac (d : Dev) (a x : Nat) : (d.wr64 a x).mac = d.mac := rfl
@[simp] theorem Dev.wr64_tun (d : Dev) (a x : Nat) : (d.wr64 a x).tun = d.tun := rfl
@[simp] theorem Dev.wr64_frm (d : Dev) (a x : Nat) : (d.wr64 a x).frm = d.frm := rfl
@[simp] theorem Dev.wr64_trl (d : Dev) (a x : Nat) : (d.wr64 a x).trl = d.trl := rfl
@[simp] theorem Dev.wr64_gth (d : Dev) (a x : Nat) : (d.wr64 a x).gth = d.gth := rfl
@[simp] theorem Dev.wr64_wkt (d : Dev) (a x : Nat) : (d.wr64 a x).wkt = d.wkt := rfl
@[simp] theorem Dev.wr64_dep (d : Dev) (a x : Nat) : (d.wr64 a x).dep = d.dep := rfl
@[simp] theorem Dev.wr64_twin (d : Dev) (a x : Nat) : (d.wr64 a x).twin = d.twin := rfl
@[simp] theorem Dev.wr64_gzb (d : Dev) (a x : Nat) : (d.wr64 a x).gzb = d.gzb := rfl
@[simp] theorem Dev.wr64_blv (d : Dev) (a x : Nat) : (d.wr64 a x).blv = d.blv := rfl
@[simp] theorem Dev.wr64_ldg (d : Dev) (a x : Nat) : (d.wr64 a x).ldg = d.ldg := rfl
@[simp] theorem Dev.wr64_fresh (d : Dev) (a x : Nat) : (d.wr64 a x).fresh = d.fresh := rfl
@[simp] theorem Dev.wr64_out (d : Dev) (a x : Nat) : (d.wr64 a x).out = d.out := rfl

/-! ### `Dev.setByte` -/

@[simp] theorem Dev.setByte_regs (d : Dev) (a : Nat) (b : Byte) : (d.setByte a b).regs = d.regs := rfl
@[simp] theorem Dev.setByte_mem (d : Dev) (a : Nat) (b : Byte) : (d.setByte a b).mem = cellSet d.mem a b := rfl
@[simp] theorem Dev.setByte_bad (d : Dev) (a : Nat) (b : Byte) : (d.setByte a b).bad = d.bad := rfl
@[simp] theorem Dev.setByte_hub (d : Dev) (a : Nat) (b : Byte) : (d.setByte a b).hub = d.hub := rfl
@[simp] theorem Dev.setByte_elog (d : Dev) (a : Nat) (b : Byte) : (d.setByte a b).elog = d.elog := rfl
@[simp] theorem Dev.setByte_fab (d : Dev) (a : Nat) (b : Byte) : (d.setByte a b).fab = d.fab := rfl
@[simp] theorem Dev.setByte_hp (d : Dev) (a : Nat) (b : Byte) : (d.setByte a b).hp = d.hp := rfl
@[simp] theorem Dev.setByte_lbu (d : Dev) (a : Nat) (b : Byte) : (d.setByte a b).lbu = d.lbu := rfl
@[simp] theorem Dev.setByte_itm (d : Dev) (a : Nat) (b : Byte) : (d.setByte a b).itm = d.itm := rfl
@[simp] theorem Dev.setByte_intb (d : Dev) (a : Nat) (b : Byte) : (d.setByte a b).intb = d.intb := rfl
@[simp] theorem Dev.setByte_can (d : Dev) (a : Nat) (b : Byte) : (d.setByte a b).can = d.can := rfl
@[simp] theorem Dev.setByte_lin (d : Dev) (a : Nat) (b : Byte) : (d.setByte a b).lin = d.lin := rfl
@[simp] theorem Dev.setByte_mac (d : Dev) (a : Nat) (b : Byte) : (d.setByte a b).mac = d.mac := rfl
@[simp] theorem Dev.setByte_tun (d : Dev) (a : Nat) (b : Byte) : (d.setByte a b).tun = d.tun := rfl
@[simp] theorem Dev.setByte_frm (d : Dev) (a : Nat) (b : Byte) : (d.setByte a b).frm = d.frm := rfl
@[simp] theorem Dev.setByte_trl (d : Dev) (a : Nat) (b : Byte) : (d.setByte a b).trl = d.trl := rfl
@[simp] theorem Dev.setByte_gth (d : Dev) (a : Nat) (b : Byte) : (d.setByte a b).gth = d.gth := rfl
@[simp] theorem Dev.setByte_wkt (d : Dev) (a : Nat) (b : Byte) : (d.setByte a b).wkt = d.wkt := rfl
@[simp] theorem Dev.setByte_dep (d : Dev) (a : Nat) (b : Byte) : (d.setByte a b).dep = d.dep := rfl
@[simp] theorem Dev.setByte_twin (d : Dev) (a : Nat) (b : Byte) : (d.setByte a b).twin = d.twin := rfl
@[simp] theorem Dev.setByte_gzb (d : Dev) (a : Nat) (b : Byte) : (d.setByte a b).gzb = d.gzb := rfl
@[simp] theorem Dev.setByte_blv (d : Dev) (a : Nat) (b : Byte) : (d.setByte a b).blv = d.blv := rfl
@[simp] theorem Dev.setByte_ldg (d : Dev) (a : Nat) (b : Byte) : (d.setByte a b).ldg = d.ldg := rfl
@[simp] theorem Dev.setByte_fresh (d : Dev) (a : Nat) (b : Byte) : (d.setByte a b).fresh = d.fresh := rfl
@[simp] theorem Dev.setByte_out (d : Dev) (a : Nat) (b : Byte) : (d.setByte a b).out = d.out := rfl
@[simp] theorem Dev.setByte_rd (d : Dev) (a : Nat) (b : Byte) (o : Nat) : (d.setByte a b).rd o = d.rd o := rfl

/-! ### `Dev.emit` -/

@[simp] theorem Dev.emit_regs (d : Dev) (e : Emit) : (d.emit e).regs = d.regs := rfl
@[simp] theorem Dev.emit_mem (d : Dev) (e : Emit) : (d.emit e).mem = d.mem := rfl
@[simp] theorem Dev.emit_bad (d : Dev) (e : Emit) : (d.emit e).bad = d.bad := rfl
@[simp] theorem Dev.emit_hub (d : Dev) (e : Emit) : (d.emit e).hub = d.hub := rfl
@[simp] theorem Dev.emit_elog (d : Dev) (e : Emit) : (d.emit e).elog = d.elog := rfl
@[simp] theorem Dev.emit_fab (d : Dev) (e : Emit) : (d.emit e).fab = d.fab := rfl
@[simp] theorem Dev.emit_hp (d : Dev) (e : Emit) : (d.emit e).hp = d.hp := rfl
@[simp] theorem Dev.emit_lbu (d : Dev) (e : Emit) : (d.emit e).lbu = d.lbu := rfl
@[simp] theorem Dev.emit_itm (d : Dev) (e : Emit) : (d.emit e).itm = d.itm := rfl
@[simp] theorem Dev.emit_intb (d : Dev) (e : Emit) : (d.emit e).intb = d.intb := rfl
@[simp] theorem Dev.emit_can (d : Dev) (e : Emit) : (d.emit e).can = d.can := rfl
@[simp] theorem Dev.emit_lin (d : Dev) (e : Emit) : (d.emit e).lin = d.lin := rfl
@[simp] theorem Dev.emit_mac (d : Dev) (e : Emit) : (d.emit e).mac = d.mac := rfl
@[simp] theorem Dev.emit_tun (d : Dev) (e : Emit) : (d.emit e).tun = d.tun := rfl
@[simp] theorem Dev.emit_frm (d : Dev) (e : Emit) : (d.emit e).frm = d.frm := rfl
@[simp] theorem Dev.emit_trl (d : Dev) (e : Emit) : (d.emit e).trl = d.trl := rfl
@[simp] theorem Dev.emit_gth (d : Dev) (e : Emit) : (d.emit e).gth = d.gth := rfl
@[simp] theorem Dev.emit_wkt (d : Dev) (e : Emit) : (d.emit e).wkt = d.wkt := rfl
@[simp] theorem Dev.emit_dep (d : Dev) (e : Emit) : (d.emit e).dep = d.dep := rfl
@[simp] theorem Dev.emit_twin (d : Dev) (e : Emit) : (d.emit e).twin = d.twin := rfl
@[simp] theorem Dev.emit_gzb (d : Dev) (e : Emit) : (d.emit e).gzb = d.gzb := rfl
@[simp] theorem Dev.emit_blv (d : Dev) (e : Emit) : (d.emit e).blv = d.blv := rfl
@[simp] theorem Dev.emit_ldg (d : Dev) (e : Emit) : (d.emit e).ldg = d.ldg := rfl
@[simp] theorem Dev.emit_fresh (d : Dev) (e : Emit) : (d.emit e).fresh = d.fresh := rfl
@[simp] theorem Dev.emit_out (d : Dev) (e : Emit) : (d.emit e).out = d.out ++ [e] := rfl
@[simp] theorem Dev.emit_rd (d : Dev) (e : Emit) (o : Nat) : (d.emit e).rd o = d.rd o := rfl

/-! ### `Dev.tick` -/

@[simp] theorem Dev.tick_regs (d : Dev) : (d.tick).regs = d.regs := rfl
@[simp] theorem Dev.tick_mem (d : Dev) : (d.tick).mem = d.mem := rfl
@[simp] theorem Dev.tick_bad (d : Dev) : (d.tick).bad = d.bad := rfl
@[simp] theorem Dev.tick_hub (d : Dev) : (d.tick).hub = d.hub := rfl
@[simp] theorem Dev.tick_elog (d : Dev) : (d.tick).elog = d.elog := rfl
@[simp] theorem Dev.tick_fab (d : Dev) : (d.tick).fab = d.fab := rfl
@[simp] theorem Dev.tick_hp (d : Dev) : (d.tick).hp = d.hp := rfl
@[simp] theorem Dev.tick_lbu (d : Dev) : (d.tick).lbu = d.lbu := rfl
@[simp] theorem Dev.tick_itm (d : Dev) : (d.tick).itm = d.itm := rfl
@[simp] theorem Dev.tick_intb (d : Dev) : (d.tick).intb = d.intb := rfl
@[simp] theorem Dev.tick_can (d : Dev) : (d.tick).can = d.can := rfl
@[simp] theorem Dev.tick_lin (d : Dev) : (d.tick).lin = d.lin := rfl
@[simp] theorem Dev.tick_mac (d : Dev) : (d.tick).mac = d.mac := rfl
@[simp] theorem Dev.tick_tun (d : Dev) : (d.tick).tun = d.tun := rfl
@[simp] theorem Dev.tick_frm (d : Dev) : (d.tick).frm = d.frm := rfl
@[simp] theorem Dev.tick_trl (d : Dev) : (d.tick).trl = d.trl := rfl
@[simp] theorem Dev.tick_gth (d : Dev) : (d.tick).gth = d.gth := rfl
@[simp] theorem Dev.tick_wkt (d : Dev) : (d.tick).wkt = d.wkt := rfl
@[simp] theorem Dev.tick_dep (d : Dev) : (d.tick).dep = d.dep := rfl
@[simp] theorem Dev.tick_twin (d : Dev) : (d.tick).twin = d.twin := rfl
@[simp] theorem Dev.tick_gzb (d : Dev) : (d.tick).gzb = d.gzb := rfl
@[simp] theorem Dev.tick_blv (d : Dev) : (d.tick).blv = d.blv := rfl
@[simp] theorem Dev.tick_ldg (d : Dev) : (d.tick).ldg = d.ldg := rfl
@[simp] theorem Dev.tick_fresh (d : Dev) : (d.tick).fresh = d.fresh + 1 := rfl
@[simp] theorem Dev.tick_out (d : Dev) : (d.tick).out = d.out := rfl
@[simp] theorem Dev.tick_rd (d : Dev) (o : Nat) : (d.tick).rd o = d.rd o := rfl

/-! ### `Dev.onBlv` -/

@[simp] theorem Dev.onBlv_regs (d : Dev) (f : Blv → Blv) : (d.onBlv f).regs = d.regs := rfl
@[simp] theorem Dev.onBlv_mem (d : Dev) (f : Blv → Blv) : (d.onBlv f).mem = d.mem := rfl
@[simp] theorem Dev.onBlv_bad (d : Dev) (f : Blv → Blv) : (d.onBlv f).bad = d.bad := rfl
@[simp] theorem Dev.onBlv_hub (d : Dev) (f : Blv → Blv) : (d.onBlv f).hub = d.hub := rfl
@[simp] theorem Dev.onBlv_elog (d : Dev) (f : Blv → Blv) : (d.onBlv f).elog = d.elog := rfl
@[simp] theorem Dev.onBlv_fab (d : Dev) (f : Blv → Blv) : (d.onBlv f).fab = d.fab := rfl
@[simp] theorem Dev.onBlv_hp (d : Dev) (f : Blv → Blv) : (d.onBlv f).hp = d.hp := rfl
@[simp] theorem Dev.onBlv_lbu (d : Dev) (f : Blv → Blv) : (d.onBlv f).lbu = d.lbu := rfl
@[simp] theorem Dev.onBlv_itm (d : Dev) (f : Blv → Blv) : (d.onBlv f).itm = d.itm := rfl
@[simp] theorem Dev.onBlv_intb (d : Dev) (f : Blv → Blv) : (d.onBlv f).intb = d.intb := rfl
@[simp] theorem Dev.onBlv_can (d : Dev) (f : Blv → Blv) : (d.onBlv f).can = d.can := rfl
@[simp] theorem Dev.onBlv_lin (d : Dev) (f : Blv → Blv) : (d.onBlv f).lin = d.lin := rfl
@[simp] theorem Dev.onBlv_mac (d : Dev) (f : Blv → Blv) : (d.onBlv f).mac = d.mac := rfl
@[simp] theorem Dev.onBlv_tun (d : Dev) (f : Blv → Blv) : (d.onBlv f).tun = d.tun := rfl
@[simp] theorem Dev.onBlv_frm (d : Dev) (f : Blv → Blv) : (d.onBlv f).frm = d.frm := rfl
@[simp] theorem Dev.onBlv_trl (d : Dev) (f : Blv → Blv) : (d.onBlv f).trl = d.trl := rfl
@[simp] theorem Dev.onBlv_gth (d : Dev) (f : Blv → Blv) : (d.onBlv f).gth = d.gth := rfl
@[simp] theorem Dev.onBlv_wkt (d : Dev) (f : Blv → Blv) : (d.onBlv f).wkt = d.wkt := rfl
@[simp] theorem Dev.onBlv_dep (d : Dev) (f : Blv → Blv) : (d.onBlv f).dep = d.dep := rfl
@[simp] theorem Dev.onBlv_twin (d : Dev) (f : Blv → Blv) : (d.onBlv f).twin = d.twin := rfl
@[simp] theorem Dev.onBlv_gzb (d : Dev) (f : Blv → Blv) : (d.onBlv f).gzb = d.gzb := rfl
@[simp] theorem Dev.onBlv_blv (d : Dev) (f : Blv → Blv) : (d.onBlv f).blv = f d.blv := rfl
@[simp] theorem Dev.onBlv_ldg (d : Dev) (f : Blv → Blv) : (d.onBlv f).ldg = d.ldg := rfl
@[simp] theorem Dev.onBlv_fresh (d : Dev) (f : Blv → Blv) : (d.onBlv f).fresh = d.fresh := rfl
@[simp] theorem Dev.onBlv_out (d : Dev) (f : Blv → Blv) : (d.onBlv f).out = d.out := rfl
@[simp] theorem Dev.onBlv_rd (d : Dev) (f : Blv → Blv) (o : Nat) : (d.onBlv f).rd o = d.rd o := rfl

/-! ### `Dev.onDep` -/

@[simp] theorem Dev.onDep_regs (d : Dev) (f : Dep → Dep) : (d.onDep f).regs = d.regs := rfl
@[simp] theorem Dev.onDep_mem (d : Dev) (f : Dep → Dep) : (d.onDep f).mem = d.mem := rfl
@[simp] theorem Dev.onDep_bad (d : Dev) (f : Dep → Dep) : (d.onDep f).bad = d.bad := rfl
@[simp] theorem Dev.onDep_hub (d : Dev) (f : Dep → Dep) : (d.onDep f).hub = d.hub := rfl
@[simp] theorem Dev.onDep_elog (d : Dev) (f : Dep → Dep) : (d.onDep f).elog = d.elog := rfl
@[simp] theorem Dev.onDep_fab (d : Dev) (f : Dep → Dep) : (d.onDep f).fab = d.fab := rfl
@[simp] theorem Dev.onDep_hp (d : Dev) (f : Dep → Dep) : (d.onDep f).hp = d.hp := rfl
@[simp] theorem Dev.onDep_lbu (d : Dev) (f : Dep → Dep) : (d.onDep f).lbu = d.lbu := rfl
@[simp] theorem Dev.onDep_itm (d : Dev) (f : Dep → Dep) : (d.onDep f).itm = d.itm := rfl
@[simp] theorem Dev.onDep_intb (d : Dev) (f : Dep → Dep) : (d.onDep f).intb = d.intb := rfl
@[simp] theorem Dev.onDep_can (d : Dev) (f : Dep → Dep) : (d.onDep f).can = d.can := rfl
@[simp] theorem Dev.onDep_lin (d : Dev) (f : Dep → Dep) : (d.onDep f).lin = d.lin := rfl
@[simp] theorem Dev.onDep_mac (d : Dev) (f : Dep → Dep) : (d.onDep f).mac = d.mac := rfl
@[simp] theorem Dev.onDep_tun (d : Dev) (f : Dep → Dep) : (d.onDep f).tun = d.tun := rfl
@[simp] theorem Dev.onDep_frm (d : Dev) (f : Dep → Dep) : (d.onDep f).frm = d.frm := rfl
@[simp] theorem Dev.onDep_trl (d : Dev) (f : Dep → Dep) : (d.onDep f).trl = d.trl := rfl
@[simp] theorem Dev.onDep_gth (d : Dev) (f : Dep → Dep) : (d.onDep f).gth = d.gth := rfl
@[simp] theorem Dev.onDep_wkt (d : Dev) (f : Dep → Dep) : (d.onDep f).wkt = d.wkt := rfl
@[simp] theorem Dev.onDep_dep (d : Dev) (f : Dep → Dep) : (d.onDep f).dep = f d.dep := rfl
@[simp] theorem Dev.onDep_twin (d : Dev) (f : Dep → Dep) : (d.onDep f).twin = d.twin := rfl
@[simp] theorem Dev.onDep_gzb (d : Dev) (f : Dep → Dep) : (d.onDep f).gzb = d.gzb := rfl
@[simp] theorem Dev.onDep_blv (d : Dev) (f : Dep → Dep) : (d.onDep f).blv = d.blv := rfl
@[simp] theorem Dev.onDep_ldg (d : Dev) (f : Dep → Dep) : (d.onDep f).ldg = d.ldg := rfl
@[simp] theorem Dev.onDep_fresh (d : Dev) (f : Dep → Dep) : (d.onDep f).fresh = d.fresh := rfl
@[simp] theorem Dev.onDep_out (d : Dev) (f : Dep → Dep) : (d.onDep f).out = d.out := rfl
@[simp] theorem Dev.onDep_rd (d : Dev) (f : Dep → Dep) (o : Nat) : (d.onDep f).rd o = d.rd o := rfl

/-! ### `Dev.onTwin` -/

@[simp] theorem Dev.onTwin_regs (d : Dev) (f : Twin → Twin) : (d.onTwin f).regs = d.regs := rfl
@[simp] theorem Dev.onTwin_mem (d : Dev) (f : Twin → Twin) : (d.onTwin f).mem = d.mem := rfl
@[simp] theorem Dev.onTwin_bad (d : Dev) (f : Twin → Twin) : (d.onTwin f).bad = d.bad := rfl
@[simp] theorem Dev.onTwin_hub (d : Dev) (f : Twin → Twin) : (d.onTwin f).hub = d.hub := rfl
@[simp] theorem Dev.onTwin_elog (d : Dev) (f : Twin → Twin) : (d.onTwin f).elog = d.elog := rfl
@[simp] theorem Dev.onTwin_fab (d : Dev) (f : Twin → Twin) : (d.onTwin f).fab = d.fab := rfl
@[simp] theorem Dev.onTwin_hp (d : Dev) (f : Twin → Twin) : (d.onTwin f).hp = d.hp := rfl
@[simp] theorem Dev.onTwin_lbu (d : Dev) (f : Twin → Twin) : (d.onTwin f).lbu = d.lbu := rfl
@[simp] theorem Dev.onTwin_itm (d : Dev) (f : Twin → Twin) : (d.onTwin f).itm = d.itm := rfl
@[simp] theorem Dev.onTwin_intb (d : Dev) (f : Twin → Twin) : (d.onTwin f).intb = d.intb := rfl
@[simp] theorem Dev.onTwin_can (d : Dev) (f : Twin → Twin) : (d.onTwin f).can = d.can := rfl
@[simp] theorem Dev.onTwin_lin (d : Dev) (f : Twin → Twin) : (d.onTwin f).lin = d.lin := rfl
@[simp] theorem Dev.onTwin_mac (d : Dev) (f : Twin → Twin) : (d.onTwin f).mac = d.mac := rfl
@[simp] theorem Dev.onTwin_tun (d : Dev) (f : Twin → Twin) : (d.onTwin f).tun = d.tun := rfl
@[simp] theorem Dev.onTwin_frm (d : Dev) (f : Twin → Twin) : (d.onTwin f).frm = d.frm := rfl
@[simp] theorem Dev.onTwin_trl (d : Dev) (f : Twin → Twin) : (d.onTwin f).trl = d.trl := rfl
@[simp] theorem Dev.onTwin_gth (d : Dev) (f : Twin → Twin) : (d.onTwin f).gth = d.gth := rfl
@[simp] theorem Dev.onTwin_wkt (d : Dev) (f : Twin → Twin) : (d.onTwin f).wkt = d.wkt := rfl
@[simp] theorem Dev.onTwin_dep (d : Dev) (f : Twin → Twin) : (d.onTwin f).dep = d.dep := rfl
@[simp] theorem Dev.onTwin_twin (d : Dev) (f : Twin → Twin) : (d.onTwin f).twin = f d.twin := rfl
@[simp] theorem Dev.onTwin_gzb (d : Dev) (f : Twin → Twin) : (d.onTwin f).gzb = d.gzb := rfl
@[simp] theorem Dev.onTwin_blv (d : Dev) (f : Twin → Twin) : (d.onTwin f).blv = d.blv := rfl
@[simp] theorem Dev.onTwin_ldg (d : Dev) (f : Twin → Twin) : (d.onTwin f).ldg = d.ldg := rfl
@[simp] theorem Dev.onTwin_fresh (d : Dev) (f : Twin → Twin) : (d.onTwin f).fresh = d.fresh := rfl
@[simp] theorem Dev.onTwin_out (d : Dev) (f : Twin → Twin) : (d.onTwin f).out = d.out := rfl
@[simp] theorem Dev.onTwin_rd (d : Dev) (f : Twin → Twin) (o : Nat) : (d.onTwin f).rd o = d.rd o := rfl

/-! ### `Dev.onFab` -/

@[simp] theorem Dev.onFab_regs (d : Dev) (f : Fabric → Fabric) : (d.onFab f).regs = d.regs := rfl
@[simp] theorem Dev.onFab_mem (d : Dev) (f : Fabric → Fabric) : (d.onFab f).mem = d.mem := rfl
@[simp] theorem Dev.onFab_bad (d : Dev) (f : Fabric → Fabric) : (d.onFab f).bad = d.bad := rfl
@[simp] theorem Dev.onFab_hub (d : Dev) (f : Fabric → Fabric) : (d.onFab f).hub = d.hub := rfl
@[simp] theorem Dev.onFab_elog (d : Dev) (f : Fabric → Fabric) : (d.onFab f).elog = d.elog := rfl
@[simp] theorem Dev.onFab_fab (d : Dev) (f : Fabric → Fabric) : (d.onFab f).fab = f d.fab := rfl
@[simp] theorem Dev.onFab_hp (d : Dev) (f : Fabric → Fabric) : (d.onFab f).hp = d.hp := rfl
@[simp] theorem Dev.onFab_lbu (d : Dev) (f : Fabric → Fabric) : (d.onFab f).lbu = d.lbu := rfl
@[simp] theorem Dev.onFab_itm (d : Dev) (f : Fabric → Fabric) : (d.onFab f).itm = d.itm := rfl
@[simp] theorem Dev.onFab_intb (d : Dev) (f : Fabric → Fabric) : (d.onFab f).intb = d.intb := rfl
@[simp] theorem Dev.onFab_can (d : Dev) (f : Fabric → Fabric) : (d.onFab f).can = d.can := rfl
@[simp] theorem Dev.onFab_lin (d : Dev) (f : Fabric → Fabric) : (d.onFab f).lin = d.lin := rfl
@[simp] theorem Dev.onFab_mac (d : Dev) (f : Fabric → Fabric) : (d.onFab f).mac = d.mac := rfl
@[simp] theorem Dev.onFab_tun (d : Dev) (f : Fabric → Fabric) : (d.onFab f).tun = d.tun := rfl
@[simp] theorem Dev.onFab_frm (d : Dev) (f : Fabric → Fabric) : (d.onFab f).frm = d.frm := rfl
@[simp] theorem Dev.onFab_trl (d : Dev) (f : Fabric → Fabric) : (d.onFab f).trl = d.trl := rfl
@[simp] theorem Dev.onFab_gth (d : Dev) (f : Fabric → Fabric) : (d.onFab f).gth = d.gth := rfl
@[simp] theorem Dev.onFab_wkt (d : Dev) (f : Fabric → Fabric) : (d.onFab f).wkt = d.wkt := rfl
@[simp] theorem Dev.onFab_dep (d : Dev) (f : Fabric → Fabric) : (d.onFab f).dep = d.dep := rfl
@[simp] theorem Dev.onFab_twin (d : Dev) (f : Fabric → Fabric) : (d.onFab f).twin = d.twin := rfl
@[simp] theorem Dev.onFab_gzb (d : Dev) (f : Fabric → Fabric) : (d.onFab f).gzb = d.gzb := rfl
@[simp] theorem Dev.onFab_blv (d : Dev) (f : Fabric → Fabric) : (d.onFab f).blv = d.blv := rfl
@[simp] theorem Dev.onFab_ldg (d : Dev) (f : Fabric → Fabric) : (d.onFab f).ldg = d.ldg := rfl
@[simp] theorem Dev.onFab_fresh (d : Dev) (f : Fabric → Fabric) : (d.onFab f).fresh = d.fresh := rfl
@[simp] theorem Dev.onFab_out (d : Dev) (f : Fabric → Fabric) : (d.onFab f).out = d.out := rfl
@[simp] theorem Dev.onFab_rd (d : Dev) (f : Fabric → Fabric) (o : Nat) : (d.onFab f).rd o = d.rd o := rfl

/-! ### `Dev.onGth` -/

@[simp] theorem Dev.onGth_regs (d : Dev) (f : Gth → Gth) : (d.onGth f).regs = d.regs := rfl
@[simp] theorem Dev.onGth_mem (d : Dev) (f : Gth → Gth) : (d.onGth f).mem = d.mem := rfl
@[simp] theorem Dev.onGth_bad (d : Dev) (f : Gth → Gth) : (d.onGth f).bad = d.bad := rfl
@[simp] theorem Dev.onGth_hub (d : Dev) (f : Gth → Gth) : (d.onGth f).hub = d.hub := rfl
@[simp] theorem Dev.onGth_elog (d : Dev) (f : Gth → Gth) : (d.onGth f).elog = d.elog := rfl
@[simp] theorem Dev.onGth_fab (d : Dev) (f : Gth → Gth) : (d.onGth f).fab = d.fab := rfl
@[simp] theorem Dev.onGth_hp (d : Dev) (f : Gth → Gth) : (d.onGth f).hp = d.hp := rfl
@[simp] theorem Dev.onGth_lbu (d : Dev) (f : Gth → Gth) : (d.onGth f).lbu = d.lbu := rfl
@[simp] theorem Dev.onGth_itm (d : Dev) (f : Gth → Gth) : (d.onGth f).itm = d.itm := rfl
@[simp] theorem Dev.onGth_intb (d : Dev) (f : Gth → Gth) : (d.onGth f).intb = d.intb := rfl
@[simp] theorem Dev.onGth_can (d : Dev) (f : Gth → Gth) : (d.onGth f).can = d.can := rfl
@[simp] theorem Dev.onGth_lin (d : Dev) (f : Gth → Gth) : (d.onGth f).lin = d.lin := rfl
@[simp] theorem Dev.onGth_mac (d : Dev) (f : Gth → Gth) : (d.onGth f).mac = d.mac := rfl
@[simp] theorem Dev.onGth_tun (d : Dev) (f : Gth → Gth) : (d.onGth f).tun = d.tun := rfl
@[simp] theorem Dev.onGth_frm (d : Dev) (f : Gth → Gth) : (d.onGth f).frm = d.frm := rfl
@[simp] theorem Dev.onGth_trl (d : Dev) (f : Gth → Gth) : (d.onGth f).trl = d.trl := rfl
@[simp] theorem Dev.onGth_gth (d : Dev) (f : Gth → Gth) : (d.onGth f).gth = f d.gth := rfl
@[simp] theorem Dev.onGth_wkt (d : Dev) (f : Gth → Gth) : (d.onGth f).wkt = d.wkt := rfl
@[simp] theorem Dev.onGth_dep (d : Dev) (f : Gth → Gth) : (d.onGth f).dep = d.dep := rfl
@[simp] theorem Dev.onGth_twin (d : Dev) (f : Gth → Gth) : (d.onGth f).twin = d.twin := rfl
@[simp] theorem Dev.onGth_gzb (d : Dev) (f : Gth → Gth) : (d.onGth f).gzb = d.gzb := rfl
@[simp] theorem Dev.onGth_blv (d : Dev) (f : Gth → Gth) : (d.onGth f).blv = d.blv := rfl
@[simp] theorem Dev.onGth_ldg (d : Dev) (f : Gth → Gth) : (d.onGth f).ldg = d.ldg := rfl
@[simp] theorem Dev.onGth_fresh (d : Dev) (f : Gth → Gth) : (d.onGth f).fresh = d.fresh := rfl
@[simp] theorem Dev.onGth_out (d : Dev) (f : Gth → Gth) : (d.onGth f).out = d.out := rfl
@[simp] theorem Dev.onGth_rd (d : Dev) (f : Gth → Gth) (o : Nat) : (d.onGth f).rd o = d.rd o := rfl

/-! ### `Dev.onGzb` -/

@[simp] theorem Dev.onGzb_regs (d : Dev) (f : Gzb → Gzb) : (d.onGzb f).regs = d.regs := rfl
@[simp] theorem Dev.onGzb_mem (d : Dev) (f : Gzb → Gzb) : (d.onGzb f).mem = d.mem := rfl
@[simp] theorem Dev.onGzb_bad (d : Dev) (f : Gzb → Gzb) : (d.onGzb f).bad = d.bad := rfl
@[simp] theorem Dev.onGzb_hub (d : Dev) (f : Gzb → Gzb) : (d.onGzb f).hub = d.hub := rfl
@[simp] theorem Dev.onGzb_elog (d : Dev) (f : Gzb → Gzb) : (d.onGzb f).elog = d.elog := rfl
@[simp] theorem Dev.onGzb_fab (d : Dev) (f : Gzb → Gzb) : (d.onGzb f).fab = d.fab := rfl
@[simp] theorem Dev.onGzb_hp (d : Dev) (f : Gzb → Gzb) : (d.onGzb f).hp = d.hp := rfl
@[simp] theorem Dev.onGzb_lbu (d : Dev) (f : Gzb → Gzb) : (d.onGzb f).lbu = d.lbu := rfl
@[simp] theorem Dev.onGzb_itm (d : Dev) (f : Gzb → Gzb) : (d.onGzb f).itm = d.itm := rfl
@[simp] theorem Dev.onGzb_intb (d : Dev) (f : Gzb → Gzb) : (d.onGzb f).intb = d.intb := rfl
@[simp] theorem Dev.onGzb_can (d : Dev) (f : Gzb → Gzb) : (d.onGzb f).can = d.can := rfl
@[simp] theorem Dev.onGzb_lin (d : Dev) (f : Gzb → Gzb) : (d.onGzb f).lin = d.lin := rfl
@[simp] theorem Dev.onGzb_mac (d : Dev) (f : Gzb → Gzb) : (d.onGzb f).mac = d.mac := rfl
@[simp] theorem Dev.onGzb_tun (d : Dev) (f : Gzb → Gzb) : (d.onGzb f).tun = d.tun := rfl
@[simp] theorem Dev.onGzb_frm (d : Dev) (f : Gzb → Gzb) : (d.onGzb f).frm = d.frm := rfl
@[simp] theorem Dev.onGzb_trl (d : Dev) (f : Gzb → Gzb) : (d.onGzb f).trl = d.trl := rfl
@[simp] theorem Dev.onGzb_gth (d : Dev) (f : Gzb → Gzb) : (d.onGzb f).gth = d.gth := rfl
@[simp] theorem Dev.onGzb_wkt (d : Dev) (f : Gzb → Gzb) : (d.onGzb f).wkt = d.wkt := rfl
@[simp] theorem Dev.onGzb_dep (d : Dev) (f : Gzb → Gzb) : (d.onGzb f).dep = d.dep := rfl
@[simp] theorem Dev.onGzb_twin (d : Dev) (f : Gzb → Gzb) : (d.onGzb f).twin = d.twin := rfl
@[simp] theorem Dev.onGzb_gzb (d : Dev) (f : Gzb → Gzb) : (d.onGzb f).gzb = f d.gzb := rfl
@[simp] theorem Dev.onGzb_blv (d : Dev) (f : Gzb → Gzb) : (d.onGzb f).blv = d.blv := rfl
@[simp] theorem Dev.onGzb_ldg (d : Dev) (f : Gzb → Gzb) : (d.onGzb f).ldg = d.ldg := rfl
@[simp] theorem Dev.onGzb_fresh (d : Dev) (f : Gzb → Gzb) : (d.onGzb f).fresh = d.fresh := rfl
@[simp] theorem Dev.onGzb_out (d : Dev) (f : Gzb → Gzb) : (d.onGzb f).out = d.out := rfl
@[simp] theorem Dev.onGzb_rd (d : Dev) (f : Gzb → Gzb) (o : Nat) : (d.onGzb f).rd o = d.rd o := rfl

/-! ### `Dev.onHp` -/

@[simp] theorem Dev.onHp_regs (d : Dev) (f : HostPort → HostPort) : (d.onHp f).regs = d.regs := rfl
@[simp] theorem Dev.onHp_mem (d : Dev) (f : HostPort → HostPort) : (d.onHp f).mem = d.mem := rfl
@[simp] theorem Dev.onHp_bad (d : Dev) (f : HostPort → HostPort) : (d.onHp f).bad = d.bad := rfl
@[simp] theorem Dev.onHp_hub (d : Dev) (f : HostPort → HostPort) : (d.onHp f).hub = d.hub := rfl
@[simp] theorem Dev.onHp_elog (d : Dev) (f : HostPort → HostPort) : (d.onHp f).elog = d.elog := rfl
@[simp] theorem Dev.onHp_fab (d : Dev) (f : HostPort → HostPort) : (d.onHp f).fab = d.fab := rfl
@[simp] theorem Dev.onHp_hp (d : Dev) (f : HostPort → HostPort) : (d.onHp f).hp = f d.hp := rfl
@[simp] theorem Dev.onHp_lbu (d : Dev) (f : HostPort → HostPort) : (d.onHp f).lbu = d.lbu := rfl
@[simp] theorem Dev.onHp_itm (d : Dev) (f : HostPort → HostPort) : (d.onHp f).itm = d.itm := rfl
@[simp] theorem Dev.onHp_intb (d : Dev) (f : HostPort → HostPort) : (d.onHp f).intb = d.intb := rfl
@[simp] theorem Dev.onHp_can (d : Dev) (f : HostPort → HostPort) : (d.onHp f).can = d.can := rfl
@[simp] theorem Dev.onHp_lin (d : Dev) (f : HostPort → HostPort) : (d.onHp f).lin = d.lin := rfl
@[simp] theorem Dev.onHp_mac (d : Dev) (f : HostPort → HostPort) : (d.onHp f).mac = d.mac := rfl
@[simp] theorem Dev.onHp_tun (d : Dev) (f : HostPort → HostPort) : (d.onHp f).tun = d.tun := rfl
@[simp] theorem Dev.onHp_frm (d : Dev) (f : HostPort → HostPort) : (d.onHp f).frm = d.frm := rfl
@[simp] theorem Dev.onHp_trl (d : Dev) (f : HostPort → HostPort) : (d.onHp f).trl = d.trl := rfl
@[simp] theorem Dev.onHp_gth (d : Dev) (f : HostPort → HostPort) : (d.onHp f).gth = d.gth := rfl
@[simp] theorem Dev.onHp_wkt (d : Dev) (f : HostPort → HostPort) : (d.onHp f).wkt = d.wkt := rfl
@[simp] theorem Dev.onHp_dep (d : Dev) (f : HostPort → HostPort) : (d.onHp f).dep = d.dep := rfl
@[simp] theorem Dev.onHp_twin (d : Dev) (f : HostPort → HostPort) : (d.onHp f).twin = d.twin := rfl
@[simp] theorem Dev.onHp_gzb (d : Dev) (f : HostPort → HostPort) : (d.onHp f).gzb = d.gzb := rfl
@[simp] theorem Dev.onHp_blv (d : Dev) (f : HostPort → HostPort) : (d.onHp f).blv = d.blv := rfl
@[simp] theorem Dev.onHp_ldg (d : Dev) (f : HostPort → HostPort) : (d.onHp f).ldg = d.ldg := rfl
@[simp] theorem Dev.onHp_fresh (d : Dev) (f : HostPort → HostPort) : (d.onHp f).fresh = d.fresh := rfl
@[simp] theorem Dev.onHp_out (d : Dev) (f : HostPort → HostPort) : (d.onHp f).out = d.out := rfl
@[simp] theorem Dev.onHp_rd (d : Dev) (f : HostPort → HostPort) (o : Nat) : (d.onHp f).rd o = d.rd o := rfl

/-! ### `Dev.onLbu` -/

@[simp] theorem Dev.onLbu_regs (d : Dev) (f : Lbu → Lbu) : (d.onLbu f).regs = d.regs := rfl
@[simp] theorem Dev.onLbu_mem (d : Dev) (f : Lbu → Lbu) : (d.onLbu f).mem = d.mem := rfl
@[simp] theorem Dev.onLbu_bad (d : Dev) (f : Lbu → Lbu) : (d.onLbu f).bad = d.bad := rfl
@[simp] theorem Dev.onLbu_hub (d : Dev) (f : Lbu → Lbu) : (d.onLbu f).hub = d.hub := rfl
@[simp] theorem Dev.onLbu_elog (d : Dev) (f : Lbu → Lbu) : (d.onLbu f).elog = d.elog := rfl
@[simp] theorem Dev.onLbu_fab (d : Dev) (f : Lbu → Lbu) : (d.onLbu f).fab = d.fab := rfl
@[simp] theorem Dev.onLbu_hp (d : Dev) (f : Lbu → Lbu) : (d.onLbu f).hp = d.hp := rfl
@[simp] theorem Dev.onLbu_lbu (d : Dev) (f : Lbu → Lbu) : (d.onLbu f).lbu = f d.lbu := rfl
@[simp] theorem Dev.onLbu_itm (d : Dev) (f : Lbu → Lbu) : (d.onLbu f).itm = d.itm := rfl
@[simp] theorem Dev.onLbu_intb (d : Dev) (f : Lbu → Lbu) : (d.onLbu f).intb = d.intb := rfl
@[simp] theorem Dev.onLbu_can (d : Dev) (f : Lbu → Lbu) : (d.onLbu f).can = d.can := rfl
@[simp] theorem Dev.onLbu_lin (d : Dev) (f : Lbu → Lbu) : (d.onLbu f).lin = d.lin := rfl
@[simp] theorem Dev.onLbu_mac (d : Dev) (f : Lbu → Lbu) : (d.onLbu f).mac = d.mac := rfl
@[simp] theorem Dev.onLbu_tun (d : Dev) (f : Lbu → Lbu) : (d.onLbu f).tun = d.tun := rfl
@[simp] theorem Dev.onLbu_frm (d : Dev) (f : Lbu → Lbu) : (d.onLbu f).frm = d.frm := rfl
@[simp] theorem Dev.onLbu_trl (d : Dev) (f : Lbu → Lbu) : (d.onLbu f).trl = d.trl := rfl
@[simp] theorem Dev.onLbu_gth (d : Dev) (f : Lbu → Lbu) : (d.onLbu f).gth = d.gth := rfl
@[simp] theorem Dev.onLbu_wkt (d : Dev) (f : Lbu → Lbu) : (d.onLbu f).wkt = d.wkt := rfl
@[simp] theorem Dev.onLbu_dep (d : Dev) (f : Lbu → Lbu) : (d.onLbu f).dep = d.dep := rfl
@[simp] theorem Dev.onLbu_twin (d : Dev) (f : Lbu → Lbu) : (d.onLbu f).twin = d.twin := rfl
@[simp] theorem Dev.onLbu_gzb (d : Dev) (f : Lbu → Lbu) : (d.onLbu f).gzb = d.gzb := rfl
@[simp] theorem Dev.onLbu_blv (d : Dev) (f : Lbu → Lbu) : (d.onLbu f).blv = d.blv := rfl
@[simp] theorem Dev.onLbu_ldg (d : Dev) (f : Lbu → Lbu) : (d.onLbu f).ldg = d.ldg := rfl
@[simp] theorem Dev.onLbu_fresh (d : Dev) (f : Lbu → Lbu) : (d.onLbu f).fresh = d.fresh := rfl
@[simp] theorem Dev.onLbu_out (d : Dev) (f : Lbu → Lbu) : (d.onLbu f).out = d.out := rfl
@[simp] theorem Dev.onLbu_rd (d : Dev) (f : Lbu → Lbu) (o : Nat) : (d.onLbu f).rd o = d.rd o := rfl

/-! ### `Dev.onLdg` -/

@[simp] theorem Dev.onLdg_regs (d : Dev) (f : Lodge → Lodge) : (d.onLdg f).regs = d.regs := rfl
@[simp] theorem Dev.onLdg_mem (d : Dev) (f : Lodge → Lodge) : (d.onLdg f).mem = d.mem := rfl
@[simp] theorem Dev.onLdg_bad (d : Dev) (f : Lodge → Lodge) : (d.onLdg f).bad = d.bad := rfl
@[simp] theorem Dev.onLdg_hub (d : Dev) (f : Lodge → Lodge) : (d.onLdg f).hub = d.hub := rfl
@[simp] theorem Dev.onLdg_elog (d : Dev) (f : Lodge → Lodge) : (d.onLdg f).elog = d.elog := rfl
@[simp] theorem Dev.onLdg_fab (d : Dev) (f : Lodge → Lodge) : (d.onLdg f).fab = d.fab := rfl
@[simp] theorem Dev.onLdg_hp (d : Dev) (f : Lodge → Lodge) : (d.onLdg f).hp = d.hp := rfl
@[simp] theorem Dev.onLdg_lbu (d : Dev) (f : Lodge → Lodge) : (d.onLdg f).lbu = d.lbu := rfl
@[simp] theorem Dev.onLdg_itm (d : Dev) (f : Lodge → Lodge) : (d.onLdg f).itm = d.itm := rfl
@[simp] theorem Dev.onLdg_intb (d : Dev) (f : Lodge → Lodge) : (d.onLdg f).intb = d.intb := rfl
@[simp] theorem Dev.onLdg_can (d : Dev) (f : Lodge → Lodge) : (d.onLdg f).can = d.can := rfl
@[simp] theorem Dev.onLdg_lin (d : Dev) (f : Lodge → Lodge) : (d.onLdg f).lin = d.lin := rfl
@[simp] theorem Dev.onLdg_mac (d : Dev) (f : Lodge → Lodge) : (d.onLdg f).mac = d.mac := rfl
@[simp] theorem Dev.onLdg_tun (d : Dev) (f : Lodge → Lodge) : (d.onLdg f).tun = d.tun := rfl
@[simp] theorem Dev.onLdg_frm (d : Dev) (f : Lodge → Lodge) : (d.onLdg f).frm = d.frm := rfl
@[simp] theorem Dev.onLdg_trl (d : Dev) (f : Lodge → Lodge) : (d.onLdg f).trl = d.trl := rfl
@[simp] theorem Dev.onLdg_gth (d : Dev) (f : Lodge → Lodge) : (d.onLdg f).gth = d.gth := rfl
@[simp] theorem Dev.onLdg_wkt (d : Dev) (f : Lodge → Lodge) : (d.onLdg f).wkt = d.wkt := rfl
@[simp] theorem Dev.onLdg_dep (d : Dev) (f : Lodge → Lodge) : (d.onLdg f).dep = d.dep := rfl
@[simp] theorem Dev.onLdg_twin (d : Dev) (f : Lodge → Lodge) : (d.onLdg f).twin = d.twin := rfl
@[simp] theorem Dev.onLdg_gzb (d : Dev) (f : Lodge → Lodge) : (d.onLdg f).gzb = d.gzb := rfl
@[simp] theorem Dev.onLdg_blv (d : Dev) (f : Lodge → Lodge) : (d.onLdg f).blv = d.blv := rfl
@[simp] theorem Dev.onLdg_ldg (d : Dev) (f : Lodge → Lodge) : (d.onLdg f).ldg = f d.ldg := rfl
@[simp] theorem Dev.onLdg_fresh (d : Dev) (f : Lodge → Lodge) : (d.onLdg f).fresh = d.fresh := rfl
@[simp] theorem Dev.onLdg_out (d : Dev) (f : Lodge → Lodge) : (d.onLdg f).out = d.out := rfl
@[simp] theorem Dev.onLdg_rd (d : Dev) (f : Lodge → Lodge) (o : Nat) : (d.onLdg f).rd o = d.rd o := rfl

/-! ### `Dev.onTrl` -/

@[simp] theorem Dev.onTrl_regs (d : Dev) (f : Trl → Trl) : (d.onTrl f).regs = d.regs := rfl
@[simp] theorem Dev.onTrl_mem (d : Dev) (f : Trl → Trl) : (d.onTrl f).mem = d.mem := rfl
@[simp] theorem Dev.onTrl_bad (d : Dev) (f : Trl → Trl) : (d.onTrl f).bad = d.bad := rfl
@[simp] theorem Dev.onTrl_hub (d : Dev) (f : Trl → Trl) : (d.onTrl f).hub = d.hub := rfl
@[simp] theorem Dev.onTrl_elog (d : Dev) (f : Trl → Trl) : (d.onTrl f).elog = d.elog := rfl
@[simp] theorem Dev.onTrl_fab (d : Dev) (f : Trl → Trl) : (d.onTrl f).fab = d.fab := rfl
@[simp] theorem Dev.onTrl_hp (d : Dev) (f : Trl → Trl) : (d.onTrl f).hp = d.hp := rfl
@[simp] theorem Dev.onTrl_lbu (d : Dev) (f : Trl → Trl) : (d.onTrl f).lbu = d.lbu := rfl
@[simp] theorem Dev.onTrl_itm (d : Dev) (f : Trl → Trl) : (d.onTrl f).itm = d.itm := rfl
@[simp] theorem Dev.onTrl_intb (d : Dev) (f : Trl → Trl) : (d.onTrl f).intb = d.intb := rfl
@[simp] theorem Dev.onTrl_can (d : Dev) (f : Trl → Trl) : (d.onTrl f).can = d.can := rfl
@[simp] theorem Dev.onTrl_lin (d : Dev) (f : Trl → Trl) : (d.onTrl f).lin = d.lin := rfl
@[simp] theorem Dev.onTrl_mac (d : Dev) (f : Trl → Trl) : (d.onTrl f).mac = d.mac := rfl
@[simp] theorem Dev.onTrl_tun (d : Dev) (f : Trl → Trl) : (d.onTrl f).tun = d.tun := rfl
@[simp] theorem Dev.onTrl_frm (d : Dev) (f : Trl → Trl) : (d.onTrl f).frm = d.frm := rfl
@[simp] theorem Dev.onTrl_trl (d : Dev) (f : Trl → Trl) : (d.onTrl f).trl = f d.trl := rfl
@[simp] theorem Dev.onTrl_gth (d : Dev) (f : Trl → Trl) : (d.onTrl f).gth = d.gth := rfl
@[simp] theorem Dev.onTrl_wkt (d : Dev) (f : Trl → Trl) : (d.onTrl f).wkt = d.wkt := rfl
@[simp] theorem Dev.onTrl_dep (d : Dev) (f : Trl → Trl) : (d.onTrl f).dep = d.dep := rfl
@[simp] theorem Dev.onTrl_twin (d : Dev) (f : Trl → Trl) : (d.onTrl f).twin = d.twin := rfl
@[simp] theorem Dev.onTrl_gzb (d : Dev) (f : Trl → Trl) : (d.onTrl f).gzb = d.gzb := rfl
@[simp] theorem Dev.onTrl_blv (d : Dev) (f : Trl → Trl) : (d.onTrl f).blv = d.blv := rfl
@[simp] theorem Dev.onTrl_ldg (d : Dev) (f : Trl → Trl) : (d.onTrl f).ldg = d.ldg := rfl
@[simp] theorem Dev.onTrl_fresh (d : Dev) (f : Trl → Trl) : (d.onTrl f).fresh = d.fresh := rfl
@[simp] theorem Dev.onTrl_out (d : Dev) (f : Trl → Trl) : (d.onTrl f).out = d.out := rfl
@[simp] theorem Dev.onTrl_rd (d : Dev) (f : Trl → Trl) (o : Nat) : (d.onTrl f).rd o = d.rd o := rfl

/-! ### `Dev.onFrm` -/

@[simp] theorem Dev.onFrm_regs (d : Dev) (f : FramePath → FramePath) : (d.onFrm f).regs = d.regs := rfl
@[simp] theorem Dev.onFrm_mem (d : Dev) (f : FramePath → FramePath) : (d.onFrm f).mem = d.mem := rfl
@[simp] theorem Dev.onFrm_bad (d : Dev) (f : FramePath → FramePath) : (d.onFrm f).bad = d.bad := rfl
@[simp] theorem Dev.onFrm_hub (d : Dev) (f : FramePath → FramePath) : (d.onFrm f).hub = d.hub := rfl
@[simp] theorem Dev.onFrm_elog (d : Dev) (f : FramePath → FramePath) : (d.onFrm f).elog = d.elog := rfl
@[simp] theorem Dev.onFrm_fab (d : Dev) (f : FramePath → FramePath) : (d.onFrm f).fab = d.fab := rfl
@[simp] theorem Dev.onFrm_hp (d : Dev) (f : FramePath → FramePath) : (d.onFrm f).hp = d.hp := rfl
@[simp] theorem Dev.onFrm_lbu (d : Dev) (f : FramePath → FramePath) : (d.onFrm f).lbu = d.lbu := rfl
@[simp] theorem Dev.onFrm_itm (d : Dev) (f : FramePath → FramePath) : (d.onFrm f).itm = d.itm := rfl
@[simp] theorem Dev.onFrm_intb (d : Dev) (f : FramePath → FramePath) : (d.onFrm f).intb = d.intb := rfl
@[simp] theorem Dev.onFrm_can (d : Dev) (f : FramePath → FramePath) : (d.onFrm f).can = d.can := rfl
@[simp] theorem Dev.onFrm_lin (d : Dev) (f : FramePath → FramePath) : (d.onFrm f).lin = d.lin := rfl
@[simp] theorem Dev.onFrm_mac (d : Dev) (f : FramePath → FramePath) : (d.onFrm f).mac = d.mac := rfl
@[simp] theorem Dev.onFrm_tun (d : Dev) (f : FramePath → FramePath) : (d.onFrm f).tun = d.tun := rfl
@[simp] theorem Dev.onFrm_frm (d : Dev) (f : FramePath → FramePath) : (d.onFrm f).frm = f d.frm := rfl
@[simp] theorem Dev.onFrm_trl (d : Dev) (f : FramePath → FramePath) : (d.onFrm f).trl = d.trl := rfl
@[simp] theorem Dev.onFrm_gth (d : Dev) (f : FramePath → FramePath) : (d.onFrm f).gth = d.gth := rfl
@[simp] theorem Dev.onFrm_wkt (d : Dev) (f : FramePath → FramePath) : (d.onFrm f).wkt = d.wkt := rfl
@[simp] theorem Dev.onFrm_dep (d : Dev) (f : FramePath → FramePath) : (d.onFrm f).dep = d.dep := rfl
@[simp] theorem Dev.onFrm_twin (d : Dev) (f : FramePath → FramePath) : (d.onFrm f).twin = d.twin := rfl
@[simp] theorem Dev.onFrm_gzb (d : Dev) (f : FramePath → FramePath) : (d.onFrm f).gzb = d.gzb := rfl
@[simp] theorem Dev.onFrm_blv (d : Dev) (f : FramePath → FramePath) : (d.onFrm f).blv = d.blv := rfl
@[simp] theorem Dev.onFrm_ldg (d : Dev) (f : FramePath → FramePath) : (d.onFrm f).ldg = d.ldg := rfl
@[simp] theorem Dev.onFrm_fresh (d : Dev) (f : FramePath → FramePath) : (d.onFrm f).fresh = d.fresh := rfl
@[simp] theorem Dev.onFrm_out (d : Dev) (f : FramePath → FramePath) : (d.onFrm f).out = d.out := rfl
@[simp] theorem Dev.onFrm_rd (d : Dev) (f : FramePath → FramePath) (o : Nat) : (d.onFrm f).rd o = d.rd o := rfl

/-! ### `Dev.onWkt` -/

@[simp] theorem Dev.onWkt_regs (d : Dev) (f : Wkt → Wkt) : (d.onWkt f).regs = d.regs := rfl
@[simp] theorem Dev.onWkt_mem (d : Dev) (f : Wkt → Wkt) : (d.onWkt f).mem = d.mem := rfl
@[simp] theorem Dev.onWkt_bad (d : Dev) (f : Wkt → Wkt) : (d.onWkt f).bad = d.bad := rfl
@[simp] theorem Dev.onWkt_hub (d : Dev) (f : Wkt → Wkt) : (d.onWkt f).hub = d.hub := rfl
@[simp] theorem Dev.onWkt_elog (d : Dev) (f : Wkt → Wkt) : (d.onWkt f).elog = d.elog := rfl
@[simp] theorem Dev.onWkt_fab (d : Dev) (f : Wkt → Wkt) : (d.onWkt f).fab = d.fab := rfl
@[simp] theorem Dev.onWkt_hp (d : Dev) (f : Wkt → Wkt) : (d.onWkt f).hp = d.hp := rfl
@[simp] theorem Dev.onWkt_lbu (d : Dev) (f : Wkt → Wkt) : (d.onWkt f).lbu = d.lbu := rfl
@[simp] theorem Dev.onWkt_itm (d : Dev) (f : Wkt → Wkt) : (d.onWkt f).itm = d.itm := rfl
@[simp] theorem Dev.onWkt_intb (d : Dev) (f : Wkt → Wkt) : (d.onWkt f).intb = d.intb := rfl
@[simp] theorem Dev.onWkt_can (d : Dev) (f : Wkt → Wkt) : (d.onWkt f).can = d.can := rfl
@[simp] theorem Dev.onWkt_lin (d : Dev) (f : Wkt → Wkt) : (d.onWkt f).lin = d.lin := rfl
@[simp] theorem Dev.onWkt_mac (d : Dev) (f : Wkt → Wkt) : (d.onWkt f).mac = d.mac := rfl
@[simp] theorem Dev.onWkt_tun (d : Dev) (f : Wkt → Wkt) : (d.onWkt f).tun = d.tun := rfl
@[simp] theorem Dev.onWkt_frm (d : Dev) (f : Wkt → Wkt) : (d.onWkt f).frm = d.frm := rfl
@[simp] theorem Dev.onWkt_trl (d : Dev) (f : Wkt → Wkt) : (d.onWkt f).trl = d.trl := rfl
@[simp] theorem Dev.onWkt_gth (d : Dev) (f : Wkt → Wkt) : (d.onWkt f).gth = d.gth := rfl
@[simp] theorem Dev.onWkt_wkt (d : Dev) (f : Wkt → Wkt) : (d.onWkt f).wkt = f d.wkt := rfl
@[simp] theorem Dev.onWkt_dep (d : Dev) (f : Wkt → Wkt) : (d.onWkt f).dep = d.dep := rfl
@[simp] theorem Dev.onWkt_twin (d : Dev) (f : Wkt → Wkt) : (d.onWkt f).twin = d.twin := rfl
@[simp] theorem Dev.onWkt_gzb (d : Dev) (f : Wkt → Wkt) : (d.onWkt f).gzb = d.gzb := rfl
@[simp] theorem Dev.onWkt_blv (d : Dev) (f : Wkt → Wkt) : (d.onWkt f).blv = d.blv := rfl
@[simp] theorem Dev.onWkt_ldg (d : Dev) (f : Wkt → Wkt) : (d.onWkt f).ldg = d.ldg := rfl
@[simp] theorem Dev.onWkt_fresh (d : Dev) (f : Wkt → Wkt) : (d.onWkt f).fresh = d.fresh := rfl
@[simp] theorem Dev.onWkt_out (d : Dev) (f : Wkt → Wkt) : (d.onWkt f).out = d.out := rfl
@[simp] theorem Dev.onWkt_rd (d : Dev) (f : Wkt → Wkt) (o : Nat) : (d.onWkt f).rd o = d.rd o := rfl

/-! ### `Dev.onItem` -/

@[simp] theorem Dev.onItem_regs (d : Dev) (j : Nat) (f : Item → Item) : (d.onItem j f).regs = d.regs := rfl
@[simp] theorem Dev.onItem_mem (d : Dev) (j : Nat) (f : Item → Item) : (d.onItem j f).mem = d.mem := rfl
@[simp] theorem Dev.onItem_bad (d : Dev) (j : Nat) (f : Item → Item) : (d.onItem j f).bad = d.bad := rfl
@[simp] theorem Dev.onItem_hub (d : Dev) (j : Nat) (f : Item → Item) : (d.onItem j f).hub = d.hub := rfl
@[simp] theorem Dev.onItem_elog (d : Dev) (j : Nat) (f : Item → Item) : (d.onItem j f).elog = d.elog := rfl
@[simp] theorem Dev.onItem_fab (d : Dev) (j : Nat) (f : Item → Item) : (d.onItem j f).fab = d.fab := rfl
@[simp] theorem Dev.onItem_hp (d : Dev) (j : Nat) (f : Item → Item) : (d.onItem j f).hp = d.hp := rfl
@[simp] theorem Dev.onItem_lbu (d : Dev) (j : Nat) (f : Item → Item) : (d.onItem j f).lbu = d.lbu := rfl
@[simp] theorem Dev.onItem_itm (d : Dev) (j : Nat) (f : Item → Item) : (d.onItem j f).itm = d.itm := rfl
@[simp] theorem Dev.onItem_intb (d : Dev) (j : Nat) (f : Item → Item) : (d.onItem j f).intb = d.intb := rfl
@[simp] theorem Dev.onItem_can (d : Dev) (j : Nat) (f : Item → Item) : (d.onItem j f).can = d.can := rfl
@[simp] theorem Dev.onItem_lin (d : Dev) (j : Nat) (f : Item → Item) : (d.onItem j f).lin = d.lin := rfl
@[simp] theorem Dev.onItem_mac (d : Dev) (j : Nat) (f : Item → Item) : (d.onItem j f).mac = d.mac := rfl
@[simp] theorem Dev.onItem_tun (d : Dev) (j : Nat) (f : Item → Item) : (d.onItem j f).tun = d.tun := rfl
@[simp] theorem Dev.onItem_frm (d : Dev) (j : Nat) (f : Item → Item) : (d.onItem j f).frm = d.frm := rfl
@[simp] theorem Dev.onItem_trl (d : Dev) (j : Nat) (f : Item → Item) : (d.onItem j f).trl = d.trl := rfl
@[simp] theorem Dev.onItem_gth (d : Dev) (j : Nat) (f : Item → Item) : (d.onItem j f).gth = d.gth := rfl
@[simp] theorem Dev.onItem_dep (d : Dev) (j : Nat) (f : Item → Item) : (d.onItem j f).dep = d.dep := rfl
@[simp] theorem Dev.onItem_twin (d : Dev) (j : Nat) (f : Item → Item) : (d.onItem j f).twin = d.twin := rfl
@[simp] theorem Dev.onItem_gzb (d : Dev) (j : Nat) (f : Item → Item) : (d.onItem j f).gzb = d.gzb := rfl
@[simp] theorem Dev.onItem_blv (d : Dev) (j : Nat) (f : Item → Item) : (d.onItem j f).blv = d.blv := rfl
@[simp] theorem Dev.onItem_ldg (d : Dev) (j : Nat) (f : Item → Item) : (d.onItem j f).ldg = d.ldg := rfl
@[simp] theorem Dev.onItem_fresh (d : Dev) (j : Nat) (f : Item → Item) : (d.onItem j f).fresh = d.fresh := rfl
@[simp] theorem Dev.onItem_out (d : Dev) (j : Nat) (f : Item → Item) : (d.onItem j f).out = d.out := rfl
@[simp] theorem Dev.onItem_rd (d : Dev) (j : Nat) (f : Item → Item) (o : Nat) : (d.onItem j f).rd o = d.rd o := rfl

/-! ### `Dev.onLin` -/

@[simp] theorem Dev.onLin_regs (d : Dev) (i : Nat) (f : LinCh → LinCh) : (d.onLin i f).regs = d.regs := rfl
@[simp] theorem Dev.onLin_mem (d : Dev) (i : Nat) (f : LinCh → LinCh) : (d.onLin i f).mem = d.mem := rfl
@[simp] theorem Dev.onLin_bad (d : Dev) (i : Nat) (f : LinCh → LinCh) : (d.onLin i f).bad = d.bad := rfl
@[simp] theorem Dev.onLin_hub (d : Dev) (i : Nat) (f : LinCh → LinCh) : (d.onLin i f).hub = d.hub := rfl
@[simp] theorem Dev.onLin_elog (d : Dev) (i : Nat) (f : LinCh → LinCh) : (d.onLin i f).elog = d.elog := rfl
@[simp] theorem Dev.onLin_fab (d : Dev) (i : Nat) (f : LinCh → LinCh) : (d.onLin i f).fab = d.fab := rfl
@[simp] theorem Dev.onLin_hp (d : Dev) (i : Nat) (f : LinCh → LinCh) : (d.onLin i f).hp = d.hp := rfl
@[simp] theorem Dev.onLin_lbu (d : Dev) (i : Nat) (f : LinCh → LinCh) : (d.onLin i f).lbu = d.lbu := rfl
@[simp] theorem Dev.onLin_itm (d : Dev) (i : Nat) (f : LinCh → LinCh) : (d.onLin i f).itm = d.itm := rfl
@[simp] theorem Dev.onLin_intb (d : Dev) (i : Nat) (f : LinCh → LinCh) : (d.onLin i f).intb = d.intb := rfl
@[simp] theorem Dev.onLin_can (d : Dev) (i : Nat) (f : LinCh → LinCh) : (d.onLin i f).can = d.can := rfl
@[simp] theorem Dev.onLin_lin (d : Dev) (i : Nat) (f : LinCh → LinCh) : (d.onLin i f).lin = d.lin.modify i f := rfl
@[simp] theorem Dev.onLin_mac (d : Dev) (i : Nat) (f : LinCh → LinCh) : (d.onLin i f).mac = d.mac := rfl
@[simp] theorem Dev.onLin_tun (d : Dev) (i : Nat) (f : LinCh → LinCh) : (d.onLin i f).tun = d.tun := rfl
@[simp] theorem Dev.onLin_frm (d : Dev) (i : Nat) (f : LinCh → LinCh) : (d.onLin i f).frm = d.frm := rfl
@[simp] theorem Dev.onLin_trl (d : Dev) (i : Nat) (f : LinCh → LinCh) : (d.onLin i f).trl = d.trl := rfl
@[simp] theorem Dev.onLin_gth (d : Dev) (i : Nat) (f : LinCh → LinCh) : (d.onLin i f).gth = d.gth := rfl
@[simp] theorem Dev.onLin_wkt (d : Dev) (i : Nat) (f : LinCh → LinCh) : (d.onLin i f).wkt = d.wkt := rfl
@[simp] theorem Dev.onLin_dep (d : Dev) (i : Nat) (f : LinCh → LinCh) : (d.onLin i f).dep = d.dep := rfl
@[simp] theorem Dev.onLin_twin (d : Dev) (i : Nat) (f : LinCh → LinCh) : (d.onLin i f).twin = d.twin := rfl
@[simp] theorem Dev.onLin_gzb (d : Dev) (i : Nat) (f : LinCh → LinCh) : (d.onLin i f).gzb = d.gzb := rfl
@[simp] theorem Dev.onLin_blv (d : Dev) (i : Nat) (f : LinCh → LinCh) : (d.onLin i f).blv = d.blv := rfl
@[simp] theorem Dev.onLin_ldg (d : Dev) (i : Nat) (f : LinCh → LinCh) : (d.onLin i f).ldg = d.ldg := rfl
@[simp] theorem Dev.onLin_fresh (d : Dev) (i : Nat) (f : LinCh → LinCh) : (d.onLin i f).fresh = d.fresh := rfl
@[simp] theorem Dev.onLin_out (d : Dev) (i : Nat) (f : LinCh → LinCh) : (d.onLin i f).out = d.out := rfl
@[simp] theorem Dev.onLin_rd (d : Dev) (i : Nat) (f : LinCh → LinCh) (o : Nat) : (d.onLin i f).rd o = d.rd o := rfl

/-! ### `Dev.onMac` -/

@[simp] theorem Dev.onMac_regs (d : Dev) (i : Nat) (f : Mac → Mac) : (d.onMac i f).regs = d.regs := rfl
@[simp] theorem Dev.onMac_mem (d : Dev) (i : Nat) (f : Mac → Mac) : (d.onMac i f).mem = d.mem := rfl
@[simp] theorem Dev.onMac_bad (d : Dev) (i : Nat) (f : Mac → Mac) : (d.onMac i f).bad = d.bad := rfl
@[simp] theorem Dev.onMac_hub (d : Dev) (i : Nat) (f : Mac → Mac) : (d.onMac i f).hub = d.hub := rfl
@[simp] theorem Dev.onMac_elog (d : Dev) (i : Nat) (f : Mac → Mac) : (d.onMac i f).elog = d.elog := rfl
@[simp] theorem Dev.onMac_fab (d : Dev) (i : Nat) (f : Mac → Mac) : (d.onMac i f).fab = d.fab := rfl
@[simp] theorem Dev.onMac_hp (d : Dev) (i : Nat) (f : Mac → Mac) : (d.onMac i f).hp = d.hp := rfl
@[simp] theorem Dev.onMac_lbu (d : Dev) (i : Nat) (f : Mac → Mac) : (d.onMac i f).lbu = d.lbu := rfl
@[simp] theorem Dev.onMac_itm (d : Dev) (i : Nat) (f : Mac → Mac) : (d.onMac i f).itm = d.itm := rfl
@[simp] theorem Dev.onMac_intb (d : Dev) (i : Nat) (f : Mac → Mac) : (d.onMac i f).intb = d.intb := rfl
@[simp] theorem Dev.onMac_can (d : Dev) (i : Nat) (f : Mac → Mac) : (d.onMac i f).can = d.can := rfl
@[simp] theorem Dev.onMac_lin (d : Dev) (i : Nat) (f : Mac → Mac) : (d.onMac i f).lin = d.lin := rfl
@[simp] theorem Dev.onMac_mac (d : Dev) (i : Nat) (f : Mac → Mac) : (d.onMac i f).mac = d.mac.modify i f := rfl
@[simp] theorem Dev.onMac_tun (d : Dev) (i : Nat) (f : Mac → Mac) : (d.onMac i f).tun = d.tun := rfl
@[simp] theorem Dev.onMac_frm (d : Dev) (i : Nat) (f : Mac → Mac) : (d.onMac i f).frm = d.frm := rfl
@[simp] theorem Dev.onMac_trl (d : Dev) (i : Nat) (f : Mac → Mac) : (d.onMac i f).trl = d.trl := rfl
@[simp] theorem Dev.onMac_gth (d : Dev) (i : Nat) (f : Mac → Mac) : (d.onMac i f).gth = d.gth := rfl
@[simp] theorem Dev.onMac_wkt (d : Dev) (i : Nat) (f : Mac → Mac) : (d.onMac i f).wkt = d.wkt := rfl
@[simp] theorem Dev.onMac_dep (d : Dev) (i : Nat) (f : Mac → Mac) : (d.onMac i f).dep = d.dep := rfl
@[simp] theorem Dev.onMac_twin (d : Dev) (i : Nat) (f : Mac → Mac) : (d.onMac i f).twin = d.twin := rfl
@[simp] theorem Dev.onMac_gzb (d : Dev) (i : Nat) (f : Mac → Mac) : (d.onMac i f).gzb = d.gzb := rfl
@[simp] theorem Dev.onMac_blv (d : Dev) (i : Nat) (f : Mac → Mac) : (d.onMac i f).blv = d.blv := rfl
@[simp] theorem Dev.onMac_ldg (d : Dev) (i : Nat) (f : Mac → Mac) : (d.onMac i f).ldg = d.ldg := rfl
@[simp] theorem Dev.onMac_fresh (d : Dev) (i : Nat) (f : Mac → Mac) : (d.onMac i f).fresh = d.fresh := rfl
@[simp] theorem Dev.onMac_out (d : Dev) (i : Nat) (f : Mac → Mac) : (d.onMac i f).out = d.out := rfl
@[simp] theorem Dev.onMac_rd (d : Dev) (i : Nat) (f : Mac → Mac) (o : Nat) : (d.onMac i f).rd o = d.rd o := rfl

/-! ### `Dev.onCan` -/

@[simp] theorem Dev.onCan_regs (d : Dev) (i : Nat) (f : CanCh → CanCh) : (d.onCan i f).regs = d.regs := rfl
@[simp] theorem Dev.onCan_mem (d : Dev) (i : Nat) (f : CanCh → CanCh) : (d.onCan i f).mem = d.mem := rfl
@[simp] theorem Dev.onCan_bad (d : Dev) (i : Nat) (f : CanCh → CanCh) : (d.onCan i f).bad = d.bad := rfl
@[simp] theorem Dev.onCan_hub (d : Dev) (i : Nat) (f : CanCh → CanCh) : (d.onCan i f).hub = d.hub := rfl
@[simp] theorem Dev.onCan_elog (d : Dev) (i : Nat) (f : CanCh → CanCh) : (d.onCan i f).elog = d.elog := rfl
@[simp] theorem Dev.onCan_fab (d : Dev) (i : Nat) (f : CanCh → CanCh) : (d.onCan i f).fab = d.fab := rfl
@[simp] theorem Dev.onCan_hp (d : Dev) (i : Nat) (f : CanCh → CanCh) : (d.onCan i f).hp = d.hp := rfl
@[simp] theorem Dev.onCan_lbu (d : Dev) (i : Nat) (f : CanCh → CanCh) : (d.onCan i f).lbu = d.lbu := rfl
@[simp] theorem Dev.onCan_itm (d : Dev) (i : Nat) (f : CanCh → CanCh) : (d.onCan i f).itm = d.itm := rfl
@[simp] theorem Dev.onCan_intb (d : Dev) (i : Nat) (f : CanCh → CanCh) : (d.onCan i f).intb = d.intb := rfl
@[simp] theorem Dev.onCan_can (d : Dev) (i : Nat) (f : CanCh → CanCh) : (d.onCan i f).can = d.can.modify i f := rfl
@[simp] theorem Dev.onCan_lin (d : Dev) (i : Nat) (f : CanCh → CanCh) : (d.onCan i f).lin = d.lin := rfl
@[simp] theorem Dev.onCan_mac (d : Dev) (i : Nat) (f : CanCh → CanCh) : (d.onCan i f).mac = d.mac := rfl
@[simp] theorem Dev.onCan_tun (d : Dev) (i : Nat) (f : CanCh → CanCh) : (d.onCan i f).tun = d.tun := rfl
@[simp] theorem Dev.onCan_frm (d : Dev) (i : Nat) (f : CanCh → CanCh) : (d.onCan i f).frm = d.frm := rfl
@[simp] theorem Dev.onCan_trl (d : Dev) (i : Nat) (f : CanCh → CanCh) : (d.onCan i f).trl = d.trl := rfl
@[simp] theorem Dev.onCan_gth (d : Dev) (i : Nat) (f : CanCh → CanCh) : (d.onCan i f).gth = d.gth := rfl
@[simp] theorem Dev.onCan_wkt (d : Dev) (i : Nat) (f : CanCh → CanCh) : (d.onCan i f).wkt = d.wkt := rfl
@[simp] theorem Dev.onCan_dep (d : Dev) (i : Nat) (f : CanCh → CanCh) : (d.onCan i f).dep = d.dep := rfl
@[simp] theorem Dev.onCan_twin (d : Dev) (i : Nat) (f : CanCh → CanCh) : (d.onCan i f).twin = d.twin := rfl
@[simp] theorem Dev.onCan_gzb (d : Dev) (i : Nat) (f : CanCh → CanCh) : (d.onCan i f).gzb = d.gzb := rfl
@[simp] theorem Dev.onCan_blv (d : Dev) (i : Nat) (f : CanCh → CanCh) : (d.onCan i f).blv = d.blv := rfl
@[simp] theorem Dev.onCan_ldg (d : Dev) (i : Nat) (f : CanCh → CanCh) : (d.onCan i f).ldg = d.ldg := rfl
@[simp] theorem Dev.onCan_fresh (d : Dev) (i : Nat) (f : CanCh → CanCh) : (d.onCan i f).fresh = d.fresh := rfl
@[simp] theorem Dev.onCan_out (d : Dev) (i : Nat) (f : CanCh → CanCh) : (d.onCan i f).out = d.out := rfl
@[simp] theorem Dev.onCan_rd (d : Dev) (i : Nat) (f : CanCh → CanCh) (o : Nat) : (d.onCan i f).rd o = d.rd o := rfl

/-! ### `Dev.onLink` -/

@[simp] theorem Dev.onLink_regs (d : Dev) (i : Nat) (f : Link → Link) : (d.onLink i f).regs = d.regs := rfl
@[simp] theorem Dev.onLink_mem (d : Dev) (i : Nat) (f : Link → Link) : (d.onLink i f).mem = d.mem := rfl
@[simp] theorem Dev.onLink_bad (d : Dev) (i : Nat) (f : Link → Link) : (d.onLink i f).bad = d.bad := rfl
@[simp] theorem Dev.onLink_hub (d : Dev) (i : Nat) (f : Link → Link) : (d.onLink i f).hub = d.hub := rfl
@[simp] theorem Dev.onLink_elog (d : Dev) (i : Nat) (f : Link → Link) : (d.onLink i f).elog = d.elog := rfl
@[simp] theorem Dev.onLink_fab (d : Dev) (i : Nat) (f : Link → Link) : (d.onLink i f).fab = d.fab := rfl
@[simp] theorem Dev.onLink_hp (d : Dev) (i : Nat) (f : Link → Link) : (d.onLink i f).hp = d.hp := rfl
@[simp] theorem Dev.onLink_lbu (d : Dev) (i : Nat) (f : Link → Link) : (d.onLink i f).lbu = d.lbu := rfl
@[simp] theorem Dev.onLink_itm (d : Dev) (i : Nat) (f : Link → Link) : (d.onLink i f).itm = d.itm.modify i f := rfl
@[simp] theorem Dev.onLink_intb (d : Dev) (i : Nat) (f : Link → Link) : (d.onLink i f).intb = d.intb := rfl
@[simp] theorem Dev.onLink_can (d : Dev) (i : Nat) (f : Link → Link) : (d.onLink i f).can = d.can := rfl
@[simp] theorem Dev.onLink_lin (d : Dev) (i : Nat) (f : Link → Link) : (d.onLink i f).lin = d.lin := rfl
@[simp] theorem Dev.onLink_mac (d : Dev) (i : Nat) (f : Link → Link) : (d.onLink i f).mac = d.mac := rfl
@[simp] theorem Dev.onLink_tun (d : Dev) (i : Nat) (f : Link → Link) : (d.onLink i f).tun = d.tun := rfl
@[simp] theorem Dev.onLink_frm (d : Dev) (i : Nat) (f : Link → Link) : (d.onLink i f).frm = d.frm := rfl
@[simp] theorem Dev.onLink_trl (d : Dev) (i : Nat) (f : Link → Link) : (d.onLink i f).trl = d.trl := rfl
@[simp] theorem Dev.onLink_gth (d : Dev) (i : Nat) (f : Link → Link) : (d.onLink i f).gth = d.gth := rfl
@[simp] theorem Dev.onLink_wkt (d : Dev) (i : Nat) (f : Link → Link) : (d.onLink i f).wkt = d.wkt := rfl
@[simp] theorem Dev.onLink_dep (d : Dev) (i : Nat) (f : Link → Link) : (d.onLink i f).dep = d.dep := rfl
@[simp] theorem Dev.onLink_twin (d : Dev) (i : Nat) (f : Link → Link) : (d.onLink i f).twin = d.twin := rfl
@[simp] theorem Dev.onLink_gzb (d : Dev) (i : Nat) (f : Link → Link) : (d.onLink i f).gzb = d.gzb := rfl
@[simp] theorem Dev.onLink_blv (d : Dev) (i : Nat) (f : Link → Link) : (d.onLink i f).blv = d.blv := rfl
@[simp] theorem Dev.onLink_ldg (d : Dev) (i : Nat) (f : Link → Link) : (d.onLink i f).ldg = d.ldg := rfl
@[simp] theorem Dev.onLink_fresh (d : Dev) (i : Nat) (f : Link → Link) : (d.onLink i f).fresh = d.fresh := rfl
@[simp] theorem Dev.onLink_out (d : Dev) (i : Nat) (f : Link → Link) : (d.onLink i f).out = d.out := rfl
@[simp] theorem Dev.onLink_rd (d : Dev) (i : Nat) (f : Link → Link) (o : Nat) : (d.onLink i f).rd o = d.rd o := rfl

/-! ### `Dev.onChan` -/

@[simp] theorem Dev.onChan_regs (d : Dev) (i : Nat) (f : GzbChan → GzbChan) : (d.onChan i f).regs = d.regs := rfl
@[simp] theorem Dev.onChan_mem (d : Dev) (i : Nat) (f : GzbChan → GzbChan) : (d.onChan i f).mem = d.mem := rfl
@[simp] theorem Dev.onChan_bad (d : Dev) (i : Nat) (f : GzbChan → GzbChan) : (d.onChan i f).bad = d.bad := rfl
@[simp] theorem Dev.onChan_hub (d : Dev) (i : Nat) (f : GzbChan → GzbChan) : (d.onChan i f).hub = d.hub := rfl
@[simp] theorem Dev.onChan_elog (d : Dev) (i : Nat) (f : GzbChan → GzbChan) : (d.onChan i f).elog = d.elog := rfl
@[simp] theorem Dev.onChan_fab (d : Dev) (i : Nat) (f : GzbChan → GzbChan) : (d.onChan i f).fab = d.fab := rfl
@[simp] theorem Dev.onChan_hp (d : Dev) (i : Nat) (f : GzbChan → GzbChan) : (d.onChan i f).hp = d.hp := rfl
@[simp] theorem Dev.onChan_lbu (d : Dev) (i : Nat) (f : GzbChan → GzbChan) : (d.onChan i f).lbu = d.lbu := rfl
@[simp] theorem Dev.onChan_itm (d : Dev) (i : Nat) (f : GzbChan → GzbChan) : (d.onChan i f).itm = d.itm := rfl
@[simp] theorem Dev.onChan_intb (d : Dev) (i : Nat) (f : GzbChan → GzbChan) : (d.onChan i f).intb = d.intb := rfl
@[simp] theorem Dev.onChan_can (d : Dev) (i : Nat) (f : GzbChan → GzbChan) : (d.onChan i f).can = d.can := rfl
@[simp] theorem Dev.onChan_lin (d : Dev) (i : Nat) (f : GzbChan → GzbChan) : (d.onChan i f).lin = d.lin := rfl
@[simp] theorem Dev.onChan_mac (d : Dev) (i : Nat) (f : GzbChan → GzbChan) : (d.onChan i f).mac = d.mac := rfl
@[simp] theorem Dev.onChan_tun (d : Dev) (i : Nat) (f : GzbChan → GzbChan) : (d.onChan i f).tun = d.tun := rfl
@[simp] theorem Dev.onChan_frm (d : Dev) (i : Nat) (f : GzbChan → GzbChan) : (d.onChan i f).frm = d.frm := rfl
@[simp] theorem Dev.onChan_trl (d : Dev) (i : Nat) (f : GzbChan → GzbChan) : (d.onChan i f).trl = d.trl := rfl
@[simp] theorem Dev.onChan_gth (d : Dev) (i : Nat) (f : GzbChan → GzbChan) : (d.onChan i f).gth = d.gth := rfl
@[simp] theorem Dev.onChan_wkt (d : Dev) (i : Nat) (f : GzbChan → GzbChan) : (d.onChan i f).wkt = d.wkt := rfl
@[simp] theorem Dev.onChan_dep (d : Dev) (i : Nat) (f : GzbChan → GzbChan) : (d.onChan i f).dep = d.dep := rfl
@[simp] theorem Dev.onChan_twin (d : Dev) (i : Nat) (f : GzbChan → GzbChan) : (d.onChan i f).twin = d.twin := rfl
@[simp] theorem Dev.onChan_blv (d : Dev) (i : Nat) (f : GzbChan → GzbChan) : (d.onChan i f).blv = d.blv := rfl
@[simp] theorem Dev.onChan_ldg (d : Dev) (i : Nat) (f : GzbChan → GzbChan) : (d.onChan i f).ldg = d.ldg := rfl
@[simp] theorem Dev.onChan_fresh (d : Dev) (i : Nat) (f : GzbChan → GzbChan) : (d.onChan i f).fresh = d.fresh := rfl
@[simp] theorem Dev.onChan_out (d : Dev) (i : Nat) (f : GzbChan → GzbChan) : (d.onChan i f).out = d.out := rfl
@[simp] theorem Dev.onChan_rd (d : Dev) (i : Nat) (f : GzbChan → GzbChan) (o : Nat) : (d.onChan i f).rd o = d.rd o := rfl

/-! ### `Dev.updReq` -/

@[simp] theorem Dev.updReq_regs (d : Dev) (q : Nat) (f : Req → Req) : (d.updReq q f).regs = d.regs := rfl
@[simp] theorem Dev.updReq_mem (d : Dev) (q : Nat) (f : Req → Req) : (d.updReq q f).mem = d.mem := rfl
@[simp] theorem Dev.updReq_bad (d : Dev) (q : Nat) (f : Req → Req) : (d.updReq q f).bad = d.bad := rfl
@[simp] theorem Dev.updReq_hub (d : Dev) (q : Nat) (f : Req → Req) : (d.updReq q f).hub = d.hub := rfl
@[simp] theorem Dev.updReq_elog (d : Dev) (q : Nat) (f : Req → Req) : (d.updReq q f).elog = d.elog := rfl
@[simp] theorem Dev.updReq_hp (d : Dev) (q : Nat) (f : Req → Req) : (d.updReq q f).hp = d.hp := rfl
@[simp] theorem Dev.updReq_lbu (d : Dev) (q : Nat) (f : Req → Req) : (d.updReq q f).lbu = d.lbu := rfl
@[simp] theorem Dev.updReq_itm (d : Dev) (q : Nat) (f : Req → Req) : (d.updReq q f).itm = d.itm := rfl
@[simp] theorem Dev.updReq_intb (d : Dev) (q : Nat) (f : Req → Req) : (d.updReq q f).intb = d.intb := rfl
@[simp] theorem Dev.updReq_can (d : Dev) (q : Nat) (f : Req → Req) : (d.updReq q f).can = d.can := rfl
@[simp] theorem Dev.updReq_lin (d : Dev) (q : Nat) (f : Req → Req) : (d.updReq q f).lin = d.lin := rfl
@[simp] theorem Dev.updReq_mac (d : Dev) (q : Nat) (f : Req → Req) : (d.updReq q f).mac = d.mac := rfl
@[simp] theorem Dev.updReq_tun (d : Dev) (q : Nat) (f : Req → Req) : (d.updReq q f).tun = d.tun := rfl
@[simp] theorem Dev.updReq_frm (d : Dev) (q : Nat) (f : Req → Req) : (d.updReq q f).frm = d.frm := rfl
@[simp] theorem Dev.updReq_trl (d : Dev) (q : Nat) (f : Req → Req) : (d.updReq q f).trl = d.trl := rfl
@[simp] theorem Dev.updReq_gth (d : Dev) (q : Nat) (f : Req → Req) : (d.updReq q f).gth = d.gth := rfl
@[simp] theorem Dev.updReq_wkt (d : Dev) (q : Nat) (f : Req → Req) : (d.updReq q f).wkt = d.wkt := rfl
@[simp] theorem Dev.updReq_dep (d : Dev) (q : Nat) (f : Req → Req) : (d.updReq q f).dep = d.dep := rfl
@[simp] theorem Dev.updReq_twin (d : Dev) (q : Nat) (f : Req → Req) : (d.updReq q f).twin = d.twin := rfl
@[simp] theorem Dev.updReq_gzb (d : Dev) (q : Nat) (f : Req → Req) : (d.updReq q f).gzb = d.gzb := rfl
@[simp] theorem Dev.updReq_blv (d : Dev) (q : Nat) (f : Req → Req) : (d.updReq q f).blv = d.blv := rfl
@[simp] theorem Dev.updReq_ldg (d : Dev) (q : Nat) (f : Req → Req) : (d.updReq q f).ldg = d.ldg := rfl
@[simp] theorem Dev.updReq_fresh (d : Dev) (q : Nat) (f : Req → Req) : (d.updReq q f).fresh = d.fresh := rfl
@[simp] theorem Dev.updReq_out (d : Dev) (q : Nat) (f : Req → Req) : (d.updReq q f).out = d.out := rfl
@[simp] theorem Dev.updReq_rd (d : Dev) (q : Nat) (f : Req → Req) (o : Nat) : (d.updReq q f).rd o = d.rd o := rfl

/-! ### `Dev.updPin` -/

@[simp] theorem Dev.updPin_regs (d : Dev) (k : Nat) (f : LirqPin → LirqPin) : (d.updPin k f).regs = d.regs := rfl
@[simp] theorem Dev.updPin_mem (d : Dev) (k : Nat) (f : LirqPin → LirqPin) : (d.updPin k f).mem = d.mem := rfl
@[simp] theorem Dev.updPin_bad (d : Dev) (k : Nat) (f : LirqPin → LirqPin) : (d.updPin k f).bad = d.bad := rfl
@[simp] theorem Dev.updPin_hub (d : Dev) (k : Nat) (f : LirqPin → LirqPin) : (d.updPin k f).hub = d.hub := rfl
@[simp] theorem Dev.updPin_elog (d : Dev) (k : Nat) (f : LirqPin → LirqPin) : (d.updPin k f).elog = d.elog := rfl
@[simp] theorem Dev.updPin_fab (d : Dev) (k : Nat) (f : LirqPin → LirqPin) : (d.updPin k f).fab = d.fab := rfl
@[simp] theorem Dev.updPin_hp (d : Dev) (k : Nat) (f : LirqPin → LirqPin) : (d.updPin k f).hp = d.hp := rfl
@[simp] theorem Dev.updPin_itm (d : Dev) (k : Nat) (f : LirqPin → LirqPin) : (d.updPin k f).itm = d.itm := rfl
@[simp] theorem Dev.updPin_intb (d : Dev) (k : Nat) (f : LirqPin → LirqPin) : (d.updPin k f).intb = d.intb := rfl
@[simp] theorem Dev.updPin_can (d : Dev) (k : Nat) (f : LirqPin → LirqPin) : (d.updPin k f).can = d.can := rfl
@[simp] theorem Dev.updPin_lin (d : Dev) (k : Nat) (f : LirqPin → LirqPin) : (d.updPin k f).lin = d.lin := rfl
@[simp] theorem Dev.updPin_mac (d : Dev) (k : Nat) (f : LirqPin → LirqPin) : (d.updPin k f).mac = d.mac := rfl
@[simp] theorem Dev.updPin_tun (d : Dev) (k : Nat) (f : LirqPin → LirqPin) : (d.updPin k f).tun = d.tun := rfl
@[simp] theorem Dev.updPin_frm (d : Dev) (k : Nat) (f : LirqPin → LirqPin) : (d.updPin k f).frm = d.frm := rfl
@[simp] theorem Dev.updPin_trl (d : Dev) (k : Nat) (f : LirqPin → LirqPin) : (d.updPin k f).trl = d.trl := rfl
@[simp] theorem Dev.updPin_gth (d : Dev) (k : Nat) (f : LirqPin → LirqPin) : (d.updPin k f).gth = d.gth := rfl
@[simp] theorem Dev.updPin_wkt (d : Dev) (k : Nat) (f : LirqPin → LirqPin) : (d.updPin k f).wkt = d.wkt := rfl
@[simp] theorem Dev.updPin_dep (d : Dev) (k : Nat) (f : LirqPin → LirqPin) : (d.updPin k f).dep = d.dep := rfl
@[simp] theorem Dev.updPin_twin (d : Dev) (k : Nat) (f : LirqPin → LirqPin) : (d.updPin k f).twin = d.twin := rfl
@[simp] theorem Dev.updPin_gzb (d : Dev) (k : Nat) (f : LirqPin → LirqPin) : (d.updPin k f).gzb = d.gzb := rfl
@[simp] theorem Dev.updPin_blv (d : Dev) (k : Nat) (f : LirqPin → LirqPin) : (d.updPin k f).blv = d.blv := rfl
@[simp] theorem Dev.updPin_ldg (d : Dev) (k : Nat) (f : LirqPin → LirqPin) : (d.updPin k f).ldg = d.ldg := rfl
@[simp] theorem Dev.updPin_fresh (d : Dev) (k : Nat) (f : LirqPin → LirqPin) : (d.updPin k f).fresh = d.fresh := rfl
@[simp] theorem Dev.updPin_out (d : Dev) (k : Nat) (f : LirqPin → LirqPin) : (d.updPin k f).out = d.out := rfl
@[simp] theorem Dev.updPin_rd (d : Dev) (k : Nat) (f : LirqPin → LirqPin) (o : Nat) : (d.updPin k f).rd o = d.rd o := rfl

end Sys2Proof.Machine
end

