-- ==== Sys2Proof/Tests/Slice0.lean ====
section
/-!
SUPPORT. Tests of the model: operands that `Instr.wf` refuses, the spec's own worked examples, and, for every statement with hypotheses, concrete
states and operands that meet the hypotheses of each of its clauses (`witness_<statement>`).
-/
set_option linter.all false
set_option Elab.async false
namespace Sys2Proof.Tests
open Sys2Proof Sys2Proof.Machine

/-- A device with every register and byte at 0, to which a test adds what it needs. -/
def blank : Dev := { regs := [] }

/-- The state of a device with no command waiting. -/
def at' (d : Dev) : State := { pending := [], dev := d }

/-- A device with registers set. -/
def Dev.put (d : Dev) (rs : List (Nat × Word)) : Dev := rs.foldl (fun d p => d.wr p.1 p.2) d

/-- The conditions of `Dev.Sound`, as a check. -/
def okB (d : Dev) : Bool :=
  cellsWf d.regs && cellsWf d.mem && cellsWf d.ldg.flash && decide (d.elog.entries.length ≤ 64) && decide (d.wkt.events.length ≤ 32) &&
    d.wkt.items.length == 16 && decide (d.dep.notes.length ≤ 64)

theorem inv_of_okB {s : State} (h : okB s.dev = true) : Inv s := by
  simp only [okB, Bool.and_eq_true, decide_eq_true_eq, beq_iff_eq] at h
  obtain ⟨⟨⟨⟨⟨⟨h1, h2⟩, h3⟩, h4⟩, h5⟩, h6⟩, h7⟩ := h
  exact ⟨h1, h2, h3, h4, h5, h6, h7⟩

/-- A sound state meets a decidable condition. -/
theorem met {s : State} {P : Prop} [Decidable P] (h : (okB s.dev && decide P) = true) : Inv s ∧ P := by
  simp only [Bool.and_eq_true, decide_eq_true_eq] at h
  exact ⟨inv_of_okB h.1, h.2⟩

theorem ok_of {ε α : Type} {e : Except ε α} {t : α} (h : e.toOption = some t) : e = .ok t := by
  cases e with
  | error x => exact absurd h (by simp [Except.toOption])
  | ok x => simpa [Except.toOption] using h

/-! ### Ill-formed operands -/

theorem ill_register_offset : Instr.wf (.registerWrite 3 0x12 5 15) = false := by decide
theorem ill_register_space : Instr.wf (.maskedWrite 3 0x1100000 5) = false := by decide
theorem ill_wide_offset : Instr.wf (.rw64FullWrite 3 0x24 5 5) = false := by decide
theorem ill_tlp_length : Instr.wf (.hostMwr { bar := .bar2, off := 0xFFF, rid := 0, ptag := 0 } [some 1, some 2]) = false := by decide
theorem ill_tlp_read : Instr.wf (.hostMrd { bar := .bar2, off := 0, rid := 0, ptag := 0 } 4097) = false := by decide
theorem ill_atomic_length : Instr.wf (.hostFetchadd { bar := .bar2, off := 0, rid := 0, ptag := 0 } 16 (List.replicate 16 0)) = false := by decide
theorem ill_atomic_align : Instr.wf (.hostCas { bar := .bar2, off := 8, rid := 0, ptag := 0 } 16 (List.replicate 16 0) (List.replicate 16 0)) = false := by
  decide
theorem ill_slave_beats : Instr.wf (.slaveRead { master := 0, addr := 0, beN := 0, beats := 4 }) = false := by decide
theorem ill_transfer_data : Instr.wf (.itmMrd 0 { op := 2, tag := 0, orig := 0, dst := 0, length := 2, tc := 2, data := [1, 2, 3, 4] }) = false := by decide
theorem ill_transfer_tag : Instr.wf (.itmCompletion 0 { op := 0x42, tag := 512, orig := 0, dst := 0, tc := 3 }) = false := by decide
theorem ill_can_length : Instr.wf (.canFrameRx 0 { id := 5 } { data := List.replicate 9 0, sof := 0 }) = false := by decide
theorem ill_can_fd_length : Instr.wf (.canFrameRx 0 { id := 5, fmt := 1 } { data := List.replicate 9 0, sof := 0 }) = false := by decide
theorem ill_wake_length : Instr.wf (.canWakeFrame 0 0 5 false false 8 (List.replicate 9 0)) = false := by decide
theorem ill_lin_length : Instr.wf (.linFrameRx 0 0 true true { data := List.replicate 9 0, sof := 0 }) = false := by decide
theorem ill_eth_length : Instr.wf (.ethFrameRx 0 true { data := List.replicate 13 0, sof := 0 }) = false := by decide
theorem ill_kiosk_key : Instr.wf (.kioskTab [1, 2]) = false := by decide
theorem ill_kiosk_count : Instr.wf (.kioskRd none 0 257) = false := by decide
theorem ill_kiosk_dump : Instr.wf (.kioskDump none 0 4097) = false := by decide

/-! ### The spec's worked examples -/

/-- Example after R39: 0x00A5 under the masked writes 0x0003_0001 and 0x0080_0000. -/
theorem test_masked_value : maskedValue 0x00A5 0x00030001 0xFFFF = 0x00A5 ∧ maskedValue 0x00A5 0x00800000 0xFFFF = 0x0025 := by decide

/-- Example after R195: bytes 0x11 0x22 0x33 0x44 at offset 0 of a group, under each SWAP: the L-bus word and LAD with BO LITTLE and BO BIG. -/
def swapped (swap : Nat) : Nat × Nat × Nat :=
  let m := [0, 1, 2, 3].map fun g => (swapAddr swap (fun x => decide (x < 4)) g, g)
  let bytes := sortAddrs (m.map (·.1))
  let val := writeByte m 0 (allOn [0x11, 0x22, 0x33, 0x44])
  (bytes.headD 0 / 4 * 4, beatLad false 4 val bytes, beatLad true 4 val bytes)

theorem test_swap_none : swapped 0 = (0, 0x44332211, 0x11223344) := by decide +kernel
theorem test_swap_addr_inv : swapped 1 = (4, 0x44332211, 0x11223344) := by decide +kernel
theorem test_swap_val16 : swapped 2 = (0, 0x33441122, 0x22114433) := by decide +kernel
theorem test_swap_val32 : swapped 3 = (0, 0x11223344, 0x44332211) := by decide +kernel
theorem test_swap_val64 : swapped 4 = (4, 0x11223344, 0x44332211) := by decide +kernel

/-- Example of the inertial unit (after R208): four bytes of a 16-bit big-endian zone take two single cycles, both lanes enabled. -/
theorem test_inertial_cycles : (shape 2 16 false false [0x04000010, 0x04000011, 0x04000012, 0x04000013]).map (fun c => c.beats.map (·.bytes)) =
    [[[0x04000010, 0x04000011]], [[0x04000012, 0x04000013]]] ∧ beatBeN true 2 [0x04000010, 0x04000011] = 12 ∧
    ladByte true 2 0x1234 0x04000010 = 0x12 ∧ ladByte true 2 0x1234 0x04000011 = 0x34 := by decide +kernel

/-- Example of the FPGA timing board (after R208): BO BIG and VAL32 in LW0, LAD 0x0001_86A0: the bytes 0xA0, 0x86, 0x01, 0x00. -/
theorem test_board_write : ((Dev.put blank [(winBase .lw 0, 0x41), (winBase .lw 0 + 8, 7)]).slaveData 0 0x1000 0 0x000186A0) =
    (0x1000 % 4096, allOn [0xA0, 0x86, 0x01, 0x00]) := by decide +kernel

/-- Example after R208: even parity of 0xA5 is 0 and of 0x07 is 1. -/
theorem test_parity : lparOf 0xA5 = 0 ∧ lparOf 0x07 = 1 := by decide

/-- R314: the check values of the three CRCs over "123456789". -/
theorem test_crc_checks : (let n := [0x31, 0x32, 0x33, 0x34, 0x35, 0x36, 0x37, 0x38, 0x39];
    [1, 2, 3].map fun alg => crcFinal alg (crcBytes alg (crcInit alg) n)) = [0xE3069283, 0xCBF43926, 0x29B1] := by decide +kernel

/-- FIPS 197, appendix C.1: AES-128 of 00112233445566778899AABBCCDDEEFF under 000102…0F. -/
theorem test_aes : aesNum (List.range 16) 0x00112233445566778899AABBCCDDEEFF = 0x69C4E0D86A7B0430D8CDB78070B4C55A := by decide +kernel

/-- RFC 4493, section 4, example 1: AES-CMAC of the empty message. -/
theorem test_cmac : cmac (beList 16 0x2B7E151628AED2A6ABF7158809CF4F3C) [] = 0xBB1D6929E95937287FA37D129B756746 := by decide +kernel

/-- Example after R100: a read of 512 bytes from GA …0x30 with Max Payload Size 128 returns five completions: length, byte count and lower address. -/
theorem test_host_completions :
    ((splitAt 128 6 0x30 512).map fun x => (x.2, 512 - (x.1 - 0x30), x.1 % 128)) = 
      [(80, 512, 0x30), (128, 432, 0), (128, 304, 0), (128, 176, 0), (48, 48, 0)] := by decide +kernel

/-- Example of the window settings of Meadow-12 (after R89): BAR 2 offset 0x2000_0010 through IW3 is GA 0x0020_0400_0010 and falls into LZ2. -/
def meadow : Dev :=
  (Dev.put blank [(winBase .lz 2, 0x99), (winBase .lz 2 + 0xC, 0x4000), (winBase .lz 2 + 8, 0x611), (winBase .iw 3, 0x459),
    (winBase .iw 3 + 0xC, 0x20000)]).wr64 (winBase .iw 3 + 0x10) 0x2004000000

theorem test_meadow_window : winBase .lz 2 = 0x301C40 ∧ winBase .iw 3 = 0x301060 ∧ meadow.winFind .iw 0x20000010 = some 3 ∧
    meadow.winGa .iw 3 0x20000010 = 0x2004000010 ∧ meadow.winFind .lz 0x04000010 = some 2 ∧ meadow.zoneW 2 = 2 ∧ meadow.winBig .lz 2 = true := by
  decide +kernel

/-- Example after R185: device 0x002 reaches node 0x1E over ITM1, where its route is usable. -/
theorem test_route : (({ Dev.put blank [(itmReg Reg.itmLinkCtl 1, 0x383), (Reg.itmRoute + 4 * 0x1E, 1)] with
    itm := blank.itm.modify 1 fun l => { l with state := .up } } : Dev).routeNode 0x1E).toOption = some 1 := by decide +kernel

/-- Example of the spare swap (after R454): CAN channel 10 on its spare: PAV1_STATUS and the entry of DEP_SPARE_MAP. -/
theorem test_spare_swap : (let d := blank.swapUnit 5 10 3; (d.regWord 63 (Reg.pavStatus + 0x10000) &&& 0xF, d.rd Reg.depSpareMap)) =
    (0xA, 0x00000A6B) := by decide +kernel

/-- Example after R389: the key of a classical CAN frame with ID 0x123 on channel 10 of device 0x000. -/
theorem test_can_key : Frame.fieldKey { kind := 1, src := 10, data := [], fmeta := canRecordBytes { id := 0x123 } } =
     [3, 0, 0, 10, 0, 0x23, 1, 0, 0, 0, 0, 0, 0, 0, 0, 0] := by decide

/-! ### Witnesses: the register interface and resets -/

theorem witness_PlainAndAliasWrites : (Inv (at' blank) ∧ (Reg.intSw, 0xFFFF#32) ∈ coreHeld ∧ blank.writeDenied 63 Reg.intSw 5 = none ∧
    blank.writeDenied 63 (Reg.intSw + 0x10000) 5 = none ∧ blank.writeDenied 63 (Reg.intSw + 0x20000) 5 = none ∧
    blank.writeDenied 63 (Reg.intSw + 0x30000) 5 = none) := met (by decide +kernel)

def aRws : Dev := { blank with hub := { rws := [{ frame := 0x10, off := Reg.hpInbTimeout, val := 0x2FF, who := 3 }] } }

theorem witness_MaskedAndSlowWrites :
    (Inv (at' blank) ∧ (Reg.gthMsCtl, 0xFFFF#32) ∈ maskedHeld ∧ blank.writeDenied 3 Reg.gthMsCtl 0x10001 = none) ∧
    (Inv (at' blank) ∧ (Reg.hpInbTimeout, 0x3FF#32) ∈ slowHeld ∧ blank.writeDenied 63 Reg.hpInbTimeout 1 = none) ∧
    (Inv (at' aRws) ∧ (Reg.hpInbTimeout, 0x3FF#32) ∈ slowHeld ∧ aRws.writeDenied 63 Reg.hpInbTimeout 1 = none ∧
      (aRws.hub.rws.find? fun y => y.frame == frameOf Reg.hpInbTimeout) = some { frame := 0x10, off := Reg.hpInbTimeout, val := 0x2FF, who := 3 }) :=
  ⟨met (by decide +kernel), met (by decide +kernel), met (by decide +kernel)⟩

def aArmed : Dev := { blank with hub := { armed := [{ off := Reg.depFaultAct, who := 63, val := 0xFFFFFFFE }] } }

theorem witness_KeyedWrites :
    (Inv (at' blank) ∧ blank.writeDenied 63 Reg.depFaultAct 5 = none) ∧
    (Inv (at' aArmed) ∧ aArmed.commits 63 Reg.depFaultAct 1 = some 0xFFFFFFFE ∧ aArmed.writeDenied 63 (Reg.depFaultAct + 4) 1 = none) ∧
    (Inv (at' aArmed) ∧ aArmed.commits 62 Reg.depFaultAct 1 = none ∧ aArmed.writeDenied 62 (Reg.depFaultAct + 4) 1 = none) ∧
    (Inv (at' aArmed) ∧ (aArmed.hub.armed.any fun a => a.off == Reg.depFaultAct) = true) :=
  ⟨met (by decide +kernel), met (by decide +kernel), met (by decide +kernel), met (by decide +kernel)⟩

theorem witness_WideWrites : Inv (at' blank) ∧ (∀ n : Fin 14, blank.writeDenied 63 (Reg.gthMsTxSci + 0x40 * n.val) 7 = none ∧
    blank.writeDenied 63 (Reg.gthMsTxSci + 0x40 * n.val + 4) 7 = none) := met (by decide +kernel)

def aErase : Dev := { blank with ldg := { blank.ldg with erasing := true, flash := [(0x10000, 5), (0x18000, 7)] } }

theorem witness_HubEvents :
    (Inv (at' blank) ∧ (Reg.gthCtl, 7#32) ∈ coreHeld ∧ (blank.hub.damaged.any fun x => x.off == Reg.gthCtl) = false ∧ blank.ldg.mbx = none) ∧
    (Inv (at' aErase) ∧ aErase.ldg.erasing = true) := ⟨met (by decide +kernel), met (by decide +kernel)⟩

/-! A device whose Lodge is not powered, one in its safe state, and devices in the drain of a reset. -/
def bNoLodge : Dev := { blank with wkt := { blank.wkt with items := blank.wkt.items.set 9 { ready := false } } }
def bSafe : Dev := { Dev.put blank [(Reg.depSafeCfg, 5)] with dep := { blank.dep with safe := true } }
def bDrain : Dev := { blank with ldg := { blank.ldg with resetBlocks := [2] }, lbu := { blank.lbu with draining := true } }
def bWarm : Dev := { blank with ldg := { blank.ldg with warm := true }, lbu := { blank.lbu with draining := true } }

theorem noHeader_of {d : Dev} (h : (d.headerOk 0 || d.headerOk 0xF000) = false) : d.noHeader := by
  simpa [Dev.noHeader, Bool.or_eq_false_iff] using h

theorem witness_DeviceResets :
    ((Inv (at' blank) ∧ blank.lodgeReady = true) ∧ blank.noHeader) ∧ (Inv (at' bNoLodge) ∧ bNoLodge.lodgeReady = false) ∧
    (Inv (at' blank) ∧ blank.fld Reg.depSafeCfg 0 16 = 0) ∧
    ((Inv (at' bSafe) ∧ bSafe.dep.safe = true ∧ bSafe.fld Reg.depSafeCfg 0 16 ≠ 0) ∧ bSafe.noHeader) :=
  ⟨⟨met (by decide +kernel), noHeader_of (by decide +kernel)⟩, met (by decide +kernel), met (by decide +kernel), met (by decide +kernel),
    noHeader_of (by decide +kernel)⟩

theorem witness_BlockResets :
    (Inv (at' blank) ∧ blank.ldg.warm = false ∧ 2 ∉ blank.ldg.resetBlocks ∧ (15 : Fin 32).val ∈ [5, 6, 7, 15] ∧
      ((0 : Fin 32).val ∈ [0, 12, 13] ∨ 16 ≤ (0 : Fin 32).val) ∧ ((16 : Fin 32).val ∈ [0, 12, 13] ∨ 16 ≤ (16 : Fin 32).val)) ∧
    (Inv (at' bDrain) ∧ bDrain.ldg.warm = false ∧ 2 ∈ bDrain.ldg.resetBlocks) ∧
    ((Inv (at' bWarm) ∧ bWarm.ldg.warm = true) ∧ bWarm.noHeader) :=
  ⟨met (by decide +kernel), met (by decide +kernel), met (by decide +kernel), noHeader_of (by decide +kernel)⟩

def bBoot : Dev := { Dev.put blank [(Reg.dmcTrain, 0xFF1F)] with ldg := { blank.ldg with boot := some { hdr := 0, fwSlot := 0 } } }
def bTrained : Dev := { Dev.put blank [(Reg.dmcStatus, 1)] with hp := { blank.hp with reconfig := true } }

theorem erased_code {d : Dev} (h : d.ldg.flash = []) (k : Nat) : d.configCode 0 k ≠ 0 := by
  simp [Dev.configCode, Dev.flashByte, h, cellGet]

theorem witness_DramAndStartUp :
    (Inv (at' bBoot) ∧ bBoot.ldg.boot = some { hdr := 0, fwSlot := 0 } ∧ bBoot.flag Reg.dmcTrain ((5 : Fin 6).val - 1) = true) ∧
    (∀ k, bBoot.configCode 0 k ≠ 0) ∧
    (Inv (at' bTrained) ∧ bTrained.flag Reg.dmcStatus 0 = true ∧ bTrained.hp.reconfig = true ∧ bTrained.hp.perst = false ∧
      (∀ r ∈ (configOf bTrained.ldg.config).getD [], r.block ≠ 1)) := ⟨met (by decide +kernel), erased_code rfl, met (by decide +kernel)⟩

/-! ### Witnesses: the host port -/

def req (op : ReqOp) (posted : Bool) (ing : Ingress) (agent : Nat) (tgt : Target) (ga len : Nat) : Req :=
  { seq := 5, agent := agent, ident := 7, orig := 0, ing := ing, op := op, posted := posted, ga := ga, len := len, tgt := tgt, tag := 9, otag := 3, ts := 0 }

/-- A device with one request in flight. -/
def Dev.holds (d : Dev) (r : Req) : Dev := { d with fab := { d.fab with nextSeq := 8, reqs := [r] } }

def rBar0 : HostReq := { bar := .bar0, off := 0x300010, rid := 7, ptag := 3 }
def rBar2 : HostReq := { bar := .bar2, off := 8, rid := 7, ptag := 3 }

theorem witness_BarZeroRequests : rBar0.bar = .bar0 ∧ blank.hp.d3hot = false ∧ rBar0.ep = false ∧ blank.silent = false ∧
    blank.standbyRefuses .bar0 rBar0.off true = false := by decide +kernel

theorem witness_ConfigurationRequests : blank.flag Reg.hpLinkCtl 5 = false ∧ (Dev.put blank [(Reg.hpLinkCtl, 0x3B)]).flag Reg.hpLinkCtl 5 = true := by
  decide +kernel

theorem steady_of {d : Dev} (h : (cellsWf d.regs && d.gzb.chans.length == 16 && d.hub.damaged == []) = true) : d.Steady := by
  simpa [Dev.Steady, Bool.and_eq_true, and_assoc] using h

theorem witness_HostRequestsWithoutTarget : blank.Steady ∧ blank.hostReq? 511 = none := ⟨steady_of (by decide +kernel), by decide +kernel⟩

theorem witness_MsixTable : blank.hp.d3hot = false ∧ 0 < blank.hp.mps ∧ (16 * 63 + 4 * (1 + 1)) % blank.hp.mps + 4 ≤ blank.hp.mps := by decide +kernel

def bOpen (mask : BitVec 64) (bme : Bool) : Dev :=
  { Dev.put blank [(Reg.hpLinkCtl, 0x3B)] with
    hp := { linkUp := true, bme := bme, msixEn := true, msgs := [63, 5], msix := [(253, 4096)], msixMask := mask } }

theorem witness_InterruptMessageCells :
    ((bOpen 0 true).Steady ∧ (bOpen 0 true).hp.msgs = [63, 5] ∧ (bOpen 0 true).msixOpen = true ∧ (bOpen 0 true).vecMasked 63 = false) ∧
    ((bOpen (1#64 <<< 63) true).Steady ∧ (bOpen (1#64 <<< 63) true).msixOpen = true ∧ (bOpen (1#64 <<< 63) true).vecMasked 63 = true) ∧
    ((bOpen 0 false).Steady ∧ (bOpen 0 false).msixOpen = false) :=
  ⟨⟨steady_of (by decide +kernel), by decide +kernel⟩, ⟨steady_of (by decide +kernel), by decide +kernel⟩, steady_of (by decide +kernel),
    by decide +kernel⟩

theorem witness_HostLinkEvents : (bOpen 0 true).flag Reg.hpLinkCtl 4 = true ∧ (bOpen 0 true).hp.linkUp = true := by decide +kernel

/-- IW0 maps BAR 2 offset 0 to the SRAM. -/
def Dev.iw0 (d : Dev) (ctl : Word) : Dev := (Dev.put d [(winBase .iw 0, ctl)]).wr64 (winBase .iw 0 + 0x10) 0x1_0000_0000
/-- OW0 maps the host aperture to host memory. -/
def Dev.ow0 (d : Dev) : Dev := (Dev.put d [(winBase .ow 0, 1)]).wr64 (winBase .ow 0 + 0x10) 0x8000_0000
def Dev.hostUp (d : Dev) : Dev := { Dev.put d [(Reg.hpLinkCtl, 0x3B)] with hp := { linkUp := true, bme := true } }

def cWin : Dev := Dev.iw0 blank 1

theorem witness_WindowAtomics : Inv (at' cWin) ∧ (rBar2.bar = .bar2 ∧ rBar2.ep = false ∧ cWin.hp.d3hot = false ∧ cWin.silent = false ∧
    cWin.standby = false ∧ cWin.winFind .iw rBar2.off = some 0 ∧ [1, 2, 3, 4, 5, 6, 7, (8 : Byte)].length = 8 ∧ cWin.winGa .iw 0 rBar2.off % 8 = 0 ∧
    cWin.iwLoop (cWin.winGa .iw 0 rBar2.off) = false ∧
    ¬(cWin.winGa .iw 0 rBar2.off / 2 ^ 38 % 1024 = cWin.devid ∧ cWin.winGa .iw 0 rBar2.off % 2 ^ 38 < 0x1000_0000) ∧
    cWin.winView .iw 0 rBar2.off = .plain ∧ cWin.sameView .iw 0 rBar2.off 8 = true) := met (by decide +kernel)

def rEnded : Req := { req .read false (.iw 0) 0 .sram 0x1_0000_0000 4 with st := .ended, rdata := [1, 2, 3, 4] }
def rOpen : Req := req .read false (.iw 0) 0 .sram 0x1_0000_0000 4
def cEnded : Dev := Dev.holds (Dev.iw0 blank 1) rEnded
def cOpen : Dev := Dev.holds (Dev.iw0 blank 0x401) rOpen

theorem witness_HostAnswers :
    (Inv (at' blank) ∧ blank.hostReq? 9 = none) ∧
    (Inv (at' cEnded) ∧ cEnded.hostReq? 9 = some rEnded ∧ rEnded.op = .read ∧ 1 ≤ rEnded.len ∧ rEnded.st = .ended ∧ rEnded.status = none ∧
      cEnded.tooOld rEnded.rts (cEnded.ingAge rEnded.ing) = false ∧ rEnded.ga % cEnded.hp.mps + rEnded.len ≤ cEnded.hp.mps) ∧
    (Inv (at' cOpen) ∧ cOpen.hostReq? 9 = some rOpen ∧ rOpen.op = .read ∧ 1 ≤ rOpen.len ∧ rOpen.st ≠ .ended ∧ cOpen.ingSyncErr rOpen.ing = true) :=
  ⟨met (by decide +kernel), met (by decide +kernel), met (by decide +kernel)⟩

def wOut : Req := { req .write true .arcade 58 (.ow 0) 0x30_0000_0010 4 with data := allOn [1, 2, 3, 4] }
def rOut : Req := req .read false .arcade 58 (.ow 0) 0x30_0000_0010 4
def cDown : Dev := Dev.holds (Dev.ow0 blank) wOut
def cWrite : Dev := Dev.holds (Dev.hostUp (Dev.ow0 blank)) wOut
def cRead : Dev := Dev.holds (Dev.hostUp (Dev.ow0 blank)) rOut

theorem witness_HostTraffic :
    (Inv (at' cDown) ∧ cDown.req? 5 = some wOut ∧ wOut.tgt = .ow 0 ∧ cDown.mayPerform wOut = true ∧ cDown.silent = false ∧ wOut.op = .write ∧
      cDown.hostOpen = false) ∧
    (Inv (at' cWrite) ∧ cWrite.req? 5 = some wOut ∧ cWrite.mayPerform wOut = true ∧ cWrite.silent = false ∧ cWrite.hostOpen = true ∧
      cWrite.hp.d3hot = false ∧ cWrite.tooOld wOut.ts (cWrite.winAge .ow 0) = false ∧ wOut.poison = false ∧ wOut.data = allOn [1, 2, 3, 4] ∧
      4 ≤ cWrite.hp.mps ∧ cWrite.owAddr 0 wOut.ga % 4096 + 4 ≤ 4096) ∧
    (Inv (at' cRead) ∧ cRead.req? 5 = some rOut ∧ rOut.tgt = .ow 0 ∧ cRead.mayPerform rOut = true ∧ cRead.silent = false ∧ cRead.hostOpen = true ∧
      cRead.hp.d3hot = false ∧ cRead.tooOld rOut.ts (cRead.winAge .ow 0) = false ∧ rOut.op = .read ∧ cRead.winBit .ow 0 7 = false ∧
      rOut.sentLen = 0 ∧ 1 ≤ rOut.len ∧ rOut.len ≤ cRead.hp.mrrs ∧ cRead.owAddr 0 rOut.ga % 4096 + rOut.len ≤ 4096 ∧
      cRead.hp.reads.length < cRead.tagLimit ∧ (cRead.hp.reads.map (·.len)).sum + rOut.len ≤ 32768) :=
  ⟨met (by decide +kernel), met (by decide +kernel), met (by decide +kernel)⟩

def rSent : Req := { rOut with st := .started, sentLen := 4 }
def outRead : OutRead := { ptag := 2, seq := 5, addr := 0x8000_0010, len := 4, pos := 0 }
def cSent : Dev := let d := Dev.holds cRead rSent; { d with hp := { d.hp with reads := [outRead] } }

theorem witness_HostCompletions : Inv (at' cSent) ∧ ((cSent.hp.reads.find? fun y => y.ptag == 2) = some outRead ∧
    cSent.req? outRead.seq = some rSent ∧ rSent.op = .read ∧ (cSent.hp.reads.filter fun y => y.seq == outRead.seq) = [outRead] ∧
    cSent.hostReadRange rSent = (rSent.ga, rSent.ga + rSent.len) ∧ rSent.sentLen = rSent.len ∧ CplStatus.unsupported ≠ .success) :=
  met (by decide +kernel)

/-! ### Witnesses: barriers, semaphores, buffers and memory -/

theorem witness_BarriersAccepted :
    (Inv (at' blank) ∧ ∀ w h, BarrierSrc.win 31 4 = .win w h → w.val < 32) ∧ (Inv (at' blank) ∧ (32 : Requester).val ≥ 32) :=
  ⟨⟨inv_of_okB (by decide +kernel), by intro w h e; cases e; decide⟩, met (by decide +kernel)⟩

def barrier7 : Barrier := { agent := 3, complete := true, seq := 7, src := .win 3 3 }
def cBar : Dev := { blank with fab := { nextSeq := 8, barriers := [barrier7] } }

theorem witness_BarriersDone : Inv (at' cBar) ∧ ((cBar.fab.barriers.find? fun c => c.seq == barrier7.seq) = some barrier7 ∧
    cBar.barrierReady barrier7 = true ∧ isWinBarrier barrier7.src = true ∧
    (∀ c ∈ cBar.fab.barriers, isWinBarrier c.src = true → c = barrier7)) := met (by decide +kernel)

def cClaim : Dev := Dev.put blank [(Reg.winHostSemClaim, 0x8000)]

theorem witness_HostSemaphores : (Inv (at' blank) ∧ (31 : Requester).val < 32 ∧ 32 ≤ (32 : Requester).val ∧
    blank.semGrantable (15 : Fin 16).val = false) ∧ (Inv (at' cClaim) ∧ cClaim.semGrantable (15 : Fin 16).val = true) :=
  ⟨met (by decide +kernel), met (by decide +kernel)⟩

def wSram : Req := { req .write true (.iw 0) 0 .sram 0x1_0000_0004 4 with data := [some 1, none, some 3, some 4] }
def rDram : Req := req .read false (.iw 0) 0 .dram 0x10_0000_0004 4
def wDone : Req := { wSram with st := .ended }
def cWs : Dev := { Dev.holds blank wSram with mem := [(0x1_0000_0005, 7)] }
def cRd : Dev := { Dev.holds (Dev.put blank [(Reg.winDramSize, 16)]) rDram with mem := [(0x10_0000_0005, 7)] }
def cDone : Dev := Dev.holds blank wDone

theorem witness_MemoryEndPoint :
    (Inv (at' cDone) ∧ cDone.req? 5 = some wDone ∧ 5 < cDone.fab.nextSeq ∧ wDone.posted = true ∧ wDone.st = .ended) ∧
    (Inv (at' cWs) ∧ cWs.req? 5 = some wSram ∧ 5 < cWs.fab.nextSeq ∧ wSram.tgt = .sram ∧ cWs.mayPerform wSram = true ∧ wSram.poison = false ∧
      cWs.bad = [] ∧ wSram.op = .write ∧ cWs.silent = false) ∧
    (Inv (at' cRd) ∧ cRd.req? 5 = some rDram ∧ 5 < cRd.fab.nextSeq ∧ rDram.tgt = .dram ∧ cRd.mayPerform rDram = true ∧ rDram.poison = false ∧
      cRd.bad = [] ∧ rDram.op = .read ∧ rDram.posted = false ∧ rDram.known = [] ∧ rDram.orphan = 0) :=
  ⟨met (by decide +kernel), met (by decide +kernel), met (by decide +kernel)⟩

def cwbLine : CwbLine := { path := .h2l, agent := 0, ident := 7, orig := 0, ing := .iw 0, granule := 0x20_0000_0000 / 64,
                           data := List.replicate 63 none ++ [some 1], ts := 0 }
def cCwb : Dev := let d := Dev.iw0 (Dev.put blank [(winBase .lz 0, 1)]) 1; { d with fab := { d.fab with cwb := [cwbLine] } }
def wLink : Req := { req .write true (.iw 0) 0 (.link 1 5) (5 * 2 ^ 38 + 0x1_0000_0000) 4 with
  data := allOn [1, 2, 3, 4], path := .itm 1, st := .started, entries := 1 }
def cLink : Dev := Dev.holds blank wLink
def wEntry : Req := { wSram with path := .h2l, entries := 1, st := .ended }
def cEntry : Dev := Dev.holds blank wEntry

theorem witness_BuffersEmptied :
    (Inv (at' cCwb) ∧ (0 : Fin 32).val < winCount .iw ∧ cCwb.winEn .iw (0 : Fin 32).val = true ∧
      (cCwb.fab.cwb.filter fun l => l.path == .h2l)[0]? = some cwbLine ∧ cCwb.pwbRoom .h2l 1 = true) ∧
    (∃ t, cCwb.route (cwbLine.granule * 64) 64 = .ok t) ∧
    (Inv (at' cLink) ∧ (cLink.fab.reqs.find? fun r => r.path == .itm 1 && r.posted && r.st == .started) = some wLink ∧ wLink.tgt = .link 1 5 ∧
      wLink.seq < cLink.fab.nextSeq) ∧
    (Inv (at' cEntry) ∧ (cEntry.fab.reqs.find? fun r => r.path == .h2l && r.st == .ended && decide (0 < r.entries)) = some wEntry ∧
      (∀ q ∈ cEntry.fab.reqs, q.seq = wEntry.seq → q = wEntry) ∧ wEntry.seq < cEntry.fab.nextSeq) :=
  ⟨met (by decide +kernel), ⟨.zone 0, ok_of (by decide +kernel)⟩, met (by decide +kernel), met (by decide +kernel)⟩

def rWait : Req := { req .read false (.iw 0) 0 .sram 0x1_0000_0004 4 with st := .waiting }
def rLink : Req := { req .read false (.iw 0) 0 (.link 1 5) (5 * 2 ^ 38 + 0x1_0000_0000) 4 with st := .waiting }
def prefBlock : PrefBlock := { agent := 0, ing := .iw 0, ga := 0, data := [1], left := [0], zone := some 1 }
def cWait : Dev := Dev.holds blank rWait
def cWaitLink : Dev := let d := Dev.holds blank rLink; { d with itm := d.itm.modify 1 fun l => { l with state := .up } }
def cPref : Dev := { blank with fab := { pref := [prefBlock] } }

theorem witness_WaitsAndExpiries :
    ((Inv (at' cWait) ∧ cWait.req? 5 = some rWait ∧ rWait.st = .waiting ∧ cWait.readState rWait = .ready ∧ 0 < rWait.len ∧ rWait.posted = false) ∧
      ∀ n dst, rWait.tgt ≠ .link n dst) ∧
    (Inv (at' cWaitLink) ∧ cWaitLink.req? 5 = some rLink ∧ rLink.st = .waiting ∧ cWaitLink.readState rLink = .ready ∧ 0 < rLink.len ∧
      rLink.posted = false ∧ rLink.tgt = .link 1 5 ∧ (cWaitLink.link 1).state = .up ∧ cWaitLink.linkOutstanding 1 < 256) ∧
    (Inv (at' cPref) ∧ cPref.fab.pref[0]? = some prefBlock ∧ prefBlock.zone.isSome = true ∧ prefBlock.left ≠ []) :=
  ⟨⟨met (by decide +kernel), by intro n dst h; cases h⟩, met (by decide +kernel), met (by decide +kernel)⟩

/-! ### Witnesses: the request fabric and the Orangery as bus master -/

/-- A running bus with zone 0 (AtomicOps allowed) and long window 0. -/
def Dev.bus (d : Dev) (lz : Word) : Dev :=
  { Dev.put d [(Reg.lbuCtl, 0x1C35), (winBase .lz 0, lz), (winBase .lw 0, 0x41)] with lbu := { d.lbu with lreset := false, clkOk := true } }
/-- A zone request stands in the queue of a running bus. -/
def Dev.queued (r : Req) (lz : Word) : Dev :=
  let d := Dev.holds (Dev.bus (Dev.iw0 blank 1) lz) r
  { d with lbu := { d.lbu with zoneQ := [5] } }
def wReq : Req := { req .write true (.iw 0) 0 .reg 0x1_0000_0004 4 with data := allOn [1, 2, 3, 4] }
def dWin : Dev := Dev.iw0 blank 0x41
def rZone (op : ReqOp) (data : List Byte) : Req := { req op false (.iw 0) 0 (.zone 0) 0x20_0000_0004 4 with data := allOn data }
def wZone : Req := { req .write true (.iw 0) 0 (.zone 0) 0x20_0000_0004 4 with data := allOn [1, 2, 3, 4] }
def dArrive : Dev := Dev.holds (Dev.bus (Dev.iw0 blank 1) 0x41) (rZone .read [])

theorem witness_RequestsAccepted :
    ((Inv (at' dWin) ∧ wReq.posted = true ∧ wReq.op = .write ∧ dWin.asWrite wReq = wReq ∧ dWin.holdReason wReq dWin.fab.held = none ∧
      dWin.needsRoom wReq = false ∧ (∀ x ∈ dWin.fab.stops, x.agent ≠ wReq.agent) ∧ dWin.tooOld wReq.ts (dWin.ingAge wReq.ing) = false ∧
      dWin.combines { wReq with tgt := .sram, path := writePath wReq.ing .sram, strict := dWin.ingStrict wReq.ing } = false) ∧
      dWin.route wReq.ga (max wReq.len 1) = .ok .sram) ∧
    (Inv (at' dArrive) ∧ dArrive.req? 5 = some (rZone .read []) ∧ 5 ∉ dArrive.lbu.zoneQ ∧ dArrive.lbu.draining = false ∧
      (rZone .read []).tgt = .zone 0 ∧ (rZone .read []).st = .ready) :=
  ⟨⟨met (by decide +kernel), ok_of (by decide +kernel)⟩, met (by decide +kernel)⟩

def jobW : ZoneJob := { seq := 5, zone := 0, cycles := [{ write := true, beats := [{ bytes := [4, 5, 6, 7] }] }], map := [(4, 0x20_0000_0004)] }
def jobR : ZoneJob := { seq := 5, zone := 0, cycles := [{ write := false, beats := [{ bytes := [4, 5, 6, 7] }, { bytes := [8] }] }],
                        map := [(4, 0x20_0000_0004), (5, 0x20_0000_0005)] }
def dSwap : Dev := Dev.queued (rZone .swap [1, 2, 3, 4]) 0x41
def dNoLock : Dev := Dev.queued (rZone .swap [1, 2, 3, 4]) 0x1
def dRetried : Dev := let d := Dev.queued wZone 0x41; { d with lbu := { d.lbu with retried := [jobW] } }

theorem witness_ZoneRequestsStart :
    (Inv (at' (Dev.queued wZone 0x41)) ∧ ((Dev.queued wZone 0x41).busRuns = true ∧ (Dev.queued wZone 0x41).lbu.owner = .orangery ∧
      (Dev.queued wZone 0x41).lbu.job = none) ∧ wZone.tgt = .zone 0 ∧
      (Dev.queued wZone 0x41).tooOld wZone.ts ((Dev.queued wZone 0x41).winAge .lz 0) = false ∧ (Dev.queued wZone 0x41).nextZone = some wZone ∧
      wZone.op = .write ∧ wZone.poison = false ∧ (Dev.queued wZone 0x41).zoneBytes wZone true ≠ []) ∧
    (Inv (at' dSwap) ∧ (dSwap.busRuns = true ∧ dSwap.lbu.owner = .orangery ∧ dSwap.lbu.job = none) ∧
      dSwap.nextZone = some (rZone .swap [1, 2, 3, 4]) ∧ isAtomic (rZone .swap [1, 2, 3, 4]).op = true ∧ dSwap.winBit .lz 0 6 = true) ∧
    (Inv (at' dNoLock) ∧ (dNoLock.busRuns = true ∧ dNoLock.lbu.owner = .orangery ∧ dNoLock.lbu.job = none) ∧
      dNoLock.nextZone = some (rZone .swap [1, 2, 3, 4]) ∧ dNoLock.winBit .lz 0 6 = false) ∧
    (Inv (at' dRetried) ∧ (dRetried.busRuns = true ∧ dRetried.lbu.owner = .orangery ∧ dRetried.lbu.job = none) ∧ dRetried.lbu.guard = false ∧
      dRetried.lbu.retried = [jobW]) :=
  ⟨met (by decide +kernel), met (by decide +kernel), met (by decide +kernel), met (by decide +kernel)⟩

def dReads : Dev := let d := Dev.queued (rZone .read []) 0x41; { d with lbu := { d.lbu with job := some jobR } }
def dWrites : Dev := let d := Dev.queued wZone 0x41; { d with lbu := { d.lbu with job := some jobW } }

theorem witness_BusBeats :
    (Inv (at' dReads) ∧ dReads.lbu.job = some jobR ∧ jobR.paused = false ∧
      (jobR.cycles = [{ write := false, beats := [{ bytes := [4, 5, 6, 7] }, { bytes := [8] }] }] ∧
        (([{ bytes := [4, 5, 6, 7] }, { bytes := [8] }] : List Beat).drop jobR.beat).head? = some { bytes := [4, 5, 6, 7] }) ∧
      dReads.req? jobR.seq = some (rZone .read []) ∧ jobR.beat + 1 < 2 ∧ dReads.lbu.guard = false ∧
      dReads.badLanes jobR { bytes := [4, 5, 6, 7] } 0x44332211 0 = 0 ∧ jobR.locked = false) ∧
    (Inv (at' dWrites) ∧ dWrites.lbu.job = some jobW ∧ jobW.paused = false ∧ jobW.cycles = [{ write := true, beats := [{ bytes := [4, 5, 6, 7] }] }] ∧
      dWrites.req? jobW.seq = some wZone ∧ wZone.op = .write ∧ jobW.beat + 1 = 1 ∧ jobW.locked = false ∧ jobW.parBad = none) :=
  ⟨met (by decide +kernel), met (by decide +kernel)⟩

def dBus : Dev := Dev.bus blank 0x41
def dLocked : Dev := { dBus with lbu := { dBus.lbu with locked := some .orangery } }
def dExt : Dev := Dev.put dBus [(Reg.lbuCtl, 0x1C75)]

theorem witness_BusArbitration :
    (Inv (at' blank) ∧ blank.masterEn 1 = false) ∧
    (Inv (at' dBus) ∧ dBus.masterEn 1 = true ∧ dBus.flag Reg.lbuCtl 6 = false ∧ BusOwner.lbm1 ∉ dBus.lbu.requests ∧ dBus.lbu.locked = none ∧
      dBus.lbu.guard = false ∧ dBus.lbu.promoted = []) ∧
    (Inv (at' dLocked) ∧ dLocked.flag Reg.lbuCtl 6 = false ∧ dLocked.lbu.locked = some dLocked.lbu.owner) ∧
    (Inv (at' dExt) ∧ dExt.flag Reg.lbuCtl 6 = true) :=
  ⟨met (by decide +kernel), met (by decide +kernel), met (by decide +kernel), met (by decide +kernel)⟩

theorem witness_BusClockAndMonitor :
    (Inv (at' blank) ∧ blank.flag Reg.lbuCtl 0 = false) ∧
    (Inv (at' dBus) ∧ dBus.flag Reg.lbuCtl 0 = true ∧ dBus.lbu.draining = false ∧ dBus.live = true ∧ dBus.flag Reg.lbuCtl 2 = true ∧
      dBus.winFind .lz (0 : Word).toNat = some 0) := ⟨met (by decide +kernel), met (by decide +kernel)⟩

/-! ### Witnesses: the Orangery as slave -/

theorem noLoop {d : Dev} {n : Nat} (h4 : 4 ≤ d.winSize .lw n) (hs : d.winSize .lw n ≤ 4096)
    (ht : d.winTgt .lw n / d.winSize .lw n * d.winSize .lw n = 0x1_0000_0000 ∨ d.winTgt .lw n / d.winSize .lw n * d.winSize .lw n = 0x30_0000_0000)
    (a : Nat) : d.lwLoop (d.winGa .lw n a) = false := by
  have h1 : a % (d.winSize .lw n / 4) < 4096 := Nat.lt_of_lt_of_le (Nat.mod_lt _ (by omega)) (by omega)
  have h2 : a % d.winSize .lw n < 4096 := Nat.lt_of_lt_of_le (Nat.mod_lt _ (by omega)) (by omega)
  have h3 : d.winGa .lw n a % 2 ^ 38 < 0x20_0000_0000 ∨ 0x21_0000_0000 ≤ d.winGa .lw n a % 2 ^ 38 := by
    simp only [Dev.winGa]
    rcases ht with ht | ht <;> rw [ht] <;> split <;> omega
  unfold Dev.lwLoop
  rcases h3 with h3 | h3
  · rw [Bool.and_eq_false_iff, Bool.and_eq_false_iff]
    exact .inl (.inr (by simp; omega))
  · rw [Bool.and_eq_false_iff]
    exact .inr (by simp; omega)

/-- Long window 0 maps the first 4 KiB of the L-bus to the SRAM. -/
def Dev.slave (d : Dev) (lw : Word) : Dev :=
  { (Dev.put d [(Reg.lbuCtl, 0x1C31), (Reg.lbuSlvCfg, 0x10), (winBase .lw 0, lw)]).wr64 (winBase .lw 0 + 0x10) 0x1_0000_0000 with
    lbu := { d.lbu with lreset := false, clkOk := true } }
def ePost : Dev := Dev.slave blank 0x41
def eDelay : Dev := Dev.slave blank 0x1
def eCond : Dev := Dev.slave blank 0x241
def cyc (a : Word) : SlaveCycle := { master := 0, addr := a, beN := 0 }

def hears (d : Dev) (c : SlaveCycle) (lw : Nat) (write : Bool) : Bool :=
  d.slaveOn && (d.slaveGate c write).isNone && c.beat == 0 && c.beats == 1 && d.winFind .lw c.addr.toNat == some lw &&
    !d.slaveBusy c.master.val lw && d.lbu.slots.all (fun x => x.master != c.master.val || x.addr != c.addr) &&
    (c.lock || (d.lockOf c.master.val).isNone)

theorem heard_of {d : Dev} {c : SlaveCycle} {lw : Nat} {write : Bool} (h : hears d c lw write = true) : d.slaveHeard c lw write := by
  simp only [hears, Bool.and_eq_true, Bool.or_eq_true, beq_iff_eq, Option.isNone_iff_eq_none, Bool.not_eq_true', List.all_eq_true,
    bne_iff_ne] at h
  obtain ⟨⟨⟨⟨⟨⟨⟨h1, h2⟩, h3⟩, h4⟩, h5⟩, h6⟩, h7⟩, h8⟩ := h
  exact ⟨h1, h2, h3, h4, h5, h6, h7, fun hl => h8.resolve_left (by simp [hl])⟩

theorem ready_of {d : Dev} {c : SlaveCycle} {write : Bool} (h : (hears d c 0 write && !d.winBit .lw 0 13) = true) (h4 : 4 ≤ d.winSize .lw 0)
    (hs : d.winSize .lw 0 ≤ 4096)
    (ht : d.winTgt .lw 0 / d.winSize .lw 0 * d.winSize .lw 0 = 0x1_0000_0000 ∨ d.winTgt .lw 0 / d.winSize .lw 0 * d.winSize .lw 0 = 0x30_0000_0000) :
    d.slaveReady c 0 write := by
  simp only [Bool.and_eq_true, Bool.not_eq_true'] at h
  exact ⟨heard_of h.1, noLoop h4 hs ht, h.2⟩

theorem slot_of {d : Dev} {k : Fin 2} (h : (!d.lholdZero && d.freeSlot.isSome && d.ttRoom 1 && d.fab.semLocks == [] && d.fab.semGranted == 0 &&
    (d.fab.reqs ++ d.fab.held).all (fun r => r.agent != 56 + k.val) && !d.barrierHolds (56 + k.val)) = true) : d.slotReady k := by
  simp only [Bool.and_eq_true, beq_iff_eq, Bool.not_eq_true', List.all_eq_true, bne_iff_ne] at h
  exact ⟨h.1.1.1.1.1.1, h.1.1.1.1.1.2, h.1.1.1.1.2, h.1.1.1.2, h.1.1.2, h.1.2, h.2⟩

/-- A path whose buffer is full: the window's GA lies in the host aperture, and 64 writes wait for the host. -/
def eFull : Dev :=
  let d := Dev.put ((Dev.slave blank 0x41).wr64 (winBase .lw 0 + 0x10) 0x30_0000_0000) [(winBase .ow 0, 0x41)]
  { d with fab := { d.fab with nextSeq := 400, reqs := (List.range 64).map fun k => { req .write true (.iw 0) 3 (.ow 0) (0x30_0000_0000 + 64 * k) 64 with
      seq := k, path := .l2h, entries := 1, data := allOn (List.replicate 64 5) } } }
def eReq (d : Dev) : Req :=
  let p := d.slaveData 0 4 0 0x11223344
  { d.lwReq (cyc 4) 0 with op := .write, posted := true, ga := p.1, len := p.2.length, data := p.2 }

theorem witness_SlaveCycles :
    ((Inv (at' ePost) ∧ beContiguous (cyc 4).beN = true ∧ (cyc 4).beN ≠ 15 ∧ ePost.winView .lw 0 (cyc 4).addr.toNat = .plain ∧
      ePost.delaysWrite (cyc 4) 0 (ePost.slaveData 0 4 0 0x11223344).1 4 = false ∧ ePost.barrierHolds 56 = false ∧
      ePost.needsRoom (eReq ePost) = false) ∧ ePost.slaveReady (cyc 4) 0 true) ∧
    ((Inv (at' eFull) ∧ eFull.winView .lw 0 (cyc 4).addr.toNat = .plain ∧ eFull.needsRoom (eReq eFull) = true ∧ eFull.lholdZero = false ∧
      eFull.delaysWrite (cyc 4) 0 (eFull.slaveData 0 4 0 0x11223344).1 4 = false ∧ eFull.barrierHolds 56 = false) ∧ eFull.slaveReady (cyc 4) 0 true) ∧
    ((Inv (at' eDelay) ∧ eDelay.winView .lw 0 (cyc 4).addr.toNat = .plain ∧ eDelay.delaysWrite (cyc 4) 0 (eDelay.slaveData 0 4 0 0x11223344).1 4 = true ∧
      (cyc 4).lock = false) ∧ eDelay.slaveReady (cyc 4) 0 true ∧ eDelay.slotReady 0) ∧
    ((Inv (at' eCond) ∧ eCond.winView .lw 0 (cyc 0x804).addr.toNat = .condStore) ∧ eCond.slaveReady (cyc 0x804) 0 true ∧ eCond.slotReady 0) ∧
    ((Inv (at' eDelay) ∧ (cyc 0xFFC).beN ≠ 15) ∧ eDelay.slaveReady (cyc 0xFFC) 0 false ∧ eDelay.slotReady 0) :=
  ⟨⟨met (by decide +kernel), ready_of (by decide +kernel) (by decide +kernel) (by decide +kernel) (by decide +kernel)⟩,
    ⟨met (by decide +kernel), ready_of (by decide +kernel) (by decide +kernel) (by decide +kernel) (by decide +kernel)⟩,
    ⟨met (by decide +kernel), ready_of (by decide +kernel) (by decide +kernel) (by decide +kernel) (by decide +kernel), slot_of (by decide +kernel)⟩,
    ⟨met (by decide +kernel), ready_of (by decide +kernel) (by decide +kernel) (by decide +kernel) (by decide +kernel), slot_of (by decide +kernel)⟩,
    ⟨met (by decide +kernel), ready_of (by decide +kernel) (by decide +kernel) (by decide +kernel) (by decide +kernel), slot_of (by decide +kernel)⟩⟩

def lockSeq : LockSeq := { master := 0, granule := 0x1_0000_0000 / 64, slot := some 0 }
def eLock : Dev := { ePost with fab := { ePost.fab with semLocks := [(0, 0)] }, lbu := { ePost.lbu with locks := [lockSeq] } }
def eBarrier : Dev := Dev.put ePost [(winBase .lw 1, 0x2001), (winBase .lw 1 + 0xC, 1)]

theorem witness_SlaveLocksAndBarriers :
    ((Inv (at' ePost) ∧ (cyc 4).beN ≠ 15 ∧ ePost.winView .lw 0 4 = .plain ∧ ePost.lockOf 0 = none ∧ ePost.rd Reg.winHostSemClaim = 0) ∧
      ePost.slaveReady (cyc 4) 0 false ∧ ePost.slotReady 0) ∧
    (Inv (at' eLock) ∧ eLock.lockOf 0 = some lockSeq ∧ lockSeq.slot = some 0) ∧
    ((Inv (at' eBarrier) ∧ eBarrier.winBit .lw 1 13 = true ∧ beContiguous (cyc 0x1004).beN = true ∧ (cyc 0x1004).beN ≠ 15 ∧
      (4 : Word).getLsbD 0 = false ∧ (5 : Word).getLsbD 0 = true ∧ eBarrier.freeSlot.isSome = true ∧ eBarrier.lholdZero = false) ∧
      eBarrier.slaveHeard (cyc 0x1004) 1 true) :=
  ⟨⟨met (by decide +kernel), ready_of (by decide +kernel) (by decide +kernel) (by decide +kernel) (by decide +kernel), slot_of (by decide +kernel)⟩,
    met (by decide +kernel), met (by decide +kernel), heard_of (by decide +kernel)⟩

theorem witness_BarriersDone_read : (Inv (at' eBarrier) ∧ eBarrier.winBit .lw 1 13 = true) ∧ eBarrier.slaveHeard (cyc 0x1004) 1 false :=
  ⟨met (by decide +kernel), heard_of (by decide +kernel)⟩

def slot (op : DrOp) (s : DrState) (cs : Bool) : DrSlot :=
  { idx := 15, master := 0, lw := 0, addr := 4, beN := 0, burst := false, beats := 1, locked := false, op := op, data := 0x11223344, seq := 5, tag := 9,
    state := s, csFail := cs, rdata := [1, 2, 3, 4], first := 0x1_0000_0004, allocVt := 0 }
def rLw : Req := { req .read false (.lw 0 0) 56 .sram 0x1_0000_0004 4 with st := .ended, rdata := [9, 8, 7, 6] }
def eSlot (x : DrSlot) (cyc : Option (Nat × Nat)) : Dev :=
  let d := Dev.holds ePost rLw
  { d with lbu := { d.lbu with slots := [x], cyc := cyc } }

theorem witness_DelayedReadSlots :
    (Inv (at' (eSlot (slot .read .waiting false) none)) ∧ (eSlot (slot .read .waiting false) none).slaveOn = true ∧
      ((eSlot (slot .read .waiting false) none).slaveGate (cyc 4) false).isNone = true ∧ (eSlot (slot .read .waiting false) none).lockOf 0 = none ∧
      (eSlot (slot .read .waiting false) none).winFind .lw 4 = some 0 ∧
      ((eSlot (slot .read .waiting false) none).lbu.slots.find? fun y => y.repeats (cyc 4) 0 none) = some (slot .read .waiting false) ∧
      (eSlot (slot .read .waiting false) none).lholdZero = false ∧
      ((eSlot (slot .read .waiting false) none).lbu.slots.find? fun y => y.idx == (15 : Fin 16).val) = some (slot .read .waiting false) ∧
      (eSlot (slot .read .waiting false) none).req? 5 = some rLw ∧ rLw.st = .ended) ∧
    (Inv (at' (eSlot (slot .read .held false) none)) ∧
      ((eSlot (slot .read .held false) none).lbu.slots.find? fun y => y.repeats (cyc 4) 0 none) = some (slot .read .held false) ∧
      (eSlot (slot .read .held false) none).tooOld rLw.rts ((eSlot (slot .read .held false) none).winAge .lw 0) = false ∧
      (slot .read .held false).status = none) ∧
    (Inv (at' (eSlot (slot .condStore .held true) none)) ∧ ((eSlot (slot .condStore .held true) none).slaveGate (cyc 4) true).isNone = true ∧
      ((eSlot (slot .condStore .held true) none).lbu.slots.find? fun y => y.repeats (cyc 4) 0 (some 0x11223344)) = some (slot .condStore .held true)) ∧
    (Inv (at' (eSlot (slot .write .held false) none)) ∧
      ((eSlot (slot .write .held false) none).lbu.slots.find? fun y => y.repeats (cyc 4) 0 (some 0x11223344)) = some (slot .write .held false)) ∧
    (Inv (at' (eSlot (slot .read .waiting false) (some (0, 15)))) ∧ (eSlot (slot .read .waiting false) (some (0, 15))).lbu.cyc.isSome = true) :=
  ⟨met (by decide +kernel), met (by decide +kernel), met (by decide +kernel), met (by decide +kernel), met (by decide +kernel)⟩

def ePin (p : LirqPin) (q : List LirqChange) : Dev :=
  { Dev.put blank [(Reg.intLirqCfg + 28, 0x100)] with lbu := { blank.lbu with pins := blank.lbu.pins.set 7 p, lirqQ := q } }
def eCover : Dev := let d := ePin {} [{ pin := 7, low := true, mark := 7 }]
  Dev.holds d { req .write true (.lw 0 0) 56 .sram 0x1_0000_0004 4 with data := allOn [1, 2, 3, 4] }

theorem witness_InterruptPins :
    (Inv (at' blank) ∧ blank.lbu.pins.length = 8 ∧ blank.flag (Reg.intLirqCfg + 4 * (7 : Fin 8).val) 8 = false) ∧
    (Inv (at' (ePin { sampled := true } [])) ∧ (ePin { sampled := true } []).lbu.pins.length = 8 ∧
      (ePin { sampled := true } []).flag (Reg.intLirqCfg + 4 * (7 : Fin 8).val) 8 = true ∧
      ((ePin { sampled := true } []).pin 7).sampled ≠ ((ePin { sampled := true } []).pin 7).accepted ∧
      (ePin { sampled := true } []).lbu.lirqQ.length < 32) ∧
    (Inv (at' (ePin { accepted := true } [{ pin := 7, low := true, mark := 1 }])) ∧
      (ePin { accepted := true } [{ pin := 7, low := true, mark := 1 }]).lirqCovered 1 = true ∧
      (ePin { accepted := true } [{ pin := 7, low := true, mark := 1 }]).lbu.lirqQ.length + 8 ≤ 32 ∧
      ((ePin { accepted := true } [{ pin := 7, low := true, mark := 1 }]).pin 7).accepted ≠
        ((ePin { accepted := true } [{ pin := 7, low := true, mark := 1 }]).pin 7).queued) ∧
    (Inv (at' eCover) ∧ eCover.lbu.lirqQ = [{ pin := 7, low := true, mark := 7 }] ∧ eCover.lirqCovered 7 = false) :=
  ⟨met (by decide +kernel), met (by decide +kernel), met (by decide +kernel), met (by decide +kernel)⟩

/-! ### Witnesses: the Itmos links -/

/-- Link 4 is configured in a role and stands in a state. -/
def Dev.linkAt (d : Dev) (role : Nat) (l : Link) : Dev :=
  { Dev.put d [(itmReg Reg.itmLinkCtl 4, 0x380 + BitVec.ofNat 32 role)] with itm := d.itm.set 4 l }
def fTrain : Dev := Dev.linkAt blank 3 { state := .train }
def fHello : Dev := Dev.linkAt blank 3 { state := .hello, trained := true, verdict := 1, peerResult := 1, sentOk := true }
def peerHello (version : Nat) : Hello := { version := version, devid := 0, link := 0, role := 1, expDevid := 0, expRole := 3, twin := 0, epoch := 65535,
                                           lanes := 2, credits := [], result := 1, silicon := 0 }

theorem witness_LinkTraining :
    (Inv (at' fTrain) ∧ fTrain.itm.length = 5 ∧ fTrain.linkOn 4 = true ∧ (fTrain.link 4).state = .train) ∧
    (Inv (at' fHello) ∧ fHello.itm.length = 5 ∧ (fHello.link 4).trained = true ∧ (fHello.link 4).state = .hello ∧
      fHello.helloCheck 4 (peerHello 2) ≠ 1 ∧ fHello.helloCheck 4 (peerHello 1) = 1 ∧ (peerHello 1).result = 1) :=
  ⟨met (by decide +kernel), met (by decide +kernel)⟩

def fUp : Dev := Dev.linkAt blank 3 { state := .up, trained := true, replays := 14 }
def fRetrain : Dev := Dev.linkAt blank 3 { state := .retrain, epoch := 65535 }

theorem witness_LinkReplay : (Inv (at' fUp) ∧ fUp.itm.length = 5 ∧ (fUp.link 4).state = .up ∧ (fUp.link 4).nakSent = false) ∧
    (Inv (at' fRetrain) ∧ fRetrain.itm.length = 5 ∧ (fRetrain.link 4).state = .retrain) ∧ (Inv (at' blank) ∧ (blank.link 4).state ≠ .retrain) :=
  ⟨met (by decide +kernel), met (by decide +kernel), met (by decide +kernel)⟩

def fSwap (tries : Nat) : Dev := Dev.linkAt blank 3 { state := .up, trained := true, swapLane := some 1, swapTries := tries }

theorem witness_LaneRepair :
    (Inv (at' fUp) ∧ fUp.itm.length = 5 ∧ (fUp.link 4).state = .up ∧ (fUp.link 4).rx.mask.testBit 2 = false ∧
      (fUp.link 4).rx.mask.testBit 1 = true ∧ (fUp.link 4).rx.single = none ∧ (fUp.link 4).rx.spareOk = true ∧
      fUp.flag (itmReg Reg.itmLinkCtl 4) 8 = true ∧ (fUp.link 4).tx.single = none ∧ (fUp.link 4).tx.spareOk = true) ∧
    (Inv (at' (fSwap 3)) ∧ ((fSwap 3).link 4).swapLane = some 1 ∧ ((fSwap 3).link 4).swapTries < 4) ∧
    (Inv (at' (fSwap 4)) ∧ ((fSwap 4).link 4).swapLane = some 1 ∧ 4 ≤ ((fSwap 4).link 4).swapTries) :=
  ⟨met (by decide +kernel), met (by decide +kernel), met (by decide +kernel)⟩

def xfer (op len : Nat) : Transfer := { op := op, tag := 511, addr := 0x1_0000_0004, orig := 9, dst := 0, length := len, fbe := 8, tc := 2,
                                        data := if op = 2 ∨ op = 3 then [] else List.replicate (4 * len) 5 }

theorem witness_PeerRequests : Inv (at' fUp) ∧ (fUp.itm.length = 5 ∧ (fUp.link 4).state = .up ∧ fUp.silent = false ∧ fUp.standby = false ∧
    (∀ k ∈ [0, 1, 2, 3, 4, 5, 6], wellSized (xfer k 1) (k != 2 && k != 3) = true) ∧ wellSized (xfer 7 2) true = true ∧
    (xfer 0 1).fbe = 2 ^ 3 ∧ (xfer 9 1).op ≠ 0) := met (by decide +kernel)

def wPeer : Req := { req .write true (.link 4 0) 33 .sram 0x1_0000_0004 4 with orig := 9, data := allOn [1, 2, 3, 4] }
def fBehind : Dev := Dev.holds fUp wPeer

theorem witness_PeerMessages :
    (Inv (at' fUp) ∧ fUp.itm.length = 5 ∧ (fUp.link 4).state = .up ∧ fUp.silent = false ∧ fUp.standby = false ∧ (xfer 8 0).dst = fUp.devid ∧
      (xfer 8 0).length = 0 ∧ fUp.fab.waitMsgs = [] ∧ (∀ r ∈ fUp.fab.reqs, r.posted = false) ∧ fUp.fab.peerFail = [] ∧
      ({ xfer 0x22 0 with data := List.replicate 32 1 } : Transfer).data.length = 32) ∧
    ((Inv (at' fBehind) ∧ wPeer ∈ fBehind.fab.reqs ∧ wPeer.posted = true ∧ wPeer.orig = (xfer 8 0).orig ∧ wPeer.seq < fBehind.fab.nextSeq ∧
      wPeer.ing = .link 4 0 ∧ fBehind.fab.waitMsgs = []) ∧ ∀ m dst, wPeer.tgt ≠ .link m dst) :=
  ⟨met (by decide +kernel), met (by decide +kernel), by intro m dst h; cases h⟩

def cpl (op st : Nat) : Transfer := { op := op, tag := 9, orig := 9, dst := 0, status := st, length := 1, tc := 3, data := [1, 2, 3, 4] }
def rPeer : Req := { req .read false (.iw 0) 3 (.link 4 9) (9 * 2 ^ 38 + 0x1_0000_0001) 2 with st := .started }
def fOpen : Dev := Dev.holds fUp rPeer
def ownBar : Wbar := { link := 4, entry := 9, dst := 9, last := 4 }
def relBar : Wbar := { link := 4, entry := 9, dst := 9, last := 4, backLink := some 3, backTag := 3, orig := 5 }
def fBar (w : Wbar) : Dev := { fUp with itm := fUp.itm.set 3 { state := .up }, fab := { nextSeq := 8, wbars := [w] } }

theorem witness_PeerCompletions :
    (Inv (at' fUp) ∧ fUp.itm.length = 5 ∧ (fUp.link 4).state = .up ∧ (cpl 0x42 0).op ≠ 0x48 ∧ fUp.peerMatch 4 (cpl 0x42 0) = none) ∧
    (Inv (at' fOpen) ∧ (fOpen.link 4).state = .up ∧ fOpen.peerMatch 4 (cpl 0x42 0) = some rPeer ∧ rPeer.seq < fOpen.fab.nextSeq ∧
      (cpl 0x42 0).status = 0 ∧ (cpl 0x42 0).poison = false ∧ rPeer.op = .read ∧ fOpen.peerMatch 4 (cpl 0x42 1) = some rPeer ∧
      (errOfCode (cpl 0x42 1).status).isSome = true ∧
      (fOpen.fab.reqs.find? fun r => !r.posted && r.st == .started && r.tag == 9 && (match r.tgt with | .link _ _ => true | _ => false)) = some rPeer ∧
      rPeer.tgt = .link 4 9) ∧
    (Inv (at' (fBar ownBar)) ∧ ((fBar ownBar).fab.wbars.find? fun x => x.link == 4 && x.entry == (cpl 0x48 0).tag) = some ownBar ∧
      ownBar.backLink = none ∧ (cpl 0x48 0).status = 0) ∧
    (Inv (at' (fBar relBar)) ∧ ((fBar relBar).fab.wbars.find? fun x => x.link == 4 && x.entry == (9 : Fin 32).val) = some relBar ∧
      relBar.backLink = some 3 ∧ ((fBar relBar).link 3).state = .up ∧ (fBar relBar).elog.entries.length < 64) :=
  ⟨met (by decide +kernel), met (by decide +kernel), met (by decide +kernel), met (by decide +kernel)⟩

/-- A link that carries time, as the parent's end (role 3) or the child's (role 1). -/
def fTime (role : Nat) (l : Link) (vt : Nat) : Dev :=
  { Dev.put (Dev.linkAt blank role l) [(itmReg Reg.itmTimeCfg 4, 0x163)] with blv := { blank.blv with vt := vt } }

theorem witness_TimeFlits :
    (Inv (at' (fTime 3 { state := .up } 1000)) ∧ (fTime 3 { state := .up } 1000).itm.length = 5 ∧ (fTime 3 { state := .up } 1000).timeOn 4 = true ∧
      (fTime 3 { state := .up } 1000).timeParent 4 = true) ∧
    (Inv (at' (fTime 1 { state := .up, delayReq := some (4, 900 * 65536) } 1000)) ∧
      (fTime 1 { state := .up, delayReq := some (4, 900 * 65536) } 1000).timeOn 4 = true ∧
      (fTime 1 { state := .up, delayReq := some (4, 900 * 65536) } 1000).timeChild 4 = true ∧
      ((fTime 1 { state := .up, delayReq := some (4, 900 * 65536) } 1000).link 4).delayReq = some (4, 900 * 65536) ∧
      (fTime 1 { state := .up, delayReq := some (4, 900 * 65536) } 1000).vtStamp = 1000 * 65536) :=
  ⟨met (by decide +kernel), met (by decide +kernel)⟩

/-! ### Witnesses: the Belvedere, the error log and interrupts -/

def Dev.withBlv (d : Dev) (b : Blv) : Dev := { d with blv := b }
def gFree : Dev := Dev.withBlv blank { vt := 1000 }
def gType1 : Dev := Dev.withBlv (Dev.put blank [(Reg.blvSrcCfg, 1)]) { vt := 1000, servo := .locked, use := some .primary }
def gLink : Dev := Dev.withBlv (Dev.put blank [(Reg.blvSrcCfg, 2)]) { vt := 1000, servo := .locked, use := some .primary }

theorem witness_SteeringAndStepping :
    (Inv (at' gFree) ∧ gFree.steerable = true ∧ gFree.blv.servo ≠ .locked ∧ 0 ≤ (gFree.blv.vt : Int) + gFree.stepDelta ∧
      (gFree.blv.vt : Int) + gFree.stepDelta < 2 ^ 64) ∧
    (Inv (at' gType1) ∧ gType1.blv.servo = .locked) ∧ (Inv (at' gLink) ∧ gLink.steerable = false) :=
  ⟨met (by decide +kernel), met (by decide +kernel), met (by decide +kernel)⟩

def gChild : Dev := Dev.withBlv (Dev.put (fTime 1 { state := .up } 1000) [(Reg.blvSrcCfg, 2 + 8 * 4)]) { vt := 1000, use := some .primary }

theorem witness_TimeLinksAndCounters :
    (Inv (at' (fTime 3 { state := .up } 1000)) ∧ (fTime 3 { state := .up } 1000).itm.length = 5 ∧ (fTime 3 { state := .up } 1000).timeOn 4 = true ∧
      (fTime 3 { state := .up } 1000).timeParent 4 = true ∧ (fTime 3 { state := .up } 1000).timeChild 4 = false) ∧
    (Inv (at' gChild) ∧ gChild.timeOn 4 = true ∧ gChild.timeChild 4 = true ∧ gChild.blv.use = some .primary ∧ gChild.srcLink .primary = some 4 ∧
      gChild.srcType .primary = 2) := ⟨met (by decide +kernel), met (by decide +kernel)⟩

/-- A pulse on pin 47 is the primary source. -/
def gPps (revert : Word) (b : Blv) : Dev := Dev.withBlv (Dev.put blank [(Reg.blvSrcCfg, 3 + 8 * 47 + revert), (Reg.blvTioCfg + 188, 3)]) b
def gNone : Dev := gPps 0 {}
def gPri : Dev := gPps 0 { servo := .locked, use := some .primary, priOk := true }
def gBoth : Dev := gPps 0 { servo := .locked, use := some .primary, priOk := true, secOk := true }
def gSec : Dev := gPps 0x40000 { servo := .locked, use := some .secondary, priOk := true, secOk := true }
def gHold : Dev := gPps 0 { servo := .holdover }

theorem witness_TimeSources :
    (Inv (at' gNone) ∧ gNone.srcHolds .secondary = false ∧ gNone.srcHolds .primary = true ∧ gNone.standby = false ∧ gNone.blv.use = none ∧
      gNone.blv.servo = .free ∧ gNone.flag Reg.blvSrcCfg 18 = false ∧ gNone.fld (Reg.blvTioCfg + 4 * (0 : Fin 48).val) 0 3 ≠ 3 ∧
      gNone.fld (Reg.blvTioCfg + 4 * (47 : Fin 48).val) 0 3 = 3 ∧ gNone.blv.caps.length < 512 ∧ (gNone.tioPin 47).lastCap = none) ∧
    (Inv (at' gPri) ∧ gPri.standby = false ∧ gPri.blv.use = some .primary ∧ gPri.blv.secOk = false ∧ gPri.blv.servo = .locked ∧
      gPri.srcType .primary = 3 ∧ gPri.srcArg .primary = (47 : Fin 48).val) ∧
    (Inv (at' gBoth) ∧ gBoth.standby = false ∧ gBoth.blv.use = some .primary ∧ gBoth.blv.secOk = true) ∧
    (Inv (at' gSec) ∧ gSec.flag Reg.blvSrcCfg 18 = true ∧ gSec.blv.use = some .secondary ∧ gSec.blv.priOk = true) ∧
    (Inv (at' gHold) ∧ gHold.blv.servo = .holdover) :=
  ⟨met (by decide +kernel), met (by decide +kernel), met (by decide +kernel), met (by decide +kernel), met (by decide +kernel)⟩

/-- Schedule slot 4095 holds an image. -/
def Dev.slotted (d : Dev) (img : Nat) : Dev :=
  Dev.put d ((List.range 8).map fun k => (0x84_0000 + 32 * 4095 + 4 * k, BitVec.ofNat 32 (img / 2 ^ (32 * k))))
/-- A trigger of a pin at 5000 with a tolerance of 100 ns. -/
def trigger (pin op : Nat) : Nat := 5000 + 2 ^ 104 * 1 + 2 ^ 112 * 100 + 2 ^ 144 * pin + 2 ^ 152 * op
def armed0 : ArmedSlot := { slot := 4095, ref := 0 }
def gOff : Dev := Dev.withBlv (Dev.slotted blank (trigger 47 2)) { vt := 5100 }
def gBad : Dev := Dev.withBlv (Dev.slotted blank (trigger 47 5)) { vt := 1000 }
def gLate : Dev := Dev.withBlv (Dev.slotted blank (trigger 47 2)) { vt := 5101, armed := [armed0] }
def gOn : Dev := Dev.withBlv (Dev.put (Dev.slotted blank (trigger 47 2)) [(Reg.blvSchedCfg, 0x10000)]) { vt := 5000, armed := [armed0] }

theorem witness_SchedulerSlots :
    (Inv (at' gOff) ∧ (gOff.armedSlot? (4095 : Fin 4096).val).isSome = false ∧ gOff.armOk (gOff.slotImg 4095) = true ∧
      gOff.blv.vt ≤ bitsOf (gOff.slotImg 4095) 0 64 + slotTol (gOff.slotImg 4095) ∧ gOff.flag Reg.blvSchedCfg 16 = false ∧ gOff.schedOn = false) ∧
    (Inv (at' gBad) ∧ gBad.armOk (gBad.slotImg 4095) = false) ∧
    (Inv (at' gLate) ∧ (gLate.armedSlot? (4095 : Fin 4096).val).isSome = true ∧ gLate.blv.armed = [armed0] ∧ armed0.next = 0 ∧
      bitsOf (gLate.slotImg armed0.slot) 64 32 = 0 ∧ gLate.blv.events = [] ∧ gLate.blv.res.length < 256 ∧
      bitsOf (gLate.slotImg armed0.slot) 0 64 + slotTol (gLate.slotImg armed0.slot) < gLate.blv.vt) ∧
    (Inv (at' gOn) ∧ gOn.flag Reg.blvSchedCfg 16 = true ∧ gOn.schedOn = true ∧ gOn.nextDispatch = some armed0 ∧ gOn.standby = false) :=
  ⟨met (by decide +kernel), met (by decide +kernel), met (by decide +kernel), met (by decide +kernel)⟩

def event (img : Nat) : BlvEvent := { slot := 4095, img := img, n := 0, due := 5000, ref := 0, id := 4 }
def gPin (mode : Word) (b : Blv) : Dev := Dev.withBlv (Dev.put blank [(Reg.blvTioCfg + 188, mode)]) b
def gTrig : Dev := gPin 1 { vt := 5000, events := [event (trigger 47 2)] }
def gPulse : Dev := gPin 1 { vt := 5040, pins := (List.replicate 48 {}).set 47 { level := true, returnAt := some (5040, false) } }
def gCap (caps : List (List Byte)) : Dev := gPin 0x12 { vt := 5040, caps := caps }

theorem witness_TriggersAndCaptures :
    (Inv (at' bSafe) ∧ bSafe.blv.pins.length = 48 ∧ bSafe.dep.safe = true) ∧
    (Inv (at' gTrig) ∧ gTrig.blv.pins.length = 48 ∧ gTrig.live = true ∧ gTrig.blv.events = [event (trigger 47 2)] ∧
      slotAction (trigger 47 2) = 1 ∧ (event (trigger 47 2)).due ≤ gTrig.blv.vt ∧ (trigger 47 2).testBit 108 = false ∧
      bitsOf (trigger 47 2) 144 6 = (47 : Fin 48).val ∧ bitsOf (trigger 47 2) 152 3 = 2 ∧
      gTrig.fld (Reg.blvTioCfg + 4 * (47 : Fin 48).val) 0 3 = 1 ∧ (gTrig.tioPin 47).level = false ∧ (gTrig.tioPin 47).lastEdge = none ∧
      (event (trigger 47 2)).dropLate 0 = false ∧ (gTrig.tioPin 47).returnAt = none ∧ gTrig.captures 47 false = false) ∧
    (Inv (at' gPulse) ∧ gPulse.blv.pins.length = 48 ∧ (gPulse.tioPin 47).returnAt = some (5040, false) ∧ 5040 ≤ gPulse.blv.vt ∧
      (gPulse.tioPin 47).level = !false ∧ gPulse.live = true) ∧
    (Inv (at' (gCap [])) ∧ (gCap []).captures 47 false = true ∧ ((gCap []).tioPin 47).lastCap = none ∧ (gCap []).blv.caps.length < 512) ∧
    (Inv (at' (gCap (List.replicate 512 []))) ∧ (gCap (List.replicate 512 [])).captures 47 false = true ∧
      512 ≤ (gCap (List.replicate 512 [])).blv.caps.length) :=
  ⟨met (by decide +kernel), met (by decide +kernel), met (by decide +kernel), met (by decide +kernel), met (by decide +kernel)⟩

/-- A timed access of an SRAM word at 5000: action, LATE and tolerance. -/
def timed (act late tol : Nat) : Nat :=
  5000 + 2 ^ 104 * act + 2 ^ 107 * late + 2 ^ 109 * 2 + 2 ^ 112 * tol + 2 ^ 144 * 0x1_0000_0004
def gEvent (img vt : Nat) : Dev := Dev.withBlv blank { vt := vt, events := [event img] }
/-- The release of buffer 31 of channel 7 of Pavilion 7. -/
def release : Nat := 5000 + 2 ^ 104 * 4 + 2 ^ 112 * 100 + 2 ^ 144 * 7 + 2 ^ 147 * 7 + 2 ^ 152 * 31
def canFrame (data : List Byte) : Frame := { kind := 1, src := 2, data := data, fmeta := leBytes 4 5 ++ List.replicate 8 0 }
def loaded : Nat × CanBuf := (31, { frame := canFrame [1], pending := false })
def gRelease : Dev := { Dev.put (gEvent release 5000) [(Reg.pavCanTxtimed + 0x70000 + 0x380, 0x80000000)] with can := blank.can.set 63 { bufs := [loaded] } }
def rTimed (status : Option ErrType) : Req :=
  { req .read false (.blvt 4095) 62 .sram 0x1_0000_0004 4 with st := .ended, otag := 4, rdata := [9, 8, 7, 6], status := status }
def issued : BlvEvent := { event (timed 3 0 100) with issued := true, execVt := 5010 }
def gEnd (status : Option ErrType) : Dev := Dev.holds (Dev.withBlv blank { vt := 5050, events := [issued] }) (rTimed status)

theorem witness_TimedAccesses :
    (Inv (at' bSafe) ∧ bSafe.live = false) ∧
    (Inv (at' (gEvent (timed 2 0 100) 5000)) ∧ (gEvent (timed 2 0 100) 5000).live = true ∧ slotAction (timed 2 0 100) = 2 ∧
      (gEvent (timed 2 0 100) 5000).timedUnit (event (timed 2 0 100)) = true ∧ (event (timed 2 0 100)).dropLate 0 = false) ∧
    (Inv (at' (gEvent (timed 3 1 10) 5011)) ∧ (gEvent (timed 3 1 10) 5011).live = true ∧ slotAction (timed 3 1 10) = 3 ∧
      (gEvent (timed 3 1 10) 5011).timedUnit (event (timed 3 1 10)) = true ∧ (event (timed 3 1 10)).dropLate 11 = true) ∧
    (Inv (at' gRelease) ∧ gRelease.live = true ∧ slotAction release = 4 ∧ (event release).dropLate 0 = false ∧
      ((gRelease.can.getD 63 {}).bufs.find? fun y => y.1 == 31) = some loaded ∧ loaded.2.pending = false ∧ (gRelease.can.getD 63 {}).busOff = false ∧
      (gRelease.rd (Reg.pavCanTxtimed + 0x10000 * bitsOf release 144 3 + 0x80 * bitsOf release 147 4)).getLsbD 31 = true) ∧
    (Inv (at' (gEvent release 5000)) ∧ (((gEvent release 5000).can.getD 63 {}).bufs.find? fun y => y.1 == 31) = none) ∧
    (Inv (at' (gEnd none)) ∧ ((gEnd none).fab.reqs.find? fun r => r.agent == 62 && !r.posted && r.st == .ended) = some (rTimed none) ∧
      ((gEnd none).blv.events.find? fun x => x.id == (rTimed none).otag) = some issued ∧ slotAction issued.img = 3 ∧ (gEnd none).blv.res.length < 256) ∧
    (Inv (at' (gEnd (some .perm))) ∧ ((gEnd (some .perm)).fab.reqs.find? fun r => r.agent == 62 && !r.posted && r.st == .ended) =
      some (rTimed (some .perm)) ∧ (rTimed (some .perm)).status = some .perm) :=
  ⟨met (by decide +kernel), met (by decide +kernel), met (by decide +kernel), met (by decide +kernel), met (by decide +kernel),
    met (by decide +kernel), met (by decide +kernel)⟩

def entry : LogEntry := { vt := 0, ga := 0, orig := 0, type := .perm, agent := 0, path := 0, posted := true, write := true, errResp := false,
                          timed := false, remote := false, lost := false, winNum := 0, winFam := 0, count := 0, detail := 0, seq := 65535 }
def gLog : Dev := { blank with elog := { entries := [entry] } }

theorem witness_FifoPops : (Inv (at' gLog) ∧ gLog.elog.entries = [entry] ∧ entry.seq = (65535 : BitVec 16).toNat) ∧
    (Inv (at' blank) ∧ blank.elog.entries.head? = none) := ⟨met (by decide +kernel), met (by decide +kernel)⟩

def gLevel : Dev := { Dev.put blank [(Reg.intVector + 4 * 15, 0x7F), (Reg.intLirqCfg + 28, 0x100)] with lbu := { blank.lbu with pins := blank.lbu.pins.set 7 { level := true } } }
def gLodge : Dev := Dev.put blank [(Reg.intVector + 4 * 255, 0xC5), (Reg.intNodeMap + 4 * 63, 0xC5)]

theorem witness_InterruptRouting :
    (Inv (at' gLevel) ∧ (63 : Fin 64).val ∈ gLevel.vecsHigh ∧ (62 : Fin 64).val ∉ gLevel.vecsHigh) ∧
    (Inv (at' gLodge) ∧ (63 : Requester).val = 63 ∧ gLodge.fld (Reg.intVector + 4 * 255) 6 3 = 3 ∧ gLodge.fld (Reg.intNodeMap + 4 * 63) 6 3 = 3 ∧
      gLodge.fld (Reg.intVector + 4 * 254) 6 3 ≠ 3 ∧ fieldOf (maskedValue (gLodge.rd (Reg.intVector + 4 * 254)) 0x01FF0045 0x1FF) 6 3 ≠ 3) :=
  ⟨met (by decide +kernel), met (by decide +kernel)⟩

/-! ### Witnesses: the Gazebo -/

def Dev.withGzb (d : Dev) (g : Gzb) : Dev := { d with gzb := g }
def Dev.withChan (d : Dev) (c : GzbChan) : Dev := { d with gzb := { d.gzb with chans := d.gzb.chans.set 15 c } }
/-- Channel 15 is enabled with a ring of 16 descriptors in the SRAM, of which CI 2 to PI 5 belong to the engine. -/
def hRing : Dev := (Dev.put (Dev.withGzb blank {}) [(Reg.gzbCtl, 1), (gzbReg Reg.gzbChCtl 15, 0x41), (gzbReg Reg.gzbChPi 15, 5),
  (gzbReg Reg.gzbChCi 15, 2), (gzbReg Reg.gzbChRing 15 + 4, 1)])
def hOn : Dev := Dev.withChan hRing { off := false }
def hDisabled : Dev := Dev.put blank [(gzbReg Reg.gzbChCtl 15, 0x40)]
def hRuns : Dev := Dev.withGzb hOn { hOn.gzb with running := some 14 }

/-- The room of the ring and the step of a producer index written. -/
def Dev.room (d : Dev) (c : Fin 16) : Nat := d.ringSize c - d.owned c
def Dev.piStep (d : Dev) (c : Fin 16) (v : Word) : Nat :=
  ((maskedValue (d.rd (gzbReg Reg.gzbChPi c)) v 0xFFFF).toNat % 65536 + 65536 - d.pi c) % 65536
def Dev.ctlOf (d : Dev) (c : Fin 16) (v : Word) : Word := maskedValue (d.rd (gzbReg Reg.gzbChCtl c)) v 0x1FF

theorem witness_DmaChannels :
    (Inv (at' hOn) ∧ hOn.gzb.chans.length = 16 ∧ Dev.room hOn 15 = 13 ∧ Dev.piStep hOn 15 0xFFFF0012 = 13 ∧ Dev.piStep hOn 15 0xFFFF0013 = 14 ∧
      hOn.gzb.running ≠ some 15 ∧ fieldOf (hOn.rd (gzbReg Reg.gzbChCtl 15)) 0 1 = 1 ∧
      fieldOf (hOn.rd (gzbReg Reg.gzbChCtl 15)) 4 4 ≠ fieldOf (Dev.ctlOf hOn 15 0xFFFF0051) 4 4 ∧
      fieldOf (hOn.rd (gzbReg Reg.gzbChCtl 15)) 4 4 = fieldOf (Dev.ctlOf hOn 15 0xFFFF0040) 4 4 ∧ fieldOf (Dev.ctlOf hOn 15 0xFFFF0040) 0 1 = 0 ∧
      fieldOf (hOn.rd (gzbReg Reg.gzbChCtl 15)) 4 4 = fieldOf (Dev.ctlOf hOn 15 0xFFFF0043) 4 4 ∧ fieldOf (Dev.ctlOf hOn 15 0xFFFF0043) 0 1 = 1 ∧
      fieldOf (hOn.rd (gzbReg Reg.gzbChCtl 15)) 1 1 = 0 ∧ fieldOf (Dev.ctlOf hOn 15 0xFFFF0043) 1 1 = 1) ∧
    (Inv (at' hDisabled) ∧ fieldOf (hDisabled.rd (gzbReg Reg.gzbChCtl 15)) 0 1 = 0 ∧ fieldOf (Dev.ctlOf hDisabled 15 0xFFFF0041) 0 1 = 1 ∧
      hDisabled.gzb.halted = 0 ∧ hDisabled.gzb.running ≠ some 15) ∧
    (Inv (at' hRuns) ∧ hRuns.gzb.running.isSome = true) ∧
    (Inv (at' hOn) ∧ hOn.gzb.running = none ∧ hOn.gzb.draining = false ∧ hOn.flag Reg.gzbCtl 0 = true ∧ hOn.live = true ∧
      hOn.nextRun = some 15 ∧ hOn.chanEn 15 = true ∧ hOn.chanHold 15 = false ∧ (hOn.chan 15).pend = 0 ∧ (hOn.chan 15).work = [] ∧
      (hOn.chan 15).fetched = [] ∧ hOn.gzb.reads = []) :=
  ⟨met (by decide +kernel), met (by decide +kernel), met (by decide +kernel), met (by decide +kernel)⟩

/-- A block of descriptors, and data of a descriptor, that a read returns. -/
def hBlock (status : Option ErrType) (len : Nat) : Req :=
  { req .read false (.gzb 15) 55 .sram 0x1_0000_0040 len with st := .ended, status := status, rdata := List.replicate len 3 }
def hFetch : GzbRead := { id := 3, ch := 15, kind := 0, idx := 2, pos := 0, len := 64 }
def hData : GzbRead := { id := 3, ch := 15, kind := 2, idx := 2, pos := 0, len := 8 }
def hDesc : GzbDesc := { idx := 2, raw := 2 ^ 255 + 64, lo := 1 }
def hEnded : GzbDesc := { hDesc with wb := some (5, some 6) }
def Dev.withRead (d : Dev) (q : GzbRead) (r : Req) : Dev := Dev.holds (Dev.withGzb d { d.gzb with reads := [q] }) r
def hFetched : Dev := Dev.withRead hOn hFetch (hBlock none 64)
def hRead : Dev := Dev.withRead (Dev.withChan hOn { off := false, work := [hDesc] }) hData (hBlock none 8)
def hLost : Dev := Dev.holds hOn (hBlock none 64)
def hBack : Dev := Dev.withChan hOn { off := false, work := [hEnded] }
def hBusy : Dev := Dev.holds hBack { req .write true (.gzb 15) 55 .sram 0x1_0000_0040 4 with data := allOn [1, 2, 3, 4] }

theorem witness_DmaDescriptors :
    (Inv (at' hFetched) ∧ hFetched.gzbReq? 9 = some (hBlock none 64) ∧ (hFetched.gzb.reads.find? fun x => x.id == 3) = some hFetch ∧
      hFetch.kind = 0 ∧ hFetched.gzb.running ≠ some 15 ∧ (hFetched.chan 15).work = [] ∧ hFetched.descGa 15 2 % 64 = 0 ∧
      hFetched.descGa 15 3 = hFetched.descGa 15 2 + 32 ∧ (hFetched.chan 15).fetched.length + 2 ≤ hFetched.owned 15) ∧
    (Inv (at' hRead) ∧ hRead.gzbReq? 9 = some (hBlock none 8) ∧ (hRead.gzb.reads.find? fun x => x.id == 3) = some hData ∧
      hRead.desc? 15 2 = some hDesc ∧ hDesc.parts = [] ∧ hDesc.inpos = hData.pos) ∧
    (Inv (at' hLost) ∧ hLost.gzbReq? 9 = some (hBlock none 64) ∧ (hLost.gzb.reads.find? fun x => x.id == 3) = none ∧ 5 < hLost.fab.nextSeq) ∧
    (Inv (at' hOn) ∧ hOn.gzbReq? 9 = none) ∧ (Inv (at' hBusy) ∧ (hBusy.chan 15).work = [hEnded] ∧ hBusy.gzbPending 15 5 6 = true) ∧
    (Inv (at' hBack) ∧ (hBack.chan 15).work = [hEnded] ∧ hBack.gzbPending 15 5 6 = false) :=
  ⟨met (by decide +kernel), met (by decide +kernel), met (by decide +kernel), met (by decide +kernel), met (by decide +kernel), met (by decide +kernel)⟩

def hFail : Dev := Dev.withRead hOn hData (hBlock (some .perm) 8)
def hDrain : Dev := Dev.withGzb hOn { hOn.gzb with draining := true, halted := 0xFFFF }
def hHeld : Dev := Dev.withGzb hDrain { hDrain.gzb with restart := some (0x8000, true) }
def hSkip : Dev := Dev.withChan (Dev.withGzb hOn { hOn.gzb with halted := 0xFFFF }) { off := false, lastRaw := some (2, 2 ^ 255 + 64) }

theorem witness_DmaHaltAndRestart :
    (Inv (at' hFail) ∧ hFail.gzbReq? 9 = some (hBlock (some .perm) 8) ∧ (hFail.gzb.reads.find? fun x => x.id == 3) = some hData ∧
      hFail.chanEn 15 = true ∧ hFail.gzb.halted = 0) ∧
    (Inv (at' hOn) ∧ hOn.gzb.draining = false) ∧
    (Inv (at' hDrain) ∧ hDrain.gzb.draining = true ∧ hDrain.fab.reqs = [] ∧ hDrain.gzb.restart = none) ∧
    (Inv (at' hHeld) ∧ hHeld.gzb.draining = true ∧ hHeld.fab.reqs = [] ∧ hHeld.gzb.restart = some (0x8000, true)) ∧
    (Inv (at' hSkip) ∧ hSkip.gzb.draining = false ∧ (0x8000 : BitVec 16).getLsbD 15 = true ∧ hSkip.gzb.halted.getLsbD 15 = true ∧
      0 < hSkip.owned 15 ∧ (hSkip.chan 15).lastRaw = some (hSkip.ci 15, 2 ^ 255 + 64) ∧ (2 ^ 255 + 64).testBit 255 = true) :=
  ⟨met (by decide +kernel), met (by decide +kernel), met (by decide +kernel), met (by decide +kernel), met (by decide +kernel)⟩
/-! ### Witnesses: frames -/

def Dev.withFrm (d : Dev) (f : FramePath) : Dev := { d with frm := f }
/-- CAN channel 63, LIN channel 31 and MAC 13 are enabled, with the MAC's link up. -/
def iOn : Dev := Dev.linkAt { Dev.put blank [(canReg Reg.pavCanCtl 63, 0x41), (linReg Reg.pavLinCtl 31, 1), (ethReg Reg.ethCtl 13, 1),
  (ethReg Reg.ethCfg 13, 1522)] with mac := blank.mac.set 13 { link := true } } 3 { state := .up }
def bytes (n : Nat) : Received := { data := List.replicate n 5, sof := 100 }
/-- A FRAME transfer of a CAN frame of four bytes. -/
def iFrame (op : Nat) : Transfer :=
  { op := op, tag := 0, orig := 9, dst := 0, length := 4, tc := 1,
    data := leBytes 1 1 ++ leBytes 1 7 ++ leBytes 2 4 ++ List.replicate 44 0 ++ [1, 2, 3, 4] ++ List.replicate 8 0 }

theorem witness_FramesReceived :
    (Inv (at' blank) ∧ blank.flag (canReg Reg.pavCanCtl 63) 0 = false) ∧
    (Inv (at' iOn) ∧ iOn.itm.length = 5 ∧ iOn.silent = false ∧ iOn.flag (canReg Reg.pavCanCtl 63) 0 = true ∧ (iOn.canCh 63).busOff = false ∧
      ({ id := 7 } : CanRecord).fmt.val = 0 ∧ (bytes 8).data.length ≤ 8 ∧ iOn.flag Reg.gthCtl 1 = false ∧ iOn.frm.ins = [] ∧ 1 ≤ iOn.poolFree 7 ∧
      iOn.flag (linReg Reg.pavLinCtl 31) 0 = true ∧ 1 ≤ (bytes 8).data.length) ∧
    (Inv (at' iOn) ∧ iOn.flag (ethReg Reg.ethCtl 13) 0 = true ∧ (iOn.mac.getD 13 {}).link = true ∧ 60 ≤ (bytes 60).data.length ∧
      (bytes 60).data.length + 4 ≤ min 9216 (max 64 (iOn.fld (ethReg Reg.ethCfg 13) 0 14)) ∧ (ethType (bytes 60).data).1 ≠ 0x8808 ∧
      (ethType (bytes 60).data).1 ≠ 0x22F0 ∧ iOn.flag (ethReg Reg.ethCtl 13) 3 = false ∧ iOn.flag (secReg Reg.gthMsCtl 13) 1 = false ∧
      iOn.cutThrough 7 4 = false ∧ iOn.cutThrough 7 5 = false) ∧
    (Inv (at' iOn) ∧ iOn.linkUp 4 = true ∧ (iFrame 4).op ≠ 0x30 ∧ (iFrame 0x30).op = 0x30 ∧ (iFrame 0x30).data.length = (iFrame 0x30).length + 56 ∧
      leNat (((iFrame 0x30).data.drop 2).take 2) % 2 ^ 14 = (iFrame 0x30).length ∧ ((iFrame 0x30).data.getD 0 0).toNat % 16 = 1 ∧
      (iFrame 0x30).data.getD (48 + (iFrame 0x30).length) 0 = 0) :=
  ⟨met (by decide +kernel), met (by decide +kernel), met (by decide +kernel), met (by decide +kernel)⟩

def iKey : List Byte := leBytes 16 (1 + 256 * 0x1234)
/-- An entry of the key, of TYPE 5, locked or not. -/
def iEntry (lock : Nat) : Nat := leNat iKey + 2 ^ 128 * 5 + 2 ^ 240 * (1 + 2 * 1 + 64 * lock)
def iLook : LookupKey := { id := 4, ord := none, chan := 63, key := iKey }
def iAlt : LookupKey := { iLook with alt := some [1, 2, 3] }
def iIn (st : FrameStage) : InFrame := { id := 4, chan := 63, port := 8, frame := { kind := 1, src := 63, data := [1, 2, 3] }, stage := st }
/-- A table of one bucket and an entry in it. -/
def iTable (e : Nat) (k : LookupKey) : Dev :=
  let d := Dev.put (Dev.withFrm blank { nextId := 10, ins := [iIn .lookup], keys := [k] }) [(canReg Reg.pavCanCtl 63, 0x41), (Reg.trlCtrl, 1), (Reg.winDramSize, 1), (Reg.trlLockLimit, 100)]
  d.setNum (0x10_0000_0000 + d.areaOff 0 + 128 * (d.buckets 0 iKey).1) 32 e
/-- The slot in which the key's entry stands. -/
def iSlot : Nat := 0x10_0000_0000 + 128 * 375
def iPark (e since : Nat) : Dev := let d := iTable e iLook
  Dev.withBlv { d with frm := { d.frm with keys := [], parked := [{ key := iLook, since := since }] } } { vt := 50000 }

/-- What a bucket read leaves, with a cache miss or without. -/
def Dev.bucketRead (d : Dev) (m : Bool) : Dev := if m then (d.bump64 Reg.trlCacheMiss).tick else d.tick

theorem readBucket_of {d : Dev} (h : d.bad = []) (b : Nat) : ∃ m, d.readBucket b = (Dev.bucketRead d m, true) := by
  refine ⟨decide (Config.freeNat d.fresh % 2 = 1), ?_⟩
  have k : ∀ m, (Dev.bucketRead d m).bad = [] := by intro m; cases m <;> exact h
  have e : (if Config.freeNat d.fresh % 2 = 1 then (d.bump64 Reg.trlCacheMiss).tick else d.tick) =
      Dev.bucketRead d (decide (Config.freeNat d.fresh % 2 = 1)) := by simp [Dev.bucketRead]
  unfold Dev.readBucket
  simp only [e, Dev.badIn, k]
  rfl

/-- Where a lookup finds a key, whichever of its bucket reads miss the cache. -/
def Dev.finds (d : Dev) (key : List Byte) (m n : Bool) : Option Nat :=
  let d := d.bump64 Reg.trlLookups
  let x := Dev.bucketRead d m
  let y := Dev.bucketRead x n
  match x.slotIn d.trl.active (d.buckets d.trl.active key).1 fun e => entMatches e key with
  | some s => some (x.slotAddr d.trl.active (d.buckets d.trl.active key).1 s)
  | none => (y.slotIn d.trl.active (d.buckets d.trl.active key).2 fun e => entMatches e key).map fun s =>
      y.slotAddr d.trl.active (d.buckets d.trl.active key).2 s

theorem lookup_of {d : Dev} {key : List Byte} {r : Option Nat} (h0 : d.bad = []) (h1 : (d.bump64 Reg.trlLookups).flag Reg.trlCtrl 0 = true)
    (h : ∀ m n : Bool, Dev.finds d key m n = r) : (d.lookup key).2 = r := by
  have b1 : (d.bump64 Reg.trlLookups).bad = [] := h0
  unfold Dev.lookup
  simp only [h1, Bool.not_true, Bool.false_eq_true, if_false]
  obtain ⟨m, e1⟩ := readBucket_of b1 ((d.bump64 Reg.trlLookups).buckets (d.bump64 Reg.trlLookups).trl.active key).1
  have b2 : (Dev.bucketRead (d.bump64 Reg.trlLookups) m).bad = [] := by cases m <;> exact h0
  obtain ⟨n, e2⟩ := readBucket_of b2 ((d.bump64 Reg.trlLookups).buckets (d.bump64 Reg.trlLookups).trl.active key).2
  have h := h m n
  unfold Dev.finds at h
  simp only [e1, e2, Bool.not_true, Bool.false_eq_true, if_false]
  split
  · rename_i s k; simp only [k] at h; exact h
  · rename_i k; simp only [k] at h; exact h

theorem witness_FrameLookups :
    (Inv (at' blank) ∧ blank.nextKey = none ∧ blank.frm.parked[0]? = none) ∧
    ((Inv (at' (iTable (iEntry 0) iLook)) ∧ (iTable (iEntry 0) iLook).nextKey = some iLook ∧ iLook.ord = none ∧
      entLock ((iTable (iEntry 0) iLook).entAt iSlot) = false ∧ (iTable (iEntry 0) iLook).inFrame? 4 = some (iIn .lookup)) ∧
      ((iTable (iEntry 0) iLook).lookup iLook.key).2 = some iSlot) ∧
    ((Inv (at' (iTable (iEntry 1) iLook)) ∧ (iTable (iEntry 1) iLook).nextKey = some iLook ∧
      entLock ((iTable (iEntry 1) iLook).entAt iSlot) = true ∧ (iTable (iEntry 1) iLook).frm.parked.length < 64) ∧
      ((iTable (iEntry 1) iLook).lookup iLook.key).2 = some iSlot) ∧
    ((Inv (at' (iTable 0 iAlt)) ∧ (iTable 0 iAlt).nextKey = some iAlt ∧ iAlt.alt = some [1, 2, 3]) ∧
      ((iTable 0 iAlt).lookup iAlt.key).2 = none) ∧
    ((Inv (at' (iTable 0 iLook)) ∧ (iTable 0 iLook).nextKey = some iLook ∧ iLook.alt = none ∧
      (iTable 0 iLook).inFrame? 4 = some (iIn .lookup) ∧ (iTable 0 iLook).missGroup (iIn .lookup) = none) ∧
      ((iTable 0 iLook).lookup iLook.key).2 = none) ∧
    ((Inv (at' (iPark (iEntry 1) 1)) ∧ (iPark (iEntry 1) 1).frm.parked[0]? = some { key := iLook, since := 1 } ∧
      entLock ((iPark (iEntry 1) 1).entAt iSlot) = true ∧ (1 : Nat) + (iPark (iEntry 1) 1).lockLimit ≤ (iPark (iEntry 1) 1).blv.vt) ∧
      ((iPark (iEntry 1) 1).lookup iLook.key).2 = some iSlot) ∧
    (Inv (at' (iPark (iEntry 1) 50000)) ∧ (iPark (iEntry 1) 50000).frm.parked[0]? = some { key := iLook, since := 50000 } ∧
      (iPark (iEntry 1) 50000).blv.vt < 50000 + (iPark (iEntry 1) 50000).lockLimit) :=
  ⟨met (by decide +kernel), ⟨met (by decide +kernel), lookup_of rfl (by decide +kernel) (by decide +kernel)⟩,
    ⟨met (by decide +kernel), lookup_of rfl (by decide +kernel) (by decide +kernel)⟩,
    ⟨met (by decide +kernel), lookup_of rfl (by decide +kernel) (by decide +kernel)⟩,
    ⟨met (by decide +kernel), lookup_of rfl (by decide +kernel) (by decide +kernel)⟩,
    ⟨met (by decide +kernel), lookup_of rfl (by decide +kernel) (by decide +kernel)⟩, met (by decide +kernel)⟩

def iReady : InFrame := { iIn .ready with hit := 1, frame := { (iIn .ready).frame with dmask := 2 ^ 62 } }
def iAct (x : InFrame) : Dev := Dev.withBlv (Dev.withFrm blank { nextId := 10, ins := [x] }) { vt := 5000 }
def iCap : CapRec := { id := 4, ring := 7, slots := 2, gen := 0 }
def iCapture : Dev := Dev.withFrm blank { caps := [iCap] }
/-- PDU 2047 in a mode, with a MIN_GAP of 100 µs. -/
def iPdu (mode : Nat) (p : PduSt) : Dev :=
  Dev.withBlv (Dev.put (Dev.withFrm blank { pdus := [p] }) [(pduReg 2047 0, BitVec.ofNat 32 (2 + 256 * mode)), (pduReg 2047 4, 10),
    (pduReg 2047 6, 1)]) { vt := 500000 }

theorem witness_FrameActions :
    (Inv (at' blank) ∧ blank.inFrame? 4 = none ∧ (blank.frm.caps.find? fun c => c.ring == 7) = none) ∧
    (Inv (at' (iAct (iIn .lookup))) ∧ (iAct (iIn .lookup)).inFrame? 4 = some (iIn .lookup) ∧ (iIn .lookup).stage ≠ .ready) ∧
    (Inv (at' (iAct iReady)) ∧ (iAct iReady).inFrame? 4 = some iReady ∧ iReady.stage = .ready ∧ (iAct iReady).firstOfChan iReady = true ∧
      (iAct iReady).live = true ∧ iReady.frame.status = 0 ∧ iReady.hit ≠ 2 ∧ iReady.action.testBit 20 = false ∧
      iReady.action.testBit 24 = false ∧ iReady.action.testBit 37 = false ∧ iReady.sigs = [] ∧ (iAct iReady).flag Reg.gthCtl 0 = false ∧
      iReady.frame.dmask = 2 ^ 62 ∧ 62 ≠ iReady.chan ∧
      (let f := rewrite iReady.action { iReady.frame with yellow := false }
       (iAct iReady).admits iReady.port 8 f.cls (frameCells f.data.length) = true)) ∧
    (Inv (at' iCapture) ∧ (iCapture.frm.caps.find? fun c => c.ring == 7) = some iCap ∧ iCapture.capDone iCap = true) ∧
    (Inv (at' (iPdu 1 { n := 2047, trig := true, last := some 400000 })) ∧
      (iPdu 1 { n := 2047, trig := true, last := some 400000 }).gapOver 2047 = true ∧
      (iPdu 1 { n := 2047, trig := true, last := some 400000 }).pduMode 2047 % 2 = 1 ∧
      ((iPdu 1 { n := 2047, trig := true, last := some 400000 }).pduSt 2047).trig = true) ∧
    (Inv (at' (iPdu 2 { n := 2047, last := some 400000 })) ∧ (iPdu 2 { n := 2047, last := some 400000 }).gapOver 2047 = true ∧
      (iPdu 2 { n := 2047, last := some 400000 }).cyclicDue 2047 = true) ∧
    (Inv (at' (iPdu 2 { n := 2047, last := some 400001, wait := true, trig := true })) ∧
      (iPdu 2 { n := 2047, last := some 400001, wait := true, trig := true }).gapOver 2047 = false ∧
      (iPdu 3 { n := 2047, last := some 400001, trig := true }).pduMode 2047 % 2 = 1 ∧
      (iPdu 2 { n := 2047, last := some 400001 }).gapOver 2047 = false ∧ (iPdu 2 { n := 2047, last := some 400001 }).cyclicDue 2047 = true) :=
  ⟨met (by decide +kernel), met (by decide +kernel), met (by decide +kernel), met (by decide +kernel), met (by decide +kernel), met (by decide +kernel),
    met (by decide +kernel)⟩
/-! ### Witnesses: authentication, MACsec, the key store and transmission -/

theorem some_ok {ε α : Type} {e : Except ε α} (h : e.toOption.isSome = true) : ∃ b, e = .ok b := by
  cases e with
  | error x => exact absurd h (by simp [Except.toOption])
  | ok x => exact ⟨x, rfl⟩
theorem some_error {ε α : Type} {e : Except ε α} (h : e.toOption.isSome = false) : ∃ c, e = .error c := by
  cases e with
  | error x => exact ⟨x, rfl⟩
  | ok x => exact absurd h (by simp [Except.toOption])

def jKey : KeySlot := { slot := 5, use := 1, key := List.replicate 16 3, version := 1 }
def jFrame (data : List Byte) : InFrame :=
  { id := 4, chan := 63, port := 8, frame := { kind := 1, src := 63, data := data }, stage := .verify, action := 255 * 2 ^ 38 }
/-- Profile 255 in a mode, with key slot 5 and a tag of 24 bits and no freshness. -/
def jProf (mode : Nat) (keys : List KeySlot) (data : List Byte) : Dev :=
  let d := Dev.put (Dev.withFrm blank { nextId := 20, ins := [jFrame data] })
    [(Reg.gthCtl, 1), (profReg 255 0, BitVec.ofNat 32 (mode + 5 * 2 ^ 16)), (profReg 255 2, 0x18)]
  { d with gth := { d.gth with slots := keys } }
def jBody : List Byte := List.replicate 5 7
/-- The body with the tag that a generating profile gives it. -/
def jTagged : List Byte := match (jProf 4 [jKey] jBody).genTag 255 jBody with
  | .ok b => b.2
  | .error _ => []
def jBad : Dev := jProf 1 [] (jBody ++ [0, 0, 0])
def jGood : Dev := jProf 1 [jKey] jTagged
def jGen : Dev := jProf 4 [jKey] jBody

def jSecKey : KeySlot := { slot := 6, use := 2, key := List.replicate 16 3, version := 1 }
def jSecured : SecFrame := { mac := 13, data := List.replicate 12 1 ++ [0x88, 0xE5, 0, 0, 0, 0, 0, 9] ++ List.replicate 62 4, sof := 0, frac := 0,
                             ts := 0, eofDelta := 0 }
/-- The frame without its SecTAG and ICV. -/
def jPlain : List Byte := List.replicate 12 1 ++ List.replicate 46 4
def jSec (q : SecFrame) (ctl : Word) : Dev := Dev.put (Dev.withFrm blank { sec := [q] }) [(secReg Reg.gthMsCtl 13, ctl)]
def jXfer (k o : Nat) (l : List Nat) (data : List Byte) : Xfer :=
  { id := 4, frame := { kind := k, src := 2, data := data, fmeta := leBytes 4 5 ++ List.replicate 8 0 }, inPort := 2, outPort := o, cls := 3, left := l, cells := 1 }
def jOut : Xfer := { jXfer 3 7 [109] (List.replicate 64 7) with secured := some 13 }
def jProtect (keys : List KeySlot) : Dev :=
  let d := Dev.put (Dev.withFrm blank { nextId := 10, xfers := [jOut] }) [(secReg Reg.gthMsCtl 13, 0x23), (txSaReg 13 0, 0x8006)]
  { d with gth := { d.gth with slots := keys } }

theorem witness_FrameSecurity :
    (Inv (at' blank) ∧ blank.inFrame? 4 = none ∧ (blank.frm.sec.find? fun q => q.mac == 13) = none ∧ (blank.frm.xfers.find? fun x => x.id == 4) = none) ∧
    ((Inv (at' jGood) ∧ jGood.inFrame? 4 = some (jFrame jTagged) ∧ (jFrame jTagged).stage = .verify ∧ jGood.firstOfChan (jFrame jTagged) = true ∧
      (jFrame jTagged).pdu = none ∧ jGood.authProf (jFrame jTagged) = some 255 ∧ jGood.profMode 255 = 1) ∧
      ∃ b, jGood.verifyTag 255 jTagged 0 = .ok b) ∧
    ((Inv (at' jBad) ∧ jBad.inFrame? 4 = some (jFrame (jBody ++ [0, 0, 0])) ∧ jBad.authProf (jFrame (jBody ++ [0, 0, 0])) = some 255 ∧
      jBad.profMode 255 ≠ 4 ∧ jBad.flag (profReg 255 0) 3 = false ∧ (jFrame jBody).action.testBit 20 = false) ∧
      ∃ c, jBad.verifyTag 255 (jBody ++ [0, 0, 0]) 0 = .error c) ∧
    ((Inv (at' jGen) ∧ jGen.inFrame? 4 = some (jFrame jBody) ∧ jGen.authProf (jFrame jBody) = some 255 ∧ jGen.profMode 255 = 4 ∧
      jGen.lastFv 255 + 1 < 2 ^ 64) ∧ ∃ b, jGen.genTag 255 jBody = .ok b) ∧
    (Inv (at' (jSec jSecured 0x23)) ∧ ((jSec jSecured 0x23).frm.sec.find? fun q => q.mac == 13) = some jSecured ∧
      ((jSec jSecured 0x23).secValidate 13 jSecured.data).2 = none) ∧
    (Inv (at' (jSec jSecured 3)) ∧ ((jSec jSecured 3).frm.sec.find? fun q => q.mac == 13) = some jSecured ∧
      ((jSec jSecured 3).secValidate 13 jSecured.data).2 = some jPlain ∧ (ethType jPlain).1 ≠ 0x22F0) ∧
    (Inv (at' (jProtect [])) ∧ ((jProtect []).frm.xfers.find? fun x => x.id == 4) = some jOut ∧ jOut.secured = some 13 ∧
      ((jProtect []).xferAt 4 109).isSome = true ∧ ((jProtect []).secProtect 13 jOut.frame.data).2 = none) ∧
    (Inv (at' (jProtect [jSecKey])) ∧ ((jProtect [jSecKey]).frm.xfers.find? fun x => x.id == 4) = some jOut ∧
      ((jProtect [jSecKey]).secProtect 13 jOut.frame.data).2.isSome = true) :=
  ⟨met (by decide +kernel), ⟨met (by decide +kernel), some_ok (by decide +kernel)⟩, ⟨met (by decide +kernel), some_error (by decide +kernel)⟩,
    ⟨met (by decide +kernel), some_ok (by decide +kernel)⟩, met (by decide +kernel), met (by decide +kernel), met (by decide +kernel),
    met (by decide +kernel)⟩

def jStore (op : Option Nat) : Dev := { blank with gth := { blank.gth with keyOp := op, slots := [{ jSecKey with slot := 1023 }] } }

theorem witness_KeyStore :
    (Inv (at' blank) ∧ 58 ≤ (61 : Requester).val ∧ (61 : Requester).val ≤ 61) ∧ (62 : Requester).val ≠ 63 ∧ ¬(62 : Requester).val ≤ 61 ∧
    (Inv (at' (jStore (some 7))) ∧ (jStore (some 7)).gth.keyOp = some 7 ∧ 7 < 8) ∧
    (Inv (at' (jStore none)) ∧ (jStore none).gth.keyOp = none ∧ (63 : Requester).val = 63 ∧
      ((jStore none).gth.slots.find? fun k => k.slot == 1022) = none ∧
      ((jStore none).gth.slots.find? fun k => k.slot == 1023) = some { jSecKey with slot := 1023 }) :=
  ⟨met (by decide +kernel), by decide, by decide, met (by decide +kernel), met (by decide +kernel)⟩

def jBuf (id : Nat) : CanBuf := { frame := { kind := 1, src := 2, data := [1, 2, 3], fmeta := leBytes 4 id ++ List.replicate 8 0 } }
def jCan (ctl : Word) (c : CanCh) : Dev := { Dev.put blank [(canReg Reg.pavCanCtl 63, ctl)] with can := blank.can.set 63 c }
def Dev.sends (d : Dev) (x : Xfer) : Dev := Dev.withFrm d { nextId := 10, xfers := [x] }
def jCanOut : Xfer := jXfer 1 8 [63] [1, 2]
def jIdle : Dev := Dev.sends (jCan 0x11 { sync := true, bufs := [(0, jBuf 5), (31, jBuf 4)] }) jCanOut
def jBusOff : Dev := Dev.sends (jCan 0x11 { busOff := true, txErr := 255 }) jCanOut
def jSent : Dev := jCan 0x11 { sync := true, offer := some 31, txErr := 9, bufs := [(31, jBuf 4)] }
/-- The staging area of channel 63 holds a record of three bytes, and its buffer 31 is timed. -/
def jStage : Dev := Dev.put blank [(canReg Reg.pavCanTxtimed 63, 0x80000000), (stageReg 63, 7), (stageReg 63 + 12, 3), (stageReg 63 + 16, 0x030201)]

theorem witness_CanTransmission :
    (Inv (at' blank) ∧ blank.can.length = 64 ∧ blank.xferAt 4 63 = none ∧ blank.canActive 63 = false ∧ blank.timedBuf 63 31 = false ∧
      blank.flag (canReg Reg.pavCanCtl 63) 4 = false) ∧
    (Inv (at' jBusOff) ∧ jBusOff.can.length = 64 ∧ jBusOff.xferAt 4 63 = some jCanOut ∧ (jBusOff.canCh 63).busOff = true ∧
      jBusOff.flag (canReg Reg.pavCanCtl 63) 4 = true) ∧
    (Inv (at' jIdle) ∧ jIdle.can.length = 64 ∧ jIdle.xferAt 4 63 = some jCanOut ∧ jIdle.freeBuf 63 = some 1 ∧ (jIdle.canCh 63).busOff = false ∧
      jIdle.flag (canReg Reg.pavCanCtl 63) 0 = true ∧ jIdle.canSendable 63 jCanOut.frame = true ∧
      poolBlocks jCanOut.frame.data.length ≤ jIdle.poolFree 7 ∧ jIdle.canActive 63 = true ∧
      winner (jIdle.canCh 63).bufs = some (31, jBuf 4) ∧ jIdle.tooOld (jBuf 4).frame.ts (jBuf 4).frame.maxAge = false) ∧
    (Inv (at' jSent) ∧ jSent.can.length = 64 ∧ jSent.canActive 63 = true ∧ (jSent.canCh 63).offer = some 31 ∧
      ((jSent.canCh 63).bufs.find? fun y => y.1 == 31) = some (31, jBuf 4) ∧ jSent.timedBuf 63 31 = false) ∧
    (Inv (at' jStage) ∧ jStage.can.length = 64 ∧ jStage.timedBuf 63 31 = true ∧ ({ id := 7 } : CanRecord).fmt.val < 2 ∧ canLenOk 0 3 = true ∧
      jStage.blockBytes (stageReg 63) 16 = canRecordBytes { id := 7 } ++ leBytes 4 3 ∧ jStage.blockBytes (stageReg 63 + 16) 3 = [1, 2, 3]) :=
  ⟨met (by decide +kernel), met (by decide +kernel), met (by decide +kernel), met (by decide +kernel), met (by decide +kernel)⟩

def jLinOut : Xfer := { jXfer 2 8 [95] [1, 2] with frame := { kind := 2, src := 2, data := [1, 2], fmeta := 0x7F :: List.replicate 11 0 } }
def jLin : Dev := Dev.sends (Dev.put blank [(linReg Reg.pavLinCtl 31, 1)]) jLinOut
/-- Channel 31 publishes two bytes as frame 63, and waits for an answer. -/
def jPub : Dev := { Dev.put blank [(linReg Reg.pavLinCtl 31, 1), (linEntry 31 63 0, 0x4321), (linEntry 31 63 2, 0x72)] with
                    lin := blank.lin.set 31 { header := some 4 } }
def jMaster : Dev := Dev.put blank [(linReg Reg.pavLinCtl 31, 7), (linReg Reg.pavLinSchedCfg 31, 2), (linMem 31, 5)]

theorem witness_LinChannels :
    (Inv (at' blank) ∧ blank.lin.length = 32 ∧ blank.xferAt 4 95 = none ∧ (blank.lin.getD 31 {}).header = none) ∧
    (Inv (at' jLin) ∧ jLin.lin.length = 32 ∧ jLin.xferAt 4 95 = some jLinOut ∧ jLinOut.frame.kind = 2 ∧ 1 ≤ jLinOut.frame.data.length ∧
      jLinOut.frame.data.length ≤ 8 ∧ (jLinOut.frame.fmeta.getD 0 0).toNat % 64 = 63 ∧ jLin.live = true ∧ jLin.flag (linReg Reg.pavLinCtl 31) 0 = true ∧
      jLin.flag (linReg Reg.pavLinCtl 31) 1 = false ∧ jLin.linResponse 31 63 = none) ∧
    (Inv (at' jPub) ∧ jPub.lin.length = 32 ∧ jPub.live = true ∧ jPub.linResponse 31 63 = some (true, [0x21, 0x43]) ∧
      (jPub.lin.getD 31 {}).header.isSome = true) ∧
    (Inv (at' jMaster) ∧ jMaster.lin.length = 32 ∧ jMaster.live = true ∧ jMaster.flag (linReg Reg.pavLinCtl 31) 1 = true ∧
      jMaster.flag (linReg Reg.pavLinCtl 31) 2 = true) :=
  ⟨met (by decide +kernel), met (by decide +kernel), met (by decide +kernel), met (by decide +kernel)⟩

def jEth : Frame := { kind := 3, src := 2, data := List.replicate 40 7 }
def jEthOut : Xfer := jXfer 3 7 [109] [1, 2]
def jMac : Dev := Dev.sends { Dev.put blank [(ethReg Reg.ethCtl 13, 1)] with mac := blank.mac.set 13 { link := true, queue := [(3, jEth)] } } jEthOut
/-- MAC 13 with its gate list running, at a vehicle time. -/
def jTas (run : Bool) (vt : Nat) : Dev :=
  Dev.withBlv { Dev.put blank [(ethReg Reg.ethTasCtl 13, 0x101), (ethReg Reg.ethTasBaseLo 13, 5000), (ethReg Reg.ethTasCycle 13, 1000),
    (0xBF_1000 + 0x800 * 13, 5)] with mac := blank.mac.set 13 { tasRun := run } } { vt := vt }
def jTunOut (fmt : Nat) : Xfer :=
  { jXfer 1 7 [123] [1, 2] with frame := { kind := 1, src := 2, data := [1, 2], fmeta := leBytes 4 5 ++ leBytes 1 fmt ++ List.replicate 7 0 } }
def jTun (fmt : Nat) : Dev := Dev.withBlv (Dev.sends (Dev.put blank [(tunReg Reg.ethTunCtl 3, 1)]) (jTunOut fmt)) { vt := 640000 }
def jFull : Dev := { Dev.withBlv blank { vt := 640000 } with tun := blank.tun.set 3 { msgs := [[1, 2, 3, 4]] } }

theorem witness_EthernetTransmission :
    (Inv (at' jMac) ∧ jMac.mac.length = 15 ∧ jMac.tun.length = 4 ∧ jMac.xferAt 4 109 = some jEthOut ∧ jEthOut.secured = none ∧ jEthOut.frame.kind = 3 ∧
      jMac.ethReady 13 = true ∧ (jMac.creditNow 13).ethPick 13 = some (3, jEth) ∧ jMac.tooOld jEth.ts jEth.maxAge = false) ∧
    (Inv (at' blank) ∧ blank.mac.length = 15 ∧ blank.tun.length = 4 ∧ blank.ethReady 13 = false ∧ blank.flag (ethReg Reg.ethTasCtl 13) 0 = false) ∧
    (Inv (at' (jTas false 4999)) ∧ (jTas false 4999).flag (ethReg Reg.ethTasCtl 13) 0 = true ∧ (jTas false 4999).mac.length = 15 ∧
      (jTas false 4999).blv.vt < (jTas false 4999).rd64 (ethReg Reg.ethTasBaseLo 13)) ∧
    (Inv (at' (jTas true 6400)) ∧ (jTas true 6400).rd64 (ethReg Reg.ethTasBaseLo 13) ≤ (jTas true 6400).blv.vt ∧
      ((jTas true 6400).mac.getD 13 {}).tasRun = true ∧
      (((jTas true 6400).tasPieces 13).find? fun p => decide (p.2.1 ≤ (jTas true 6400).tasOffset 13) &&
        decide ((jTas true 6400).tasOffset 13 < p.2.2)) = some (5, 0, 1000)) ∧
    (Inv (at' (jTun 2)) ∧ (jTun 2).xferAt 4 123 = some (jTunOut 2) ∧ (jTun 2).flag (tunReg Reg.ethTunCtl 3) 0 = true ∧ (jTunOut 2).frame.kind = 1 ∧
      (jTunOut 2).frame.canFmt = 2) ∧
    (Inv (at' (jTun 0)) ∧ (jTun 0).xferAt 4 123 = some (jTunOut 0) ∧ (jTunOut 0).frame.canFmt ≠ 2 ∧
      (jTun 0).avtpHead 3 + ((jTun 0).tun.getD 3 {}).msgs.flatten.length + (acfMessage ((jTun 0).flag (tunReg Reg.ethTunCtl 3) 3)
        (jTunOut 0).frame).length ≤ 64 ∧ ((jTun 0).tun.getD 3 {}).msgs = [] ∧
      ((jTun 0).tun.getD 3 {}).since + 1000 * min 1000 ((jTun 0).fld (tunReg Reg.ethTunCtl 3) 19 10) ≤ (jTun 0).blv.vt) ∧
    (Inv (at' jFull) ∧ (jFull.tun.getD 3 {}).msgs ≠ [] ∧
      (jFull.tun.getD 3 {}).since + 1000 * min 1000 (jFull.fld (tunReg Reg.ethTunCtl 3) 19 10) ≤ jFull.blv.vt) :=
  ⟨met (by decide +kernel), met (by decide +kernel), met (by decide +kernel), met (by decide +kernel), met (by decide +kernel), met (by decide +kernel),
    met (by decide +kernel)⟩

def jBus : Dev := { Dev.put blank [(Reg.lbuCtl, 0x1C31)] with lbu := { blank.lbu with requests := [.lbm0] } }
def jLostOut : Xfer := { jCanOut with lost := 2, lostPlane := 1 }

theorem witness_PergolaEvents :
    (Inv (at' jBus) ∧ jBus.bidders .lbm0 = true ∧ BusOwner.lbm0 ∉ jBus.lbu.promoted) ∧ (Inv (at' blank) ∧ blank.bidders .lbm0 = false) ∧
    (Inv (at' jIdle) ∧ (jIdle.frm.xfers.find? fun y => y.id == 4 && !y.promoted) = some jCanOut ∧
      (jIdle.frm.xfers.find? fun y => y.id == 4) = some jCanOut ∧ jCanOut.lost = 0) ∧
    (Inv (at' (Dev.sends blank jLostOut)) ∧ ((Dev.sends blank jLostOut).frm.xfers.find? fun y => y.id == 4) = some jLostOut ∧ jLostOut.lost ≠ 0) ∧
    (Inv (at' (Dev.put blank [(Reg.pglCtl, 3)])) ∧ ((Dev.put blank [(Reg.pglCtl, 3)]).flag Reg.pglCtl (1 : Fin 2) &&
      (Dev.put blank [(Reg.pglCtl, 3)]).dep.planeOk.testBit (1 : Fin 2)) = true) ∧
    (Inv (at' blank) ∧ (blank.flag Reg.pglCtl (1 : Fin 2) && blank.dep.planeOk.testBit (1 : Fin 2)) = false) :=
  ⟨met (by decide +kernel), met (by decide +kernel), met (by decide +kernel), met (by decide +kernel), met (by decide +kernel), met (by decide +kernel)⟩
/-! ### Witnesses: table commands, wake-up, power items and checkers -/

/-- A command of the Trellis on the key, with an entry in its bucket or none. -/
def kCmd (op : Nat) (e : Nat) : Dev :=
  let d := Dev.put blank ((List.range 8).map fun k => (0x64_0000 + 4 * k, BitVec.ofNat 32 (iEntry 0 / 2 ^ (32 * k))))
  { d.setNum iSlot 32 e with trl := { cmd := some (op, false) } }

theorem witness_TableCommands :
    (Inv (at' blank) ∧ blank.trl.cmd = none ∧ blank.shadowOn = false) ∧
    (Inv (at' (kCmd 1 0)) ∧ (kCmd 1 0).trl.cmd = some (1, false) ∧ (kCmd 1 0).shadowOn = false ∧ (kCmd 1 0).findIn 0 iKey = none ∧
      375 = ((kCmd 1 0).buckets 0 iKey).1 ∧ (kCmd 1 0).slotIn 0 375 entFree = some 0 ∧ leBytes 16 (entKey (kCmd 1 0).cmdEntry) = iKey ∧
      (kCmd 1 0).slotAddr 0 375 0 = iSlot) ∧
    (Inv (at' (kCmd 1 (iEntry 0))) ∧ (kCmd 1 (iEntry 0)).findIn 0 iKey = some (375, 0)) ∧
    (Inv (at' (kCmd 2 0)) ∧ (kCmd 2 0).trl.cmd = some (2, false) ∧ (kCmd 2 0).findIn 0 iKey = none) ∧
    (Inv (at' (kCmd 2 (iEntry 1))) ∧ (kCmd 2 (iEntry 1)).findIn 0 iKey = some (375, 0) ∧ entLock ((kCmd 2 (iEntry 1)).entAt iSlot) = true) ∧
    (Inv (at' (kCmd 2 (iEntry 0))) ∧ (kCmd 2 (iEntry 0)).findIn 0 iKey = some (375, 0) ∧ entLock ((kCmd 2 (iEntry 0)).entAt iSlot) = false) ∧
    (Inv (at' (kCmd 3 0)) ∧ (kCmd 3 0).trl.cmd = some (3, false) ∧ (kCmd 3 0).findIn 0 iKey = none) ∧
    (Inv (at' (kCmd 3 (iEntry 0))) ∧ (kCmd 3 (iEntry 0)).findIn 0 iKey = some (375, 0)) :=
  ⟨met (by decide +kernel), met (by decide +kernel), met (by decide +kernel), met (by decide +kernel), met (by decide +kernel), met (by decide +kernel),
    met (by decide +kernel), met (by decide +kernel)⟩

/-- The sweeper stands at a bucket whose entry in slot 3 has flags. -/
def kSweep (flags : Nat) : Dev :=
  { (Dev.put blank [(Reg.trlAgePeriod, 0x1000)]).setNum (iSlot + 96) 32 (leNat iKey + 2 ^ 128 * 5 + 2 ^ 240 * (3 + flags)) with trl := { sweep := 375 } }
/-- The Arcade owns the rehash, with a shadow area, and a frame of a generation is inside. -/
def kGen (gen : Nat) : Dev :=
  Dev.sends (Dev.put blank [(Reg.trlCtrl, 0x12), (Reg.winDramSize, 1)])
    { jCanOut with frame := { jCanOut.frame with gen := gen }, left := [], cells := 0 }

theorem witness_TableUpkeep :
    (Inv (at' blank) ∧ blank.flag Reg.trlAgePeriod 12 = false ∧ blank.shadowOn = false) ∧
    (Inv (at' (kSweep 64)) ∧ (kSweep 64).flag Reg.trlAgePeriod 12 = true ∧ (kSweep 64).standby = false ∧ (kSweep 64).shadowOn = false ∧
      (kSweep 64).slotAddr 0 (375 % (kSweep 64).areaNb 0) 3 = iSlot + 96 ∧ entLock ((kSweep 64).entAt (iSlot + 96)) = true) ∧
    (Inv (at' (kSweep 16)) ∧ entValid ((kSweep 16).entAt (iSlot + 96)) = true ∧ entLock ((kSweep 16).entAt (iSlot + 96)) = false ∧
      typeOk (entType ((kSweep 16).entAt (iSlot + 96))) = true ∧ entHit ((kSweep 16).entAt (iSlot + 96)) = true) ∧
    (Inv (at' (kSweep 0)) ∧ entValid ((kSweep 0).entAt (iSlot + 96)) = true ∧ entHit ((kSweep 0).entAt (iSlot + 96)) = false ∧
      entAge ((kSweep 0).entAt (iSlot + 96)) = false) ∧
    (Inv (at' (kSweep 32)) ∧ entValid ((kSweep 32).entAt (iSlot + 96)) = true ∧ entHit ((kSweep 32).entAt (iSlot + 96)) = false ∧
      entAge ((kSweep 32).entAt (iSlot + 96)) = true) ∧
    (Inv (at' (kGen 1)) ∧ (kGen 1).genFree = false ∧ (kGen 1).ownerAdmits (60 : Requester).val = false ∧
      (kGen 1).ownerAdmits (3 : Requester).val = true) ∧
    (Inv (at' (kGen 0)) ∧ (kGen 0).genFree = true ∧ (kGen 0).ownerAdmits (3 : Requester).val = true ∧ (kGen 0).shadowOn = true ∧
      (kGen 0).areaOk 0 = true) ∧
    (Inv (at' (Dev.put blank [(Reg.trlCtrl, 2)])) ∧ (Dev.put blank [(Reg.trlCtrl, 2)]).ownerAdmits (3 : Requester).val = true ∧
      (Dev.put blank [(Reg.trlCtrl, 2)]).shadowOn = false) :=
  ⟨met (by decide +kernel), met (by decide +kernel), met (by decide +kernel), met (by decide +kernel), met (by decide +kernel), met (by decide +kernel),
    met (by decide +kernel), met (by decide +kernel)⟩

/-- Every kind of wake-up is enabled on the last input of its kind. -/
def kWake (pins : Word) (mode : WktMode) (entered : Option Nat) : Dev :=
  { Dev.put blank [(Reg.wktCanCfg + 252, 0xFF03), (Reg.wktLinCfg + 124, 0xF01), (Reg.wktPhyCfg, 0x2000), (Reg.wktPinCfg, pins),
      (0xC4_13E0, 5), (0xC4_13E4, 0x1FFFFFFF), (0xC4_13E8, 0x3F20), (Reg.wktTimer, 10),
      (Reg.wktPlan, 0xFF), (Reg.wktPlan + 4, 0xFF), (Reg.wktAonTime, 100)] with wkt := { blank.wkt with mode := mode, entered := entered } }
def kIdle : Dev := kWake 0xFF0080 .standby (some 90)
def kLate : Dev := kWake 0xFF0080 .standby none
def kDead : Dev := kWake 0 .standby none

theorem witness_WakeEvents :
    (Inv (at' kIdle) ∧ kIdle.wkt.events.length < 32 ∧ kIdle.inputCounts false = true ∧ kIdle.flag (Reg.wktCanCfg + 4 * (63 : Fin 64)) 0 = true ∧
      max 1 (kIdle.fld (Reg.wktCanCfg + 4 * (63 : Fin 64)) 8 8) ≤ 255 ∧ kIdle.flag (Reg.wktLinCfg + 4 * (31 : Fin 32)) 0 = true ∧
      10 * kIdle.fld (Reg.wktLinCfg + 4 * (31 : Fin 32)) 8 8 ≤ 150 ∧ 100 * kIdle.fld Reg.wktPinCfg 16 8 ≤ 25500 ∧
      kIdle.flag Reg.wktPhyCfg (13 : Fin 14) = true ∧ kIdle.flag Reg.wktPhyCfg (16 + (13 : Fin 14)) = false ∧
      kIdle.flag Reg.wktPinCfg (7 : Fin 8) = true ∧ kIdle.flag Reg.wktPinCfg (8 + (7 : Fin 8)) = false) ∧
    (Inv (at' kIdle) ∧ kIdle.inputCounts true = false) ∧
    (Inv (at' kIdle) ∧ kIdle.flag (Reg.wktCanCfg + 4 * (63 : Fin 64)) 1 = true ∧ kIdle.fld (Reg.wktCanCfg + 4 * (63 : Fin 64)) 2 2 = (0 : Fin 4).val ∧
      ((List.range 64).find? fun p => kIdle.patMatches p 63 5 false false 3 [1, 2, 3]) = some 31 ∧
      ((List.range 64).find? fun p => kIdle.patMatches p 63 6 false false 3 [1, 2, 3]) = none) ∧
    (Inv (at' kIdle) ∧ kIdle.wkt.entered = some 90 ∧ kIdle.fld Reg.wktTimer 0 32 ≠ 0 ∧ kIdle.wkt.mode = .standby ∧
      90 + kIdle.fld Reg.wktTimer 0 32 ≤ kIdle.rd64 Reg.wktAonTime) ∧
    (Inv (at' kLate) ∧ kLate.wkt.entered = none ∧ kLate.wkt.events.length < 32) :=
  ⟨met (by decide +kernel), met (by decide +kernel), met (by decide +kernel), met (by decide +kernel), met (by decide +kernel)⟩

/-- One item is at `i`, with the others as at reset, in a state of the Wicket. -/
def kItem (j : Nat) (i : Item) (w : Wkt) : Dev := { Dev.put blank [(Reg.wktItemCfg + 4 * j, 0x405), (Reg.wktWcuBudget, 10)] with wkt := { w with items := w.items.set j i } }
def kWanted : Item := { on := false, ready := false, wanted := true }
def kFits : Dev := kItem 15 kWanted blank.wkt
def kFull : Dev := kItem 15 kWanted { blank.wkt with starts := [(0, 10)] }
def kWaited : Dev := kItem 15 { kWanted with waited := true } { blank.wkt with starts := [(0, 10)] }
def kSettled (j : Nat) (now : Nat) : Dev := kItem j { on := true, ready := false, wanted := true } { blank.wkt with now := now }
/-- The items from `n` on are off, and the rest is being switched off. -/
def kOff (n : Nat) : Dev :=
  { blank with wkt := { blank.wkt with mode := .entering, target := .sleep,
                                       items := List.replicate n {} ++ List.replicate (16 - n) { on := false, ready := false, wanted := false } } }

theorem witness_PowerItems :
    (Inv (at' blank) ∧ blank.nextItem = none ∧ blank.wkt.mode = .run ∧ blank.wkt.events = [] ∧ (63 : Requester).val = 63 ∧ (62 : Requester).val ≠ 63) ∧
    (Inv (at' kFits) ∧ kFits.nextItem = some 15 ∧ kFits.wcuUsed + min (kFits.itemCost 15) kFits.wcuBudget ≤ kFits.wcuBudget) ∧
    (Inv (at' kFull) ∧ kFull.nextItem = some 15 ∧ kFull.wcuBudget < kFull.wcuUsed + min (kFull.itemCost 15) kFull.wcuBudget ∧
      (kFull.item 15).waited = false) ∧
    (Inv (at' kWaited) ∧ kWaited.nextItem = some 15 ∧ kWaited.wcuBudget < kWaited.wcuUsed + min (kWaited.itemCost 15) kWaited.wcuBudget ∧
      (kWaited.item 15).waited = true) ∧
    (Inv (at' (kSettled 15 0)) ∧ (kSettled 15 0).wkt.now < ((kSettled 15 0).item 15).since + (kSettled 15 0).itemSettle 15) ∧
    (Inv (at' (kSettled 15 200000)) ∧ ((kSettled 15 200000).item 15).on = true ∧ ((kSettled 15 200000).item 15).ready = false ∧
      ((kSettled 15 200000).item 15).since + (kSettled 15 200000).itemSettle 15 ≤ (kSettled 15 200000).wkt.now) ∧
    ((Inv (at' (kSettled 9 200000)) ∧ ((kSettled 9 200000).item 9).on = true ∧ ((kSettled 9 200000).item 9).ready = false ∧
      ((kSettled 9 200000).item 9).since + (kSettled 9 200000).itemSettle 9 ≤ (kSettled 9 200000).wkt.now ∧
      (kSettled 9 200000).wkt.mode ≠ .standby) ∧ (kSettled 9 200000).noHeader) ∧
    (Inv (at' (kItem 4 {} { blank.wkt with events := [[1]] })) ∧ (kItem 4 {} { blank.wkt with events := [[1]] }).wkt.mode = .run ∧
      (kItem 4 {} { blank.wkt with events := [[1]] }).wkt.events ≠ []) ∧
    (Inv (at' (kOff 0)) ∧ (kOff 0).wkt.mode = .entering ∧ (kOff 0).nextOff = none) ∧
    (Inv (at' (kOff 8)) ∧ (kOff 8).wkt.mode = .entering ∧ (kOff 8).nextOff = some 7) :=
  ⟨met (by decide +kernel), met (by decide +kernel), met (by decide +kernel), met (by decide +kernel), met (by decide +kernel), met (by decide +kernel),
    ⟨met (by decide +kernel), noHeader_of (by decide +kernel)⟩, met (by decide +kernel), met (by decide +kernel), met (by decide +kernel)⟩

def kDep (f : Dep → Dep) (d : Dev) : Dev := { d with dep := f d.dep }
def kCheck (f : Dep → Dep) : Dev := kDep f (Dev.put blank [(Reg.depScrubCfg, 0x101), (Reg.ldgStatus, 0x15)])
def kSpares : List SpareUse := (List.range 5).map fun k => { kind := 5, unit := k, spare := 0 }
def kFound : Dev := kCheck fun p => { p with scrubbed := [eccDetail 14 7] }

theorem witness_CheckersAndSpares :
    (Inv (at' (kCheck id)) ∧ (kCheck id).dep.planeOk < 4 ∧ (kCheck id).fld Reg.ldgStatus 3 3 = 2 ∧ unitExists 5 6 = true ∧
      (5, 6) ∉ (kCheck id).dep.unitFaults ∧ unitExists 9 4000 = false ∧
      (kCheck id).fld Reg.depScrubCfg 0 8 ≠ 0 ∧ (kCheck id).fld Reg.depScrubCfg 8 16 ≠ 0 ∧ eccDetail 14 7 ∉ (kCheck id).dep.scrubbed ∧
      (kCheck id).spareFree 5 6 = true ∧ (kCheck id).dep.mapUsed < 64) ∧
    (Inv (at' blank) ∧ blank.fld Reg.ldgStatus 3 3 ≠ 2 ∧ blank.fld Reg.depScrubCfg 8 16 = 0 ∧ blank.fld Reg.depScrubCfg 0 8 = 0) ∧
    (Inv (at' kFound) ∧ eccDetail 14 7 ∈ kFound.dep.scrubbed ∧ kFound.fld Reg.depScrubCfg 0 8 ≠ 0) ∧
    (Inv (at' (kCheck fun p => { p with spares := kSpares })) ∧ (kCheck fun p => { p with spares := kSpares }).spareFree 5 6 = false) :=
  ⟨met (by decide +kernel), met (by decide +kernel), met (by decide +kernel), met (by decide +kernel)⟩

theorem witness_SafeState :
    Inv (at' (Dev.put blank [(Reg.depFaultAct, 8)])) ∧ (Dev.put blank [(Reg.depFaultAct, 8)]).dep.lockstep = false ∧
      (Dev.put blank [(Reg.depFaultAct, 8)]).hub.damaged = [] ∧ (Dev.put blank [(Reg.depFaultAct, 8)]).fld Reg.depFaultAct 2 2 = 2 ∧
      (Dev.put blank [(Reg.depFaultAct, 8)]).peerStandby = false ∧ (Dev.put blank [(Reg.depFaultAct, 8)]).dep.safe = false :=
  met (by decide +kernel)
/-! ### Witnesses: twins, the mailbox and the Kiosk -/

def lView : Dev := Dev.put blank [(Reg.ldgStatus, 5)]
def lTwin (t : Twin) : Dev := { Dev.put blank [(Reg.ldgStatus, 5)] with twin := t }

theorem witness_TwinDecisions :
    (Inv (at' (lTwin { en := true, state := .starting })) ∧ (lTwin { en := true, state := .starting }).twin.state = .starting ∧
      (lTwin { en := true, state := .starting }).fld Reg.ldgStatus 0 3 = 5) ∧
    (Inv (at' (lTwin { en := true, state := .unsync, tieRound := some 1 })) ∧
      (lTwin { en := true, state := .unsync, tieRound := some 1 }).twin.tieRound.isSome = true) ∧
    (Inv (at' blank) ∧ blank.twin.state ≠ .starting ∧ blank.twin.tieRound = none ∧ blank.twin.state ≠ .active ∧ blank.twin.state ≠ .standby ∧
      blank.twin.handover = false ∧ blank.twin.prot = false) ∧
    (Inv (at' (lTwin { en := true, state := .active })) ∧ (lTwin { en := true, state := .active }).twin.prefer = false) ∧
    (Inv (at' (lTwin { en := true, state := .active, prefer := true })) ∧
      (lTwin { en := true, state := .active, prefer := true }).twin.state = .active) ∧
    (Inv (at' (lTwin { en := true, state := .standby })) ∧ (lTwin { en := true, state := .standby }).twin.state = .standby) ∧
    (Inv (at' (lTwin { en := true, state := .active, handover := true })) ∧
      (lTwin { en := true, state := .active, handover := true }).twin.handover = true) :=
  ⟨met (by decide +kernel), met (by decide +kernel), met (by decide +kernel), met (by decide +kernel), met (by decide +kernel), met (by decide +kernel),
    met (by decide +kernel)⟩

def wTwin (mirrored started : Bool) : Req :=
  { req .write true (.iw 0) 3 .sram 0x1_0000_0004 4 with data := allOn [1, 2, 3, 4], mirrored := mirrored, startedSent := started }
/-- The ACTIVE twin streams on link 4, with a write in flight. -/
def lStream (r : Req) : Dev :=
  { Dev.linkAt (Dev.holds lView r) 4 { state := .up } with twin := { en := true, state := .active, streaming := true, sendSeq := 65535 } }

theorem witness_StreamSending :
    (Inv (at' lView) ∧ lView.itm.length = 5 ∧ lView.twin.streaming = false ∧ lView.twin.state ≠ .active ∧ lView.failDrive = false) ∧
    (Inv (at' (lStream (wTwin false false))) ∧ (lStream (wTwin false false)).itm.length = 5 ∧
      (lStream (wTwin false false)).twin.streaming = true ∧ (lStream (wTwin false false)).twin.state = .active ∧
      (lStream (wTwin false false)).roleLink 4 = some 4 ∧ (lStream (wTwin false false)).twinLinkUp = true ∧
      (lStream (wTwin false false)).req? 5 = some (wTwin false false) ∧ 5 < (lStream (wTwin false false)).fab.nextSeq ∧
      (wTwin false false).mirrored = false ∧ (lStream (wTwin false false)).failDrive = false) ∧
    (Inv (at' (lStream (wTwin true false))) ∧ (lStream (wTwin true false)).req? 5 = some (wTwin true false) ∧ (wTwin true false).startedSent = false) ∧
    (Inv (at' (lStream (wTwin true true))) ∧ (lStream (wTwin true true)).req? 5 = some (wTwin true true) ∧ (wTwin true true).mirrored = true ∧
      (wTwin true true).startedSent = true) ∧ (Inv (at' bSafe) ∧ bSafe.failDrive = true) :=
  ⟨met (by decide +kernel), met (by decide +kernel), met (by decide +kernel), met (by decide +kernel), met (by decide +kernel)⟩

def lMirror : MirrorEntry := { path := 1, idx := 3, agent := 3, orig := 0, win := 0, ga := 0x1_0000_0004, data := allOn [1, 2, 3, 4] }
def lFollow : Dev := lTwin { state := .standby, recvAny := true, recvSeq := 65535, mirror := [lMirror] }

theorem witness_StreamReceiving :
    ((Inv (at' lFollow) ∧ lMirror.started = false ∧ (∀ e ∈ lFollow.blv.events, e.slot ≠ 4095) ∧ (Reg.intSw, (0xFFFF : Word)) ∈ coreHeld ∧
      mirroredBlock (blockOf Reg.intSw) = true ∧ 0x1000_0000 ≤ 0x1000_0000) ∧ lFollow.inSequence 65535) ∧
    (Inv (at' lFollow) ∧ lFollow.twin.state = .standby ∧ lFollow.twin.recvAny = true ∧ lFollow.twin.recvSeq ≠ 65534 % 65536) ∧
    (Inv (at' blank) ∧ blank.twin.state ≠ .syncing ∧ blank.twin.state ≠ .standby) :=
  ⟨⟨met (by decide +kernel), Or.inr rfl, Or.inr rfl⟩, met (by decide +kernel), met (by decide +kernel)⟩

/-- A mailbox command waits, with its parameters. -/
def mbx (cmd : Nat) (params : List Byte) : MbxCmd := { cmd := cmd, owner := 3, addr := 0x1_0000_0100, params := params, late := false }
def lCmd (c : MbxCmd) : Dev := { Dev.put blank [(Reg.ldgStatus, 5)] with ldg := { blank.ldg with mbx := some c } }
/-- A parameter block of two words and a GA. -/
def par (a b ga : Nat) : List Byte := leBytes 4 a ++ leBytes 4 b ++ leBytes 6 ga
def lRuns (d : Dev) (c : MbxCmd) : Bool := d.lodgeRuns && (d.ldg.mbx == some c) && !d.ldg.recovery
def lCal : MbxCmd := { mbx 8 (par 0 0x7000 0) with late := true }
/-- The Arcade has failed. -/
def lFailed : Dev := Dev.put (lCmd (mbx 10 [])) [(Reg.ldgStatus, 0x25)]

theorem witness_MailboxServices :
    (Inv (at' (lCmd (mbx 1 []))) ∧ lRuns (lCmd (mbx 1 [])) (mbx 1 []) = true ∧ ((configOf (lCmd (mbx 1 [])).ldg.config).getD []).length = 0) ∧
    (Inv (at' (lCmd (mbx 2 (par 0 65536 0x1_0000_0200)))) ∧ (mbx 2 (par 0 65536 0x1_0000_0200)).num 4 4 ≤ 65536 ∧
      (lCmd (mbx 2 (par 0 65536 0x1_0000_0200))).ownMemory ((mbx 2 (par 0 65536 0x1_0000_0200)).num 8 6) 65536 = some 0x1_0000_0200 ∧
      0x1_0000_0100 + 36 ≤ 0x1_0000_0200 ∧ (lCmd (mbx 2 (par 0 65536 0x1_0000_0200))).bad = []) ∧
    (65536 < (mbx 2 (par 0 65537 0)).num 4 4) ∧ ((mbx 3 (par 1 4096 0)).num 0 4 % 4096 ≠ 0) ∧
    ((mbx 3 (par 0xE000 4096 0)).num 0 4 < 0xF000 ∧ 0x1000 < (mbx 3 (par 0xE000 4096 0)).num 0 4 + 4096) ∧
    (Inv (at' (lCmd (mbx 3 (par 0x20000 4096 0x7FFF_0000_0000)))) ∧ (mbx 3 (par 0x20000 4096 0x7FFF_0000_0000)).num 0 4 = 0x20000 ∧
      (lCmd (mbx 3 (par 0x20000 4096 0x7FFF_0000_0000))).ownMemory ((mbx 3 (par 0x20000 4096 0x7FFF_0000_0000)).num 8 6) 4096 = none ∧
      (List.replicate 4096 (9 : Byte)).length = 4096) ∧
    (4 ≤ (mbx 4 [4]).num 0 1) ∧ (Inv (at' (lCmd (mbx 4 [3]))) ∧ (lCmd (mbx 4 [3])).lodgeRuns = true ∧ (mbx 4 [3]).num 0 1 < 4) ∧
    (Inv (at' (lCmd (mbx 5 (leBytes 6 0x7FFF_0000_0000)))) ∧
      (lCmd (mbx 5 (leBytes 6 0x7FFF_0000_0000))).ownMemory ((mbx 5 (leBytes 6 0x7FFF_0000_0000)).num 0 6) 64 = none ∧
      (lCmd (mbx 6 (leBytes 6 0x7FFF_0000_0000))).ownMemory ((mbx 6 (leBytes 6 0x7FFF_0000_0000)).num 0 6) 112 = none ∧
      ((List.replicate 112 (2 : Byte)).getD 67 0).toNat ≠ 1 ∧ (lCmd (mbx 7 [])).ldg.mbx = some (mbx 7 [])) ∧
    (0x4000 < (mbx 8 (par 0 0x7000 0x4001)).num 8 4) ∧ (lCal.num 8 4 ≤ 0x4000 ∧ lCal.late = true) ∧
    (Inv (at' (lCmd (mbx 8 (par 0 0x7000 0)))) ∧ (mbx 8 (par 0 0x7000 0)).num 8 4 = 0 ∧ (lCmd (mbx 8 (par 0 0x7000 0))).userCal? = none) ∧
    ((mbx 9 [3]).num 0 1 ≠ 1 ∧ (mbx 9 [3]).num 0 1 ≠ 2) ∧
    (Inv (at' (lCmd (mbx 9 [1]))) ∧ (mbx 9 [1]).num 0 1 = 1 ∧ (lCmd (mbx 9 [1])).txEmpty = true ∧ (lCmd (mbx 9 [1])).pathsEmpty = true ∧
      (lCmd (mbx 9 [1])).fab.cwb = [] ∧ (lCmd (mbx 9 [1])).fab.held = [] ∧ (lCmd (mbx 9 [1])).lbu.draining = false ∧
      (lCmd (mbx 9 [1])).wkt.mode = .run ∧ (lCmd (mbx 9 [1])).wkt.events = []) ∧
    (Inv (at' (lCmd (mbx 10 []))) ∧ (lCmd (mbx 10 [])).fld Reg.ldgStatus 3 3 ≠ 4) ∧ (Inv (at' lFailed) ∧ lFailed.fld Reg.ldgStatus 3 3 = 4) :=
  ⟨met (by decide +kernel), met (by decide +kernel), by decide +kernel, by decide +kernel, by decide +kernel, met (by decide +kernel), by decide +kernel,
    met (by decide +kernel), met (by decide +kernel), by decide +kernel, by decide +kernel, met (by decide +kernel), by decide +kernel,
    met (by decide +kernel), met (by decide +kernel), met (by decide +kernel)⟩

def lServ : Dev := { Dev.put blank [(Reg.ldgStatus, 0x45)] with elog := { entries := [entry] } }
def lAsleep : Dev := { lServ with wkt := { lServ.wkt with items := lServ.wkt.items.set 9 { ready := false } } }

theorem witness_KioskCommands :
    (Inv (at' lView) ∧ lView.lodgeRuns = true ∧ lView.fld Reg.ldgStatus 6 2 = 0 ∧ lView.ldg.recovery = false ∧ (15 : Fin 32).val < winCount .lw ∧
      winCount .lw ≤ (16 : Fin 32).val ∧ lView.trl.cmd = none ∧ lView.findIn lView.trl.active iKey = none ∧ iKey.length = 16 ∧
      lView.elog.entries = []) ∧
    (Inv (at' lServ) ∧ lServ.lodgeRuns = true ∧ 1 ≤ lServ.fld Reg.ldgStatus 6 2 ∧ lServ.twin.prot = false ∧ lServ.spareFree 8 47 = true ∧
      lServ.elog.entries = [entry] ∧ lServ.ldg.mbx = none ∧ lServ.ldg.warm = false) ∧
    (Inv (at' lAsleep) ∧ lAsleep.lodgeRuns = true ∧ 1 ≤ lAsleep.fld Reg.ldgStatus 6 2 ∧ lAsleep.lodgeReady = false) :=
  ⟨met (by decide +kernel), met (by decide +kernel), met (by decide +kernel)⟩

/-- A challenge stands, with the service key in slot 5. -/
def lUnlock : Dev := { lView with ldg := { lView.ldg with challenge := some 77, svcSlot := some 5 }, gth := { lView.gth with slots := [jKey] } }
def lAnswer : BitVec 64 := BitVec.ofNat 64 ((lUnlock.kioskExpects 77).getD 0)
def lOut : Dev := Dev.put blank [(Reg.ldgStatus, 0x105)]

theorem witness_KioskSessions :
    (Inv (at' lOut) ∧ lOut.lodgeRuns = true ∧ lOut.flag Reg.ldgStatus 8 = true) ∧
    (Inv (at' lUnlock) ∧ lUnlock.lodgeRuns = true ∧ lUnlock.flag Reg.ldgStatus 8 = false ∧ lUnlock.ldg.challenge = some 77 ∧
      lUnlock.kioskExpects 77 = some lAnswer.toNat ∧ lUnlock.kioskExpects 77 ≠ some (lAnswer + 1).toNat) ∧
    (Inv (at' lServ) ∧ lServ.fld Reg.ldgStatus 6 2 = 1) ∧ (Inv (at' lView) ∧ lView.fld Reg.ldgStatus 6 2 ≠ 1) :=
  ⟨met (by decide +kernel), met (by decide +kernel), met (by decide +kernel), met (by decide +kernel)⟩
/-! ### Witnesses: the whole block -/

def zReads (c : Instr) : State := { pending := [c, .resultPop], dev := blank }

theorem witness_StepTakesTheFront : (zReads .resultPop).pending = .resultPop :: [.resultPop] ∧ (at' blank).pending = [] := ⟨rfl, rfl⟩

theorem witness_CommandsAnswer : storesMemory .resultPop = false ∧ storesMemory .trlInsert = true := ⟨rfl, rfl⟩

theorem witness_StepsKeepSound : Inv (zReads .resultPop) ∧ step (zReads .resultPop) = exec .resultPop { pending := [.resultPop], dev := blank } :=
  ⟨inv_of_okB (by decide +kernel), rfl⟩

def zLow (f : WinFam) (v : Word) : Bool := fieldOf v 1 5 == sizeLimit f && !v.getLsbD 0 && !v.getLsbD 10

theorem witness_WindowSizeLimits :
    (Inv (at' blank) ∧ 15 < winCount .lw ∧ blank.writeDenied (3 : Requester).val (winBase .lw 15) 0x2A = none ∧ sizeLimit .lw < fieldOf 0x2A 1 5) ∧
    (Inv (at' blank) ∧ blank.writeDenied (3 : Requester).val (winBase .lw 15) 0x28 = none ∧ zLow .lw 0x28 = true ∧ blank.winEn .lw 15 = false) ∧
    (Inv (at' blank) ∧ 31 < winCount .iw ∧ zLow .iw 0x30 = true ∧ sizeLimit .iw < fieldOf 0x32 1 5) :=
  ⟨met (by decide +kernel), met (by decide +kernel), met (by decide +kernel)⟩

def zBus : Dev := Dev.put blank [(Reg.lbuCtl, 0x31)]

theorem witness_RunningBusSettings :
    Inv (at' zBus) ∧ zBus.flag Reg.lbuCtl 0 = true ∧ zBus.writeDenied (3 : Requester).val Reg.lbuCtl 0x11 = none ∧
      (zBus.rd Reg.lbuCtl ^^^ 0x11) &&& lbuCtlBits &&& ~~~lbuRunBits ≠ 0 ∧ zBus.writeDenied (3 : Requester).val Reg.lbuCtl 0x1FB1 = none ∧
      (zBus.rd Reg.lbuCtl ^^^ 0x1FB1) &&& lbuCtlBits &&& ~~~lbuRunBits = 0 := met (by decide +kernel)

theorem witness_CellAges : (2 ^ 40 - 1 < 2 ^ 40 ∧ 2 ^ 39 - 1 ≠ 0 ∧ 2 ^ 39 - 1 < 2 ^ 39) ∧ (0 : Nat) < 2 ^ 40 := by decide

theorem witness_LowestWindowApplies :
    (Dev.put blank [(winBase .lw 15, 1), (winBase .lw 14, 1)]).winMatches .lw 15 0 = true ∧
      (Dev.put blank [(winBase .lw 15, 1), (winBase .lw 14, 1)]).winFind .lw 0 = some 14 := by decide +kernel

end Sys2Proof.Tests
end

section
/-!
The state after reset meets the invariant of the block.
-/
namespace Sys2Proof.Machine

/-- Settles O3: the invariant asks only the device to be sound, and the device of the reset state is `Dev.reset`, whose listed registers
stand by rising offset with no zero among them (`reset_regs_wf`), whose memory, flash and FIFOs are empty and whose Wicket has its 16 items
(`Dev.reset_sound`). -/
theorem resetIsSound : Obligations.ResetIsSound := by
  unfold Obligations.ResetIsSound Inv
  exact Dev.reset_sound

end Sys2Proof.Machine
end

section
/-!
What leaves the memory. Every operation of the device that stores nothing to memory leaves the whole store of bytes as it stood: one rewriting
rule for each, in the order of the model's files.
-/
namespace Sys2Proof.Machine

@[simp] theorem Dev.ite_mem (p : Prop) [Decidable p] (a b : Dev) : (if p then a else b).mem = if p then a.mem else b.mem := by split <;> rfl

/-- A fold of operations that leave the memory leaves it. -/
@[simp] theorem foldl_mem {α : Type} (g : Dev → α → Dev) (l : List α) (d : Dev) (h : ∀ d a, (g d a).mem = d.mem) :
    (l.foldl g d).mem = d.mem := by
  induction l generalizing d with
  | nil => rfl
  | cons a l ih => exact (ih _).trans (h d a)

/-- The same for a fold that carries something beside the device. -/
theorem foldl_fst_mem {α β : Type} (g : Dev × β → α → Dev × β) (l : List α) (p : Dev × β) (h : ∀ p a, (g p a).1.mem = p.1.mem) :
    (l.foldl g p).1.mem = p.1.mem := by
  induction l generalizing p with
  | nil => rfl
  | cons a l ih => exact (ih _).trans (h p a)

/-! ### Shared operations -/

@[simp] theorem Dev.log_mem (d : Dev) (c : Culprit) (type : ErrType) (ga detail count : Nat) : (d.log c type ga detail count).mem = d.mem := by
  unfold Dev.log
  dsimp only
  split <;> simp

/-! ### Interrupt messages -/

@[simp] theorem Dev.sendVec_mem (d : Dev) (v : Nat) : (d.sendVec v).mem = d.mem := by simp [Dev.sendVec]

@[simp] theorem Dev.sendGen_mem (d : Dev) (n : Nat) (t : Transfer) (gen : Nat) : (d.sendGen n t gen).mem = d.mem := by simp [Dev.sendGen]

@[simp] theorem Dev.sendMsg_mem (d : Dev) (n : Nat) (t : Transfer) : (d.sendMsg n t).mem = d.mem := by simp [Dev.sendMsg]

@[simp] theorem Dev.setRemote_mem (d : Dev) (m s : Nat) (on : Bool) : (d.setRemote m s on).mem = d.mem := by simp [Dev.setRemote]

@[simp] theorem Dev.itmosLevel_mem (d : Dev) (s : Nat) (on : Bool) : (d.itmosLevel s on).mem = d.mem := by
  unfold Dev.itmosLevel
  dsimp only
  (repeat' split) <;> simp

/-! ### The flash and the reservations -/

@[simp] theorem Dev.flashErase_mem (d : Dev) (off n : Nat) : (d.flashErase off n).mem = d.mem := by simp [Dev.flashErase]

@[simp] theorem Dev.updRsvInfo_mem (d : Dev) (a : Nat) (f : RsvInfo → RsvInfo) : (d.updRsvInfo a f).mem = d.mem := by simp [Dev.updRsvInfo]

@[simp] theorem Dev.loseRsv_mem (d : Dev) (p : Rsv → Bool) : (d.loseRsv p).mem = d.mem := foldl_mem _ _ _ fun _ _ => rfl

/-! ### The fault manager -/

@[simp] theorem Dev.placeNote_mem (d : Dev) (note : List Byte) : (d.placeNote note).mem = d.mem := by simp [Dev.placeNote]

@[simp] theorem Dev.sendNote_mem (d : Dev) (ntype bit map : Nat) : (d.sendNote ntype bit map).mem = d.mem := by
  unfold Dev.sendNote
  dsimp only
  (repeat' split) <;> simp

@[simp] theorem Dev.recordSpare_mem (d : Dev) (kind cause unit spare : Nat) : (d.recordSpare kind cause unit spare).mem = d.mem := by
  simp [Dev.recordSpare]

@[simp] theorem Dev.swapUnit_mem (d : Dev) (kind unit cause : Nat) : (d.swapUnit kind unit cause).mem = d.mem := by
  unfold Dev.swapUnit
  split <;> simp

@[simp] theorem Dev.sendRec_mem (d : Dev) (rtype : Nat) (body : List Byte) : (d.sendRec rtype body).mem = d.mem := by
  unfold Dev.sendRec
  (repeat' split) <;> simp

@[simp] theorem Dev.cutBus_mem (d : Dev) : d.cutBus.mem = d.mem := by simp [Dev.cutBus]

@[simp] theorem Dev.loseWrites_mem (d : Dev) : d.loseWrites.mem = d.mem := by simp [Dev.loseWrites]

@[simp] theorem Dev.leaveActive_mem (d : Dev) (dest : TwinState) : (d.leaveActive dest).mem = d.mem := by simp [Dev.leaveActive]

/-! ### Memory errors -/

@[simp] theorem Dev.keepRemap_mem (d : Dev) (kind unit cause : Nat) : (d.keepRemap kind unit cause).mem = d.mem := by simp [Dev.keepRemap]

@[simp] theorem Dev.retireRow_mem (d : Dev) (row cause : Nat) : (d.retireRow row cause).mem = d.mem := by simp [Dev.retireRow]

@[simp] theorem Dev.swapBank_mem (d : Dev) (m word : Nat) (column : Option Nat) (cause : Nat) :
    (d.swapBank m word column cause).mem = d.mem := by simp [Dev.swapBank]

@[simp] theorem Dev.wearEntry_mem (d : Dev) (m loc col : Nat) : (d.wearEntry m loc col).mem = d.mem := by
  unfold Dev.wearEntry
  dsimp only
  split <;> simp

@[simp] theorem Dev.wearSwap_mem (d : Dev) (m loc col : Nat) : (d.wearSwap m loc col).mem = d.mem := by
  unfold Dev.wearSwap
  split <;> simp

@[simp] theorem Dev.eccCorrected_mem (d : Dev) (m word bit : Nat) : (d.eccCorrected m word bit).mem = d.mem := by simp [Dev.eccCorrected]

@[simp] theorem Dev.eccUncorr_mem (d : Dev) (m word : Nat) : (d.eccUncorr m word).mem = d.mem := by simp [Dev.eccUncorr]

@[simp] theorem Dev.markBad_mem (d : Dev) (a : Nat) : (d.markBad a).mem = d.mem := by simp [Dev.markBad]

/-! ### The fabric -/

@[simp] theorem Dev.dropReq_mem (d : Dev) (seq : Nat) : (d.dropReq seq).mem = d.mem := by simp [Dev.dropReq]

@[simp] theorem Dev.rsvException_mem (d : Dev) (agent ident : Nat) : (d.rsvException agent ident).mem = d.mem := by simp [Dev.rsvException]

@[simp] theorem Dev.rsvStore_mem (d : Dev) (agent ident : Nat) (internal : Bool) (ga len : Nat) :
    (d.rsvStore agent ident internal ga len).mem = d.mem := by simp [Dev.rsvStore]

@[simp] theorem Dev.noteFail_mem (d : Dev) (agent ident : Nat) (ing : Ingress) (seq : Nat) (t : ErrType) (hi : Nat) :
    (d.noteFail agent ident ing seq t hi).mem = d.mem := by simp [Dev.noteFail]

@[simp] theorem Dev.logFail_mem (d : Dev) (r : Req) (t : ErrType) (detail failAt : Nat) : (d.logFail r t detail failAt).mem = d.mem := by
  simp [Dev.logFail]

@[simp] theorem Dev.rsvRecord_mem (d : Dev) (r : Req) : (d.rsvRecord r).mem = d.mem := by
  unfold Dev.rsvRecord
  split <;> simp

@[simp] theorem Dev.deliver_mem (d : Dev) (r : Req) : (d.deliver r).mem = d.mem := by
  unfold Dev.deliver
  (repeat' split) <;> simp

@[simp] theorem Dev.finishAt_mem (d : Dev) (seq : Nat) (status : Option ErrType) (failAt : Nat) (data : List Byte) (rts : Nat) :
    (d.finishAt seq status failAt data rts).mem = d.mem := by
  unfold Dev.finishAt
  dsimp only
  split <;> simp

@[simp] theorem Dev.finish_mem (d : Dev) (seq : Nat) (status : Option ErrType) (failAt : Nat) (data : List Byte) :
    (d.finish seq status failAt data).mem = d.mem := by simp [Dev.finish]

@[simp] theorem Dev.failReq_mem (d : Dev) (r : Req) (t : ErrType) (detail failAt : Nat) (data : List Byte) :
    (d.failReq r t detail failAt data).mem = d.mem := by simp [Dev.failReq]

@[simp] theorem Dev.sendPeer_mem (d : Dev) (r : Req) : (d.sendPeer r).mem = d.mem := by
  unfold Dev.sendPeer
  split
  · split
    · rfl
    · exact foldl_mem _ _ _ fun _ _ => rfl
  · rfl

@[simp] theorem Dev.wbarEnd_mem (d : Dev) (n dst last : Nat) (status : Option ErrType) : (d.wbarEnd n dst last status).mem = d.mem := by
  unfold Dev.wbarEnd
  split <;> simp

@[simp] theorem Dev.sendWbar_mem (d : Dev) (n dst : Nat) : (d.sendWbar n dst).mem = d.mem := by
  unfold Dev.sendWbar
  dsimp only
  (repeat' split) <;> simp

@[simp] theorem Dev.sendOut_mem (d : Dev) (r : Req) : (d.sendOut r).mem = d.mem := by
  unfold Dev.sendOut
  split <;> simp

@[simp] theorem Dev.pumpWbars_mem (d : Dev) (n : Nat) : (d.pumpWbars n).mem = d.mem := by simp [Dev.pumpWbars]

@[simp] theorem Dev.wbarsFor_mem (d : Dev) (agent : Nat) : (d.wbarsFor agent).mem = d.mem := by simp [Dev.wbarsFor]

@[simp] theorem Dev.place_mem (d : Dev) (r : Req) : (d.place r).mem = d.mem := by
  unfold Dev.place
  dsimp only
  split <;> simp

@[simp] theorem Dev.emitLine_mem (d : Dev) (l : CwbLine) : (d.emitLine l).mem = d.mem := by
  unfold Dev.emitLine
  dsimp only
  split <;> simp

@[simp] theorem Dev.emitLines_mem (d : Dev) (p : CwbLine → Bool) : (d.emitLines p).mem = d.mem := by simp [Dev.emitLines]

@[simp] theorem Dev.combineBlock_mem (d : Dev) (r : Req) (granule : Nat) (data : WData) : (d.combineBlock r granule data).mem = d.mem := by
  unfold Dev.combineBlock
  dsimp only
  (repeat' split) <;> simp

@[simp] theorem Dev.combine_mem (d : Dev) (r : Req) : (d.combine r).mem = d.mem := by simp [Dev.combine]

@[simp] theorem Dev.dropBlock_mem (d : Dev) (b : PrefBlock) : (d.dropBlock b).mem = d.mem := by
  unfold Dev.dropBlock
  split <;> simp

@[simp] theorem Dev.dropBlocks_mem (d : Dev) (p : PrefBlock → Bool) : (d.dropBlocks p).mem = d.mem := by simp [Dev.dropBlocks]

@[simp] theorem Dev.prefWrite_mem (d : Dev) (ing : Option Ingress) (ga len : Nat) : (d.prefWrite ing ga len).mem = d.mem := by
  simp [Dev.prefWrite]

@[simp] theorem Dev.prefServe_mem (d : Dev) (r : Req) : (d.prefServe r).mem = d.mem := by simp [Dev.prefServe]

@[simp] theorem Dev.wbarsForRead_mem (d : Dev) (r : Req) : (d.wbarsForRead r).mem = d.mem := by simp [Dev.wbarsForRead]

@[simp] theorem Dev.failEarly_mem (d : Dev) (r : Req) (t : ErrType) (detail : Nat) : (d.failEarly r t detail).mem = d.mem := by
  unfold Dev.failEarly
  dsimp only
  (repeat' split) <;> simp

@[simp] theorem Dev.acceptRouted_mem (d : Dev) (r : Req) (t : Target) : (d.acceptRouted r t).mem = d.mem := by
  unfold Dev.acceptRouted
  dsimp only
  (repeat' split) <;> simp

@[simp] theorem Dev.accept_mem (d : Dev) (r : Req) : (d.accept r).mem = d.mem := by
  unfold Dev.accept
  (repeat' split) <;> simp

@[simp] theorem Dev.issue_mem (d : Dev) (r : Req) : (d.issue r).mem = d.mem := by
  unfold Dev.issue
  dsimp only
  split <;> simp

@[simp] theorem Dev.retryHeldFrom_mem (rs : List Req) : ∀ (d : Dev) (still : List Req), (d.retryHeldFrom still rs).mem = d.mem := by
  induction rs with
  | nil => exact fun _ _ => rfl
  | cons r t ih =>
    intro d still
    unfold Dev.retryHeldFrom
    split
    · rw [ih, Dev.onFab_mem]
    · split <;> rw [ih]
      · rfl
      · exact Dev.accept_mem d r

@[simp] theorem Dev.pumpPeers_mem (d : Dev) : d.pumpPeers.mem = d.mem := by
  refine foldl_mem _ _ _ fun e r => ?_
  split
  · simp
  · rfl

@[simp] theorem Dev.wbarAnswer_mem (d : Dev) (n tag orig : Nat) (status : Option ErrType) : (d.wbarAnswer n tag orig status).mem = d.mem := by
  simp [Dev.wbarAnswer]

theorem Dev.actMsg_mem {d e : Dev} {w : WaitMsg} (h : d.actMsg w = some e) : e.mem = d.mem := by
  unfold Dev.actMsg at h
  split at h
  · split at h <;> obtain rfl := Option.some.inj h <;> simp
  · split at h
    · obtain rfl := Option.some.inj h
      simp
    · split at h
      · obtain ⟨_, _, rfl⟩ := Option.map_eq_some_iff.mp h
        rfl
      · obtain rfl := Option.some.inj h
        simp

@[simp] theorem Dev.pumpMsgsFrom_mem (ws : List WaitMsg) : ∀ (d : Dev) (still : List WaitMsg), (d.pumpMsgsFrom still ws).mem = d.mem := by
  induction ws with
  | nil => exact fun _ _ => rfl
  | cons w t ih =>
    intro d still
    unfold Dev.pumpMsgsFrom
    dsimp only
    split
    · exact ih d _
    · split
      · rw [ih, Dev.actMsg_mem ‹_›]
      · exact ih d _

@[simp] theorem Dev.pumpMsgs_mem (d : Dev) : d.pumpMsgs.mem = d.mem := by simp [Dev.pumpMsgs]

@[simp] theorem Dev.retryHeld_mem (d : Dev) : d.retryHeld.mem = d.mem := by simp [Dev.retryHeld]

@[simp] theorem Dev.writeDone_mem (d : Dev) (r : Req) : (d.writeDone r).mem = d.mem := by
  unfold Dev.writeDone
  split <;> simp

@[simp] theorem Dev.ackMsgs_mem (d : Dev) (n seq : Nat) : (d.ackMsgs n seq).mem = d.mem := by simp [Dev.ackMsgs]

@[simp] theorem Dev.peerAcked_mem (d : Dev) (r : Req) : (d.peerAcked r).mem = d.mem := by
  unfold Dev.peerAcked
  split <;> simp

/-! ### What follows a command -/

@[simp] theorem Dev.gzbEvent_mem (d : Dev) (c : Nat) : (d.gzbEvent c).mem = d.mem := by simp [Dev.gzbEvent]

/-! ### The host port -/

@[simp] theorem Dev.errCpl_mem (d : Dev) (rid ptag : Nat) (st : CplStatus) (owed lower : Nat) :
    (d.errCpl rid ptag st owed lower).mem = d.mem := by simp [Dev.errCpl]

@[simp] theorem Dev.dataCpls_mem (d : Dev) (rid ptag addr len : Nat) (data : List Byte) : (d.dataCpls rid ptag addr len data).mem = d.mem := by
  unfold Dev.dataCpls
  split
  · rfl
  · exact foldl_mem _ _ _ fun _ _ => rfl

@[simp] theorem Dev.hostAnswer_mem (d : Dev) (rid ptag addr len : Nat) (status : Option ErrType) (failAt : Nat) (data : List Byte) (sync : Bool) :
    (d.hostAnswer rid ptag addr len status failAt data sync).mem = d.mem := by
  unfold Dev.hostAnswer
  split
  · exact Dev.dataCpls_mem ..
  · split
    · exact (Dev.errCpl_mem ..).trans (foldl_mem _ _ _ fun _ _ => rfl)
    · exact Dev.dataCpls_mem ..

@[simp] theorem Dev.hostRefuse_mem (d : Dev) (rid ptag ga : Nat) (write answered : Bool) (c : Culprit) (detail : Nat) :
    (d.hostRefuse rid ptag ga write answered c detail).mem = d.mem := by simp [Dev.hostRefuse]

@[simp] theorem Dev.emitMsix_mem (d : Dev) (v : Nat) : (d.emitMsix v).mem = d.mem := by simp [Dev.emitMsix]

@[simp] theorem Dev.sendPending_mem (d : Dev) : d.sendPending.mem = d.mem := by
  unfold Dev.sendPending
  split
  · exact foldl_mem _ _ _ fun _ _ => rfl
  · rfl

@[simp] theorem Dev.bar4Write_mem (d : Dev) (off v : Nat) : (d.bar4Write off v).mem = d.mem := by simp [Dev.bar4Write]

@[simp] theorem Dev.bar4Access_mem (d : Dev) (r : HostReq) (len : Nat) (w : Option WData) : (d.bar4Access r len w).mem = d.mem := by
  unfold Dev.bar4Access
  split <;> simp

@[simp] theorem Dev.hostFail_mem (d : Dev) (r : Req) (t : ErrType) (detail : Nat) : (d.hostFail r t detail).mem = d.mem := by
  simp [Dev.hostFail]

@[simp] theorem Dev.bar2Miss_mem (d : Dev) (r : HostReq) (len : Nat) (write : Bool) : (d.bar2Miss r len write).mem = d.mem := by
  simp [Dev.bar2Miss]

@[simp] theorem Dev.hostWrite_mem (d : Dev) (r : HostReq) (data : WData) : (d.hostWrite r data).mem = d.mem := by
  unfold Dev.hostWrite
  dsimp only
  (repeat' split) <;> simp

@[simp] theorem Dev.hostRead_mem (d : Dev) (r : HostReq) (len : Nat) : (d.hostRead r len).mem = d.mem := by
  unfold Dev.hostRead
  dsimp only
  (repeat' split) <;> simp

@[simp] theorem Dev.hostAtomic_mem (d : Dev) (r : HostReq) (op : ReqOp) (len : Nat) (operand : List Byte) :
    (d.hostAtomic r op len operand).mem = d.mem := by
  unfold Dev.hostAtomic
  (repeat' split) <;> simp

@[simp] theorem Dev.writeFail_mem (d : Dev) (r : Req) : (d.writeFail r).mem = d.mem := by
  unfold Dev.writeFail
  split <;> simp

@[simp] theorem Dev.hostReturn_mem (d : Dev) (r : Req) : (d.hostReturn r).mem = d.mem := by simp [Dev.hostReturn]

@[simp] theorem Dev.watchdog_mem (d : Dev) (r : Req) : (d.watchdog r).mem = d.mem := by simp [Dev.watchdog]

@[simp] theorem Dev.hostDown_mem (d : Dev) (r : Req) : (d.hostDown r).mem = d.mem := by simp [Dev.hostDown]

@[simp] theorem Dev.condCheck_mem (d : Dev) (r : Req) : (d.condCheck r).2.mem = d.mem := by simp [Dev.condCheck]

@[simp] theorem Dev.setRsv_mem (d : Dev) (r : Req) : (d.setRsv r).mem = d.mem := by
  unfold Dev.setRsv
  dsimp only
  split <;> simp

@[simp] theorem Dev.emitHostWrite_mem (d : Dev) (r : Req) : (d.emitHostWrite r).mem = d.mem := foldl_mem _ _ _ fun _ _ => rfl

@[simp] theorem Dev.outboundWrite_mem (d : Dev) (r : Req) : (d.outboundWrite r).mem = d.mem := by simp [Dev.outboundWrite]

@[simp] theorem Dev.outboundRead_mem (d : Dev) (r : Req) : (d.outboundRead r).mem = d.mem := by simp [Dev.outboundRead]

@[simp] theorem Dev.dropReads_mem (d : Dev) (seq : Nat) : (d.dropReads seq).mem = d.mem := by simp [Dev.dropReads]

@[simp] theorem Dev.outboundFail_mem (d : Dev) (seq timer : Nat) : (d.outboundFail seq timer).mem = d.mem := by
  unfold Dev.outboundFail
  split <;> simp

@[simp] theorem Dev.keepBlocks_mem (d : Dev) (r : Req) (zone : Option Nat) (ps lo : Nat) (data : List Byte) :
    (d.keepBlocks r zone ps lo data).mem = d.mem := by
  refine foldl_mem _ _ _ fun e i => ?_
  dsimp only
  split
  · simp
  · rfl

@[simp] theorem Dev.outboundCpl_mem (d : Dev) (x : OutRead) (st : CplStatus) (data : List Byte) : (d.outboundCpl x st data).mem = d.mem := by
  unfold Dev.outboundCpl
  (repeat' split) <;> simp

@[simp] theorem Dev.discardHostWrites_mem (d : Dev) : d.discardHostWrites.mem = d.mem := by
  unfold Dev.discardHostWrites
  dsimp only [Dev.onHp_mem, Dev.bump_mem]
  rw [foldl_mem _ _ _ fun e r => by simp]
  refine foldl_mem _ _ _ fun e k => ?_
  split <;> simp

@[simp] theorem Dev.functionReset_mem (d : Dev) : d.functionReset.mem = d.mem := by simp [Dev.functionReset]

@[simp] theorem Dev.hostLinkDown_mem (d : Dev) : d.hostLinkDown.mem = d.mem := by simp [Dev.hostLinkDown]

@[simp] theorem Dev.enterD3_mem (d : Dev) : d.enterD3.mem = d.mem := by simp [Dev.enterD3]

@[simp] theorem Dev.trainHost_mem (d : Dev) (speed width : Nat) : (d.trainHost speed width).mem = d.mem := by simp [Dev.trainHost]

@[simp] theorem Dev.windowOff_mem (d : Dev) (f : WinFam) (n : Nat) : (d.windowOff f n).mem = d.mem := by simp [Dev.windowOff]

/-! ### Barriers and semaphores -/

@[simp] theorem Dev.setLwBar_mem (d : Dev) (k : Nat) (x : Nat × Bool × Bool) : (d.setLwBar k x).mem = d.mem := by simp [Dev.setLwBar]

@[simp] theorem Dev.takeBarrier_mem (d : Dev) (src : BarrierSrc) (complete : Bool) : (d.takeBarrier src complete).mem = d.mem := by
  unfold Dev.takeBarrier
  split <;> simp

@[simp] theorem Dev.barrierFrom_mem (d : Dev) (src : BarrierSrc) (complete : Bool) : (d.barrierFrom src complete).mem = d.mem := by
  unfold Dev.barrierFrom
  split <;> simp

@[simp] theorem Dev.gzbBarDone_mem (d : Dev) (c : Nat) (b : Barrier) : (d.gzbBarDone c b).mem = d.mem := by simp [Dev.gzbBarDone]

@[simp] theorem Dev.barrierDone_mem (d : Dev) (b : Barrier) : (d.barrierDone b).mem = d.mem := by
  unfold Dev.barrierDone
  (repeat' split) <;> simp

@[simp] theorem Dev.semClaim_mem (d : Dev) (who i : Nat) (on : Bool) : (d.semClaim who i on).mem = d.mem := by simp [Dev.semClaim]

@[simp] theorem Dev.l2hMove_mem (d : Dev) : d.l2hMove.mem = d.mem := by
  unfold Dev.l2hMove
  (repeat' split) <;> simp

/-! ### The local bus, as master -/

@[simp] theorem Dev.driveBeat_mem (d : Dev) (j : ZoneJob) (data : WData) (ga : Nat) (b : Beat) : (d.driveBeat j data ga b).mem = d.mem := by
  simp [Dev.driveBeat]

@[simp] theorem Dev.driveCycle_mem (d : Dev) (j : ZoneJob) : (d.driveCycle j).mem = d.mem := by
  unfold Dev.driveCycle
  (repeat' split) <;> simp

@[simp] theorem Dev.zoneLeave_mem (d : Dev) (seq : Nat) : (d.zoneLeave seq).mem = d.mem := by simp [Dev.zoneLeave]

@[simp] theorem Dev.zoneStored_mem (d : Dev) (r : Req) : (d.zoneStored r).mem = d.mem := by simp [Dev.zoneStored]

@[simp] theorem Dev.zoneFail_mem (d : Dev) (j : ZoneJob) (t : ErrType) (detail lowest : Nat) : (d.zoneFail j t detail lowest).mem = d.mem := by
  unfold Dev.zoneFail
  split <;> simp

@[simp] theorem Dev.zoneEnd_mem (d : Dev) (r : Req) (timer : Nat) : (d.zoneEnd r timer).mem = d.mem := by simp [Dev.zoneEnd]

@[simp] theorem Dev.zoneFinish_mem (d : Dev) (j : ZoneJob) : (d.zoneFinish j).mem = d.mem := by
  unfold Dev.zoneFinish
  split <;> simp

@[simp] theorem Dev.lockedReads_mem (d : Dev) (j : ZoneJob) : (d.lockedReads j).mem = d.mem := by
  unfold Dev.lockedReads
  dsimp only
  (repeat' split) <;> simp

@[simp] theorem Dev.zoneNext_mem (d : Dev) (j : ZoneJob) : (d.zoneNext j).mem = d.mem := by
  unfold Dev.zoneNext
  dsimp only
  split
  · simp
  · rename_i c rest _
    split
    · split
      · rfl
      · split
        · cases (c.beats.drop j.beat).head? <;> simp
        · rfl
    · (repeat' split) <;> simp

@[simp] theorem Dev.terminate_mem (d : Dev) (j : ZoneJob) (t : Termination) (lad : Word) (lpar : BitVec 4) :
    (d.terminate j t lad lpar).mem = d.mem := by
  unfold Dev.terminate
  (repeat' split) <;> simp

@[simp] theorem Dev.zoneStart_mem (d : Dev) (r : Req) : (d.zoneStart r).mem = d.mem := by
  unfold Dev.zoneStart
  (repeat' split) <;> simp

@[simp] theorem Dev.lockedStart_mem (d : Dev) (r : Req) : (d.lockedStart r).mem = d.mem := by simp [Dev.lockedStart]

@[simp] theorem Dev.zoneTimeout_mem (d : Dev) (j : ZoneJob) : (d.zoneTimeout j).mem = d.mem := by simp [Dev.zoneTimeout]

@[simp] theorem Dev.arbitrate_mem (d : Dev) : d.arbitrate.mem = d.mem := by simp [Dev.arbitrate]

@[simp] theorem Dev.timedRetried_mem (d : Dev) (seq : Nat) : (d.timedRetried seq).mem = d.mem := by
  unfold Dev.timedRetried
  split <;> rfl

/-! ### The local bus, as slave -/

@[simp] theorem Dev.answer_mem (d : Dev) (a : SlaveAns) : (d.answer a).mem = d.mem := by
  unfold Dev.answer
  split <;> simp

@[simp] theorem Dev.updSlot_mem (d : Dev) (i : Nat) (f : DrSlot → DrSlot) : (d.updSlot i f).mem = d.mem := by simp [Dev.updSlot]

@[simp] theorem Dev.freeDr_mem (d : Dev) (i : Nat) : (d.freeDr i).mem = d.mem := by
  unfold Dev.freeDr
  dsimp only
  (repeat' split) <;> simp

@[simp] theorem Dev.slotAnswer_mem (d : Dev) (x : DrSlot) (beats : Nat) : (d.slotAnswer x beats).mem = d.mem := by
  unfold Dev.slotAnswer
  dsimp only
  (repeat' split) <;> simp

@[simp] theorem Dev.serveSlot_mem (d : Dev) (x : DrSlot) (beats : Nat) : (d.serveSlot x beats).mem = d.mem := by
  unfold Dev.serveSlot
  split <;> simp

@[simp] theorem Dev.holdOn_mem (d : Dev) (k i : Nat) : (d.holdOn k i).mem = d.mem := by simp [Dev.holdOn]

@[simp] theorem Dev.allocSlot_mem (d : Dev) (c : SlaveCycle) (lw : Nat) (op : DrOp) (data : Word) (r : Req) :
    (d.allocSlot c lw op data r).mem = d.mem := by
  unfold Dev.allocSlot
  dsimp only
  (repeat' split) <;> simp

@[simp] theorem Dev.markStale_mem (d : Dev) (k ga len : Nat) : (d.markStale k ga len).mem = d.mem := by simp [Dev.markStale]

@[simp] theorem Dev.collect_mem (d : Dev) (c : SlaveCycle) (x : DrSlot) : (d.collect c x).mem = d.mem := by simp [Dev.collect]

@[simp] theorem Dev.releaseLock_mem (d : Dev) (k : Nat) : (d.releaseLock k).mem = d.mem := by simp [Dev.releaseLock]

@[simp] theorem Dev.breakLock_mem (d : Dev) (k : Nat) : (d.breakLock k).mem = d.mem := by simp [Dev.breakLock]

@[simp] theorem Dev.lockEnd_mem (d : Dev) (k : Nat) : (d.lockEnd k).mem = d.mem := by simp [Dev.lockEnd]

@[simp] theorem Dev.lockLevel_mem (d : Dev) (c : SlaveCycle) : (d.lockLevel c).mem = d.mem := by simp [Dev.lockLevel]

@[simp] theorem Dev.lockCheck_mem (d : Dev) (c : SlaveCycle) (lw g : Nat) : (d.lockCheck c lw g).1.mem = d.mem := by
  unfold Dev.lockCheck
  dsimp only
  (repeat' split) <;> simp

@[simp] theorem Dev.beatErr_mem (d : Dev) (c : SlaveCycle) (write : Bool) (t : ErrType) (detail : Nat) :
    (d.beatErr c write t detail).mem = d.mem := by
  unfold Dev.beatErr
  split <;> simp

theorem Dev.slaveGate_mem {d : Dev} {c : SlaveCycle} {write : Bool} {p : Dev × SlaveAns} (h : d.slaveGate c write = some p) : p.1.mem = d.mem := by
  unfold Dev.slaveGate at h
  dsimp only at h
  repeat' split at h
  all_goals first | cases h; done | (obtain rfl := Option.some.inj h; simp)

@[simp] theorem Dev.slaveFail_mem (d : Dev) (c : SlaveCycle) (lw : Option Nat) (write posted : Bool) (ga detail : Nat) :
    (d.slaveFail c lw write posted ga detail).mem = d.mem := by simp [Dev.slaveFail]

@[simp] theorem Dev.slavePost_mem (d : Dev) (c : SlaveCycle) (lw : Nat) (data : Word) : (d.slavePost c lw data).mem = d.mem := by
  simp [Dev.slavePost]

@[simp] theorem Dev.lwBarrier_mem (d : Dev) (c : SlaveCycle) (lw : Nat) (data : Word) : (d.lwBarrier c lw data).mem = d.mem := by
  unfold Dev.lwBarrier
  (repeat' split) <;> simp

@[simp] theorem Dev.slaveBeat_mem (d : Dev) (c : SlaveCycle) (lw : Nat) (data : Word) : (d.slaveBeat c lw data).mem = d.mem := by
  unfold Dev.slaveBeat
  dsimp only
  (repeat' split) <;> simp

@[simp] theorem Dev.slaveWrite_mem (d : Dev) (c : SlaveCycle) (data : Word) : (d.slaveWrite c data).mem = d.mem := by
  unfold Dev.slaveWrite
  dsimp only
  split
  · exact Dev.lockLevel_mem d c
  · split
    · rename_i e a hgate
      rw [Dev.answer_mem]
      exact (Dev.slaveGate_mem hgate).trans (Dev.lockLevel_mem d c)
    · (repeat' split) <;> simp

@[simp] theorem Dev.slaveFetch_mem (d : Dev) (c : SlaveCycle) (lw : Nat) : (d.slaveFetch c lw).mem = d.mem := by
  unfold Dev.slaveFetch
  dsimp only
  (repeat' split) <;> simp

@[simp] theorem Dev.slaveRead_mem (d : Dev) (c : SlaveCycle) : (d.slaveRead c).mem = d.mem := by
  unfold Dev.slaveRead
  dsimp only
  split
  · exact Dev.lockLevel_mem d c
  · split
    · rename_i e a hgate
      rw [Dev.answer_mem]
      exact (Dev.slaveGate_mem hgate).trans (Dev.lockLevel_mem d c)
    · (repeat' split) <;> simp

@[simp] theorem Dev.slaveNew_mem (d : Dev) (c : SlaveCycle) (w : Option Word) : (d.slaveNew c w).mem = d.mem := by
  unfold Dev.slaveNew
  split <;> simp

@[simp] theorem Dev.drArrive_mem (d : Dev) (x : DrSlot) : (d.drArrive x).mem = d.mem := by
  unfold Dev.drArrive
  split <;> simp

@[simp] theorem Dev.queueLirq_mem (d : Dev) (k : Nat) : (d.queueLirq k).mem = d.mem := by simp [Dev.queueLirq]

@[simp] theorem Dev.clockLost_mem (d : Dev) : d.clockLost.mem = d.mem := by
  unfold Dev.clockLost
  dsimp only
  split <;> simp

/-! ### The links -/

@[simp] theorem Dev.twinLinkLost_mem (d : Dev) (n : Nat) : (d.twinLinkLost n).mem = d.mem := by simp [Dev.twinLinkLost]

@[simp] theorem Dev.enterRetrain_mem (d : Dev) (n : Nat) : (d.enterRetrain n).mem = d.mem := by simp [Dev.enterRetrain]

@[simp] theorem Dev.endPeerReqs_mem (d : Dev) (n : Nat) (started : Bool) : (d.endPeerReqs n started).mem = d.mem := by simp [Dev.endPeerReqs]

@[simp] theorem Dev.linkDown_mem (d : Dev) (n : Nat) : (d.linkDown n).mem = d.mem := by
  unfold Dev.linkDown
  dsimp only
  rw [Dev.retryHeld_mem]
  dsimp only
  rw [Dev.loseRsv_mem, foldl_mem _ _ _ fun e w => by split <;> simp]
  simp only [Dev.onFab_mem]
  rw [foldl_mem _ _ _ fun e r => by simp]
  split <;> simp

@[simp] theorem Dev.linkRestart_mem (d : Dev) (n : Nat) : (d.linkRestart n).mem = d.mem := by simp [Dev.linkRestart]

@[simp] theorem Dev.levelResend_mem (d : Dev) : d.levelResend.mem = d.mem := by simp [Dev.levelResend]

@[simp] theorem Dev.linkEnterUp_mem (d : Dev) (n : Nat) : (d.linkEnterUp n).mem = d.mem := by simp [Dev.linkEnterUp]

@[simp] theorem Dev.hello_mem (d : Dev) (n : Nat) (h : Hello) : (d.hello n h).mem = d.mem := by simp [Dev.hello]

@[simp] theorem Dev.replayFrom_mem (d : Dev) (n : Nat) (same : Bool) : (d.replayFrom n same).mem = d.mem := by simp [Dev.replayFrom]

@[simp] theorem Dev.laneSwapped_mem (d : Dev) (n phys : Nat) : (d.laneSwapped n phys).mem = d.mem := by simp [Dev.laneSwapped]

@[simp] theorem Dev.protoErr_mem (d : Dev) (n : Nat) (t : Option Transfer) : (d.protoErr n t).mem = d.mem := by
  unfold Dev.protoErr
  split <;> simp

@[simp] theorem Dev.rxOn_mem (d : Dev) (n : Nat) : (d.rxOn n).mem = d.mem := by simp [Dev.rxOn]

@[simp] theorem Dev.peerRequest_mem (d : Dev) (n : Nat) (t : Transfer) (code : Nat) (op : ReqOp) :
    (d.peerRequest n t code op).mem = d.mem := by simp [Dev.peerRequest]

@[simp] theorem Dev.peerMessage_mem (d : Dev) (n : Nat) (t : Transfer) (code : Nat) : (d.peerMessage n t code).mem = d.mem := by
  simp [Dev.peerMessage]

@[simp] theorem Dev.peerComplete_mem (d : Dev) (r : Req) (t : Transfer) : (d.peerComplete r t).mem = d.mem := by
  unfold Dev.peerComplete
  dsimp only
  split <;> simp

@[simp] theorem Dev.wbarDone_mem (d : Dev) (w : Wbar) (status : Option ErrType) : (d.wbarDone w status).mem = d.mem := by
  unfold Dev.wbarDone
  split <;> simp

/-! ### The Belvedere -/

@[simp] theorem Dev.enterAcquire_mem (d : Dev) : d.enterAcquire.mem = d.mem := by simp [Dev.enterAcquire]

@[simp] theorem Dev.useSource_mem (d : Dev) (s : Option BlvSource) : (d.useSource s).mem = d.mem := by
  unfold Dev.useSource
  dsimp only
  (repeat' split) <;> simp

@[simp] theorem Dev.setSource_mem (d : Dev) (s : BlvSource) (on : Bool) : (d.setSource s on).mem = d.mem := by simp [Dev.setSource]

@[simp] theorem Dev.pushResult_mem (d : Dev) (vt slot type err event data : Nat) (late : Int) (skips : Nat) :
    (d.pushResult vt slot type err event data late skips).mem = d.mem := by simp [Dev.pushResult]

@[simp] theorem Dev.slotDone_mem (d : Dev) (i : Nat) : (d.slotDone i).mem = d.mem := by
  unfold Dev.slotDone
  split <;> simp

@[simp] theorem Dev.slotRef_mem (d : Dev) (i id : Nat) : (d.slotRef i id).mem = d.mem := by
  unfold Dev.slotRef
  split <;> simp

@[simp] theorem Dev.skipSlot_mem (d : Dev) (i x : Nat) : (d.skipSlot i x).mem = d.mem := by
  unfold Dev.skipSlot
  split <;> simp

@[simp] theorem Dev.skipPast_mem (d : Dev) (i : Nat) : (d.skipPast i).mem = d.mem := by simp [Dev.skipPast]

@[simp] theorem Dev.armSlot_mem (d : Dev) (i : Nat) : (d.armSlot i).mem = d.mem := by simp [Dev.armSlot]

@[simp] theorem Dev.disarmSlot_mem (d : Dev) (i : Nat) : (d.disarmSlot i).mem = d.mem := by simp [Dev.disarmSlot]

@[simp] theorem Dev.armWrite_mem (d : Dev) (v : Word) : (d.armWrite v).mem = d.mem := by
  unfold Dev.armWrite
  split <;> simp

@[simp] theorem Dev.enableSched_mem (d : Dev) : d.enableSched.mem = d.mem := by simp [Dev.enableSched]

@[simp] theorem Dev.slotWrite_mem (d : Dev) (off : Nat) (v : Word) : (d.slotWrite off v).mem = d.mem := by simp [Dev.slotWrite]

@[simp] theorem Dev.skipPassed_mem (d : Dev) : d.skipPassed.mem = d.mem := by simp [Dev.skipPassed]

@[simp] theorem Dev.stepVt_mem (d : Dev) (delta : Int) (abs : Option Nat) : (d.stepVt delta abs).mem = d.mem := by
  unfold Dev.stepVt
  dsimp only
  (repeat' split) <;> simp

@[simp] theorem Dev.softStep_mem (d : Dev) (abs force : Bool) : (d.softStep abs force).mem = d.mem := by simp [Dev.softStep]

@[simp] theorem Dev.stepCtlWrite_mem (d : Dev) (v : Word) : (d.stepCtlWrite v).mem = d.mem := by simp [Dev.stepCtlWrite]

@[simp] theorem Dev.showOffset_mem (d : Dev) (off : Int) : (d.showOffset off).mem = d.mem := by simp [Dev.showOffset]

@[simp] theorem Dev.lockUpdate_mem (d : Dev) (off : Int) : (d.lockUpdate off).mem = d.mem := by
  unfold Dev.lockUpdate
  dsimp only
  split <;> simp

@[simp] theorem Dev.servoUpdate_mem (d : Dev) (off : Int) : (d.servoUpdate off).mem = d.mem := by simp [Dev.servoUpdate]

@[simp] theorem Dev.rateWrite_mem (d : Dev) (v : Word) : (d.rateWrite v).mem = d.mem := by simp [Dev.rateWrite]

@[simp] theorem Dev.slewWrite_mem (d : Dev) (v : Word) : (d.slewWrite v).mem = d.mem := by
  unfold Dev.slewWrite
  dsimp only
  (repeat' split) <;> simp

@[simp] theorem Dev.blvClear_mem (d : Dev) : d.blvClear.mem = d.mem := by simp [Dev.blvClear]

@[simp] theorem Dev.dispatch_mem (d : Dev) (a : ArmedSlot) : (d.dispatch a).mem = d.mem := by simp [Dev.dispatch]

@[simp] theorem Dev.endEvent_mem (d : Dev) (e : BlvEvent) : (d.endEvent e).mem = d.mem := by simp [Dev.endEvent]

@[simp] theorem Dev.recordEvent_mem (d : Dev) (e : BlvEvent) (type err vt data : Nat) (late : Int) :
    (d.recordEvent e type err vt data late).mem = d.mem := by
  unfold Dev.recordEvent
  split <;> simp

@[simp] theorem Dev.updTio_mem (d : Dev) (k : Nat) (f : TioPin → TioPin) : (d.updTio k f).mem = d.mem := by simp [Dev.updTio]

@[simp] theorem Dev.driveTio_mem (d : Dev) (k : Nat) (level : Bool) (vt : Nat) : (d.driveTio k level vt).mem = d.mem := by simp [Dev.driveTio]

@[simp] theorem Dev.fireTriggers_mem (d : Dev) (k vt : Nat) (evs : List BlvEvent) : (d.fireTriggers k vt evs).mem = d.mem := by
  simp [Dev.fireTriggers]

@[simp] theorem Dev.runTriggers_mem (d : Dev) : d.runTriggers.mem = d.mem := by
  unfold Dev.runTriggers
  split <;> simp

@[simp] theorem Dev.pulseReturn_mem (d : Dev) (k : Nat) : (d.pulseReturn k).mem = d.mem := by
  unfold Dev.pulseReturn
  split <;> simp

@[simp] theorem Dev.endGuard_mem (d : Dev) (e : BlvEvent) : (d.endGuard e).mem = d.mem := by simp [Dev.endGuard]

@[simp] theorem Dev.dropTimed_mem (d : Dev) (e : BlvEvent) (late : Int) : (d.dropTimed e late).mem = d.mem := by simp [Dev.dropTimed]

@[simp] theorem Dev.startTimed_mem (d : Dev) (e : BlvEvent) : (d.startTimed e).mem = d.mem := by
  unfold Dev.startTimed
  dsimp only
  (repeat' split) <;> simp

@[simp] theorem Dev.runTimed_mem (d : Dev) (action : Nat) : (d.runTimed action).mem = d.mem := by
  unfold Dev.runTimed
  (repeat' split) <;> simp

@[simp] theorem Dev.runCan_mem (d : Dev) : d.runCan.mem = d.mem := by
  unfold Dev.runCan
  (repeat' split) <;> simp

@[simp] theorem Dev.timedComplete_mem (d : Dev) : d.timedComplete.mem = d.mem := by
  unfold Dev.timedComplete
  dsimp only
  (repeat' split) <;> simp

@[simp] theorem Dev.capture_mem (d : Dev) (k : Nat) (falling : Bool) : (d.capture k falling).mem = d.mem := by simp [Dev.capture]

@[simp] theorem Dev.sendSync_mem (d : Dev) (n : Nat) : (d.sendSync n).mem = d.mem := by simp [Dev.sendSync]

@[simp] theorem Dev.syncUpdate_mem (d : Dev) (n tx steps gm : Nat) : (d.syncUpdate n tx steps gm).mem = d.mem := by
  unfold Dev.syncUpdate
  split <;> simp

/-! ### Interrupts -/

@[simp] theorem Dev.elPop_mem (d : Dev) (seq : Nat) : (d.elPop seq).mem = d.mem := by
  unfold Dev.elPop
  split <;> simp

@[simp] theorem Dev.eoi_mem (d : Dev) (v : Nat) : (d.eoi v).mem = d.mem := by simp [Dev.eoi]

@[simp] theorem Dev.vectorWrite_mem (d : Dev) (who off : Nat) (v : Word) : (d.vectorWrite who off v).mem = d.mem := by simp [Dev.vectorWrite]

/-! ### The Gazebo -/

@[simp] theorem Dev.gzbRead_mem (d : Dev) (c kind idx pos ga len : Nat) (op : ReqOp) (data : WData) (entries : Nat) :
    (d.gzbRead c kind idx pos ga len op data entries).mem = d.mem := by simp [Dev.gzbRead]

@[simp] theorem Dev.gzbWrite_mem (d : Dev) (c ga : Nat) (bs : List Byte) : (d.gzbWrite c ga bs).mem = d.mem := by simp [Dev.gzbWrite]

@[simp] theorem Dev.gzbFetch_mem (d : Dev) (c : Nat) : (d.gzbFetch c).mem = d.mem := by simp [Dev.gzbFetch]

@[simp] theorem Dev.updDesc_mem (d : Dev) (c i : Nat) (f : GzbDesc → GzbDesc) : (d.updDesc c i f).mem = d.mem := by simp [Dev.updDesc]

theorem Dev.descRead_mem {d e : Dev} {c : Nat} {x : GzbDesc} (h : d.descRead c x = some e) : e.mem = d.mem := by
  unfold Dev.descRead at h
  dsimp only at h
  repeat' split at h
  all_goals first | cases h; done | (obtain rfl := Option.some.inj h; simp)

theorem Dev.descWrite_mem {d e : Dev} {c : Nat} {x : GzbDesc} (h : d.descWrite c x = some e) : e.mem = d.mem := by
  unfold Dev.descWrite at h
  dsimp only at h
  repeat' split at h
  all_goals first | cases h; done | (obtain rfl := Option.some.inj h; simp)

@[simp] theorem Dev.descMarks_mem (d : Dev) (c i : Nat) : (d.descMarks c i).mem = d.mem := by
  unfold Dev.descMarks
  (repeat' split) <;> simp

@[simp] theorem Dev.beginDesc_mem (d : Dev) (c i raw : Nat) : (d.beginDesc c i raw).mem = d.mem := by simp [Dev.beginDesc]

@[simp] theorem Dev.endRun_mem (d : Dev) (c : Nat) : (d.endRun c).mem = d.mem := by simp [Dev.endRun]

@[simp] theorem Dev.gzbPump_mem (c n : Nat) : ∀ d : Dev, (d.gzbPump c n).mem = d.mem := by
  induction n with
  | zero => exact fun _ => rfl
  | succ n ih =>
    intro d
    unfold Dev.gzbPump
    split
    · rfl
    · split
      · split
        · rw [ih, Dev.descRead_mem ‹_›]
        · split
          · rw [ih, Dev.descMarks_mem, Dev.descWrite_mem ‹_›]
          · exact Dev.descMarks_mem ..
      · (repeat' split) <;> simp [ih]

@[simp] theorem Dev.gzbGo_mem (d : Dev) (c : Nat) : (d.gzbGo c).mem = d.mem := by simp [Dev.gzbGo]

@[simp] theorem Dev.startRun_mem (d : Dev) : d.startRun.mem = d.mem := by
  unfold Dev.startRun
  (repeat' split) <;> simp

@[simp] theorem Dev.gzbHalt_mem (d : Dev) (t : ErrType) (kind ga : Nat) : (d.gzbHalt t kind ga).mem = d.mem := by simp [Dev.gzbHalt]

@[simp] theorem Dev.gzbRestart_mem (d : Dev) (mask : BitVec 16) (skip : Bool) : (d.gzbRestart mask skip).mem = d.mem := by
  simp [Dev.gzbRestart]

@[simp] theorem Dev.gzbReturn_mem (d : Dev) (r : Req) : (d.gzbReturn r).mem = d.mem := by
  unfold Dev.gzbReturn
  dsimp only
  (repeat' split) <;> simp

@[simp] theorem Dev.writeBack_mem (d : Dev) (c : Nat) (x : GzbDesc) : (d.writeBack c x).mem = d.mem := by simp [Dev.writeBack]

@[simp] theorem Dev.handedBack_mem (d : Dev) (c : Nat) (x : GzbDesc) : (d.handedBack c x).mem = d.mem := by simp [Dev.handedBack]

@[simp] theorem Dev.handback_mem (d : Dev) (c : Nat) : (d.handback c).mem = d.mem := by
  unfold Dev.handback
  dsimp only
  (repeat' split) <;> simp

@[simp] theorem Dev.piWrite_mem (d : Dev) (c : Nat) (v : Word) : (d.piWrite c v).mem = d.mem := by simp [Dev.piWrite]

@[simp] theorem Dev.chanCtl_mem (d : Dev) (c : Nat) (v : Word) : (d.chanCtl c v).mem = d.mem := by simp [Dev.chanCtl]

@[simp] theorem Dev.ringWrite_mem (d : Dev) (c x : Nat) : (d.ringWrite c x).mem = d.mem := by simp [Dev.ringWrite]

@[simp] theorem Dev.gzbClear_mem (d : Dev) : d.gzbClear.mem = d.mem := by simp [Dev.gzbClear]

/-! ### The Trellis -/

@[simp] theorem Dev.reject_mem (d : Dev) : d.reject.mem = d.mem := by simp [Dev.reject]

@[simp] theorem Dev.trlCmdWrite_mem (d : Dev) (v : Word) : (d.trlCmdWrite v).mem = d.mem := by simp [Dev.trlCmdWrite]

@[simp] theorem Dev.trlCmdEnd_mem (d : Dev) (x : InsertEnd) : (d.trlCmdEnd x).mem = d.mem := by simp [Dev.trlCmdEnd]

@[simp] theorem Dev.trlFind_mem (d : Dev) : d.trlFind.mem = d.mem := by
  unfold Dev.trlFind
  split
  · split
    · simp
    · exact (Dev.trlCmdEnd_mem ..).trans (foldl_mem _ _ _ fun _ _ => rfl)
  · rfl

@[simp] theorem Dev.rehashPop_mem (d : Dev) : d.rehashPop.mem = d.mem := by simp [Dev.rehashPop]

@[simp] theorem Dev.genAdvance_mem (d : Dev) : d.genAdvance.mem = d.mem := by simp [Dev.genAdvance]

@[simp] theorem Dev.permFail_mem (d : Dev) (who off detail : Nat) : (d.permFail who off detail).mem = d.mem := by simp [Dev.permFail]

@[simp] theorem Dev.tableSwitch_mem (d : Dev) (who area : Nat) : (d.tableSwitch who area).mem = d.mem := by simp [Dev.tableSwitch]

/-! ### The Gatehouse -/

@[simp] theorem Dev.setMeter_mem (d : Dev) (x : MeterTok) : (d.setMeter x).mem = d.mem := by simp [Dev.setMeter]

@[simp] theorem Dev.meterFill_mem (d : Dev) (m : Nat) : (d.meterFill m).mem = d.mem := by simp [Dev.meterFill]

@[simp] theorem Dev.guardFill_mem (d : Dev) (g : Nat) : (d.guardFill g).mem = d.mem := by simp [Dev.guardFill]

@[simp] theorem Dev.guardPass_mem (d : Dev) (g sof : Nat) : (d.guardPass g sof).1.mem = d.mem := by
  unfold Dev.guardPass
  dsimp only
  split <;> simp

@[simp] theorem Dev.guardsAdmit_mem (d : Dev) (ch id : Nat) (ide : Bool) (sof : Nat) : (d.guardsAdmit ch id ide sof).1.mem = d.mem := by
  unfold Dev.guardsAdmit
  (repeat' split) <;> simp

@[simp] theorem Dev.installKey_mem (d : Dev) (slot use version : Nat) (key : List Byte) : (d.installKey slot use version key).mem = d.mem := by
  simp [Dev.installKey]

@[simp] theorem Dev.setBlob_mem (d : Dev) (b : List Byte) : (d.setBlob b).mem = d.mem := foldl_mem _ _ _ fun _ _ => rfl

@[simp] theorem Dev.loadBlob_mem (d : Dev) (slot : Nat) (b : List Byte) : (d.loadBlob slot b).1.mem = d.mem := by
  unfold Dev.loadBlob
  dsimp only
  (repeat' split) <;> simp

@[simp] theorem Dev.keyBusy_mem (d : Dev) (result : Nat) : (d.keyBusy result).mem = d.mem := by simp [Dev.keyBusy]

@[simp] theorem Dev.keyCommit_mem (d : Dev) (who slot op : Nat) : (d.keyCommit who slot op).mem = d.mem := by
  unfold Dev.keyCommit
  repeat' split
  all_goals simp only [Dev.permFail_mem, Dev.reject_mem, Dev.keyBusy_mem, Dev.loadBlob_mem, Dev.installKey_mem, Dev.setBlob_mem]

@[simp] theorem Dev.keyDone_mem (d : Dev) : d.keyDone.mem = d.mem := by
  unfold Dev.keyDone
  split <;> simp

@[simp] theorem Dev.failPop_mem (d : Dev) : d.failPop.mem = d.mem := by simp [Dev.failPop]

@[simp] theorem Dev.secProtect_mem (d : Dev) (i : Nat) (data : List Byte) : (d.secProtect i data).1.mem = d.mem := by
  unfold Dev.secProtect
  dsimp only
  (repeat' split) <;> simp

/-! ### Frames -/

@[simp] theorem Dev.errDown_mem (d : Dev) (ch : Nat) (tx : Bool) : (d.errDown ch tx).mem = d.mem := by simp [Dev.errDown]

@[simp] theorem Dev.updIn_mem (d : Dev) (id : Nat) (f : InFrame → InFrame) : (d.updIn id f).mem = d.mem := by simp [Dev.updIn]

@[simp] theorem Dev.dropIn_mem (d : Dev) (id : Nat) : (d.dropIn id).mem = d.mem := by simp [Dev.dropIn]

@[simp] theorem Dev.enterFrame_mem (d : Dev) (f : Frame) (port chan blocks : Nat) (key : List Byte) (alt : Option (List Byte)) :
    (d.enterFrame f port chan blocks key alt).mem = d.mem := by simp [Dev.enterFrame]

@[simp] theorem Dev.canRx_mem (d : Dev) (ch : Nat) (r : CanRecord) (x : Received) : (d.canRx ch r x).mem = d.mem := by simp [Dev.canRx]

@[simp] theorem Dev.linRx_mem (d : Dev) (l id : Nat) (enhanced ok : Bool) (x : Received) : (d.linRx l id enhanced ok x).mem = d.mem := by
  simp [Dev.linRx]

@[simp] theorem Dev.itmFrame_mem (d : Dev) (n : Nat) (t : Transfer) : (d.itmFrame n t).mem = d.mem := by
  unfold Dev.itmFrame
  dsimp only
  (repeat' split) <;> simp

@[simp] theorem Dev.frameMiss_mem (d : Dev) (id : Nat) : (d.frameMiss id).mem = d.mem := by
  unfold Dev.frameMiss
  (repeat' split) <;> simp

@[simp] theorem Dev.keyMiss_mem (d : Dev) (k : LookupKey) : (d.keyMiss k).mem = d.mem := by
  unfold Dev.keyMiss
  split <;> simp

@[simp] theorem Dev.keyGiveUp_mem (d : Dev) (k : LookupKey) : (d.keyGiveUp k).mem = d.mem := by simp [Dev.keyGiveUp]

@[simp] theorem Dev.parkLimit_mem (d : Dev) (i : Nat) : (d.parkLimit i).mem = d.mem := by
  unfold Dev.parkLimit
  split <;> simp

@[simp] theorem Dev.capCommit_mem (d : Dev) (r : Nat) : (d.capCommit r).mem = d.mem := by
  unfold Dev.capCommit
  split <;> simp

@[simp] theorem Dev.crossCells_mem (d : Dev) (port out k : Nat) : (d.crossCells port out k).mem = d.mem := by simp [Dev.crossCells]

@[simp] theorem Dev.sendXfer_mem (d : Dev) (f : Frame) (port out : Nat) (egr : List Nat) (secured : Option Nat) :
    (d.sendXfer f port out egr secured).mem = d.mem := by simp [Dev.sendXfer]

@[simp] theorem Dev.loadTimed_mem (d : Dev) (ch b : Nat) (f : Frame) : (d.loadTimed ch b f).mem = d.mem := by simp [Dev.loadTimed]

/-! ### Egress -/

@[simp] theorem Dev.xferTaken_mem (d : Dev) (id e : Nat) : (d.xferTaken id e).mem = d.mem := by simp [Dev.xferTaken]

@[simp] theorem Dev.canTake_mem (d : Dev) (ch : Nat) (f : Frame) : (d.canTake ch f).mem = d.mem := by
  unfold Dev.canTake
  split <;> simp

@[simp] theorem Dev.canChoose_mem (ch n : Nat) : ∀ d : Dev, (d.canChoose ch n).mem = d.mem := by
  induction n with
  | zero => exact fun _ => rfl
  | succ n ih =>
    intro d
    unfold Dev.canChoose
    split
    · rfl
    · split
      · rw [ih, Dev.bump_mem, Dev.onCan_mem]
      · rfl

@[simp] theorem Dev.canSent_mem (d : Dev) (ch : Nat) : (d.canSent ch).mem = d.mem := by
  unfold Dev.canSent
  dsimp only
  split <;> simp

@[simp] theorem Dev.canBusOff_mem (d : Dev) (ch : Nat) : (d.canBusOff ch).mem = d.mem := by simp [Dev.canBusOff]

@[simp] theorem Dev.canReturn_mem (d : Dev) (ch : Nat) : (d.canReturn ch).mem = d.mem := by simp [Dev.canReturn]

@[simp] theorem Dev.canErr_mem (d : Dev) (ch : Nat) (tx eight : Bool) : (d.canErr ch tx eight).mem = d.mem := by simp [Dev.canErr]

@[simp] theorem Dev.txLoad_mem (d : Dev) (ch b : Nat) : (d.txLoad ch b).mem = d.mem := by simp [Dev.txLoad]

@[simp] theorem Dev.linTake_mem (d : Dev) (l : Nat) (f : Frame) : (d.linTake l f).mem = d.mem := by simp [Dev.linTake]

@[simp] theorem Dev.linAnswer_mem (d : Dev) (l id : Nat) : (d.linAnswer l id).mem = d.mem := by
  unfold Dev.linAnswer
  split <;> simp

@[simp] theorem Dev.linStep_mem (d : Dev) (l : Nat) : (d.linStep l).mem = d.mem := by simp [Dev.linStep]

@[simp] theorem Dev.creditNow_mem (d : Dev) (i : Nat) : (d.creditNow i).mem = d.mem := by simp [Dev.creditNow]

@[simp] theorem Dev.ptpStamp_mem (d : Dev) (i : Nat) (data : List Byte) : (d.ptpStamp i data).mem = d.mem := by simp [Dev.ptpStamp]

@[simp] theorem Dev.ethStart_mem (i n : Nat) : ∀ d : Dev, (d.ethStart i n).mem = d.mem := by
  induction n with
  | zero => exact fun _ => rfl
  | succ n ih =>
    intro d
    unfold Dev.ethStart
    split
    · rfl
    · dsimp only
      split
      · rw [ih, Dev.bump_mem, Dev.onMac_mem]
      · simp

@[simp] theorem Dev.ethTake_mem (d : Dev) (i : Nat) (f : Frame) : (d.ethTake i f).mem = d.mem := by simp [Dev.ethTake]

@[simp] theorem Dev.tasChange_mem (d : Dev) (i : Nat) : (d.tasChange i).mem = d.mem := by
  unfold Dev.tasChange
  dsimp only
  (repeat' split) <;> simp

@[simp] theorem Dev.secTx_mem (d : Dev) (id : Nat) : (d.secTx id).mem = d.mem := by
  unfold Dev.secTx
  dsimp only
  (repeat' split) <;> simp

@[simp] theorem Dev.tunFlush_mem (d : Dev) (t : Nat) : (d.tunFlush t).mem = d.mem := by simp [Dev.tunFlush]

@[simp] theorem Dev.tunTake_mem (d : Dev) (t : Nat) (f : Frame) : (d.tunTake t f).mem = d.mem := by simp [Dev.tunTake]

@[simp] theorem Dev.seqLoss_mem (d : Dev) (id : Nat) (forced : Bool) : (d.seqLoss id forced).mem = d.mem := by
  unfold Dev.seqLoss
  split <;> simp

@[simp] theorem Dev.loseReq_mem (d : Dev) (seq : Nat) : (d.loseReq seq).mem = d.mem := by
  unfold Dev.loseReq
  (repeat' split) <;> simp

@[simp] theorem Dev.planeStop_mem (d : Dev) (k : Nat) (frames reqs : List Nat) : (d.planeStop k frames reqs).mem = d.mem := by
  simp [Dev.planeStop]

/-! ### Resets -/

@[simp] theorem Dev.regsReset_mem (d : Dev) (b : Nat) (keep : Nat → Bool) : (d.regsReset b keep).mem = d.mem := by simp [Dev.regsReset]

@[simp] theorem Dev.endQueued_mem (d : Dev) (running : Bool) : (d.endQueued running).mem = d.mem := by simp [Dev.endQueued]

@[simp] theorem Dev.drainStart_mem (d : Dev) (all : Bool) : (d.drainStart all).mem = d.mem := by simp [Dev.drainStart]

@[simp] theorem Dev.dropIngress_mem (d : Dev) (port : Nat) : (d.dropIngress port).mem = d.mem := by simp [Dev.dropIngress]

@[simp] theorem Dev.hpReset_mem (d : Dev) : d.hpReset.mem = d.mem := by simp [Dev.hpReset]

@[simp] theorem Dev.lbuReset_mem (d : Dev) : d.lbuReset.mem = d.mem := by simp [Dev.lbuReset]

@[simp] theorem Dev.breakLogged_mem (d : Dev) (k : Nat) : (d.breakLogged k).mem = d.mem := by
  unfold Dev.breakLogged
  split <;> simp

@[simp] theorem Dev.winReset_mem (d : Dev) : d.winReset.mem = d.mem := by simp [Dev.winReset]

@[simp] theorem Dev.itmReset_mem (d : Dev) : d.itmReset.mem = d.mem := by simp [Dev.itmReset]

@[simp] theorem Dev.blvReset_mem (d : Dev) : d.blvReset.mem = d.mem := foldl_mem _ _ _ fun _ _ => rfl

@[simp] theorem Dev.gzbReset_mem (d : Dev) : d.gzbReset.mem = d.mem := by simp [Dev.gzbReset]

@[simp] theorem Dev.pavReset_mem (d : Dev) : d.pavReset.mem = d.mem := by simp [Dev.pavReset]

@[simp] theorem Dev.ethReset_mem (d : Dev) : d.ethReset.mem = d.mem := by simp [Dev.ethReset]

@[simp] theorem Dev.blockReset_mem (d : Dev) (b : Nat) : (d.blockReset b).mem = d.mem := by
  unfold Dev.blockReset
  split <;> simp

/-! ### The register hub -/

@[simp] theorem Dev.hubRead_mem (d : Dev) (who off : Nat) : (d.hubRead who off).1.mem = d.mem := by
  unfold Dev.hubRead
  split <;> simp

@[simp] theorem Dev.warmStart_mem (d : Dev) : d.warmStart.mem = d.mem := by simp [Dev.warmStart]

@[simp] theorem Dev.resetCommit_mem (d : Dev) (v : Word) : (d.resetCommit v).mem = d.mem := by simp [Dev.resetCommit]

@[simp] theorem Dev.eraseStart_mem (d : Dev) : d.eraseStart.mem = d.mem := by simp [Dev.eraseStart]

@[simp] theorem Dev.handoverStart_mem (d : Dev) : d.handoverStart.mem = d.mem := by simp [Dev.handoverStart]

@[simp] theorem Dev.spareCommit_mem (d : Dev) (v : Word) : (d.spareCommit v).mem = d.mem := by simp [Dev.spareCommit]

@[simp] theorem Dev.keyedEffect_mem (d : Dev) (who off : Nat) (v : Word) : (d.keyedEffect who off v).mem = d.mem := by simp [Dev.keyedEffect]

@[simp] theorem Dev.winWrite_mem (d : Dev) (f : WinFam) (n k off : Nat) (new : Word) : (d.winWrite f n k off new).mem = d.mem := by
  simp [Dev.winWrite]

@[simp] theorem Dev.lbuCtlWrite_mem (d : Dev) (new : Word) : (d.lbuCtlWrite new).mem = d.mem := by simp [Dev.lbuCtlWrite]

@[simp] theorem Dev.pathCfgWrite_mem (d : Dev) (new : Word) : (d.pathCfgWrite new).mem = d.mem := by simp [Dev.pathCfgWrite]

@[simp] theorem Dev.lirqCfgWrite_mem (d : Dev) (k off : Nat) (new : Word) : (d.lirqCfgWrite k off new).mem = d.mem := by
  simp [Dev.lirqCfgWrite]

@[simp] theorem Dev.pglCtlWrite_mem (d : Dev) (new : Word) : (d.pglCtlWrite new).mem = d.mem := by simp [Dev.pglCtlWrite]

@[simp] theorem Dev.ringCfgWrite_mem (d : Dev) (r off : Nat) (new : Word) : (d.ringCfgWrite r off new).mem = d.mem := by
  simp [Dev.ringCfgWrite]

@[simp] theorem Dev.trlCtrlWrite_mem (d : Dev) (new : Word) : (d.trlCtrlWrite new).mem = d.mem := by simp [Dev.trlCtrlWrite]

@[simp] theorem Dev.wktEnter_mem (d : Dev) (m : Nat) : (d.wktEnter m).mem = d.mem := by simp [Dev.wktEnter]

@[simp] theorem Dev.coreEffect_mem (d : Dev) (who off : Nat) (new : Word) : (d.coreEffect who off new).mem = d.mem := by
  unfold Dev.coreEffect
  (repeat' split) <;> simp

@[simp] theorem Dev.actionWrite_mem (d : Dev) (who off : Nat) (v : Word) : (d.actionWrite who off v).mem = d.mem := by simp [Dev.actionWrite]

@[simp] theorem Dev.wideEffect_mem (d : Dev) (off x : Nat) : (d.wideEffect off x).mem = d.mem := by
  unfold Dev.wideEffect
  (repeat' split) <;> simp

@[simp] theorem Dev.sendReg_mem (d : Dev) (off : Nat) (v : Word) (form : Nat) : (d.sendReg off v form).mem = d.mem := by simp [Dev.sendReg]

@[simp] theorem Dev.applied_mem (d d' : Dev) (off : Nat) (v : Word) (form : Nat) : (d.applied d' off v form).mem = d'.mem := by
  unfold Dev.applied
  split
  · rfl
  · simp

@[simp] theorem Dev.sendMem_mem (d : Dev) (off : Nat) : (d.sendMem off).mem = d.mem := by simp [Dev.sendMem]

@[simp] theorem Dev.gthMemWrite_mem (d : Dev) (off : Nat) (new : Word) : (d.gthMemWrite off new).mem = d.mem := by simp [Dev.gthMemWrite]

@[simp] theorem Dev.memWrite_mem (d : Dev) (who off : Nat) (v : Word) (be : BitVec 4) : (d.memWrite who off v be).mem = d.mem := by
  unfold Dev.memWrite
  split <;> simp

@[simp] theorem Dev.dropArmed_mem (d : Dev) (off : Nat) : (d.dropArmed off).mem = d.mem := by simp [Dev.dropArmed]

@[simp] theorem Dev.rwsPost_mem (d : Dev) (who off : Nat) (v : Word) : (d.rwsPost who off v).mem = d.mem := by simp [Dev.rwsPost]

@[simp] theorem Dev.keyedArm_mem (d : Dev) (who off : Nat) (v : Word) : (d.keyedArm who off v).mem = d.mem := by simp [Dev.keyedArm]

@[simp] theorem Dev.keyedCompanion_mem (d : Dev) (who off : Nat) (v : Word) (slow : Bool) : (d.keyedCompanion who off v slow).mem = d.mem := by
  unfold Dev.keyedCompanion
  split <;> simp

@[simp] theorem Dev.wideWrite_mem (d : Dev) (off : Nat) (lo hi : Word) : (d.wideWrite off lo hi).mem = d.mem := by
  unfold Dev.wideWrite
  split <;> simp

@[simp] theorem Dev.wideLow_mem (d : Dev) (who off : Nat) (v : Word) : (d.wideLow who off v).mem = d.mem := by simp [Dev.wideLow]

@[simp] theorem Dev.wideHigh_mem (d : Dev) (who off : Nat) (v : Word) : (d.wideHigh who off v).mem = d.mem := by
  unfold Dev.wideHigh
  split <;> simp

@[simp] theorem Dev.wideFull_mem (d : Dev) (who off : Nat) (lo hi : Word) : (d.wideFull who off lo hi).mem = d.mem := by simp [Dev.wideFull]

@[simp] theorem Dev.aliasWrite_mem (d : Dev) (who k off : Nat) (v : Word) : (d.aliasWrite who k off v).mem = d.mem := by
  unfold Dev.aliasWrite
  split <;> simp

@[simp] theorem Dev.regWrite_mem (d : Dev) (who off : Nat) (v : Word) : (d.regWrite who off v).mem = d.mem := by
  unfold Dev.regWrite
  (repeat' split) <;> simp

theorem Dev.hubWrite_mem {d e : Dev} {who off : Nat} {v : Word} (h : d.hubWrite who off v = .ok e) : e.mem = d.mem := by
  unfold Dev.hubWrite at h
  split at h
  · cases h
  · obtain rfl := Except.ok.inj h
    simp

theorem Dev.hubWrite64_mem {d e : Dev} {who off : Nat} {lo hi : Word} (h : d.hubWrite64 who off lo hi = .ok e) : e.mem = d.mem := by
  have two : (d.hubWrite who off lo).bind (fun d => d.hubWrite who (off + 4) hi) = .ok e → e.mem = d.mem := by
    intro hb
    cases h1 : d.hubWrite who off lo with
    | error c => rw [h1] at hb; cases hb
    | ok d1 =>
      rw [h1] at hb
      exact (Dev.hubWrite_mem hb).trans (Dev.hubWrite_mem h1)
  unfold Dev.hubWrite64 at h
  split at h
  · split at h
    · split at h
      · cases h
      · obtain rfl := Except.ok.inj h
        simp
    · exact two h
  · exact two h

/-! ### End points -/

theorem Dev.regWordWrite_mem {d e : Dev} {who off : Nat} {v : Word} {be : BitVec 4} (h : d.regWordWrite who off v be = .ok e) : e.mem = d.mem := by
  unfold Dev.regWordWrite at h
  split at h
  · obtain rfl := Except.ok.inj h
    rfl
  · split at h
    · exact Dev.hubWrite_mem h
    · repeat' split at h
      all_goals first | cases h; done | (obtain rfl := Except.ok.inj h; simp)

/-! ### The twin -/

@[simp] theorem Dev.sendRoles_mem (d : Dev) (role : Nat) : (d.sendRoles role).mem = d.mem := by simp [Dev.sendRoles]

@[simp] theorem Dev.enterActive_mem (d : Dev) : d.enterActive.mem = d.mem := by simp [Dev.enterActive]

@[simp] theorem Dev.enterSyncing_mem (d : Dev) : d.enterSyncing.mem = d.mem := by simp [Dev.enterSyncing]

@[simp] theorem Dev.waitOver_mem (d : Dev) (rose : Bool) : (d.waitOver rose).mem = d.mem := by simp [Dev.waitOver]

@[simp] theorem Dev.replayNote_mem (d : Dev) (m : MirrorEntry) (k : Nat) : (d.replayNote m k).mem = d.mem := by simp [Dev.replayNote]

@[simp] theorem Dev.replaySlot_mem (d : Dev) (m : MirrorEntry) (idx seq : Nat) (store : Bool) :
    (d.replaySlot m idx seq store).mem = d.mem := by simp [Dev.replaySlot]

@[simp] theorem Dev.replay_mem (d : Dev) (m : MirrorEntry) (k : Nat) : (d.replay m k).mem = d.mem := by
  unfold Dev.replay
  dsimp only
  split <;> simp

@[simp] theorem Dev.takeover_mem (d : Dev) : d.takeover.mem = d.mem := by
  unfold Dev.takeover
  dsimp only
  rw [Dev.sendNote_mem, foldl_fst_mem _ _ _ fun p m => by simp]
  simp

@[simp] theorem Dev.bulkRegs_mem (d : Dev) (lo n : Nat) : (d.bulkRegs lo n).mem = d.mem := by simp [Dev.bulkRegs]

@[simp] theorem Dev.bulkMem_mem (d : Dev) (a n : Nat) : (d.bulkMem a n).mem = d.mem := by simp [Dev.bulkMem]

@[simp] theorem Dev.bulkCopy_mem (d : Dev) : d.bulkCopy.mem = d.mem := by
  simp only [Dev.bulkCopy, Dev.sendRec_mem, Dev.bulkMem_mem, Dev.bulkRegs_mem, Dev.ite_mem, ite_self, foldl_mem, implies_true]

@[simp] theorem Dev.unprotect_mem (d : Dev) : d.unprotect.mem = d.mem := by simp [Dev.unprotect]

@[simp] theorem Dev.handoverEnd_mem (d : Dev) : d.handoverEnd.mem = d.mem := by simp [Dev.handoverEnd]

@[simp] theorem Dev.enterUnsync_mem (d : Dev) : d.enterUnsync.mem = d.mem := by simp [Dev.enterUnsync]

/-- A state record that leaves the memory when it is taken leaves it whatever becomes of it. -/
theorem Dev.recvRec_mem (d : Dev) (seq : Nat) (f : Dev → Dev) (hf : ∀ e, (f e).mem = e.mem) : (d.recvRec seq f).mem = d.mem := by
  unfold Dev.recvRec
  split
  · rfl
  · split
    · simp
    · rw [hf, Dev.onTwin_mem]

/-! ### Dependability -/

@[simp] theorem Dev.scrub_mem (d : Dev) (m w : Nat) (f : ScrubFind) : (d.scrub m w f).mem = d.mem := by
  unfold Dev.scrub
  (repeat' split) <;> simp

/-! ### Register commands -/

@[simp] theorem Dev.hubPut_mem (d : Dev) (who off : Nat) (v : Word) : (d.hubPut who off v).mem = d.mem := by
  unfold Dev.hubPut
  split
  · exact Dev.hubWrite_mem ‹_›
  · simp

@[simp] theorem Dev.hubPutEn_mem (d : Dev) (who off : Nat) (v : Word) (be : BitVec 4) : (d.hubPutEn who off v be).mem = d.mem := by
  unfold Dev.hubPutEn
  split
  · exact Dev.regWordWrite_mem ‹_›
  · simp

@[simp] theorem Dev.hubPut64_mem (d : Dev) (who off : Nat) (lo hi : Word) : (d.hubPut64 who off lo hi).mem = d.mem := by
  unfold Dev.hubPut64
  split
  · exact Dev.hubWrite64_mem ‹_›
  · simp

@[simp] theorem Dev.parityFail_mem (d : Dev) (off : Nat) (v : Word) (shadowOk : Bool) : (d.parityFail off v shadowOk).mem = d.mem := by
  unfold Dev.parityFail
  split <;> simp

@[simp] theorem Dev.eraseEnd_mem (d : Dev) : d.eraseEnd.mem = d.mem := by simp [Dev.eraseEnd]

/-! ### The Wicket -/

@[simp] theorem Dev.itemStart_mem (d : Dev) : d.itemStart.mem = d.mem := by
  unfold Dev.itemStart
  split <;> simp

@[simp] theorem Dev.wakePlan_mem (d : Dev) (cls : Nat) : (d.wakePlan cls).mem = d.mem := by simp [Dev.wakePlan]

@[simp] theorem Dev.wakeEvent_mem (d : Dev) (cls index : Nat) : (d.wakeEvent cls index).mem = d.mem := by
  unfold Dev.wakeEvent
  dsimp only
  split <;> simp

@[simp] theorem Dev.sleepCommit_mem (d : Dev) (who m : Nat) : (d.sleepCommit who m).mem = d.mem := by simp [Dev.sleepCommit]

/-! ### The Lodge -/

@[simp] theorem Dev.say_mem (d : Dev) (line : String) : (d.say line).mem = d.mem := by simp [Dev.say]

/-- A Kiosk command that leaves the memory when it is run leaves it whatever becomes of it. -/
theorem Dev.kiosk_mem (d : Dev) (level : Nat) (f : Dev → Dev) (hf : ∀ e, (f e).mem = e.mem) : (d.kiosk level f).mem = d.mem := by
  unfold Dev.kiosk
  split
  · rfl
  · split
    · simp
    · exact hf d

@[simp] theorem Dev.kioskRead_mem (d : Dev) (ga n : Nat) : (d.kioskRead ga n).mem = d.mem := by simp [Dev.kioskRead]

@[simp] theorem Dev.kioskWrite_mem (d : Dev) (ga : Nat) (v : Word) : (d.kioskWrite ga v).mem = d.mem := by simp [Dev.kioskWrite]

@[simp] theorem Dev.winLine_mem (d : Dev) (f : WinFam) (n : Nat) : (d.winLine f n).mem = d.mem := by simp [Dev.winLine]

@[simp] theorem Dev.kioskTab_mem (d : Dev) (key : List Byte) : (d.kioskTab key).mem = d.mem := by
  unfold Dev.kioskTab
  dsimp only
  repeat' split
  all_goals simp only [Dev.say_mem, Dev.trlCmdWrite_mem, Dev.trlFind_mem]
  all_goals exact foldl_mem _ _ _ fun _ _ => rfl

@[simp] theorem Dev.kioskResponse_mem (d : Dev) (r : Nat) : (d.kioskResponse r).mem = d.mem := by simp [Dev.kioskResponse]

end Sys2Proof.Machine
end

section
/-!
Every command answers: what it does is an effect on the device with what follows a command at once, so it leaves the queue; and a command that
is not among `storesMemory` has an effect that leaves the memory.
-/
namespace Sys2Proof.Machine

/-- Every command has an effect on the device, whatever the state, and what follows a command settles it. -/
theorem exec_eq_act (c : Instr) : ∃ f : Dev → Dev, ∀ s, exec c s = s.act f := by
  unfold exec
  cases c <;> exact ⟨_, fun _ => rfl⟩

/-- A command's meaning is an effect on the device that leaves the memory. -/
def KeepsMem (x : State → Host.Outcome State Fault Refusal) : Prop := ∃ f : Dev → Dev, (∀ s, x s = s.act f) ∧ ∀ d, (f d).mem = d.mem

theorem KeepsMem.act {f : Dev → Dev} (h : ∀ d, (f d).mem = d.mem) : KeepsMem fun s => s.act f := ⟨f, fun _ => rfl, h⟩

theorem KeepsMem.kiosk {l : Dev → Nat} {f : Dev → Dev} (h : ∀ d, (f d).mem = d.mem) : KeepsMem fun s => s.act fun d => d.kiosk (l d) f :=
  .act fun d => d.kiosk_mem (l d) f h

theorem KeepsMem.recvRec {n : Nat} {f : Dev → Dev} (h : ∀ d, (f d).mem = d.mem) : KeepsMem fun s => s.act fun d => d.recvRec n f :=
  .act fun d => d.recvRec_mem n f h

/-- An effect that leaves the memory for every argument leaves it for the one at hand (stated apart, so that the kernel never computes with
a large constant inside that argument). -/
theorem KeepsMem.actAt {α : Type} (g : Dev → α → Dev) (h : ∀ d a, (g d a).mem = d.mem) (a : α) : KeepsMem fun s => s.act fun d => g d a :=
  .act fun d => h d a

/-! ### Commands that write at an offset or with a mark -/

theorem execSetAliasWrite_keepsMem (who : Requester) (off : Nat) (v : Word) : KeepsMem (execSetAliasWrite who off v) :=
  .actAt (fun d a => d.hubPut who.val a v) (fun _ _ => Dev.hubPut_mem ..) (off + 0x10000)

theorem execClearAliasWrite_keepsMem (who : Requester) (off : Nat) (v : Word) : KeepsMem (execClearAliasWrite who off v) :=
  .actAt (fun d a => d.hubPut who.val a v) (fun _ _ => Dev.hubPut_mem ..) (off + 0x20000)

theorem execToggleAliasWrite_keepsMem (who : Requester) (off : Nat) (v : Word) : KeepsMem (execToggleAliasWrite who off v) :=
  .actAt (fun d a => d.hubPut who.val a v) (fun _ _ => Dev.hubPut_mem ..) (off + 0x30000)

theorem execSwapIn_keepsMem (kind : Fin 16) (unit : BitVec 24) : KeepsMem (execSwapIn kind unit) :=
  .actAt Dev.spareCommit (fun _ _ => Dev.spareCommit_mem ..) (BitVec.ofNat 32 (kind.val + 16 * unit.toNat + 2 ^ 28))

theorem execKioskSpareSwap_keepsMem (kind : Fin 16) (unit : BitVec 24) : KeepsMem (execKioskSpareSwap kind unit) :=
  .actAt (fun d v => d.kiosk 1 fun d => d.keyedEffect 63 Reg.depSpareCmd v) (fun d _ => d.kiosk_mem 1 _ fun _ => Dev.keyedEffect_mem ..)
    (BitVec.ofNat 32 (kind.val + 16 * unit.toNat + 2 ^ 28))

/-! ### Commands whose effect depends on what they find -/

theorem execHostConfigRequest_keepsMem (c : CfgReq) : KeepsMem (execHostConfigRequest c) := .act fun d => by
  (repeat' split) <;> simp

theorem execHostCompletionReturn_keepsMem (tag : Nat) : KeepsMem (execHostCompletionReturn tag) := .act fun d => by
  split <;> simp

theorem execInbWatchdogExpiry_keepsMem (tag : Nat) : KeepsMem (execInbWatchdogExpiry tag) := .act fun d => by
  split <;> simp

theorem execOutboundWrite_keepsMem (seq : Nat) : KeepsMem (execOutboundWrite seq) := .act fun d => by
  split <;> simp

theorem execOutboundReadIssue_keepsMem (seq : Nat) : KeepsMem (execOutboundReadIssue seq) := .act fun d => by
  split <;> simp

theorem execOutboundCompletion_keepsMem (ptag : Nat) (st : CplStatus) (data : List Byte) :
    KeepsMem (execOutboundCompletion ptag st data) := .act fun d => by
  split <;> simp

theorem execOutboundCplTimeout_keepsMem (ptag : Nat) : KeepsMem (execOutboundCplTimeout ptag) := .act fun d => by
  split <;> simp

theorem execMsixMessageSend_keepsMem : KeepsMem execMsixMessageSend := .act fun d => by
  split <;> simp

theorem execBarrierDone_keepsMem (seq : Nat) : KeepsMem (execBarrierDone seq) := .act fun d => by
  split <;> simp

theorem execWritePerformed_keepsMem (seq : Nat) : KeepsMem (execWritePerformed seq) := .act fun d => by
  split <;> simp

theorem execPwbEntryFree_keepsMem (p : WPath) : KeepsMem (execPwbEntryFree p) := .act fun d => by
  dsimp only
  (repeat' split) <;> simp

theorem execCwbLineAgeExpiry_keepsMem (p : WPath) (k : Nat) : KeepsMem (execCwbLineAgeExpiry p k) := .act fun d => by
  split <;> simp

theorem execWaitingReadRelease_keepsMem (seq : Nat) : KeepsMem (execWaitingReadRelease seq) := .act fun d => by
  (repeat' split) <;> simp

theorem execPrefetchExpiry_keepsMem (k : Nat) : KeepsMem (execPrefetchExpiry k) := .act fun d => by
  split <;> simp

theorem execZoneRequestArrive_keepsMem (seq : Nat) : KeepsMem (execZoneRequestArrive seq) := .act fun d => by
  (repeat' split) <;> simp

theorem execZoneRequestStart_keepsMem : KeepsMem execZoneRequestStart := .act fun d => by
  (repeat' split) <;> simp

theorem execZoneLockedRmw_keepsMem : KeepsMem execZoneLockedRmw := .act fun d => by
  (repeat' split) <;> simp

theorem execLbusCycleTermination_keepsMem (t : Termination) (lad : Word) (lpar : BitVec 4) :
    KeepsMem (execLbusCycleTermination t lad lpar) := .act fun d => by
  split <;> simp

theorem execRetryReissue_keepsMem : KeepsMem execRetryReissue := .act fun d => by
  (repeat' split) <;> simp

theorem execZoneTimeout_keepsMem (seq : Nat) : KeepsMem (execZoneTimeout seq) := .act fun d => by
  split <;> simp

theorem execDrCompletion_keepsMem (slot : Fin 16) : KeepsMem (execDrCompletion slot) := .act fun d => by
  split <;> simp

theorem execLockLimitExpiry_keepsMem (k : Fin 2) : KeepsMem (execLockLimitExpiry k) := .act fun d => by
  split <;> simp

theorem execLirqEffect_keepsMem : KeepsMem execLirqEffect := .act fun d => by
  split <;> simp

theorem execLinkTrained_keepsMem (n : Fin 5) (lock : BitVec 3) : KeepsMem (execLinkTrained n lock) := .act fun d => by
  dsimp only
  (repeat' split) <;> simp

theorem execLaneSwap_keepsMem (n : Fin 5) (k : Fin 2) : KeepsMem (execLaneSwap n k) := .act fun d => by
  dsimp only
  (repeat' split) <;> simp

theorem execLaneSwapResend_keepsMem (n : Fin 5) (mapSeen : Bool) : KeepsMem (execLaneSwapResend n mapSeen) := .act fun d => by
  dsimp only
  (repeat' split) <;> simp

theorem execItmMwr_keepsMem (n : Fin 5) (x : RxFlits) : KeepsMem (execItmMwr n x) := .act fun d => by
  split <;> simp

theorem execItmCompletion_keepsMem (n : Fin 5) (t : Transfer) : KeepsMem (execItmCompletion n t) := .act fun d => by
  dsimp only
  (repeat' split) <;> simp

theorem execItmReqTimeout_keepsMem (tag : Nat) : KeepsMem (execItmReqTimeout tag) := .act fun d => by
  split <;> simp

theorem execWbarTimeout_keepsMem (n : Fin 5) (entry : Fin 32) : KeepsMem (execWbarTimeout n entry) := .act fun d => by
  split <;> simp

theorem execFaultNote_keepsMem (n : Fin 5) (t : Transfer) : KeepsMem (execFaultNote n t) := .act fun d => by
  dsimp only
  (repeat' split) <;> simp

theorem execDelayResp_keepsMem (n : Fin 5) (seqid : Nat) (t2 : Nat) (t3 : Nat) : KeepsMem (execDelayResp n seqid t2 t3) := .act fun d => by
  split <;> simp

theorem execCounterMismatch_keepsMem (second : Nat) (check : Nat) : KeepsMem (execCounterMismatch second check) := .act fun d => by
  dsimp only
  (repeat' split) <;> simp

theorem execPpsEdge_keepsMem (pin : Fin 48) : KeepsMem (execPpsEdge pin) := .act fun d => by
  dsimp only
  (repeat' split) <;> simp

theorem execEventDispatch_keepsMem : KeepsMem execEventDispatch := .act fun d => by
  (repeat' split) <;> simp

theorem execGzbDescFetchDone_keepsMem (tag : Nat) : KeepsMem (execGzbDescFetchDone tag) := .act fun d => by
  split <;> simp

theorem execGzbReadCompletion_keepsMem (tag : Nat) : KeepsMem (execGzbReadCompletion tag) := .act fun d => by
  split <;> simp

theorem execGzbHalt_keepsMem (tag : Nat) : KeepsMem (execGzbHalt tag) := .act fun d => by
  split <;> simp

theorem execGzbDrainDone_keepsMem : KeepsMem execGzbDrainDone := .act fun d => by
  dsimp only
  (repeat' split) <;> simp

theorem execCanEgress_keepsMem (x : Nat) (ch : Fin 64) : KeepsMem (execCanEgress x ch) := .act fun d => by
  split <;> simp

theorem execLinEgress_keepsMem (x : Nat) (l : Fin 32) : KeepsMem (execLinEgress x l) := .act fun d => by
  split <;> simp

theorem execEthEgress_keepsMem (x : EthIn) (mac : Fin 14) : KeepsMem (execEthEgress x mac) := .act fun d => by
  (repeat' split) <;> simp

theorem execTunnelEgress_keepsMem (x : Nat) (t : Fin 4) : KeepsMem (execTunnelEgress x t) := .act fun d => by
  split <;> simp

theorem execAgePromoteExpiry_keepsMem (x : Promoted) : KeepsMem (execAgePromoteExpiry x) := .act fun d => by
  (repeat' split) <;> simp

theorem execCanWakeFrame_keepsMem (ch : Fin 64) (rate : Fin 4) (id : BitVec 29) (ide : Bool) (rtr : Bool) (dlc : Fin 16) (data : List Byte) :
    KeepsMem (execCanWakeFrame ch rate id ide rtr dlc data) := .act fun d => by
  split <;> simp

theorem execWakeTimer_keepsMem : KeepsMem execWakeTimer := .act fun d => by
  split <;> simp

theorem execMirrorAck_keepsMem (seq : Nat) : KeepsMem (execMirrorAck seq) := .act fun d => by
  split <;> simp

theorem execMirrorAckTimeout_keepsMem (seq : Nat) : KeepsMem (execMirrorAckTimeout seq) := .act fun d => by
  split <;> simp

theorem execTwinFailNChange_keepsMem (low : Bool) : KeepsMem (execTwinFailNChange low) := .act fun d => by
  dsimp only
  (repeat' split) <;> simp

theorem execKioskWin_keepsMem (w : Option (WinFam × Fin 32)) : KeepsMem (execKioskWin w) := .kiosk fun d => by
  split
  · split <;> exact Dev.say_mem ..
  · exact foldl_mem _ _ _ fun _ _ => foldl_mem _ _ _ fun _ _ => Dev.winLine_mem ..

theorem execKioskLog_keepsMem : KeepsMem execKioskLog := .kiosk fun d => by
  split <;> exact Dev.say_mem ..

theorem execKioskLogPop_keepsMem : KeepsMem execKioskLogPop := .kiosk fun d => by
  split
  · exact Dev.elPop_mem ..
  · rfl

/-- A command that is not among those that may store has an effect that leaves the memory. -/
theorem exec_keepsMem (c : Instr) (h : storesMemory c = false) : KeepsMem (exec c) := by
  unfold exec
  cases c with
  | registerWrite => exact .act fun _ => Dev.hubPutEn_mem ..
  | maskedWrite | keyedArm | keyedCommit | rw64LowWrite | rw64HighWrite => exact .act fun _ => Dev.hubPut_mem ..
  | rw64FullWrite => exact .act fun _ => Dev.hubPut64_mem ..
  | cfgParityMismatch => exact .act fun _ => Dev.parityFail_mem ..
  | warmReset | blockReset => exact .act fun _ => Dev.resetCommit_mem ..
  | restoreFactory => exact .act fun _ => Dev.eraseStart_mem ..
  | calEraseDone => exact .act fun _ => Dev.eraseEnd_mem ..
  | hostMwr => exact .act fun _ => Dev.hostWrite_mem ..
  | hostMrd => exact .act fun _ => Dev.hostRead_mem ..
  | hostFetchadd | hostSwap | hostCas => exact .act fun _ => Dev.hostAtomic_mem ..
  | hostIoRequest => exact .act fun _ => Dev.hostRefuse_mem ..
  | hostBar4Access => exact .act fun _ => Dev.bar4Access_mem ..
  | functionLevelReset => exact .act fun _ => Dev.functionReset_mem ..
  | d3hotEntry => exact .act fun _ => Dev.enterD3_mem ..
  | orderBarrier | completeBarrier => exact .act fun _ => Dev.barrierFrom_mem ..
  | lwBarrierRead | slaveRead | slaveFlushCycle => exact .act fun _ => Dev.slaveRead_mem ..
  | hostSemClaim | hostSemRelease => exact .act fun _ => Dev.semClaim_mem ..
  | reservationExpiry => exact .act fun _ => Dev.loseRsv_mem ..
  | slavePostedWrite | slaveDelayedWrite | slaveCondStore | lwBarrierWrite => exact .act fun _ => Dev.slaveWrite_mem ..
  | slaveLockedCycle | slaveSlotCollect => exact .act fun _ => Dev.slaveNew_mem ..
  | lockRelease => exact .act fun _ => Dev.lockEnd_mem ..
  | lclkRecovery => exact .act fun _ => Dev.onLbu_mem ..
  | helloReceive => exact .act fun _ => Dev.hello_mem ..
  | itmLinkRestart => exact .act fun _ => Dev.linkRestart_mem ..
  | replayNak | replayTimeout => exact .act fun _ => Dev.replayFrom_mem ..
  | itmMwrNp | itmMrd | itmRsvLd | itmCondSt | itmFetchadd | itmSwap | itmCas => exact .act fun _ => Dev.peerRequest_mem ..
  | itmWbar | intAssert | intDeassert => exact .act fun _ => Dev.peerMessage_mem ..
  | itmFrame => exact .act fun _ => Dev.itmFrame_mem ..
  | timeSyncSend => exact .act fun _ => Dev.sendSync_mem ..
  | sourceInvalid => exact .act fun _ => Dev.setSource_mem ..
  | rateWrite => exact .act fun _ => Dev.rateWrite_mem ..
  | slewWrite => exact .act fun _ => Dev.slewWrite_mem ..
  | vtStep => exact .act fun _ => Dev.stepCtlWrite_mem ..
  | slotArm | slotDisarm => exact .act fun _ => Dev.armWrite_mem ..
  | schedulerEnable => exact .act fun _ => Dev.enableSched_mem ..
  | pulseReturn => exact .act fun _ => Dev.pulseReturn_mem ..
  | timedWriteExecute | timedReadExecute => exact .act fun _ => Dev.runTimed_mem ..
  | canReleaseExecute => exact .act fun _ => Dev.runCan_mem ..
  | timedAccessComplete => exact .act fun _ => Dev.timedComplete_mem ..
  | resultPop | capturePop | txtsPop => exact .act fun _ => Dev.onBlv_mem ..
  | elPop => exact .act fun _ => Dev.elPop_mem ..
  | intEoi => exact .act fun _ => Dev.eoi_mem ..
  | intVectorWrite => exact .act fun _ => Dev.vectorWrite_mem ..
  | gzbPiWrite => exact .act fun _ => Dev.piWrite_mem ..
  | gzbChannelCtl => exact .act fun _ => Dev.chanCtl_mem ..
  | gzbRunStart => exact .act fun _ => Dev.startRun_mem ..
  | gzbHandback => exact .act fun _ => Dev.handback_mem ..
  | restartResume | restartSkip => exact .act fun _ => Dev.gzbRestart_mem ..
  | canFrameRx => exact .act fun _ => Dev.canRx_mem ..
  | linFrameRx => exact .act fun _ => Dev.linRx_mem ..
  | macsecTx => exact .act fun _ => Dev.secTx_mem ..
  | txload => exact .act fun _ => Dev.txLoad_mem ..
  | linScheduleEntry => exact .act fun _ => Dev.linStep_mem ..
  | tasGateChange => exact .act fun _ => Dev.tasChange_mem ..
  | captureRecordCommit => exact .act fun _ => Dev.capCommit_mem ..
  | seqLossTimeout => exact .act fun _ => Dev.seqLoss_mem ..
  | planeDisable => exact .act fun _ => Dev.planeStop_mem ..
  | trlFind => exact .act fun _ => Dev.trlFind_mem ..
  | parkLockLimit => exact .act fun _ => Dev.parkLimit_mem ..
  | tableSwitch => exact .act fun _ => Dev.tableSwitch_mem ..
  | genAdvance => exact .act fun _ => Dev.genAdvance_mem ..
  | rehashPop => exact .act fun _ => Dev.rehashPop_mem ..
  | keySlotLoad | keySlotErase | keySlotExport => exact .act fun _ => Dev.keyCommit_mem ..
  | keyOpDone => exact .act fun _ => Dev.keyDone_mem ..
  | failPop => exact .act fun _ => Dev.failPop_mem ..
  | itemStart => exact .act fun _ => Dev.itemStart_mem ..
  | standbyEntry | sleepEntry => exact .act fun _ => Dev.sleepCommit_mem ..
  | evtPop | xtalFail => exact .act fun _ => Dev.onWkt_mem ..
  | lockstepMismatch | clockOutOfRange | supplyOutOfRange | planeFault | notePop => exact .act fun _ => Dev.onDep_mem ..
  | scrubVisit => exact .act fun _ => Dev.scrub_mem ..
  | heartbeatSend => exact .act fun _ => Dev.sendRec_mem ..
  | dramInitDone | kioskLockoutExpiry => exact .act fun _ => Dev.setFld_mem ..
  | ethLinkChange => exact .act fun _ => Dev.onMac_mem ..
  | linDomStuck => exact .act fun _ => Dev.onLin_mem ..
  | hostMessage => exact .act fun _ => rfl
  | keyedExpiry | vtLoRead | msixUnmask | hostLinkLoss | hostLinkUp | linkRetrain | windowDisable | hostSemGrant | busRequest | arbitration
    | extGrant | guardWindowStart | lholdExpiry | drDiscardExpiry | lresetRelease | lclkLoss | lirqSample | lirqAccept | lirqQueueRoom
    | trainingRetry | helloSend | flitCrcFail | retrainTimeout | laneFailure | role | retrainReq | timeSync | delayReqSend | delayReq
    | sourceValid | revertHoldExpiry | holdoverLimit | slotWrite | triggerExecute | tioCapture | linHeaderRx | canTransmit | canTxDone
    | canBusOff | canBusRecovery | ethTransmit | tunnelFlush | canWup | linWake | phyWake | wakePin | arcadeHeartbeatMissing | unitFault
    | twinPreferWait | twinDualActive | twinTieRound | takeover | stateStreamTimeout | resyncStart | plannedHandover | dramDriftCheck
    | kioskIdleTimeout | canBusError | canBusIntegration | linNoResponse => exact .act fun d => by simp
  | stateMirror | stateStarted | stateRetired | stateExecuted | stateHeartbeat | stateSyncDone => exact .recvRec fun d => by simp
  | kioskRd | kioskDump | kioskWr | kioskSpare | kioskUnlock => exact .kiosk fun d => by simp
  | kioskTab => exact .kiosk fun _ => Dev.kioskTab_mem ..
  | kioskTime | kioskTwin => exact .kiosk fun _ => Dev.say_mem ..
  | kioskTwinSwitch => exact .kiosk fun _ => Dev.keyedEffect_mem ..
  | kioskRestoreFactory => exact .kiosk fun _ => Dev.eraseStart_mem ..
  | kioskUnlockResponse => exact .kiosk fun _ => Dev.kioskResponse_mem ..
  | kioskLock => exact .kiosk fun _ => Dev.setFld_mem ..
  | kioskReboot => exact .kiosk fun _ => Dev.warmStart_mem ..
  | setAliasWrite => exact execSetAliasWrite_keepsMem ..
  | clearAliasWrite => exact execClearAliasWrite_keepsMem ..
  | toggleAliasWrite => exact execToggleAliasWrite_keepsMem ..
  | hostConfigRequest => exact execHostConfigRequest_keepsMem ..
  | hostCompletionReturn => exact execHostCompletionReturn_keepsMem ..
  | inbWatchdogExpiry => exact execInbWatchdogExpiry_keepsMem ..
  | outboundWrite => exact execOutboundWrite_keepsMem ..
  | outboundReadIssue => exact execOutboundReadIssue_keepsMem ..
  | outboundCompletion => exact execOutboundCompletion_keepsMem ..
  | outboundCplTimeout => exact execOutboundCplTimeout_keepsMem ..
  | msixMessageSend => exact execMsixMessageSend_keepsMem ..
  | barrierDone => exact execBarrierDone_keepsMem ..
  | writePerformed => exact execWritePerformed_keepsMem ..
  | pwbEntryFree => exact execPwbEntryFree_keepsMem ..
  | cwbLineAgeExpiry => exact execCwbLineAgeExpiry_keepsMem ..
  | waitingReadRelease => exact execWaitingReadRelease_keepsMem ..
  | prefetchExpiry => exact execPrefetchExpiry_keepsMem ..
  | zoneRequestArrive => exact execZoneRequestArrive_keepsMem ..
  | zoneRequestStart => exact execZoneRequestStart_keepsMem ..
  | zoneLockedRmw => exact execZoneLockedRmw_keepsMem ..
  | lbusCycleTermination => exact execLbusCycleTermination_keepsMem ..
  | retryReissue => exact execRetryReissue_keepsMem ..
  | zoneTimeout => exact execZoneTimeout_keepsMem ..
  | drCompletion => exact execDrCompletion_keepsMem ..
  | lockLimitExpiry => exact execLockLimitExpiry_keepsMem ..
  | lirqEffect => exact execLirqEffect_keepsMem ..
  | linkTrained => exact execLinkTrained_keepsMem ..
  | laneSwap => exact execLaneSwap_keepsMem ..
  | laneSwapResend => exact execLaneSwapResend_keepsMem ..
  | itmMwr => exact execItmMwr_keepsMem ..
  | itmCompletion => exact execItmCompletion_keepsMem ..
  | itmReqTimeout => exact execItmReqTimeout_keepsMem ..
  | wbarTimeout => exact execWbarTimeout_keepsMem ..
  | faultNote => exact execFaultNote_keepsMem ..
  | delayResp => exact execDelayResp_keepsMem ..
  | counterMismatch => exact execCounterMismatch_keepsMem ..
  | ppsEdge => exact execPpsEdge_keepsMem ..
  | eventDispatch => exact execEventDispatch_keepsMem ..
  | gzbDescFetchDone => exact execGzbDescFetchDone_keepsMem ..
  | gzbReadCompletion => exact execGzbReadCompletion_keepsMem ..
  | gzbHalt => exact execGzbHalt_keepsMem ..
  | gzbDrainDone => exact execGzbDrainDone_keepsMem ..
  | canEgress => exact execCanEgress_keepsMem ..
  | linEgress => exact execLinEgress_keepsMem ..
  | ethEgress => exact execEthEgress_keepsMem ..
  | tunnelEgress => exact execTunnelEgress_keepsMem ..
  | agePromoteExpiry => exact execAgePromoteExpiry_keepsMem ..
  | canWakeFrame => exact execCanWakeFrame_keepsMem ..
  | wakeTimer => exact execWakeTimer_keepsMem ..
  | swapIn => exact execSwapIn_keepsMem ..
  | mirrorAck => exact execMirrorAck_keepsMem ..
  | mirrorAckTimeout => exact execMirrorAckTimeout_keepsMem ..
  | kioskSpareSwap => exact execKioskSpareSwap_keepsMem ..
  | twinFailNChange => exact execTwinFailNChange_keepsMem ..
  | kioskWin => exact execKioskWin_keepsMem ..
  | kioskLog => exact execKioskLog_keepsMem
  | kioskLogPop => exact execKioskLogPop_keepsMem
  | _ => cases h

/-- Settles O2: a command is an effect on the device (`exec_eq_act`), which leaves the queue; one that may not store has an effect that leaves
the memory (`exec_keepsMem`), and so does what follows it (`settle_byteAt`). -/
theorem commandsAnswer : Obligations.CommandsAnswer := by
  unfold Obligations.CommandsAnswer
  intro c s
  cases hc : storesMemory c with
  | true =>
    obtain ⟨f, hf⟩ := exec_eq_act c
    exact ⟨_, hf s, rfl, fun h => absurd h (by decide)⟩
  | false =>
    obtain ⟨f, hf, hmem⟩ := exec_keepsMem c hc
    refine ⟨_, hf s, rfl, fun _ a => ?_⟩
    rw [settle_byteAt, Dev.byteAt, hmem]
    rfl

end Sys2Proof.Machine
end

section
/-!
O8: the age of a cell (R14).
-/
namespace Sys2Proof.Machine

theorem Dev.age_lt (d : Dev) (ts : Nat) : d.age ts < 2 ^ 40 := Nat.mod_lt _ (by decide)

/-- The 2^40 that keeps the difference of natural numbers above 0 changes nothing modulo 2^40. -/
theorem Dev.age_eq_sub_emod (d : Dev) {ts : Nat} (h : ts < 2 ^ 40) :
    (d.age ts : Int) = ((d.blv.vt % 2 ^ 40 : Nat) - (ts : Int)) % 2 ^ 40 := by
  unfold Dev.age Dev.stamp
  omega

theorem Dev.tooOld_iff (d : Dev) (ts : Nat) {limit : Nat} (h : limit ≠ 0) :
    d.tooOld ts limit = true ↔ limit < d.age ts ∨ 2 ^ 39 ≤ d.age ts := by
  simp [Dev.tooOld, h]

/-- Settles O8, a fact about `Dev.age` at a time. -/
theorem cellAges : Obligations.CellAges := by
  unfold Obligations.CellAges
  exact fun d ts limit hts hlimit _ => ⟨d.age_lt ts, d.age_eq_sub_emod hts, d.tooOld_iff ts hlimit⟩

end Sys2Proof.Machine
end

section
/-!
O50: what ages, loses cells or has a cell in a plane that stops, in the Pergola (R19, R357, R358, R360).
-/
namespace Sys2Proof.Machine

@[simp] theorem State.clear_bidders (s : State) (o : BusOwner) : s.clear.bidders o = s.dev.bidders o := rfl

/-- What counting at one register does to the stores. -/
theorem Dev.bump_counts {d : Dev} (hw : cellsWf d.regs = true) (a : Nat) : (d.bump a).counts d a := by
  refine ⟨?_, fun x hx => ?_, rfl⟩
  · simp [hw]
  · simp [hw, hx]

theorem after_agePromoteExpiry_bus {s : State} {o : BusOwner} (ho : s.dev.bidders o = true) (hn : o ∉ s.dev.lbu.promoted) :
    After (.agePromoteExpiry (.bus o)) s fun d => d.lbu.promoted = s.dev.lbu.promoted ++ [o] ∧ d.mem = s.dev.mem := by
  refine after_act _ (by unfold exec; rfl) ?_
  simp [ho, hn]

theorem quiet_agePromoteExpiry_bus {s : State} {o : BusOwner} (ho : s.dev.bidders o = false) : Quiet (.agePromoteExpiry (.bus o)) s := by
  refine does_act _ (by unfold exec; rfl) ?_
  simp [ho]

theorem does_agePromoteExpiry_xfer {s : State} {n : Nat} {y : Xfer} (hw : cellsWf s.dev.regs = true)
    (hy : (s.dev.frm.xfers.find? fun y => y.id == n && !y.promoted) = some y) :
    Does (.agePromoteExpiry (.xfer n)) s fun d => d.counts s.dev (pglReg Reg.pglOutPromote y.outPort) ∧
      d.frm.xfers = s.dev.frm.xfers.map fun (z : Xfer) => if z.id = n then { z with promoted := true } else z := by
  refine does_act _ (by unfold exec; rfl) ?_
  simp only [State.clear_frm, hy]
  exact ⟨Dev.bump_counts hw _, by simp⟩

/-- The counters of a lost transfer are registers of its output port, none of them the sum PGL_LOST_SUM. -/
theorem pglLostSum_ne_pglReg {r : Nat} (h : Reg.pglLostSum < r) (p : Nat) : Reg.pglLostSum ≠ pglReg r p := by
  unfold pglReg
  omega

theorem Dev.seqLoss_of_lost_eq_zero {d : Dev} {id : Nat} {x : Xfer} (hx : (d.frm.xfers.find? fun x => x.id == id) = some x)
    (h : x.lost = 0) (forced : Bool) : d.seqLoss id forced = d := by
  simp [Dev.seqLoss, hx, h]

/-- What the loss of a transfer leaves, where some of its cells are lost. -/
theorem Dev.seqLoss_of_lost_ne_zero {d : Dev} {id : Nat} {x : Xfer} (hw : cellsWf d.regs = true)
    (hx : (d.frm.xfers.find? fun x => x.id == id) = some x) (h : x.lost ≠ 0) (forced : Bool) :
    (d.seqLoss id forced).frm.xfers = d.frm.xfers.filter (fun z => z.id != id) ∧
    (d.seqLoss id forced).rd Reg.pglLostSum = d.rd Reg.pglLostSum + BitVec.ofNat 32 x.lost ∧
    (d.seqLoss id forced).dep.planeOk = d.dep.planeOk &&& (3 - 2 ^ x.lostPlane) := by
  have hlost := pglLostSum_ne_pglReg (r := Reg.pglOutLost) (by decide) x.outPort
  have hforced := pglLostSum_ne_pglReg (r := Reg.pglOutForced) (by decide) x.outPort
  have hdrop := pglLostSum_ne_pglReg (r := Reg.pglOutXferDrop) (by decide) x.outPort
  have hw₁ := Dev.bump_wf hw (pglReg Reg.pglOutLost x.outPort) x.lost
  have hw₂ := Dev.bump_wf hw₁ Reg.pglLostSum x.lost
  simp only [Dev.seqLoss, hx, if_neg h]
  cases forced with
  | false => simp [hw, hw₁, hw₂, hlost, hdrop]
  | true => simp [hw, hw₁, hw₂, hlost, hforced, hdrop]

theorem quiet_seqLossTimeout {s : State} {n : Nat} {y : Xfer} (hy : (s.dev.frm.xfers.find? fun y => y.id == n) = some y)
    (h : y.lost = 0) (forced : Bool) : Quiet (.seqLossTimeout n forced) s :=
  does_act _ (by unfold exec; rfl) (Dev.seqLoss_of_lost_eq_zero (d := s.clear) hy h forced)

theorem does_seqLossTimeout {s : State} {n : Nat} {y : Xfer} (hw : cellsWf s.dev.regs = true)
    (hy : (s.dev.frm.xfers.find? fun y => y.id == n) = some y) (h : y.lost ≠ 0) (forced : Bool) :
    Does (.seqLossTimeout n forced) s fun d => d.frm.xfers = s.dev.frm.xfers.filter (fun z => z.id != n) ∧
      d.rd Reg.pglLostSum = s.dev.rd Reg.pglLostSum + BitVec.ofNat 32 y.lost ∧
      d.dep.planeOk = s.dev.dep.planeOk &&& (3 - 2 ^ y.lostPlane) ∧ d.mem = s.dev.mem := by
  refine does_act _ (by unfold exec; rfl) ?_
  obtain ⟨hxfers, hsum, hplane⟩ := Dev.seqLoss_of_lost_ne_zero (d := s.clear) hw hy h forced
  exact ⟨hxfers, hsum, hplane, Dev.seqLoss_mem ..⟩

theorem quiet_planeDisable {s : State} {k : Fin 2} (h : (s.dev.flag Reg.pglCtl k && s.dev.dep.planeOk.testBit k) = true)
    (frames reqs : List Nat) : Quiet (.planeDisable k frames reqs) s := by
  refine does_act _ (by unfold exec; rfl) ?_
  simp only [Dev.planeStop, State.clear_flag, State.clear_dep, h, if_true]

theorem does_planeDisable {s : State} {k : Fin 2} (h : (s.dev.flag Reg.pglCtl k && s.dev.dep.planeOk.testBit k) = false)
    (frames : List Nat) : Does (.planeDisable k frames []) s fun d =>
      d.frm.xfers = s.dev.frm.xfers.map (fun (x : Xfer) => if frames.contains x.id then { x with lost := x.lost + 1, lostPlane := k } else x) ∧
      d.sameStores s.dev := by
  refine does_act _ (by unfold exec; rfl) ?_
  simp only [Dev.planeStop, State.clear_flag, State.clear_dep, h]
  exact ⟨by simp, rfl, rfl⟩

/-- Settles O50, an effect at a time. -/
theorem pergolaEvents : Obligations.PergolaEvents := by
  unfold Obligations.PergolaEvents
  intro s o xid forced k frames hInv
  exact ⟨after_agePromoteExpiry_bus, quiet_agePromoteExpiry_bus, fun y hy => does_agePromoteExpiry_xfer hInv.regs hy,
    fun y hy => ⟨fun h => quiet_seqLossTimeout hy h forced, fun h => does_seqLossTimeout hInv.regs hy h forced⟩,
    fun h => quiet_planeDisable h frames [], fun h => does_planeDisable h frames⟩

end Sys2Proof.Machine
end

section
/-!
SUPPORT. What follows a command (`settle`) starts no request: it ends some, marks some, and leaves the rest, so a sequence number without a
request before it is without one after it.
-/
namespace Sys2Proof.Machine

/-! ### What leaves the fabric -/

@[simp] theorem Dev.ite_fab (p : Prop) [Decidable p] (a b : Dev) : (if p then a else b).fab = if p then a.fab else b.fab := by split <;> rfl

/-- A fold of operations that leave the fabric leaves it. -/
theorem foldl_fab {α : Type} (g : Dev → α → Dev) (l : List α) (d : Dev) (h : ∀ d a, (g d a).fab = d.fab) : (l.foldl g d).fab = d.fab :=
  SettleClosed.foldl (P := fun e => e.fab = d.fab) g (fun e a he => (h e a).trans he) l d rfl

@[simp] theorem Dev.sendGen_fab (d : Dev) (n : Nat) (t : Transfer) (gen : Nat) : (d.sendGen n t gen).fab = d.fab := by simp [Dev.sendGen]

@[simp] theorem Dev.sendMsg_fab (d : Dev) (n : Nat) (t : Transfer) : (d.sendMsg n t).fab = d.fab := by simp [Dev.sendMsg]

@[simp] theorem Dev.setRemote_fab (d : Dev) (m s : Nat) (on : Bool) : (d.setRemote m s on).fab = d.fab := by simp [Dev.setRemote]

@[simp] theorem Dev.itmosLevel_fab (d : Dev) (s : Nat) (on : Bool) : (d.itmosLevel s on).fab = d.fab := by
  unfold Dev.itmosLevel
  dsimp only
  (repeat' split) <;> simp

@[simp] theorem Dev.sendVec_fab (d : Dev) (v : Nat) : (d.sendVec v).fab = d.fab := by simp [Dev.sendVec]

@[simp] theorem Dev.placeNote_fab (d : Dev) (note : List Byte) : (d.placeNote note).fab = d.fab := by simp [Dev.placeNote]

@[simp] theorem Dev.sendNote_fab (d : Dev) (ntype bit map : Nat) : (d.sendNote ntype bit map).fab = d.fab := by
  unfold Dev.sendNote
  dsimp only
  (repeat' split) <;> simp

@[simp] theorem Dev.recordSpare_fab (d : Dev) (kind cause unit spare : Nat) : (d.recordSpare kind cause unit spare).fab = d.fab := by
  simp [Dev.recordSpare]

@[simp] theorem Dev.swapUnit_fab (d : Dev) (kind unit cause : Nat) : (d.swapUnit kind unit cause).fab = d.fab := by
  unfold Dev.swapUnit
  split <;> simp

@[simp] theorem Dev.sendRec_fab (d : Dev) (rtype : Nat) (body : List Byte) : (d.sendRec rtype body).fab = d.fab := by
  unfold Dev.sendRec
  (repeat' split) <;> simp

@[simp] theorem Dev.cutBus_fab (d : Dev) : d.cutBus.fab = d.fab := by simp [Dev.cutBus]

@[simp] theorem Dev.enterSafe_fab (d : Dev) (bit : Nat) : (d.enterSafe bit).fab = d.fab := by simp [Dev.enterSafe]

@[simp] theorem Dev.restoreShadows_fab (d : Dev) : d.restoreShadows.fab = d.fab :=
  foldl_fab _ _ _ fun _ _ => rfl

@[simp] theorem Dev.gzbEvent_fab (d : Dev) (c : Nat) : (d.gzbEvent c).fab = d.fab := by simp [Dev.gzbEvent]

@[simp] theorem Dev.gzbFailed_fab (d : Dev) (f : GzbFail) : (d.gzbFailed f).fab = d.fab := by
  unfold Dev.gzbFailed
  dsimp only
  (repeat' split) <;> simp

@[simp] theorem Dev.gzbWatch_fab (d : Dev) (c : Nat) : (d.gzbWatch c).fab = d.fab := by
  unfold Dev.gzbWatch
  split
  · rfl
  · exact (Dev.onChan_fab ..).trans (foldl_fab _ _ _ fun d _ => d.gzbEvent_fab c)

/-- A record of the twin for each block of a request. -/
theorem foldl_sendRec_fab {α : Type} (k : Nat) (body : α → List Byte) (l : List α) (d : Dev) :
    (l.foldl (fun d a => d.sendRec k (body a)) d).fab = d.fab := foldl_fab _ _ _ fun _ _ => Dev.sendRec_fab ..

@[simp] theorem Dev.sendMirror_fab (d : Dev) (r : Req) : (d.sendMirror r).fab = d.fab := foldl_fab _ _ _ fun _ _ => Dev.sendRec_fab ..

@[simp] theorem twinSettle_fab (d : Dev) : (twinSettle d).fab = d.fab := by simp [twinSettle]

@[simp] theorem intSettle_fab (o d : Dev) : (intSettle o d).fab = d.fab := by
  unfold intSettle
  extract_lets was now d1 d2 fw d3 d4 v
  calc (_ : Dev).fab
    _ = d4.fab := foldl_fab _ _ _ fun d v => d.sendVec_fab v
    _ = d3.fab := foldl_fab _ _ _ fun d _ => d.emit_fab _
    _ = d2.fab := foldl_fab _ _ _ fun d _ => d.emit_fab _
    _ = d1.fab := foldl_fab _ _ _ fun d s => d.itmosLevel_fab s _
    _ = d.fab := foldl_fab _ _ _ fun d s => d.itmosLevel_fab s _

/-! ### What starts no request -/

/-- No request has the sequence number `n`. -/
def Dev.NoReq (n : Nat) (d : Dev) : Prop := ∀ q ∈ d.fab.reqs, q.seq ≠ n

namespace Dev.NoReq

variable {n : Nat} {d e : Dev}

theorem of_reqs (h : d.NoReq n) (he : e.fab.reqs = d.fab.reqs) : e.NoReq n := by
  unfold Dev.NoReq
  rwa [he]

theorem of_fab (h : d.NoReq n) (he : e.fab = d.fab) : e.NoReq n := h.of_reqs (by rw [he])

theorem foldl {α : Type} (g : Dev → α → Dev) (l : List α) (hg : ∀ e a, e.NoReq n → (g e a).NoReq n) (h : d.NoReq n) : (l.foldl g d).NoReq n :=
  SettleClosed.foldl g hg l d h

/-- Requests that go and requests that are marked, under the number they had. -/
theorem filter_map (h : d.NoReq n) (p : Req → Bool) (f : Req → Req) (hf : ∀ r, (f r).seq = r.seq)
    (he : e.fab.reqs = (d.fab.reqs.filter p).map f) : e.NoReq n := by
  intro q hq
  rw [he, List.mem_map] at hq
  obtain ⟨r, hr, rfl⟩ := hq
  rw [hf r]
  exact h r (List.mem_of_mem_filter hr)

theorem loseRsv (h : d.NoReq n) (p : Rsv → Bool) : (d.loseRsv p).NoReq n :=
  foldl _ _ (fun _ _ he => he.of_reqs rfl) (h.of_reqs rfl)

theorem arcHeld (h : d.NoReq n) : d.arcHeld.NoReq n :=
  (h.filter_map _ _ (fun r => by split <;> rfl) rfl).loseRsv _

theorem arcRestart (h : d.NoReq n) : d.arcRestart.NoReq n := by
  unfold Dev.arcRestart
  dsimp only
  split <;> exact h.arcHeld.of_fab rfl

theorem contain (h : d.NoReq n) (b : Nat) : (d.contain b).NoReq n := by
  unfold Dev.contain
  split
  · exact h.of_fab d.restoreShadows_fab
  · exact h.arcRestart
  · exact h.of_fab (foldl_fab _ _ _ fun _ _ => by simp)
  · exact h

theorem loseWrites (h : d.NoReq n) : d.loseWrites.NoReq n :=
  fun q hq => h q (List.mem_of_mem_filter hq)

theorem leaveActive (h : d.NoReq n) (t : TwinState) : (d.leaveActive t).NoReq n := by
  unfold Dev.leaveActive
  extract_lets cells tt d1 d2
  have h2 : d2.NoReq n := h.of_fab (by simp [d2, d1])
  split
  · exact h2
  · exact h2.loseWrites

theorem faultRise (h : d.NoReq n) (b : Nat) : (d.faultRise b).NoReq n := by
  unfold Dev.faultRise
  extract_lets set act code rises e
  have he : e.NoReq n := h.of_fab (by simp [e])
  clear_value code
  split
  · exact he.contain b
  · exact (he.leaveActive .failed).of_fab rfl
  · exact he.of_fab (e.enterSafe_fab b)
  · exact he

theorem faultSettle (h : d.NoReq n) (o : Dev) : (faultSettle o d).NoReq n :=
  foldl _ _ (fun _ b he => he.faultRise b) (foldl _ _ (fun _ b he => he.faultRise b) h)

theorem gzbSettle (h : d.NoReq n) : (gzbSettle d).NoReq n := by
  unfold Machine.gzbSettle
  extract_lets new d1 d2
  have h2 : d2.NoReq n := (h.of_fab (foldl_fab _ _ _ fun d f => d.gzbFailed_fab f)).of_reqs (e := d2) rfl
  exact h2.of_fab (foldl_fab _ _ _ fun d c => by simp)

theorem updReq (h : d.NoReq n) (k : Nat) (f : Req → Req) (hf : ∀ r, (f r).seq = r.seq) : (d.updReq k f).NoReq n :=
  h.filter_map (fun _ => true) (fun r => if r.seq = k then f r else r) (fun r => by split <;> simp [hf]) (by simp [Dev.updReq])

theorem sendStarted (h : d.NoReq n) : d.sendStarted.NoReq n :=
  foldl _ _ (fun e r he => (he.of_fab (foldl_sendRec_fab 4 _ r.mirIdx e)).updReq _ _ fun _ => rfl) h

theorem mirrorSettle (h : d.NoReq n) (o : Dev) : (mirrorSettle o d).NoReq n := by
  unfold Machine.mirrorSettle
  split
  · exact h
  · extract_lets fresh d1 gone
    have h1 : d1.NoReq n := (h.of_fab (foldl_fab _ _ _ fun d r => d.sendMirror_fab r)).sendStarted
    exact h1.of_fab (foldl_fab _ _ _ fun d r => foldl_sendRec_fab 5 _ r.mirIdx d)

/-- What follows a command starts no request. -/
theorem settle (h : d.NoReq n) (o : Dev) : (settle o d).NoReq n :=
  (((h.gzbSettle.faultSettle o).of_fab (twinSettle_fab _)).mirrorSettle o).of_fab (intSettle_fab _ _)

end Dev.NoReq

end Sys2Proof.Machine
end

section
/-!
O24: the clause that frees a write's entries fails. A combining line that waits for room holds its sequence number from the time it was emitted
(R218, `Dev.place`), and `Inv` lets a waiting line hold the number of a request that stands accepted. The acknowledgement that ends the accepted
write makes room, so the waiting line is accepted (`Dev.retryHeld`), under the number that should have gone.
-/
namespace Sys2Proof.Machine

/-- A posted write of 4 bytes, numbered 5, that has ended. -/
def endedWrite5 : Req :=
  { seq := 5, agent := 63, ident := 63, orig := 0, ing := .lodge, op := .write, posted := true, ga := 0x1_0000_0000, len := 4, ts := 0,
    st := .ended }

/-- A write with the same number, fixed when it was emitted, that waits to be accepted. -/
def heldWrite5 : Req := { endedWrite5 with st := .ready, noComb := true }

/-- The reset device with the one accepted and the other waiting. -/
def sharedNumber : State :=
  { State.reset with dev := { Dev.reset with fab := { reqs := [endedWrite5], held := [heldWrite5], nextSeq := 6 } } }

theorem sharedNumber_inv : Inv sharedNumber := Dev.reset_sound.of rfl rfl rfl rfl rfl rfl

/-- The numbers of the requests a command leaves. -/
def numbersAfter : Host.Outcome State Fault Refusal → List Nat
  | .next t => t.dev.fab.reqs.map Req.seq
  | _ => []

theorem numbersAfter_writePerformed_sharedNumber : numbersAfter (exec (.writePerformed 5) sharedNumber) = [5] := by decide +kernel

/-- What a command's own effect has no request for has none after the command. -/
theorem Does.notMem_numbersAfter {c : Instr} {s : State} {n : Nat} (h : Does c s fun d => ∀ q ∈ d.fab.reqs, q.seq ≠ n) :
    n ∉ numbersAfter (exec c s) := by
  obtain ⟨d, hexec, hd⟩ := h
  have hsettle : (settle s.dev d).NoReq n := Dev.NoReq.settle hd s.dev
  generalize settle s.dev d = e at hexec hsettle
  rw [hexec]
  simpa [numbersAfter, Dev.NoReq] using hsettle

/-- Refutes O24: in `sharedNumber`, which meets `Inv`, the acknowledgement of the ended write 5 leaves a request numbered 5. -/
theorem not_memoryEndPoint : ¬ Obligations.MemoryEndPoint := by
  unfold Obligations.MemoryEndPoint
  intro h
  obtain ⟨hfrees, -⟩ := h sharedNumber endedWrite5 5 sharedNumber_inv rfl (by decide)
  have hgone := (hfrees rfl rfl).notMem_numbersAfter
  rw [numbersAfter_writePerformed_sharedNumber] at hgone
  exact hgone (List.mem_singleton_self 5)

end Sys2Proof.Machine
end

section
/-!
SUPPORT. The register hub: what sending a record of the state stream leaves, which row of the map an offset has, and what a write of each access
class (R37–R42) does, said once for each class.
-/
namespace Sys2Proof.Machine

/-! ### Records of the state stream and applied writes -/

@[simp] theorem Dev.sendRec_regs (d : Dev) (rtype : Nat) (body : List Byte) : (d.sendRec rtype body).regs = d.regs := by
  unfold Dev.sendRec
  (repeat' split) <;> rfl

@[simp] theorem Dev.sendRec_hub (d : Dev) (rtype : Nat) (body : List Byte) : (d.sendRec rtype body).hub = d.hub := by
  unfold Dev.sendRec
  (repeat' split) <;> rfl

@[simp] theorem Dev.sendReg_regs (d : Dev) (off : Nat) (v : Word) (form : Nat) : (d.sendReg off v form).regs = d.regs := by
  unfold Dev.sendReg
  split <;> simp

@[simp] theorem Dev.sendReg_hub (d : Dev) (off : Nat) (v : Word) (form : Nat) : (d.sendReg off v form).hub = d.hub := by
  unfold Dev.sendReg
  split <;> simp

@[simp] theorem Dev.applied_regs (d e : Dev) (off : Nat) (v : Word) (form : Nat) : (d.applied e off v form).regs = e.regs := by
  unfold Dev.applied
  split <;> simp

@[simp] theorem Dev.applied_armed (d e : Dev) (off : Nat) (v : Word) (form : Nat) : (d.applied e off v form).hub.armed = e.hub.armed := by
  unfold Dev.applied
  split <;> simp

@[simp] theorem Dev.applied_rws (d e : Dev) (off : Nat) (v : Word) (form : Nat) : (d.applied e off v form).hub.rws = e.hub.rws := by
  unfold Dev.applied
  split <;> simp

/-! ### A device that differs in one register -/

/-- A device with the registers of one where `a` has been written, and with its memory. -/
theorem Dev.onlyReg_of_wr {d o : Dev} {a : Nat} {v : Word} (hw : cellsWf o.regs = true) (hr : d.regs = (o.wr a v).regs) (hm : d.mem = o.mem) :
    d.onlyReg o a v := by
  have hrd : ∀ x, d.rd x = (o.wr a v).rd x := fun x => congrArg (cellGet · x) hr
  refine ⟨?_, fun x hx => ?_, hm⟩
  · rw [hrd, Dev.rd_wr_same hw]
  · rw [hrd, Dev.rd_wr_ne hw v hx]

/-- A device whose counter `a` has advanced by one. -/
theorem Dev.onlyReg_of_bump {d o : Dev} {a : Nat} (hw : cellsWf o.regs = true) (hr : d.regs = (o.bump a).regs) (hm : d.mem = o.mem) :
    d.onlyReg o a (o.rd a + 1) := Dev.onlyReg_of_wr hw hr hm

/-! ### Rows of the register map -/

/-- The register at an offset, which is no aliased address, has a class and the bits that a write reaches. -/
def rowIs (off : Nat) (cls : RegClass) (mask : Word) : Bool :=
  (aliasOf off).isNone && (regRow? off).any fun r => r.cls == cls && r.mask == mask

theorem rowIs_iff {off : Nat} {cls : RegClass} {mask : Word} :
    rowIs off cls mask = true ↔ aliasOf off = none ∧ ∃ r, regRow? off = some r ∧ r.cls = cls ∧ r.mask = mask := by
  simp [rowIs, Option.any_eq_true]

/-- A value written to a register of the CORE domain is only stored: none of the effects of `Dev.coreEffect` is its own. -/
abbrev CoreStores (off : Nat) : Prop :=
  winAt off = none ∧ off ∉ [Reg.lbuCtl, Reg.lbuPathCfg, Reg.pglCtl, Reg.trlCtrl, Reg.winHostSemClaim, Reg.trlWatchCfg] ∧
    ¬(Reg.trlTabBase ≤ off ∧ off < Reg.trlTabBase + 0x40) ∧ instOf off Reg.gzbChCtl 0x40 16 = none ∧ instOf off Reg.gzbChPi 0x40 16 = none ∧
    instOf off Reg.lbuZoneCfg 4 8 = none ∧ instOf off Reg.pglCrCfg 0x20 8 = none

/-- A register that is only stored takes the value; a write of INT_LIRQ_CFG also settles its pin, which is no register. -/
theorem Dev.coreEffect_regs {off : Nat} (h : CoreStores off) (d : Dev) (who : Nat) (new : Word) :
    (d.coreEffect who off new).regs = (d.wr off new).regs := by
  obtain ⟨hwin, hnot, htab, hchan, hpi, hzone, hring⟩ := h
  simp only [List.mem_cons, List.not_mem_nil, or_false, not_or] at hnot
  obtain ⟨hctl, hpath, hpgl, htrl, hsem, hwatch⟩ := hnot
  have hlocked : ¬(Reg.trlTabBase ≤ off ∧ off < Reg.trlTabBase + 0x40 ∧ d.areaLocked ((off - Reg.trlTabBase) / 0x20) = true) :=
    fun ⟨hlo, hhi, _⟩ => htab ⟨hlo, hhi⟩
  simp only [Dev.coreEffect, hwin, hctl, hpath, hpgl, htrl, hsem, hwatch, hlocked, hchan, hpi, hzone, hring, if_false]
  split
  · unfold Dev.lirqCfgWrite
    dsimp only
    split <;> rfl
  · rfl

/-- A value applied to a register of a slow domain is only stored: none of the effects of `Dev.slowEffect` is its own. -/
abbrev SlowStores (off : Nat) : Prop :=
  off ∉ [Reg.hpSubsys, Reg.blvSrcCfg, Reg.blvSchedCfg, Reg.blvRate, Reg.blvSlew, Reg.blvStepCtl, Reg.blvArm, Reg.blvResPop, Reg.blvCapPop,
      Reg.blvTxtsPop, Reg.wktEvtPop, Reg.wktSleepCtl, Reg.ldgMbxCmd, Reg.dmcCtl] ∧
    ¬(Reg.dmcCfg ≤ off ∧ off ≤ Reg.dmcVref) ∧ instOf off Reg.blvTioCfg 4 48 = none ∧ instOf off Reg.itmLinkCtl 0x40 5 = none ∧
    instOf off Reg.itmPeer 0x40 5 = none ∧ blockOf off ≠ 10 ∧ blockOf off ≠ 11 ∧ instOf off Reg.ethTasCtl 0x10000 15 = none

theorem Dev.slowEffect_eq_wr {off : Nat} (h : SlowStores off) (d : Dev) (who : Nat) (new : Word) : d.slowEffect who off new = d.wr off new := by
  obtain ⟨hnot, hdmc, htio, hlink, hpeer, hpav, heth, htas⟩ := h
  simp only [List.mem_cons, List.not_mem_nil, or_false, not_or] at hnot
  obtain ⟨h1, h2, h3, h4, h5, h6, h7, h8, h9, h10, h11, h12, h13, h14⟩ := hnot
  have hlocked : ¬(Reg.dmcCfg ≤ off ∧ off ≤ Reg.dmcVref ∧ d.flag Reg.dmcStatus 0 = true) := fun ⟨hlo, hhi, _⟩ => hdmc ⟨hlo, hhi⟩
  simp only [Dev.slowEffect, h1, h2, h3, h4, h5, h6, h7, h8, h9, h10, h11, h12, h13, h14, hlocked, htio, hlink, hpeer, hpav, heth, htas, if_false,
    false_and]

/-! ### A write by the class of its register -/

/-- A write at an aliased address is one of the plain register (R38). -/
theorem Dev.regWrite_alias {off k p : Nat} (h : aliasOf off = some (k, p)) (d : Dev) (who : Nat) (v : Word) :
    d.regWrite who off v = d.aliasWrite who k p v := by
  simp only [Dev.regWrite, h]

theorem Dev.regWrite_rwa {off : Nat} {mask : Word} (h : rowIs off .rwa mask = true) (d : Dev) (who : Nat) (v : Word) :
    d.regWrite who off v = d.applied (d.coreEffect who off (maskIn (d.rd off) v mask)) off v 0 := by
  obtain ⟨halias, r, hrow, hcls, rfl⟩ := rowIs_iff.mp h
  simp only [Dev.regWrite, halias, hrow, hcls]

theorem Dev.regWrite_rwm {off : Nat} {mask : Word} (h : rowIs off .rwm mask = true) (d : Dev) (who : Nat) (v : Word) :
    d.regWrite who off v = d.applied (d.coreEffect who off (maskedValue (d.rd off) v mask)) off v 4 := by
  obtain ⟨halias, r, hrow, hcls, rfl⟩ := rowIs_iff.mp h
  simp only [Dev.regWrite, halias, hrow, hcls]

theorem Dev.regWrite_rws {off : Nat} {mask : Word} (h : rowIs off .rws mask = true) (d : Dev) (who : Nat) (v : Word) :
    d.regWrite who off v = d.rwsPost who off v := by
  obtain ⟨halias, r, hrow, hcls, rfl⟩ := rowIs_iff.mp h
  simp only [Dev.regWrite, halias, hrow, hcls]

theorem Dev.regWrite_rwk {off : Nat} {mask : Word} (h : rowIs off .rwk mask = true) (d : Dev) (who : Nat) (v : Word) :
    d.regWrite who off v = d.keyedArm who off v := by
  obtain ⟨halias, r, hrow, hcls, rfl⟩ := rowIs_iff.mp h
  simp only [Dev.regWrite, halias, hrow, hcls]

theorem Dev.regWrite_key {off : Nat} {mask : Word} (h : rowIs off .key mask = true) (d : Dev) (who : Nat) (v : Word) :
    d.regWrite who off v = d.keyedCompanion who (off - 4) v false := by
  obtain ⟨halias, r, hrow, hcls, rfl⟩ := rowIs_iff.mp h
  simp only [Dev.regWrite, halias, hrow, hcls]

theorem Dev.regWrite_lo64 {off : Nat} {mask : Word} (h : rowIs off .lo64 mask = true) (d : Dev) (who : Nat) (v : Word) :
    d.regWrite who off v = d.wideLow who off v := by
  obtain ⟨halias, r, hrow, hcls, rfl⟩ := rowIs_iff.mp h
  simp only [Dev.regWrite, halias, hrow, hcls]

theorem Dev.regWrite_hi64 {off : Nat} {mask : Word} (h : rowIs off .hi64 mask = true) (d : Dev) (who : Nat) (v : Word) :
    d.regWrite who off v = d.wideHigh who (off - 4) v := by
  obtain ⟨halias, r, hrow, hcls, rfl⟩ := rowIs_iff.mp h
  simp only [Dev.regWrite, halias, hrow, hcls]

/-- What a write of `v` at the SET, CLEAR or TOGGLE aliases of a register makes of its value (R38). -/
def aliasValue (k : Nat) (old v : Word) : Word :=
  match k with
  | 1 => old ||| v
  | 2 => old &&& ~~~v
  | _ => old ^^^ v

theorem Dev.aliasWrite_rwa {off : Nat} {mask : Word} (h : rowIs off .rwa mask = true) (d : Dev) (who k : Nat) (v : Word) :
    d.aliasWrite who k off v = d.applied (d.coreEffect who off (maskIn (d.rd off) (aliasValue k (d.rd off) v) mask)) off v k := by
  obtain ⟨-, r, hrow, hcls, rfl⟩ := rowIs_iff.mp h
  simp only [Dev.aliasWrite, hrow, hcls, ne_eq, not_true, if_false]
  rfl

/-! ### A write by a requester that may make it -/

/-- What the command acts on differs from the state's device in its outputs only, which no permission depends on. -/
@[simp] theorem State.clear_writeDenied (s : State) (who off : Nat) (v : Word) : s.clear.writeDenied who off v = s.dev.writeDenied who off v := rfl

theorem Dev.hubPut_of_allowed {d : Dev} {who off : Nat} {v : Word} (h : d.writeDenied who off v = none) :
    d.hubPut who off v = d.regWrite who off v := by
  simp only [Dev.hubPut, Dev.hubWrite, h]

/-- With all byte enables on, a write of a word is the plain one (R35). -/
theorem Dev.hubPutEn_all (d : Dev) (who off : Nat) (v : Word) : d.hubPutEn who off v 15 = d.hubPut who off v := rfl

theorem does_registerWrite {s : State} {who : Requester} {off : Nat} {v : Word} {P : Dev → Prop} (halign : off % 4 = 0)
    (hden : s.dev.writeDenied who.val off v = none) (hP : P (s.clear.regWrite who.val off v)) : Does (.registerWrite who off v 15) s P := by
  have hoff : off / 4 * 4 = off := by omega
  refine does_act (fun d => d.hubPutEn who.val (off / 4 * 4) v 15) (by unfold exec; rfl) ?_
  rwa [hoff, Dev.hubPutEn_all, Dev.hubPut_of_allowed (by simpa using hden)]

/-- A command whose effect is a write through the hub that is not refused. -/
theorem does_hubPut {c : Instr} {s : State} {who off : Nat} {v : Word} {P : Dev → Prop} (hc : exec c s = s.act fun d => d.hubPut who off v)
    (hden : s.dev.writeDenied who off v = none) (hP : P (s.clear.regWrite who off v)) : Does c s P := by
  refine does_act _ hc ?_
  rwa [Dev.hubPut_of_allowed (by simpa using hden)]

end Sys2Proof.Machine
end

section
/-!
O10: writes of plain, aliased, masked and slow registers (R37–R39, R41).
-/
namespace Sys2Proof.Machine

/-! ### The listed registers -/

/-- The registers of `coreHeld` are of class RWA, are only stored, and have SET, CLEAR and TOGGLE aliases. -/
theorem coreHeld_rows : ∀ p ∈ coreHeld, p.1 % 4 = 0 ∧ rowIs p.1 .rwa p.2 = true ∧ CoreStores p.1 ∧ aliasOf (p.1 + 0x10000) = some (1, p.1) ∧
    aliasOf (p.1 + 0x20000) = some (2, p.1) ∧ aliasOf (p.1 + 0x30000) = some (3, p.1) := by decide +kernel

theorem maskedHeld_rows : ∀ p ∈ maskedHeld, rowIs p.1 .rwm p.2 = true ∧ CoreStores p.1 := by decide +kernel

theorem slowHeld_rows : ∀ p ∈ slowHeld, p.1 % 4 = 0 ∧ rowIs p.1 .rws p.2 = true ∧ SlowStores p.1 := by decide +kernel

/-! ### The value a write leaves -/

/-- Under its mask, a register with the bits of a write at its aliases set, cleared or inverted. -/
theorem maskIn_or (old v mask : Word) : maskIn old (old ||| v) mask = old ||| (v &&& mask) := by
  ext i
  grind [maskIn]

theorem maskIn_and_not (old v mask : Word) : maskIn old (old &&& ~~~v) mask = old &&& ~~~(v &&& mask) := by
  ext i
  grind [maskIn]

theorem maskIn_xor (old v mask : Word) : maskIn old (old ^^^ v) mask = old ^^^ (v &&& mask) := by
  ext i
  grind [maskIn]

/-- A bit of a masked write is the value's where the value's upper half selects it and the register has it (R39). -/
theorem getLsbD_maskedValue (old v mask : Word) (i : Fin 16) :
    (maskedValue old v mask).getLsbD i = if v.getLsbD (16 + i) && mask.getLsbD i then v.getLsbD i else old.getLsbD i := by
  have hlow : (0xFFFF : Word).getLsbD i = true := by
    revert i
    decide
  have hi : (i : Nat) < 32 := by omega
  simp only [maskedValue, BitVec.getLsbD_or, BitVec.getLsbD_and, BitVec.getLsbD_not, BitVec.getLsbD_ushiftRight, hlow, hi]
  cases v.getLsbD (16 + i) <;> cases mask.getLsbD i <;> simp

/-! ### Writes of the CORE domain -/

/-- What an applied write leaves that only stores its value: that register has it, and nothing else has changed. -/
theorem Dev.applied_coreEffect_onlyReg {s : State} (hw : cellsWf s.dev.regs = true) {off : Nat} (h : CoreStores off) (who form : Nat)
    (new v : Word) : (s.clear.applied (s.clear.coreEffect who off new) off v form).onlyReg s.dev off new :=
  Dev.onlyReg_of_wr hw (by rw [Dev.applied_regs, Dev.coreEffect_regs h]; rfl) (by simp)

theorem does_registerWrite_core {s : State} {who : Requester} {p : Nat × Word} {v : Word} (hp : p ∈ coreHeld) (hw : cellsWf s.dev.regs = true)
    (hden : s.dev.writeDenied who.val p.1 v = none) :
    Does (.registerWrite who p.1 v 15) s fun d => d.onlyReg s.dev p.1 ((s.dev.rd p.1 &&& ~~~p.2) ||| (v &&& p.2)) := by
  obtain ⟨halign, hrow, hstores, -⟩ := coreHeld_rows p hp
  refine does_registerWrite halign hden ?_
  rw [Dev.regWrite_rwa hrow]
  exact Dev.applied_coreEffect_onlyReg hw hstores _ _ _ _

/-- A write at the `k`-th of the aliases of a listed register, as a command that goes through the hub. -/
theorem does_aliasWrite_core {c : Instr} {s : State} {who : Requester} {p : Nat × Word} {v x : Word} {k off : Nat} (hp : p ∈ coreHeld)
    (hw : cellsWf s.dev.regs = true) (hc : exec c s = s.act fun d => d.hubPut who.val off v) (hden : s.dev.writeDenied who.val off v = none)
    (halias : aliasOf off = some (k, p.1)) (hx : maskIn (s.dev.rd p.1) (aliasValue k (s.dev.rd p.1) v) p.2 = x) :
    Does c s fun d => d.onlyReg s.dev p.1 x := by
  obtain ⟨-, hrow, hstores, -⟩ := coreHeld_rows p hp
  refine does_hubPut hc hden ?_
  rw [Dev.regWrite_alias halias, Dev.aliasWrite_rwa hrow, State.clear_rd, hx]
  exact Dev.applied_coreEffect_onlyReg hw hstores _ _ _ _

theorem exec_setAliasWrite (who : Requester) (off : Nat) (v : Word) (s : State) :
    exec (.setAliasWrite who off v) s = s.act fun d => d.hubPut who.val (off + 0x10000) v := by
  unfold exec
  rfl

theorem exec_clearAliasWrite (who : Requester) (off : Nat) (v : Word) (s : State) :
    exec (.clearAliasWrite who off v) s = s.act fun d => d.hubPut who.val (off + 0x20000) v := by
  unfold exec
  rfl

theorem exec_toggleAliasWrite (who : Requester) (off : Nat) (v : Word) (s : State) :
    exec (.toggleAliasWrite who off v) s = s.act fun d => d.hubPut who.val (off + 0x30000) v := by
  unfold exec
  rfl

theorem exec_maskedWrite (who : Requester) (off : Nat) (v : Word) (s : State) :
    exec (.maskedWrite who off v) s = s.act fun d => d.hubPut who.val off v := by
  unfold exec
  rfl

theorem plainAndAliasWrites : Claims.PlainAndAliasWrites := by
  unfold Claims.PlainAndAliasWrites
  intro s who p v hp hInv
  obtain ⟨-, -, -, hset, hclear, htoggle⟩ := coreHeld_rows p hp
  refine ⟨does_registerWrite_core hp hInv.regs, fun hden => ?_, fun hden => ?_, fun hden => ?_⟩
  · exact does_aliasWrite_core hp hInv.regs (exec_setAliasWrite ..) hden hset (maskIn_or ..)
  · exact does_aliasWrite_core hp hInv.regs (exec_clearAliasWrite ..) hden hclear (maskIn_and_not ..)
  · exact does_aliasWrite_core hp hInv.regs (exec_toggleAliasWrite ..) hden htoggle (maskIn_xor ..)

theorem does_maskedWrite {s : State} {who : Requester} {p : Nat × Word} {v : Word} (hp : p ∈ maskedHeld) (hw : cellsWf s.dev.regs = true)
    (hden : s.dev.writeDenied who.val p.1 v = none) :
    Does (.maskedWrite who p.1 v) s fun d => d.onlyReg s.dev p.1 (d.rd p.1) ∧
      ∀ i : Fin 16, (d.rd p.1).getLsbD i = if v.getLsbD (16 + i) && p.2.getLsbD i then v.getLsbD i else (s.dev.rd p.1).getLsbD i := by
  obtain ⟨hrow, hstores⟩ := maskedHeld_rows p hp
  refine does_hubPut (exec_maskedWrite ..) hden ?_
  rw [Dev.regWrite_rwm hrow, State.clear_rd]
  have honly := Dev.applied_coreEffect_onlyReg hw hstores who.val 4 (maskedValue (s.dev.rd p.1) v p.2) v
  rw [honly.1]
  exact ⟨honly, getLsbD_maskedValue _ _ _⟩

/-! ### Writes of the slow domains -/

theorem Dev.rwsPost_busy {d : Dev} {off : Nat} (h : (d.hub.rws.any fun x => x.frame == frameOf off) = true) (who : Nat) (v : Word) :
    d.rwsPost who off v = d.bump (frameOf off * 0x10000 + 0xFFF4) := if_pos h

theorem Dev.rwsPost_free {d : Dev} {off : Nat} (h : ¬(d.hub.rws.any fun x => x.frame == frameOf off) = true) (who : Nat) (v : Word) :
    d.rwsPost who off v =
      { d with hub := { d.hub with rws := d.hub.rws ++ [{ frame := frameOf off, off := off, val := v, who := who }] } } := if_neg h

/-- A write of a slow register is counted and dropped while its frame is busy, and held in flight while it is free (R41). -/
theorem does_registerWrite_slow {s : State} {who : Requester} {p : Nat × Word} {v : Word} (hp : p ∈ slowHeld) (hw : cellsWf s.dev.regs = true)
    (hden : s.dev.writeDenied who.val p.1 v = none) :
    Does (.registerWrite who p.1 v 15) s fun d =>
      if s.dev.hub.rws.any (fun x => x.frame == frameOf p.1) then
        d.onlyReg s.dev (frameOf p.1 * 0x10000 + 0xFFF4) (s.dev.rd (frameOf p.1 * 0x10000 + 0xFFF4) + 1) ∧ d.hub = s.dev.hub
      else d.sameStores s.dev ∧ d.hub.rws = s.dev.hub.rws ++ [{ frame := frameOf p.1, off := p.1, val := v, who := who.val }] := by
  obtain ⟨halign, hrow, -⟩ := slowHeld_rows p hp
  refine does_registerWrite halign hden ?_
  rw [Dev.regWrite_rws hrow]
  split
  next hbusy =>
    rw [Dev.rwsPost_busy (d := s.clear) hbusy]
    exact ⟨Dev.onlyReg_of_bump hw rfl rfl, rfl⟩
  next hfree =>
    rw [Dev.rwsPost_free (d := s.clear) hfree]
    exact ⟨⟨rfl, rfl⟩, rfl⟩

theorem does_rwsApply {s : State} {p : Nat × Word} {x : RwsWrite} (hp : p ∈ slowHeld) (hw : cellsWf s.dev.regs = true)
    (hx : (s.dev.hub.rws.find? fun y => y.frame == frameOf p.1) = some x) (hoff : x.off = p.1) :
    Does (.rwsApply (frameOf p.1)) s fun d => d.onlyReg s.dev p.1 ((s.dev.rd p.1 &&& ~~~p.2) ||| (x.val &&& p.2)) ∧
      d.hub.rws = s.dev.hub.rws.filter fun y => y.frame != frameOf p.1 := by
  obtain ⟨-, hrow, hstores⟩ := slowHeld_rows p hp
  obtain ⟨-, r, hr, -, hmask⟩ := rowIs_iff.mp hrow
  refine does_act (fun d => d.rwsApply (frameOf p.1)) (by unfold exec; rfl) ?_
  simp only [Dev.rwsApply, State.clear_hub, hx, Dev.rwsReach, hoff, hr, hmask, Dev.slowEffect_eq_wr hstores]
  exact ⟨Dev.onlyReg_of_wr hw (by rw [Dev.applied_regs]; rfl) (by simp), by simp⟩

theorem maskedAndSlowWrites : Claims.MaskedAndSlowWrites := by
  unfold Claims.MaskedAndSlowWrites
  exact fun s who v hInv => ⟨fun p hp => does_maskedWrite hp hInv.regs, fun p hp => does_registerWrite_slow hp hInv.regs,
    fun p hp x => does_rwsApply hp hInv.regs⟩

/-- Settles O10: its two parts, a command at a time. -/
theorem registerClasses : Obligations.RegisterClasses := by
  unfold Obligations.RegisterClasses
  exact ⟨plainAndAliasWrites, maskedAndSlowWrites⟩

end Sys2Proof.Machine
end

section
/-!
O11: keyed pairs (R40) and 64-bit values (R42).
-/
namespace Sys2Proof.Machine

/-! ### Keyed pairs -/

theorem depFaultAct_row : rowIs Reg.depFaultAct .rwk 0xFFFFFFFF = true := by decide +kernel

theorem depFaultActKey_row : rowIs (Reg.depFaultAct + 4) .key 0 = true := by decide +kernel

theorem exec_keyedArm (who : Requester) (off : Nat) (v : Word) (s : State) :
    exec (.keyedArm who off v) s = s.act fun d => d.hubPut who.val off v := by
  unfold exec
  rfl

theorem exec_keyedCommit (who : Requester) (off : Nat) (v : Word) (s : State) :
    exec (.keyedCommit who off v) s = s.act fun d => d.hubPut who.val (off + 4) v := by
  unfold exec
  rfl

/-- No attempt at a register stands, so none is discarded for a new one. -/
theorem filter_ne_of_not_armed {l : List Armed} {off : Nat} (h : ¬(l.any fun a => a.off == off) = true) :
    (l.filter fun a => a.off != off) = l := by
  simpa [List.filter_eq_self] using h

/-- An attempt that is discarded leaves the armed ones without it, and counts (R40). -/
theorem Dev.dropArmed_onlyReg {s : State} (hw : cellsWf s.dev.regs = true) (off : Nat) :
    (s.clear.dropArmed off).onlyReg s.dev Reg.sysKeyReject (s.dev.rd Reg.sysKeyReject + 1) := Dev.onlyReg_of_bump hw rfl rfl

/-- A device is its own with any register at the value it has. -/
theorem Dev.onlyReg_of_eq {d o : Dev} {a : Nat} (hr : d.regs = o.regs) (hm : d.mem = o.mem) : d.onlyReg o a (o.rd a) :=
  have hrd : ∀ x, d.rd x = o.rd x := fun x => congrArg (cellGet · x) hr
  ⟨hrd a, fun x _ => hrd x, hm⟩

theorem Dev.keyedArm_replaces {d : Dev} {off : Nat} (h : (d.hub.armed.any fun a => a.off == off) = true) (who : Nat) (v : Word) :
    d.keyedArm who off v = { d.dropArmed off with
      hub := { (d.dropArmed off).hub with armed := (d.dropArmed off).hub.armed ++ [{ off := off, who := who, val := v }] } } := by
  simp only [Dev.keyedArm, h, if_true]

theorem Dev.keyedArm_new {d : Dev} {off : Nat} (h : ¬(d.hub.armed.any fun a => a.off == off) = true) (who : Nat) (v : Word) :
    d.keyedArm who off v = { d with hub := { d.hub with armed := d.hub.armed ++ [{ off := off, who := who, val := v }] } } := by
  simp only [Dev.keyedArm, h]
  rfl

theorem does_keyedArm {s : State} {who : Requester} {v : Word} (hw : cellsWf s.dev.regs = true)
    (hden : s.dev.writeDenied who.val Reg.depFaultAct v = none) :
    Does (.keyedArm who Reg.depFaultAct v) s fun d =>
      d.hub.armed = (s.dev.hub.armed.filter fun a => a.off != Reg.depFaultAct) ++ [{ off := Reg.depFaultAct, who := who.val, val := v }] ∧
      d.onlyReg s.dev Reg.sysKeyReject (s.dev.rd Reg.sysKeyReject +
        if s.dev.hub.armed.any (fun a => a.off == Reg.depFaultAct) then 1 else 0) := by
  refine does_hubPut (exec_keyedArm ..) hden ?_
  rw [Dev.regWrite_rwk depFaultAct_row]
  split
  next harmed =>
    rw [Dev.keyedArm_replaces (d := s.clear) harmed]
    exact ⟨rfl, Dev.onlyReg_of_bump hw rfl rfl⟩
  next hfree =>
    rw [Dev.keyedArm_new (d := s.clear) hfree, filter_ne_of_not_armed hfree, add_zero]
    exact ⟨rfl, Dev.onlyReg_of_eq rfl rfl⟩

/-- The companion write that commits a value of a register of the CORE domain. -/
theorem Dev.keyedCompanion_commits {d : Dev} {who off : Nat} {v x : Word} (h : d.commits who off v = some x) :
    d.keyedCompanion who off v false =
      ({ d with hub := { d.hub with armed := d.hub.armed.filter fun a => a.off != off } }).applied
        (({ d with hub := { d.hub with armed := d.hub.armed.filter fun a => a.off != off } }).keyedEffect who off x) off x 5 := by
  simp [Dev.keyedCompanion, h]

theorem Dev.keyedCompanion_drops {d : Dev} {who off : Nat} {v : Word} (h : d.commits who off v = none) :
    d.keyedCompanion who off v false = d.dropArmed off := by
  simp [Dev.keyedCompanion, h]

/-- A commit of DEP_FAULT_ACT leaves its fixed fields (R461). -/
theorem Dev.keyedEffect_depFaultAct (d : Dev) (who : Nat) (v : Word) :
    d.keyedEffect who Reg.depFaultAct v = d.wr Reg.depFaultAct ((v &&& ~~~fixedActs) ||| (d.rd Reg.depFaultAct &&& fixedActs)) := rfl

/-- A command that writes the companion of DEP_FAULT_ACT. -/
theorem does_keyedCommit {s : State} {who : Requester} {v : Word} {P : Dev → Prop}
    (hden : s.dev.writeDenied who.val (Reg.depFaultAct + 4) v = none) (hP : P (s.clear.keyedCompanion who.val Reg.depFaultAct v false)) :
    Does (.keyedCommit who Reg.depFaultAct v) s P := by
  refine does_hubPut (exec_keyedCommit ..) hden ?_
  rwa [Dev.regWrite_key depFaultActKey_row]

theorem does_keyedCommit_commits {s : State} {who : Requester} {v x : Word} (hw : cellsWf s.dev.regs = true)
    (hx : s.dev.commits who.val Reg.depFaultAct v = some x) (hden : s.dev.writeDenied who.val (Reg.depFaultAct + 4) v = none) :
    Does (.keyedCommit who Reg.depFaultAct v) s fun d =>
      d.onlyReg s.dev Reg.depFaultAct ((x &&& ~~~fixedActs) ||| (s.dev.rd Reg.depFaultAct &&& fixedActs)) ∧
      d.hub.armed = s.dev.hub.armed.filter fun a => a.off != Reg.depFaultAct := by
  refine does_keyedCommit hden ?_
  rw [Dev.keyedCompanion_commits (d := s.clear) hx, Dev.keyedEffect_depFaultAct]
  exact ⟨Dev.onlyReg_of_wr hw (by rw [Dev.applied_regs]; rfl) (by simp), by simp⟩

theorem does_keyedCommit_drops {s : State} {who : Requester} {v : Word} (hw : cellsWf s.dev.regs = true)
    (hx : s.dev.commits who.val Reg.depFaultAct v = none) (hden : s.dev.writeDenied who.val (Reg.depFaultAct + 4) v = none) :
    Does (.keyedCommit who Reg.depFaultAct v) s fun d => d.onlyReg s.dev Reg.sysKeyReject (s.dev.rd Reg.sysKeyReject + 1) ∧
      d.hub.armed = s.dev.hub.armed.filter fun a => a.off != Reg.depFaultAct := by
  refine does_keyedCommit hden ?_
  rw [Dev.keyedCompanion_drops (d := s.clear) hx]
  exact ⟨Dev.dropArmed_onlyReg hw _, rfl⟩

theorem does_keyedExpiry {s : State} {off : Nat} (hw : cellsWf s.dev.regs = true) (h : (s.dev.hub.armed.any fun a => a.off == off) = true) :
    Does (.keyedExpiry off) s fun d => d.onlyReg s.dev Reg.sysKeyReject (s.dev.rd Reg.sysKeyReject + 1) ∧
      d.hub.armed = s.dev.hub.armed.filter fun a => a.off != off := by
  refine does_act (fun d => if d.hub.armed.any fun a => a.off == off then d.dropArmed off else d) (by unfold exec; rfl) ?_
  rw [if_pos (by simpa using h)]
  exact ⟨Dev.dropArmed_onlyReg hw _, rfl⟩

theorem keyedWrites : Claims.KeyedWrites := by
  unfold Claims.KeyedWrites
  exact fun s who v hInv => ⟨does_keyedArm hInv.regs, fun x => does_keyedCommit_commits hInv.regs, does_keyedCommit_drops hInv.regs,
    fun off => does_keyedExpiry hInv.regs⟩

/-! ### 64-bit values -/

/-- The SCI of a MAC is a writable 64-bit value, every bit of which a write reaches. -/
theorem gthMsTxSci_rows : ∀ n : Fin 14, rowIs (Reg.gthMsTxSci + 0x40 * n) .lo64 0xFFFFFFFF = true ∧
    rowIs (Reg.gthMsTxSci + 0x40 * n + 4) .hi64 0xFFFFFFFF = true := by decide +kernel

/-- A 64-bit value that a write only stores: none of the effects of `Dev.wideEffect` is its own. -/
abbrev WideStores (off : Nat) : Prop :=
  winAt off = none ∧ instOf off Reg.gzbChRing 0x40 16 = none ∧ instOf off Reg.winSemAddr 8 16 = none ∧
    instOf off Reg.pglCrBase 0x20 8 = none ∧ ¬(Reg.trlTabBase ≤ off ∧ off < Reg.trlTabBase + 0x40)

theorem gthMsTxSci_wideStores : ∀ n : Fin 14, WideStores (Reg.gthMsTxSci + 0x40 * n) := by decide +kernel

theorem Dev.wideEffect_eq_wr64 {off : Nat} (h : WideStores off) (d : Dev) (x : Nat) : d.wideEffect off x = d.wr64 off x := by
  obtain ⟨hwin, hring, hsem, hcap, htab⟩ := h
  have hlocked : ¬(Reg.trlTabBase ≤ off ∧ off < Reg.trlTabBase + 0x40 ∧ d.areaLocked ((off - Reg.trlTabBase) / 0x20) = true) :=
    fun ⟨hlo, hhi, _⟩ => htab ⟨hlo, hhi⟩
  simp only [Dev.wideEffect, hwin, hring, hsem, hcap, hlocked, if_false]

/-- The two words of a 64-bit number are the ones it was made of. -/
theorem Dev.wr64_words (d : Dev) (off : Nat) (lo hi : Word) :
    d.wr64 off (lo.toNat + 2 ^ 32 * hi.toNat) = (d.wr off lo).wr (off + 4) hi := by
  have hlo : BitVec.ofNat 32 (lo.toNat + 2 ^ 32 * hi.toNat) = lo := by
    apply BitVec.eq_of_toNat_eq
    rw [BitVec.toNat_ofNat]
    omega
  have hhi : BitVec.ofNat 32 ((lo.toNat + 2 ^ 32 * hi.toNat) / 2 ^ 32) = hi := by
    apply BitVec.eq_of_toNat_eq
    rw [BitVec.toNat_ofNat]
    omega
  rw [Dev.wr64, hlo, hhi]

/-- A whole write of a 64-bit value that is only stored puts both words, and changes no other register. -/
theorem Dev.wideWrite_regs {off : Nat} (hlo : rowIs off .lo64 0xFFFFFFFF = true) (hhi : rowIs (off + 4) .hi64 0xFFFFFFFF = true)
    (hst : WideStores off) (d : Dev) (lo hi : Word) : (d.wideWrite off lo hi).regs = ((d.wr off lo).wr (off + 4) hi).regs := by
  obtain ⟨-, rl, hrl, -, hml⟩ := rowIs_iff.mp hlo
  obtain ⟨-, rh, hrh, -, hmh⟩ := rowIs_iff.mp hhi
  have hfull : ∀ v : Word, v &&& 0xFFFFFFFF = v := fun v => BitVec.and_allOnes
  simp only [Dev.wideWrite, hrl, hrh, hml, hmh, hfull, Dev.wideEffect_eq_wr64 hst, Dev.wr64_words]
  split
  · rfl
  · rw [Dev.applied_regs, Dev.applied_regs]

/-- What a device has whose registers are those of another with both words of a 64-bit value written. -/
theorem Dev.rd_words {d o : Dev} {off : Nat} {lo hi : Word} (hw : cellsWf o.regs = true) (hr : d.regs = ((o.wr off lo).wr (off + 4) hi).regs) :
    d.rd off = lo ∧ d.rd (off + 4) = hi ∧ ∀ x, x ≠ off → x ≠ off + 4 → d.rd x = o.rd x := by
  have hrd : ∀ x, d.rd x = if x = off + 4 then hi else if x = off then lo else o.rd x := fun x => by
    rw [← Dev.rd_wr hw, ← Dev.rd_wr (Dev.wr_wf hw ..)]
    exact congrArg (cellGet · x) hr
  refine ⟨?_, ?_, fun x hlo hhi => ?_⟩
  · rw [hrd, if_neg (by omega), if_pos rfl]
  · rw [hrd, if_pos rfl]
  · rw [hrd, if_neg hhi, if_neg hlo]

theorem exec_rw64LowWrite (who : Requester) (off : Nat) (v : Word) (s : State) :
    exec (.rw64LowWrite who off v) s = s.act fun d => d.hubPut who.val off v := by
  unfold exec
  rfl

theorem exec_rw64HighWrite (who : Requester) (off : Nat) (v : Word) (s : State) :
    exec (.rw64HighWrite who off v) s = s.act fun d => d.hubPut who.val (off + 4) v := by
  unfold exec
  rfl

theorem Dev.reject_rd {d : Dev} (hw : cellsWf d.regs = true) {off : Nat} (h : off ≠ Reg.sysAccessReject) : d.reject.rd off = d.rd off :=
  Dev.rd_wr_ne hw _ h

/-- What a held low word leaves (R42): it stands with its writer's number, and nobody else's is held. -/
theorem Dev.wideLow_holds {d : Dev} (hw : cellsWf d.regs = true) (who : Nat) {off : Nat} (hoff : off ≠ Reg.sysAccessReject) (v : Word) :
    { off := off, who := who, low := v } ∈ (d.wideLow who off v).hub.held64 ∧ (d.wideLow who off v).rd off = d.rd off ∧
      ∀ h ∈ (d.wideLow who off v).hub.held64, h.off = off → h.who = who := by
  have hheld : (d.wideLow who off v).hub.held64 =
      d.hub.held64.filter (fun h => h.off != off) ++ [{ off := off, who := who, low := v }] := by
    unfold Dev.wideLow
    dsimp only
    split <;> rfl
  refine ⟨?_, ?_, fun h hmem hat => ?_⟩
  · simp [hheld]
  · unfold Dev.wideLow
    dsimp only
    split
    · exact Dev.reject_rd hw hoff
    · rfl
  · rw [hheld, List.mem_append, List.mem_filter, List.mem_singleton] at hmem
    rcases hmem with ⟨-, hne⟩ | rfl
    · exact absurd hat (by simpa using hne)
    · rfl

theorem does_rw64LowWrite {s : State} {who : Requester} {off : Nat} {mask v : Word} (hw : cellsWf s.dev.regs = true)
    (hrow : rowIs off .lo64 mask = true) (hoff : off ≠ Reg.sysAccessReject) (hden : s.dev.writeDenied who.val off v = none) :
    Does (.rw64LowWrite who off v) s fun d => { off := off, who := who.val, low := v } ∈ d.hub.held64 ∧ d.mem = s.dev.mem ∧
      d.rd off = s.dev.rd off ∧ ∀ h ∈ d.hub.held64, h.off = off → h.who = who.val := by
  refine does_hubPut (exec_rw64LowWrite ..) hden ?_
  rw [Dev.regWrite_lo64 hrow]
  obtain ⟨hmem, hrd, hwho⟩ := Dev.wideLow_holds (d := s.clear) hw who.val hoff v
  exact ⟨hmem, by simp, hrd, hwho⟩

section
variable {s : State} {who : Requester} {off : Nat} (hw : cellsWf s.dev.regs = true) (hlo : rowIs off .lo64 0xFFFFFFFF = true)
  (hhi : rowIs (off + 4) .hi64 0xFFFFFFFF = true) (hst : WideStores off)
include hw hlo hhi hst

theorem does_rw64HighWrite {v : Word} (hden : s.dev.writeDenied who.val (off + 4) v = none) :
    Does (.rw64HighWrite who off v) s fun d => d.rd (off + 4) = v ∧
      d.rd off = (match s.dev.hub.held64.find? fun h => h.off == off && h.who == who.val with | some h => h.low | none => s.dev.rd off) ∧
      (∀ x, x ≠ off → x ≠ off + 4 → d.rd x = s.dev.rd x) ∧ d.mem = s.dev.mem := by
  refine does_hubPut (exec_rw64HighWrite ..) hden ?_
  rw [Dev.regWrite_hi64 hhi, Nat.add_sub_cancel]
  unfold Dev.wideHigh
  split
  next h hheld =>
    obtain ⟨hl, hh, hother⟩ := Dev.rd_words hw (Dev.wideWrite_regs hlo hhi hst
      { s.clear with hub := { s.clear.hub with held64 := s.clear.hub.held64.filter fun x => x.off != off } } h.low v)
    rw [State.clear_hub] at hheld
    rw [hheld]
    exact ⟨hh, hl, hother, by simp⟩
  next hheld =>
    obtain ⟨hl, hh, hother⟩ := Dev.rd_words hw (Dev.wideWrite_regs hlo hhi hst s.clear (s.dev.rd off) v)
    rw [State.clear_hub] at hheld
    rw [hheld]
    exact ⟨hh, hl, hother, by simp⟩

theorem does_rw64FullWrite {lo hi : Word} (hden : s.dev.writeDenied who.val off lo = none) :
    Does (.rw64FullWrite who off lo hi) s fun d => d.rd off = lo ∧ d.rd (off + 4) = hi ∧
      (∀ x, x ≠ off → x ≠ off + 4 → d.rd x = s.dev.rd x) ∧ d.mem = s.dev.mem := by
  obtain ⟨-, r, hr, hcls, -⟩ := rowIs_iff.mp hlo
  refine does_act (fun d => d.hubPut64 who.val off lo hi) (by unfold exec; rfl) ?_
  have hput : s.clear.hubPut64 who.val off lo hi = s.clear.wideFull who.val off lo hi := by
    simp only [Dev.hubPut64, Dev.hubWrite64, hr, hcls, State.clear_writeDenied, hden, if_true]
  rw [hput]
  obtain ⟨hl, hh, hother⟩ := Dev.rd_words (d := s.clear.wideFull who.val off lo hi) hw (Dev.wideWrite_regs hlo hhi hst _ lo hi)
  exact ⟨hl, hh, hother, by simp⟩

end

theorem gthMsTxSci_ne_sysAccessReject (n : Fin 14) : Reg.gthMsTxSci + 0x40 * n.val ≠ Reg.sysAccessReject := by
  simp only [Reg.gthMsTxSci, Reg.sysAccessReject]
  omega

theorem wideWrites : Claims.WideWrites := by
  unfold Claims.WideWrites
  intro s who n lo hi hInv
  obtain ⟨hlo, hhi⟩ := gthMsTxSci_rows n
  have hst := gthMsTxSci_wideStores n
  exact ⟨does_rw64LowWrite hInv.regs hlo (gthMsTxSci_ne_sysAccessReject n), does_rw64HighWrite hInv.regs hlo hhi hst,
    does_rw64FullWrite hInv.regs hlo hhi hst⟩

/-- Settles O11: its two parts, a command at a time. -/
theorem pairedWrites : Obligations.PairedWrites := by
  unfold Obligations.PairedWrites
  exact ⟨keyedWrites, wideWrites⟩

end Sys2Proof.Machine
end

section
/-!
O12: damaged registers (R47), the read of VT (R242) and restore-factory (R491).
-/
namespace Sys2Proof.Machine

/-! ### Damaged registers -/

@[simp] theorem Dev.log_hub (d : Dev) (c : Culprit) (type : ErrType) (ga detail count : Nat) : (d.log c type ga detail count).hub = d.hub := by
  unfold Dev.log
  dsimp only
  split <;> rfl

/-- What a log entry does to the registers beside the two counters of the log itself: its type is counted (R284). -/
theorem Dev.log_rd {d : Dev} (hw : cellsWf d.regs = true) (c : Culprit) (type : ErrType) (ga detail count : Nat) {off : Nat}
    (hovf : off ≠ Reg.intElOvf) (hwritten : off ≠ Reg.intElWritten) : (d.log c type ga detail count).rd off =
      if off = Reg.intTypeCount + 4 * errCode type then d.rd off + BitVec.ofNat 32 count else d.rd off := by
  have hcount : (d.bump (Reg.intTypeCount + 4 * errCode type) count).rd off =
      if off = Reg.intTypeCount + 4 * errCode type then d.rd off + BitVec.ofNat 32 count else d.rd off := by
    rw [Dev.rd_bump hw]
    split
    next h => rw [h]
    next => rfl
  have hwf := Dev.bump_wf hw (Reg.intTypeCount + 4 * errCode type) count
  unfold Dev.log
  dsimp only
  split
  · exact (Dev.rd_wr_ne hwf _ hovf).trans hcount
  · exact (Dev.rd_wr_ne hwf _ hwritten).trans hcount

/-- None of the registers of `coreHeld` is a counter that a parity failure advances. -/
theorem coreHeld_not_counted : ∀ p ∈ coreHeld, p.1 ≠ Reg.intElOvf ∧ p.1 ≠ Reg.intElWritten ∧
    p.1 ≠ Reg.intTypeCount + 4 * errCode .parity := by decide

/-- A register with parity that is found damaged for the first time. -/
theorem Dev.parityFail_first {d : Dev} {off : Nat} {mask : Word} (hrow : rowIs off .rwa mask = true)
    (hnew : (d.hub.damaged.any fun x => x.off == off) = false) (v : Word) (ok : Bool) : d.parityFail off v ok =
      (({ d with hub := { d.hub with damaged := d.hub.damaged ++ [({ off := off, shadow := d.rd off, ok := ok } : Damage)] } }).wr off v).log {} .parity
        (d.devid * 2 ^ 38 + off) (2 ^ 31 + off) := by
  obtain ⟨-, r, hr, hcls, -⟩ := rowIs_iff.mp hrow
  simp only [Dev.parityFail, hr, hcls, parityClass, hnew, Bool.not_true, Bool.false_or, Bool.false_eq_true, if_false]
  rfl

theorem does_cfgParityMismatch {s : State} {p : Nat × Word} (hp : p ∈ coreHeld) (hw : cellsWf s.dev.regs = true)
    (hnew : (s.dev.hub.damaged.any fun x => x.off == p.1) = false) (v : Word) (ok : Bool) :
    Does (.cfgParityMismatch p.1 v ok) s fun d => d.rd p.1 = v ∧
      d.hub.damaged = s.dev.hub.damaged ++ [{ off := p.1, shadow := s.dev.rd p.1, ok := ok }] ∧
      d.rd (Reg.intTypeCount + 4 * errCode .parity) = s.dev.rd (Reg.intTypeCount + 4 * errCode .parity) + 1 ∧ d.mem = s.dev.mem := by
  obtain ⟨-, hrow, -⟩ := coreHeld_rows p hp
  obtain ⟨hovf, hwritten, htype⟩ := coreHeld_not_counted p hp
  refine does_act (fun d => d.parityFail p.1 v ok) (by unfold exec; rfl) ?_
  rw [Dev.parityFail_first (d := s.clear) hrow hnew]
  have hwf : cellsWf (cellSet s.dev.regs p.1 v) = true := cellsWf_set _ _ hw
  refine ⟨?_, by rw [Dev.log_hub]; rfl, ?_, Dev.log_mem ..⟩
  · rw [Dev.log_rd hwf _ _ _ _ _ hovf hwritten, if_neg htype]
    exact Dev.rd_wr_same (d := s.dev) hw p.1 v
  · rw [Dev.log_rd hwf _ _ _ _ _ (by decide) (by decide), if_pos rfl]
    exact congrArg (· + 1) (Dev.rd_wr_ne (d := s.dev) hw v (Ne.symm htype))

/-! ### The read of VT -/

theorem aliasOf_blvVtLo : aliasOf Reg.blvVtLo = none := by decide

/-- A read of BLV_VT_LO shows the low word of VT (R242). -/
theorem Dev.regWord_blvVtLo (d : Dev) (who : Nat) : d.regWord who Reg.blvVtLo = BitVec.ofNat 32 d.blv.vt := by
  have hderived : d.derived Reg.blvVtLo = some (wordOf d.blv.vt) := rfl
  simp only [Dev.regWord, aliasOf_blvVtLo, hderived]
  rfl

/-- The fraction of VT that a read of its low word latches for the reader (R242). -/
theorem Dev.hubRead_blvVtLo (d : Dev) (who : Nat) : d.hubRead who Reg.blvVtLo =
    ({ d with hub := { d.hub with vtFrac := (who, d.blv.acc / 2 ^ 32) :: d.hub.vtFrac.filter fun x => x.1 != who } },
      BitVec.ofNat 32 d.blv.vt) := by
  rw [Dev.hubRead, Dev.regWord_blvVtLo, if_pos rfl]

theorem after_vtLoRead (s : State) (who : Requester) :
    After (.vtLoRead who) s fun d => Emit.word (BitVec.ofNat 32 s.dev.blv.vt) ∈ d.out ∧
      (d.hub.vtFrac.find? fun x => x.1 == who.val) = some (who.val, s.dev.blv.acc / 2 ^ 32) ∧ d.mem = s.dev.mem := by
  refine after_act (fun d => (d.hubRead who.val Reg.blvVtLo).1.emit (.word (d.hubRead who.val Reg.blvVtLo).2)) (by unfold exec; rfl) ?_
  rw [Dev.hubRead_blvVtLo]
  refine ⟨settle_out _ _ _ (by simp), ?_, by simp⟩
  rw [settle_hub_vtFrac]
  simp

/-! ### Restore-factory -/

/-- Without a running CAL_WRITE the erasure begins at once (R53); it erases nothing yet. -/
theorem Dev.eraseStart_idle {d : Dev} (h : d.ldg.mbx = none) : d.eraseStart.ldg.erasing = true ∧ d.eraseStart.ldg.flash = d.ldg.flash := by
  unfold Dev.eraseStart
  split
  next herasing => exact ⟨herasing, rfl⟩
  next => simp [h]

theorem after_restoreFactory {s : State} (h : s.dev.ldg.mbx = none) :
    After .restoreFactory s fun d => d.ldg.erasing = true ∧ d.ldg.flash = s.dev.ldg.flash := by
  refine after_act Dev.eraseStart (by unfold exec; rfl) ?_
  rw [settle_ldg_erasing, settle_ldg_flash]
  exact Dev.eraseStart_idle (d := s.clear) h

/-- A cell of a store whose cells are chosen by their numbers. -/
theorem cellGet_filter {w : Nat} (p : Nat → Bool) (a : Nat) : ∀ {b : Nat} {m : Sparse w}, cellsAbove b m = true →
    cellGet (m.filter fun c => p c.1) a = if p a then cellGet m a else 0
  | _, [], _ => by simp [cellGet]
  | b, (k, v) :: t, h => by
    simp only [cellsAbove, Bool.and_eq_true, decide_eq_true_eq] at h
    obtain ⟨-, ht⟩ := h
    have ih := cellGet_filter p a ht
    have hzero : a ≤ k → cellGet t a = 0 := fun ha => cellGet_above (by omega) ht
    simp only [List.filter_cons]
    rcases lt_trichotomy a k with hak | rfl | hak
    · have hne : k ≠ a := by omega
      split <;> simp [cellGet, hak, hne, ih, hzero hak.le]
    · by_cases hp : p a = true <;> simp [cellGet, ih, hp]
    · have hne : k ≠ a := by omega
      have hlt : ¬a < k := by omega
      split <;> simp [cellGet, hne, hlt, ih]

/-- A cell of a store where a range has been cleared. -/
theorem cellGet_clear {w : Nat} {m : Sparse w} (h : cellsWf m = true) (lo hi a : Nat) :
    cellGet (cellsClear m lo hi) a = if lo ≤ a ∧ a < hi then 0 else cellGet m a := by
  rw [cellsClear, cellGet_filter (fun k => decide (k < lo) || decide (hi ≤ k)) a h]
  grind

/-- Both user copies of the calibration data lie in the 32 KiB from 0x10000 on (R491). -/
theorem Dev.eraseEnd_erases {d : Dev} (hf : cellsWf d.ldg.flash = true) (h : d.ldg.erasing = true) :
    d.eraseEnd.ldg.erasing = false ∧
      ∀ a, cellGet d.eraseEnd.ldg.flash a = if 0x10000 ≤ a ∧ a < 0x18000 then 0 else cellGet d.ldg.flash a := by
  rw [Dev.eraseEnd, if_pos h]
  refine ⟨rfl, fun a => ?_⟩
  change cellGet (cellsClear (cellsClear d.ldg.flash 0x14000 (0x14000 + 0x4000)) 0x10000 (0x10000 + 0x4000)) a = _
  rw [cellGet_clear (cellsWf_clear _ _ hf), cellGet_clear hf]
  grind

theorem after_calEraseDone {s : State} (hf : cellsWf s.dev.ldg.flash = true) (h : s.dev.ldg.erasing = true) :
    After .calEraseDone s fun d => d.ldg.erasing = false ∧
      ∀ a, cellGet d.ldg.flash a = if 0x10000 ≤ a ∧ a < 0x18000 then 0 else cellGet s.dev.ldg.flash a := by
  refine after_act Dev.eraseEnd (by unfold exec; rfl) ?_
  rw [settle_ldg_erasing, settle_ldg_flash]
  exact Dev.eraseEnd_erases (d := s.clear) hf h

/-- Settles O12, an event at a time. -/
theorem hubEvents : Obligations.HubEvents := by
  unfold Obligations.HubEvents
  exact fun s who v ok hInv => ⟨fun p hp hnew => does_cfgParityMismatch hp hInv.regs hnew v ok, after_vtLoRead s who, after_restoreFactory,
    after_calEraseDone hInv.flash⟩

end Sys2Proof.Machine
end

section
/-!
SUPPORT. What stands while requests are accepted and end, lines go out and blocks are reset (R290, R466): the memory, the Lodge, the Wicket, the
fault manager, VT and the drain. One rewriting rule for each operation, in the order of the model's files.
-/
namespace Sys2Proof.Machine

/-- The device with everything set aside that accepting and ending requests, and resetting blocks other than the Lodge's, may change. -/
def Dev.standing (d : Dev) : Dev :=
  { d with
    regs := [], hub := {}, elog := {}, fab := {}, hp := {}, lbu := { draining := d.lbu.draining }, itm := [], intb := {}, can := [], lin := [],
    mac := [], tun := [], frm := {}, trl := {}, gth := {}, twin := {}, gzb := {}, blv := { vt := d.blv.vt }, out := [] }

/-- A part of the device that `Dev.standing` keeps is the same in two devices that agree on what stands. -/
theorem Dev.standing_keeps {α : Type} (g : Dev → α) (hg : ∀ d, g d.standing = g d) {d e : Dev} (h : e.standing = d.standing) : g e = g d := by
  rw [← hg, h, hg]

/-- A fold of operations that leave what stands leaves it. -/
@[simp] theorem foldl_standing {α : Type} (g : Dev → α → Dev) (l : List α) (d : Dev) (h : ∀ d a, (g d a).standing = d.standing) :
    (l.foldl g d).standing = d.standing :=
  SettleClosed.foldl (P := fun e => e.standing = d.standing) g (fun e a he => (h e a).trans he) l d rfl

@[simp] theorem Dev.ite_standing (p : Prop) [Decidable p] (a b : Dev) :
    (if p then a else b).standing = if p then a.standing else b.standing := by split <;> rfl

/-! ### Single updates -/

@[simp] theorem Dev.bump_standing (d : Dev) (off n : Nat) : (d.bump off n).standing = d.standing := rfl
@[simp] theorem Dev.setFld_standing (d : Dev) (off lo n x : Nat) : (d.setFld off lo n x).standing = d.standing := rfl
@[simp] theorem Dev.emit_standing (d : Dev) (e : Emit) : (d.emit e).standing = d.standing := rfl
@[simp] theorem Dev.onFab_standing (d : Dev) (f : Fabric → Fabric) : (d.onFab f).standing = d.standing := rfl
@[simp] theorem Dev.onHp_standing (d : Dev) (f : HostPort → HostPort) : (d.onHp f).standing = d.standing := rfl
@[simp] theorem Dev.onLink_standing (d : Dev) (n : Nat) (f : Link → Link) : (d.onLink n f).standing = d.standing := rfl
@[simp] theorem Dev.onTwin_standing (d : Dev) (f : Twin → Twin) : (d.onTwin f).standing = d.standing := rfl
@[simp] theorem Dev.onGzb_standing (d : Dev) (f : Gzb → Gzb) : (d.onGzb f).standing = d.standing := rfl
@[simp] theorem Dev.regsReset_standing (d : Dev) (b : Nat) (keep : Nat → Bool) : (d.regsReset b keep).standing = d.standing := rfl

theorem Dev.onLbu_standing (d : Dev) (f : Lbu → Lbu) (h : (f d.lbu).draining = d.lbu.draining) : (d.onLbu f).standing = d.standing := by
  simp [Dev.onLbu, Dev.standing, h]

@[simp] theorem Dev.log_standing (d : Dev) (c : Culprit) (type : ErrType) (ga detail count : Nat) :
    (d.log c type ga detail count).standing = d.standing := by
  unfold Dev.log
  dsimp only
  split <;> rfl

@[simp] theorem Dev.sendMsg_standing (d : Dev) (n : Nat) (t : Transfer) : (d.sendMsg n t).standing = d.standing := rfl

@[simp] theorem Dev.setRemote_standing (d : Dev) (m s : Nat) (on : Bool) : (d.setRemote m s on).standing = d.standing := rfl

@[simp] theorem Dev.updRsvInfo_standing (d : Dev) (a : Nat) (f : RsvInfo → RsvInfo) : (d.updRsvInfo a f).standing = d.standing := rfl

@[simp] theorem Dev.loseRsv_standing (d : Dev) (p : Rsv → Bool) : (d.loseRsv p).standing = d.standing := foldl_standing _ _ _ fun _ _ => rfl

@[simp] theorem Dev.cutBus_standing (d : Dev) : d.cutBus.standing = d.standing := rfl

/-! ### Requests -/

@[simp] theorem Dev.updReq_standing (d : Dev) (seq : Nat) (f : Req → Req) : (d.updReq seq f).standing = d.standing := rfl

@[simp] theorem Dev.dropReq_standing (d : Dev) (seq : Nat) : (d.dropReq seq).standing = d.standing := rfl

@[simp] theorem Dev.rsvException_standing (d : Dev) (agent ident : Nat) : (d.rsvException agent ident).standing = d.standing := by
  simp [Dev.rsvException]

@[simp] theorem Dev.noteFail_standing (d : Dev) (agent ident : Nat) (ing : Ingress) (seq : Nat) (t : ErrType) (hi : Nat) :
    (d.noteFail agent ident ing seq t hi).standing = d.standing := by simp [Dev.noteFail]

@[simp] theorem Dev.logFail_standing (d : Dev) (r : Req) (t : ErrType) (detail failAt : Nat) :
    (d.logFail r t detail failAt).standing = d.standing := by simp [Dev.logFail]

@[simp] theorem Dev.rsvRecord_standing (d : Dev) (r : Req) : (d.rsvRecord r).standing = d.standing := by
  unfold Dev.rsvRecord
  split <;> simp

@[simp] theorem Dev.deliver_standing (d : Dev) (r : Req) : (d.deliver r).standing = d.standing := by
  unfold Dev.deliver
  (repeat' split) <;> simp

@[simp] theorem Dev.finishAt_standing (d : Dev) (seq : Nat) (status : Option ErrType) (failAt : Nat) (data : List Byte) (rts : Nat) :
    (d.finishAt seq status failAt data rts).standing = d.standing := by
  unfold Dev.finishAt
  dsimp only
  split <;> simp

@[simp] theorem Dev.finish_standing (d : Dev) (seq : Nat) (status : Option ErrType) (failAt : Nat) (data : List Byte) :
    (d.finish seq status failAt data).standing = d.standing := by simp [Dev.finish]

@[simp] theorem Dev.failReq_standing (d : Dev) (r : Req) (t : ErrType) (detail failAt : Nat) (data : List Byte) :
    (d.failReq r t detail failAt data).standing = d.standing := by simp [Dev.failReq]

/-! ### Transfers and combining lines -/

@[simp] theorem Dev.sendPeer_standing (d : Dev) (r : Req) : (d.sendPeer r).standing = d.standing := by
  unfold Dev.sendPeer
  split
  · split
    · rfl
    · exact (Dev.updReq_standing ..).trans (foldl_standing _ _ _ fun e t => e.emit_standing _)
  · rfl

@[simp] theorem Dev.wbarEnd_standing (d : Dev) (n dst last : Nat) (status : Option ErrType) :
    (d.wbarEnd n dst last status).standing = d.standing := by
  unfold Dev.wbarEnd
  split <;> simp

@[simp] theorem Dev.sendWbar_standing (d : Dev) (n dst : Nat) : (d.sendWbar n dst).standing = d.standing := by
  unfold Dev.sendWbar
  dsimp only
  (repeat' split) <;> simp

@[simp] theorem Dev.sendOut_standing (d : Dev) (r : Req) : (d.sendOut r).standing = d.standing := by
  unfold Dev.sendOut
  split <;> simp

@[simp] theorem Dev.wbarsFor_standing (d : Dev) (agent : Nat) : (d.wbarsFor agent).standing = d.standing := by simp [Dev.wbarsFor]

@[simp] theorem Dev.wbarsForRead_standing (d : Dev) (r : Req) : (d.wbarsForRead r).standing = d.standing := by simp [Dev.wbarsForRead]

@[simp] theorem Dev.place_standing (d : Dev) (r : Req) : (d.place r).standing = d.standing := by
  unfold Dev.place
  dsimp only
  split <;> simp

@[simp] theorem Dev.emitLine_standing (d : Dev) (l : CwbLine) : (d.emitLine l).standing = d.standing := by
  unfold Dev.emitLine
  dsimp only
  split <;> simp

@[simp] theorem Dev.emitLines_standing (d : Dev) (p : CwbLine → Bool) : (d.emitLines p).standing = d.standing := by simp [Dev.emitLines]

@[simp] theorem Dev.combineBlock_standing (d : Dev) (r : Req) (granule : Nat) (data : WData) :
    (d.combineBlock r granule data).standing = d.standing := by
  unfold Dev.combineBlock
  dsimp only
  (repeat' split) <;> simp

@[simp] theorem Dev.combine_standing (d : Dev) (r : Req) : (d.combine r).standing = d.standing := by simp [Dev.combine]

@[simp] theorem Dev.dropBlock_standing (d : Dev) (b : PrefBlock) : (d.dropBlock b).standing = d.standing := by
  unfold Dev.dropBlock
  split <;> simp

@[simp] theorem Dev.dropBlocks_standing (d : Dev) (p : PrefBlock → Bool) : (d.dropBlocks p).standing = d.standing := by simp [Dev.dropBlocks]

@[simp] theorem Dev.prefServe_standing (d : Dev) (r : Req) : (d.prefServe r).standing = d.standing := rfl

/-! ### Acceptance -/

@[simp] theorem Dev.failEarly_standing (d : Dev) (r : Req) (t : ErrType) (detail : Nat) : (d.failEarly r t detail).standing = d.standing := by
  unfold Dev.failEarly
  dsimp only
  (repeat' split) <;> simp

@[simp] theorem Dev.acceptRouted_standing (d : Dev) (r : Req) (t : Target) : (d.acceptRouted r t).standing = d.standing := by
  unfold Dev.acceptRouted
  dsimp only
  (repeat' split) <;> simp

@[simp] theorem Dev.accept_standing (d : Dev) (r : Req) : (d.accept r).standing = d.standing := by
  unfold Dev.accept
  (repeat' split) <;> simp

@[simp] theorem Dev.retryHeldFrom_standing (rs : List Req) : ∀ (d : Dev) (still : List Req), (d.retryHeldFrom still rs).standing = d.standing := by
  induction rs with
  | nil => exact fun _ _ => rfl
  | cons r t ih =>
    intro d still
    unfold Dev.retryHeldFrom
    (repeat' split) <;> simp [ih]

@[simp] theorem Dev.pumpPeers_standing (d : Dev) : d.pumpPeers.standing = d.standing :=
  foldl_standing _ _ _ fun e r => by split <;> simp

@[simp] theorem Dev.wbarAnswer_standing (d : Dev) (n tag orig : Nat) (status : Option ErrType) :
    (d.wbarAnswer n tag orig status).standing = d.standing := by simp [Dev.wbarAnswer]

theorem Dev.actMsg_standing {d e : Dev} {w : WaitMsg} (h : d.actMsg w = some e) : e.standing = d.standing := by
  unfold Dev.actMsg at h
  split at h
  · split at h <;> obtain rfl := Option.some.inj h <;> simp
  · split at h
    · obtain rfl := Option.some.inj h
      simp
    · split at h
      · obtain ⟨_, _, rfl⟩ := Option.map_eq_some_iff.mp h
        rfl
      · obtain rfl := Option.some.inj h
        simp

@[simp] theorem Dev.pumpMsgsFrom_standing (ws : List WaitMsg) :
    ∀ (d : Dev) (still : List WaitMsg), (d.pumpMsgsFrom still ws).standing = d.standing := by
  induction ws with
  | nil => exact fun _ _ => rfl
  | cons w t ih =>
    intro d still
    unfold Dev.pumpMsgsFrom
    dsimp only
    split
    · exact ih d _
    · split
      · rw [ih, Dev.actMsg_standing ‹_›]
      · exact ih d _

@[simp] theorem Dev.pumpMsgs_standing (d : Dev) : d.pumpMsgs.standing = d.standing := by simp [Dev.pumpMsgs]

@[simp] theorem Dev.retryHeld_standing (d : Dev) : d.retryHeld.standing = d.standing := by simp [Dev.retryHeld]

/-! ### The host port -/

@[simp] theorem Dev.dropReads_standing (d : Dev) (seq : Nat) : (d.dropReads seq).standing = d.standing := rfl

@[simp] theorem Dev.discardHostWrites_standing (d : Dev) : d.discardHostWrites.standing = d.standing := by
  unfold Dev.discardHostWrites
  dsimp only
  simp only [Dev.onHp_standing, Dev.bump_standing]
  rw [foldl_standing _ _ _ fun e r => by simp, foldl_standing _ _ _ fun e k => by split <;> simp]

@[simp] theorem Dev.functionReset_standing (d : Dev) : d.functionReset.standing = d.standing := by simp [Dev.functionReset]

@[simp] theorem Dev.hostLinkDown_standing (d : Dev) : d.hostLinkDown.standing = d.standing := by simp [Dev.hostLinkDown]

@[simp] theorem Dev.windowOff_standing (d : Dev) (f : WinFam) (n : Nat) : (d.windowOff f n).standing = d.standing := by simp [Dev.windowOff]

/-! ### The Orangery -/

@[simp] theorem Dev.zoneLeave_standing (d : Dev) (seq : Nat) : (d.zoneLeave seq).standing = d.standing := Dev.onLbu_standing _ _ rfl

@[simp] theorem Dev.zoneEnd_standing (d : Dev) (r : Req) (timer : Nat) : (d.zoneEnd r timer).standing = d.standing := by simp [Dev.zoneEnd]

@[simp] theorem Dev.freeDr_standing (d : Dev) (i : Nat) : (d.freeDr i).standing = d.standing := by
  unfold Dev.freeDr
  split
  · dsimp only
    (repeat' split) <;> simp [Dev.onLbu_standing]
  · rfl

@[simp] theorem Dev.breakLock_standing (d : Dev) (k : Nat) : (d.breakLock k).standing = d.standing := by
  simp [Dev.breakLock, Dev.releaseLock, Dev.onLbu_standing]

/-! ### Links -/

@[simp] theorem Dev.twinLinkLost_standing (d : Dev) (n : Nat) : (d.twinLinkLost n).standing = d.standing := by simp [Dev.twinLinkLost]

@[simp] theorem Dev.endPeerReqs_standing (d : Dev) (n : Nat) (started : Bool) : (d.endPeerReqs n started).standing = d.standing := by
  simp [Dev.endPeerReqs]

@[simp] theorem Dev.linkDown_standing (d : Dev) (n : Nat) : (d.linkDown n).standing = d.standing := by
  unfold Dev.linkDown
  extract_lets nodes msgs d1 d2 ws lost c d3 d4 opens d5 cameBy noAnswer d6 d7 d8 intb d9
  have h2 : d2.standing = d.standing := by simp [d2, d1]
  have h3 : d3.standing = d2.standing := by
    unfold d3
    split <;> simp
  have h4 : d4.standing = d3.standing := foldl_standing _ _ _ fun e r => by simp
  have h6 : d6.standing = d4.standing := by
    clear_value d4
    rfl
  have h7 : d7.standing = d6.standing := foldl_standing _ _ _ fun e w => by split <;> simp
  have h8 : d8.standing = d7.standing := Dev.loseRsv_standing ..
  have h9 : d9.standing = d8.standing := by
    clear_value d8
    rfl
  rw [Dev.retryHeld_standing, h9, h8, h7, h6, h4, h3, h2]

/-! ### The drain -/

@[simp] theorem Dev.endQueued_standing (d : Dev) (running : Bool) : (d.endQueued running).standing = d.standing :=
  foldl_standing _ _ _ fun e r => e.zoneEnd_standing r 7

@[simp] theorem Dev.discardPath_standing (d : Dev) (p : WPath) : (d.discardPath p).standing = d.standing := by
  unfold Dev.discardPath
  split
  · rfl
  · simp

/-- The beginning of a drain: only the drain itself is new. -/
theorem Dev.drainStart_standing (d : Dev) (all : Bool) :
    (d.drainStart all).standing = (d.onLbu fun l => { l with draining := true }).standing := by
  simp [Dev.drainStart]

/-- The end of a drain: only the drain itself is over. -/
theorem Dev.drainEnd_standing (d : Dev) (all : Bool) :
    (d.drainEnd all).standing = (d.onLbu fun l => { l with draining := false }).standing := by
  have h : ((drainPaths all).foldl (fun d p => d.discardPath p) (d.endQueued true).cutBus).standing = d.standing := by simp
  exact congrArg (fun e : Dev => { e with lbu := { draining := false } }) h

/-! ### Block resets -/

@[simp] theorem Dev.hpReset_standing (d : Dev) : d.hpReset.standing = d.standing := by simp [Dev.hpReset]

@[simp] theorem Dev.lbuReset_standing (d : Dev) : d.lbuReset.standing = d.standing := by
  unfold Dev.lbuReset
  extract_lets d1 idx d2 d3 d4 d5
  have h2 : d2.standing = d1.standing := foldl_standing _ _ _ fun e i => e.freeDr_standing i
  have h3 : d3.standing = d2.standing := by simp [d3]
  have h4 : d4.standing = d3.standing := Dev.onFab_standing ..
  have h5 : d5.standing = d4.standing := Dev.onLbu_standing _ _ rfl
  rw [Dev.bump_standing, Dev.regsReset_standing, h5, h4, h3, h2, Dev.dropBlocks_standing]

@[simp] theorem Dev.breakLogged_standing (d : Dev) (k : Nat) : (d.breakLogged k).standing = d.standing := by
  unfold Dev.breakLogged
  split <;> simp

@[simp] theorem Dev.winReset_standing (d : Dev) : d.winReset.standing = d.standing := by simp [Dev.winReset]

@[simp] theorem Dev.itmReset_standing (d : Dev) : d.itmReset.standing = d.standing := by
  unfold Dev.itmReset
  extract_lets d1
  have h1 : d1.standing = d.standing := foldl_standing _ _ _ fun e n => by simp
  clear_value d1
  exact h1

@[simp] theorem Dev.blvReset_standing (d : Dev) : d.blvReset.standing = d.standing := foldl_standing _ _ _ fun _ _ => rfl

@[simp] theorem Dev.gzbReset_standing (d : Dev) : d.gzbReset.standing = d.standing := by simp [Dev.gzbReset, Dev.gzbClear]

/-- The reset of a block (R466). -/
@[simp] theorem Dev.blockReset_standing (d : Dev) (b : Nat) : (d.blockReset b).standing = d.standing := by
  unfold Dev.blockReset
  split
  · exact d.hpReset_standing
  · exact d.lbuReset_standing
  · exact d.winReset_standing
  · exact d.itmReset_standing
  · rfl
  · rfl
  · rfl
  · exact d.blvReset_standing
  · exact d.gzbReset_standing
  all_goals rfl

end Sys2Proof.Machine
end

section
/-!
O14: block resets and the warm reset (R52, R290, R464–R466).
-/
namespace Sys2Proof.Machine

/-! ### Registers of a block that has been reset -/

/-- A cell of a store into which the cells of a canonical one have been put: theirs where they list it, the old one elsewhere. -/
theorem cellGet_put {w : Nat} (a : Nat) : ∀ {b : Nat} {m new : Sparse w}, cellsWf m = true → cellsAbove b new = true →
    cellGet (cellsPut m new) a = if cellGet new a = 0 then cellGet m a else cellGet new a
  | _, _, [], _, _ => by simp [cellsPut, cellGet]
  | b, m, (k, v) :: t, hm, hnew => by
    simp only [cellsAbove, Bool.and_eq_true, decide_eq_true_eq, bne_iff_ne] at hnew
    obtain ⟨⟨-, hv⟩, ht⟩ := hnew
    have hput : cellsPut m ((k, v) :: t) = cellsPut (cellSet m k v) t := rfl
    have hzero : a ≤ k → cellGet t a = 0 := fun ha => cellGet_above (by omega) ht
    rw [hput, cellGet_put a (cellsWf_set k v hm) ht, cellGet_set hm]
    rcases lt_trichotomy a k with hak | rfl | hak
    · have hne : k ≠ a := by omega
      simp [cellGet, hak, hak.ne, hne, hzero hak.le]
    · have hv0 : v ≠ 0#w := hv
      simp [cellGet, hzero le_rfl, hv0]
    · have hne : k ≠ a := by omega
      have hlt : ¬a < k := by omega
      simp [cellGet, hne, hne.symm, hlt]

/-- A range of a store restored from another store: its cells there, the old ones elsewhere. -/
theorem cellGet_restored {w : Nat} {m init : Sparse w} (hm : cellsWf m = true) (hinit : cellsWf init = true) (lo hi a : Nat) :
    cellGet (cellsPut (cellsClear m lo hi) (cellsIn init lo hi)) a = if lo ≤ a ∧ a < hi then cellGet init a else cellGet m a := by
  have hin : cellGet (cellsIn init lo hi) a = if lo ≤ a ∧ a < hi then cellGet init a else 0 := by
    rw [cellsIn, cellGet_filter (fun k => decide (lo ≤ k) && decide (k < hi)) a hinit]
    simp
  have hwf : cellsWf (cellsIn init lo hi) = true := cellsWf_filter _ hinit
  rw [cellGet_put a (cellsWf_clear _ _ hm) hwf, hin, cellGet_clear hm]
  split
  · split
    next h => exact h.symm
    next => rfl
  · rw [if_pos rfl]

/-- Cells put into a store where nothing of it is kept. -/
theorem cellsPut_keepNone {w : Nat} (m fresh kept : Sparse w) :
    cellsPut (cellsPut m (fresh.filter fun _ => !false)) (kept.filter fun _ => false) = cellsPut m fresh := by
  simp [cellsPut]

theorem Dev.regsReset_regs (d : Dev) (b : Nat) : (d.regsReset b).regs =
    cellsPut (cellsClear d.regs (b * 0x100000) (b * 0x100000 + 0x100000)) (cellsIn resetRegs (b * 0x100000) (b * 0x100000 + 0x100000)) :=
  cellsPut_keepNone ..

theorem Dev.reset_rd (x : Nat) : Dev.reset.rd x = cellGet resetRegs x := by
  rw [Dev.rd, Dev.reset]

/-- A block's registers have their power-on values after its reset, and every other register is as it was (R466). -/
theorem Dev.regsReset_blockFresh {d : Dev} (hw : cellsWf d.regs = true) (b : Nat) : (d.regsReset b).blockFresh d b := by
  intro x
  rw [Dev.reset_rd, Dev.rd, Dev.regsReset_regs, cellGet_restored hw reset_regs_wf]
  refine if_congr ?_ rfl rfl
  unfold blockOf
  omega

/-- Of these blocks a reset clears what the registers stand for, and resets the registers alone. -/
theorem Dev.blockReset_blockFresh {d : Dev} (hw : cellsWf d.regs = true) {b : Nat} (hb : b ∈ [5, 6, 7, 15]) :
    (d.blockReset b).blockFresh d b ∧ (d.blockReset b).mem = d.mem := by
  simp only [List.mem_cons, List.not_mem_nil, or_false] at hb
  rcases hb with rfl | rfl | rfl | rfl
  all_goals exact ⟨Dev.regsReset_blockFresh hw _, rfl⟩

/-! ### Commits of SYS_RESET_CTL -/

/-- The value that BLOCK_RESET commits (R52): BLOCK_RST, without WARM, and the block. -/
def blockRst (b : Fin 32) : Word := BitVec.ofNat 32 (2 + 16 * b.val)

theorem blockRst_fields : ∀ b : Fin 32, fieldOf (blockRst b) 0 1 ≠ 1 ∧ fieldOf (blockRst b) 1 1 = 1 ∧ fieldOf (blockRst b) 4 5 = b := by
  decide

/-- What a committed BLOCK_RST does (R52, R466). -/
theorem Dev.resetCommit_blockRst (d : Dev) (b : Fin 32) : d.resetCommit (blockRst b) =
    if b.val = 0 ∨ b.val = 12 ∨ b.val = 13 ∨ 16 ≤ b.val then d.reject
    else if b.val = 2 then
      if d.ldg.warm ∨ d.ldg.resetBlocks.contains 2 then d
      else ({ d with ldg := { d.ldg with resetBlocks := d.ldg.resetBlocks ++ [2] } }).drainStart false
    else d.blockReset b := by
  obtain ⟨hwarm, hblock, hb⟩ := blockRst_fields b
  simp only [Dev.resetCommit, hwarm, hblock, hb, if_true, if_false]

theorem exec_blockReset (b : Fin 32) (s : State) : exec (.blockReset b) s = s.act fun d => d.resetCommit (blockRst b) := by
  unfold exec
  rfl

theorem does_blockReset_fresh {s : State} {b : Fin 32} (hw : cellsWf s.dev.regs = true) (hb : b.val ∈ [5, 6, 7, 15]) :
    Does (.blockReset b) s fun d => d.blockFresh s.dev b.val ∧ d.mem = s.dev.mem := by
  refine does_act _ (exec_blockReset b s) ?_
  have hother : ¬(b.val = 0 ∨ b.val = 12 ∨ b.val = 13 ∨ 16 ≤ b.val) ∧ b.val ≠ 2 := by
    simp only [List.mem_cons, List.not_mem_nil, or_false] at hb
    omega
  rw [Dev.resetCommit_blockRst, if_neg hother.1, if_neg hother.2]
  exact Dev.blockReset_blockFresh (d := s.clear) hw hb

theorem does_blockReset_refused {s : State} {b : Fin 32} (hw : cellsWf s.dev.regs = true) (hb : b.val ∈ [0, 12, 13] ∨ 16 ≤ b.val) :
    Does (.blockReset b) s fun d => d.onlyReg s.dev Reg.sysAccessReject (s.dev.rd Reg.sysAccessReject + 1) := by
  refine does_act _ (exec_blockReset b s) ?_
  have hno : b.val = 0 ∨ b.val = 12 ∨ b.val = 13 ∨ 16 ≤ b.val := by
    simp only [List.mem_cons, List.not_mem_nil, or_false] at hb
    omega
  rw [Dev.resetCommit_blockRst, if_pos hno]
  exact Dev.onlyReg_of_bump hw rfl rfl

/-! ### The beginning of a drain -/

theorem Dev.drainStart_draining (d : Dev) (all : Bool) : (d.drainStart all).lbu.draining = true :=
  Dev.standing_keeps (fun d => d.lbu.draining) (fun _ => rfl) (d.drainStart_standing all)

theorem Dev.drainStart_ldg (d : Dev) (all : Bool) : (d.drainStart all).ldg = d.ldg :=
  Dev.standing_keeps (d := d.onLbu _) Dev.ldg (fun _ => rfl) (d.drainStart_standing all)

theorem Dev.drainStart_vt (d : Dev) (all : Bool) : (d.drainStart all).blv.vt = d.blv.vt :=
  Dev.standing_keeps (d := d.onLbu _) (fun d => d.blv.vt) (fun _ => rfl) (d.drainStart_standing all)

theorem after_warmReset {s : State} (h : s.dev.ldg.warm = false) :
    After .warmReset s fun d => d.ldg.warm = true ∧ d.lbu.draining = true ∧ d.blv.vt = s.dev.blv.vt := by
  refine after_act (fun d => d.resetCommit 1) (by unfold exec; rfl) ?_
  have hstart : s.clear.resetCommit 1 = ({ s.clear with ldg := { s.clear.ldg with warm := true } }).drainStart true := by
    have hwarm : fieldOf 1 0 1 = 1 := by decide
    simp only [Dev.resetCommit, hwarm, if_true, Dev.warmStart, State.clear_ldg, h]
    rfl
  rw [hstart, settle_ldg_warm, settle_lbu_draining, settle_blv, Dev.drainStart_ldg, Dev.drainStart_draining, Dev.drainStart_vt]
  exact ⟨rfl, rfl, rfl⟩

theorem after_blockReset_lbu {s : State} {b : Fin 32} (hb : b.val = 2) (hwarm : s.dev.ldg.warm = false)
    (hnew : 2 ∉ s.dev.ldg.resetBlocks) : After (.blockReset b) s fun d => 2 ∈ d.ldg.resetBlocks ∧ d.lbu.draining = true := by
  refine after_act _ (exec_blockReset b s) ?_
  have hblock : ¬(b.val = 0 ∨ b.val = 12 ∨ b.val = 13 ∨ 16 ≤ b.val) := by omega
  have hfirst : ¬(s.clear.ldg.warm = true ∨ s.clear.ldg.resetBlocks.contains 2 = true) := by simp [hwarm, hnew]
  rw [Dev.resetCommit_blockRst, if_neg hblock, if_pos hb, if_neg hfirst, settle_ldg_resetBlocks, settle_lbu_draining, Dev.drainStart_ldg,
    Dev.drainStart_draining]
  exact ⟨by simp, rfl⟩

/-! ### The end of a drain -/

/-- What the drain's end does to the LBU block that waits for it (R290, R466). -/
theorem Dev.lbuDrainEnd_view (d : Dev) :
    let e := ((((d.drainEnd false).onLdg fun l => { l with resetBlocks := l.resetBlocks.filter (· != 2) }).blockReset 2).retryHeld)
    2 ∉ e.ldg.resetBlocks ∧ e.lbu.draining = false := by
  intro e
  have he : e.standing = ((d.drainEnd false).onLdg fun l => { l with resetBlocks := l.resetBlocks.filter (· != 2) }).standing := by
    rw [Dev.retryHeld_standing, Dev.blockReset_standing]
  have hblocks := Dev.standing_keeps (fun d => d.ldg.resetBlocks) (fun _ => rfl) he
  have hdrain := Dev.standing_keeps (fun d => d.lbu.draining) (fun _ => rfl) he
  refine ⟨?_, hdrain⟩
  clear_value e
  rw [hblocks]
  simp [Dev.onLdg]

theorem exec_resetDrainEnd (peer : Bool) (s : State) : exec (.resetDrainEnd peer) s = s.act fun d =>
    if d.ldg.warm then (d.drainEnd true).warmAndStart peer
    else if d.ldg.resetBlocks.contains 2 then
      (((d.drainEnd false).onLdg fun l => { l with resetBlocks := l.resetBlocks.filter (· != 2) }).blockReset 2).retryHeld
    else d := by
  unfold exec
  rfl

theorem after_resetDrainEnd_lbu {s : State} (hwarm : s.dev.ldg.warm = false) (hwaits : 2 ∈ s.dev.ldg.resetBlocks) (peer : Bool) :
    After (.resetDrainEnd peer) s fun d => 2 ∉ d.ldg.resetBlocks ∧ d.lbu.draining = false := by
  refine after_act _ (exec_resetDrainEnd peer s) ?_
  have hlbu : s.clear.ldg.resetBlocks.contains 2 = true := by simpa using hwaits
  rw [State.clear_ldg, hwarm, if_neg Bool.false_ne_true, ← State.clear_ldg, if_pos hlbu, settle_ldg_resetBlocks, settle_lbu_draining]
  exact Dev.lbuDrainEnd_view s.clear

/-! ### The warm reset -/

/-- The warm reset proper (R464, R465): the flash stays, VT goes on, and neither the reset nor its drain runs any more. -/
theorem Dev.warmReset_view (d : Dev) : d.warmReset.ldg.flash = d.ldg.flash ∧ d.warmReset.ldg.warm = false ∧
    d.warmReset.lbu.draining = false ∧ d.warmReset.blv.vt = d.blv.vt := by
  unfold Dev.warmReset
  extract_lets d1 d2 r
  have h2 : d2.standing = d.standing := by
    rw [Dev.regsReset_standing]
    simp [d1]
  have hflash : d2.ldg.flash = d.ldg.flash := Dev.standing_keeps (fun d => d.ldg.flash) (fun _ => rfl) h2
  have hvt : d2.blv.vt = d.blv.vt := Dev.standing_keeps (fun d => d.blv.vt) (fun _ => rfl) h2
  clear_value d2
  exact ⟨hflash, rfl, rfl, hvt⟩

/-! ### Start-up without a header -/

theorem Dev.flashBytes_congr {d e : Dev} (h : e.ldg.flash = d.ldg.flash) : ∀ n off, e.flashBytes off n = d.flashBytes off n
  | 0, _ => rfl
  | n + 1, off => by
    rw [Dev.flashBytes, Dev.flashBytes, Dev.flashBytes_congr h n, Dev.flashByte, Dev.flashByte, h]

/-- Whether a header copy is valid is a matter of the flash alone (R475). -/
theorem Dev.headerOk_congr {d e : Dev} (h : e.ldg.flash = d.ldg.flash) (o : Nat) : e.headerOk o = d.headerOk o := by
  simp only [Dev.headerOk, Dev.flashNum, Dev.flashBytes_congr h]

theorem Dev.header?_of_noHeader {d e : Dev} (h : e.ldg.flash = d.ldg.flash) (hno : d.noHeader) : e.header? = none := by
  obtain ⟨hfirst, hsecond⟩ := hno
  simp only [Dev.header?, Dev.headerOk_congr h, hfirst, hsecond]

/-- Two devices agree on the drain, on whether a warm reset runs, and on VT. -/
def Dev.SameDrain (e d : Dev) : Prop := e.ldg.warm = d.ldg.warm ∧ e.lbu.draining = d.lbu.draining ∧ e.blv.vt = d.blv.vt

theorem Dev.SameDrain.trans {d e f : Dev} (h : f.SameDrain e) (g : e.SameDrain d) : f.SameDrain d :=
  ⟨h.1.trans g.1, h.2.1.trans g.2.1, h.2.2.trans g.2.2⟩

theorem Dev.SameDrain.foldl {α : Type} (g : Dev → α → Dev) (hg : ∀ d a, (g d a).SameDrain d) (l : List α) (d : Dev) : (l.foldl g d).SameDrain d :=
  SettleClosed.foldl (P := fun e => e.SameDrain d) g (fun e a he => (hg e a).trans he) l d ⟨rfl, rfl, rfl⟩

theorem Dev.calApply_sameDrain (d : Dev) (x : Nat × List Byte) : (d.calApply x).SameDrain d := by
  unfold Dev.calApply
  extract_lets trims
  split
  case h_5 =>
    have hlat : (d.onLdg fun l => { l with ptpLat := numsOf 4 x.2 }).SameDrain d := ⟨rfl, rfl, rfl⟩
    refine (Dev.SameDrain.foldl _ ?_ _ _).trans hlat
    exact fun _ _ => ⟨rfl, rfl, rfl⟩
  all_goals exact ⟨rfl, rfl, rfl⟩

theorem Dev.calibrate_sameDrain (d : Dev) : d.calibrate.SameDrain d := by
  unfold Dev.calibrate
  split
  · exact ⟨rfl, rfl, rfl⟩
  · extract_lets e
    have he : e.SameDrain d := Dev.SameDrain.foldl _ Dev.calApply_sameDrain _ d
    clear_value e
    split
    · exact he
    · exact (Dev.SameDrain.foldl _ Dev.calApply_sameDrain _ _).trans he

/-- Recovery (R483) leaves the drain and VT. -/
theorem Dev.startRecovery_view (d : Dev) : d.startRecovery.ldg.recovery = true ∧ d.startRecovery.SameDrain d :=
  ⟨rfl, Dev.calibrate_sameDrain d.defaults⟩

/-- A start-up that finds no valid header copy ends in recovery (R475). -/
theorem Dev.startUp_noHeader {d : Dev} (h : d.noHeader) (peer : Bool) :
    (d.startUp peer).ldg.recovery = true ∧ (d.startUp peer).SameDrain d := by
  unfold Dev.startUp
  extract_lets lost d1 d2 mode hdr d3
  have h1 : d1.ldg.flash = d.ldg.flash ∧ d1.SameDrain d := ⟨rfl, rfl, rfl, rfl⟩
  have h2 : d2.ldg.flash = d.ldg.flash ∧ d2.SameDrain d := by
    unfold d2
    clear_value d1 lost
    cases lost <;> exact h1
  obtain ⟨hflash, hsame⟩ := h2
  have h3 : d3.SameDrain d := by
    clear_value hdr d2
    exact hsame
  have hnone : hdr = none := Dev.header?_of_noHeader hflash h
  clear_value d3 hdr
  subst hnone
  obtain ⟨hrec, hsame'⟩ := d3.startRecovery_view
  exact ⟨hrec, hsame'.trans h3⟩

theorem after_resetDrainEnd_warm {s : State} (hwarm : s.dev.ldg.warm = true) (hno : s.dev.noHeader) (peer : Bool) :
    After (.resetDrainEnd peer) s fun d => d.ldg.warm = false ∧ d.lbu.draining = false ∧ d.ldg.recovery = true ∧
      d.blv.vt = s.dev.blv.vt := by
  refine after_act _ (exec_resetDrainEnd peer s) ?_
  rw [State.clear_ldg, hwarm, if_pos rfl, settle_ldg_warm, settle_lbu_draining, settle_ldg_recovery, settle_blv, Dev.warmAndStart]
  have hdrained := s.clear.drainEnd_standing true
  have hflash : (s.clear.drainEnd true).ldg.flash = s.dev.ldg.flash :=
    Dev.standing_keeps (d := s.clear.onLbu _) (fun d => d.ldg.flash) (fun _ => rfl) hdrained
  have hvt : (s.clear.drainEnd true).blv.vt = s.dev.blv.vt :=
    Dev.standing_keeps (d := s.clear.onLbu _) (fun d => d.blv.vt) (fun _ => rfl) hdrained
  obtain ⟨hflash', hwarm', hdrain', hvt'⟩ := (s.clear.drainEnd true).warmReset_view
  have hno' : (s.clear.drainEnd true).warmReset.noHeader := by
    simpa only [Dev.noHeader, Dev.headerOk_congr (hflash'.trans hflash)] using hno
  obtain ⟨hrec, hwarm'', hdrain'', hvt''⟩ := Dev.startUp_noHeader hno' peer
  exact ⟨hwarm''.trans hwarm', hdrain''.trans hdrain', hrec, (hvt''.trans hvt').trans hvt⟩

/-- Settles O14, a command at a time. -/
theorem blockResets : Obligations.BlockResets := by
  unfold Obligations.BlockResets
  exact fun s b peer hInv => ⟨after_warmReset, does_blockReset_fresh hInv.regs, does_blockReset_refused hInv.regs, after_blockReset_lbu,
    fun hwarm hwaits => after_resetDrainEnd_lbu hwarm hwaits peer, fun hwarm hno => after_resetDrainEnd_warm hwarm hno peer⟩

end Sys2Proof.Machine
end

section
/-!
O9: which window applies (R64).
-/
namespace Sys2Proof.Machine

/-- A window that matches is enabled (R63). -/
theorem Dev.winEn_of_winMatches {d : Dev} {f : WinFam} {n a : Nat} (h : d.winMatches f n a = true) : d.winEn f n = true := by
  simp only [Dev.winMatches, Bool.and_eq_true] at h
  exact h.1.1

/-- The window found is the lowest-numbered one of its family that matches. -/
theorem Dev.winFind_eq_some_iff {d : Dev} {f : WinFam} {a n : Nat} :
    d.winFind f a = some n ↔ n < winCount f ∧ d.winMatches f n a = true ∧ ∀ m, m < n → d.winMatches f m a = false := by
  simp only [Dev.winFind, List.find?_range_eq_some, List.mem_range, Bool.not_eq_true']
  tauto

/-- Settles O9: the windows of a family are searched in rising order. -/
theorem lowestWindowApplies : Obligations.LowestWindowApplies := by
  unfold Obligations.LowestWindowApplies
  exact fun d f a n => ⟨Dev.winFind_eq_some_iff, Dev.winEn_of_winMatches⟩

end Sys2Proof.Machine
end

section
/-!
O18: the MSI-X table (R61) and the interrupt message cells (R106).
-/
namespace Sys2Proof.Machine

/-! ### The table -/

theorem leNat_leBytes : ∀ n x : Nat, leNat (leBytes n x) = x % 256 ^ n
  | 0, x => by simp [leBytes, leNat, Nat.mod_one]
  | n + 1, x => by
    simp only [leBytes, leNat, leNat_leBytes n, BitVec.toNat_ofNat, Nat.pow_succ']
    exact (Nat.mod_mul (a := 256)).symm

theorem leBytes_length : ∀ n x : Nat, (leBytes n x).length = n
  | 0, _ => rfl
  | n + 1, x => by simp [leBytes, leBytes_length n]

/-- A write of 4 aligned bytes to the second or third word of a vector's table entry (R61). -/
theorem Dev.bar4Access_write {d : Dev} {r : HostReq} (hd3 : d.hp.d3hot = false) (hoff : r.off < 0x400) (halign : r.off % 4 = 0)
    (haddr : r.off % 16 ≠ 0) (hmask : r.off % 16 ≠ 12) (v : Word) :
    d.bar4Access r 4 (some ((leBytes 4 v.toNat).map some)) = d.onHp fun h => { h with msix := cellSet h.msix (r.off / 4) v } := by
  have hv : leNat (leBytes 4 v.toNat) = v.toNat := (leNat_leBytes 4 _).trans (Nat.mod_eq_of_lt v.isLt)
  simp [Dev.bar4Access, Dev.bar4Write, hd3, hoff, halign, haddr, hmask, leBytes_length, Function.comp_def, hv, Nat.mod_eq_of_lt v.isLt]

theorem Dev.bar4Access_read {d : Dev} {r : HostReq} (hd3 : d.hp.d3hot = false) (hoff : r.off < 0x400) (halign : r.off % 4 = 0)
    (hmask : r.off % 16 ≠ 12) :
    d.bar4Access r 4 none = d.dataCpls r.rid.toNat r.ptag r.off 4 (leBytes 4 (cellGet d.hp.msix (r.off / 4)).toNat) := by
  simp [Dev.bar4Access, Dev.bar4Word, hd3, hoff, halign, hmask]

/-- Data that crosses no multiple of Max Payload Size goes back in one completion (R100). -/
theorem Dev.dataCpls_once {d : Dev} {addr len : Nat} {data : List Byte} (hlen : 0 < len) (hdata : data.length = len)
    (hmps : addr % d.hp.mps + len ≤ d.hp.mps) (rid ptag : Nat) :
    d.dataCpls rid ptag addr len data = d.emit (.hostCpl rid ptag .success len (addr % 128) data) := by
  have hk : min len (d.hp.mps - addr % d.hp.mps) = len := by omega
  have hne : len ≠ 0 := by omega
  have hsplit : splitAt d.hp.mps (len + 1) addr len = [(addr, len)] := by
    obtain ⟨n, rfl⟩ : ∃ n, len = n + 1 := ⟨len - 1, by omega⟩
    rw [splitAt, if_neg hne, hk]
    simp [splitAt]
  rw [Dev.dataCpls, if_neg hne, hsplit]
  simp [← hdata]

@[simp] theorem Dev.emitMsix_hp (d : Dev) (v : Nat) : (d.emitMsix v).hp = d.hp := rfl

/-- Sending what was pending changes the pending bits of the host port and nothing else of it. -/
theorem Dev.sendPending_hp (d : Dev) : ∃ p, d.sendPending.hp = { d.hp with pending := p } := by
  unfold Dev.sendPending
  split
  · exact SettleClosed.foldl (P := fun e => ∃ p, e.hp = { d.hp with pending := p }) _
      (fun e v ⟨p, he⟩ => ⟨p &&& ~~~(1#64 <<< v), by simp [he]⟩) _ d ⟨d.hp.pending, rfl⟩
  · exact ⟨d.hp.pending, rfl⟩

theorem Dev.sendPending_masks (d : Dev) :
    d.sendPending.hp.msixMask = d.hp.msixMask ∧ d.sendPending.hp.msixFmask = d.hp.msixFmask := by
  obtain ⟨p, hp⟩ := d.sendPending_hp
  rw [hp]
  exact ⟨rfl, rfl⟩

/-- The words of the table that hold an address or a data value lie below its 1 KiB, 4-byte aligned, and are neither the first nor the last
of a vector's four. -/
theorem tableWord_off {off : Nat} {i : Fin 64} {w : Fin 2} (h : off = 16 * i.val + 4 * (1 + w.val)) :
    off < 0x400 ∧ off % 4 = 0 ∧ off % 16 ≠ 0 ∧ off % 16 ≠ 12 := by omega

theorem after_hostBar4Access_write {s : State} {r : HostReq} {i : Fin 64} {w : Fin 2} (hd3 : s.dev.hp.d3hot = false)
    (h : r.off = 16 * i.val + 4 * (1 + w.val)) (v : Word) :
    After (.hostBar4Access r 4 (some ((leBytes 4 v.toNat).map some))) s fun d =>
      d.hp.msix = cellSet s.dev.hp.msix (r.off / 4) v ∧ d.hp.msixMask = s.dev.hp.msixMask ∧ d.mem = s.dev.mem := by
  obtain ⟨hoff, halign, haddr, hmask⟩ := tableWord_off h
  refine after_act (fun d => d.bar4Access r 4 (some ((leBytes 4 v.toNat).map some))) (by unfold exec; rfl) ?_
  rw [Dev.bar4Access_write (d := s.clear) hd3 hoff halign haddr hmask]
  simp

theorem after_hostBar4Access_read {s : State} {r : HostReq} {i : Fin 64} {w : Fin 2} (hd3 : s.dev.hp.d3hot = false)
    (h : r.off = 16 * i.val + 4 * (1 + w.val)) :
    After (.hostBar4Access r 4 none) s fun d => 0 < s.dev.hp.mps → r.off % s.dev.hp.mps + 4 ≤ s.dev.hp.mps →
      .hostCpl r.rid.toNat r.ptag .success 4 (r.off % 128) (leBytes 4 (cellGet s.dev.hp.msix (r.off / 4)).toNat) ∈ d.out := by
  obtain ⟨hoff, halign, -, hmask⟩ := tableWord_off h
  refine after_act (fun d => d.bar4Access r 4 none) (by unfold exec; rfl) fun _ hmps => settle_out _ _ _ ?_
  rw [Dev.bar4Access_read (d := s.clear) hd3 hoff halign hmask, Dev.dataCpls_once (d := s.clear) (by decide) (leBytes_length _ _) hmps]
  simp

theorem after_msixUnmask_vector (s : State) (x : Fin 64) :
    After (.msixUnmask (some x)) s fun d => d.hp.msixMask = s.dev.hp.msixMask &&& ~~~(1#64 <<< x.val) := by
  refine after_act _ (by unfold exec; rfl) ?_
  rw [settle_hp_msixMask, (Dev.sendPending_masks _).1]
  rfl

theorem after_msixUnmask_function (s : State) :
    After (.msixUnmask none) s fun d => d.hp.msixFmask = false ∧ d.hp.msixMask = s.dev.hp.msixMask := by
  refine after_act _ (by unfold exec; rfl) ?_
  rw [settle_hp_msixMask, settle_hp_msixFmask, (Dev.sendPending_masks _).1, (Dev.sendPending_masks _).2]
  exact ⟨rfl, rfl⟩

theorem msixTable : Claims.MsixTable := by
  unfold Claims.MsixTable
  exact fun s r i w v x hd3 => ⟨fun h => ⟨after_hostBar4Access_write hd3 h v, after_hostBar4Access_read hd3 h⟩,
    after_msixUnmask_vector s x, after_msixUnmask_function s⟩

/-! ### The message cells -/

theorem does_msixMessageSend {s : State} {v : Nat} {rest : List Nat} (hd : s.dev.Steady) (h : s.dev.hp.msgs = v :: rest) :
    Does .msixMessageSend s fun d => d.hp.msgs = rest ∧
      (s.dev.msixOpen = false → d.rd Reg.hpMsixDrop = s.dev.rd Reg.hpMsixDrop + 1 ∧ d.hp.pending = s.dev.hp.pending ∧ d.out = []) ∧
      (s.dev.msixOpen = true → s.dev.vecMasked v = true → d.hp.pending = s.dev.hp.pending ||| (1#64 <<< v) ∧ d.out = []) ∧
      (s.dev.msixOpen = true → s.dev.vecMasked v = false →
        d.out = [.msix v (cellGet s.dev.hp.msix (4 * v + 1)) (cellGet s.dev.hp.msix (4 * v)) (cellGet s.dev.hp.msix (4 * v + 2))]) := by
  obtain ⟨hw, -, -⟩ := hd
  refine does_act _ (by unfold exec; rfl) ?_
  have hopen : (s.clear.onHp fun p => { p with msgs := rest }).msixOpen = s.dev.msixOpen := rfl
  have hmasked : (s.clear.onHp fun p => { p with msgs := rest }).vecMasked v = s.dev.vecMasked v := rfl
  simp only [State.clear_hp, h, hopen, hmasked]
  cases s.dev.msixOpen with
  | false => simp [hw]
  | true =>
    cases s.dev.vecMasked v with
    | true => simp
    | false => simp [Dev.emitMsix]

/-- Settles O18: its two parts, a command at a time. -/
theorem interruptMessages : Obligations.InterruptMessages := by
  unfold Obligations.InterruptMessages Claims.InterruptMessageCells
  exact ⟨msixTable, fun s v rest => does_msixMessageSend⟩

end Sys2Proof.Machine
end

section
/-!
O26: its clause on posted writes fails. It leaves out the check of the Arcade access table (R493), which ends a write as PERM at the Arcade's own
device however free its ingress and its path are.
-/
namespace Sys2Proof.Machine

/-- The reset device with Itmos link 0 UP and routed to device 5. -/
def arcadeHome : Dev := { Dev.reset.wr (Reg.itmRoute + 4 * 5) 0 with itm := { state := .up } :: List.replicate 4 {} }

/-- A posted write of ARC0 to the register space of device 5. -/
def arcadeRemoteWrite : Req :=
  { seq := 0, agent := 58, ident := 58, orig := 0, ing := .arcade, op := .write, posted := true, ga := 5 * 2 ^ 38, len := 4,
    data := allOn [1, 2, 3, 4], ts := 0 }

theorem arcadeHome_inv : Inv { State.reset with dev := arcadeHome } :=
  (Dev.wr_sound _ (Reg.itmRoute + 4 * 5) 0 Dev.reset_sound).of rfl rfl rfl rfl rfl rfl

theorem arcadeRemoteWrite_route : (arcadeHome.route arcadeRemoteWrite.ga (max arcadeRemoteWrite.len 1)).toOption = some (.link 0 5) := by
  decide +kernel

/-- The default access table holds no entry for another device. -/
theorem arcadeRemoteWrite_refused : arcadeHome.arcRefused arcadeRemoteWrite = true := by decide +kernel

theorem issue_arcadeRemoteWrite_reqs : (arcadeHome.issue arcadeRemoteWrite).fab.reqs = [] := by decide +kernel

theorem eq_ok_of_toOption {ε α : Type} {e : Except ε α} {t : α} (h : e.toOption = some t) : e = .ok t := by
  cases e with
  | error => cases h
  | ok => exact congrArg _ (Option.some.inj h)

/-- Refutes O26: nothing holds `arcadeRemoteWrite` at its ingress, its path has room and its route is known, but the access table does not allow
it (`arcadeRemoteWrite_refused`), so it takes no place among the requests. -/
theorem not_requestsAccepted : ¬ Obligations.RequestsAccepted := by
  unfold Obligations.RequestsAccepted
  intro h
  obtain ⟨haccepted, -⟩ := h { State.reset with dev := arcadeHome } arcadeRemoteWrite (.link 0 5) 0 arcadeHome_inv
  obtain ⟨q, hq, -⟩ := haccepted rfl rfl (by decide +kernel) (by decide +kernel) (by decide +kernel)
    (fun _ hx => absurd hx List.not_mem_nil) (by decide +kernel) (eq_ok_of_toOption arcadeRemoteWrite_route) (by decide +kernel)
  rw [issue_arcadeRemoteWrite_reqs] at hq
  cases hq

end Sys2Proof.Machine
end

section
/-!
O25: the clause on the acknowledgement of a link fails, as the one of O24 does: `Inv` lets a combining line that waits for room hold the number of a
request that stands accepted, and the room that the acknowledgement makes lets the waiting one in under that number.
-/
namespace Sys2Proof.Machine

/-- A posted write numbered 5 that has been sent to device 5 over link 0. -/
def sentWrite5 : Req := { endedWrite5 with ga := 5 * 2 ^ 38 + 0x1_0000_0000, path := .itm 0, tgt := .link 0 5, st := .started }

/-- The reset device with that write on its link and `heldWrite5` waiting. -/
def sharedLinkNumber : State :=
  { State.reset with dev := { Dev.reset with fab := { reqs := [sentWrite5], held := [heldWrite5], nextSeq := 6 } } }

theorem sharedLinkNumber_inv : Inv sharedLinkNumber := Dev.reset_sound.of rfl rfl rfl rfl rfl rfl

theorem numbersAfter_pwbEntryFree_sharedLinkNumber : numbersAfter (exec (.pwbEntryFree (.itm 0)) sharedLinkNumber) = [5] := by decide +kernel

/-- Refutes O25: in `sharedLinkNumber`, which meets `Inv`, the acknowledgement of the write 5 on its link leaves a request numbered 5. -/
theorem not_buffersEmptied : ¬ Obligations.BuffersEmptied := by
  unfold Obligations.BuffersEmptied Claims.BuffersEmptied
  rintro ⟨h, -⟩
  obtain ⟨-, -, hacked, -⟩ := h sharedLinkNumber (.itm 0) 0 sharedLinkNumber_inv
  have hgone := (hacked sentWrite5 0 5 rfl rfl rfl (by decide)).notMem_numbersAfter
  rw [numbersAfter_pwbEntryFree_sharedLinkNumber] at hgone
  exact hgone (List.mem_singleton_self 5)

end Sys2Proof.Machine
end

section
/-!
O31: the clause on a cycle with LLOCK_N low fails. A read whose global address decodes to nothing ends at its ingress (R60), and the request that
`Dev.failEarly` then looks up by its new number is another one where `Inv` lets a request in flight hold that number already: both are gone, and
the cycle finds no request to be held for.
-/
namespace Sys2Proof.Machine

/-- A read of ARC0 numbered 1, which is the number the reset device gives next. -/
def arcadeRead1 : Req :=
  { seq := 1, agent := 58, ident := 58, orig := 0, ing := .arcade, op := .read, posted := false, ga := 0x1_0000_0000, len := 4, ts := 0 }

/-- The reset device with a running bus, long window 0 on a part of the local map that holds nothing (R57), and that read in flight. -/
def undecodedWindow : Dev :=
  { ((Dev.reset.wr Reg.lbuCtl 0x1C31).wr (winBase .lw 0) 1).wr (winBase .lw 0 + 0x10) 0x2000_0000 with
    lbu := { lreset := false }, fab := { reqs := [arcadeRead1] } }

/-- A read cycle of LBM0 in that window. -/
def undecodedCycle : SlaveCycle := { master := 0, addr := 0, beN := 0 }

theorem undecodedWindow_inv : Inv { State.reset with dev := undecodedWindow } :=
  (Dev.wr_sound _ (winBase .lw 0 + 0x10) 0x2000_0000 (Dev.wr_sound _ (winBase .lw 0) 1
    (Dev.wr_sound _ Reg.lbuCtl 0x1C31 Dev.reset_sound))).of rfl rfl rfl rfl rfl rfl

theorem undecodedWindow_layout : undecodedWindow.winSize .lw 0 = 4096 ∧ undecodedWindow.winTgt .lw 0 = 0x2000_0000 ∧
    undecodedWindow.winBit .lw 0 9 = false := by decide +kernel

/-- The window lies outside the L-bus space of the local map. -/
theorem undecodedWindow_noLoop (a : Nat) : undecodedWindow.lwLoop (undecodedWindow.winGa .lw 0 a) = false := by
  obtain ⟨hsize, htgt, hrsv⟩ := undecodedWindow_layout
  have hga : undecodedWindow.winGa .lw 0 a % 2 ^ 38 < 0x20_0000_0000 := by
    simp only [Dev.winGa, hsize, htgt, hrsv, Bool.false_eq_true, if_false]
    omega
  simp only [Dev.lwLoop, Bool.and_eq_false_iff, decide_eq_false_iff_not]
  omega

theorem undecodedWindow_ready : undecodedWindow.slaveReady undecodedCycle 0 false :=
  ⟨⟨by decide +kernel, by decide +kernel, rfl, rfl, by decide +kernel, by decide +kernel, fun _ hx => absurd hx List.not_mem_nil, fun _ => rfl⟩,
    undecodedWindow_noLoop, by decide +kernel⟩

theorem undecodedWindow_slotReady : undecodedWindow.slotReady undecodedCycle.master :=
  ⟨by decide +kernel, rfl, by decide +kernel, rfl, rfl, by decide +kernel, rfl⟩

/-- The delayed-read slots a command leaves. -/
def slotsAfter : Host.Outcome State Fault Refusal → List DrSlot
  | .next t => t.dev.lbu.slots
  | _ => []

theorem slotsAfter_slaveLockedCycle_undecodedWindow :
    slotsAfter (exec (.slaveLockedCycle undecodedCycle none) { State.reset with dev := undecodedWindow }) = [] := by decide +kernel

/-- What a command's own effect holds a cycle on is a slot after the command. -/
theorem Does.slotsAfter_ne_nil {c : Instr} {s : State} {x : SlaveCycle} {op : DrOp} (h : Does c s fun d => d.heldOn x op) :
    slotsAfter (exec c s) ≠ [] := by
  obtain ⟨d, hexec, -, slot, hslot, -⟩ := h
  have hkept : slot ∈ (settle s.dev d).lbu.slots := by rwa [settle_lbu_slots]
  generalize settle s.dev d = e at hexec hkept
  rw [hexec]
  exact List.ne_nil_of_mem hkept

/-- Refutes O31: `undecodedWindow` meets `Inv` and all that the clause asks, and `undecodedCycle` with LLOCK_N low leaves no slot in use. -/
theorem not_slaveLocksAndBarriers : ¬ Obligations.SlaveLocksAndBarriers := by
  unfold Obligations.SlaveLocksAndBarriers
  intro h
  obtain ⟨hlocked, -⟩ := h { State.reset with dev := undecodedWindow } undecodedCycle 0 0 0 undecodedWindow_inv
  obtain ⟨d, hexec, hheld, -⟩ := hlocked undecodedWindow_ready (by decide) (by decide +kernel) undecodedWindow_slotReady rfl (by decide +kernel)
  exact Does.slotsAfter_ne_nil ⟨d, hexec, hheld⟩ slotsAfter_slaveLockedCycle_undecodedWindow

end Sys2Proof.Machine
end

section
/-!
SUPPORT. Everything that accepting requests, sending them to peers and trying the held ones again can do to the device, said once: a property that
the updates listed in `FabricClosed` keep is kept by `Dev.emitLines`, `Dev.wbarsFor`, `Dev.accept` and `Dev.retryHeld`.
-/
namespace Sys2Proof.Machine

/-- What stands in the fabric while requests come and go: acceptance numbers only rise, barriers only take failures, and semaphores and the counts
of barriers are left. -/
structure Fabric.Onward (b c : Fabric) : Prop where
  seq : b.nextSeq ≤ c.nextSeq
  barriers : c.barriers.map (fun x => { x with err := false }) = b.barriers.map fun x => { x with err := false }
  semLocks : c.semLocks = b.semLocks
  semGranted : c.semGranted = b.semGranted
  winBarSeq : c.winBarSeq = b.winBarSeq
  lwBar : c.lwBar = b.lwBar

theorem Fabric.Onward.refl (b : Fabric) : b.Onward b := ⟨le_rfl, rfl, rfl, rfl, rfl, rfl⟩

theorem Fabric.Onward.trans {a b c : Fabric} (h : a.Onward b) (g : b.Onward c) : a.Onward c :=
  ⟨h.seq.trans g.seq, g.barriers.trans h.barriers, g.semLocks.trans h.semLocks, g.semGranted.trans h.semGranted,
    g.winBarSeq.trans h.winBarSeq, g.lwBar.trans h.lwBar⟩

/-- A counter that accepting a request may advance: those of R60, R102 and the log (R284), and the HITS of a window (R90). -/
def FabricCounter (off : Nat) : Prop :=
  off ∈ [Reg.winDecodeMiss, Reg.hpLateCpl, Reg.intElOvf, Reg.intElWritten] ∨ (∃ t, off = Reg.intTypeCount + 4 * errCode t) ∨
    ∃ f n, off = winBase f n + 0x18

/-- A property of the device that every single update made while requests are accepted keeps. -/
structure FabricClosed (P : Dev → Prop) : Prop where
  bump : ∀ d off n, FabricCounter off → P d → P (d.bump off n)
  elog : ∀ d x, P d → P { d with elog := x }
  emit : ∀ d e, P d → P (d.emit e)
  fab : ∀ d f, d.fab.Onward (f d.fab) → P d → P (d.onFab f)
  msgs : ∀ d n m, P d → P { d with itm := d.itm.modify n fun l => { l with msgs := l.msgs ++ [m] } }
  intb : ∀ d x, P d → P { d with intb := { d.intb with remote := x } }

namespace FabricClosed

variable {P : Dev → Prop} (hP : FabricClosed P)
include hP

/-! ### Failures -/

theorem log (d : Dev) (c : Culprit) (type : ErrType) (ga detail count : Nat) (h : P d) : P (d.log c type ga detail count) := by
  have hcount := hP.bump d _ count (.inr (.inl ⟨type, rfl⟩)) h
  unfold Dev.log
  dsimp only
  split
  · exact hP.bump _ _ _ (.inl (by simp)) (hP.elog _ _ hcount)
  · exact hP.bump _ _ _ (.inl (by simp)) (hP.elog _ _ hcount)

/-- An update of the fabric that leaves the numbers, the barriers, the semaphores and the counts of barriers alone. -/
theorem onFab (d : Dev) (f : Fabric → Fabric) (h : P d) (hseq : (f d.fab).nextSeq = d.fab.nextSeq := by rfl)
    (hbar : (f d.fab).barriers = d.fab.barriers := by rfl) (hlocks : (f d.fab).semLocks = d.fab.semLocks := by rfl)
    (hgranted : (f d.fab).semGranted = d.fab.semGranted := by rfl) (hwin : (f d.fab).winBarSeq = d.fab.winBarSeq := by rfl)
    (hlw : (f d.fab).lwBar = d.fab.lwBar := by rfl) : P (d.onFab f) :=
  hP.fab d f ⟨hseq.ge, by rw [hbar], hlocks, hgranted, hwin, hlw⟩ h

theorem updRsvInfo (d : Dev) (a : Nat) (f : RsvInfo → RsvInfo) (h : P d) : P (d.updRsvInfo a f) := by
  unfold Dev.updRsvInfo
  exact hP.onFab d _ h

theorem loseRsv (d : Dev) (p : Rsv → Bool) (h : P d) : P (d.loseRsv p) :=
  SettleClosed.foldl _ (fun e _ he => hP.updRsvInfo e _ _ he) _ _ (hP.onFab d _ h)

theorem rsvException (d : Dev) (agent ident : Nat) (h : P d) : P (d.rsvException agent ident) := by
  unfold Dev.rsvException
  dsimp only
  have hlost := hP.loseRsv d (fun r => r.agent == agent && (agent < 32 || 40 ≤ agent || r.ident == ident)) h
  split
  · exact hP.onFab _ _ (hP.updRsvInfo _ _ _ hlost)
  · exact hlost

theorem noteFail (d : Dev) (agent ident : Nat) (ing : Ingress) (seq : Nat) (t : ErrType) (hi : Nat) (h : P d) :
    P (d.noteFail agent ident ing seq t hi) := by
  refine hP.rsvException _ _ _ (hP.fab d _ ⟨le_rfl, ?_, rfl, rfl, rfl, rfl⟩ h)
  dsimp only
  rw [List.map_map]
  refine List.map_congr_left fun b _ => ?_
  dsimp only [Function.comp_apply]
  split <;> rfl

theorem logFail (d : Dev) (r : Req) (t : ErrType) (detail failAt : Nat) (h : P d) : P (d.logFail r t detail failAt) := by
  unfold Dev.logFail
  dsimp only
  split
  · exact hP.log _ _ _ _ _ _ (hP.bump d _ _ (.inl (by simp)) h)
  · exact hP.log _ _ _ _ _ _ h

/-! ### Requests -/

theorem updReq (d : Dev) (seq : Nat) (f : Req → Req) (h : P d) : P (d.updReq seq f) := hP.onFab d _ h

theorem dropReq (d : Dev) (seq : Nat) (h : P d) : P (d.dropReq seq) := hP.onFab d _ h

theorem rsvRecord (d : Dev) (r : Req) (h : P d) : P (d.rsvRecord r) := by
  unfold Dev.rsvRecord
  split
  · split
    · exact h
    · exact hP.onFab _ _ (hP.updRsvInfo d _ _ h)
  · exact hP.updRsvInfo d _ _ h
  · exact h

theorem deliver (d : Dev) (r : Req) (h : P d) : P (d.deliver r) := by
  unfold Dev.deliver
  have hdrop := hP.dropReq d r.seq h
  split
  · dsimp only
    split
    · exact hP.bump _ _ _ (.inl (by simp)) hdrop
    · exact hdrop
  · extract_lets d1
    have h1 : P d1 := SettleClosed.ite (hP.rsvException d _ _ h) h
    have hdrop1 := hP.dropReq d1 r.seq h1
    split
    · have hrec : P (if r.toPeer then d1.dropReq r.seq else (d1.dropReq r.seq).rsvRecord r) :=
        SettleClosed.ite hdrop1 (hP.rsvRecord _ _ hdrop1)
      exact SettleClosed.ite (hP.emit _ _ hrec) hrec
    · exact hP.emit _ _ (hP.rsvRecord _ _ hdrop1)
    · exact hP.emit _ _ (hP.rsvRecord _ _ hdrop1)
    · exact hdrop1
    · exact h1

/-- The answer to a request that has just been placed as ended. -/
theorem deliverLast (d : Dev) (h : P d) : P (match d.req? (d.fab.nextSeq - 1) with | some r => d.deliver r | none => d) := by
  split
  · exact hP.deliver d _ h
  · exact h

/-! ### Transfers and WBARs -/

theorem sendPeer (d : Dev) (r : Req) (h : P d) : P (d.sendPeer r) := by
  unfold Dev.sendPeer
  split
  · exact SettleClosed.ite h (hP.updReq _ _ _ (SettleClosed.foldl _ (fun e _ he => hP.emit e _ he) _ d h))
  · exact h

theorem wbarEnd (d : Dev) (n dst last : Nat) (status : Option ErrType) (h : P d) : P (d.wbarEnd n dst last status) := by
  unfold Dev.wbarEnd
  dsimp only
  cases status with
  | none => exact hP.onFab _ _ h
  | some t => exact hP.onFab _ _ (SettleClosed.foldl _ (fun e s he => hP.noteFail e _ _ _ _ _ _ he) _ d h)

theorem sendWbar (d : Dev) (n dst : Nat) (h : P d) : P (d.sendWbar n dst) := by
  unfold Dev.sendWbar
  extract_lets ws marks later unsent d1 left last
  have hlater : ∀ e, P e → P (later e) := fun e he => hP.onFab e _ he
  split
  · have h1 : P d1 := SettleClosed.ite (hP.onFab d _ h) (hlater d h)
    split
    · exact hlater d h
    · split
      · exact h1
      · split
        · exact hP.emit _ _ (hP.onFab d1 _ h1)
        · exact hlater d1 h1
  · exact hlater d h
  · exact hP.wbarEnd d _ _ _ _ h

theorem sendOut (d : Dev) (r : Req) (h : P d) : P (d.sendOut r) := by
  unfold Dev.sendOut
  have hsent := hP.sendPeer d r h
  split
  · exact SettleClosed.ite (hP.sendWbar _ _ _ hsent) hsent
  · exact hsent

theorem wbarsFor (d : Dev) (agent : Nat) (h : P d) : P (d.wbarsFor agent) :=
  SettleClosed.foldl _ (fun e _ he => hP.sendWbar e _ _ he) _ d h

theorem wbarsForRead (d : Dev) (r : Req) (h : P d) : P (d.wbarsForRead r) :=
  SettleClosed.foldl _ (fun e _ he => hP.sendWbar e _ _ he) _ d h

/-! ### Combining lines -/

theorem place (d : Dev) (r : Req) (h : P d) : P (d.place r) := by
  unfold Dev.place
  extract_lets idx q d1
  have h1 : P d1 := hP.fab d _ ⟨Nat.le_succ _, rfl, rfl, rfl, rfl, rfl⟩ h
  split
  · exact SettleClosed.ite (hP.sendOut d1 q h1) h1
  · exact h1

theorem emitLine (d : Dev) (l : CwbLine) (h : P d) : P (d.emitLine l) := by
  unfold Dev.emitLine
  extract_lets d1
  have h1 : P d1 := hP.onFab d _ h
  split
  · exact SettleClosed.ite (hP.place _ _ h1) (hP.fab d1 _ ⟨Nat.le_succ _, rfl, rfl, rfl, rfl, rfl⟩ h1)
  · exact hP.noteFail _ _ _ _ _ _ _ (hP.logFail _ _ _ _ _ h1)

theorem emitLines (d : Dev) (p : CwbLine → Bool) (h : P d) : P (d.emitLines p) :=
  SettleClosed.foldl _ (fun e l he => hP.emitLine e l he) _ d h

theorem combineBlock (d : Dev) (r : Req) (granule : Nat) (data : WData) (h : P d) : P (d.combineBlock r granule data) := by
  unfold Dev.combineBlock
  extract_lets p key full d1 l d2
  split
  · exact SettleClosed.ite (hP.emitLine _ _ (hP.onFab d _ h)) (hP.onFab d _ h)
  · have h1 : P d1 := by
      unfold d1
      split
      · exact SettleClosed.ite (hP.emitLine _ _ h) h
      · exact h
    have h2 : P d2 := hP.onFab d1 _ h1
    exact SettleClosed.ite (hP.emitLine _ _ h2) h2

theorem combine (d : Dev) (r : Req) (h : P d) : P (d.combine r) :=
  SettleClosed.foldl _ (fun e _ he => hP.combineBlock e r _ _ he) _ d h

/-! ### Acceptance -/

theorem failEarly (d : Dev) (r : Req) (t : ErrType) (detail : Nat) (h : P d) : P (d.failEarly r t detail) := by
  unfold Dev.failEarly
  have hlog := hP.logFail d r t detail 0 h
  dsimp only
  split
  · exact hP.fab _ _ ⟨Nat.le_succ _, rfl, rfl, rfl, rfl, rfl⟩ (hP.noteFail _ _ _ _ _ _ _ hlog)
  · exact hP.deliverLast _ (hP.place _ _ hlog)

/-- The counter of the zone or window a request goes to (R90). -/
theorem targetHits (d : Dev) (t : Target) (h : P d) : P (match t with
    | .zone n => d.bump (winBase .lz n + 0x18)
    | .ow n => d.bump (winBase .ow n + 0x18)
    | _ => d) := by
  split
  · exact hP.bump _ _ _ (.inr (.inr ⟨.lz, _, rfl⟩)) h
  · exact hP.bump _ _ _ (.inr (.inr ⟨.ow, _, rfl⟩)) h
  · exact h

theorem acceptRouted (d : Dev) (r : Req) (t : Target) (h : P d) : P (d.acceptRouted r t) := by
  unfold Dev.acceptRouted
  extract_lets q d1 own out lines cut failed known served flush st placed
  have h1 : P d1 := hP.targetHits d t h
  split
  · have hown : P own := SettleClosed.ite (hP.wbarsFor _ _ (hP.emitLines _ _ h1)) h1
    have hout : P out := by
      unfold out
      split
      · exact hP.emitLines _ _ hown
      · exact hown
    exact SettleClosed.ite (hP.combine _ _ h1) (hP.place _ _ hout)
  · have hlines : P lines := hP.emitLines _ _ h1
    split
    · exact hP.deliverLast _ (hP.place _ _ (hP.onFab lines _ hlines))
    · split
      · exact hP.deliverLast _ (hP.place _ _ (hP.onFab lines _ hlines))
      · split
        · exact hP.deliverLast _ (hP.place _ _ hlines)
        · have hplaced : P placed := hP.place _ _ hlines
          exact SettleClosed.ite (hP.wbarsForRead _ _ hplaced) hplaced

theorem accept (d : Dev) (r : Req) (h : P d) : P (d.accept r) := by
  unfold Dev.accept
  split
  · exact hP.noteFail _ _ _ _ _ _ _ (hP.log _ _ _ _ _ _ h)
  · split
    · exact hP.failEarly _ _ _ _ h
    · split
      · exact hP.failEarly _ _ _ _ h
      · split
        · exact hP.failEarly _ _ _ _ h
        · exact SettleClosed.ite (hP.failEarly _ _ _ _ h) (hP.acceptRouted _ _ _ h)

/-! ### Held requests and messages -/

theorem retryHeldFrom (rs : List Req) : ∀ (d : Dev) (still : List Req), P d → P (d.retryHeldFrom still rs) := by
  induction rs with
  | nil => exact fun _ _ h => h
  | cons r t ih =>
    intro d still h
    unfold Dev.retryHeldFrom
    split
    · exact ih _ _ (hP.onFab d _ h)
    · split
      · exact ih _ _ (hP.onFab d _ h)
      · exact ih _ _ (hP.accept d r h)

theorem pumpPeers (d : Dev) (h : P d) : P d.pumpPeers := by
  refine SettleClosed.foldl _ (fun e r he => ?_) _ d h
  split
  · exact SettleClosed.ite (hP.sendOut e r he) he
  · exact he

theorem wbarAnswer (d : Dev) (n tag orig : Nat) (status : Option ErrType) (h : P d) : P (d.wbarAnswer n tag orig status) :=
  SettleClosed.ite (hP.emit _ _ h) h

theorem sendMsg (d : Dev) (n : Nat) (t : Transfer) (h : P d) : P (d.sendMsg n t) := hP.emit _ _ (hP.msgs d _ _ h)

theorem actMsg {d e : Dev} {w : WaitMsg} (he : d.actMsg w = some e) (h : P d) : P e := by
  unfold Dev.actMsg at he
  split at he
  · split at he
    · obtain rfl := Option.some.inj he
      exact hP.wbarAnswer _ _ _ _ _ (hP.onFab d _ h)
    · obtain rfl := Option.some.inj he
      exact hP.intb d _ h
  · split at he
    · obtain rfl := Option.some.inj he
      exact SettleClosed.ite (hP.wbarAnswer _ _ _ _ _ h) h
    · split at he
      · obtain ⟨_, _, rfl⟩ := Option.map_eq_some_iff.mp he
        exact hP.emit _ _ (hP.onFab d _ h)
      · obtain rfl := Option.some.inj he
        exact hP.sendMsg d _ _ h

theorem pumpMsgsFrom (ws : List WaitMsg) : ∀ (d : Dev) (still : List WaitMsg), P d → P (d.pumpMsgsFrom still ws) := by
  induction ws with
  | nil => exact fun d _ h => hP.onFab d _ h
  | cons w t ih =>
    intro d still h
    unfold Dev.pumpMsgsFrom
    dsimp only
    split
    · exact ih d _ h
    · split
      · exact ih _ _ (hP.actMsg ‹_› h)
      · exact ih d _ h

theorem retryHeld (d : Dev) (h : P d) : P d.retryHeld :=
  hP.pumpMsgsFrom _ _ _ (hP.pumpPeers _ (hP.retryHeldFrom _ _ _ (hP.onFab d _ h)))

end FabricClosed

end Sys2Proof.Machine
end
section
/-!
O22: barriers (R81, R84, R85, R220–R223).
-/
namespace Sys2Proof.Machine

/-! ### What accepting requests leaves -/

/-- A register that is no counter of the fabric keeps its value, and the fabric goes onward. -/
theorem fabricClosed_keeps {off : Nat} (hoff : ¬FabricCounter off) (x : Word) (b : Fabric) :
    FabricClosed fun e => cellsWf e.regs = true ∧ e.rd off = x ∧ b.Onward e.fab where
  bump := fun e a n ha ⟨hw, hrd, hfab⟩ => by
    have hne : off ≠ a := fun h => hoff (h ▸ ha)
    exact ⟨Dev.bump_wf hw a n, by rw [Dev.rd_bump hw, if_neg hne, hrd], hfab⟩
  elog := fun _ _ h => h
  emit := fun _ _ h => h
  fab := fun _ _ hf ⟨hw, hrd, hfab⟩ => ⟨hw, hrd, hfab.trans hf⟩
  msgs := fun _ _ _ h => h
  intb := fun _ _ h => h

theorem winBarrierStatus_not_fabricCounter : ¬FabricCounter Reg.winBarrierStatus := by
  rintro (h | ⟨t, h⟩ | ⟨f, n, h⟩)
  · revert h
    decide
  · simp only [Reg.winBarrierStatus, Reg.intTypeCount] at h
    omega
  · simp only [Reg.winBarrierStatus] at h
    cases f <;> simp only [winBase, Reg.winIwCtl, Reg.winOwCtl, Reg.winLwCtl, Reg.winLzCtl] at h <;> omega

/-! ### Acceptance -/

/-- The requester's combining lines go out and WBARs follow its writes before its barrier is accepted (R218, R224): acceptance numbers only rise. -/
theorem Dev.beforeBarrier_onward {d : Dev} (hw : cellsWf d.regs = true) (q : Nat) :
    cellsWf ((d.emitLines fun l => l.agent == q).wbarsFor q).regs = true ∧
      d.fab.Onward ((d.emitLines fun l => l.agent == q).wbarsFor q).fab := by
  have hkeep := fabricClosed_keeps winBarrierStatus_not_fabricCounter (d.rd Reg.winBarrierStatus) d.fab
  obtain ⟨hw', -, hfab⟩ := hkeep.wbarsFor _ q (hkeep.emitLines d (fun l => l.agent == q) ⟨hw, rfl, .refl _⟩)
  exact ⟨hw', hfab⟩

/-- An accepted barrier stands among those pending, with a number no earlier than the next one, and WIN_BARRIER_STATUS shows a host's (R85). -/
theorem Dev.takeBarrier_view {d : Dev} (hw : cellsWf d.regs = true) (src : BarrierSrc) (complete : Bool) :
    (∃ b ∈ (d.takeBarrier src complete).fab.barriers,
      b.agent = barrierAgent src ∧ b.complete = complete ∧ b.src = src ∧ d.fab.nextSeq ≤ b.seq) ∧
    ∀ w h, src = .win w h → (d.takeBarrier src complete).rd Reg.winBarrierStatus =
      BitVec.ofNat 32 (h.val * 256 + (d.fab.winBarSeq + 1) % 65536 * 65536) := by
  unfold Dev.takeBarrier
  extract_lets q d1 err d2 d3
  obtain ⟨hw1, hfab⟩ : cellsWf d1.regs = true ∧ d.fab.Onward d1.fab := Dev.beforeBarrier_onward hw q
  clear_value d1 err
  refine ⟨⟨{ agent := q, complete := complete, seq := d1.fab.nextSeq, src := src, err := err }, ?_, rfl, rfl, rfl, hfab.seq⟩, ?_⟩
  · cases src <;> exact List.mem_append_right _ (List.mem_singleton_self _)
  · rintro w h rfl
    rw [← hfab.winBarSeq]
    exact Dev.rd_wr_same hw1 _ _

theorem exec_barrier (src : BarrierSrc) (complete : Bool) (s : State) :
    exec (if complete then .completeBarrier src else .orderBarrier src) s = s.act fun d => d.barrierFrom src complete := by
  cases complete <;> (unfold exec; rfl)

/-- A barrier is taken from every source but a writer of WIN_BARRIER that is no host (R84). -/
theorem Dev.barrierFrom_allowed {src : BarrierSrc} (h : ∀ w x, src = .win w x → w.val < 32) (d : Dev) (complete : Bool) :
    d.barrierFrom src complete = d.takeBarrier src complete := by
  cases src with
  | win w x => exact if_neg (Nat.not_le.mpr (h w x rfl))
  | _ => rfl

theorem does_barrier_accepted {s : State} (hw : cellsWf s.dev.regs = true) {src : BarrierSrc} (complete : Bool)
    (h : ∀ w x, src = .win w x → w.val < 32) :
    Does (if complete then .completeBarrier src else .orderBarrier src) s fun d =>
      (∃ b ∈ d.fab.barriers, b.agent = barrierAgent src ∧ b.complete = complete ∧ b.src = src ∧ s.dev.fab.nextSeq ≤ b.seq) ∧
      (∀ w x, src = .win w x → d.rd Reg.winBarrierStatus = BitVec.ofNat 32 (x.val * 256 + (s.dev.fab.winBarSeq + 1) % 65536 * 65536)) ∧
      d.mem = s.dev.mem := by
  refine does_act _ (exec_barrier src complete s) ?_
  rw [Dev.barrierFrom_allowed h]
  obtain ⟨hpending, hstatus⟩ := Dev.takeBarrier_view (d := s.clear) hw src complete
  exact ⟨hpending, hstatus, Dev.takeBarrier_mem ..⟩

/-- What a log entry leaves of the fabric, and that its type is counted (R284). -/
theorem Dev.log_oneMore {d : Dev} (hw : cellsWf d.regs = true) (c : Culprit) (type : ErrType) (ga detail : Nat) :
    (d.log c type ga detail).oneMore d type := by
  have hne : Reg.intTypeCount + 4 * errCode type ≠ Reg.intElOvf ∧ Reg.intTypeCount + 4 * errCode type ≠ Reg.intElWritten := by
    simp only [Reg.intTypeCount, Reg.intElOvf, Reg.intElWritten]
    omega
  rw [Dev.oneMore, Dev.log_rd hw _ _ _ _ _ hne.1 hne.2, if_pos rfl]
  rfl

@[simp] theorem Dev.log_fab (d : Dev) (c : Culprit) (type : ErrType) (ga detail count : Nat) : (d.log c type ga detail count).fab = d.fab := by
  unfold Dev.log
  dsimp only
  split <;> rfl

theorem does_barrier_refused {s : State} (hw : cellsWf s.dev.regs = true) {w : Requester} {x : Fin 32} (complete : Bool) (h : 32 ≤ w.val) :
    Does (if complete then .completeBarrier (.win w x) else .orderBarrier (.win w x)) s fun d =>
      d.fab = s.dev.fab ∧ d.oneMore s.dev .perm := by
  refine does_act _ (exec_barrier _ complete s) ?_
  simp only [Dev.barrierFrom, if_pos h]
  exact ⟨Dev.log_fab .., Dev.log_oneMore (d := s.clear) hw _ _ _ _⟩

theorem barriersAccepted : Claims.BarriersAccepted := by
  unfold Claims.BarriersAccepted
  refine fun s src complete hInv => ⟨does_barrier_accepted hInv.regs complete, ?_⟩
  rintro w x rfl h
  exact does_barrier_refused hInv.regs complete h

/-! ### The end of a barrier -/

/-- The requests that go on when a barrier is done, and the exception its error is, leave WIN_BARRIER_STATUS and the barriers. -/
theorem Dev.afterBarrier_onward {d : Dev} (hw : cellsWf d.regs = true) (b : Barrier) :
    (if b.err then d.rsvException b.agent 0 else d).retryHeld.rd Reg.winBarrierStatus = d.rd Reg.winBarrierStatus ∧
      d.fab.Onward (if b.err then d.rsvException b.agent 0 else d).retryHeld.fab := by
  have hkeep := fabricClosed_keeps winBarrierStatus_not_fabricCounter (d.rd Reg.winBarrierStatus) d.fab
  have h := And.intro hw (And.intro (Eq.refl (d.rd Reg.winBarrierStatus)) (Fabric.Onward.refl d.fab))
  refine (hkeep.retryHeld _ ?_).2
  split
  · exact hkeep.rsvException d _ _ h
  · exact h

/-- A barrier that stands in the later list has the acceptance number of one that stood before. -/
theorem Fabric.Onward.barrier_of_mem {b c : Fabric} (h : b.Onward c) {x : Barrier} (hx : x ∈ c.barriers) : ∃ y ∈ b.barriers, y.seq = x.seq := by
  have hmem := List.mem_map_of_mem (f := fun y : Barrier => { y with err := false }) hx
  rw [h.barriers] at hmem
  obtain ⟨y, hy, heq⟩ := List.mem_map.mp hmem
  exact ⟨y, hy, (congrArg Barrier.seq heq :)⟩

/-- A word whose two lowest bits are set keeps the others. -/
theorem setField_low_toNat (v : Word) (x : Nat) : (setField v 0 2 x).toNat = v.toNat / 4 * 4 + x % 4 := by
  have hv := v.isLt
  simp only [setField, fieldOf, bitsOf, BitVec.toNat_ofNat]
  omega

/-- DONE and ERR, read back from the two lowest bits of a word (R85). -/
theorem setField_doneErr (v : Word) (e : Bool) :
    fieldOf (setField v 0 2 (1 + 2 * b2n e)) 0 1 = 1 ∧ fieldOf (setField v 0 2 (1 + 2 * b2n e)) 1 1 = b2n e := by
  have he : b2n e < 2 := by cases e <;> decide
  simp only [fieldOf, bitsOf, setField_low_toNat]
  omega

theorem isWinBarrier_iff {src : BarrierSrc} : isWinBarrier src = true ↔ ∃ w h, src = .win w h := by
  cases src <;> simp [isWinBarrier]

/-- A barrier that is done stands no longer among those pending; the last WIN_BARRIER barrier of all shows DONE and its ERR (R85). -/
theorem Dev.barrierDone_view {d : Dev} (hw : cellsWf d.regs = true) (b : Barrier) :
    (∀ c ∈ (d.barrierDone b).fab.barriers, c.seq ≠ b.seq) ∧
    (isWinBarrier b.src = true → (∀ c ∈ d.fab.barriers, isWinBarrier c.src = true → c = b) →
      (d.barrierDone b).flag Reg.winBarrierStatus 0 = true ∧ (d.barrierDone b).flag Reg.winBarrierStatus 1 = b.err) := by
  unfold Dev.barrierDone
  extract_lets d1 d2
  have hw1 : cellsWf d1.regs = true := hw
  have hbar1 : ∀ c ∈ d1.fab.barriers, c ∈ d.fab.barriers ∧ c.seq ≠ b.seq := fun c hc => by
    obtain ⟨hmem, hne⟩ := List.mem_filter.mp hc
    exact ⟨hmem, bne_iff_ne.mp hne⟩
  have hw2 : cellsWf d2.regs = true := by
    unfold d2
    split
    · exact SettleClosed.ite (P := fun e => cellsWf e.regs = true) hw1 (Dev.setFld_wf hw1 ..)
    · exact SettleClosed.ite (P := fun e => cellsWf e.regs = true) hw1 hw1
    · exact hw1
    · exact SettleClosed.ite (P := fun e => cellsWf e.regs = true) (Dev.bump_wf hw1 ..) hw1
  have hbar2 : d2.fab.barriers = d1.fab.barriers := by
    unfold d2
    split
    · exact SettleClosed.ite (P := fun e => e.fab.barriers = d1.fab.barriers) rfl rfl
    · exact SettleClosed.ite (P := fun e => e.fab.barriers = d1.fab.barriers) rfl rfl
    · rfl
    · exact SettleClosed.ite (P := fun e => e.fab.barriers = d1.fab.barriers) rfl rfl
  obtain ⟨hrd, hfab⟩ := Dev.afterBarrier_onward hw2 b
  refine ⟨fun c hc => ?_, fun hsrc hall => ?_⟩
  · obtain ⟨y, hy, hseq⟩ := hfab.barrier_of_mem hc
    rw [← hseq]
    exact (hbar1 y (hbar2 ▸ hy)).2
  · have hnone : (d1.fab.barriers.any fun c => isWinBarrier c.src) = false := by
      refine List.any_eq_false.mpr fun c hc hwin => ?_
      exact (hbar1 c hc).2 (hall c (hbar1 c hc).1 hwin ▸ rfl)
    obtain ⟨w, h, hwin⟩ := isWinBarrier_iff.mp hsrc
    have hd2 : d2 = d1.setFld Reg.winBarrierStatus 0 2 (1 + 2 * b2n b.err) := by
      simp only [d2, hwin, hnone, Bool.false_eq_true, if_false]
    obtain ⟨hdone, herr⟩ := setField_doneErr (d1.rd Reg.winBarrierStatus) b.err
    have hval : d2.rd Reg.winBarrierStatus = setField (d1.rd Reg.winBarrierStatus) 0 2 (1 + 2 * b2n b.err) := by
      rw [hd2, Dev.rd_setFld hw1, if_pos rfl]
    simp only [Dev.flag, Dev.fld]
    rw [hrd, hval, hdone, herr]
    cases b.err <;> exact ⟨rfl, rfl⟩

theorem does_barrierDone {s : State} (hw : cellsWf s.dev.regs = true) {b : Barrier}
    (hfind : (s.dev.fab.barriers.find? fun c => c.seq == b.seq) = some b) (hready : s.dev.barrierReady b = true) :
    Does (.barrierDone b.seq) s fun d =>
      (∀ c ∈ d.fab.barriers, c.seq ≠ b.seq) ∧
      (isWinBarrier b.src = true → (∀ c ∈ s.dev.fab.barriers, isWinBarrier c.src = true → c = b) →
        d.flag Reg.winBarrierStatus 0 = true ∧ d.flag Reg.winBarrierStatus 1 = b.err) ∧ d.mem = s.dev.mem := by
  refine does_act _ (by unfold exec; rfl) ?_
  have hrun : s.clear.barrierReady b = true := hready
  simp only [State.clear_fab, hfind, if_pos hrun]
  obtain ⟨hgone, hstatus⟩ := Dev.barrierDone_view (d := s.clear) hw b
  exact ⟨hgone, hstatus, Dev.barrierDone_mem ..⟩

/-! ### A BARRIER window is read -/

/-- Counting a hit leaves the matches of the long windows: HITS is none of their registers CTL and BASE (R83). -/
theorem Dev.winMatches_bump_hits {d : Dev} (hw : cellsWf d.regs = true) (n m a : Nat) :
    (d.bump (winBase .lw n + 0x18)).winMatches .lw m a = d.winMatches .lw m a := by
  have hctl : (d.bump (winBase .lw n + 0x18)).rd (winBase .lw m) = d.rd (winBase .lw m) := by
    rw [Dev.rd_bump hw, if_neg (by simp only [winBase]; omega)]
  have hbase : (d.bump (winBase .lw n + 0x18)).rd (winBase .lw m + 0x0C) = d.rd (winBase .lw m + 0x0C) := by
    rw [Dev.rd_bump hw, if_neg (by simp only [winBase]; omega)]
  simp only [Dev.winMatches, Dev.winEn, Dev.winBit, Dev.flag, Dev.winSize, Dev.winBaseAddr, Dev.fld, hctl, hbase]

/-- A cycle that is heard changes nothing at its level of LLOCK_N. -/
theorem Dev.slaveHeard.lockLevel {d : Dev} {c : SlaveCycle} {lw : Nat} {write : Bool} (h : d.slaveHeard c lw write) : d.lockLevel c = d := by
  obtain ⟨-, -, -, -, -, -, -, hlock⟩ := h
  refine if_neg fun hend => ?_
  simp only [Bool.and_eq_true, Bool.not_eq_true'] at hend
  simp [hlock hend.1] at hend

/-- A cycle that is heard repeats none that holds a slot (R131). -/
theorem Dev.slaveHeard.no_repeat {d : Dev} {c : SlaveCycle} {lw : Nat} {write : Bool} (h : d.slaveHeard c lw write) (w : Option Word) :
    (d.lbu.slots.find? fun x => x.repeats c lw w) = none := by
  obtain ⟨-, -, -, -, -, -, hslots, -⟩ := h
  refine List.find?_eq_none.mpr fun x hx hrep => ?_
  simp only [DrSlot.repeats, Bool.and_eq_true, beq_iff_eq] at hrep
  rcases hslots x hx with hne | hne
  · exact hne hrep.1.1.1.1.1.1
  · exact hne hrep.1.1.1.1.2

/-- What the pins answered before is no part of whether a cycle is refused at once. -/
theorem slaveGate_clear_eq_none {s : State} {c : SlaveCycle} {write : Bool} (h : s.dev.slaveGate c write = none) :
    s.clear.slaveGate c write = none := by
  unfold Dev.slaveGate at h ⊢
  simp only [ite_eq_iff, reduceCtorEq, and_false, false_or, and_true] at h ⊢
  exact h

theorem Dev.slaveHeard.clear {s : State} {c : SlaveCycle} {lw : Nat} {write : Bool} (h : s.dev.slaveHeard c lw write) :
    s.clear.slaveHeard c lw write := by
  obtain ⟨hon, hgate, hrest⟩ := h
  exact ⟨hon, slaveGate_clear_eq_none hgate, hrest⟩

/-- A register that is not a hits counter of the long window reads as before the hit was counted. -/
theorem Dev.winBit_bump_hits {d : Dev} (hw : cellsWf d.regs = true) (n m i : Nat) :
    (d.bump (winBase .lw n + 0x18)).winBit .lw m i = d.winBit .lw m i := by
  simp only [Dev.winBit, Dev.flag, Dev.fld, Dev.rd_bump hw, winBase]
  rw [if_neg (by omega)]

theorem Dev.winFind_bump_hits {d : Dev} (hw : cellsWf d.regs = true) (n a : Nat) :
    (d.bump (winBase .lw n + 0x18)).winFind .lw a = d.winFind .lw a := by
  simp only [Dev.winFind, Dev.winMatches_bump_hits hw]

/-- The answer to a single-beat read of a BARRIER window (R81, R205). -/
theorem Dev.slaveRead_barrierWindow {d : Dev} (hw : cellsWf d.regs = true) {c : SlaveCycle} {lw : Nat} (h : d.slaveHeard c lw false)
    (hbar : d.winBit .lw lw 13 = true) :
    d.slaveRead c = (d.bump (winBase .lw lw + 0x18)).answer (.normal [d.lwBarWord c.master.val &&& laneMask c.beN]) := by
  have hlevel := h.lockLevel
  have hrepeat := h.no_repeat none
  obtain ⟨hon, hgate, -, hbeats, hfind, hbusy, -, -⟩ := h
  have hbusy' : (d.bump (winBase .lw lw + 0x18)).slaveBusy c.master.val lw = false := by
    simp only [Dev.slaveBusy, Dev.winBit_bump_hits hw]
    exact hbusy
  have hbar' : (d.bump (winBase .lw lw + 0x18)).winBit .lw lw 13 = true := (Dev.winBit_bump_hits hw ..).trans hbar
  have hmin : min 1 8 = 1 := rfl
  have hwords : (d.bump (winBase .lw lw + 0x18)).lwBarWords lw c = [d.lwBarWord c.master.val &&& laneMask c.beN] := by
    simp only [Dev.lwBarWords, hbeats, hmin, List.range_one, List.map_cons, List.map_nil, Nat.mul_zero, Nat.add_zero,
      Dev.winFind_bump_hits hw, hfind, if_true]
    rfl
  have hinside : (((List.range 1).filter fun i => (d.bump (winBase .lw lw + 0x18)).winFind .lw (c.addr.toNat + 4 * i) != some lw)) = [] := by
    simp [Dev.winFind_bump_hits hw, hfind]
  unfold Dev.slaveRead
  simp only [hlevel, hon, hgate, hfind, hrepeat, hbeats, hmin, hinside, hbusy', hbar', hwords, Bool.not_true, Bool.false_eq_true,
    if_false, if_true]

theorem does_lwBarrierRead {s : State} (hw : cellsWf s.dev.regs = true) {c : SlaveCycle} {lw : Nat} (h : s.dev.slaveHeard c lw false)
    (hbar : s.dev.winBit .lw lw 13 = true) :
    Does (.lwBarrierRead c) s fun d => .slave (.normal [s.dev.lwBarWord c.master.val &&& laneMask c.beN]) ∈ d.out ∧ d.mem = s.dev.mem := by
  refine does_act _ (by unfold exec; rfl) ⟨?_, Dev.slaveRead_mem ..⟩
  rw [Dev.slaveRead_barrierWindow (d := s.clear) hw h.clear hbar]
  exact List.mem_append_right _ (List.mem_singleton_self _)

theorem barriersDone : Claims.BarriersDone := by
  unfold Claims.BarriersDone
  exact fun s b c lw hInv => ⟨fun hfind hready => does_barrierDone hInv.regs hfind hready, fun h hbar => does_lwBarrierRead hInv.regs h hbar⟩

/-- Settles O22: acceptance and the end of a barrier, each through what goes on after it (`FabricClosed`). -/
theorem barriers : Obligations.Barriers := ⟨barriersAccepted, barriersDone⟩

end Sys2Proof.Machine
end

section
/-!
O27: zone requests, locked sequences and retried requests start on the L-bus (R80, R115, R123, R126, R197, R198).
-/
namespace Sys2Proof.Machine

/-! ### Driving a cycle -/

/-- Driving a cycle changes nothing but the pins. -/
theorem Dev.driveCycle_pins (d : Dev) (j : ZoneJob) : (d.driveCycle j).lbu = d.lbu ∧ (d.driveCycle j).regs = d.regs := by
  unfold Dev.driveCycle
  split
  · exact ⟨rfl, rfl⟩
  · split
    · exact ⟨rfl, rfl⟩
    · extract_lets big w a par d1 x
      split <;> exact ⟨rfl, rfl⟩

@[simp] theorem Dev.driveCycle_lbu (d : Dev) (j : ZoneJob) : (d.driveCycle j).lbu = d.lbu := (d.driveCycle_pins j).1

@[simp] theorem Dev.driveCycle_regs (d : Dev) (j : ZoneJob) : (d.driveCycle j).regs = d.regs := (d.driveCycle_pins j).2

/-- A job that is driven shows the address phase of its first cycle (R115, R195). -/
theorem Dev.phaseOf_mem_driveCycle (d : Dev) {j : ZoneJob} {c : BusCycle} {rest : List BusCycle} {b : Beat} {bs : List Beat}
    (hc : j.cycles = c :: rest) (hb : c.beats = b :: bs) : d.phaseOf j.zone c b j.locked ∈ (d.driveCycle j).out := by
  simp only [Dev.phaseOf, Dev.driveCycle, hc, hb]
  split
  · exact List.mem_append_left _ (List.mem_append_right _ (List.mem_singleton_self _))
  · exact List.mem_append_right _ (List.mem_singleton_self _)

/-! ### The cycles of a request -/

/-- The cycles of a locked sequence have one beat each (R198). -/
theorem runCycles_single {run c : List (List Nat)} (h : c ∈ runCycles true run) : c.length = 1 := by
  unfold runCycles at h
  split at h
  · split at h
    · rw [List.mem_singleton.mp h]
      rfl
    · obtain ⟨a, -, rfl⟩ := List.mem_map.mp h
      rfl
  · obtain ⟨g, -, rfl⟩ := List.mem_map.mp h
    rfl

/-- What the cycles of a set of bytes have in common: the direction, the lock, and in a locked sequence their one beat (R197, R198). -/
theorem shape_single {w bb : Nat} {write : Bool} {s : List Nat} {c : BusCycle} (h : c ∈ shape w bb true write s) :
    c.lock = true ∧ c.write = write ∧ c.beats.length = 1 := by
  obtain ⟨beats, hbeats, rfl⟩ := List.mem_map.mp h
  obtain ⟨run, -, hrun⟩ := List.mem_flatMap.mp hbeats
  exact ⟨rfl, rfl, by rw [List.length_map, runCycles_single hrun]⟩

/-- The byte map of a request names each of its bytes once, in its order (R191). -/
theorem Dev.zoneMap_bytes (d : Dev) (n : Nat) (gs : List Nat) : (d.zoneMap n gs).map (·.2) = gs := by
  simp [Dev.zoneMap, Function.comp_def]

theorem Dev.zoneMap_isEmpty (d : Dev) (n : Nat) (gs : List Nat) : (d.zoneMap n gs).isEmpty = gs.isEmpty := by
  cases gs <;> rfl

theorem Req.zoneOf_zone {r : Req} {n : Nat} (h : r.tgt = .zone n) : r.zoneOf = n := by
  simp [Req.zoneOf, h]

/-- The job of a request for zone `n` that starts: in a locked sequence its reads, otherwise all its cycles. -/
def Dev.zoneJob (d : Dev) (r : Req) (n : Nat) (locked write : Bool) : ZoneJob :=
  let m := d.zoneMap n (d.zoneBytes r write)
  { seq := r.seq, zone := n, cycles := d.zoneCycles n locked write m, map := m, locked := locked }

/-! ### A zone request starts -/

/-- A read, a write or a reserved load with bytes to move starts as its job. -/
theorem Dev.zoneStart_eq {d : Dev} {r : Req} {n : Nat} (htgt : r.tgt = .zone n) (hage : d.tooOld r.ts (d.winAge .lz n) = false)
    (hop : r.op = .read ∨ r.op = .write ∨ r.op = .rsvLoad) (hpoison : r.poison = false) (hbytes : d.zoneBytes r (r.op == .write) ≠ []) :
    d.zoneStart r = ((d.updReq r.seq fun r => { r with st := .started }).onLbu fun l =>
      { l with job := some (d.zoneJob r n false (r.op == .write)) }).driveCycle (d.zoneJob r n false (r.op == .write)) := by
  have hcond : r.op ≠ .condStore := by
    intro h
    simp [h] at hop
  have hwrite : (r.op == .write || r.op == .condStore) = (r.op == .write) := by
    rw [beq_false_of_ne hcond, Bool.or_false]
  have hmap : (d.zoneMap n (d.zoneBytes r (r.op == .write))).isEmpty = false := by
    rw [Dev.zoneMap_isEmpty]
    exact List.isEmpty_eq_false_iff.mpr hbytes
  unfold Dev.zoneStart
  simp only [Req.zoneOf_zone htgt, hage, hpoison, if_neg hcond, hwrite, hmap, Bool.not_true, Bool.false_eq_true, if_false]
  rfl

/-- R197, R115: the request's bytes are shaped into the cycles of its job, and its first address phase appears. -/
theorem does_zoneRequestStart {s : State} {r : Req} {n : Nat} (hfree : s.dev.busFree) (htgt : r.tgt = .zone n)
    (hage : s.dev.tooOld r.ts (s.dev.winAge .lz n) = false) (hnext : s.dev.nextZone = some r)
    (hop : r.op = .read ∨ r.op = .write ∨ r.op = .rsvLoad) (hpoison : r.poison = false) (hbytes : s.dev.zoneBytes r (r.op == .write) ≠ []) :
    Does .zoneRequestStart s fun d => ∃ j, d.lbu.job = some j ∧ j.seq = r.seq ∧ j.zone = n ∧
      j.cycles = shape (s.dev.zoneW n) (s.dev.zoneBb n) false (r.op == .write) (j.map.map (·.1)) ∧
      j.map.map (·.2) = s.dev.zoneBytes r (r.op == .write) ∧
      ∀ c rest b bs, j.cycles = c :: rest → c.beats = b :: bs → s.dev.phaseOf n c b false ∈ d.out := by
  obtain ⟨hruns, howner, hjob⟩ := hfree
  have hruns' : s.clear.busRuns = true := hruns
  have hnext' : s.clear.nextZone = some r := hnext
  have hplain : isAtomic r.op = false := by
    rcases hop with h | h | h <;> rw [h] <;> rfl
  refine does_act _ (by unfold exec; rfl) ?_
  simp only [hruns', State.clear_lbu, howner, hjob, hnext', hplain, bne_self_eq_false, Bool.not_true, Bool.or_self, Bool.false_eq_true, if_false]
  rw [Dev.zoneStart_eq (d := s.clear) htgt hage hop hpoison hbytes]
  refine ⟨s.clear.zoneJob r n false (r.op == .write), by rw [Dev.driveCycle_lbu]; rfl, rfl, rfl, rfl, Dev.zoneMap_bytes .., ?_⟩
  exact fun c rest b bs hc hb => Dev.phaseOf_mem_driveCycle _ hc hb

/-! ### A locked sequence starts -/

/-- R123: an AtomicOp's locked sequence starts with its reads. -/
theorem does_zoneLockedRmw_start {s : State} {r : Req} {n : Nat} (hfree : s.dev.busFree) (htgt : r.tgt = .zone n)
    (hage : s.dev.tooOld r.ts (s.dev.winAge .lz n) = false) (hnext : s.dev.nextZone = some r) (hatomic : isAtomic r.op = true)
    (hlockok : s.dev.winBit .lz n 6 = true) :
    Does .zoneLockedRmw s fun d => d.lbu.locked = some .orangery ∧ ∃ j, d.lbu.job = some j ∧ j.seq = r.seq ∧
      j.locked = true ∧ ∀ c ∈ j.cycles, c.lock = true ∧ c.write = false ∧ c.beats.length = 1 := by
  obtain ⟨hruns, howner, hjob⟩ := hfree
  have hruns' : s.clear.busRuns = true := hruns
  have hnext' : s.clear.nextZone = some r := hnext
  have hlockok' : s.clear.winBit .lz n 6 = true := hlockok
  have hage' : s.clear.tooOld r.ts (s.clear.winAge .lz n) = false := hage
  refine does_act _ (by unfold exec; rfl) ?_
  simp only [hruns', State.clear_lbu, howner, hjob, hnext', hatomic, bne_self_eq_false, Bool.not_true, Bool.or_self, Option.isSome_none,
    Bool.false_eq_true, if_false, if_true, Dev.lockedStart, Req.zoneOf_zone htgt, hlockok', hage', Dev.driveCycle_lbu]
  exact ⟨rfl, s.clear.zoneJob r n true false, rfl, rfl, rfl, fun c hc => shape_single hc⟩

/-! ### A refused locked sequence -/

/-- What the answer to an ended request leaves: the Orangery, every register but HP_LATE_CPL, and the requests that stay. -/
structure Dev.Answered (d e : Dev) : Prop where
  wf : cellsWf e.regs = true
  lbu : e.lbu = d.lbu
  rd : ∀ off, off ≠ Reg.hpLateCpl → e.rd off = d.rd off
  reqs : ∀ q ∈ e.fab.reqs, q ∈ d.fab.reqs

namespace Dev.Answered

variable {d e f : Dev}

theorem refl (hw : cellsWf d.regs = true) : d.Answered d := ⟨hw, rfl, fun _ _ => rfl, fun _ h => h⟩

/-- A further step that touches neither the Orangery nor a register, and starts no request. -/
theorem step (h : d.Answered e) (hreqs : ∀ q ∈ f.fab.reqs, q ∈ e.fab.reqs) (hregs : f.regs = e.regs := by rfl)
    (hlbu : f.lbu = e.lbu := by rfl) : d.Answered f :=
  ⟨hregs ▸ h.wf, hlbu.trans h.lbu, fun off hoff => by rw [← h.rd off hoff, Dev.rd, Dev.rd, hregs], fun q hq => h.reqs q (hreqs q hq)⟩

theorem dropReq (h : d.Answered e) (seq : Nat) : d.Answered (e.dropReq seq) := h.step fun _ hq => List.mem_of_mem_filter hq

theorem updRsvInfo (h : d.Answered e) (a : Nat) (g : RsvInfo → RsvInfo) : d.Answered (e.updRsvInfo a g) := h.step fun _ hq => hq

theorem emit (h : d.Answered e) (x : Emit) : d.Answered (e.emit x) := h.step fun _ hq => hq

theorem loseRsv (h : d.Answered e) (p : Rsv → Bool) : d.Answered (e.loseRsv p) :=
  SettleClosed.foldl _ (fun _ _ he => he.updRsvInfo _ _) _ _ (h.step fun _ hq => hq)

theorem rsvException (h : d.Answered e) (agent ident : Nat) : d.Answered (e.rsvException agent ident) := by
  unfold Dev.rsvException
  extract_lets i away e1
  have h1 : d.Answered e1 := h.loseRsv _
  exact SettleClosed.ite (h1.step fun _ hq => hq) h1

theorem rsvRecord (h : d.Answered e) (r : Req) : d.Answered (e.rsvRecord r) := by
  unfold Dev.rsvRecord
  split
  · exact SettleClosed.ite h (h.step fun _ hq => hq)
  · exact h.updRsvInfo _ _
  · exact h

theorem bumpLate (h : d.Answered e) : d.Answered (e.bump Reg.hpLateCpl) :=
  ⟨Dev.bump_wf h.wf .., h.lbu, fun off hoff => by rw [Dev.rd_bump h.wf, if_neg hoff, h.rd off hoff], h.reqs⟩

theorem deliver (h : d.Answered e) (r : Req) : d.Answered (e.deliver r) := by
  unfold Dev.deliver
  split
  · exact SettleClosed.ite (h.dropReq _).bumpLate (h.dropReq _)
  · extract_lets e1 e2 e3
    have h1 : d.Answered e1 := SettleClosed.ite (h.rsvException _ _) h
    split
    · have h3 : d.Answered e3 := SettleClosed.ite (h1.dropReq _) ((h1.dropReq _).rsvRecord _)
      exact SettleClosed.ite (h3.emit _) h3
    · exact ((h1.dropReq _).rsvRecord _).emit _
    · exact ((h1.dropReq _).rsvRecord _).emit _
    · exact h1.dropReq _
    · exact h1

end Dev.Answered

/-- A request that ends with a status: every request that stays under its number has it, and nothing else of what `Dev.Answered` names changes. -/
theorem Dev.finish_view {d : Dev} (hw : cellsWf d.regs = true) (seq : Nat) (status : Option ErrType) (failAt : Nat) (data : List Byte) :
    (d.finish seq status failAt data).lbu = d.lbu ∧ (∀ off, off ≠ Reg.hpLateCpl → (d.finish seq status failAt data).rd off = d.rd off) ∧
      (d.finish seq status failAt data).eachReq seq fun q => q.st = .ended ∧ q.status = status := by
  unfold Dev.finish Dev.finishAt
  extract_lets e
  have hended : e.eachReq seq fun q => q.st = .ended ∧ q.status = status := by
    intro q hq hseq
    obtain ⟨p, -, rfl⟩ := List.mem_map.mp hq
    split at hseq
    next h => rw [if_pos h]; exact ⟨rfl, rfl⟩
    next h => exact absurd hseq h
  have hsame : e.lbu = d.lbu ∧ e.regs = d.regs := ⟨rfl, rfl⟩
  have hanswer : ∀ f, e.Answered f → f.lbu = d.lbu ∧ (∀ off, off ≠ Reg.hpLateCpl → f.rd off = d.rd off) ∧
      f.eachReq seq fun q => q.st = .ended ∧ q.status = status := fun f h =>
    ⟨h.lbu.trans hsame.1, h.rd, fun q hq => hended q (h.reqs q hq)⟩
  have hself : e.Answered e := .refl hw
  split
  · split
    · exact hanswer _ hself
    · exact hanswer _ (hself.deliver _)
  · exact hanswer _ hself

@[simp] theorem Dev.log_lbu (d : Dev) (c : Culprit) (type : ErrType) (ga detail count : Nat) : (d.log c type ga detail count).lbu = d.lbu := by
  unfold Dev.log
  dsimp only
  split <;> rfl

theorem Dev.log_wf {d : Dev} (hw : cellsWf d.regs = true) (c : Culprit) (type : ErrType) (ga detail count : Nat) :
    cellsWf (d.log c type ga detail count).regs = true := by
  have hcount := Dev.bump_wf hw (Reg.intTypeCount + 4 * errCode type) count
  unfold Dev.log
  dsimp only
  split
  · exact Dev.bump_wf hcount ..
  · exact Dev.bump_wf hcount ..

/-- A request that fails as BERR is counted once, and ends with that status where it stays; the Orangery is left. -/
theorem Dev.failReq_berr {d : Dev} (hw : cellsWf d.regs = true) (r : Req) (detail : Nat) :
    (d.failReq r .berr detail).oneMore d .berr ∧ (d.failReq r .berr detail).lbu = d.lbu ∧
      (d.failReq r .berr detail).eachReq r.seq fun q => q.st = .ended ∧ q.status = some .berr := by
  have hlog : d.logFail r .berr detail = d.log (r.culprit d) .berr r.ga detail := rfl
  have hcounted := Dev.log_oneMore hw (r.culprit d) .berr r.ga detail
  rw [Dev.failReq, hlog]
  obtain ⟨hlbu, hrd, hreqs⟩ := Dev.finish_view (Dev.log_wf hw (r.culprit d) .berr r.ga detail 1) r.seq (some .berr) 0 []
  exact ⟨(hrd _ (by decide)).trans hcounted, hlbu.trans (Dev.log_lbu ..), hreqs⟩

/-- R80, R123: a zone with LOCKOK = 0 refuses an AtomicOp as BERR. -/
theorem does_zoneLockedRmw_refused {s : State} {r : Req} {n : Nat} (hw : cellsWf s.dev.regs = true) (hfree : s.dev.busFree)
    (htgt : r.tgt = .zone n) (hnext : s.dev.nextZone = some r) (hatomic : isAtomic r.op = true) (hlockok : s.dev.winBit .lz n 6 = false) :
    Does .zoneLockedRmw s fun d => d.oneMore s.dev .berr ∧ d.lbu.job = none ∧ d.eachReq r.seq fun q => q.status = some .berr := by
  obtain ⟨hruns, howner, hjob⟩ := hfree
  have hruns' : s.clear.busRuns = true := hruns
  have hnext' : s.clear.nextZone = some r := hnext
  have hlockok' : s.clear.winBit .lz n 6 = false := hlockok
  refine does_act _ (by unfold exec; rfl) ?_
  simp only [hruns', State.clear_lbu, howner, hjob, hnext', hatomic, bne_self_eq_false, Bool.not_true, Bool.or_self, Option.isSome_none,
    Bool.false_eq_true, if_false, if_true, Dev.lockedStart, Req.zoneOf_zone htgt, hlockok', Bool.not_false]
  obtain ⟨hcounted, hlbu, hreqs⟩ := Dev.failReq_berr (d := s.clear.zoneLeave r.seq) hw r (n + 256)
  refine ⟨hcounted, ?_, fun q hq hseq => (hreqs q hq hseq).2⟩
  rw [hlbu]
  simp [Dev.zoneLeave, Dev.onLbu, hjob]

/-! ### A retried request is re-issued -/

/-- A retried timed access counts as late in its event only (R265). -/
theorem Dev.timedRetried_stores (d : Dev) (seq : Nat) : (d.timedRetried seq).lbu = d.lbu ∧ (d.timedRetried seq).regs = d.regs := by
  unfold Dev.timedRetried
  split <;> exact ⟨rfl, rfl⟩

/-- The address phase is read off the registers. -/
theorem Dev.phaseOf_congr {d e : Dev} (h : e.regs = d.regs) (n : Nat) (c : BusCycle) (b : Beat) (lock : Bool) :
    e.phaseOf n c b lock = d.phaseOf n c b lock := by
  unfold Dev.phaseOf Dev.winBig Dev.zoneW Dev.flag Dev.fld Dev.rd
  rw [h]

/-- R126: the oldest retried request is the job again, and its first address phase appears. -/
theorem does_retryReissue {s : State} (hfree : s.dev.busFree) {j : ZoneJob} {t : List ZoneJob} (hguard : s.dev.lbu.guard = false)
    (hretried : s.dev.lbu.retried = j :: t) :
    Does .retryReissue s fun d => d.lbu.job = some j ∧ d.lbu.retried = t ∧ d.sameStores s.dev ∧
      ∀ c rest b bs, j.cycles = c :: rest → c.beats = b :: bs → s.dev.phaseOf j.zone c b j.locked ∈ d.out := by
  obtain ⟨hruns, howner, hjob⟩ := hfree
  have hruns' : s.clear.busRuns = true := hruns
  obtain ⟨hlbu, hregs⟩ := s.clear.timedRetried_stores j.seq
  refine does_act _ (by unfold exec; rfl) ?_
  simp only [hruns', State.clear_lbu, howner, hjob, hguard, hretried, bne_self_eq_false, Bool.not_true, Bool.or_self, Option.isSome_none,
    Bool.false_eq_true, if_false, Dev.driveCycle_lbu]
  refine ⟨rfl, rfl, ⟨?_, ?_⟩, fun c rest b bs hc hb => ?_⟩
  · rw [Dev.driveCycle_regs]
    exact hregs
  · rw [Dev.driveCycle_mem]
    exact Dev.timedRetried_mem ..
  · have hphase := Dev.phaseOf_mem_driveCycle ((s.clear.timedRetried j.seq).onLbu fun l =>
      { l with job := some j, retried := t, locked := if j.locked then some .orangery else l.locked }) hc hb
    rwa [Dev.phaseOf_congr (d := s.dev) (by exact hregs)] at hphase

/-- Settles O27: what starts is driven at once (`Dev.driveCycle`), and a refused AtomicOp ends (`Dev.failReq_berr`). -/
theorem zoneRequestsStart : Obligations.ZoneRequestsStart := by
  unfold Obligations.ZoneRequestsStart
  intro s r n hInv hfree htgt hage
  refine ⟨fun hnext hop hpoison hbytes => does_zoneRequestStart hfree htgt hage hnext hop hpoison hbytes, fun hnext hatomic => ⟨?_, ?_⟩, ?_⟩
  · exact fun hlockok => does_zoneLockedRmw_start hfree htgt hage hnext hatomic hlockok
  · exact fun hlockok => does_zoneLockedRmw_refused hInv.regs hfree htgt hnext hatomic hlockok
  · exact fun j t hguard hretried => does_retryReissue hfree hguard hretried

end Sys2Proof.Machine
end

section
/-!
O16: host accesses through BAR 0 (R94, R95) and configuration requests (R92, R106, R107).
-/
namespace Sys2Proof.Machine

/-! ### BAR 0 -/

/-- A read through BAR 0 of a function in D0 is given to the fabric, also by a silent device. -/
theorem Dev.hostRead_bar0 {d : Dev} {r : HostReq} (hbar : r.bar = .bar0) (hd3 : d.hp.d3hot = false) (len : Nat) :
    d.hostRead r len = d.issue { d.bar0Req r with len := len } := by
  simp [Dev.hostRead, hbar, hd3]

/-- A write through BAR 0 discards the prefetched copies of its bytes, and is given to the fabric (R237). -/
theorem Dev.hostWrite_bar0 {d : Dev} {r : HostReq} (hbar : r.bar = .bar0) (hd3 : d.hp.d3hot = false) (hep : r.ep = false)
    (hsilent : d.silent = false) (hstandby : d.standbyRefuses .bar0 r.off true = false) (data : WData) :
    d.hostWrite r data = (d.prefWrite none (d.bar0Req r).ga data.length).issue
      { d.bar0Req r with op := .write, posted := true, len := data.length, data := data } := by
  simp [Dev.hostWrite, hbar, hd3, hep, hsilent, hstandby]

theorem barZeroRequests : Claims.BarZeroRequests := by
  unfold Claims.BarZeroRequests
  intro s r len data hbar hd3
  refine ⟨?_, fun hep hsilent hstandby => ?_⟩
  · exact does_act (fun d => d.hostRead r len) (by unfold exec; rfl) (Dev.hostRead_bar0 (d := s.clear) hbar hd3 len)
  · exact does_act (fun d => d.hostWrite r data) (by unfold exec; rfl)
      (Dev.hostWrite_bar0 (d := s.clear) hbar hd3 hep hsilent hstandby data)

/-! ### Configuration requests -/

/-- A command whose effect answers a configuration request has that answer among its outputs. -/
theorem after_emits {c : Instr} {s : State} (f : Dev → Dev) (hc : exec c s = s.act f) {e : Emit} (hf : f s.clear = s.clear.emit e) :
    After c s fun d => e ∈ d.out := by
  refine after_act f hc (settle_out _ _ _ ?_)
  rw [hf]
  exact List.mem_append_right _ (List.mem_singleton_self _)

section
variable {s : State}

/-- R107: before CFG_DONE every configuration request is answered with Configuration Request Retry Status. -/
theorem after_hostConfigRequest_before (h : s.dev.flag Reg.hpLinkCtl 5 = false) (c : CfgReq) :
    After (.hostConfigRequest c) s fun d => .cfgCrs ∈ d.out ∧ d.hp.bme = s.dev.hp.bme := by
  refine after_act _ (by unfold exec; rfl) ?_
  simp only [State.clear_flag, h, Bool.not_false, if_true, settle_hp_bme]
  exact ⟨settle_out _ _ _ (List.mem_append_right _ (List.mem_singleton_self _)), rfl⟩

variable (h : s.dev.flag Reg.hpLinkCtl 5 = true)
include h

theorem after_hostConfigRequest_readId : After (.hostConfigRequest .readId) s fun d => .cfgAnswer 0x96401F4C ∈ d.out :=
  after_emits _ (by unfold exec; rfl) (by simp [h])

theorem after_hostConfigRequest_readRevClass : After (.hostConfigRequest .readRevClass) s fun d => .cfgAnswer 0x068000B0 ∈ d.out :=
  after_emits _ (by unfold exec; rfl) (by simp [h])

theorem after_hostConfigRequest_readSubsys :
    After (.hostConfigRequest .readSubsys) s fun d => .cfgAnswer (s.dev.rd Reg.hpSubsys) ∈ d.out :=
  after_emits _ (by unfold exec; rfl) (by simp [h])

/-- Bus Master Enable is set; what may now leave of the pending messages changes no other control (R106). -/
theorem after_hostConfigRequest_writeBme (on : Bool) :
    After (.hostConfigRequest (.writeBme on)) s fun d => d.hp.bme = on ∧ d.mem = s.dev.mem := by
  refine after_act _ (by unfold exec; rfl) ?_
  simp only [State.clear_flag, h, Bool.not_true, Bool.false_eq_true, if_false, settle_hp_bme, settle_mem, Dev.sendPending_mem]
  obtain ⟨p, hp⟩ := (s.clear.onHp fun x => { x with bme := on, downLogged := if on then [] else x.downLogged }).sendPending_hp
  rw [hp]
  exact ⟨rfl, rfl⟩

theorem after_hostConfigRequest_writeMsix (on fm : Bool) :
    After (.hostConfigRequest (.writeMsix on fm)) s fun d => d.hp.msixEn = on ∧ d.hp.msixFmask = fm ∧ d.mem = s.dev.mem := by
  refine after_act _ (by unfold exec; rfl) ?_
  simp only [State.clear_flag, h, Bool.not_true, Bool.false_eq_true, if_false, settle_hp_msixEn, settle_hp_msixFmask, settle_mem,
    Dev.sendPending_mem]
  obtain ⟨p, hp⟩ := (s.clear.onHp fun x => { x with msixEn := on, msixFmask := fm }).sendPending_hp
  rw [hp]
  exact ⟨rfl, rfl, rfl⟩

end

theorem configurationRequests : Claims.ConfigurationRequests := by
  unfold Claims.ConfigurationRequests
  exact fun s c on fm => ⟨fun h => after_hostConfigRequest_before h c, fun h => ⟨after_hostConfigRequest_readId h,
    after_hostConfigRequest_readRevClass h, after_hostConfigRequest_readSubsys h, after_hostConfigRequest_writeBme h on,
    after_hostConfigRequest_writeMsix h on fm⟩⟩

/-- Settles O16: its two parts, a request at a time. -/
theorem hostRegisterRequests : Obligations.HostRegisterRequests := ⟨barZeroRequests, configurationRequests⟩

end Sys2Proof.Machine
end

section
/-!
O19: the AtomicOps of the host through an inbound window (R96, R97, R99).
-/
namespace Sys2Proof.Machine

/-- Counting a hit of an inbound window (R90) leaves every register that is no HITS of a window. -/
theorem Dev.rd_bump_iwHits {d : Dev} (hw : cellsWf d.regs = true) (n : Nat) {off : Nat} (hoff : off % 0x20 ≠ 0x18) :
    (d.bump (winBase .iw n + 0x18)).rd off = d.rd off := by
  rw [Dev.rd_bump hw, if_neg]
  rintro rfl
  simp only [winBase, Reg.winIwCtl] at hoff
  omega

/-- The registers of inbound windows other than HITS. -/
theorem winBase_iw_off (m : Nat) : winBase .iw m % 0x20 ≠ 0x18 ∧ (winBase .iw m + 0x0C) % 0x20 ≠ 0x18 := by
  simp only [winBase, Reg.winIwCtl]
  omega

section
variable {d : Dev} (hw : cellsWf d.regs = true) (n m : Nat)
include hw

theorem Dev.winBit_bump_iwHits (i : Nat) : (d.bump (winBase .iw n + 0x18)).winBit .iw m i = d.winBit .iw m i := by
  simp only [Dev.winBit, Dev.flag, Dev.fld, Dev.rd_bump_iwHits hw n (winBase_iw_off m).1]

theorem Dev.winSize_bump_iwHits : (d.bump (winBase .iw n + 0x18)).winSize .iw m = d.winSize .iw m := by
  simp only [Dev.winSize, Dev.fld, Dev.rd_bump_iwHits hw n (winBase_iw_off m).1]

theorem Dev.winView_bump_iwHits (a : Nat) : (d.bump (winBase .iw n + 0x18)).winView .iw m a = d.winView .iw m a := by
  simp only [Dev.winView, Dev.winBit_bump_iwHits hw, Dev.winSize_bump_iwHits hw]

theorem Dev.winMatches_bump_iwHits (a : Nat) : (d.bump (winBase .iw n + 0x18)).winMatches .iw m a = d.winMatches .iw m a := by
  simp only [Dev.winMatches, Dev.winEn, Dev.winBaseAddr, Dev.winBit_bump_iwHits hw, Dev.winSize_bump_iwHits hw,
    Dev.rd_bump_iwHits hw n (winBase_iw_off m).2]

theorem Dev.sameView_bump_iwHits (a len : Nat) : (d.bump (winBase .iw n + 0x18)).sameView .iw m a len = d.sameView .iw m a len := by
  simp only [Dev.sameView, Dev.winFind, Dev.winMatches_bump_iwHits hw, Dev.winView_bump_iwHits hw]

omit m in
theorem Dev.devid_bump_iwHits : (d.bump (winBase .iw n + 0x18)).devid = d.devid := by
  simp only [Dev.devid, Dev.fld, Dev.rd_bump_iwHits hw n (off := Reg.sysDevid) (by decide)]

omit m in
theorem Dev.iwLoop_bump_iwHits (ga : Nat) : (d.bump (winBase .iw n + 0x18)).iwLoop ga = d.iwLoop ga := by
  simp only [Dev.iwLoop, Dev.devid_bump_iwHits hw]

end

/-- An AtomicOp through inbound window `n` that nothing refuses (R96, R97) becomes one request. -/
theorem Dev.hostAtomic_accepted {d : Dev} (hw : cellsWf d.regs = true) {r : HostReq} {n len : Nat} {op : ReqOp} {operand : List Byte}
    (hbar : r.bar = .bar2) (hep : r.ep = false) (hd3 : d.hp.d3hot = false) (hsilent : d.silent = false) (hstandby : d.standby = false)
    (hfind : d.winFind .iw r.off = some n) (hlen : len = 4 ∨ len = 8) (hop : operand.length = if op = .cas then 2 * len else len)
    (halign : d.winGa .iw n r.off % len = 0) (hloop : d.iwLoop (d.winGa .iw n r.off) = false)
    (hown : ¬(d.winGa .iw n r.off / 2 ^ 38 % 1024 = d.devid ∧ d.winGa .iw n r.off % 2 ^ 38 < 0x1000_0000))
    (hview : d.winView .iw n r.off = .plain) (hsame : d.sameView .iw n r.off len = true) :
    d.hostAtomic r op len operand =
      ((d.bump (winBase .iw n + 0x18)).prefWrite (some (.iw n)) (d.winGa .iw n r.off) len).issue
        { d.iwReq r n with op := op, len := len, data := allOn operand } := by
  have hstandby' : (d.bump (winBase .iw n + 0x18)).standby = false := hstandby
  have hrefused : ¬(len = 16 ∨ (d.winGa .iw n r.off / 2 ^ 38 % 1024 == d.devid) = true ∧ d.winGa .iw n r.off % 2 ^ 38 < 0x1000_0000 ∨
      (d.bump (winBase .iw n + 0x18)).iwLoop (d.winGa .iw n r.off) = true) := by
    rw [Dev.iwLoop_bump_iwHits hw, hloop, beq_iff_eq]
    rintro (h | h | h)
    · omega
    · exact hown h
    · cases h
  have hshape : ¬(¬((len = 4 ∨ len = 8) ∧ d.winGa .iw n r.off % len = 0) ∨ operand.length ≠ if op = .cas then 2 * len else len) := by
    simp only [hlen, halign, hop]
    simp
  have hviews : ((d.bump (winBase .iw n + 0x18)).winView .iw n r.off != .plain ||
      !(d.bump (winBase .iw n + 0x18)).sameView .iw n r.off len) = false := by
    rw [Dev.winView_bump_iwHits hw, Dev.sameView_bump_iwHits hw, hview, hsame]
    rfl
  have hbar0 : (false || Bar.bar2 == Bar.noBar) = false := rfl
  simp only [Dev.hostAtomic, hbar, hbar0, hd3, hsilent, hfind, hep, hstandby', Dev.iwReq, Dev.devid_bump_iwHits hw, hrefused, hshape, hviews,
    Bool.false_eq_true, if_false]

/-- Settles O19: the three operations differ in their operands only (R97). -/
theorem windowAtomics : Obligations.WindowAtomics := by
  unfold Obligations.WindowAtomics
  intro s r n len x y hInv hbar hep hd3 hsilent hstandby hfind hlen hx hy halign hloop hown hview hsame q
  have haccepted {op : ReqOp} {operand : List Byte} (hop : operand.length = if op = .cas then 2 * len else len) :=
    Dev.hostAtomic_accepted (d := s.clear) (op := op) hInv.regs hbar hep hd3 hsilent hstandby hfind hlen hop halign hloop hown hview hsame
  refine ⟨?_, ?_, ?_⟩
  · exact does_act (fun d => d.hostAtomic r .fetchAdd len x) (by unfold exec; rfl) (haccepted hx)
  · exact does_act (fun d => d.hostAtomic r .swap len x) (by unfold exec; rfl) (haccepted hx)
  · exact does_act (fun d => d.hostAtomic r .cas len (x ++ y)) (by unfold exec; rfl)
      (haccepted (by rw [List.length_append, hx, hy, if_pos rfl, Nat.two_mul]))

end Sys2Proof.Machine
end

section
/-!
O20: the clause on the data of a device-issued read fails. `Inv` lets two read TLPs of different requests be outstanding under one PCIe tag, which the
device never issues (R104, `Dev.outboundRead`). A completion under that tag ends the request of the first TLP, and its data are set down for every
TLP with the tag (`Dev.outboundCpl`), so the one that stays open is not left as it was.
-/
namespace Sys2Proof.Machine

/-- A read of ARC0 in OW0, numbered 5, whose one read TLP of 4 bytes is outstanding. -/
def hostRead5 : Req :=
  { seq := 5, agent := 58, ident := 58, orig := 0, ing := .arcade, op := .read, posted := false, ga := 0x30_0000_0000, len := 4, ts := 0,
    tgt := .ow 0, st := .started, sentLen := 4 }

/-- A read TLP of 4 bytes under tag 2. -/
def readUnderTag2 (seq : Nat) : OutRead := { ptag := 2, seq := seq, addr := 0, len := 4, pos := 0 }

/-- The reset device with that read and with two read TLPs under tag 2, the read's and one of request 6. -/
def sharedTag : State :=
  { State.reset with dev := { Dev.reset with
      fab := { reqs := [hostRead5, { hostRead5 with seq := 6 }], nextSeq := 7 }
      hp := { reads := [readUnderTag2 5, readUnderTag2 6] } } }

theorem sharedTag_inv : Inv sharedTag := Dev.reset_sound.of rfl rfl rfl rfl rfl rfl

/-- The read TLPs that a command leaves outstanding. -/
def readsAfter : Host.Outcome State Fault Refusal → List OutRead
  | .next t => t.dev.hp.reads
  | _ => []

theorem Does.readsAfter_eq {c : Instr} {s : State} {l : List OutRead} (h : Does c s fun d => d.hp.reads = l) : readsAfter (exec c s) = l := by
  obtain ⟨d, hexec, hd⟩ := h
  have hkept : (settle s.dev d).hp.reads = l := by rwa [settle_hp_reads]
  generalize settle s.dev d = e at hexec hkept
  rw [hexec]
  exact hkept

/-- The TLP of request 6 stays outstanding, with the data that came for request 5. -/
theorem readsAfter_outboundCompletion_sharedTag : readsAfter (exec (.outboundCompletion 2 .success [1, 2, 3, 4]) sharedTag) =
    [{ readUnderTag2 6 with data := some [1, 2, 3, 4] }] := by decide +kernel

/-- Refutes O20: in `sharedTag`, which meets `Inv`, the completion of request 5 under tag 2 changes the TLP of request 6. -/
theorem not_hostAnswers : ¬ Obligations.HostAnswers := by
  unfold Obligations.HostAnswers Claims.HostCompletions
  rintro ⟨-, h⟩
  obtain ⟨hdata, -⟩ := h sharedTag (readUnderTag2 5) hostRead5 2 .success [1, 2, 3, 4] sharedTag_inv rfl rfl rfl
  obtain ⟨d, hexec, hreads, -⟩ := hdata (by decide) (by decide +kernel) rfl
  have hleft := Does.readsAfter_eq ⟨d, hexec, hreads⟩
  rw [readsAfter_outboundCompletion_sharedTag] at hleft
  exact absurd hleft (by decide)

end Sys2Proof.Machine
end

section
/-!
O21: writes and reads that reach the host port (R103, R104, R108).
-/
namespace Sys2Proof.Machine

/-! ### What ends a request and what it sends -/

/-- An output once made is kept by everything that accepting and ending requests does. -/
theorem fabricClosed_out (x : Emit) : FabricClosed fun e => x ∈ e.out where
  bump := fun _ _ _ _ h => h
  elog := fun _ _ h => h
  emit := fun _ _ h => List.mem_append_left _ h
  fab := fun _ _ _ h => h
  msgs := fun _ _ _ h => h
  intb := fun _ _ h => h

theorem FabricClosed.finish {P : Dev → Prop} (hP : FabricClosed P) {d : Dev} (h : P d) (seq : Nat) (status : Option ErrType) (failAt : Nat)
    (data : List Byte) : P (d.finish seq status failAt data) := by
  unfold Dev.finish Dev.finishAt
  extract_lets e
  have he : P e := hP.updReq d _ _ h
  split
  · exact SettleClosed.ite he (hP.deliver _ _ he)
  · exact he

@[simp] theorem Dev.loseRsv_out (d : Dev) (p : Rsv → Bool) : (d.loseRsv p).out = d.out := by
  unfold Dev.loseRsv
  refine SettleClosed.foldl (P := fun e => e.out = d.out) _ ?_ _ _ rfl
  exact fun _ _ he => he

@[simp] theorem Dev.rsvException_out (d : Dev) (agent ident : Nat) : (d.rsvException agent ident).out = d.out := by
  unfold Dev.rsvException
  dsimp only
  split <;> simp [Dev.updRsvInfo]

@[simp] theorem Dev.rsvRecord_out (d : Dev) (r : Req) : (d.rsvRecord r).out = d.out := by
  unfold Dev.rsvRecord
  split
  · split <;> rfl
  · rfl
  · rfl

@[simp] theorem Dev.log_out (d : Dev) (c : Culprit) (type : ErrType) (ga detail count : Nat) : (d.log c type ga detail count).out = d.out := by
  unfold Dev.log
  dsimp only
  split <;> rfl

/-- No write TLP is among the outputs. -/
def Dev.NoHostWr (d : Dev) : Prop := ∀ a bs ns, .hostWr a bs ns ∉ d.out

namespace Dev.NoHostWr

variable {d e : Dev}

theorem of_out (h : d.NoHostWr) (hout : e.out = d.out) : e.NoHostWr := fun a bs ns => hout ▸ h a bs ns

theorem emit (h : d.NoHostWr) {x : Emit} (hx : ∀ a bs ns, x ≠ .hostWr a bs ns) : (d.emit x).NoHostWr := by
  intro a bs ns hmem
  rcases List.mem_append.mp hmem with hmem | hmem
  · exact h a bs ns hmem
  · exact hx a bs ns (List.mem_singleton.mp hmem).symm

/-- The answer to a request that has ended leaves over a link or goes to firmware (R164). -/
theorem deliver (h : d.NoHostWr) (r : Req) : (d.deliver r).NoHostWr := by
  unfold Dev.deliver
  split
  · exact SettleClosed.ite (h.of_out rfl) (h.of_out rfl)
  · extract_lets d1 d2 d3
    have h1 : d1.NoHostWr := SettleClosed.ite (h.of_out (by simp)) h
    split
    · have h3 : d3.NoHostWr := SettleClosed.ite (h1.of_out rfl) (h1.of_out (by simp [d2, Dev.dropReq]))
      exact SettleClosed.ite (h3.emit fun _ _ _ => by simp) h3
    · exact (h1.of_out (by simp [Dev.dropReq])).emit fun _ _ _ => by simp
    · exact (h1.of_out (by simp [Dev.dropReq])).emit fun _ _ _ => by simp
    · exact h1.of_out rfl
    · exact h1

theorem finish (h : d.NoHostWr) (seq : Nat) (status : Option ErrType) (failAt : Nat) (data : List Byte) :
    (d.finish seq status failAt data).NoHostWr := by
  unfold Dev.finish Dev.finishAt
  extract_lets e
  have he : e.NoHostWr := h.of_out rfl
  split
  · exact SettleClosed.ite he (he.deliver _)
  · exact he

end Dev.NoHostWr

/-! ### A write that cannot leave -/

/-- A write toward a host port that may not issue requests is counted, and no TLP leaves (R108). -/
theorem Dev.hostDown_write {d : Dev} (hw : cellsWf d.regs = true) {r : Req} (hop : r.op = .write) (hout : d.NoHostWr) :
    (d.hostDown r).rd Reg.hpLinkDrop = d.rd Reg.hpLinkDrop + 1 ∧ (d.hostDown r).NoHostWr := by
  have hread : ¬(r.op = .read ∨ r.op = .rsvLoad) := by simp [hop]
  have hw1 := Dev.bump_wf hw Reg.hpLinkDrop 1
  have hcount : (d.bump Reg.hpLinkDrop).rd Reg.hpLinkDrop = d.rd Reg.hpLinkDrop + 1 := by
    rw [Dev.rd_bump hw, if_pos rfl]
    rfl
  rw [Dev.hostDown, if_neg hread]
  extract_lets key d1 d2
  have h2 : cellsWf d2.regs = true ∧ d2.rd Reg.hpLinkDrop = d.rd Reg.hpLinkDrop + 1 ∧ d2.NoHostWr := by
    unfold d2
    split
    · exact ⟨hw1, hcount, hout.of_out rfl⟩
    · refine ⟨Dev.log_wf hw1 _ _ _ _ _, ?_, hout.of_out (Dev.log_out ..)⟩
      exact (Dev.log_rd hw1 _ _ _ _ _ (by decide) (by decide)).trans ((if_neg (by decide)).trans hcount)
  obtain ⟨hw2, hrd2, hout2⟩ := h2
  obtain ⟨-, hrd, -⟩ := Dev.finish_view hw2 r.seq (some .peerDown) 0 []
  exact ⟨(hrd _ (by decide)).trans hrd2, hout2.finish _ _ _ _⟩

/-- A request with an acceptance number, at an outbound window. -/
theorem Dev.owReq?_eq {d : Dev} {r : Req} {seq n : Nat} (hreq : d.req? seq = some r) (htgt : r.tgt = .ow n) : d.owReq? seq = some r := by
  simp only [Dev.owReq?, hreq, htgt]

/-- The effect of a command is that of another that does the same to the device it acts on. -/
theorem State.act_congr {s : State} {f g : Dev → Dev} (h : f s.clear = g s.clear) : s.act f = s.act g := by
  rw [State.act, State.act, ← State.clear, h]

section
variable {s : State} {r : Req} {seq n : Nat} (hreq : s.dev.req? seq = some r) (htgt : r.tgt = .ow n) (hmay : s.dev.mayPerform r = true)
  (hsilent : s.dev.silent = false) (hop : r.op = .write)
include hreq htgt hmay hsilent hop

/-- A write that nothing keeps back at the outbound window it goes to is sent. -/
theorem exec_outboundWrite_performs : exec (.outboundWrite seq) s = s.act fun d => d.outboundWrite r := by
  have hperform : (r.op = .write ∨ r.op = .condStore) ∧ s.clear.mayPerform r = true ∧ (!s.clear.silent) = true :=
    ⟨.inl hop, hmay, (Bool.not_eq_true' _).mpr hsilent⟩
  refine (show exec (.outboundWrite seq) s = s.act _ by unfold exec; rfl).trans (State.act_congr ?_)
  simp only [Dev.owReq?_eq (d := s.clear) hreq htgt, if_pos hperform]

theorem does_outboundWrite_closed (hw : cellsWf s.dev.regs = true) (hclosed : s.dev.hostOpen = false ∨ s.dev.hp.d3hot = true) :
    Does (.outboundWrite seq) s fun d =>
      d.rd Reg.hpLinkDrop = s.dev.rd Reg.hpLinkDrop + 1 ∧ (∀ a bs ns, .hostWr a bs ns ∉ d.out) ∧ d.mem = s.dev.mem := by
  refine does_act _ (exec_outboundWrite_performs hreq htgt hmay hsilent hop) ?_
  have hdown : (!s.clear.hostOpen || s.clear.hp.d3hot) = true := by
    rw [Bool.or_eq_true, Bool.not_eq_true']
    exact hclosed
  rw [Dev.outboundWrite, if_pos hdown]
  obtain ⟨hcount, hout⟩ := Dev.hostDown_write (d := s.clear) hw hop fun _ _ _ => List.not_mem_nil
  exact ⟨hcount, hout, Dev.hostDown_mem ..⟩

end

/-! ### A write that leaves -/

/-- A write with every byte enabled is one run (R206). -/
theorem wruns_allOn : ∀ (i : Nat) {bs : List Byte}, bs ≠ [] → wruns i (allOn bs) = [(i, bs)]
  | i, [b], _ => rfl
  | i, b :: c :: t, _ => by
    have ih : wruns (i + 1) (allOn (c :: t)) = [(i + 1, c :: t)] := wruns_allOn (i + 1) (List.cons_ne_nil _ _)
    have hstep : allOn (b :: c :: t) = some b :: allOn (c :: t) := rfl
    rw [hstep, wruns, ih]
    simp

/-- An access that crosses no multiple of a size is not cut (R100, R103). -/
theorem splitAt_once {chunk a len : Nat} (hlen : 0 < len) (h : a % chunk + len ≤ chunk) : splitAt chunk (len + 1) a len = [(a, len)] := by
  have hk : min len (chunk - a % chunk) = len := by omega
  obtain ⟨n, rfl⟩ : ∃ n, len = n + 1 := ⟨len - 1, by omega⟩
  rw [splitAt, if_neg (Nat.succ_ne_zero n), hk]
  simp [splitAt]

/-- A run no longer than Max Payload Size that crosses no 4 KiB boundary leaves as one TLP (R103). -/
theorem splitRun_once {mps a : Nat} {bs : List Byte} (hne : bs ≠ []) (hmps : bs.length ≤ mps) (hpage : a % 4096 + bs.length ≤ 4096) :
    splitRun mps a bs = [(a, bs)] := by
  have hlen : 0 < bs.length := List.length_pos_iff.mpr hne
  have hone : (bs.length + mps - 1) / mps = 1 := by
    refine Nat.div_eq_of_lt_le ?_ ?_ <;> omega
  simp [splitRun, splitAt_once hlen hpage, hone, Nat.min_eq_right hmps]

theorem Req.owOf_ow {r : Req} {n : Nat} (h : r.tgt = .ow n) : r.owOf = n := by
  simp [Req.owOf, h]

theorem Dev.emitHostWrite_once {d : Dev} {r : Req} {n : Nat} {bs : List Byte} (htgt : r.tgt = .ow n) (hdata : r.data = allOn bs)
    (hne : bs ≠ []) (hmps : bs.length ≤ d.hp.mps) (hpage : d.owAddr n r.ga % 4096 + bs.length ≤ 4096) :
    d.emitHostWrite r = d.emit (.hostWr (d.owAddr n r.ga) bs (d.winBit .ow n 14)) := by
  simp [Dev.emitHostWrite, Req.owOf_ow htgt, hdata, wruns_allOn 0 hne, splitRun_once hne hmps hpage]

/-- What the TLPs of a write are sent with: reservations on its bytes end, and it ends or is followed by its flush (R103, R229). -/
theorem Dev.outboundWrite_emits {d : Dev} {r : Req} {n : Nat} (htgt : r.tgt = .ow n) (hopen : d.hostOpen = true) (hd3 : d.hp.d3hot = false)
    (hage : d.tooOld r.ts (d.winAge .ow n) = false) (hop : r.op = .write) (hpoison : r.poison = false) {x : Emit}
    (hx : x ∈ (d.emitHostWrite r).out) : x ∈ (d.outboundWrite r).out := by
  have hcond : r.op ≠ .condStore := by simp [hop]
  have hkeep := fabricClosed_out x
  have hsent : x ∈ ((d.emitHostWrite r).rsvStore r.agent r.ident false r.ga r.len).out := hkeep.loseRsv _ _ hx
  simp only [Dev.outboundWrite, hopen, hd3, Req.owOf_ow htgt, hage, hpoison, if_neg hcond, Bool.not_true, Bool.or_self, Bool.false_eq_true,
    if_false]
  split
  · exact hsent
  · exact hkeep.finish hsent _ _ _ _

theorem after_outboundWrite {s : State} {r : Req} {seq n : Nat} (hreq : s.dev.req? seq = some r) (htgt : r.tgt = .ow n)
    (hmay : s.dev.mayPerform r = true) (hsilent : s.dev.silent = false) (hopen : s.dev.hostOpen = true) (hd3 : s.dev.hp.d3hot = false)
    (hage : s.dev.tooOld r.ts (s.dev.winAge .ow n) = false) (hop : r.op = .write) (hpoison : r.poison = false) {bs : List Byte}
    (hdata : r.data = allOn bs) (hne : bs ≠ []) (hmps : bs.length ≤ s.dev.hp.mps) (hpage : s.dev.owAddr n r.ga % 4096 + bs.length ≤ 4096) :
    After (.outboundWrite seq) s fun d => .hostWr (s.dev.owAddr n r.ga) bs (s.dev.winBit .ow n 14) ∈ d.out ∧ d.mem = s.dev.mem := by
  refine after_act _ (exec_outboundWrite_performs hreq htgt hmay hsilent hop) ?_
  refine ⟨settle_out _ _ _ (Dev.outboundWrite_emits (d := s.clear) htgt hopen hd3 hage hop hpoison ?_), by simp⟩
  rw [Dev.emitHostWrite_once (d := s.clear) htgt hdata hne hmps hpage]
  exact List.mem_append_right _ (List.mem_singleton_self _)

/-! ### A read that leaves -/

/-- The PCIe tag that the next read TLP takes. -/
def nextTag (l : List OutRead) : Nat := ((List.range 512).find? fun i => !(l.any fun x => x.ptag == i)).getD 0

/-- While fewer than 512 read TLPs are outstanding, the next one's tag is that of none of them (R104). -/
theorem nextTag_free {l : List OutRead} (h : l.length < 512) : ∀ x ∈ l, x.ptag ≠ nextTag l := by
  unfold nextTag
  cases hfind : (List.range 512).find? fun i => !(l.any fun x => x.ptag == i) with
  | some t =>
    have hfree := List.find?_some hfind
    simp only [Bool.not_eq_true', List.any_eq_false, beq_iff_eq] at hfree
    exact hfree
  | none =>
    have hused : List.range 512 ⊆ l.map (·.ptag) := by
      intro i hi
      have := List.find?_eq_none.mp hfind i hi
      simpa using this
    have hlen := (List.subperm_of_subset List.nodup_range hused).length_le
    rw [List.length_range, List.length_map] at hlen
    omega

theorem Dev.tagLimit_le (d : Dev) : d.tagLimit ≤ 256 := by
  unfold Dev.tagLimit
  extract_lets t
  have ht : t ≤ 256 := by omega
  split
  · omega
  · exact ht

/-- The room that outstanding reads take in the completion buffer (R104). -/
theorem foldl_add_len (l : List OutRead) : ∀ n, l.foldl (fun n x => n + x.len) n = n + (l.map (·.len)).sum := by
  induction l with
  | nil => exact fun n => rfl
  | cons x t ih =>
    intro n
    rw [List.foldl_cons, ih, List.map_cons, List.sum_cons, Nat.add_assoc]

/-- A read into a window without prefetch asks for its own bytes (R71). -/
theorem Dev.hostReadRange_plain {d : Dev} {r : Req} {n : Nat} (htgt : r.tgt = .ow n) (hpref : d.winBit .ow n 7 = false) :
    d.hostReadRange r = (r.ga, r.ga + r.len) := by
  simp [Dev.hostReadRange, Req.owOf_ow htgt, hpref]

/-- A read that fits one TLP, with a tag and completion-buffer room free, leaves as one (R103, R104). -/
theorem Dev.outboundRead_once {d : Dev} {r : Req} {n : Nat} (htgt : r.tgt = .ow n) (hopen : d.hostOpen = true)
    (hage : d.tooOld r.ts (d.winAge .ow n) = false) (hop : r.op = .read) (hpref : d.winBit .ow n 7 = false) (hsent : r.sentLen = 0)
    (hlen : 1 ≤ r.len) (hmrrs : r.len ≤ d.hp.mrrs) (hpage : d.owAddr n r.ga % 4096 + r.len ≤ 4096) (htags : d.hp.reads.length < d.tagLimit)
    (hroom : (d.hp.reads.map (·.len)).sum + r.len ≤ 32768) :
    (d.outboundRead r).hp.reads =
        d.hp.reads ++ [{ ptag := nextTag d.hp.reads, seq := r.seq, addr := d.owAddr n r.ga, len := r.len, pos := 0 }] ∧
      .hostRd (nextTag d.hp.reads) (d.owAddr n r.ga) r.len (d.winBit .ow n 14) ∈ (d.outboundRead r).out := by
  have hflush : (r.op == .write || r.op == .condStore) = false := by simp [hop]
  have hlock : r.op ≠ .rsvLoad := by simp [hop]
  have hk : min (min (r.ga + r.len - r.ga - 0) d.hp.mrrs) (4096 - d.owAddr n r.ga % 4096) = r.len := by omega
  have hfits : ¬(d.tagLimit ≤ d.hp.reads.length ∨ 32768 < d.hp.reads.foldl (fun n x => n + x.len) 0 + r.len ∨
      (r.ga + r.len - r.ga - 0 = 0 ∧ 0 < r.ga + r.len - r.ga)) := by
    rw [foldl_add_len]
    omega
  simp only [Dev.outboundRead, Dev.hostReadRange_plain htgt hpref, Req.owOf_ow htgt, hsent, Nat.add_zero, hflush, hopen, hage, hlock, hk,
    hfits, Bool.not_true, Bool.not_false, Bool.true_and, Bool.false_eq_true, true_and, false_and, if_false]
  exact ⟨rfl, List.mem_append_right _ (List.mem_singleton_self _)⟩

theorem after_outboundReadIssue {s : State} {r : Req} {seq n : Nat} (hreq : s.dev.req? seq = some r) (htgt : r.tgt = .ow n)
    (hmay : s.dev.mayPerform r = true) (hsilent : s.dev.silent = false) (hopen : s.dev.hostOpen = true)
    (hage : s.dev.tooOld r.ts (s.dev.winAge .ow n) = false) (hop : r.op = .read) (hpref : s.dev.winBit .ow n 7 = false) (hsent : r.sentLen = 0)
    (hlen : 1 ≤ r.len) (hmrrs : r.len ≤ s.dev.hp.mrrs) (hpage : s.dev.owAddr n r.ga % 4096 + r.len ≤ 4096)
    (htags : s.dev.hp.reads.length < s.dev.tagLimit) (hroom : (s.dev.hp.reads.map (·.len)).sum + r.len ≤ 32768) :
    After (.outboundReadIssue seq) s fun d => ∃ t, (∀ x ∈ s.dev.hp.reads, x.ptag ≠ t) ∧
      .hostRd t (s.dev.owAddr n r.ga) r.len (s.dev.winBit .ow n 14) ∈ d.out ∧
      d.hp.reads = s.dev.hp.reads ++ [{ ptag := t, seq := seq, addr := s.dev.owAddr n r.ga, len := r.len, pos := 0 }] := by
  have hseq : r.seq = seq := by simpa using List.find?_some hreq
  have hwrite : ¬(r.op = .write ∨ r.op = .condStore) := by simp [hop]
  have hperform : s.clear.mayPerform r = true ∨ r.st = .started := .inl hmay
  have hlive : ¬s.clear.silent = true := Bool.eq_false_iff.mp hsilent
  obtain ⟨hreads, hout⟩ := Dev.outboundRead_once (d := s.clear) htgt hopen hage hop hpref hsent hlen hmrrs hpage htags hroom
  refine after_act _ (by unfold exec; rfl) ?_
  simp only [Dev.owReq?_eq (d := s.clear) hreq htgt, if_neg hlive, if_neg hwrite, if_pos hperform, settle_hp_reads, hreads, hseq]
  exact ⟨nextTag s.dev.hp.reads, nextTag_free (by have := s.dev.tagLimit_le; omega), settle_out _ _ _ hout, rfl⟩

/-- Settles O21: a write that may not leave is discarded, and a request that fits one TLP leaves as one. -/
theorem hostTraffic : Obligations.HostTraffic := by
  unfold Obligations.HostTraffic
  intro s r seq n hInv hreq htgt hmay hsilent
  refine ⟨fun hop => does_outboundWrite_closed hreq htgt hmay hsilent hop hInv.regs, fun hopen hd3 hage => ⟨?_, ?_⟩⟩
  · exact fun bs hop hpoison => after_outboundWrite hreq htgt hmay hsilent hopen hd3 hage hop hpoison
  · exact after_outboundReadIssue hreq htgt hmay hsilent hopen hage

end Sys2Proof.Machine
end

section
/-!
O36: bridge requests that arrive over an Itmos link (R97, R160–R164, R227).
-/
namespace Sys2Proof.Machine

/-! ### The request a transfer makes -/

/-- Whose request it is, and by what way it came (R160, R161). -/
theorem peerReq_origin (n : Nat) (t : Transfer) (op : ReqOp) :
    (peerReq n t op).agent = 32 + t.orig % 8 ∧ (peerReq n t op).ident = t.orig ∧ (peerReq n t op).orig = t.orig ∧
      (peerReq n t op).ing = .link n t.tag ∧ (peerReq n t op).op = op ∧ (peerReq n t op).posted = (t.op == 0) := by
  cases op <;> exact ⟨rfl, rfl, rfl, rfl, rfl, rfl⟩

/-- A request that is no AtomicOp reaches from its first to its last enabled byte (R160). -/
theorem peerReq_span {op : ReqOp} (h : isAtomic op = false) (n : Nat) (t : Transfer) :
    (peerReq n t op).ga = t.dst % 1024 * 2 ^ 38 + t.addr % 2 ^ 38 + ((enablesOf t).findIdx? id).getD 0 ∧
      (peerReq n t op).len = (((enablesOf t).drop (((enablesOf t).findIdx? id).getD 0)).reverse.dropWhile (!·)).length := by
  cases op with
  | fetchAdd | swap | cas => cases h
  | _ => exact ⟨rfl, rfl⟩

/-- One word with one enable on. -/
theorem enablesOf_single {t : Transfer} {b : Nat} (hlen : t.length = 1) (hfbe : t.fbe = 2 ^ b) :
    enablesOf t = (List.range 4).map fun i => decide (b = i) := by
  unfold enablesOf
  rw [hlen, hfbe]
  refine List.map_congr_left fun i hi => ?_
  have hi4 : i < 4 := List.mem_range.mp hi
  rw [if_pos (by omega), Nat.mod_eq_of_lt hi4, Nat.testBit_two_pow]

theorem span_single : ∀ b < 4, let en := (List.range 4).map fun i => decide (b = i)
    (en.findIdx? id).getD 0 = b ∧ ((en.drop b).reverse.dropWhile (!·)).length = 1 := by decide

/-- A request of one word with one enable on is for that byte alone. -/
theorem peerReq_single {op : ReqOp} (h : isAtomic op = false) (n : Nat) {t : Transfer} {b : Nat} (hb : b < 4) (hlen : t.length = 1)
    (hfbe : t.fbe = 2 ^ b) :
    (peerReq n t op).len = 1 ∧ (peerReq n t op).ga = t.dst % 1024 * 2 ^ 38 + t.addr % 2 ^ 38 + b := by
  obtain ⟨hlo, hspan⟩ := span_single b hb
  obtain ⟨hga, hlen'⟩ := peerReq_span h n t
  rw [enablesOf_single hlen hfbe, hlo] at hga hlen'
  exact ⟨hlen'.trans hspan, hga⟩

/-! ### A transfer that breaks the protocol -/

/-- What breaks the protocol is counted for its link and as DECODE, and goes no further (R162). -/
theorem Dev.protoErr_view {d : Dev} (hw : cellsWf d.regs = true) (n : Nat) (t : Option Transfer) :
    (d.protoErr n t).rd (itmReg Reg.itmProtoErr n) = d.rd (itmReg Reg.itmProtoErr n) + 1 ∧ (d.protoErr n t).oneMore d .decode ∧
      (d.protoErr n t).fab = d.fab := by
  unfold Dev.protoErr
  extract_lets c e
  suffices h : e.rd (itmReg Reg.itmProtoErr n) = d.rd (itmReg Reg.itmProtoErr n) + 1 ∧ e.oneMore d .decode ∧ e.fab = d.fab by
    split
    · split <;> exact h
    · exact h
  have hne : itmReg Reg.itmProtoErr n ≠ Reg.intElOvf ∧ itmReg Reg.itmProtoErr n ≠ Reg.intElWritten ∧
      itmReg Reg.itmProtoErr n ≠ Reg.intTypeCount + 4 * errCode .decode := by
    simp only [itmReg, Reg.itmProtoErr, Reg.intElOvf, Reg.intElWritten, Reg.intTypeCount, errCode]
    omega
  obtain ⟨hovf, hwritten, htype⟩ := hne
  have hcount := Dev.bump_wf hw (itmReg Reg.itmProtoErr n) 1
  refine ⟨?_, ?_, Dev.log_fab ..⟩
  · rw [Dev.log_rd hcount _ _ _ _ _ hovf hwritten, if_neg htype, Dev.rd_bump hw, if_pos rfl]
    rfl
  · have hlogged := Dev.log_oneMore hcount c .decode ((t.map (·.addr)).getD 0) 5
    rwa [Dev.oneMore, Dev.rd_bump hw, if_neg htype.symm] at hlogged

/-! ### The commands -/

/-- The commands of the bridge requests, each with the operation it carries on the link (R161) and the one it asks for. -/
def peerCommands (n : Fin 5) (t : Transfer) : List (Instr × Nat × ReqOp) :=
  [(.itmMwr n (.whole t), 0, .write), (.itmMwrNp n t, 1, .write), (.itmMrd n t, 2, .read), (.itmRsvLd n t, 3, .rsvLoad),
    (.itmCondSt n t, 4, .condStore), (.itmFetchadd n t, 5, .fetchAdd), (.itmSwap n t, 6, .swap), (.itmCas n t, 7, .cas)]

theorem exec_peerCommand {n : Fin 5} {t : Transfer} {c : Instr} {code : Nat} {op : ReqOp} (h : (c, code, op) ∈ peerCommands n t) (s : State) :
    exec c s = s.act fun d => d.peerRequest n.val t code op := by
  simp only [peerCommands, List.mem_cons, Prod.mk.injEq, List.not_mem_nil, or_false] at h
  rcases h with ⟨rfl, rfl, rfl⟩ | ⟨rfl, rfl, rfl⟩ | ⟨rfl, rfl, rfl⟩ | ⟨rfl, rfl, rfl⟩ | ⟨rfl, rfl, rfl⟩ | ⟨rfl, rfl, rfl⟩ |
    ⟨rfl, rfl, rfl⟩ | ⟨rfl, rfl, rfl⟩
  all_goals
    unfold exec
    rfl

/-- The AtomicOps have the codes from 5 on. -/
theorem peerCommand_plain {n : Fin 5} {t : Transfer} {c : Instr} {code : Nat} {op : ReqOp} (h : (c, code, op) ∈ peerCommands n t)
    (hcode : code ≤ 4) : isAtomic op = false := by
  simp only [peerCommands, List.mem_cons, Prod.mk.injEq, List.not_mem_nil, or_false] at h
  rcases h with ⟨-, -, rfl⟩ | ⟨-, -, rfl⟩ | ⟨-, -, rfl⟩ | ⟨-, -, rfl⟩ | ⟨-, -, rfl⟩ | ⟨-, rfl, -⟩ | ⟨-, rfl, -⟩ | ⟨-, rfl, -⟩
  exacts [rfl, rfl, rfl, rfl, rfl, absurd hcode (by decide), absurd hcode (by decide), absurd hcode (by decide)]

/-- What arrives over a link that is UP at a device that is not silent. -/
theorem Dev.peerRequest_up {d : Dev} {n : Nat} (hup : (d.link n).state = .up) (hsilent : d.silent = false) (t : Transfer) (code : Nat)
    (op : ReqOp) : d.peerRequest n t code op =
      if t.op ≠ code ∨ (!wellSized t (op != .read && op != .rsvLoad)) = true then (d.rxOn n).protoErr n (some t)
      else if d.standby then
        (if t.op = 0 then (d.rxOn n).bump (itmReg Reg.itmPeerDownCount n) else d.rxOn n).failEarly (peerReq n t op) .peerDown n
      else ((d.rxOn n).prefWrite none (peerReq n t op).ga (if op = .read ∨ op = .rsvLoad then 0 else (peerReq n t op).len)).issue
        (peerReq n t op) := by
  obtain ⟨-, -, -, -, -, hposted⟩ := peerReq_origin n t op
  have hstandby : (d.rxOn n).standby = d.standby := rfl
  simp only [Dev.peerRequest, Dev.linkUp, hup, hsilent, hstandby, hposted, beq_self_eq_true, beq_iff_eq, Bool.not_true, Bool.or_self,
    Bool.false_eq_true, if_false]

section
variable {s : State} {n : Fin 5} {t : Transfer} {c : Instr} {code : Nat} {op : ReqOp} (hc : (c, code, op) ∈ peerCommands n t)
  (hup : (s.dev.link n.val).state = .up) (hsilent : s.dev.silent = false)
include hc hup hsilent

theorem does_peerCommand (hop : t.op = code) (hsize : wellSized t (op != .read && op != .rsvLoad) = true) (hstandby : s.dev.standby = false) :
    Does c s fun d => d = ((s.clear.rxOn n.val).prefWrite none (peerReq n.val t op).ga
      (if op = .read ∨ op = .rsvLoad then 0 else (peerReq n.val t op).len)).issue (peerReq n.val t op) := by
  refine does_act _ (exec_peerCommand hc s) ?_
  have hfits : ¬(t.op ≠ code ∨ (!wellSized t (op != .read && op != .rsvLoad)) = true) := by simp [hop, hsize]
  have hactive : ¬s.clear.standby = true := Bool.eq_false_iff.mp hstandby
  rw [Dev.peerRequest_up (d := s.clear) hup hsilent, if_neg hfits, if_neg hactive]

theorem does_peerCommand_misfit (hw : cellsWf s.dev.regs = true) (hop : t.op ≠ code) :
    Does c s fun d => d.rd (itmReg Reg.itmProtoErr n.val) = s.dev.rd (itmReg Reg.itmProtoErr n.val) + 1 ∧
      d.oneMore s.dev .decode ∧ d.fab = s.dev.fab ∧ d.mem = s.dev.mem := by
  refine does_act _ (exec_peerCommand hc s) ?_
  rw [Dev.peerRequest_up (d := s.clear) hup hsilent, if_pos (.inl hop)]
  obtain ⟨hcount, htype, hfab⟩ := Dev.protoErr_view (d := s.clear.rxOn n.val) hw n.val (some t)
  exact ⟨hcount, htype, hfab, by simp⟩

end

theorem does_itmMwr_strayData {s : State} {n : Fin 5} (hw : cellsWf s.dev.regs = true) (hup : (s.dev.link n.val).state = .up) :
    Does (.itmMwr n .strayData) s fun d => d.rd (itmReg Reg.itmProtoErr n.val) = s.dev.rd (itmReg Reg.itmProtoErr n.val) + 1 ∧
      d.fab = s.dev.fab := by
  refine does_act _ (by unfold exec; rfl) ?_
  have hlink : s.clear.linkUp n.val = true := beq_iff_eq.mpr hup
  obtain ⟨hcount, -, hfab⟩ := Dev.protoErr_view (d := s.clear) hw n.val none
  simp only [hlink, if_true]
  exact ⟨hcount, hfab⟩

/-- Settles O36, for all eight commands at once (`peerCommands`). -/
theorem peerRequests : Obligations.PeerRequests := by
  unfold Obligations.PeerRequests
  intro s n t hInv _ hup hsilent
  refine ⟨fun c code op hc => ⟨fun hop hsize hstandby => ?_, does_peerCommand_misfit hc hup hsilent hInv.regs⟩,
    does_itmMwr_strayData hInv.regs hup⟩
  obtain ⟨hagent, hident, horig, hing, hreqOp, hposted⟩ := peerReq_origin n.val t op
  exact ⟨does_peerCommand hc hup hsilent hop hsize hstandby, hagent, hident, horig, hing, hreqOp, hposted,
    fun b hb hlen hfbe hcode => peerReq_single (peerCommand_plain hc hcode) n.val hb hlen hfbe⟩

end Sys2Proof.Machine
end

section
/-!
SUPPORT. The fields of a word of which one field has been set (R35).
-/
namespace Sys2Proof.Machine

section
variable (v : Word) {lo n : Nat} (h : lo + n ≤ 32)
include h

/-- A word with a field set: the bits below it, the field, and the bits above it. -/
theorem toNat_setField (x : Nat) :
    (setField v lo n x).toNat = v.toNat % 2 ^ lo + 2 ^ lo * (x % 2 ^ n + 2 ^ n * (v.toNat / 2 ^ (lo + n))) := by
  have hlow := Nat.mod_add_div v.toNat (2 ^ lo)
  have hfield := Nat.mod_add_div (v.toNat / 2 ^ lo) (2 ^ n)
  rw [Nat.div_div_eq_div_mul, ← Nat.pow_add] at hfield
  have hlt : v.toNat % 2 ^ lo < 2 ^ lo := Nat.mod_lt _ (Nat.two_pow_pos lo)
  have hx : x % 2 ^ n < 2 ^ n := Nat.mod_lt _ (Nat.two_pow_pos n)
  have hsplit : 2 ^ (lo + n) * 2 ^ (32 - (lo + n)) = 2 ^ 32 := by
    rw [← Nat.pow_add]
    congr 1
    omega
  have htop : v.toNat / 2 ^ (lo + n) < 2 ^ (32 - (lo + n)) := Nat.div_lt_of_lt_mul (hsplit ▸ v.isLt)
  generalize v.toNat / 2 ^ (lo + n) = top at hfield htop ⊢
  have hsum : v.toNat - fieldOf v lo n * 2 ^ lo + x % 2 ^ n * 2 ^ lo = v.toNat % 2 ^ lo + 2 ^ lo * (x % 2 ^ n + 2 ^ n * top) := by
    rw [fieldOf, bitsOf]
    rw [← hfield] at hlow
    have hcut : v.toNat = v.toNat % 2 ^ lo + v.toNat / 2 ^ lo % 2 ^ n * 2 ^ lo + 2 ^ lo * (2 ^ n * top) := by linarith
    rw [Nat.mul_add, Nat.mul_comm (x % 2 ^ n)]
    omega
  have hbound : v.toNat % 2 ^ lo + 2 ^ lo * (x % 2 ^ n + 2 ^ n * top) < 2 ^ 32 := calc
    _ < 2 ^ lo * (x % 2 ^ n + 2 ^ n * top + 1) := by rw [Nat.mul_succ]; omega
    _ ≤ 2 ^ lo * (2 ^ n * (top + 1)) := Nat.mul_le_mul_left _ (by rw [Nat.mul_succ]; omega)
    _ = 2 ^ (lo + n) * (top + 1) := by rw [Nat.pow_add, Nat.mul_assoc]
    _ ≤ 2 ^ 32 := hsplit ▸ Nat.mul_le_mul_left _ htop
  rw [setField, BitVec.toNat_ofNat, hsum, Nat.mod_eq_of_lt hbound]

theorem fieldOf_setField_same (x : Nat) : fieldOf (setField v lo n x) lo n = x % 2 ^ n := by
  have hlow : v.toNat % 2 ^ lo < 2 ^ lo := Nat.mod_lt _ (Nat.two_pow_pos lo)
  rw [fieldOf, bitsOf, toNat_setField v h, Nat.add_mul_div_left _ _ (Nat.two_pow_pos lo), Nat.div_eq_of_lt hlow, Nat.zero_add,
    Nat.add_mul_mod_self_left, Nat.mod_mod]

theorem fieldOf_setField_above {lo' : Nat} (hlo : lo + n ≤ lo') (x n' : Nat) :
    fieldOf (setField v lo n x) lo' n' = fieldOf v lo' n' := by
  have hsame : (setField v lo n x).toNat / 2 ^ (lo + n) = v.toNat / 2 ^ (lo + n) := by
    have hlow : v.toNat % 2 ^ lo < 2 ^ lo := Nat.mod_lt _ (Nat.two_pow_pos lo)
    have hx : x % 2 ^ n < 2 ^ n := Nat.mod_lt _ (Nat.two_pow_pos n)
    rw [toNat_setField v h, Nat.pow_add, ← Nat.div_div_eq_div_mul, Nat.add_mul_div_left _ _ (Nat.two_pow_pos lo), Nat.div_eq_of_lt hlow,
      Nat.zero_add, Nat.add_mul_div_left _ _ (Nat.two_pow_pos n), Nat.div_eq_of_lt hx, Nat.zero_add]
  obtain ⟨k, rfl⟩ := Nat.exists_eq_add_of_le hlo
  rw [fieldOf, fieldOf, bitsOf, bitsOf, Nat.pow_add, ← Nat.div_div_eq_div_mul, hsame, Nat.div_div_eq_div_mul]

theorem fieldOf_setField_below {lo' n' : Nat} (hlo : lo' + n' ≤ lo) (x : Nat) :
    fieldOf (setField v lo n x) lo' n' = fieldOf v lo' n' := by
  have hsame : (setField v lo n x).toNat % 2 ^ lo = v.toNat % 2 ^ lo := by
    rw [toNat_setField v h, Nat.add_mul_mod_self_left, Nat.mod_mod]
  have hcut : ∀ w : Nat, w / 2 ^ lo' % 2 ^ n' = w % 2 ^ lo % 2 ^ (lo' + n') / 2 ^ lo' := fun w => by
    rw [Nat.mod_mod_of_dvd _ (Nat.pow_dvd_pow 2 hlo), Nat.pow_add, Nat.mod_mul_right_div_self]
  rw [fieldOf, fieldOf, bitsOf, bitsOf, hcut, hsame, ← hcut]

end

/-! ### The same of a register -/

section
variable {d : Dev} (hw : cellsWf d.regs = true) {lo n : Nat} (h : lo + n ≤ 32) (off x : Nat)
include hw h

theorem Dev.fld_setFld_same : (d.setFld off lo n x).fld off lo n = x % 2 ^ n := by
  rw [Dev.fld, Dev.rd_setFld hw, if_pos rfl, fieldOf_setField_same _ h]

theorem Dev.fld_setFld_apart {lo' n' : Nat} (hapart : lo + n ≤ lo' ∨ lo' + n' ≤ lo) :
    (d.setFld off lo n x).fld off lo' n' = d.fld off lo' n' := by
  rw [Dev.fld, Dev.rd_setFld hw, if_pos rfl, Dev.fld]
  rcases hapart with hlo | hlo
  · exact fieldOf_setField_above _ h hlo x n'
  · exact fieldOf_setField_below _ h hlo x

end

/-- A bit that has been set. -/
theorem Dev.flag_setFld_one {d : Dev} (hw : cellsWf d.regs = true) (off : Nat) {i : Nat} (hi : i < 32) : (d.setFld off i 1 1).flag off i = true :=
  beq_iff_eq.mpr (Dev.fld_setFld_same hw hi off 1)

/-- A bit apart from the field that has been set. -/
theorem Dev.flag_setFld_apart {d : Dev} (hw : cellsWf d.regs = true) {lo n : Nat} (h : lo + n ≤ 32) (off x : Nat) {i : Nat}
    (hapart : lo + n ≤ i ∨ i + 1 ≤ lo) : (d.setFld off lo n x).flag off i = d.flag off i := by
  rw [Dev.flag, Dev.flag, Dev.fld_setFld_apart hw h off x hapart]

end Sys2Proof.Machine
end

section
/-!
O15: DRAM training and drift (R472), initialisation (R469), start-up to the factory defaults (R467, R480, R482), and the configuration that is done
again after the host's reset (R108).
-/
namespace Sys2Proof.Machine

/-! ### Initialisation and drift -/

theorem does_dramInitDone {s : State} (hw : cellsWf s.dev.regs = true) :
    Does .dramInitDone s fun d => d.fld Reg.ldgStatus 9 1 = 0 ∧
      (∀ i, i < 32 → i ≠ 9 → d.flag Reg.ldgStatus i = s.dev.flag Reg.ldgStatus i) ∧ d.onlyReg s.dev Reg.ldgStatus (d.rd Reg.ldgStatus) := by
  refine does_act (fun d => d.setFld Reg.ldgStatus 9 1 0) (by unfold exec; rfl) ⟨?_, fun i _ hi => ?_, ?_⟩
  · exact Dev.fld_setFld_same (d := s.clear) hw (by decide) _ _
  · exact Dev.flag_setFld_apart (d := s.clear) hw (by decide) _ _ (by omega)
  · rw [Dev.rd_setFld (d := s.clear) hw, if_pos rfl]
    exact Dev.onlyReg_of_wr hw rfl rfl

theorem exec_dramDriftCheck (beyond : Bool) (rate : Byte) (hot : Nat) (s : State) :
    exec (.dramDriftCheck beyond rate hot) s = s.act fun d =>
      if !d.flag Reg.dmcStatus 0 then d
      else if beyond then
        ((((d.bump Reg.dmcDriftChecks).bump Reg.dmcRefreshHot hot).setFld Reg.dmcStatus 8 8 rate.toNat).setFld Reg.dmcStatus 2 1 1).onDep
          fun p => { p with dramPhy := true }
      else ((d.bump Reg.dmcDriftChecks).bump Reg.dmcRefreshHot hot).setFld Reg.dmcStatus 8 8 rate.toNat := by
  unfold exec
  rfl

/-- What a drift check counts and shows (R472). -/
theorem Dev.driftCounted_view {d : Dev} (hw : cellsWf d.regs = true) (rate : Byte) (hot : Nat) :
    let e := ((d.bump Reg.dmcDriftChecks).bump Reg.dmcRefreshHot hot).setFld Reg.dmcStatus 8 8 rate.toNat
    cellsWf e.regs = true ∧ e.rd Reg.dmcDriftChecks = d.rd Reg.dmcDriftChecks + 1 ∧
      e.rd Reg.dmcRefreshHot = d.rd Reg.dmcRefreshHot + BitVec.ofNat 32 hot ∧ e.fld Reg.dmcStatus 8 8 = rate.toNat ∧ e.mem = d.mem := by
  have hw1 := Dev.bump_wf hw Reg.dmcDriftChecks 1
  have hw2 := Dev.bump_wf hw1 Reg.dmcRefreshHot hot
  refine ⟨Dev.setFld_wf hw2 _ _ _ _, ?_, ?_, ?_, rfl⟩
  · simp [hw, hw1, hw2]
  · simp [hw, hw1, hw2]
  · rw [Dev.fld_setFld_same hw2 (by decide), Nat.mod_eq_of_lt rate.isLt]

theorem does_dramDriftCheck {s : State} (hw : cellsWf s.dev.regs = true) (htrained : s.dev.flag Reg.dmcStatus 0 = true) (beyond : Bool)
    (rate : Byte) (hot : Nat) :
    Does (.dramDriftCheck beyond rate hot) s fun d =>
      d.rd Reg.dmcDriftChecks = s.dev.rd Reg.dmcDriftChecks + 1 ∧ d.rd Reg.dmcRefreshHot = s.dev.rd Reg.dmcRefreshHot + BitVec.ofNat 32 hot ∧
      d.fld Reg.dmcStatus 8 8 = rate.toNat ∧ (beyond = true → d.flag Reg.dmcStatus 2 = true ∧ d.dep.dramPhy = true) ∧ d.mem = s.dev.mem := by
  refine does_act _ (exec_dramDriftCheck beyond rate hot s) ?_
  obtain ⟨hw1, hchecks, hhot, hrate, hmem⟩ := Dev.driftCounted_view (d := s.clear) hw rate hot
  rw [State.clear_flag, htrained, if_neg (by decide)]
  cases beyond with
  | false => exact ⟨hchecks, hhot, hrate, fun h => absurd h (by decide), hmem⟩
  | true =>
    rw [if_pos rfl]
    generalize ((s.clear.bump Reg.dmcDriftChecks).bump Reg.dmcRefreshHot hot).setFld Reg.dmcStatus 8 8 rate.toNat = e at *
    have hrd : ∀ off, off ≠ Reg.dmcStatus → (e.setFld Reg.dmcStatus 2 1 1).rd off = e.rd off := fun off hoff => by
      rw [Dev.rd_setFld hw1, if_neg hoff]
    refine ⟨(hrd _ (by decide)).trans hchecks, (hrd _ (by decide)).trans hhot, ?_, fun _ => ⟨?_, rfl⟩, hmem⟩
    · exact (Dev.fld_setFld_apart hw1 (by decide) _ _ (by decide)).trans hrate
    · exact Dev.flag_setFld_one hw1 _ (by decide)

/-! ### The configuration after the host's reset -/

theorem does_hpReconfig {s : State} (hInv : Inv s) (hdue : s.dev.hp.reconfig = true) (hperst : s.dev.hp.perst = false) :
    Does .hpReconfig s fun d => d.flag Reg.hpLinkCtl 5 = true ∧ d.hp.reconfig = false ∧
      ((∀ r ∈ (configOf s.dev.ldg.config).getD [], r.block ≠ 1) →
        d.mem = s.dev.mem ∧ ∀ x, x ≠ Reg.hpLinkCtl → d.rd x = s.dev.rd x) := by
  refine does_act _ (by unfold exec; rfl) ?_
  have hruns : s.clear.hp.reconfig = true ∧ (!s.clear.hp.perst) = true := ⟨hdue, (Bool.not_eq_true' _).mpr hperst⟩
  have hsound : s.clear.Sound := hInv.of rfl rfl rfl rfl rfl rfl
  simp only [if_pos hruns]
  refine ⟨?_, rfl, fun hnone => ?_⟩
  · exact Dev.flag_setFld_one (Dev.applyRecords_sound _ _ _ hsound).regs _ (by decide)
  · have hrecords : (((configOf s.clear.ldg.config).getD []).filter fun r => r.block == 1) = [] :=
      List.filter_eq_nil_iff.mpr fun r hr => by simpa using hnone r hr
    rw [hrecords]
    exact ⟨rfl, fun x hx => (Dev.rd_setFld hInv.regs ..).trans (if_neg hx)⟩

/-! ### What start-up leaves while it runs -/

/-- What the course of start-up keeps up to the choice of the configuration: the flash, that training is over, and DMC_STATUS. -/
structure Dev.InStartUp (d e : Dev) : Prop where
  wf : cellsWf e.regs = true
  flash : e.ldg.flash = d.ldg.flash
  boot : e.ldg.boot = d.ldg.boot
  status : e.rd Reg.dmcStatus = d.rd Reg.dmcStatus

namespace Dev.InStartUp

variable {d e f : Dev}

theorem refl (hw : cellsWf d.regs = true) : d.InStartUp d := ⟨hw, rfl, rfl, rfl⟩

/-- A step that touches no register, nor the Lodge's flash and training. -/
theorem step (h : d.InStartUp e) (hregs : f.regs = e.regs := by rfl) (hflash : f.ldg.flash = e.ldg.flash := by rfl)
    (hboot : f.ldg.boot = e.ldg.boot := by rfl) : d.InStartUp f :=
  ⟨hregs ▸ h.wf, hflash.trans h.flash, hboot.trans h.boot, by rw [← h.status, Dev.rd, Dev.rd, hregs]⟩

/-- A write of another register. -/
theorem wr (h : d.InStartUp e) {off : Nat} (hoff : Reg.dmcStatus ≠ off) (v : Word) : d.InStartUp (e.wr off v) :=
  ⟨Dev.wr_wf h.wf _ _, h.flash, h.boot, (Dev.rd_wr_ne h.wf v hoff).trans h.status⟩

theorem bump (h : d.InStartUp e) {off : Nat} (hoff : Reg.dmcStatus ≠ off) (n : Nat) : d.InStartUp (e.bump off n) := h.wr hoff _

theorem setFld (h : d.InStartUp e) {off : Nat} (hoff : Reg.dmcStatus ≠ off) (lo n x : Nat) : d.InStartUp (e.setFld off lo n x) := h.wr hoff _

theorem foldl {α : Type} (g : Dev → α → Dev) (l : List α) (h : d.InStartUp e) (hg : ∀ e, d.InStartUp e → ∀ a ∈ l, d.InStartUp (g e a)) :
    d.InStartUp (l.foldl g e) := List.foldlRecOn l g h hg

/-! ### Calibration -/

/-- The latencies of the MACs are kept in the 15 registers from BLV_PTP_LAT on (R489). -/
theorem calApply (h : d.InStartUp e) {x : Nat × List Byte} (hx : calKnown x = true) : d.InStartUp (e.calApply x) := by
  unfold Dev.calApply
  extract_lets trims lat
  split
  case h_4 => exact h.wr (by decide) _
  case h_5 hid =>
    have hlen : lat.length = 15 := by
      have hbytes : 60 = x.2.length := by simpa [calKnown, calLen, hid] using hx
      simp [lat, numsOf, ← hbytes]
    refine foldl _ _ (h.step) fun e he p hp => he.wr ?_ _
    have hidx : p.2 < 15 := hlen ▸ List.snd_lt_of_mem_zipIdx hp
    simp only [Reg.dmcStatus, Reg.blvPtpLat]
    omega
  all_goals exact h.step

theorem calAll (h : d.InStartUp e) (xs : List (Nat × List Byte)) :
    d.InStartUp ((xs.filter calKnown).foldl (fun d x => d.calApply x) e) :=
  foldl _ _ h fun _ he _ hx => he.calApply (List.mem_filter.mp hx).2

theorem calibrate (h : d.InStartUp e) : d.InStartUp e.calibrate := by
  unfold Dev.calibrate
  refine SettleClosed.ite (h.setFld (by decide) ..) ?_
  dsimp only
  split
  · exact (h.calAll _).setFld (by decide) ..
  · exact (((h.calAll _).bump (by decide) _).calAll _).setFld (by decide) ..

/-! ### The swaps that are restored -/

theorem placeNote (h : d.InStartUp e) (note : List Byte) : d.InStartUp (e.placeNote note) :=
  SettleClosed.ite (h.bump (by decide) _) h.step

theorem sendNote (h : d.InStartUp e) (ntype bit map : Nat) : d.InStartUp (e.sendNote ntype bit map) := by
  unfold Dev.sendNote
  refine SettleClosed.ite (h.placeNote _) ?_
  split
  · exact h.step
  · exact h

/-- The map has room for 64 entries (R455), so none of them reaches DMC_STATUS. -/
theorem spareEntry (h : d.InStartUp e) {k : Nat} (hroom : k < 64) (x : Nat) : d.InStartUp (e.wr64 (Reg.depSpareMap + 8 * k) x) := by
  have hfirst : Reg.dmcStatus ≠ Reg.depSpareMap + 8 * k := by simp only [Reg.dmcStatus, Reg.depSpareMap]; omega
  have hsecond : Reg.dmcStatus ≠ Reg.depSpareMap + 8 * k + 4 := by simp only [Reg.dmcStatus, Reg.depSpareMap]; omega
  exact (h.wr hfirst _).wr hsecond _

theorem recordSpare (h : d.InStartUp e) (kind cause unit spare : Nat) : d.InStartUp (e.recordSpare kind cause unit spare) := by
  unfold Dev.recordSpare
  refine sendNote (bump ?_ (by decide) _) ..
  split
  case isTrue hroom => exact (h.spareEntry hroom _).step
  case isFalse => exact h

theorem retireRow (h : d.InStartUp e) (row : Nat) : d.InStartUp (e.retireRow row 4) := by
  unfold Dev.retireRow Dev.keepRemap
  exact SettleClosed.ite h.step (recordSpare h.step ..)

theorem restoreRemaps (h : d.InStartUp e) : d.InStartUp e.restoreRemaps :=
  foldl _ _ h fun _ he _ _ => SettleClosed.ite (SettleClosed.ite he (he.retireRow _)) (recordSpare he.step ..)

/-! ### No slot supplies a configuration -/

theorem slotReport (h : d.InStartUp e) (k code : Nat) : d.InStartUp (e.slotReport k code) := h.setFld (by decide) ..

end Dev.InStartUp

section
variable {d e : Dev} (h : e.ldg.flash = d.ldg.flash) (hdr k : Nat)
include h

theorem Dev.flashNum_congr (off n : Nat) : e.flashNum off n = d.flashNum off n := by rw [Dev.flashNum, Dev.flashNum, Dev.flashBytes_congr h]

theorem Dev.slotOff_congr : e.slotOff hdr k = d.slotOff hdr k := Dev.flashNum_congr h _ _

theorem Dev.slotLen_congr : e.slotLen hdr k = d.slotLen hdr k := Dev.flashNum_congr h _ _

theorem Dev.sections_congr : e.sections hdr k = d.sections hdr k := by
  simp only [Dev.sections, Dev.slotOff_congr h, Dev.flashNum_congr h]

theorem Dev.sectionBytes_congr (type : Nat) : e.sectionBytes hdr k type = d.sectionBytes hdr k type := by
  rw [Dev.sectionBytes, Dev.sectionBytes, Dev.section?, Dev.section?, Dev.sections_congr h]
  split
  · exact Dev.flashBytes_congr h _ _
  · rfl

theorem Dev.dirOk_congr : e.dirOk hdr k = d.dirOk hdr k := by
  simp only [Dev.dirOk, Dev.slotOff_congr h, Dev.slotLen_congr h, Dev.sections_congr h, Dev.flashBytes_congr h]

/-- Whether a slot's configuration can be used is a matter of the flash alone (R477, R480). -/
theorem Dev.configCode_congr : e.configCode hdr k = d.configCode hdr k := by
  rw [Dev.configCode, Dev.configCode, Dev.configArea, Dev.configArea, Dev.flashByte, Dev.flashByte, h, Dev.dirOk_congr h, Dev.slotOff_congr h,
    Dev.flashNum_congr h, Dev.flashBytes_congr h, Dev.sectionBytes_congr h, Dev.sectionBytes_congr h, Dev.sectionBytes_congr h]

end

/-- Where no slot holds a configuration that can be used, each is reported and none is taken (R480). -/
theorem Dev.InStartUp.configure {d : Dev} {hdr : Nat} (hnone : ∀ k, d.configCode hdr k ≠ 0) (ks : List Nat) {e : Dev} (he : d.InStartUp e) :
    d.InStartUp (e.configure hdr ks).1 ∧ (e.configure hdr ks).2 = none := by
  induction ks generalizing e with
  | nil => exact ⟨he, rfl⟩
  | cons k ks ih =>
    have hcode : e.configCode hdr k ≠ 0 := (Dev.configCode_congr he.flash hdr k).trans_ne (hnone k)
    rw [Dev.configure, if_pos hcode]
    exact ih (he.slotReport k _)

/-! ### The end of start-up -/

theorem Dev.sendRoles_keeps (d : Dev) (role : Nat) : (d.sendRoles role).regs = d.regs ∧ (d.sendRoles role).ldg = d.ldg := by
  refine List.foldlRecOn (motive := fun e : Dev => e.regs = d.regs ∧ e.ldg = d.ldg) _ _ ⟨rfl, rfl⟩ fun e he n _ => ?_
  split <;> exact he

theorem Dev.twinDecide_keeps (d : Dev) : d.twinDecide.regs = d.regs ∧ d.twinDecide.ldg = d.ldg := by
  unfold Dev.twinDecide
  dsimp only
  split
  · exact ⟨rfl, rfl⟩
  split
  · exact ⟨rfl, rfl⟩
  split
  · exact Dev.sendRoles_keeps _ _
  · exact ⟨rfl, rfl⟩

/-- The registers that the end of start-up writes (R467): configuration is done, and the state of the Lodge. -/
theorem Dev.startEnd_regs (d : Dev) (peer : Bool) :
    (d.startEnd peer).regs = (((d.setFld Reg.hpLinkCtl 5 1 1).setFld Reg.ldgStatus 0 3 5).setFld Reg.ldgStatus 3 3 2).regs :=
  (Dev.twinDecide_keeps _).1

theorem Dev.startEnd_ldg (d : Dev) (peer : Bool) : (d.startEnd peer).ldg = d.ldg := (Dev.twinDecide_keeps _).2

/-- A register that the end of start-up leaves. -/
theorem Dev.startEnd_rd {d : Dev} (hw : cellsWf d.regs = true) (peer : Bool) {off : Nat} (hlink : off ≠ Reg.hpLinkCtl) (hldg : off ≠ Reg.ldgStatus) :
    (d.startEnd peer).rd off = d.rd off := by
  have hw1 := Dev.setFld_wf hw Reg.hpLinkCtl 5 1 1
  have hw2 := Dev.setFld_wf hw1 Reg.ldgStatus 0 3 5
  calc (d.startEnd peer).rd off = (((d.setFld Reg.hpLinkCtl 5 1 1).setFld Reg.ldgStatus 0 3 5).setFld Reg.ldgStatus 3 3 2).rd off :=
        congrArg (cellGet · off) (Dev.startEnd_regs d peer)
    _ = d.rd off := by rw [Dev.rd_setFld hw2, if_neg hldg, Dev.rd_setFld hw1, if_neg hldg, Dev.rd_setFld hw, if_neg hlink]

theorem Dev.startEnd_configured {d : Dev} (hw : cellsWf d.regs = true) (peer : Bool) : (d.startEnd peer).flag Reg.hpLinkCtl 5 = true := by
  have hw1 := Dev.setFld_wf hw Reg.hpLinkCtl 5 1 1
  have hw2 := Dev.setFld_wf hw1 Reg.ldgStatus 0 3 5
  calc (d.startEnd peer).flag Reg.hpLinkCtl 5 = (d.setFld Reg.hpLinkCtl 5 1 1).flag Reg.hpLinkCtl 5 := by
        rw [Dev.flag, Dev.flag, Dev.fld, Dev.fld, Dev.rd, Dev.startEnd_regs, ← Dev.rd, Dev.rd_setFld hw2, if_neg (by decide), Dev.rd_setFld hw1,
          if_neg (by decide)]
    _ = true := Dev.flag_setFld_one hw _ (by decide)

/-- What start-up shows where no slot supplies a configuration (R467, R482). -/
structure Dev.StartedFrom (d e : Dev) : Prop where
  boot : e.ldg.boot = none
  defaults : e.flag Reg.sysBootStatus 0 = true
  done : e.flag Reg.hpLinkCtl 5 = true
  noDram : e.rd Reg.winDramSize = 0
  status : e.rd Reg.dmcStatus = d.rd Reg.dmcStatus

/-- The factory defaults (R482), after which start-up ends. -/
theorem Dev.startedFrom_defaults {d : Dev} (hw : cellsWf d.regs = true) (hboot : d.ldg.boot = none) (peer : Bool) :
    d.StartedFrom (d.defaults.startEnd peer) := by
  have hw1 := Dev.wr_wf hw Reg.sysDevid 0
  have hw2 := Dev.wr_wf hw1 Reg.winDramSize 0
  have hw3 := Dev.wr_wf hw2 Reg.winBarCfg 0
  have hw4 := Dev.wr_wf hw3 Reg.depTwinRole 0
  have hw5 := Dev.setFld_wf hw4 Reg.sysBootStatus 0 1 1
  have hregs : d.defaults.regs = ((((((d.wr Reg.sysDevid 0).wr Reg.winDramSize 0).wr Reg.winBarCfg 0).wr Reg.depTwinRole 0).setFld
    Reg.sysBootStatus 0 1 1).setFld Reg.sysBootStatus 1 2 0).regs := rfl
  have hwd : cellsWf d.defaults.regs = true := hregs ▸ Dev.setFld_wf hw5 Reg.sysBootStatus 1 2 0
  have hflag : d.defaults.flag Reg.sysBootStatus 0 = true :=
    (Dev.flag_setFld_apart hw5 (by decide) _ _ (by decide)).trans (Dev.flag_setFld_one hw4 _ (by decide))
  have hrd : ∀ off, off ≠ Reg.sysBootStatus → d.defaults.rd off =
      ((((d.wr Reg.sysDevid 0).wr Reg.winDramSize 0).wr Reg.winBarCfg 0).wr Reg.depTwinRole 0).rd off := fun off hoff => by
    rw [Dev.rd, hregs, ← Dev.rd, Dev.rd_setFld hw5, if_neg hoff, Dev.rd_setFld hw4, if_neg hoff]
  refine ⟨?_, ?_, Dev.startEnd_configured hwd peer, ?_, ?_⟩
  · rw [Dev.startEnd_ldg]
    exact hboot
  · rw [Dev.flag, Dev.fld, Dev.startEnd_rd hwd peer (by decide) (by decide)]
    exact hflag
  · rw [Dev.startEnd_rd hwd peer (by decide) (by decide), hrd _ (by decide), Dev.rd_wr_ne hw3 _ (by decide),
      Dev.rd_wr_ne hw2 _ (by decide), Dev.rd_wr_same hw1]
  · rw [Dev.startEnd_rd hwd peer (by decide) (by decide), hrd _ (by decide), Dev.rd_wr_ne hw3 _ (by decide),
      Dev.rd_wr_ne hw2 _ (by decide), Dev.rd_wr_ne hw1 _ (by decide), Dev.rd_wr_ne hw _ (by decide)]

/-- The device as start-up goes on after DRAM training. -/
def Dev.trainingOver (d : Dev) : Dev := d.onLdg fun l => { l with boot := none }

theorem Dev.StartedFrom.of_inStartUp {d e : Dev} (h : d.trainingOver.InStartUp e) (peer : Bool) : d.StartedFrom (e.defaults.startEnd peer) :=
  have hend := Dev.startedFrom_defaults h.wf h.boot peer
  { hend with status := hend.status.trans h.status }

/-- Start-up after DRAM training, where no slot supplies a configuration. -/
theorem Dev.startedFrom_startRest {d : Dev} (hw : cellsWf d.regs = true) {hdr : Nat} (hnone : ∀ k, d.configCode hdr k ≠ 0) (fw : Nat) (peer : Bool) :
    d.StartedFrom (d.startRest hdr fw peer) := by
  have hbegin : d.trainingOver.InStartUp d.trainingOver.calibrate.restoreRemaps := (Dev.InStartUp.refl (d := d.trainingOver) hw).calibrate.restoreRemaps
  have hcode : ∀ k, d.trainingOver.configCode hdr k ≠ 0 := fun k =>
    (Dev.configCode_congr (d := d) (e := d.trainingOver) rfl hdr k).trans_ne (hnone k)
  unfold Dev.startRest
  extract_lets e order later r started
  have hr : d.trainingOver.InStartUp r.1 ∧ r.2 = none := by
    unfold r
    split
    · exact ⟨hbegin, rfl⟩
    · exact hbegin.configure (d := d.trainingOver) hcode _
  obtain ⟨hkept, hno⟩ := hr
  have hdefaults : started = r.1.defaults := by
    unfold started
    rw [hno]
  rw [hdefaults]
  exact .of_inStartUp hkept peer

/-! ### The outcome of DRAM training -/

/-- The device with the outcome of its training in DMC_STATUS (R472). -/
def Dev.withTraining (d : Dev) (fail : Fin 6) : Dev :=
  if fail.val ≠ 0 ∧ d.flag Reg.dmcTrain (fail.val - 1) then ((d.setFld Reg.dmcStatus 4 4 fail.val).bump Reg.dmcTrainFail).wr Reg.winDramSize 0
  else
    let d := ((d.setFld Reg.dmcStatus 0 1 1).setFld Reg.dmcStatus 1 1 0).setFld Reg.dmcStatus 4 4 0
    if d.mem.any (fun c => inDram c.1) then d else d.setFld Reg.ldgStatus 9 1 1

theorem exec_dramTrainingDone (fail : Fin 6) (peer : Bool) (s : State) :
    exec (.dramTrainingDone fail peer) s = s.act fun d => match d.ldg.boot with
      | none => d
      | some b => (d.withTraining fail).startRest b.hdr b.fwSlot peer := by
  unfold exec
  rfl

/-- What the outcome of training says of a step, with the rest of the device as start-up needs it. -/
structure Dev.TrainingSays (d : Dev) (fail : Fin 6) (e : Dev) : Prop where
  wf : cellsWf e.regs = true
  ldg : e.ldg = d.ldg
  failed : fail.val ≠ 0 → d.flag Reg.dmcTrain (fail.val - 1) = true → e.fld Reg.dmcStatus 4 4 = fail.val
  passed : fail.val = 0 ∨ d.flag Reg.dmcTrain (fail.val - 1) = false → e.flag Reg.dmcStatus 0 = true ∧ e.fld Reg.dmcStatus 4 4 = 0

theorem Dev.withTraining_says {d : Dev} (hw : cellsWf d.regs = true) (fail : Fin 6) : d.TrainingSays fail (d.withTraining fail) := by
  unfold Dev.withTraining
  split
  case isTrue hbad =>
    obtain ⟨hstep, hdue⟩ := hbad
    have hw1 := Dev.setFld_wf hw Reg.dmcStatus 4 4 fail.val
    have hw2 := Dev.bump_wf hw1 Reg.dmcTrainFail 1
    have hfail : (d.setFld Reg.dmcStatus 4 4 fail.val).fld Reg.dmcStatus 4 4 = fail.val := by
      rw [Dev.fld_setFld_same hw (by decide), Nat.mod_eq_of_lt (by omega)]
    refine ⟨Dev.wr_wf hw2 _ _, rfl, fun _ _ => ?_, fun hgood => ?_⟩
    · rw [Dev.fld, Dev.rd_wr_ne hw2 _ (by decide), Dev.rd_bump hw1, if_neg (by decide)]
      exact hfail
    · rcases hgood with hzero | hoff
      · exact absurd hzero hstep
      · exact absurd (hdue.symm.trans hoff) (by decide)
  case isFalse hgood =>
    have hw1 := Dev.setFld_wf hw Reg.dmcStatus 0 1 1
    have hw2 := Dev.setFld_wf hw1 Reg.dmcStatus 1 1 0
    have hw3 := Dev.setFld_wf hw2 Reg.dmcStatus 4 4 0
    have hok : (((d.setFld Reg.dmcStatus 0 1 1).setFld Reg.dmcStatus 1 1 0).setFld Reg.dmcStatus 4 4 0).flag Reg.dmcStatus 0 = true := by
      rw [Dev.flag_setFld_apart hw2 (by decide) _ _ (by decide), Dev.flag_setFld_apart hw1 (by decide) _ _ (by decide),
        Dev.flag_setFld_one hw _ (by decide)]
    have hstep : (((d.setFld Reg.dmcStatus 0 1 1).setFld Reg.dmcStatus 1 1 0).setFld Reg.dmcStatus 4 4 0).fld Reg.dmcStatus 4 4 = 0 :=
      Dev.fld_setFld_same hw2 (by decide) _ _
    dsimp only
    split
    · exact ⟨hw3, rfl, fun hne hdue => absurd ⟨hne, hdue⟩ hgood, fun _ => ⟨hok, hstep⟩⟩
    · refine ⟨Dev.setFld_wf hw3 _ _ _ _, rfl, fun hne hdue => absurd ⟨hne, hdue⟩ hgood, fun _ => ?_⟩
      rw [Dev.flag, Dev.fld, Dev.fld, Dev.rd_setFld hw3, if_neg (by decide)]
      exact ⟨hok, hstep⟩

theorem does_dramTrainingDone {s : State} (hw : cellsWf s.dev.regs = true) {b : Boot} (hboot : s.dev.ldg.boot = some b)
    (hnone : ∀ k, s.dev.configCode b.hdr k ≠ 0) (fail : Fin 6) (peer : Bool) :
    Does (.dramTrainingDone fail peer) s fun d =>
      d.ldg.boot = none ∧ d.flag Reg.sysBootStatus 0 = true ∧ d.flag Reg.hpLinkCtl 5 = true ∧
      (fail.val ≠ 0 → s.dev.flag Reg.dmcTrain (fail.val - 1) = true → d.fld Reg.dmcStatus 4 4 = fail.val ∧ d.rd Reg.winDramSize = 0) ∧
      ((fail.val = 0 ∨ s.dev.flag Reg.dmcTrain (fail.val - 1) = false) → d.flag Reg.dmcStatus 0 = true ∧ d.fld Reg.dmcStatus 4 4 = 0) := by
  refine does_act _ (exec_dramTrainingDone fail peer s) ?_
  have hsays : s.clear.TrainingSays fail (s.clear.withTraining fail) := Dev.withTraining_says (d := s.clear) hw fail
  have hcode : ∀ k, (s.clear.withTraining fail).configCode b.hdr k ≠ 0 := fun k =>
    (Dev.configCode_congr (d := s.dev) (congrArg (·.flash) hsays.ldg) b.hdr k).trans_ne (hnone k)
  have hstart := Dev.startedFrom_startRest hsays.wf hcode b.fwSlot peer
  rw [show s.clear.ldg.boot = some b from hboot]
  refine ⟨hstart.boot, hstart.defaults, hstart.done, fun hne hdue => ⟨?_, hstart.noDram⟩, fun hgood => ?_⟩
  · rw [Dev.fld, hstart.status]
    exact hsays.failed hne hdue
  · rw [Dev.flag, Dev.fld, Dev.fld, hstart.status]
    exact hsays.passed hgood

/-- Settles O15: start-up keeps DMC_STATUS as training left it up to its end, since nothing of it writes that register. -/
theorem dramAndStartUp : Obligations.DramAndStartUp := by
  unfold Obligations.DramAndStartUp
  intro s fail peer beyond rate hot hInv
  exact ⟨fun b hboot hnone => does_dramTrainingDone hInv.regs hboot hnone fail peer, does_dramInitDone hInv.regs,
    fun htrained => does_dramDriftCheck hInv.regs htrained beyond rate hot, does_hpReconfig hInv⟩

end Sys2Proof.Machine
end

section
/-!
O30: the clause on a read cycle fails, as the one of O31 on a locked read does: in `undecodedWindow` the request of the cycle decodes to nothing, and
what ends it takes away the request of the slot too.
-/
namespace Sys2Proof.Machine

theorem slotsAfter_slaveRead_undecodedWindow :
    slotsAfter (exec (.slaveRead undecodedCycle) { State.reset with dev := undecodedWindow }) = [] := by decide +kernel

/-- Refutes O30: `undecodedWindow` meets `Inv` and all that the clause asks, and the read `undecodedCycle` leaves no slot in use. -/
theorem not_slaveCycles : ¬ Obligations.SlaveCycles := by
  unfold Obligations.SlaveCycles
  intro h
  obtain ⟨-, -, hread⟩ := h { State.reset with dev := undecodedWindow } undecodedCycle 0 0 undecodedWindow_inv
  obtain ⟨hheld, -⟩ := hread undecodedWindow_ready (by decide +kernel) rfl undecodedWindow_slotReady
  exact Does.slotsAfter_ne_nil (hheld (by decide)) slotsAfter_slaveRead_undecodedWindow

end Sys2Proof.Machine
end

section
/-!
O7: the fields of LBU_CTL that change while the bus is enabled (R141).
-/
namespace Sys2Proof.Machine

/-! ### Masks -/

/-- The bits that a masked write changes outside some bits `run`. -/
theorem xor_maskIn (old v mask run : Word) : (old ^^^ maskIn old v mask) &&& ~~~run = (old ^^^ v) &&& mask &&& ~~~run := by
  ext i
  grind [maskIn]

/-- A masked write that changes nothing outside the bits `run` of its mask writes those bits. -/
theorem maskIn_eq_of_xor {old v mask run : Word} (hrun : run &&& mask = run) (h : (old ^^^ v) &&& mask &&& ~~~run = 0) :
    maskIn old v mask = (old &&& ~~~run) ||| (v &&& run) := by
  ext i hi
  have hbit := congrArg (·[i]) h
  have hsub := congrArg (·[i]) hrun
  grind [maskIn]

/-- A field of one bit is that bit. -/
theorem fieldOf_one_beq (v : Word) (i : Nat) : (fieldOf v i 1 == 1) = v.getLsbD i := by
  rw [fieldOf, bitsOf, BitVec.getLsbD, Nat.testBit_eq_decide_div_mod_eq]
  rfl

/-! ### A write of LBU_CTL -/

@[simp] theorem Dev.sendRec_lbu (d : Dev) (rtype : Nat) (body : List Byte) : (d.sendRec rtype body).lbu = d.lbu := by
  unfold Dev.sendRec
  (repeat' split) <;> rfl

@[simp] theorem Dev.applied_lbu (d e : Dev) (off : Nat) (v : Word) (form : Nat) : (d.applied e off v form).lbu = e.lbu := by
  unfold Dev.applied Dev.sendReg
  (repeat' split) <;> simp

theorem Dev.regWrite_lbuCtl (d : Dev) (who : Nat) (v : Word) :
    d.regWrite who Reg.lbuCtl v = d.applied (d.lbuCtlWrite (maskIn (d.rd Reg.lbuCtl) v lbuCtlBits)) Reg.lbuCtl v 0 := by
  have hwin : winAt Reg.lbuCtl = none := by decide
  rw [Dev.regWrite_rwa (mask := lbuCtlBits) (by decide +kernel)]
  simp only [Dev.coreEffect, hwin, if_true]

section
variable {d : Dev} {new : Word} (hon : d.flag Reg.lbuCtl 0 = true)
include hon

/-- R141: a write that would change another field while the bus is enabled is ignored as a whole and counted. -/
theorem Dev.lbuCtlWrite_refused (h : (d.rd Reg.lbuCtl ^^^ new) &&& ~~~lbuRunBits ≠ 0) : d.lbuCtlWrite new = d.reject := by
  have hwas : (fieldOf (d.rd Reg.lbuCtl) 0 1 == 1) = true := hon
  have hother : ((d.rd Reg.lbuCtl ^^^ new) &&& ~~~0x1F81 != 0) = true := bne_iff_ne.mpr h
  simp only [Dev.lbuCtlWrite, hwas, hother, Bool.and_self, if_true]

theorem Dev.lbuCtlWrite_running (h : (d.rd Reg.lbuCtl ^^^ new) &&& ~~~lbuRunBits = 0) :
    d.lbuCtlWrite new = if new.getLsbD 0 then d.wr Reg.lbuCtl new else (d.wr Reg.lbuCtl new).onLbu fun l => { l with lreset := true } := by
  have hwas : (fieldOf (d.rd Reg.lbuCtl) 0 1 == 1) = true := hon
  have hother : ((d.rd Reg.lbuCtl ^^^ new) &&& ~~~0x1F81 != 0) = false := bne_eq_false_iff_eq.mpr h
  simp only [Dev.lbuCtlWrite, hwas, hother, fieldOf_one_beq, Bool.and_false, Bool.not_true, Bool.false_and, Bool.false_eq_true, if_false]

end

theorem does_registerWrite_lbuCtl_refused {s : State} {who : Requester} {v : Word} (hw : cellsWf s.dev.regs = true)
    (hon : s.dev.flag Reg.lbuCtl 0 = true) (hden : s.dev.writeDenied who.val Reg.lbuCtl v = none)
    (h : (s.dev.rd Reg.lbuCtl ^^^ v) &&& lbuCtlBits &&& ~~~lbuRunBits ≠ 0) :
    Does (.registerWrite who Reg.lbuCtl v 15) s fun d => d.counts s.dev Reg.sysAccessReject ∧ d.lbu = s.dev.lbu := by
  refine does_registerWrite (by decide) hden ?_
  rw [Dev.regWrite_lbuCtl, Dev.lbuCtlWrite_refused (d := s.clear) hon (by rwa [xor_maskIn])]
  exact ⟨Dev.onlyReg_of_bump hw (Dev.applied_regs ..) (by simp), Dev.applied_lbu ..⟩

theorem does_registerWrite_lbuCtl_running {s : State} {who : Requester} {v : Word} (hw : cellsWf s.dev.regs = true)
    (hon : s.dev.flag Reg.lbuCtl 0 = true) (hden : s.dev.writeDenied who.val Reg.lbuCtl v = none)
    (h : (s.dev.rd Reg.lbuCtl ^^^ v) &&& lbuCtlBits &&& ~~~lbuRunBits = 0) :
    Does (.registerWrite who Reg.lbuCtl v 15) s fun d =>
      d.onlyReg s.dev Reg.lbuCtl ((s.dev.rd Reg.lbuCtl &&& ~~~lbuRunBits) ||| (v &&& lbuRunBits)) ∧ (v.getLsbD 0 = true → d.lbu = s.dev.lbu) := by
  have hnew := maskIn_eq_of_xor (by decide) h
  have hbit : (maskIn (s.dev.rd Reg.lbuCtl) v lbuCtlBits).getLsbD 0 = v.getLsbD 0 := by simp [maskIn, lbuCtlBits]
  refine does_registerWrite (by decide) hden ?_
  rw [Dev.regWrite_lbuCtl, Dev.lbuCtlWrite_running (d := s.clear) hon (by rwa [xor_maskIn]), State.clear_rd, hbit, hnew]
  refine ⟨Dev.onlyReg_of_wr hw ?_ (by simp), fun hv => ?_⟩
  · rw [Dev.applied_regs]
    split <;> rfl
  · rw [Dev.applied_lbu, if_pos hv]
    rfl

/-- Settles O7, a write that is refused and one that is not. -/
theorem runningBusSettings : Obligations.RunningBusSettings := by
  unfold Obligations.RunningBusSettings
  exact fun s who v hInv hon hden =>
    ⟨does_registerWrite_lbuCtl_refused hInv.regs hon hden, does_registerWrite_lbuCtl_running hInv.regs hon hden⟩

end Sys2Proof.Machine
end

section
/-!
O32: delayed-read slots: repeated cycles, completions and the limits on both (R130–R133).
-/
namespace Sys2Proof.Machine

/-! ### Slots -/

/-- A slot that is freed is gone, with every other of its number. -/
theorem Dev.freeDr_slots (d : Dev) (i : Nat) : (d.freeDr i).lbu.slots = d.lbu.slots.filter fun y => y.idx != i := by
  unfold Dev.freeDr
  split
  · dsimp only
    (repeat' split) <;> rfl
  next hnone =>
    refine (List.filter_eq_self.mpr fun y hy => ?_).symm
    simpa using List.find?_eq_none.mp hnone y hy

theorem Dev.freeDr_gone (d : Dev) (i : Nat) : ∀ y ∈ (d.freeDr i).lbu.slots, y.idx ≠ i := by
  intro y hy
  rw [Dev.freeDr_slots] at hy
  exact bne_iff_ne.mp (List.mem_filter.mp hy).2

@[simp] theorem Dev.freeDr_out (d : Dev) (i : Nat) : (d.freeDr i).out = d.out := by
  unfold Dev.freeDr
  dsimp only
  (repeat' split) <;> rfl

@[simp] theorem Dev.freeDr_regs (d : Dev) (i : Nat) : (d.freeDr i).regs = d.regs := by
  unfold Dev.freeDr
  dsimp only
  (repeat' split) <;> rfl

theorem Dev.answer_mem_out (d : Dev) (a : SlaveAns) : .slave a ∈ (d.answer a).out := List.mem_append_right _ (List.mem_singleton_self _)

@[simp] theorem Dev.answer_lbu (d : Dev) (a : SlaveAns) : (d.answer a).lbu = d.lbu := by
  unfold Dev.answer
  split <;> rfl

theorem Dev.answer_retry_regs (d : Dev) : (d.answer .retry).regs = (d.bump Reg.lbuRetryIssued).regs := rfl

/-! ### A repeated cycle -/

/-- A level of LLOCK_N that ends no sequence changes nothing (R124). -/
theorem Dev.lockLevel_of_noLock {d : Dev} {c : SlaveCycle} (h : c.lock = false → d.lockOf c.master.val = none) : d.lockLevel c = d := by
  refine if_neg fun hend => ?_
  simp only [Bool.and_eq_true, Bool.not_eq_true'] at hend
  simp [h hend.1] at hend

theorem Dev.onLbu_winFind (d : Dev) (f : Lbu → Lbu) (fam : WinFam) (a : Nat) : (d.onLbu f).winFind fam a = d.winFind fam a := rfl

/-- A cycle that repeats one with a slot collects from it; of the Orangery only what it remembers of a write burst has changed (R131). -/
theorem Dev.slaveNew_repeat {d : Dev} {c : SlaveCycle} {w : Option Word} {x : DrSlot} (hon : d.slaveOn = true)
    (hgate : d.slaveGate c w.isSome = none) (hlock : c.lock = false → d.lockOf c.master.val = none)
    (hwin : d.winFind .lw c.addr.toNat = some x.lw) (hrep : (d.lbu.slots.find? fun y => y.repeats c x.lw w) = some x) :
    ∃ b, d.slaveNew c w = (d.onLbu fun l => { l with wburst := b }).collect c x := by
  have hlevel := Dev.lockLevel_of_noLock hlock
  cases w with
  | none =>
    refine ⟨d.lbu.wburst, ?_⟩
    simp only [Option.isSome_none] at hgate
    simp only [Dev.slaveNew, Dev.slaveRead, hlevel, hon, hgate, hwin, hrep, Bool.not_true, Bool.false_eq_true, if_false]
    rfl
  | some v =>
    refine ⟨some (c.master.val, x.lw, false), ?_⟩
    simp only [Option.isSome_some] at hgate
    simp only [Dev.slaveNew, Dev.slaveWrite, hlevel, hon, hgate, Dev.onLbu_winFind, hwin, Dev.onLbu_lbu, hrep, Bool.not_true,
      Bool.false_eq_true, if_false]
    rfl

/-! ### A slot that still waits -/

theorem Dev.collect_waiting {d : Dev} {c : SlaveCycle} {x : DrSlot} (hstate : x.state = .waiting) (hhold : d.lholdZero = false) :
    d.collect c x = (d.onLbu fun l => { l with cyc := some (c.master.val, x.idx) }).emit (.slave .hold) := by
  simp [Dev.collect, hstate, Dev.holdOn, hhold]

/-! ### A slot with its completion -/

/-- What a slot whose request has not failed answers the collecting cycle (R129, R131). -/
def DrSlot.goodAnswer (x : DrSlot) (d : Dev) (beats : Nat) : SlaveAns :=
  match x.op with
  | .flush | .barrier | .write => .normal []
  | .condStore => if x.csFail then .cfail else .normal []
  | .read | .rsvLoad => .normal (d.slaveWords x.lw x.addr.toNat x.beN beats fun g => x.rdata.getD (g - x.first) 0)

/-- The completion of a slot is not beyond the age limit of its window (R77). -/
def Dev.slotFresh (d : Dev) (x : DrSlot) : Prop := ∀ r, d.req? x.seq = some r → d.tooOld r.rts (d.winAge .lw x.lw) = false

theorem Dev.slotAnswer_good {d : Dev} {x : DrSlot} (hfresh : d.slotFresh x) (hstatus : x.status = none) (beats : Nat) :
    d.slotAnswer x beats = d.answer (x.goodAnswer d beats) := by
  unfold Dev.slotAnswer DrSlot.goodAnswer
  cases hreq : d.req? x.seq with
  | none =>
    simp only [hstatus, Bool.and_false, Bool.false_eq_true, if_false, Option.isSome_none, Bool.false_and]
    cases x.op <;> rfl
  | some r =>
    simp only [hfresh r hreq, hstatus, Bool.and_false, Bool.false_eq_true, if_false, Option.isSome_none, Bool.false_and]
    cases x.op <;> rfl

/-- Recording the result of a request (R86) is an update of the fabric that leaves the requests. -/
theorem Dev.rsvRecord_onlyFab (d : Dev) (r : Req) :
    d.rsvRecord r = d.onFab (fun _ => (d.rsvRecord r).fab) ∧ (d.rsvRecord r).fab.reqs = d.fab.reqs := by
  unfold Dev.rsvRecord Dev.updRsvInfo
  split
  · split <;> exact ⟨rfl, rfl⟩
  · exact ⟨rfl, rfl⟩
  · exact ⟨rfl, rfl⟩

/-- A slot whose request has not failed serves the cycle and is freed (R131); before that only the fabric's record of the result has changed. -/
theorem Dev.collect_held {d : Dev} {c : SlaveCycle} {x : DrSlot} (hstate : x.state = .held) (hfresh : d.slotFresh x)
    (hstatus : x.status = none) : ∃ b, d.collect c x = ((d.onFab fun _ => b).answer (x.goodAnswer d (min c.beats 8))).freeDr x.idx := by
  have hserve : ∀ b : Fabric, b.reqs = d.fab.reqs →
      (d.onFab fun _ => b).slotAnswer x (min c.beats 8) = (d.onFab fun _ => b).answer (x.goodAnswer d (min c.beats 8)) := by
    intro b hb
    have hreq : (d.onFab fun _ => b).req? x.seq = d.req? x.seq := by simp only [Dev.req?, Dev.onFab_fab, hb]
    exact Dev.slotAnswer_good (d := d.onFab fun _ => b) (fun r hr => hfresh r (hreq ▸ hr)) hstatus _
  unfold Dev.collect Dev.serveSlot
  rw [if_pos hstate]
  dsimp only
  split
  next r hr =>
    obtain ⟨honly, hreqs⟩ := d.rsvRecord_onlyFab r
    exact ⟨(d.rsvRecord r).fab, by rw [← hserve _ hreqs, ← honly]⟩
  next => exact ⟨d.fab, by rw [← hserve _ rfl]; rfl⟩

/-! ### The commands -/

section
variable {s : State} {c : SlaveCycle} {w : Option Word} {x : DrSlot} (hon : s.dev.slaveOn = true)
  (hgate : s.dev.slaveGate c w.isSome = none) (hlock : c.lock = false → s.dev.lockOf c.master.val = none)
  (hwin : s.dev.winFind .lw c.addr.toNat = some x.lw) (hrep : (s.dev.lbu.slots.find? fun y => y.repeats c x.lw w) = some x)
include hon hgate hlock hwin hrep

/-- R131: a repeated cycle is held again while its slot waits. -/
theorem does_slaveSlotCollect_waiting (hstate : x.state = .waiting) (hhold : s.dev.lholdZero = false) :
    Does (.slaveSlotCollect c w) s fun d => .slave .hold ∈ d.out ∧ d.lbu.slots = s.dev.lbu.slots ∧
      d.lbu.cyc = some (c.master.val, x.idx) ∧ d.sameStores s.dev := by
  obtain ⟨b, hnew⟩ := Dev.slaveNew_repeat (d := s.clear) hon (slaveGate_clear_eq_none hgate) hlock hwin hrep
  refine does_act (fun d => d.slaveNew c w) (by unfold exec; rfl) ?_
  rw [hnew, Dev.collect_waiting hstate (by exact hhold)]
  exact ⟨List.mem_append_right _ (List.mem_singleton_self _), rfl, rfl, rfl, rfl⟩

/-- R131: a repeated cycle is served from a slot that has its completion, which is then free. -/
theorem does_slaveSlotCollect_held (hstate : x.state = .held) (hfresh : s.dev.slotFresh x) (hstatus : x.status = none) :
    Does (.slaveSlotCollect c w) s fun d => (∀ y ∈ d.lbu.slots, y.idx ≠ x.idx) ∧ .slave (x.goodAnswer s.dev (min c.beats 8)) ∈ d.out := by
  obtain ⟨b, hnew⟩ := Dev.slaveNew_repeat (d := s.clear) hon (slaveGate_clear_eq_none hgate) hlock hwin hrep
  obtain ⟨f, hserve⟩ := Dev.collect_held (d := s.clear.onLbu fun l => { l with wburst := b }) (c := c) hstate hfresh hstatus
  refine does_act (fun d => d.slaveNew c w) (by unfold exec; rfl) ?_
  rw [hnew, hserve]
  refine ⟨Dev.freeDr_gone _ _, ?_⟩
  rw [Dev.freeDr_out]
  exact Dev.answer_mem_out ..

end

/-- A slot with the completion of its request (R130). -/
def DrSlot.completed (x : DrSlot) (r : Req) : DrSlot :=
  { x with state := .held, status := r.status, csFail := r.csFail, rdata := if r.status.isSome then r.rdata.take r.failAt else r.rdata,
           first := r.ga }

/-- A completion that finds no cycle held on its slot is kept there. -/
theorem Dev.drArrive_kept {d : Dev} {x : DrSlot} {r : Req} (hreq : d.req? x.seq = some r) (hst : r.st = .ended) (hstate : x.state = .waiting)
    (hcyc : d.lbu.cyc = none) : d.drArrive x = d.updSlot x.idx fun _ => x.completed r := by
  have hcyc' : ((d.updSlot x.idx fun _ => x.completed r).lbu.cyc.any fun c => c.2 == x.idx) = false := by
    show (d.lbu.cyc.any _) = false
    rw [hcyc]
    rfl
  unfold Dev.drArrive
  rw [hreq]
  simp only [hst, hstate, ne_eq, not_true, if_false, reduceCtorEq]
  exact if_neg (Bool.eq_false_iff.mp hcyc')

/-- R130, R132: a completion that arrives while no cycle is held on its slot is kept. -/
theorem does_drCompletion {s : State} {i : Fin 16} {x : DrSlot} {r : Req} (hfind : (s.dev.lbu.slots.find? fun y => y.idx == i.val) = some x)
    (hreq : s.dev.req? x.seq = some r) (hst : r.st = .ended) (hstate : x.state = .waiting) (hcyc : s.dev.lbu.cyc = none) :
    Does (.drCompletion i) s fun d => d.sameStores s.dev ∧ ∃ y ∈ d.lbu.slots, y.idx = x.idx ∧ y.op = x.op ∧ y.state = .held ∧
      y.status = r.status ∧ y.csFail = r.csFail ∧ (r.status = none → y.rdata = r.rdata) := by
  refine does_act _ (by unfold exec; rfl) ?_
  simp only [State.clear_lbu, hfind]
  rw [Dev.drArrive_kept (d := s.clear) hreq hst hstate hcyc]
  refine ⟨⟨rfl, rfl⟩, x.completed r, ?_, rfl, rfl, rfl, rfl, rfl, fun hnone => by simp [DrSlot.completed, hnone]⟩
  exact List.mem_map.mpr ⟨x, List.mem_of_find?_eq_some hfind, if_pos rfl⟩

/-- R133: a completion that no cycle has collected is discarded and counted. -/
theorem does_drDiscardExpiry {s : State} {i : Fin 16} {x : DrSlot} (hw : cellsWf s.dev.regs = true)
    (hfind : (s.dev.lbu.slots.find? fun y => y.idx == i.val) = some x) (hstate : x.state = .held) :
    Does (.drDiscardExpiry i) s fun d => d.rd Reg.lbuDrDiscard = s.dev.rd Reg.lbuDrDiscard + 1 ∧ ∀ y ∈ d.lbu.slots, y.idx ≠ i.val := by
  have hidx : x.idx = i.val := by simpa using List.find?_some hfind
  have hany : (s.dev.lbu.slots.any fun y => y.idx == i.val && y.state == .held) = true :=
    List.any_eq_true.mpr ⟨x, List.mem_of_find?_eq_some hfind, by simp [hidx, hstate]⟩
  refine does_act _ (by unfold exec; rfl) ?_
  simp only [State.clear_lbu, hany, if_true]
  refine ⟨?_, Dev.freeDr_gone _ _⟩
  rw [Dev.rd, Dev.freeDr_regs]
  exact (Dev.bump_counts (d := s.clear) hw Reg.lbuDrDiscard).1

/-- R130: LHOLD_MAX ends a held cycle with retry; its slot stays. -/
theorem does_lholdExpiry {s : State} (hw : cellsWf s.dev.regs = true) (hheld : s.dev.lbu.cyc.isSome = true ∨ s.dev.lbu.heldWrite.isSome = true) :
    Does .lholdExpiry s fun d => .slave .retry ∈ d.out ∧ d.lbu.cyc = none ∧ d.lbu.heldWrite = none ∧ d.lbu.slots = s.dev.lbu.slots ∧
      d.onlyReg s.dev Reg.lbuRetryIssued (s.dev.rd Reg.lbuRetryIssued + 1) := by
  refine does_act _ (by unfold exec; rfl) ?_
  simp only [State.clear_lbu, hheld, if_true, Dev.answer_lbu]
  exact ⟨Dev.answer_mem_out .., rfl, rfl, rfl, Dev.onlyReg_of_bump hw rfl rfl⟩

/-- Settles O32: what is held again, kept and ended, a command at a time. -/
theorem delayedReadSlots : Obligations.DelayedReadSlots := by
  unfold Obligations.DelayedReadSlots
  intro s c w x i hInv
  refine ⟨fun hon hgate hlock hwin hrep => ⟨does_slaveSlotCollect_waiting hon hgate hlock hwin hrep, fun hstate hfresh hstatus => ?_⟩,
    fun hfind => ⟨fun r hreq hst hstate hcyc => does_drCompletion hfind hreq hst hstate hcyc, does_drDiscardExpiry hInv.regs hfind⟩,
    does_lholdExpiry hInv.regs⟩
  obtain ⟨d, hexec, hgone, hanswer⟩ := does_slaveSlotCollect_held hon hgate hlock hwin hrep hstate hfresh hstatus
  refine ⟨d, hexec, hgone, ?_, ?_, ?_⟩
  · rintro (hop | hop | hop) <;> simpa [DrSlot.goodAnswer, hop] using hanswer
  · intro hop
    simpa [DrSlot.goodAnswer, hop] using hanswer
  · rintro (hop | hop) <;> simpa [DrSlot.goodAnswer, hop] using hanswer

end Sys2Proof.Machine
end

section
/-!
O29: the arbiter, LRESET_N, the clock monitor and the bus monitor of the L-bus (R135–R140, R142).
-/
namespace Sys2Proof.Machine

/-! ### Arbitration -/

/-- The bus goes to an owner, whose bus request is answered (R135). -/
def Dev.grantTo (d : Dev) (o : BusOwner) : Dev :=
  (d.onLbu fun l => { l with owner := o, requests := l.requests.filter (· != o), promoted := l.promoted.filter (· != o) }).emit (.grant o)

theorem Dev.grantTo_answers (d : Dev) (o : BusOwner) :
    (d.grantTo o).lbu.owner = o ∧ .grant o ∈ (d.grantTo o).out ∧ o ∉ (d.grantTo o).lbu.requests := by
  refine ⟨rfl, List.mem_append_right _ (List.mem_singleton_self _), fun hmem => ?_⟩
  have hne : (o != o) = true := (List.mem_filter.mp hmem).2
  simp at hne

/-- Who is next without a guard window and a promoted request: the first bidder in rotating order, or the parked owner (R135, R136). -/
def Dev.nextOwner (d : Dev) : BusOwner := ((rotation d.lbu.owner).find? d.bidders).getD d.parkOwner

theorem Dev.arbitrate_rotation {d : Dev} (hlocked : d.lbu.locked = none) (hguard : d.lbu.guard = false) (hpromoted : d.lbu.promoted = []) :
    d.arbitrate = d.grantTo d.nextOwner := by
  simp only [Dev.arbitrate, hlocked, hguard, hpromoted, List.find?_nil, Option.isSome_none, Bool.false_eq_true, false_and, if_false]
  rfl

theorem Dev.arbitrate_guard {d : Dev} (hlocked : d.lbu.locked = none) (hguard : d.lbu.guard = true) : d.arbitrate = d.grantTo .orangery := by
  simp only [Dev.arbitrate, hlocked, hguard, Option.isSome_none, Bool.false_eq_true, false_and, if_false, if_true]
  rfl

theorem Dev.arbitrate_locked {d : Dev} (hlocked : d.lbu.locked = some d.lbu.owner) : d.arbitrate = d := by
  simp [Dev.arbitrate, hlocked]

theorem Dev.arbitrate_keeps_guard (d : Dev) : d.arbitrate.lbu.guard = d.lbu.guard := by
  unfold Dev.arbitrate
  dsimp only
  (repeat' split) <;> rfl

section
variable {s : State}

theorem does_busRequest_ignored {k : Fin 2} (hoff : s.dev.masterEn k.val = false) : Does (.busRequest k) s fun d => d = s.clear := by
  have hoff' : s.clear.masterEn k.val = false := hoff
  refine does_act _ (by unfold exec; rfl) ?_
  simp [hoff']

theorem after_busRequest {k : Fin 2} (hon : s.dev.masterEn k.val = true) (hint : s.dev.flag Reg.lbuCtl 6 = false)
    (hnew : (if k = 0 then BusOwner.lbm0 else .lbm1) ∉ s.dev.lbu.requests) :
    After (.busRequest k) s fun d =>
      d.lbu.requests = s.dev.lbu.requests ++ [if k = 0 then .lbm0 else .lbm1] ∧ d.lbu.owner = s.dev.lbu.owner := by
  have hon' : s.clear.masterEn k.val = true := hon
  refine after_act _ (by unfold exec; rfl) ?_
  simp [hon', hint, hnew]

theorem after_arbitration (hint : s.dev.flag Reg.lbuCtl 6 = false) (hlocked : s.dev.lbu.locked = none) (hguard : s.dev.lbu.guard = false)
    (hpromoted : s.dev.lbu.promoted = []) :
    After .arbitration s fun d => d.lbu.owner = s.dev.nextOwner ∧ .grant d.lbu.owner ∈ d.out ∧ d.lbu.owner ∉ d.lbu.requests := by
  refine after_act _ (by unfold exec; rfl) ?_
  rw [State.clear_flag, hint, if_neg Bool.false_ne_true, Dev.arbitrate_rotation (d := s.clear) hlocked hguard hpromoted, settle_lbu_owner,
    settle_lbu_requests]
  obtain ⟨howner, hout, hrequests⟩ := s.clear.grantTo_answers s.clear.nextOwner
  rw [howner]
  exact ⟨rfl, settle_out _ _ _ hout, hrequests⟩

theorem does_arbitration_locked (hint : s.dev.flag Reg.lbuCtl 6 = false) (hlocked : s.dev.lbu.locked = some s.dev.lbu.owner) :
    Does .arbitration s fun d => d = s.clear := by
  refine does_act _ (by unfold exec; rfl) ?_
  rw [State.clear_flag, hint, if_neg Bool.false_ne_true]
  exact Dev.arbitrate_locked hlocked

theorem after_extGrant (hext : s.dev.flag Reg.lbuCtl 6 = true) (low : Bool) :
    After (.extGrant low) s fun d => d.lbu.owner = if low then .orangery else .other := by
  refine after_act _ (by unfold exec; rfl) ?_
  simp [hext]

theorem after_guardWindowStart (s : State) :
    After .guardWindowStart s fun d => d.lbu.guard = true ∧
      (s.dev.flag Reg.lbuCtl 6 = false → s.dev.lbu.locked = none → d.lbu.owner = .orangery) := by
  refine after_act _ (by unfold exec; rfl) ?_
  rw [settle_lbu_guard, settle_lbu_owner]
  dsimp only
  refine ⟨?_, fun hint hlocked => ?_⟩
  · split
    · rfl
    · exact Dev.arbitrate_keeps_guard _
  · have hint' : ¬ (s.clear.onLbu fun l => { l with guard := true }).flag Reg.lbuCtl 6 = true := Bool.eq_false_iff.mp hint
    rw [if_neg hint', Dev.arbitrate_guard (by exact hlocked) rfl]
    rfl

end

theorem busArbitration : Claims.BusArbitration := by
  unfold Claims.BusArbitration
  exact fun s k low hInv => ⟨does_busRequest_ignored, after_busRequest, after_arbitration, does_arbitration_locked,
    fun hext => after_extGrant hext low, after_guardWindowStart s⟩

/-! ### What ends a zone request -/

/-- The Orangery is left by everything that accepting and ending requests does. -/
theorem fabricClosed_lbu (x : Lbu) : FabricClosed fun e => e.lbu = x where
  bump := fun _ _ _ _ h => h
  elog := fun _ _ h => h
  emit := fun _ _ h => h
  fab := fun _ _ _ h => h
  msgs := fun _ _ _ h => h
  intb := fun _ _ h => h

theorem Dev.failReq_lbu (d : Dev) (r : Req) (t : ErrType) (detail failAt : Nat) (data : List Byte) :
    (d.failReq r t detail failAt data).lbu = d.lbu :=
  (fabricClosed_lbu d.lbu).finish ((fabricClosed_lbu d.lbu).logFail d r t detail failAt rfl) ..

/-- To the Orangery the end of a queued request is that it leaves. -/
theorem Dev.zoneEnd_lbu (d : Dev) (r : Req) (timer : Nat) : (d.zoneEnd r timer).lbu = (d.zoneLeave r.seq).lbu := Dev.failReq_lbu ..

/-- When queued requests end, the clock and the slave side stay as they are, and none of them is left in the queue. -/
theorem Dev.foldl_zoneEnd_lbu (timer : Nat) (rs : List Req) (d : Dev) :
    let e := rs.foldl (fun d r => d.zoneEnd r timer) d
    e.lbu.clkOk = d.lbu.clkOk ∧ e.lbu.cyc = d.lbu.cyc ∧ e.lbu.heldWrite = d.lbu.heldWrite ∧
      ∀ q ∈ e.lbu.zoneQ, q ∈ d.lbu.zoneQ ∧ ∀ r ∈ rs, r.seq ≠ q := by
  induction rs generalizing d with
  | nil => exact ⟨rfl, rfl, rfl, fun q hq => ⟨hq, fun r hr => absurd hr List.not_mem_nil⟩⟩
  | cons r rs ih =>
    obtain ⟨hclk, hcyc, hheld, hqueue⟩ := ih (d.zoneEnd r timer)
    rw [Dev.zoneEnd_lbu] at hclk hcyc hheld hqueue
    refine ⟨hclk, hcyc, hheld, fun q hq => ?_⟩
    obtain ⟨hleft, hne⟩ := hqueue q hq
    obtain ⟨hin, hself⟩ := List.mem_filter.mp hleft
    exact ⟨hin, List.forall_mem_cons.mpr ⟨(bne_iff_ne.mp hself).symm, hne⟩⟩

/-! ### The clock and LRESET_N -/

/-- Clock loss lets no held cycle stand, and leaves in the queue only numbers without a request (R142). -/
theorem Dev.clockLost_lbu (d : Dev) : d.clockLost.lbu.clkOk = false ∧ d.clockLost.lbu.cyc = none ∧ d.clockLost.lbu.heldWrite = none ∧
    ∀ q ∈ d.clockLost.lbu.zoneQ, d.req? q = none := by
  unfold Dev.clockLost
  extract_lets d1 d2
  obtain ⟨hclk, -, -, hqueue⟩ : d2.lbu.clkOk = d1.lbu.clkOk ∧ d2.lbu.cyc = d1.lbu.cyc ∧ d2.lbu.heldWrite = d1.lbu.heldWrite ∧
    ∀ q ∈ d2.lbu.zoneQ, q ∈ d1.lbu.zoneQ ∧ ∀ r ∈ d1.lbu.zoneQ.filterMap d1.req?, r.seq ≠ q := Dev.foldl_zoneEnd_lbu 8 _ d1
  have hnone : ∀ q ∈ d2.lbu.zoneQ, d.req? q = none := by
    intro q hq
    obtain ⟨hin, hne⟩ := hqueue q hq
    by_contra hsome
    obtain ⟨r, hr⟩ := Option.ne_none_iff_exists'.mp hsome
    refine hne r (List.mem_filterMap.mpr ⟨q, hin, hr⟩) ?_
    simpa using List.find?_some hr
  clear_value d2
  split
  next => exact ⟨hclk, rfl, rfl, hnone⟩
  next hidle =>
    simp only [not_or, Bool.not_eq_true, Option.isSome_eq_false_iff, Option.isNone_iff_eq_none] at hidle
    exact ⟨hclk, hidle.1, hidle.2, hnone⟩

section
variable {s : State}

theorem does_lresetRelease (hon : s.dev.flag Reg.lbuCtl 0 = true) (hdrain : s.dev.lbu.draining = false) (hlive : s.dev.live = true) :
    Does .lresetRelease s fun d => d.lbu.lreset = false ∧ d.sameStores s.dev := by
  have hlive' : s.clear.live = true := hlive
  refine does_act _ (by unfold exec; rfl) ?_
  simp only [State.clear_flag, hon, State.clear_lbu, hdrain, hlive', Bool.not_false, and_self, if_true]
  exact ⟨rfl, rfl, rfl⟩

theorem does_lresetRelease_disabled (hoff : s.dev.flag Reg.lbuCtl 0 = false) : Does .lresetRelease s fun d => d = s.clear := by
  refine does_act _ (by unfold exec; rfl) ?_
  simp [hoff]

theorem does_lclkLoss (hext : s.dev.flag Reg.lbuCtl 2 = true) :
    Does .lclkLoss s fun d => d.lbu.clkOk = false ∧ d.lbu.cyc = none ∧ d.lbu.heldWrite = none ∧ ∀ q ∈ d.lbu.zoneQ, s.dev.req? q = none := by
  refine does_act _ (by unfold exec; rfl) ?_
  rw [State.clear_flag, hext, if_pos rfl]
  exact s.clear.clockLost_lbu

theorem after_lclkRecovery (s : State) : After .lclkRecovery s fun d => d.lbu.clkOk = true ∧ d.lbu.clkGood = 10 := by
  refine after_act _ (by unfold exec; rfl) ?_
  simp

end

/-! ### The bus monitor -/

theorem Dev.loseRsv_rsv (d : Dev) (p : Rsv → Bool) : (d.loseRsv p).fab.rsv = d.fab.rsv.filter fun x => !p x := by
  unfold Dev.loseRsv
  refine SettleClosed.foldl (P := fun e => e.fab.rsv = d.fab.rsv.filter fun x => !p x) _ ?_ _ _ rfl
  exact fun _ _ h => h

/-- A store leaves no reservation of another holder on a granule it touches, and takes none anew (R229). -/
theorem Dev.mem_rsvStore {d : Dev} {agent ident ga len : Nat} {internal : Bool} {x : Rsv} (hx : x ∈ (d.rsvStore agent ident internal ga len).fab.rsv) :
    x ∈ d.fab.rsv ∧ (ga / 64 ≤ x.granule → x.granule ≤ (ga + len - 1) / 64 → x.agent = agent ∧ x.ident = ident) := by
  rw [Dev.rsvStore, Dev.loseRsv_rsv] at hx
  obtain ⟨hmem, hkept⟩ := List.mem_filter.mp hx
  refine ⟨hmem, fun hlo hhi => ?_⟩
  simp only [hlo, hhi, decide_true, Bool.true_and, Bool.not_not, Bool.and_eq_true, beq_iff_eq] at hkept
  exact hkept.1

theorem Dev.setBytes_fab (x : WData) : ∀ (d : Dev) (a : Nat), (d.setBytes a x).fab = d.fab := by
  induction x with
  | nil => exact fun _ _ => rfl
  | cons b x ih =>
    intro d a
    cases b with
    | none => exact ih d _
    | some b => exact ih (d.setByte a b) _

theorem Dev.readBucket_fab (d : Dev) (b : Nat) : (d.readBucket b).1.fab = d.fab := by
  unfold Dev.readBucket
  extract_lets d1
  have h1 : d1.fab = d.fab := SettleClosed.ite (P := fun e => e.fab = d.fab) rfl rfl
  clear_value d1
  split
  · rw [Dev.log_fab, h1]
  · exact h1

theorem Dev.lookup_fab (d : Dev) (key : List Byte) : (d.lookup key).1.fab = d.fab := by
  unfold Dev.lookup
  extract_lets d1 t h r q
  have hr : r.1.fab = d.fab := Dev.readBucket_fab d1 _
  have hq : q.1.fab = d.fab := (Dev.readBucket_fab r.1 _).trans hr
  split
  · rfl
  · split
    · exact hr
    · split
      · exact hr
      · split <;> exact hq

theorem Dev.mem_watchPut {d : Dev} {rec' : List Byte} {x : Rsv} (hx : x ∈ (d.watchPut rec').fab.rsv) : x ∈ d.fab.rsv := by
  unfold Dev.watchPut at hx
  dsimp only at hx
  split at hx
  · exact hx
  · have hstored := (Dev.mem_rsvStore hx).1
    rwa [Dev.freshWords, Dev.setNum, Dev.setBytes_fab] at hstored

/-- An observation is looked up, and may be recorded (R388). -/
theorem Dev.watch_eq (d : Dev) (o : BusOwner) (addr : Word) (beN : Nat) (write burst : Bool) (t : Termination) (data : Word) :
    ∃ key, d.watch o addr beN write burst t data = (d.lookup key).1 ∨
      ∃ rec', d.watch o addr beN write burst t data = (d.lookup key).1.watchPut rec' := by
  refine ⟨leBytes 1 6 ++ leBytes 4 (addr.toNat / 4 * 4) ++ List.replicate 11 0, ?_⟩
  unfold Dev.watch
  extract_lets r d1
  split
  · exact .inl rfl
  · exact (ite_eq_or_eq _ _ _).imp_right fun h => ⟨_, h⟩

/-- What the bus monitor records of an observation sets no reservation. -/
theorem Dev.mem_watch {d : Dev} {o : BusOwner} {addr : Word} {beN : Nat} {write burst : Bool} {t : Termination} {data : Word} {x : Rsv}
    (hx : x ∈ (d.watch o addr beN write burst t data).fab.rsv) : x ∈ d.fab.rsv := by
  obtain ⟨key, h | ⟨rec', h⟩⟩ := d.watch_eq o addr beN write burst t data
  · rwa [h, Dev.lookup_fab] at hx
  · rw [h] at hx
    have hmem := Dev.mem_watchPut hx
    rwa [Dev.lookup_fab] at hmem

theorem Dev.zoneW_pos (d : Dev) (n : Nat) : 0 < d.zoneW n := by
  unfold Dev.zoneW
  split <;> decide

/-- A full-word write inside a zone leaves on its granule no reservation but its master's own (R139). -/
theorem Dev.monitorStore_word {d : Dev} {k addr z : Nat} (hz : d.winFind .lz addr = some z) :
    ∀ x ∈ (d.monitorStore k addr 0 false).fab.rsv,
      x.granule = (d.devid * 2 ^ 38 + 0x20_0000_0000 + addr / d.zoneW z * d.zoneW z) / 64 → x.agent = 56 + k ∧ x.ident = 0 := by
  obtain ⟨n, hn⟩ := Nat.exists_eq_succ_of_ne_zero (d.zoneW_pos z).ne'
  unfold Dev.monitorStore
  simp only [hz, Bool.false_eq_true, if_false, Nat.zero_testBit, hn, List.range_succ_eq_map, List.foldl_cons]
  refine SettleClosed.foldl (P := fun e => ∀ x ∈ e.fab.rsv,
    x.granule = (d.devid * 2 ^ 38 + 0x20_0000_0000 + addr / n.succ * n.succ) / 64 → x.agent = 56 + k ∧ x.ident = 0) _ ?_ _ _ ?_
  · exact fun e o he x hx => he x (Dev.mem_rsvStore hx).1
  · intro x hx hgranule
    obtain ⟨-, hown⟩ := Dev.mem_rsvStore hx
    rw [Nat.add_zero, Nat.add_sub_cancel] at hown
    exact hown hgranule.ge hgranule.le

theorem does_busMonitorObserve {s : State} {k : Fin 2} {z : Nat} {addr : Word} (t : Termination) (data : Word)
    (hz : s.dev.winFind .lz addr.toNat = some z) :
    Does (.busMonitorObserve (if k = 0 then .lbm0 else .lbm1) addr 0 true false t data) s fun d => ∀ x ∈ d.fab.rsv,
      x.granule = (s.dev.devid * 2 ^ 38 + 0x20_0000_0000 + addr.toNat / s.dev.zoneW z * s.dev.zoneW z) / 64 →
        x.agent = 56 + k.val ∧ x.ident = 0 := by
  have hstore := Dev.monitorStore_word (d := s.clear) (k := k.val) hz
  refine does_act _ (by unfold exec; rfl) ?_
  intro x hx
  match k with
  | 0 => exact hstore x (Dev.mem_watch hx)
  | 1 => exact hstore x (Dev.mem_watch hx)

theorem busClockAndMonitor : Claims.BusClockAndMonitor := by
  unfold Claims.BusClockAndMonitor
  exact fun s k z addr data t hInv => ⟨does_lresetRelease, does_lresetRelease_disabled, does_lclkLoss, after_lclkRecovery s,
    does_busMonitorObserve t data⟩

/-- Settles O29: its two parts, a command at a time. -/
theorem busControl : Obligations.BusControl := ⟨busArbitration, busClockAndMonitor⟩

end Sys2Proof.Machine
end

section
/-!
O28: how the beats of a zone request's cycles end (R116, R123, R126, R202, R225).
-/
namespace Sys2Proof.Machine

/-! ### Failures of requests -/

theorem Dev.logFail_wf {d : Dev} (hw : cellsWf d.regs = true) (r : Req) (t : ErrType) (detail failAt : Nat) :
    cellsWf (d.logFail r t detail failAt).regs = true := by
  unfold Dev.logFail
  dsimp only
  split
  · exact Dev.log_wf (Dev.bump_wf hw ..) ..
  · exact Dev.log_wf hw ..

/-- A request that fails ends with its error type where it stays. -/
theorem Dev.failReq_ended {d : Dev} (hw : cellsWf d.regs = true) (r : Req) (t : ErrType) (detail failAt : Nat) (data : List Byte) :
    (d.failReq r t detail failAt data).eachReq r.seq fun q => q.st = .ended ∧ q.status = some t :=
  (Dev.finish_view (Dev.logFail_wf hw r t detail failAt) ..).2.2

/-- The registers a request that ends as BERR leaves: the counters of its entry in the log advance (R284), and HP_LATE_CPL may. -/
theorem Dev.failReq_berr_rd {d : Dev} (hw : cellsWf d.regs = true) (r : Req) (detail failAt : Nat) (data : List Byte) {off : Nat}
    (hoff : off ∉ [Reg.hpLateCpl, Reg.intElOvf, Reg.intElWritten]) : (d.failReq r .berr detail failAt data).rd off =
      if off = Reg.intTypeCount + 4 * errCode .berr then d.rd off + 1 else d.rd off := by
  simp only [List.mem_cons, List.not_mem_nil, or_false, not_or] at hoff
  obtain ⟨hlate, hovf, hwritten⟩ := hoff
  obtain ⟨-, hrd, -⟩ := Dev.finish_view (Dev.logFail_wf hw r .berr detail failAt) r.seq (some .berr) failAt data
  rw [Dev.failReq, hrd off hlate]
  exact Dev.log_rd hw _ _ _ _ _ hovf hwritten

/-- The end of a request leaves the registers canonical, and starts no request of another number. -/
theorem Dev.failReq_others {d : Dev} (hw : cellsWf d.regs = true) (r : Req) (t : ErrType) (detail failAt : Nat) (data : List Byte) :
    cellsWf (d.failReq r t detail failAt data).regs = true ∧
      ∀ q ∈ (d.failReq r t detail failAt data).fab.reqs, q.seq ≠ r.seq → q ∈ d.fab.reqs := by
  unfold Dev.failReq Dev.finish Dev.finishAt
  extract_lets e
  have hlogged : (d.logFail r t detail failAt).fab.reqs = d.fab.reqs := by
    unfold Dev.logFail
    dsimp only
    split <;> rw [Dev.log_fab]
    rfl
  have hself : e.Answered e := .refl (Dev.logFail_wf hw ..)
  have hothers : ∀ q ∈ e.fab.reqs, q.seq ≠ r.seq → q ∈ d.fab.reqs := by
    intro q hq hne
    obtain ⟨p, hp, rfl⟩ := List.mem_map.mp hq
    rw [hlogged] at hp
    split at hne
    next hseq => exact absurd hseq hne
    next hseq => rwa [if_neg hseq]
  have hend : ∀ f, e.Answered f → cellsWf f.regs = true ∧ ∀ q ∈ f.fab.reqs, q.seq ≠ r.seq → q ∈ d.fab.reqs :=
    fun f h => ⟨h.wf, fun q hq => hothers q (h.reqs q hq)⟩
  split
  · split
    · exact hend _ hself
    · exact hend _ (hself.deliver _)
  · exact hend _ hself

/-! ### A store that discards prefetched data -/

/-- The counters that discarding a prefetched block may advance: its own, and those of its entry in the log (R237, R284). -/
def prefCounters : List Nat :=
  [Reg.lbuPrefDiscard, Reg.intTypeCount + 4 * errCode .prefDiscardSide, Reg.intElOvf, Reg.intElWritten]

/-- What a zone write leaves that ends reservations and discards prefetched data (R229, R237): the Orangery, the requests, and every register but
`prefCounters`. -/
structure Dev.Stored (d e : Dev) : Prop where
  wf : cellsWf e.regs = true
  lbu : e.lbu = d.lbu
  reqs : e.fab.reqs = d.fab.reqs
  rd : ∀ off, off ∉ prefCounters → e.rd off = d.rd off

namespace Dev.Stored

variable {d e f : Dev}

theorem refl (hw : cellsWf d.regs = true) : d.Stored d := ⟨hw, rfl, rfl, fun _ _ => rfl⟩

/-- A further step that touches no register, no request and not the Orangery. -/
theorem step (h : d.Stored e) (hregs : f.regs = e.regs := by rfl) (hlbu : f.lbu = e.lbu := by rfl)
    (hreqs : f.fab.reqs = e.fab.reqs := by rfl) : d.Stored f :=
  ⟨hregs ▸ h.wf, hlbu.trans h.lbu, hreqs.trans h.reqs, fun off hoff => by rw [← h.rd off hoff, Dev.rd, Dev.rd, hregs]⟩

theorem loseRsv (h : d.Stored e) (p : Rsv → Bool) : d.Stored (e.loseRsv p) := by
  unfold Dev.loseRsv
  refine SettleClosed.foldl _ ?_ _ _ h.step
  exact fun _ _ he => he.step

theorem dropBlock (h : d.Stored e) (b : PrefBlock) : d.Stored (e.dropBlock b) := by
  unfold Dev.dropBlock
  extract_lets e1 e2
  have h1 : d.Stored e1 := h.step
  have h2 : d.Stored e2 := by
    refine ⟨Dev.bump_wf h1.wf .., h1.lbu, h1.reqs, fun off hoff => ?_⟩
    have hne : off ≠ Reg.lbuPrefDiscard := fun h => hoff (h ▸ List.mem_cons_self)
    rw [Dev.rd_bump h1.wf, if_neg hne, h1.rd off hoff]
  split
  · refine SettleClosed.ite h1 (SettleClosed.ite ?_ h2)
    refine ⟨Dev.log_wf h2.wf .., (Dev.log_lbu ..).trans h2.lbu, by rw [Dev.log_fab, h2.reqs], fun off hoff => ?_⟩
    rw [← h2.rd off hoff]
    simp only [prefCounters, List.mem_cons, List.not_mem_nil, or_false, not_or] at hoff
    obtain ⟨-, htype, hovf, hwritten⟩ := hoff
    rw [Dev.log_rd h2.wf _ _ _ _ _ hovf hwritten, if_neg htype]
  · exact h1

theorem zoneStored (h : d.Stored e) (r : Req) : d.Stored (e.zoneStored r) := by
  refine SettleClosed.ite h ?_
  unfold Dev.prefWrite Dev.dropBlocks
  exact SettleClosed.foldl _ (fun _ b he => he.dropBlock b) _ _ (h.loseRsv _)

end Dev.Stored

/-! ### A zone request leaves, fails and times out -/

/-- The job's request leaves the Orangery: nothing is driven, and the queue holds it no longer. -/
theorem Dev.zoneLeave_done {d : Dev} {j : ZoneJob} (hjob : d.lbu.job = some j) :
    (d.zoneLeave j.seq).lbu.job = none ∧ j.seq ∉ (d.zoneLeave j.seq).lbu.zoneQ := by
  refine ⟨?_, fun hq => ?_⟩
  · simp [Dev.zoneLeave, hjob]
  · have hne : (j.seq != j.seq) = true := (List.mem_filter.mp hq).2
    simp at hne

/-- That holds on when another request leaves. -/
theorem Dev.zoneLeave_stays_done {d : Dev} {seq : Nat} (seq' : Nat) (hjob : d.lbu.job = none) (hq : seq ∉ d.lbu.zoneQ) :
    (d.zoneLeave seq').lbu.job = none ∧ seq ∉ (d.zoneLeave seq').lbu.zoneQ :=
  ⟨by simp [Dev.zoneLeave, hjob], fun hmem => hq (List.mem_of_mem_filter hmem)⟩

theorem Dev.req?_seq {d : Dev} {seq : Nat} {r : Req} (hreq : d.req? seq = some r) : r.seq = seq := by
  simpa using List.find?_some hreq

section
variable {d : Dev} {j : ZoneJob} {r : Req} (hw : cellsWf d.regs = true) (hreq : d.req? j.seq = some r)
include hw hreq

/-- A zone request that fails leaves the Orangery, its store counts, and it ends with its error type (R202). -/
theorem Dev.zoneFail_eq (t : ErrType) (detail lowest : Nat) :
    ∃ e failAt data, (d.zoneLeave j.seq).Stored e ∧ d.zoneFail j t detail lowest = e.failReq r t detail failAt data := by
  have hstored := (Dev.Stored.refl (d := d.zoneLeave j.seq) hw).zoneStored r
  refine ⟨(d.zoneLeave j.seq).zoneStored r, (failBound r j lowest).1, (failBound r j lowest).2, hstored, ?_⟩
  simp only [Dev.zoneFail, hreq]

theorem Dev.zoneFail_view (t : ErrType) (detail lowest : Nat) :
    cellsWf (d.zoneFail j t detail lowest).regs = true ∧ (d.zoneFail j t detail lowest).lbu = (d.zoneLeave j.seq).lbu ∧
      (d.zoneFail j t detail lowest).eachReq j.seq fun q => q.st = .ended ∧ q.status = some t := by
  obtain ⟨e, failAt, data, hstored, heq⟩ := Dev.zoneFail_eq hw hreq t detail lowest
  have hended := Dev.failReq_ended hstored.wf r t detail failAt data
  rw [Dev.req?_seq hreq] at hended
  rw [heq]
  exact ⟨(Dev.failReq_others hstored.wf ..).1, (Dev.failReq_lbu ..).trans hstored.lbu, hended⟩

/-- A failure as BERR is counted once; of the other registers only counters of the log, of late completions and of discarded data change. -/
theorem Dev.zoneFail_berr_rd (detail lowest : Nat) {off : Nat}
    (hoff : off ∉ Reg.hpLateCpl :: prefCounters) : (d.zoneFail j .berr detail lowest).rd off =
      if off = Reg.intTypeCount + 4 * errCode .berr then d.rd off + 1 else d.rd off := by
  obtain ⟨hlate, hpref⟩ := not_or.mp (mt List.mem_cons.mpr hoff)
  obtain ⟨e, failAt, data, hstored, heq⟩ := Dev.zoneFail_eq hw hreq .berr detail lowest
  have hrd : e.rd off = d.rd off := hstored.rd off hpref
  simp only [prefCounters, List.mem_cons, List.not_mem_nil, or_false, not_or] at hpref
  obtain ⟨-, -, hovf, hwritten⟩ := hpref
  rw [heq, Dev.failReq_berr_rd hstored.wf _ _ _ _ (by simp [hlate, hovf, hwritten]), hrd]

/-- A zone request that completes without data leaves the Orangery and ends (R204, R212). -/
theorem Dev.zoneFinish_write (hop : r.op = .write) : (d.zoneFinish j).lbu = (d.zoneLeave j.seq).lbu ∧
    (d.zoneFinish j).eachReq j.seq fun q => q.st = .ended ∧ q.status = none := by
  have hstored := (Dev.Stored.refl (d := d.zoneLeave j.seq) hw).zoneStored r
  obtain ⟨hlbu, -, hended⟩ := Dev.finish_view hstored.wf r.seq none 0 []
  rw [Dev.req?_seq hreq] at hlbu hended
  have hfinish : d.zoneFinish j = ((d.zoneLeave j.seq).zoneStored r).finish j.seq none 0 [] := by
    simp [Dev.zoneFinish, hreq, hop, Dev.req?_seq hreq]
  rw [hfinish]
  exact ⟨hlbu.trans hstored.lbu, hended⟩

end

/-- What the timeout of a request leaves of it: it is not driven, not queued, and ended as TIMEOUT where it stays. -/
structure Dev.TimedOut (d : Dev) (seq : Nat) : Prop where
  wf : cellsWf d.regs = true
  job : d.lbu.job = none
  queue : seq ∉ d.lbu.zoneQ
  ended : d.eachReq seq fun q => q.st = .ended ∧ q.status = some .timeout

/-- The collateral end of another request leaves it so (R225). -/
theorem Dev.TimedOut.zoneEnd {d : Dev} {seq : Nat} (h : d.TimedOut seq) {r : Req} (hne : r.seq ≠ seq) (timer : Nat) :
    (d.zoneEnd r timer).TimedOut seq := by
  have hw : cellsWf ((d.bump Reg.lbuTimeoutCount).zoneLeave r.seq).regs = true := Dev.bump_wf h.wf ..
  obtain ⟨hwf, hothers⟩ := Dev.failReq_others hw r .timeout (timer + 16 * r.zoneOf) 0 []
  obtain ⟨hjob, hqueue⟩ := Dev.zoneLeave_stays_done r.seq h.job h.queue
  refine ⟨hwf, ?_, ?_, fun q hq hseq => h.ended q (hothers q hq (hseq ▸ hne.symm)) hseq⟩
  · rw [Dev.zoneEnd_lbu]
    exact hjob
  · rw [Dev.zoneEnd_lbu]
    exact hqueue

theorem Dev.zoneTimeout_timedOut {d : Dev} {j : ZoneJob} {r : Req} (hw : cellsWf d.regs = true) (hjob : d.lbu.job = some j)
    (hreq : d.req? j.seq = some r) : (d.zoneTimeout j).TimedOut j.seq := by
  unfold Dev.zoneTimeout
  extract_lets others d1
  obtain ⟨hwf, hlbu, hended⟩ := Dev.zoneFail_view (d := d.bump Reg.lbuTimeoutCount) (Dev.bump_wf hw ..) hreq .timeout (16 * j.zone)
    (j.beatGa (2 ^ 48))
  obtain ⟨hdone, hgone⟩ := Dev.zoneLeave_done (d := d.bump Reg.lbuTimeoutCount) hjob
  have h1 : d1.TimedOut j.seq := ⟨hwf, (congrArg Lbu.job hlbu).trans hdone, by rwa [hlbu], hended⟩
  refine List.foldlRecOn (motive := fun e : Dev => e.TimedOut j.seq) _ _ h1 fun e he q hq =>
    SettleClosed.ite (P := fun e => e.TimedOut j.seq) (he.zoneEnd ?_ 6) he
  obtain ⟨seq, hseq, hq⟩ := List.mem_filterMap.mp hq
  rw [Dev.req?_seq hq]
  exact bne_iff_ne.mp (List.mem_filter.mp hseq).2

/-! ### The beats of a job -/

section
variable {d : Dev} {j : ZoneJob} {c : BusCycle} {rest : List BusCycle} {b : Beat} (hat : j.atBeat c rest b) (lad : Word) (lpar : BitVec 4)
include hat

theorem Dev.terminate_wait : d.terminate j .wait lad lpar = d := by
  obtain ⟨hcycles, hbeat⟩ := hat
  simp only [Dev.terminate, hcycles, hbeat]

/-- A job after a read beat: the bytes of the beat's lanes are there (R116). -/
def ZoneJob.afterRead (j : ZoneJob) (d : Dev) (b : Beat) (lad : Word) : ZoneJob :=
  { j with beat := j.beat + 1, got := j.got ++ ((j.map.filter fun x => b.bytes.contains x.1).map fun x =>
      (x.2, ladByte (d.winBig .lz j.zone) (d.zoneW j.zone) lad x.1)) }

theorem Dev.terminate_normal_read (hread : c.write = false) (hmore : j.beat + 1 < c.beats.length) (hguard : d.lbu.guard = false)
    (hlanes : d.badLanes j b lad lpar = 0) :
    d.terminate j .normal lad lpar = d.onLbu fun l => { l with job := some (j.afterRead d b lad) } := by
  obtain ⟨hcycles, hbeat⟩ := hat
  cases hpar : j.parBad <;> simp [Dev.terminate, ZoneJob.afterRead, Dev.zoneNext, hcycles, hbeat, hread, hlanes, hpar, hmore, hguard]

theorem Dev.terminate_normal_lastWrite (hwrite : c.write = true) (hlast : j.beat + 1 = c.beats.length) (hrest : rest = [])
    (hlocked : j.locked = false) (hpar : j.parBad = none) :
    d.terminate j .normal lad lpar = d.zoneFinish { j with cycles := [], beat := 0 } := by
  obtain ⟨hcycles, hbeat⟩ := hat
  simp only [Dev.terminate, hcycles, hbeat, hwrite, if_true, Dev.zoneNext, hlast, lt_irrefl, if_false, hpar, hrest, List.isEmpty_nil, hlocked,
    Bool.false_eq_true, false_and]

theorem Dev.terminate_retry (hlocked : j.locked = false) : ∃ (k : ZoneJob) (g : Lbu → Bool), d.terminate j .retry lad lpar =
    ((d.bump Reg.lbuRetryRcvd).onLbu fun l => { l with job := none, retried := l.retried ++ [k], guard := g l }) ∧ k.seq = j.seq ∧ k.beat = 0 := by
  obtain ⟨hcycles, hbeat⟩ := hat
  refine ⟨{ j with cycles := (d.bump Reg.lbuRetryRcvd).reshape j, beat := 0 }, fun l => l.guard && !(d.bump Reg.lbuRetryRcvd).isTimed j.seq, ?_, rfl, rfl⟩
  simp only [Dev.terminate, hcycles, hbeat, hlocked, Bool.false_eq_true, false_and, if_false]

theorem Dev.terminate_error {t : Termination} (ht : t = .busError ∨ t = .cfail) :
    d.terminate j t lad lpar = (d.bump Reg.lbuBerrCount).zoneFail j .berr (j.zone + 16 * j.beat) (j.beatGa 0) := by
  obtain ⟨hcycles, hbeat⟩ := hat
  rcases ht with rfl | rfl <;> simp only [Dev.terminate, hcycles, hbeat]

end

/-! ### The commands -/

theorem does_lbusCycleTermination {s : State} {j : ZoneJob} {P : Dev → Prop} (hjob : s.dev.lbu.job = some j) (hpaused : j.paused = false)
    {t : Termination} {lad : Word} {lpar : BitVec 4} (hP : P (s.clear.terminate j t lad lpar)) :
    Does (.lbusCycleTermination t lad lpar) s P := by
  refine does_act _ (by unfold exec; rfl) ?_
  simpa only [State.clear_lbu, hjob, hpaused, Bool.false_eq_true, if_false] using hP

section
variable {s : State} {j : ZoneJob} {r : Req} {c : BusCycle} {rest : List BusCycle} {b : Beat} (hjob : s.dev.lbu.job = some j)
include hjob

theorem does_zoneTimeout (hw : cellsWf s.dev.regs = true) (hreq : s.dev.req? j.seq = some r) : Does (.zoneTimeout j.seq) s fun d =>
    d.lbu.job = none ∧ j.seq ∉ d.lbu.zoneQ ∧ d.eachReq j.seq fun q => q.st = .ended ∧ q.status = some .timeout := by
  have hout := Dev.zoneTimeout_timedOut (d := s.clear) hw hjob hreq
  refine does_act _ (by unfold exec; rfl) ?_
  simp only [State.clear_lbu, hjob, Option.toList_some, List.cons_append, List.find?_cons, beq_self_eq_true]
  exact ⟨hout.job, hout.queue, hout.ended⟩

variable (hpaused : j.paused = false) (hat : j.atBeat c rest b) (lad : Word) (lpar : BitVec 4)
include hpaused hat

theorem does_beat_wait : Does (.lbusCycleTermination .wait lad lpar) s fun d => d = s.clear :=
  does_lbusCycleTermination hjob hpaused (Dev.terminate_wait hat lad lpar)

/-- R116: a read beat that is not the last of its cycle delivers the bytes of its lanes. -/
theorem does_beat_read (hread : c.write = false) (hmore : j.beat + 1 < c.beats.length) (hguard : s.dev.lbu.guard = false)
    (hlanes : s.dev.badLanes j b lad lpar = 0) :
    Does (.lbusCycleTermination .normal lad lpar) s fun d => d.sameStores s.dev ∧ d.lbu.job = some (j.afterRead s.dev b lad) := by
  refine does_lbusCycleTermination hjob hpaused ?_
  rw [Dev.terminate_normal_read (d := s.clear) hat lad lpar hread hmore hguard hlanes]
  exact ⟨⟨rfl, rfl⟩, rfl⟩

/-- R126: a retry leaves the request to be re-issued and is counted. -/
theorem does_beat_retry (hw : cellsWf s.dev.regs = true) (hlocked : j.locked = false) :
    Does (.lbusCycleTermination .retry lad lpar) s fun d =>
      d.onlyReg s.dev Reg.lbuRetryRcvd (s.dev.rd Reg.lbuRetryRcvd + 1) ∧ d.lbu.job = none ∧
        ∃ k, d.lbu.retried = s.dev.lbu.retried ++ [k] ∧ k.seq = j.seq ∧ k.beat = 0 := by
  obtain ⟨k, g, heq, hseq, hbeat⟩ := Dev.terminate_retry (d := s.clear) hat lad lpar hlocked
  refine does_lbusCycleTermination hjob hpaused ?_
  rw [heq]
  exact ⟨Dev.onlyReg_of_bump hw rfl rfl, rfl, k, rfl, hseq, hbeat⟩

variable (hw : cellsWf s.dev.regs = true) (hreq : s.dev.req? j.seq = some r)
include hw hreq

/-- R116: the last beat of a request's last write cycle ends it. -/
theorem does_beat_lastWrite (hwrite : c.write = true) (hop : r.op = .write) (hlast : j.beat + 1 = c.beats.length) (hrest : rest = [])
    (hlocked : j.locked = false) (hpar : j.parBad = none) : Does (.lbusCycleTermination .normal lad lpar) s fun d =>
      d.lbu.job = none ∧ (d.eachReq j.seq fun q => q.st = .ended ∧ q.status = none) ∧ d.mem = s.dev.mem := by
  obtain ⟨hlbu, hended⟩ := Dev.zoneFinish_write (d := s.clear) (j := { j with cycles := [], beat := 0 }) hw hreq hop
  refine does_lbusCycleTermination hjob hpaused ?_
  rw [Dev.terminate_normal_lastWrite hat lad lpar hwrite hlast hrest hlocked hpar]
  refine ⟨?_, hended, Dev.zoneFinish_mem ..⟩
  rw [hlbu]
  exact (Dev.zoneLeave_done (d := s.clear) hjob).1

/-- R126: a bus error ends the request as BERR. -/
theorem does_beat_error {t : Termination} (ht : t = .busError ∨ t = .cfail) : Does (.lbusCycleTermination t lad lpar) s fun d =>
    d.rd Reg.lbuBerrCount = s.dev.rd Reg.lbuBerrCount + 1 ∧ d.oneMore s.dev .berr ∧ d.lbu.job = none ∧
      d.eachReq j.seq fun q => q.st = .ended ∧ q.status = some .berr := by
  have hw' : cellsWf (s.clear.bump Reg.lbuBerrCount).regs = true := Dev.bump_wf hw ..
  obtain ⟨-, hlbu, hended⟩ := Dev.zoneFail_view hw' hreq .berr (j.zone + 16 * j.beat) (j.beatGa 0)
  refine does_lbusCycleTermination hjob hpaused ?_
  rw [Dev.terminate_error hat lad lpar ht]
  refine ⟨?_, ?_, ?_, hended⟩
  · rw [Dev.zoneFail_berr_rd hw' hreq _ _ (by decide), if_neg (by decide), Dev.rd_bump (d := s.clear) hw, if_pos rfl]
    rfl
  · rw [Dev.oneMore, Dev.zoneFail_berr_rd hw' hreq _ _ (by decide), if_pos rfl, Dev.rd_bump (d := s.clear) hw, if_neg (by decide)]
    rfl
  · rw [hlbu]
    exact (Dev.zoneLeave_done (d := s.clear.bump Reg.lbuBerrCount) hjob).1

end

/-- Settles O28, a termination at a time. -/
theorem busBeats : Obligations.BusBeats := by
  unfold Obligations.BusBeats
  intro s j r c rest b lad lpar hInv hjob hpaused hat hreq
  exact ⟨does_beat_wait hjob hpaused hat lad lpar, does_beat_read hjob hpaused hat lad lpar,
    does_beat_lastWrite hjob hpaused hat lad lpar hInv.regs hreq, does_beat_retry hjob hpaused hat lad lpar hInv.regs,
    fun t => does_beat_error hjob hpaused hat lad lpar hInv.regs hreq, does_zoneTimeout hjob hInv.regs hreq⟩

end Sys2Proof.Machine
end

section
/-!
SUPPORT. The Itmos links: what an update of one link leaves, and what leaving UP and entering it do to the links, the outputs and the registers
(R171, R172, R177).
-/
namespace Sys2Proof.Machine

theorem After.mono {c : Instr} {s : State} {P Q : Dev → Prop} (h : After c s P) (hPQ : ∀ d, P d → Q d) : After c s Q := by
  obtain ⟨t, hexec, hpending, hP⟩ := h
  exact ⟨t, hexec, hpending, hPQ _ hP⟩

/-! ### One link -/

theorem Dev.link_onLink {d : Dev} {n : Nat} (hn : n < d.itm.length) (f : Link → Link) : (d.onLink n f).link n = f (d.link n) := by
  simp [Dev.link, hn]

theorem State.link_lt {s : State} (hlen : s.dev.itm.length = 5) (n : Fin 5) : n.val < s.clear.itm.length := by
  rw [State.clear_itm, hlen]
  exact n.isLt

@[simp] theorem Dev.emit_link (d : Dev) (x : Emit) (n : Nat) : (d.emit x).link n = d.link n := rfl
@[simp] theorem Dev.bump_link (d : Dev) (off k n : Nat) : (d.bump off k).link n = d.link n := rfl
@[simp] theorem State.clear_link (s : State) (n : Nat) : s.clear.link n = s.dev.link n := rfl

@[simp] theorem Dev.twinLinkLost_link (d : Dev) (k n : Nat) : (d.twinLinkLost k).link n = d.link n := by
  unfold Dev.twinLinkLost
  split <;> rfl

@[simp] theorem Dev.twinLinkLost_rd (d : Dev) (k off : Nat) : (d.twinLinkLost k).rd off = d.rd off := by
  unfold Dev.twinLinkLost
  split <;> rfl

@[simp] theorem Dev.twinLinkLost_out (d : Dev) (k : Nat) : (d.twinLinkLost k).out = d.out := by
  unfold Dev.twinLinkLost
  split <;> rfl

/-- Two registers of a link (R186). -/
theorem itmReg_ne {a b : Nat} (h : a ≠ b) (n : Nat) : itmReg a n ≠ itmReg b n := by
  unfold itmReg
  omega

/-- A link as it enters RETRAIN (R171). -/
def Link.retrained (l : Link) : Link :=
  { l with state := .retrain, trained := false, fromUp := true, replays := 0, verdict := 0, sentOk := false, peerResult := 0, swapLane := none }

theorem Dev.enterRetrain_link {d : Dev} {n : Nat} (hn : n < d.itm.length) : (d.enterRetrain n).link n = (d.link n).retrained := by
  rw [Dev.enterRetrain, Dev.twinLinkLost_link, Dev.bump_link, Dev.link_onLink hn]
  rfl

@[simp] theorem Dev.enterRetrain_out (d : Dev) (n : Nat) : (d.enterRetrain n).out = d.out := by
  rw [Dev.enterRetrain, Dev.twinLinkLost_out]
  rfl

/-- Entering RETRAIN is counted, and no other register changes. -/
theorem Dev.enterRetrain_rd {d : Dev} (hw : cellsWf d.regs = true) (n : Nat) {off : Nat} (hoff : off ≠ itmReg Reg.itmRetrain n) :
    (d.enterRetrain n).rd off = d.rd off := by
  rw [Dev.enterRetrain, Dev.twinLinkLost_rd]
  exact (Dev.rd_bump hw ..).trans (if_neg hoff)

/-! ### All links, their waiting messages apart -/

/-- The links with the messages that wait for their acknowledgement set aside. -/
def Dev.links (d : Dev) : List Link := d.itm.map fun l => { l with msgs := [] }

theorem Dev.itm_length_of_links {d e : Dev} (h : e.links = d.links) : e.itm.length = d.itm.length := by
  have hlen := congrArg List.length h
  rwa [Dev.links, Dev.links, List.length_map, List.length_map] at hlen

/-- A part of a link other than its waiting messages. -/
theorem Dev.link_of_links {α : Type} (g : Link → α) (hg : ∀ l : Link, g { l with msgs := [] } = g l) {d e : Dev} (h : e.links = d.links)
    (n : Nat) : g (e.link n) = g (d.link n) :=
  Dev.quiet_link_keeps (e := { d with itm := e.itm }) g hg (congrArg (fun x => { d.quiet with itm := x }) h) n

/-- Accepting and ending requests leaves the links but for their waiting messages. -/
theorem fabricClosed_links (x : List Link) : FabricClosed fun e => e.links = x where
  bump := fun _ _ _ _ h => h
  elog := fun _ _ h => h
  emit := fun _ _ h => h
  fab := fun _ _ _ h => h
  msgs := fun d n m h => by
    rw [← h]
    exact map_modify_of (fun l : Link => { l with msgs := [] }) (fun l => { l with msgs := l.msgs ++ [m] }) (fun _ => rfl) d.itm n
  intb := fun _ _ h => h

/-! ### Entering UP -/

namespace FabricClosed

variable {P : Dev → Prop} (hP : FabricClosed P)
include hP

theorem failReq (d : Dev) (r : Req) (t : ErrType) (detail failAt : Nat) (data : List Byte) (h : P d) :
    P (d.failReq r t detail failAt data) := hP.finish (hP.logFail d r t detail failAt h) _ _ _ _

theorem itmosLevel (d : Dev) (k : Nat) (on : Bool) (h : P d) : P (d.itmosLevel k on) := by
  unfold Dev.itmosLevel
  extract_lets root
  refine SettleClosed.ite (hP.intb d _ h) ?_
  split
  · exact hP.sendMsg d _ _ h
  · exact h

theorem levelResend (d : Dev) (h : P d) : P d.levelResend := SettleClosed.foldl _ (fun e _ he => hP.itmosLevel e _ _ he) _ d h

theorem pumpWbars (d : Dev) (n : Nat) (h : P d) : P (d.pumpWbars n) :=
  SettleClosed.foldl _ (fun e _ he => hP.sendWbar _ _ _ (hP.onFab e _ he)) _ d h

end FabricClosed

/-- A link as it enters UP, in a new epoch or after a retrain (R171, R177). -/
def Link.entered (l : Link) (fresh : Bool) : Link :=
  { l with state := .up, fromUp := false, cause := 0, delays := [], rxAny := l.rxAny && !fresh, nakSent := false }

/-- What the entry into UP does beside the link itself is sending, and an update of the twin. -/
theorem FabricClosed.linkEnterUp {P : Dev → Prop} (hP : FabricClosed P) (htwin : ∀ d f, P d → P (d.onTwin f)) {d : Dev} {n : Nat}
    (h : P (d.onLink n fun l => l.entered (!(d.link n).fromUp))) : P (d.linkEnterUp n) := by
  unfold Dev.linkEnterUp
  extract_lets fresh d1 d2 d3
  have h2 : P d2 := SettleClosed.ite (hP.levelResend d1 h) h
  have h3 : P d3 := SettleClosed.ite (htwin d2 _ h2) h2
  exact hP.retryHeld _ (hP.pumpWbars d3 n h3)

theorem Dev.linkEnterUp_link {α : Type} (g : Link → α) (hg : ∀ l : Link, g { l with msgs := [] } = g l) {d : Dev} {n : Nat}
    (hn : n < d.itm.length) : g ((d.linkEnterUp n).link n) = g ((d.link n).entered (!(d.link n).fromUp)) := by
  rw [Dev.link_of_links g hg ((fabricClosed_links _).linkEnterUp (fun _ _ h => h) rfl) n, Dev.link_onLink hn]

theorem Dev.linkEnterUp_out {d : Dev} {x : Emit} (h : x ∈ d.out) (n : Nat) : x ∈ (d.linkEnterUp n).out :=
  (fabricClosed_out x).linkEnterUp (fun _ _ h => h) h

/-! ### Going DOWN -/

/-- A link that has gone DOWN (R172). -/
def Link.down (l : Link) : Link :=
  { state := .down, peerTwin := l.peerTwin, peerDevid := l.peerDevid, epoch := (l.epoch + 1) % 65536, rx := l.rx, tx := l.tx,
    timeSeq := l.timeSeq, delays := l.delays }

namespace FabricClosed

variable {P : Dev → Prop} (hP : FabricClosed P) {n : Nat} (hcount : ∀ d k, P d → P (d.bump (itmReg Reg.itmPeerDownCount n) k))
include hP hcount

theorem endPeerReqs (d : Dev) (started : Bool) (h : P d) : P (d.endPeerReqs n started) :=
  SettleClosed.foldl _ (fun e r he => hP.failReq _ r _ _ _ _ (hcount e 1 he)) _ d h

/-- What going DOWN does beside the link itself and the twin is ending requests and WBARs, and trying what waits. -/
theorem linkDown {d : Dev} (h : P ((d.onLink n Link.down).twinLinkLost n)) : P (d.linkDown n) := by
  unfold Dev.linkDown
  extract_lets nodes msgs d1 d2 ws lost c d3 d4 opens d5 cameBy noAnswer d6 d7 d8 intb d9
  have h2 : P d2 := hP.endPeerReqs hcount d1 false h
  have h3 : P d3 := SettleClosed.ite h2 (hP.log _ _ _ _ _ _ (hcount d2 lost h2))
  have h4 : P d4 := SettleClosed.foldl _ (fun e r he => hP.noteFail _ _ _ _ _ _ _ (hP.dropReq e _ he)) _ d3 h3
  have h5 : P d5 := hP.onFab d4 _ h4
  have h6 : P d6 := hP.onFab d5 _ h5
  have h7 : P d7 := by
    refine SettleClosed.foldl _ (fun e w he => ?_) _ d6 h6
    split
    · exact hP.wbarAnswer e _ _ _ _ he
    · exact hP.wbarEnd e _ _ _ _ he
  have h9 : P d9 := hP.intb d8 _ (hP.loseRsv d7 _ h7)
  exact hP.retryHeld d9 h9

end FabricClosed

theorem Dev.linkDown_links (d : Dev) (n : Nat) : (d.linkDown n).links = (d.onLink n Link.down).links := by
  refine (fabricClosed_links _).linkDown (fun _ _ h => h) ?_
  unfold Dev.twinLinkLost
  split <;> rfl

theorem Dev.linkDown_link {α : Type} (g : Link → α) (hg : ∀ l : Link, g { l with msgs := [] } = g l) {d : Dev} {n : Nat}
    (hn : n < d.itm.length) : g ((d.linkDown n).link n) = g (d.link n).down := by
  rw [Dev.link_of_links g hg (d.linkDown_links n) n, Dev.link_onLink hn]

/-- The settings of a link are no counter of the fabric. -/
theorem itmLinkCtl_not_fabricCounter (n : Fin 5) : ¬FabricCounter (itmReg Reg.itmLinkCtl n.val) := by
  have hn := n.isLt
  rintro (h | ⟨t, h⟩ | ⟨f, k, h⟩)
  · simp only [itmReg, Reg.itmLinkCtl, Reg.winDecodeMiss, Reg.hpLateCpl, Reg.intElOvf, Reg.intElWritten, List.mem_cons, List.not_mem_nil,
      or_false] at h
    omega
  · simp only [itmReg, Reg.itmLinkCtl, Reg.intTypeCount] at h
    omega
  · simp only [itmReg, Reg.itmLinkCtl] at h
    cases f <;> simp only [winBase, Reg.winIwCtl, Reg.winOwCtl, Reg.winLwCtl, Reg.winLzCtl] at h <;> omega

/-- Going DOWN leaves the settings of the link. -/
theorem Dev.linkDown_linkCtl {d : Dev} (hw : cellsWf d.regs = true) (n : Fin 5) :
    (d.linkDown n.val).rd (itmReg Reg.itmLinkCtl n.val) = d.rd (itmReg Reg.itmLinkCtl n.val) := by
  have hkeep := fabricClosed_keeps (itmLinkCtl_not_fabricCounter n) (d.rd (itmReg Reg.itmLinkCtl n.val)) d.fab
  have hne := itmReg_ne (a := Reg.itmLinkCtl) (b := Reg.itmPeerDownCount) (by decide) n.val
  refine (hkeep.linkDown (fun e k ⟨hw', hrd, hfab⟩ => ⟨Dev.bump_wf hw' .., ?_, hfab⟩) ?_).2.1
  · rw [Dev.rd_bump hw', if_neg hne, hrd]
  · unfold Dev.twinLinkLost
    split <;> exact ⟨hw, rfl, .refl _⟩

end Sys2Proof.Machine
end

section
/-!
O34: training, HELLO and the measurement of the link delay (R153, R176–R178, R180–R182, R188).
-/
namespace Sys2Proof.Machine

/-! ### Training -/

section
variable {s : State} {n : Fin 5} (hlen : s.dev.itm.length = 5)
include hlen

/-- The lanes that lock are the lanes in use, and HELLO begins (R153). -/
theorem after_linkTrained {lock : BitVec 3} {rx : LaneDir} (hon : s.dev.linkOn n.val = true)
    (hst : (s.dev.link n.val).state = .train ∨ (s.dev.link n.val).state = .down ∨ (s.dev.link n.val).state = .off)
    (hrx : trainLanes (s.dev.link n.val).rx lock (s.dev.flag (itmReg Reg.itmLinkCtl n.val) 9) = some rx) :
    After (.linkTrained n lock) s fun d =>
      (d.link n.val).state = .hello ∧ (d.link n.val).trained = true ∧ (d.link n.val).rx = rx := by
  refine after_act _ (by unfold exec; rfl) ?_
  have hn := State.link_lt hlen n
  have hready : s.clear.linkOn n.val = true ∧ ((s.clear.link n.val).state = .train ∨ (s.clear.link n.val).state = .down ∨
      ((s.clear.link n.val).state = .retrain ∧ (!(s.clear.link n.val).trained) = true) ∨ (s.clear.link n.val).state = .off) :=
    ⟨hon, by tauto⟩
  have hleft : (s.clear.link n.val).state ≠ .retrain := by rcases hst with h | h | h <;> simp [h]
  dsimp only
  rw [if_pos hready, State.clear_link, State.clear_flag, hrx]
  simp only [settle_link_state, settle_link_trained, settle_link_rx, Dev.link_onLink hn]
  exact ⟨if_neg hleft, trivial, trivial⟩

theorem after_trainingRetry (hon : s.dev.linkOn n.val = true) (hst : (s.dev.link n.val).state = .off ∨ (s.dev.link n.val).state = .train ∨
      (s.dev.link n.val).state = .down ∨ (s.dev.link n.val).state = .hello) :
    After (.trainingRetry n) s fun d => (d.link n.val).state = .train ∧ (d.link n.val).trained = false := by
  refine after_act _ (by unfold exec; rfl) ?_
  have hn := State.link_lt hlen n
  have hwaits : s.clear.linkOn n.val = true ∧ ((s.clear.link n.val).state = .off ∨ (s.clear.link n.val).state = .train ∨
      (s.clear.link n.val).state = .down ∨ (s.clear.link n.val).state = .hello) := ⟨hon, hst⟩
  dsimp only
  rw [if_pos hwaits, settle_link_state, settle_link_trained, Dev.link_onLink hn]
  exact ⟨rfl, rfl⟩

end

/-- Without a lane that locks nothing changes. -/
theorem does_linkTrained_none (s : State) (n : Fin 5) : Does (.linkTrained n 0) s fun d => d = s.clear := by
  refine does_act _ (by unfold exec; rfl) ?_
  have hnone : ∀ old single, trainLanes old 0 single = none := fun _ _ => rfl
  simp only [hnone, ite_self]

/-! ### HELLO -/

/-- A link in HELLO after the peer's HELLO, which this side judges with `code` (R177). -/
def Link.heard (l : Link) (h : Hello) (code : Nat) : Link :=
  let l := { l with peerDevid := h.devid, peerTwin := h.twin, peerCredits := h.credits, peerResult := h.result }
  if code ≠ 1 then { l with state := .held, cause := code, verdict := code }
  else if 2 ≤ h.result ∧ h.result ≤ 6 then { l with state := .held, cause := 1, verdict := 1 }
  else
    let l := { l with verdict := 1, peerEpoch := h.epoch }
    if l.sentOk ∧ h.result = 1 then l.entered (!l.fromUp) else l

theorem Dev.hello_link {α : Type} (g : Link → α) (hg : ∀ l : Link, g { l with msgs := [] } = g l) {d : Dev} {n : Nat}
    (hn : n < d.itm.length) (ht : (d.link n).trained = true) (hst : (d.link n).state = .hello) (h : Hello) :
    g ((d.hello n h).link n) = g ((d.link n).heard h (d.helloCheck n h)) := by
  have hretrain : ¬((d.link n).state = .retrain ∧ h.epoch ≠ (d.link n).peerEpoch) := by simp [hst]
  unfold Dev.hello Link.heard
  extract_lets l e code f l1 l2
  have hn1 : n < e.itm.length := by simpa [e] using hn
  have hn2 : n < f.itm.length := by simpa [f] using hn1
  have he : e.link n = l1 := Dev.link_onLink hn _
  have hf : f.link n = l2 := by rw [Dev.link_onLink hn1, he]
  have hcode : code = d.helloCheck n h := rfl
  rw [if_neg (by simp [l, ht]), if_neg hretrain, if_pos (.inl hst), ← hcode]
  split
  · rw [Dev.link_onLink hn1, he]
  · split
    · rw [Dev.link_onLink hn1, he]
    · have hsent : l.sentOk = l2.sentOk := rfl
      rw [hsent]
      split
      · rw [Dev.linkEnterUp_link g hg hn2, hf]
      · rw [hf]

section
variable {s : State} {n : Fin 5} (hlen : s.dev.itm.length = 5) (ht : (s.dev.link n.val).trained = true)
  (hst : (s.dev.link n.val).state = .hello)
include hlen ht hst

theorem after_helloSend : After (.helloSend n) s fun d => .hello n.val (s.dev.helloOf n.val) ∈ d.out ∧
    (d.link n.val).state = if (s.dev.link n.val).verdict = 1 ∧ (s.dev.link n.val).peerResult = 1 then .up else .hello := by
  have hsends : (s.clear.link n.val).trained = true ∧ ((s.clear.link n.val).state = .hello ∨ (s.clear.link n.val).state = .retrain ∨
      (s.clear.link n.val).state = .held) := ⟨ht, .inl hst⟩
  have hfree : (s.clear.link n.val).state ≠ .held := by simp [hst]
  have hn := State.link_lt hlen n
  refine after_act _ (by unfold exec; rfl) ?_
  dsimp only
  rw [if_pos hsends]
  generalize hd : Dev.onLink _ n.val _ = d
  have hn' : n.val < d.itm.length := by simpa [← hd] using hn
  have hout : .hello n.val (s.dev.helloOf n.val) ∈ d.out := hd ▸ List.mem_append_right _ (List.mem_singleton_self _)
  have hkept : (d.link n.val).state = .hello := by
    rw [← hd, Dev.link_onLink (d := s.clear.emit _) hn]
    exact hst
  by_cases hboth : (s.dev.link n.val).verdict = 1 ∧ (s.dev.link n.val).peerResult = 1
  · have henters : (s.clear.link n.val).state ≠ .held ∧ (s.clear.link n.val).verdict = 1 ∧ (s.clear.link n.val).peerResult = 1 :=
      ⟨hfree, hboth⟩
    rw [if_pos henters, if_pos hboth, settle_link_state, Dev.linkEnterUp_link Link.state (fun _ => rfl) hn']
    exact ⟨settle_out _ _ _ (Dev.linkEnterUp_out hout _), rfl⟩
  · have hstays : ¬((s.clear.link n.val).state ≠ .held ∧ (s.clear.link n.val).verdict = 1 ∧ (s.clear.link n.val).peerResult = 1) :=
      fun h => hboth h.2
    rw [if_neg hstays, if_neg hboth, settle_link_state, hkept]
    exact ⟨settle_out _ _ _ hout, rfl⟩

theorem after_helloReceive (h : Hello) : After (.helloReceive n h) s fun d =>
    (d.link n.val).peerDevid = h.devid ∧ (d.link n.val).peerTwin = h.twin ∧
      (s.dev.helloCheck n.val h ≠ 1 → (d.link n.val).state = .held ∧ (d.link n.val).cause = s.dev.helloCheck n.val h) ∧
      (s.dev.helloCheck n.val h = 1 → (h.result = 0 ∨ h.result = 1) → (d.link n.val).verdict = 1 ∧ (d.link n.val).peerEpoch = h.epoch ∧
        (d.link n.val).state = if (s.dev.link n.val).sentOk = true ∧ h.result = 1 then .up else .hello) := by
  refine after_act (fun d => d.hello n.val h) (by unfold exec; rfl) ?_
  have hn := State.link_lt hlen n
  have hview : ∀ {α : Type} (g : Link → α), (∀ l : Link, g { l with msgs := [] } = g l) →
      g ((s.clear.hello n.val h).link n.val) = g ((s.dev.link n.val).heard h (s.dev.helloCheck n.val h)) :=
    fun g hg => Dev.hello_link (d := s.clear) g hg hn ht hst h
  rw [settle_link_peerDevid, settle_link_peerTwin, settle_link_state, settle_link_cause, settle_link_verdict, settle_link_peerEpoch,
    hview Link.peerDevid fun _ => rfl, hview Link.peerTwin fun _ => rfl, hview Link.state fun _ => rfl, hview Link.cause fun _ => rfl,
    hview Link.verdict fun _ => rfl, hview Link.peerEpoch fun _ => rfl]
  generalize s.dev.helloCheck n.val h = code
  unfold Link.heard
  dsimp only
  refine ⟨?_, ?_, fun hcode => by simp [hcode], fun hcode hresult => ?_⟩
  · (repeat' split) <;> rfl
  · (repeat' split) <;> rfl
  · have hgood : ¬(2 ≤ h.result ∧ h.result ≤ 6) := by omega
    rw [if_neg (not_not.mpr hcode), if_neg hgood]
    split
    · exact ⟨rfl, rfl, rfl⟩
    · exact ⟨rfl, rfl, hst⟩

end

/-! ### Restart -/

theorem Dev.linkDown_linkOn {d : Dev} (hw : cellsWf d.regs = true) (n : Fin 5) : (d.linkDown n.val).linkOn n.val = d.linkOn n.val := by
  have hrole : (d.linkDown n.val).linkRole n.val = d.linkRole n.val := congrArg (fieldOf · 0 3) (Dev.linkDown_linkCtl hw n)
  rw [Dev.linkOn, hrole, Dev.linkOn]

theorem after_itmLinkRestart {s : State} {n : Fin 5} (hw : cellsWf s.dev.regs = true) (hlen : s.dev.itm.length = 5) :
    After (.itmLinkRestart n) s fun d =>
      (d.link n.val).state = (if s.dev.linkOn n.val then .train else .off) ∧ (d.link n.val).cause = 0 := by
  refine after_act (fun d => d.linkRestart n.val) (by unfold exec; rfl) ?_
  rw [settle_link_state, settle_link_cause]
  unfold Dev.linkRestart
  extract_lets d
  have hd : d.itm.length = 5 ∧ d.linkOn n.val = s.dev.linkOn n.val := by
    unfold d
    split
    · exact ⟨hlen, rfl⟩
    · refine ⟨(Dev.itm_length_of_links (Dev.linkDown_links ..)).trans ?_, Dev.linkDown_linkOn (d := s.clear) hw n⟩
      simp [hlen]
  obtain ⟨hlen', hon⟩ := hd
  have hn : n.val < d.itm.length := hlen'.symm ▸ n.isLt
  rw [Dev.link_onLink hn, hon]
  exact ⟨rfl, rfl⟩

theorem linkTraining : Claims.LinkTraining := by
  unfold Claims.LinkTraining
  intro s n h hInv hlen
  refine ⟨fun hon hst => ⟨?_, ?_, does_linkTrained_none s n⟩, after_trainingRetry hlen,
    fun ht hst => ⟨after_helloSend hlen ht hst, after_helloReceive hlen ht hst h⟩, after_itmLinkRestart hInv.regs hlen⟩
  · refine (after_linkTrained hlen hon hst rfl).mono fun d ⟨hstate, htrained, hrx⟩ => ?_
    exact ⟨hstate, htrained, hrx ▸ ⟨rfl, rfl, rfl, rfl⟩⟩
  · refine (after_linkTrained hlen hon hst rfl).mono fun d ⟨hstate, _, hrx⟩ => ?_
    exact ⟨hstate, hrx ▸ ⟨rfl, rfl, rfl⟩⟩

/-! ### Time flits -/

section
variable {s : State} {n : Fin 5} (hon : s.dev.timeOn n.val = true)
include hon

theorem after_delayReq (hparent : s.dev.timeParent n.val = true) (seqid : Nat) :
    After (.delayReq n seqid) s fun d => .timeFlit n.val 3 seqid s.dev.vtStamp s.dev.vtStamp ∈ d.out := by
  have hanswers : (s.clear.timeOn n.val && s.clear.timeParent n.val) = true := Bool.and_eq_true_iff.mpr ⟨hon, hparent⟩
  refine after_act _ (by unfold exec; rfl) ?_
  simp only [hanswers, if_true]
  exact settle_out _ _ _ (List.mem_append_right _ (List.mem_singleton_self _))

variable (hchild : s.dev.timeChild n.val = true)
include hchild

theorem after_delayReqSend (hlen : s.dev.itm.length = 5) : After (.delayReqSend n) s fun d =>
    .timeFlit n.val 2 (s.dev.link n.val).timeSeq s.dev.vtStamp 0 ∈ d.out ∧
      (d.link n.val).delayReq = some ((s.dev.link n.val).timeSeq, s.dev.vtStamp) ∧
      (d.link n.val).timeSeq = ((s.dev.link n.val).timeSeq + 1) % 65536 := by
  have hsends : (s.clear.timeOn n.val && s.clear.timeChild n.val) = true := Bool.and_eq_true_iff.mpr ⟨hon, hchild⟩
  refine after_act _ (by unfold exec; rfl) ?_
  simp only [hsends, if_true]
  generalize hd : (if (s.clear.link n.val).delayReq.isSome = true then s.clear.bump (itmReg Reg.itmTimeDrop n.val) else s.clear) = d
  obtain ⟨hlink, hstamp, hitm⟩ : d.link n.val = s.dev.link n.val ∧ d.vtStamp = s.dev.vtStamp ∧ d.itm.length = 5 := by
    rw [← hd]
    split <;> exact ⟨rfl, rfl, hlen⟩
  rw [hlink, hstamp, settle_link_delayReq, settle_link_timeSeq, Dev.link_onLink (by simp [hitm])]
  exact ⟨settle_out _ _ _ (List.mem_append_right _ (List.mem_singleton_self _)), rfl, rfl⟩

section
variable {seqid t1 : Nat} (hopen : (s.dev.link n.val).delayReq = some (seqid, t1)) {t2 t3 : Nat} {delay : Int}
  (hdelay : delay = ((s.dev.vtStamp : Int) - t1 - ((t3 : Int) - t2)) / 2)
include hopen hdelay

/-- The answer that completes an exchange ends it, and gives a delay or is counted (R182). -/
theorem exec_delayResp : exec (.delayResp n seqid t2 t3) s = s.act fun d =>
    if delay < 0 ∨ 10000 * 65536 < delay then (d.onLink n.val fun l => { l with delayReq := none }).bump (itmReg Reg.itmTimeDrop n.val)
    else (d.onLink n.val fun l => { l with delayReq := none }).onLink n.val fun l =>
      { l with delays := (l.delays ++ [delay]).drop (l.delays.length + 1 - 16) } := by
  have hmatches : (s.clear.timeOn n.val && s.clear.timeChild n.val && seqid == seqid) = true := by
    rw [beq_self_eq_true, Bool.and_true]
    exact Bool.and_eq_true_iff.mpr ⟨hon, hchild⟩
  refine (show exec (.delayResp n seqid t2 t3) s = s.act _ by unfold exec; rfl).trans (State.act_congr ?_)
  subst hdelay
  simp only [State.clear_link, hopen, hmatches, if_true]
  rfl

theorem after_delayResp (hlen : s.dev.itm.length = 5) (hlo : 0 ≤ delay) (hhi : delay ≤ 10000 * 65536) :
    After (.delayResp n seqid t2 t3) s fun d => (d.link n.val).delays.getLast? = some delay ∧ (d.link n.val).delayReq = none := by
  refine after_act _ (exec_delayResp hon hchild hopen hdelay) ?_
  have hvalid : ¬(delay < 0 ∨ 10000 * 65536 < delay) := by omega
  rw [if_neg hvalid, settle_link_delays, settle_link_delayReq, Dev.link_onLink (by simp [hlen]), Dev.link_onLink (by simp [hlen])]
  exact ⟨by rw [List.getLast?_drop, if_neg (by simp), List.getLast?_concat], rfl⟩

theorem does_delayResp_dropped (hlen : s.dev.itm.length = 5) (hw : cellsWf s.dev.regs = true) (hout : delay < 0 ∨ 10000 * 65536 < delay) :
    Does (.delayResp n seqid t2 t3) s fun d => (d.link n.val).delayReq = none ∧
      d.onlyReg s.dev (itmReg Reg.itmTimeDrop n.val) (s.dev.rd (itmReg Reg.itmTimeDrop n.val) + 1) := by
  refine does_act _ (exec_delayResp hon hchild hopen hdelay) ?_
  rw [if_pos hout, Dev.bump_link, Dev.link_onLink (by simp [hlen])]
  exact ⟨rfl, Dev.onlyReg_of_bump hw rfl rfl⟩

end

end

theorem timeFlits : Claims.TimeFlits := by
  unfold Claims.TimeFlits
  intro s n seqid t2 t3 hInv hlen hon
  exact ⟨fun hparent => after_delayReq hon hparent seqid, fun hchild => ⟨after_delayReqSend hon hchild hlen, fun t1 hopen =>
    ⟨after_delayResp hon hchild hopen rfl hlen, does_delayResp_dropped hon hchild hopen rfl hlen hInv.regs⟩⟩⟩

/-- Settles O34: its two parts, a command at a time. -/
theorem linkStates : Obligations.LinkStates := by
  unfold Obligations.LinkStates
  exact ⟨linkTraining, timeFlits⟩

end Sys2Proof.Machine
end

section
/-!
O35: replay, retraining and lane repair (R157, R169–R174, R184).
-/
namespace Sys2Proof.Machine

/-! ### Replay -/

theorem does_flitCrcFail {s : State} {n : Fin 5} (hw : cellsWf s.dev.regs = true) (hlen : s.dev.itm.length = 5) :
    Does (.flitCrcFail n) s fun d =>
      d.onlyReg s.dev (itmReg Reg.itmCrcErr n.val) (s.dev.rd (itmReg Reg.itmCrcErr n.val) + 1) ∧
        ((s.dev.link n.val).state = .up → (s.dev.link n.val).nakSent = false → .nak n.val ∈ d.out ∧ (d.link n.val).nakSent = true) := by
  refine does_act _ (by unfold exec; rfl) ?_
  have hn := State.link_lt hlen n
  dsimp only
  generalize hd : s.clear.bump (itmReg Reg.itmCrcErr n.val) = d
  have hcount : ∀ e : Dev, e.regs = d.regs → e.mem = d.mem →
      e.onlyReg s.dev (itmReg Reg.itmCrcErr n.val) (s.dev.rd (itmReg Reg.itmCrcErr n.val) + 1) := fun e hregs hmem =>
    Dev.onlyReg_of_bump hw (by rw [hregs, ← hd]; rfl) (by rw [hmem, ← hd]; rfl)
  have hlink : d.link n.val = s.dev.link n.val := hd ▸ rfl
  split
  next => exact ⟨hcount _ rfl rfl, fun _ _ => ⟨List.mem_append_right _ (List.mem_singleton_self _), by
      rw [Dev.link_onLink (by simpa [← hd] using hn)]⟩⟩
  next hquiet =>
    refine ⟨hcount _ rfl rfl, fun hup hnak => absurd ?_ hquiet⟩
    simp [Dev.linkUp, hlink, hup, hnak]

/-- The device with a replay counted and sent, the `k`-th of the same oldest flit. -/
def Dev.replayed (d : Dev) (n k : Nat) : Dev :=
  ((d.bump (itmReg Reg.itmReplay n)).emit (.replay n)).onLink n fun l => { l with replays := k }

/-- A replay that reaches the limit makes the link retrain (R171). -/
theorem Dev.replayFrom_up {d : Dev} {n : Nat} (hw : cellsWf d.regs = true) (hup : (d.link n).state = .up) (same : Bool) :
    d.replayFrom n same =
      if max 1 (d.fld (itmReg Reg.itmLinkCtl n) 4 4) ≤ (if same then (d.link n).replays + 1 else 1)
      then (d.replayed n (if same then (d.link n).replays + 1 else 1)).enterRetrain n
      else d.replayed n (if same then (d.link n).replays + 1 else 1) := by
  have hup' : ¬(!d.linkUp n) = true := by simp [Dev.linkUp, hup]
  have hne := itmReg_ne (a := Reg.itmLinkCtl) (b := Reg.itmReplay) (by decide) n
  have hctl : ∀ k, (d.replayed n k).fld (itmReg Reg.itmLinkCtl n) 4 4 = d.fld (itmReg Reg.itmLinkCtl n) 4 4 := fun k =>
    congrArg (fieldOf · 4 4) ((Dev.rd_bump hw ..).trans (if_neg hne))
  rw [Dev.replayFrom, if_neg hup', ← hctl]
  rfl

theorem Dev.replayFrom_view {d : Dev} {n : Nat} (hw : cellsWf d.regs = true) (hn : n < d.itm.length) (hup : (d.link n).state = .up)
    (same : Bool) :
    let k := if same then (d.link n).replays + 1 else 1
    let limit := max 1 (d.fld (itmReg Reg.itmLinkCtl n) 4 4)
    (d.replayFrom n same).rd (itmReg Reg.itmReplay n) = d.rd (itmReg Reg.itmReplay n) + 1 ∧ .replay n ∈ (d.replayFrom n same).out ∧
      ((d.replayFrom n same).link n).state = (if limit ≤ k then .retrain else .up) ∧
      (k < limit → ((d.replayFrom n same).link n).replays = k) := by
  rw [Dev.replayFrom_up hw hup]
  intro k limit
  have hcount : (d.replayed n k).rd (itmReg Reg.itmReplay n) = d.rd (itmReg Reg.itmReplay n) + 1 := (Dev.rd_bump hw ..).trans (if_pos rfl)
  have hsent : .replay n ∈ (d.replayed n k).out := List.mem_append_right _ (List.mem_singleton_self _)
  have hlink : (d.replayed n k).link n = { d.link n with replays := k } := Dev.link_onLink (d := (d.bump _).emit _) hn _
  by_cases hlimit : limit ≤ k
  · have hw' : cellsWf (d.replayed n k).regs = true := Dev.bump_wf hw ..
    have hn' : n < (d.replayed n k).itm.length := by simpa [Dev.replayed] using hn
    have hne := itmReg_ne (a := Reg.itmReplay) (b := Reg.itmRetrain) (by decide) n
    rw [if_pos hlimit, if_pos hlimit, Dev.enterRetrain_rd hw' n hne, Dev.enterRetrain_out, Dev.enterRetrain_link hn']
    exact ⟨hcount, hsent, rfl, fun h => absurd hlimit (Nat.not_le.mpr h)⟩
  · rw [if_neg hlimit, if_neg hlimit, hlink]
    exact ⟨hcount, hsent, hup, fun _ => rfl⟩

/-- REPLAY_NAK and REPLAY_TIMEOUT have one meaning. -/
theorem exec_replay {c : Instr} {n : Fin 5} {same : Bool} (hc : c = .replayNak n same ∨ c = .replayTimeout n same) (s : State) :
    exec c s = s.act fun d => d.replayFrom n.val same := by
  rcases hc with rfl | rfl
  all_goals
    unfold exec
    rfl

/-! ### RETRAIN and DOWN -/

section
variable {s : State} {n : Fin 5} (hlen : s.dev.itm.length = 5)
include hlen

theorem after_retrainReq (hup : (s.dev.link n.val).state = .up) : After (.retrainReq n) s fun d =>
    (d.link n.val).state = .retrain ∧ (d.link n.val).epoch = (s.dev.link n.val).epoch ∧ (d.link n.val).trained = false := by
  refine after_act _ (by unfold exec; rfl) ?_
  have hlink : s.clear.linkUp n.val = true := beq_iff_eq.mpr hup
  rw [if_pos hlink, settle_link_state, settle_link_epoch, settle_link_trained, Dev.enterRetrain_link (State.link_lt hlen n)]
  exact ⟨rfl, rfl, rfl⟩

/-- Requests toward a peer that has become STANDBY end, which leaves the link but for its waiting messages (R184). -/
theorem after_role (hup : (s.dev.link n.val).state = .up) (twin : Fin 3) :
    After (.role n twin) s fun d => (d.link n.val).peerTwin = twin.val ∧ (d.link n.val).state = .up := by
  refine after_act _ (by unfold exec; rfl) ?_
  have hlink : ¬(!s.clear.linkUp n.val) = true := by simp [Dev.linkUp, hup]
  dsimp only
  rw [if_neg hlink, settle_link_peerTwin, settle_link_state]
  generalize hd : s.clear.onLink n.val _ = d
  have hrole : d.link n.val = { s.dev.link n.val with peerTwin := twin.val } := hd ▸ Dev.link_onLink (State.link_lt hlen n) _
  have hkeep := fabricClosed_links d.links
  have hlinks : ∀ p : Prop, [Decidable p] → (if p then (d.endPeerReqs n.val true).retryHeld else d).links = d.links := fun p _ =>
    SettleClosed.ite (P := fun e => e.links = d.links) (hkeep.retryHeld _ (hkeep.endPeerReqs (fun _ _ h => h) d true rfl)) rfl
  rw [Dev.link_of_links Link.peerTwin (fun _ => rfl) (hlinks _), Dev.link_of_links Link.state (fun _ => rfl) (hlinks _), hrole]
  exact ⟨rfl, hup⟩

theorem after_retrainTimeout (hst : (s.dev.link n.val).state = .retrain) : After (.retrainTimeout n) s fun d =>
    (d.link n.val).state = .down ∧ (d.link n.val).epoch = ((s.dev.link n.val).epoch + 1) % 65536 ∧ (d.link n.val).trained = false := by
  refine after_act _ (by unfold exec; rfl) ?_
  have hst' : (s.clear.link n.val).state = .retrain := hst
  have hn := State.link_lt hlen n
  rw [if_pos hst', settle_link_state, settle_link_epoch, settle_link_trained, Dev.linkDown_link Link.state (fun _ => rfl) hn,
    Dev.linkDown_link Link.epoch (fun _ => rfl) hn, Dev.linkDown_link Link.trained (fun _ => rfl) hn]
  exact ⟨rfl, rfl, rfl⟩

end

theorem does_retrainTimeout_other {s : State} {n : Fin 5} (hst : (s.dev.link n.val).state ≠ .retrain) :
    Does (.retrainTimeout n) s fun d => d = s.clear :=
  does_act _ (by unfold exec; rfl) (if_neg hst)

theorem linkReplay : Claims.LinkReplay := by
  unfold Claims.LinkReplay
  intro s n same twin hInv hlen
  refine ⟨does_flitCrcFail hInv.regs hlen, fun hup => ⟨fun c hc => does_act _ (exec_replay hc s) ?_, after_retrainReq hlen hup,
    after_role hlen hup twin⟩, after_retrainTimeout hlen, does_retrainTimeout_other⟩
  obtain ⟨hcount, hsent, hstate, hreplays⟩ := Dev.replayFrom_view (d := s.clear) hInv.regs (State.link_lt hlen n) hup same
  exact ⟨hcount, hsent, hstate, hreplays, Dev.replayFrom_mem ..⟩

/-! ### Lanes -/

/-- The spare takes over the retired lane (R174). -/
theorem LaneDir.retire_spare {l : LaneDir} (hsingle : l.single = none) (hspare : l.spareOk = true) (k : Nat) (single : Bool) :
    l.retire k true single = some { l with
      lane0 := if k = 0 then 3 - l.lane0 - l.lane1 else l.lane0, lane1 := if k = 0 then l.lane1 else 3 - l.lane0 - l.lane1, spareOk := false,
      mapEpoch := (l.mapEpoch + 1) % 256 } := by
  simp [LaneDir.retire, hsingle, hspare]

/-- A note that is sent changes no register but DEP_NOTE_OVF. -/
theorem Dev.sendNote_rd {d : Dev} (hw : cellsWf d.regs = true) (ntype bit map : Nat) {off : Nat} (hoff : off ≠ Reg.depNoteOvf) :
    (d.sendNote ntype bit map).rd off = d.rd off := by
  unfold Dev.sendNote Dev.placeNote
  extract_lets note root
  split
  · split
    · exact (Dev.rd_bump hw ..).trans (if_neg hoff)
    · rfl
  · split <;> rfl

/-- The record of a swap changes registers of the fault manager only (R455). -/
theorem Dev.recordSpare_rd {d : Dev} (hw : cellsWf d.regs = true) (kind cause unit spare : Nat) {off : Nat} (hoff : off < Reg.depSpareCount) :
    (d.recordSpare kind cause unit spare).rd off = d.rd off := by
  simp only [Reg.depSpareCount] at hoff
  unfold Dev.recordSpare
  extract_lets e d1
  have h1 : cellsWf d1.regs = true ∧ d1.rd off = d.rd off := by
    unfold d1
    split
    · have hlo := Dev.wr_wf hw (Reg.depSpareMap + 8 * d.dep.mapUsed) (BitVec.ofNat 32 e)
      refine ⟨Dev.wr_wf hlo .., (Dev.rd_wr_ne hlo _ ?_).trans (Dev.rd_wr_ne hw _ ?_)⟩ <;> simp only [Reg.depSpareMap] <;> omega
    · exact ⟨hw, rfl⟩
  have hnote : off ≠ Reg.depNoteOvf := by simp only [Reg.depNoteOvf]; omega
  have hcount : off ≠ Reg.depSpareCount := by simp only [Reg.depSpareCount]; omega
  rw [Dev.sendNote_rd (Dev.bump_wf h1.1 ..) _ _ _ hnote, Dev.rd_bump h1.1, if_neg hcount, h1.2]

/-- A lane swap is counted (R174). -/
theorem Dev.laneSwapped_rd {d : Dev} (hw : cellsWf d.regs = true) (n : Fin 5) (phys : Nat) :
    (d.laneSwapped n.val phys).rd (itmReg Reg.itmLaneSwap n.val) = d.rd (itmReg Reg.itmLaneSwap n.val) + 1 := by
  have hlow : itmReg Reg.itmLaneSwap n.val < Reg.depSpareCount := by
    simp only [itmReg, Reg.itmLaneSwap, Reg.depSpareCount]
    omega
  rw [Dev.laneSwapped, Dev.recordSpare_rd (Dev.bump_wf hw ..) _ _ _ _ hlow]
  exact (Dev.rd_bump hw ..).trans (if_pos rfl)

/-- Of a link it changes at most the messages that wait. -/
theorem Dev.laneSwapped_link {α : Type} (g : Link → α) (hg : ∀ l : Link, g { l with msgs := [] } = g l) (d : Dev) (n phys m : Nat) :
    g ((d.laneSwapped n phys).link m) = g (d.link m) :=
  Dev.quiet_link_keeps g hg ((settleClosed_quiet d.quiet).recordSpare (d.bump _) _ _ _ _ rfl) m

section
variable {s : State} {n : Fin 5} (hlen : s.dev.itm.length = 5)
include hlen

theorem after_laneFailure_spare {phys : Fin 3} (hup : (s.dev.link n.val).state = .up)
    (hmask : (s.dev.link n.val).rx.mask.testBit phys.val = false) : After (.laneFailure n phys) s fun d =>
      (d.link n.val).rx.spareOk = false ∧ (d.link n.val).state = .up ∧ (d.link n.val).rx.lane0 = (s.dev.link n.val).rx.lane0 := by
  refine after_act _ (by unfold exec; rfl) ?_
  have hup' : ¬(s.clear.link n.val).state ≠ .up := not_not.mpr hup
  have hmask' : (!(s.clear.link n.val).rx.mask.testBit phys.val) = true := by simp [hmask]
  dsimp only
  rw [if_neg hup', if_pos hmask', settle_link_rx, settle_link_state, Dev.link_onLink (State.link_lt hlen n)]
  exact ⟨rfl, hup, rfl⟩

theorem after_laneFailure_active {phys : Fin 3} (hup : (s.dev.link n.val).state = .up)
    (hmask : (s.dev.link n.val).rx.mask.testBit phys.val = true) (hsingle : (s.dev.link n.val).rx.single = none)
    (hspare : (s.dev.link n.val).rx.spareOk = true) (hen : s.dev.flag (itmReg Reg.itmLinkCtl n.val) 8 = true) :
    After (.laneFailure n phys) s fun d =>
      let j := if (s.dev.link n.val).rx.lane0 = phys.val then 0 else 1
      .linkFlit n.val 2 j ∈ d.out ∧ (d.link n.val).swapLane = some j ∧ (d.link n.val).swapTries = 1 := by
  refine after_act _ (by unfold exec; rfl) ?_
  have hup' : ¬(s.clear.link n.val).state ≠ .up := not_not.mpr hup
  have hmask' : ¬(!(s.clear.link n.val).rx.mask.testBit phys.val) = true := by simp [hmask]
  have hswaps : (s.clear.link n.val).rx.single.isNone = true ∧ (((s.clear.link n.val).rx.spareOk = true ∧
      s.clear.flag (itmReg Reg.itmLinkCtl n.val) 8 = true) ∨ s.clear.flag (itmReg Reg.itmLinkCtl n.val) 9 = true) :=
    ⟨by simp [hsingle], .inl ⟨hspare, hen⟩⟩
  dsimp only
  rw [if_neg hup', if_neg hmask', if_pos hswaps, settle_link_swapLane, settle_link_swapTries, Dev.emit_link,
    Dev.link_onLink (State.link_lt hlen n)]
  exact ⟨settle_out _ _ _ (List.mem_append_right _ (List.mem_singleton_self _)), rfl, rfl⟩

theorem does_laneSwap {k : Fin 2} (hw : cellsWf s.dev.regs = true) (hup : (s.dev.link n.val).state = .up)
    (hsingle : (s.dev.link n.val).tx.single = none) (hspare : (s.dev.link n.val).tx.spareOk = true) : Does (.laneSwap n k) s fun d =>
      (if k = 0 then (d.link n.val).tx.lane0 else (d.link n.val).tx.lane1) =
        3 - (s.dev.link n.val).tx.lane0 - (s.dev.link n.val).tx.lane1 ∧
      (if k = 0 then (d.link n.val).tx.lane1 = (s.dev.link n.val).tx.lane1 else (d.link n.val).tx.lane0 = (s.dev.link n.val).tx.lane0) ∧
      (d.link n.val).tx.spareOk = false ∧
      d.rd (itmReg Reg.itmLaneSwap n.val) = s.dev.rd (itmReg Reg.itmLaneSwap n.val) + 1 := by
  refine does_act _ (by unfold exec; rfl) ?_
  have hup' : ¬(s.clear.link n.val).state ≠ .up := not_not.mpr hup
  dsimp only
  rw [if_neg hup', State.clear_link, LaneDir.retire_spare hsingle hspare]
  dsimp only
  rw [Dev.laneSwapped_rd (d := s.clear.onLink _ _) hw, Dev.laneSwapped_link Link.tx fun _ => rfl, Dev.link_onLink (State.link_lt hlen n)]
  fin_cases k <;> exact ⟨rfl, rfl, rfl, rfl⟩

section
variable {j : Nat} (hswap : (s.dev.link n.val).swapLane = some j)
include hswap

theorem after_laneSwapResend (htries : (s.dev.link n.val).swapTries < 4) : After (.laneSwapResend n false) s fun d =>
    .linkFlit n.val 2 j ∈ d.out ∧ (d.link n.val).swapTries = (s.dev.link n.val).swapTries + 1 ∧
      (d.link n.val).state = (s.dev.link n.val).state := by
  refine after_act _ (by unfold exec; rfl) ?_
  have hswap' : (s.clear.link n.val).swapLane = some j := hswap
  have htries' : (s.clear.link n.val).swapTries < 4 := htries
  simp only [hswap', Bool.false_eq_true, if_false]
  rw [if_pos htries', settle_link_swapTries, settle_link_state, Dev.emit_link, Dev.link_onLink (State.link_lt hlen n)]
  exact ⟨settle_out _ _ _ (List.mem_append_right _ (List.mem_singleton_self _)), rfl, rfl⟩

theorem after_laneSwapResend_last (htries : 4 ≤ (s.dev.link n.val).swapTries) :
    After (.laneSwapResend n false) s fun d => (d.link n.val).state = .retrain := by
  refine after_act _ (by unfold exec; rfl) ?_
  have hswap' : (s.clear.link n.val).swapLane = some j := hswap
  have htries' : ¬(s.clear.link n.val).swapTries < 4 := Nat.not_lt.mpr htries
  simp only [hswap', Bool.false_eq_true, if_false]
  rw [if_neg htries', settle_link_state, Dev.enterRetrain_link (State.link_lt hlen n)]
  rfl

end

end

theorem laneRepair : Claims.LaneRepair := by
  unfold Claims.LaneRepair
  intro s n phys k hInv hlen
  exact ⟨after_laneFailure_spare hlen, after_laneFailure_active hlen, does_laneSwap hlen hInv.regs,
    fun j hswap => ⟨after_laneSwapResend hlen hswap, after_laneSwapResend_last hlen hswap⟩⟩

/-- Settles O35: its two parts, a command at a time. -/
theorem linkRepair : Obligations.LinkRepair := by
  unfold Obligations.LinkRepair
  exact ⟨linkReplay, laneRepair⟩

end Sys2Proof.Machine
end

section
/-!
O37: the clause on a completion with an error fails. A non-posted write with gaps crosses a link as one transfer for each run of bytes (R206), and
only the completion of the last run ends it (`Dev.peerComplete`): after the first of two, an error among them or not, it waits for the other.
-/
namespace Sys2Proof.Machine

/-! ### What follows a command ends no request -/

/-- Every request in flight has the number and the state of one of another device's. -/
def Dev.ReqsOf (d e : Dev) : Prop := ∀ q ∈ e.fab.reqs, ∃ r ∈ d.fab.reqs, r.seq = q.seq ∧ r.st = q.st

namespace Dev.ReqsOf

variable {d e g : Dev}

theorem refl (d : Dev) : d.ReqsOf d := fun q hq => ⟨q, hq, rfl, rfl⟩

/-- Requests that go and requests that are marked. -/
theorem filter_map (h : d.ReqsOf e) (p : Req → Bool) (f : Req → Req) (hseq : ∀ r, (f r).seq = r.seq) (hst : ∀ r, (f r).st = r.st)
    (hg : g.fab.reqs = (e.fab.reqs.filter p).map f) : d.ReqsOf g := by
  intro q hq
  rw [hg, List.mem_map] at hq
  obtain ⟨r, hr, rfl⟩ := hq
  rw [hseq, hst]
  exact h r (List.mem_of_mem_filter hr)

theorem of_fab (h : d.ReqsOf e) (hg : g.fab = e.fab) : d.ReqsOf g := by
  unfold Dev.ReqsOf
  rwa [hg]

theorem loseRsv (h : d.ReqsOf e) (p : Rsv → Bool) : d.ReqsOf (e.loseRsv p) := by
  unfold Dev.loseRsv
  refine SettleClosed.foldl _ ?_ _ _ h
  exact fun _ _ he => he

theorem arcRestart (h : d.ReqsOf e) : d.ReqsOf e.arcRestart := by
  have hheld : d.ReqsOf e.arcHeld :=
    (h.filter_map _ _ (fun r => by split <;> rfl) (fun r => by split <;> rfl) rfl).loseRsv _
  unfold Dev.arcRestart
  extract_lets e1 recent e2 e3
  exact SettleClosed.ite (hheld.of_fab rfl) (hheld.of_fab rfl)

theorem contain (h : d.ReqsOf e) (b : Nat) : d.ReqsOf (e.contain b) := by
  unfold Dev.contain
  split
  · exact h.of_fab e.restoreShadows_fab
  · exact h.arcRestart
  · exact h.of_fab (foldl_fab _ _ _ fun _ _ => by simp)
  · exact h

theorem leaveActive (h : d.ReqsOf e) (t : TwinState) : d.ReqsOf (e.leaveActive t) := by
  unfold Dev.leaveActive
  extract_lets cells tt e1 e2
  have h2 : d.ReqsOf e2 := h.of_fab (by simp [e2, e1])
  exact SettleClosed.ite h2 fun q hq => h2 q (List.mem_of_mem_filter hq)

theorem faultRise (h : d.ReqsOf e) (b : Nat) : d.ReqsOf (e.faultRise b) := by
  unfold Dev.faultRise
  extract_lets set act code rises e1
  have h1 : d.ReqsOf e1 := h.of_fab (by simp [e1])
  clear_value code
  split
  · exact h1.contain b
  · exact (h1.leaveActive .failed).of_fab rfl
  · exact h1.of_fab (e1.enterSafe_fab b)
  · exact h1

theorem faultSettle (h : d.ReqsOf e) (o : Dev) : d.ReqsOf (faultSettle o e) :=
  SettleClosed.foldl _ (fun _ b he => he.faultRise b) _ _ (SettleClosed.foldl _ (fun _ b he => he.faultRise b) _ _ h)

theorem gzbSettle (h : d.ReqsOf e) : d.ReqsOf (gzbSettle e) := by
  unfold Machine.gzbSettle
  extract_lets new e1 e2
  have h1 : d.ReqsOf e1 := h.of_fab (foldl_fab _ _ _ fun e f => e.gzbFailed_fab f)
  have h2 : d.ReqsOf e2 := h1
  exact h2.of_fab (foldl_fab _ _ _ fun e c => by simp)

theorem updReq (h : d.ReqsOf e) (k : Nat) (f : Req → Req) (hseq : ∀ r, (f r).seq = r.seq) (hst : ∀ r, (f r).st = r.st) :
    d.ReqsOf (e.updReq k f) :=
  h.filter_map (fun _ => true) (fun r => if r.seq = k then f r else r) (fun r => by split <;> simp [hseq]) (fun r => by split <;> simp [hst])
    (by simp [Dev.updReq])

theorem sendStarted (h : d.ReqsOf e) : d.ReqsOf e.sendStarted :=
  SettleClosed.foldl _ (fun f r hf => (hf.of_fab (foldl_sendRec_fab 4 _ r.mirIdx f)).updReq _ _ (fun _ => rfl) fun _ => rfl) _ _ h

theorem mirrorSettle (h : d.ReqsOf e) (o : Dev) : d.ReqsOf (mirrorSettle o e) := by
  unfold Machine.mirrorSettle
  extract_lets fresh e1 gone
  have h1 : d.ReqsOf e1 := (h.of_fab (foldl_fab _ _ _ fun e r => e.sendMirror_fab r)).sendStarted
  exact SettleClosed.ite h (h1.of_fab (foldl_fab _ _ _ fun e r => foldl_sendRec_fab 5 _ r.mirIdx e))

end Dev.ReqsOf

theorem settle_reqsOf (o d : Dev) : d.ReqsOf (settle o d) :=
  ((((Dev.ReqsOf.refl d).gzbSettle.faultSettle o).of_fab (twinSettle_fab _)).mirrorSettle o).of_fab (intSettle_fab _ _)

/-! ### A write of two runs -/

/-- A non-posted write of ARC0, numbered 5, of the first and the third byte at an address of device 5. Its two runs have been sent over link 0. -/
def gapWrite5 : Req :=
  { seq := 5, agent := 58, ident := 58, orig := 0, ing := .arcade, op := .write, posted := false, ga := 5 * 2 ^ 38 + 0x1_0000_0000, len := 3,
    data := [some 1, none, some 3], ts := 0, tgt := .link 0 5, tag := 7, st := .started, sentLen := 2 }

/-- The reset device with link 0 UP and that write on it. -/
def gapWriteSent : State :=
  { State.reset with dev := { Dev.reset with
      itm := { state := .up } :: List.replicate 4 {}
      fab := { reqs := [gapWrite5], nextSeq := 6 } } }

/-- The completion of a run, with STATUS DECODE. -/
def failedRun : Transfer := { op := 0x41, tag := 7, orig := 5, status := 1, tc := 3 }

theorem gapWriteSent_inv : Inv gapWriteSent := Dev.reset_sound.of rfl rfl rfl rfl rfl rfl

/-- `gapWrite5` is as `Dev.sendPeer` leaves it. -/
theorem gapWrite5_runs : (gapWrite5.transfers 5).length = gapWrite5.sentLen := by decide +kernel

/-- The numbers and states of the requests a command leaves. -/
def statesAfter : Host.Outcome State Fault Refusal → List (Nat × ReqState)
  | .next t => t.dev.fab.reqs.map fun r => (r.seq, r.st)
  | _ => []

theorem statesAfter_itmCompletion_gapWriteSent : statesAfter (exec (.itmCompletion 0 failedRun) gapWriteSent) = [(5, .started)] := by
  decide +kernel

/-- A request that a command's own effect has ended has ended, or is gone, after the command. -/
theorem Does.ended_of_mem_statesAfter {c : Instr} {s : State} {n : Nat} {st : ReqState}
    (h : Does c s fun d => d.eachReq n fun q => q.st = .ended) (hmem : (n, st) ∈ statesAfter (exec c s)) : st = .ended := by
  obtain ⟨d, hexec, hended⟩ := h
  have hof := settle_reqsOf s.dev d
  generalize settle s.dev d = e at hexec hof
  rw [hexec] at hmem
  obtain ⟨q, hq, hqn⟩ := List.mem_map.mp hmem
  obtain ⟨r, hr, hseq, hst⟩ := hof q hq
  rw [Prod.mk.injEq] at hqn
  obtain ⟨rfl, rfl⟩ := hqn
  rw [← hst]
  exact hended r hr hseq

/-- Refutes O37: in `gapWriteSent`, which meets `Inv`, the failed completion of the first run matches `gapWrite5` and leaves it started. -/
theorem not_peerAnswers : ¬ Obligations.PeerAnswers := by
  unfold Obligations.PeerAnswers Claims.PeerCompletions
  rintro ⟨-, h⟩
  obtain ⟨hmatched, -⟩ := h gapWriteSent 0 failedRun 0 0 gapWriteSent_inv rfl
  obtain ⟨-, hends⟩ := hmatched rfl (by decide)
  obtain ⟨-, hfailed⟩ := hends gapWrite5 (by decide +kernel) (by decide)
  obtain ⟨d, hexec, hended⟩ := hfailed .decode rfl
  have hdoes : Does (.itmCompletion 0 failedRun) gapWriteSent fun d => d.eachReq 5 fun q => q.st = .ended :=
    ⟨d, hexec, fun q hq hseq => (hended q hq hseq).1⟩
  have hmem : (5, .started) ∈ statesAfter (exec (.itmCompletion 0 failedRun) gapWriteSent) := by
    rw [statesAfter_itmCompletion_gapWriteSent]
    exact List.mem_singleton_self _
  exact absurd (hdoes.ended_of_mem_statesAfter hmem) (by decide)

end Sys2Proof.Machine
end

section
/-!
O23: the claims of semaphore slots by host software (R235).
-/
namespace Sys2Proof.Machine

/-! ### The CLAIM bits -/

/-- A bit that has been cleared. -/
theorem Dev.flag_setFld_zero {d : Dev} (hw : cellsWf d.regs = true) (off : Nat) {i : Nat} (hi : i < 32) :
    (d.setFld off i 1 0).flag off i = false := by
  rw [Dev.flag, Dev.fld_setFld_same hw (n := 1) hi]
  rfl

/-- Setting a CLAIM bit as a host leaves everything but that register. -/
theorem Dev.semClaim_set {who : Nat} (h : who < 32) (d : Dev) (i : Nat) : d.semClaim who i true = d.setFld Reg.winHostSemClaim i 1 1 := by
  rw [Dev.semClaim, if_neg (by omega)]
  rfl

/-- Clearing a CLAIM bit as a host ends the claim's grant, and what waited for the slot is tried again (R233). -/
theorem Dev.semClaim_cleared {who : Nat} (h : who < 32) (d : Dev) (i : Nat) : d.semClaim who i false =
    ((d.setFld Reg.winHostSemClaim i 1 0).onFab fun b => { b with semGranted := b.semGranted &&& ~~~(1#16 <<< i) }).retryHeld := by
  rw [Dev.semClaim, if_neg (by omega)]
  rfl

/-- A write by a requester that is no host is logged as PERM, and leaves the CLAIM bits. -/
theorem Dev.semClaim_refused {d : Dev} (hw : cellsWf d.regs = true) {who : Nat} (h : 32 ≤ who) (i : Nat) (on : Bool) :
    (d.semClaim who i on).rd Reg.winHostSemClaim = d.rd Reg.winHostSemClaim ∧ (d.semClaim who i on).oneMore d .perm := by
  rw [Dev.semClaim, if_pos h]
  refine ⟨?_, Dev.log_oneMore hw _ _ _ _⟩
  rw [Dev.log_rd hw _ _ _ _ _ (by decide) (by decide), if_neg (by decide)]

theorem winHostSemClaim_not_fabricCounter : ¬FabricCounter Reg.winHostSemClaim := by
  rintro (h | ⟨t, h⟩ | ⟨f, n, h⟩)
  · revert h
    decide
  · simp only [Reg.winHostSemClaim, Reg.intTypeCount] at h
    omega
  · simp only [Reg.winHostSemClaim] at h
    cases f <;> simp only [winBase, Reg.winIwCtl, Reg.winOwCtl, Reg.winLwCtl, Reg.winLzCtl] at h <;> omega

/-- A cleared bit of the slots granted reads 0. -/
theorem getLsbD_and_not_shiftLeft_one (v : BitVec 16) (i : Fin 16) : (v &&& ~~~(1#16 <<< i.val)).getLsbD i.val = false := by
  have hbit : (1#16 <<< i.val).getLsbD i.val = true := by simp [i.isLt]
  rw [BitVec.getLsbD_and, BitVec.getLsbD_not, hbit, Bool.not_true, Bool.and_false, Bool.and_false]

/-- Requests that go on after a release take back neither the CLAIM bit nor the grant. -/
theorem Dev.semClaim_released {d : Dev} (hw : cellsWf d.regs = true) {who : Nat} (h : who < 32) (i : Fin 16) :
    (d.semClaim who i.val false).flag Reg.winHostSemClaim i.val = false ∧ (d.semClaim who i.val false).fab.semGranted.getLsbD i.val = false := by
  rw [Dev.semClaim_cleared h]
  generalize hrel : (d.setFld Reg.winHostSemClaim i.val 1 0).onFab _ = e
  have hflag : e.flag Reg.winHostSemClaim i.val = false := hrel ▸ Dev.flag_setFld_zero hw _ (by omega)
  have hgrant : e.fab.semGranted.getLsbD i.val = false := hrel ▸ getLsbD_and_not_shiftLeft_one _ i
  have hwf : cellsWf e.regs = true := hrel ▸ Dev.setFld_wf hw ..
  have hkeep := fabricClosed_keeps winHostSemClaim_not_fabricCounter (e.rd Reg.winHostSemClaim) e.fab
  obtain ⟨-, hrd, hfab⟩ := hkeep.retryHeld e ⟨hwf, rfl, .refl _⟩
  rw [Dev.flag, Dev.fld, hrd, hfab.semGranted]
  exact ⟨hflag, hgrant⟩

/-! ### The commands -/

theorem exec_hostSemClaim (who : Requester) (i : Fin 16) (s : State) :
    exec (.hostSemClaim who i) s = s.act fun d => d.semClaim who.val i.val true := by
  unfold exec
  rfl

theorem exec_hostSemRelease (who : Requester) (i : Fin 16) (s : State) :
    exec (.hostSemRelease who i) s = s.act fun d => d.semClaim who.val i.val false := by
  unfold exec
  rfl

theorem exec_hostSemGrant (i : Fin 16) (s : State) : exec (.hostSemGrant i) s = s.act fun d =>
    if d.semGrantable i.val then d.onFab fun b => { b with semGranted := b.semGranted ||| (1#16 <<< i.val) } else d := by
  unfold exec
  rfl

/-- Whether a claim may be granted does not depend on the outputs. -/
@[simp] theorem State.clear_semGrantable (s : State) (i : Nat) : s.clear.semGrantable i = s.dev.semGrantable i := rfl

section
variable {s : State} {who : Requester} (i : Fin 16)

theorem does_hostSemClaim (hw : cellsWf s.dev.regs = true) (h : who.val < 32) :
    Does (.hostSemClaim who i) s fun d => d.flag Reg.winHostSemClaim i.val = true ∧
      (∀ x, x ≠ Reg.winHostSemClaim → d.rd x = s.dev.rd x) ∧ d.fab = s.dev.fab ∧ d.mem = s.dev.mem := by
  refine does_act _ (exec_hostSemClaim ..) ?_
  rw [Dev.semClaim_set h]
  exact ⟨Dev.flag_setFld_one (d := s.clear) hw _ (by omega), fun x hx => Dev.rd_wr_ne (d := s.clear) hw _ hx, rfl, rfl⟩

theorem does_hostSemRelease (hw : cellsWf s.dev.regs = true) (h : who.val < 32) :
    Does (.hostSemRelease who i) s fun d => d.flag Reg.winHostSemClaim i.val = false ∧ d.fab.semGranted.getLsbD i.val = false :=
  does_act _ (exec_hostSemRelease ..) (Dev.semClaim_released (d := s.clear) hw h i)

theorem does_hostSemGrant (h : s.dev.semGrantable i.val = true) :
    Does (.hostSemGrant i) s fun d => d.fab.semGranted = s.dev.fab.semGranted ||| (1#16 <<< i.val) ∧ d.sameStores s.dev := by
  refine does_act _ (exec_hostSemGrant i s) ?_
  rw [State.clear_semGrantable, if_pos h]
  exact ⟨rfl, rfl, rfl⟩

theorem does_hostSemGrant_held (h : s.dev.semGrantable i.val = false) : Does (.hostSemGrant i) s fun d => d = s.clear := by
  refine does_act _ (exec_hostSemGrant i s) ?_
  rw [State.clear_semGrantable, h, if_neg Bool.false_ne_true]

end

/-- Settles O23: a host's write sets the bit, or clears it and the grant, another requester's is refused, and a grant needs a claim that nothing
holds up. -/
theorem hostSemaphores : Obligations.HostSemaphores := by
  unfold Obligations.HostSemaphores
  refine fun s who i hInv => ⟨fun h => ⟨does_hostSemClaim i hInv.regs h, does_hostSemRelease i hInv.regs h⟩, fun h => ?_,
    does_hostSemGrant i, does_hostSemGrant_held i⟩
  have hrefused := Dev.semClaim_refused (d := s.clear) hInv.regs h i.val
  exact ⟨does_act _ (exec_hostSemClaim ..) (hrefused true), does_act _ (exec_hostSemRelease ..) (hrefused false)⟩

end Sys2Proof.Machine
end

section
/-!
O1: what a step is (log 60): the command at the front of the queue, or with none waiting one TIME edge.
-/
namespace Sys2Proof.Machine

@[simp] theorem Dev.checkSources_mem (d : Dev) : d.checkSources.mem = d.mem := by simp [Dev.checkSources]

@[simp] theorem Dev.aonEdge_mem (d : Dev) : d.aonEdge.mem = d.mem := by
  unfold Dev.aonEdge
  dsimp only
  split <;> simp

/-- A TIME edge, which changes the time, the sources and the Wicket's clock, leaves the memory (R239, R244, R413). -/
@[simp] theorem Dev.timeEdge_mem (d : Dev) : d.timeEdge.mem = d.mem := by simp [Dev.timeEdge, Dev.advance]

theorem step_of_pending {s : State} {c : Instr} {rest : List Instr} (h : s.pending = c :: rest) :
    step s = exec c { s with pending := rest } := by simp only [step, h]

theorem step_of_idle {s : State} (h : s.pending = []) : step s = s.act Dev.timeEdge := by
  simp only [step, h]
  rfl

/-- Settles O1: the two branches of `step`; a TIME edge leaves the memory, and so does what follows it. -/
theorem stepTakesTheFront : Obligations.StepTakesTheFront := by
  unfold Obligations.StepTakesTheFront
  refine fun s c rest => ⟨step_of_pending, fun h => ⟨_, step_of_idle h, h, ?_⟩⟩
  rw [settle_mem, Dev.timeEdge_mem]

end Sys2Proof.Machine
end

section
/-!
O41: pops of the FIFOs (R276, R285, R380, R404, R416, R463).
-/
namespace Sys2Proof.Machine

/-- A pop whose SEQ is that of the oldest entry removes it (R285). -/
theorem Dev.elPop_named {d : Dev} {e : LogEntry} {t : List LogEntry} {n : Nat} (h : d.elog.entries = e :: t) (hseq : e.seq = n) :
    d.elPop n = { d with elog := { d.elog with entries := t } } := by
  simp only [Dev.elPop, h, if_pos hseq]

/-- A pop that does not name the oldest entry, or finds none, is only counted (R285). -/
theorem Dev.elPop_miss {d : Dev} {n : Nat} (h : ∀ e, d.elog.entries.head? = some e → e.seq ≠ n) : d.elPop n = d.bump Reg.intElPopMiss := by
  unfold Dev.elPop
  split
  next e t he => exact if_neg (h e (by rw [he]; rfl))
  next => rfl

theorem exec_elPop (q : BitVec 16) (s : State) : exec (.elPop q) s = s.act fun d => d.elPop q.toNat := by unfold exec; rfl

theorem after_elPop_named {s : State} {q : BitVec 16} {e : LogEntry} {t : List LogEntry} (h : s.dev.elog.entries = e :: t)
    (hseq : e.seq = q.toNat) : After (.elPop q) s fun d => d.elog.entries = t ∧ d.mem = s.dev.mem := by
  refine after_act _ (exec_elPop q s) ?_
  rw [Dev.elPop_named (d := s.clear) h hseq, settle_elog, settle_mem]
  exact ⟨rfl, rfl⟩

theorem does_elPop_miss {s : State} {q : BitVec 16} (hw : cellsWf s.dev.regs = true)
    (h : ∀ e, s.dev.elog.entries.head? = some e → e.seq ≠ q.toNat) :
    Does (.elPop q) s fun d => d.counts s.dev Reg.intElPopMiss ∧ d.elog = s.dev.elog := by
  refine does_act _ (exec_elPop q s) ?_
  rw [Dev.elPop_miss (d := s.clear) h]
  exact ⟨Dev.bump_counts hw _, rfl⟩

/-- Settles O41: seven pops drop the head of their list; the error log's does where it names it. -/
theorem fifoPops : Obligations.FifoPops := by
  unfold Obligations.FifoPops
  exact fun s q hInv => ⟨does_act _ (by unfold exec; rfl) rfl, does_act _ (by unfold exec; rfl) rfl, does_act _ (by unfold exec; rfl) rfl,
    does_act _ (by unfold exec; rfl) rfl, does_act _ (by unfold exec; rfl) rfl, does_act _ (by unfold exec; rfl) rfl,
    does_act _ (by unfold exec; rfl) rfl, fun _ _ => after_elPop_named, does_elPop_miss hInv.regs⟩

end Sys2Proof.Machine
end

section
/-!
O40: the clause on a due timed access fails. It leaves out what may hold the access at its ingress: while a semaphore slot is granted to a host for
the granule it touches, a timed access waits, like every request of a requester that is no host (R233).
-/
namespace Sys2Proof.Machine

/-- The timed write of slot 7, due at 5000, of 4 bytes at the first granule of the SRAM. -/
def semaphoredWrite : BlvEvent :=
  { slot := 7, img := 5000 + 2 * 2 ^ 104 + 2 * 2 ^ 109 + 100 * 2 ^ 112 + 0x1_0000_0000 * 2 ^ 144, n := 0, due := 5000, ref := 0 }

/-- The device with semaphore 0 granted to a host for that granule, at the instant the write is due. -/
def semaphoredDevice : Dev :=
  { Dev.reset.wr (Reg.winSemAddr + 4) 1 with
    fab := { semGranted := 1 }, blv := { vt := 5000, events := [semaphoredWrite] } }

/-- The dispatched events that a command leaves. -/
def eventsAfter : Host.Outcome State Fault Refusal → List BlvEvent
  | .next t => t.dev.blv.events
  | _ => []

theorem After.eventsAfter_eq {c : Instr} {s : State} {l : List BlvEvent} (h : After c s fun d => d.blv.events = l) :
    eventsAfter (exec c s) = l := by
  obtain ⟨t, hexec, -, hevents⟩ := h
  rw [hexec]
  exact hevents

/-- The state of that device with no command waiting. -/
def semaphoredState : State := { State.reset with dev := semaphoredDevice }

theorem semaphoredState_inv : Inv semaphoredState := (Dev.wr_sound _ (Reg.winSemAddr + 4) 1 Dev.reset_sound).of rfl rfl rfl rfl rfl rfl

/-- What holds the write is the semaphore slot alone: its unit could begin it now. -/
theorem semaphoredWrite_held : semaphoredDevice.timedUnit semaphoredWrite = true ∧ semaphoredDevice.timedHeld semaphoredWrite = true := by
  decide +kernel

theorem eventsAfter_timedWriteExecute_semaphoredState : eventsAfter (exec .timedWriteExecute semaphoredState) = [semaphoredWrite] := by
  decide +kernel

/-- Refutes O40: in `semaphoredState`, which meets `Inv`, the write that `semaphoredWrite` describes is due and in time and its unit is free, and it
stays unissued. -/
theorem not_timedActions : ¬ Obligations.TimedActions := by
  unfold Obligations.TimedActions Claims.TimedAccesses
  rintro ⟨-, h⟩
  obtain ⟨-, hdue, -⟩ := h semaphoredState semaphoredWrite semaphoredState_inv
  obtain ⟨haccess, -⟩ := hdue (by decide +kernel) rfl rfl (by decide +kernel) (by decide +kernel)
  obtain ⟨hissued, -⟩ := haccess .timedWriteExecute 2 (by simp) (by decide +kernel) semaphoredWrite_held.1
  have hevents := (hissued (by decide +kernel)).eventsAfter_eq
  rw [eventsAfter_timedWriteExecute_semaphoredState] at hevents
  exact absurd hevents (by decide +kernel)

end Sys2Proof.Machine
end

section
/-!
SUPPORT. The Belvedere: what the scheduler's skips, a step of VT, the lock counters, an update of the servo, a capture and a change of source leave,
said once for each (R243–R247, R259, R268).
-/
namespace Sys2Proof.Machine

/-! ### Skipped events -/

/-- The unit with its armed slots and its results set aside. -/
def Blv.skipAside (b : Blv) : Blv := { b with armed := [], res := [] }

/-- What skipping events leaves (R259): every register but the two counters of the skips, and all of the unit but its armed slots and its results. -/
structure Dev.Skipped (d e : Dev) : Prop where
  wf : cellsWf e.regs = true
  rd : ∀ off, off ∉ [Reg.blvSkipCount, Reg.blvResOvf] → e.rd off = d.rd off
  blv : e.blv.skipAside = d.blv.skipAside

namespace Dev.Skipped

variable {d e : Dev}

theorem refl (hw : cellsWf d.regs = true) : d.Skipped d := ⟨hw, fun _ _ => rfl, rfl⟩

theorem bump (h : d.Skipped e) {off : Nat} (n : Nat) (hoff : off ∈ [Reg.blvSkipCount, Reg.blvResOvf]) : d.Skipped (e.bump off n) :=
  ⟨Dev.bump_wf h.wf off n, fun x hx => (Dev.rd_wr_ne h.wf _ (ne_of_mem_of_not_mem hoff hx).symm).trans (h.rd x hx), h.blv⟩

theorem onBlv (h : d.Skipped e) (f : Blv → Blv) (hf : (f e.blv).skipAside = e.blv.skipAside := by rfl) :
    d.Skipped (e.onBlv f) := ⟨h.wf, h.rd, hf.trans h.blv⟩

theorem pushResult (h : d.Skipped e) (vt slot type err event data : Nat) (late : Int) (skips : Nat) :
    d.Skipped (e.pushResult vt slot type err event data late skips) := by
  unfold Dev.pushResult
  exact SettleClosed.ite (h.bump 1 (by simp)) (h.onBlv _)

theorem slotDone (h : d.Skipped e) (i : Nat) : d.Skipped (e.slotDone i) := by
  unfold Dev.slotDone
  split
  · exact SettleClosed.ite (h.onBlv _) h
  · exact h

theorem skipSlot (h : d.Skipped e) (i x : Nat) : d.Skipped (e.skipSlot i x) := by
  unfold Dev.skipSlot
  split
  · exact h
  · exact SettleClosed.ite h ((((h.bump _ (by simp)).pushResult ..).onBlv _).slotDone i)

theorem skipPassed (h : d.Skipped e) : d.Skipped e.skipPassed :=
  SettleClosed.foldl _ (fun f i hf => hf.skipSlot i f.blv.vt) _ e h

theorem keeps {α : Type} (h : d.Skipped e) (g : Blv → α) (hg : ∀ b : Blv, g b.skipAside = g b := by exact fun _ => rfl) :
    g e.blv = g d.blv := by
  rw [← hg, h.blv, hg]

end Dev.Skipped

/-! ### A step of VT -/

/-- VT after a step: a value, with no fraction, or the sum with a delta (R247). -/
def Blv.stepped (b : Blv) (delta : Int) (abs : Option Nat) : Blv :=
  match abs with
  | some x => { b with vt := x % 2 ^ 64, acc := 0 }
  | none => { b with vt := ((b.vt : Int) + delta).toNat % 2 ^ 64 }

/-- A step sets VT and is counted; beyond that it only skips events (R247, R248). -/
theorem Dev.stepVt_skipped {d : Dev} (hw : cellsWf d.regs = true) (delta : Int) (abs : Option Nat) :
    ((d.onBlv (·.stepped delta abs)).bump Reg.blvStepCount).Skipped (d.stepVt delta abs) := by
  have hrefl := Dev.Skipped.refl (Dev.bump_wf (d := d.onBlv (·.stepped delta abs)) hw Reg.blvStepCount 1)
  exact SettleClosed.ite hrefl.skipPassed hrefl

/-! ### Updates of the servo -/

/-- The unit with what the lock counters decide set aside (R244, R247). -/
def Blv.lockAside (b : Blv) : Blv :=
  { b with servo := .free, inLock := 0, outLock := 0, everLocked := false, firstUpd := false, alarm := false, holdExc := false }

/-- The lock counters and the state write no register (R244). -/
theorem Dev.lockUpdate_view (d : Dev) (off : Int) :
    (d.lockUpdate off).regs = d.regs ∧ (d.lockUpdate off).blv.lockAside = d.blv.lockAside := by
  unfold Dev.lockUpdate
  extract_lets lim mag inL outL d1
  have h1 : d1.regs = d.regs ∧ d1.blv.lockAside = d.blv.lockAside := ⟨rfl, rfl⟩
  split
  · exact SettleClosed.ite (P := fun e => e.regs = d.regs ∧ e.blv.lockAside = d.blv.lockAside) ⟨rfl, rfl⟩ h1
  · exact SettleClosed.ite (P := fun e => e.regs = d.regs ∧ e.blv.lockAside = d.blv.lockAside) ⟨rfl, rfl⟩ h1
  · exact h1

theorem Dev.lockUpdate_keeps {α : Type} (d : Dev) (off : Int) (g : Blv → α) (hg : ∀ b : Blv, g b.lockAside = g b := by exact fun _ => rfl) :
    g (d.lockUpdate off).blv = g d.blv := by
  rw [← hg, (d.lockUpdate_view off).2, hg]

/-- What an update of the servo has no part in: the distance and the identity of the source, and the captures. -/
def Blv.besideServo (b : Blv) : Nat × Nat × List (List Byte) := (b.steps, b.gm, b.caps)

/-- An update shows its offset (R275) and leaves what it has no part in. -/
theorem Dev.servoUpdate_view {d : Dev} (hw : cellsWf d.regs = true) (off : Int) :
    (d.servoUpdate off).rd Reg.blvOffset = BitVec.ofInt 32 (clampTo (2 ^ 31 - 1) (off / 4096)) ∧
      (d.servoUpdate off).blv.besideServo = d.blv.besideServo := by
  unfold Dev.servoUpdate
  extract_lets mag auto d1 d2 rate d3
  have hw1 : cellsWf d1.regs = true := Dev.wr_wf hw _ _
  have h1 : d1.rd Reg.blvOffset = BitVec.ofInt 32 (clampTo (2 ^ 31 - 1) (off / 4096)) := Dev.rd_wr_same hw _ _
  have h2 : cellsWf d2.regs = true ∧ d2.rd Reg.blvOffset = d1.rd Reg.blvOffset ∧ d2.blv.besideServo = d.blv.besideServo := by
    unfold d2
    split
    · have hstep := Dev.stepVt_skipped hw1 (off / 65536) none
      refine ⟨hstep.wf, (hstep.rd _ (by decide)).trans ((Dev.rd_bump hw1 ..).trans (if_neg (by decide))), ?_⟩
      exact hstep.keeps Blv.besideServo
    · exact ⟨hw1, rfl, rfl⟩
  obtain ⟨hw2, hrd2, hbeside2⟩ := h2
  have hrd3 : d3.rd Reg.blvOffset = d2.rd Reg.blvOffset := (Dev.rd_wr (d := d2.tick) hw2 ..).trans (if_neg (by decide))
  refine ⟨?_, (d3.lockUpdate_keeps off Blv.besideServo).trans hbeside2⟩
  rw [Dev.rd, (d3.lockUpdate_view off).1, ← Dev.rd, hrd3, hrd2, h1]

/-! ### Sources -/

theorem Blv.setOk_same (b : Blv) (x : BlvSource) (on : Bool) : (b.setOk x on).ok x = on := by cases x <;> rfl

/-- Another source comes into use, counted (R243). -/
def Dev.switched (d : Dev) (u : Option BlvSource) : Dev := (d.onBlv fun b => { b with use := u }).bump Reg.blvSrcSwitch

theorem Dev.switched_counts {d : Dev} (hw : cellsWf d.regs = true) (u : Option BlvSource) : (d.switched u).counts d Reg.blvSrcSwitch :=
  Dev.onlyReg_of_bump hw rfl rfl

/-- With a source the servo leaves FREE and HOLDOVER (R244). -/
theorem Dev.useSource_some {d : Dev} {x : BlvSource} (h : d.blv.use ≠ some x) : d.useSource (some x) =
    if d.blv.servo = .free ∨ d.blv.servo = .holdover then (d.switched (some x)).enterAcquire else d.switched (some x) := by
  rw [Dev.useSource, if_neg (Ne.symm h)]
  cases hs : d.blv.servo <;> simp [hs, Dev.switched]

/-- With none the servo holds over at the mean rate, and pending slew stops (R244). -/
theorem Dev.useSource_none {d : Dev} (h : d.blv.use ≠ none) : d.useSource none =
    if d.blv.servo = .acquire ∨ d.blv.servo = .locked
    then ((d.switched none).wr Reg.blvRate (BitVec.ofInt 32 (meanRate d.blv.rates))).onBlv fun b => { b with servo := .holdover, slew := 0 }
    else d.switched none := by
  rw [Dev.useSource, if_neg (Ne.symm h)]
  cases hs : d.blv.servo <;> simp [hs, Dev.switched]

/-- The choice of a source leaves their validity. -/
theorem Dev.useSource_ok (d : Dev) (u : Option BlvSource) (x : BlvSource) : (d.useSource u).blv.ok x = d.blv.ok x := by
  by_cases h : d.blv.use = u
  · rw [Dev.useSource, if_pos h.symm]
  · cases u with
    | none =>
      rw [Dev.useSource_none h]
      exact SettleClosed.ite (P := fun e => e.blv.ok x = d.blv.ok x) (by cases x <;> rfl) (by cases x <;> rfl)
    | some y =>
      rw [Dev.useSource_some h]
      exact SettleClosed.ite (P := fun e => e.blv.ok x = d.blv.ok x) (by cases x <;> rfl) (by cases x <;> rfl)

/-! ### Captures -/

/-- All that a capture may do (R268): nothing within 8 ns of the pin's last one; a count, or a record, with a mark at the pin. -/
def Dev.Captured (d : Dev) (k : Nat) (e : Dev) : Prop :=
  e = d ∨ (∃ f, e = (d.updTio k f).bump Reg.blvCapOvf) ∨ ∃ f x, e = (d.updTio k f).onBlv fun b => { b with caps := b.caps ++ [x] }

theorem Dev.capture_captured (d : Dev) (k : Nat) (falling : Bool) : d.Captured k (d.capture k falling) :=
  SettleClosed.ite (P := d.Captured k) (.inl rfl)
    (SettleClosed.ite (P := d.Captured k) (.inr (.inl ⟨_, rfl⟩)) (.inr (.inr ⟨_, _, rfl⟩)))

/-- A capture leaves every register but BLV_CAP_OVF, and the source in use. -/
theorem Dev.capture_view {d : Dev} (hw : cellsWf d.regs = true) (k : Nat) (falling : Bool) :
    cellsWf (d.capture k falling).regs = true ∧ (∀ off, off ≠ Reg.blvCapOvf → (d.capture k falling).rd off = d.rd off) ∧
      (d.capture k falling).blv.use = d.blv.use := by
  obtain h | ⟨f, h⟩ | ⟨f, x, h⟩ := d.capture_captured k falling <;> rw [h]
  · exact ⟨hw, fun _ _ => rfl, rfl⟩
  · exact ⟨Dev.bump_wf (d := d.updTio k f) hw _ _, fun off hoff => (Dev.rd_bump (d := d.updTio k f) hw ..).trans (if_neg hoff), rfl⟩
  · exact ⟨hw, fun _ _ => rfl, rfl⟩

/-- The first edge of a pin is recorded while the FIFO has room (R268). -/
theorem Dev.capture_caps {d : Dev} {k : Nat} (hroom : d.blv.caps.length < 512) (hfirst : (d.tioPin k).lastCap = none) (falling : Bool) :
    (d.capture k falling).blv.caps = d.blv.caps ++
      [leBytes 8 (d.captureVt k) ++ leBytes 1 (k + 64 * b2n falling + 128 * b2n (d.tioPin k).ovr) ++ leBytes 7 0] := by
  simp only [Dev.capture, hfirst, if_neg (Nat.not_le.mpr hroom)]
  rfl

end Sys2Proof.Machine
end

section
/-!
O38: steering and stepping of VT (R246, R247, R275), the time links and the counter pair (R181, R182, R241, R252), and the sources (R243, R244, R253).
-/
namespace Sys2Proof.Machine

/-! ### Steering and stepping -/

theorem Dev.rateWrite_of_steerable {d : Dev} (h : d.steerable = true) (v : Word) : d.rateWrite v =
    (d.wr Reg.blvRate v).onBlv fun b => { b with rates := (b.rates ++ [v.toInt]).drop (b.rates.length + 1 - 16) } := if_pos h

/-- A slew adds to what is pending, and leaves VT (R246). -/
theorem Dev.slewWrite_of_steerable {d : Dev} (h : d.steerable = true) (v : Word) :
    (d.slewWrite v).blv.slew = d.blv.slew + v.toInt * 2 ^ 32 ∧ (d.slewWrite v).blv.vt = d.blv.vt := by
  rw [Dev.slewWrite, if_pos h]
  dsimp only
  split
  · exact ⟨rfl, rfl⟩
  · exact ⟨Dev.lockUpdate_keeps _ _ Blv.slew, Dev.lockUpdate_keeps _ _ Blv.vt⟩

theorem does_rateWrite {s : State} (hw : cellsWf s.dev.regs = true) (h : s.dev.steerable = true) (v : Word) :
    Does (.rateWrite v) s fun d => d.onlyReg s.dev Reg.blvRate v ∧ d.blv.vt = s.dev.blv.vt ∧ d.blv.slew = s.dev.blv.slew := by
  refine does_act (·.rateWrite v) (by unfold exec; rfl) ?_
  rw [Dev.rateWrite_of_steerable (d := s.clear) h]
  exact ⟨Dev.onlyReg_of_wr hw rfl rfl, rfl, rfl⟩

theorem after_slewWrite {s : State} (h : s.dev.steerable = true) (v : Word) : After (.slewWrite v) s fun d =>
    d.blv.slew = s.dev.blv.slew + v.toInt * 2 ^ 32 ∧ d.blv.vt = s.dev.blv.vt ∧ d.mem = s.dev.mem := by
  refine after_act (·.slewWrite v) (by unfold exec; rfl) ?_
  obtain ⟨hslew, hvt⟩ := Dev.slewWrite_of_steerable (d := s.clear) h v
  rw [settle_blv, settle_mem]
  exact ⟨hslew, hvt, Dev.slewWrite_mem ..⟩

/-- Outside FREE, and under no type-1 source, BLV_RATE and BLV_SLEW are not written (R246). -/
theorem does_steering_refused {s : State} (hw : cellsWf s.dev.regs = true) (h : s.dev.steerable = false) {v : Word} {c : Instr}
    (hc : c = .rateWrite v ∨ c = .slewWrite v) :
    Does c s fun d => d.counts s.dev Reg.sysAccessReject ∧ d.blv = s.dev.blv := by
  have hsteer : ¬s.clear.steerable = true := by rw [show s.clear.steerable = false from h]; exact Bool.false_ne_true
  rcases hc with rfl | rfl
  · refine does_act (·.rateWrite v) (by unfold exec; rfl) ?_
    rw [Dev.rateWrite, if_neg hsteer]
    exact ⟨Dev.bump_counts hw _, rfl⟩
  · refine does_act (·.slewWrite v) (by unfold exec; rfl) ?_
    rw [Dev.slewWrite, if_neg hsteer]
    exact ⟨Dev.bump_counts hw _, rfl⟩

/-- What VT_STEP writes to BLV_STEP_CTL (R275). -/
def stepGo (abs force : Bool) : Word := BitVec.ofNat 32 (1 + 2 * b2n abs + 4 * b2n force)

theorem Dev.stepCtlWrite_go (d : Dev) (abs force : Bool) :
    d.stepCtlWrite (stepGo abs force) = (d.wr Reg.blvStepCtl (stepGo abs force &&& 6)).softStep abs force := by
  cases abs <;> cases force <;> rfl

theorem Dev.rd64_wr_ne {d : Dev} (hw : cellsWf d.regs = true) {a off : Nat} (v : Word) (hlo : off ≠ a) (hhi : off + 4 ≠ a) :
    (d.wr a v).rd64 off = d.rd64 off := by
  rw [Dev.rd64, Dev.rd_wr_ne hw v hlo, Dev.rd_wr_ne hw v hhi]
  rfl

theorem Dev.rd64_lt (d : Dev) (off : Nat) : d.rd64 off < 2 ^ 64 := by
  have hlo := (d.rd off).isLt
  have hhi := (d.rd (off + 4)).isLt
  unfold Dev.rd64
  omega

/-- A step sets VT, leaves its fraction or clears it, and is counted (R247). -/
theorem Dev.stepVt_view {d : Dev} (hw : cellsWf d.regs = true) (delta : Int) (abs : Option Nat) :
    (d.stepVt delta abs).rd Reg.blvStepCount = d.rd Reg.blvStepCount + 1 ∧
      (d.stepVt delta abs).blv.vt = (d.blv.stepped delta abs).vt ∧ (d.stepVt delta abs).blv.acc = (d.blv.stepped delta abs).acc := by
  have hstep := Dev.stepVt_skipped hw delta abs
  refine ⟨(hstep.rd _ (by decide)).trans ?_, hstep.keeps Blv.vt, hstep.keeps Blv.acc⟩
  exact (Dev.rd_bump (d := d.onBlv (·.stepped delta abs)) hw ..).trans (if_pos rfl)

theorem does_vtStep {s : State} (abs force : Bool) {P : Dev → Prop}
    (hP : P ((s.clear.wr Reg.blvStepCtl (stepGo abs force &&& 6)).softStep abs force)) : Does (.vtStep abs force) s P :=
  does_act (fun d => d.stepCtlWrite (stepGo abs force)) (by unfold exec; rfl) (by rwa [Dev.stepCtlWrite_go])

theorem does_vtStep_refused {s : State} (hw : cellsWf s.dev.regs = true) (hs : s.dev.blv.servo = .locked) (abs : Bool) :
    Does (.vtStep abs false) s fun d => d.blv = s.dev.blv ∧ d.mem = s.dev.mem ∧
      d.rd Reg.sysAccessReject = s.dev.rd Reg.sysAccessReject + 1 := by
  refine does_vtStep abs false ?_
  have hw1 : cellsWf (s.clear.wr Reg.blvStepCtl (stepGo abs false &&& 6)).regs = true := Dev.wr_wf hw _ _
  rw [Dev.softStep, if_pos ⟨hs, rfl⟩]
  refine ⟨rfl, rfl, (Dev.rd_bump hw1 ..).trans ((if_pos rfl).trans ?_)⟩
  exact congrArg (· + 1) (Dev.rd_wr_ne (d := s.clear) hw _ (by decide))

theorem does_vtStep_taken {s : State} (hw : cellsWf s.dev.regs = true) {abs force : Bool} (h : s.dev.blv.servo ≠ .locked ∨ force = true) :
    Does (.vtStep abs force) s fun d => d.mem = s.dev.mem ∧ d.rd Reg.blvStepCount = s.dev.rd Reg.blvStepCount + 1 ∧
      (abs = true → d.blv.vt = s.dev.rd64 Reg.blvStepLo ∧ d.blv.acc = 0) ∧
      (abs = false → 0 ≤ (s.dev.blv.vt : Int) + s.dev.stepDelta → (s.dev.blv.vt : Int) + s.dev.stepDelta < 2 ^ 64 →
        (d.blv.vt : Int) = s.dev.blv.vt + s.dev.stepDelta ∧ d.blv.acc = s.dev.blv.acc) := by
  refine does_vtStep abs force ?_
  generalize hd : s.clear.wr Reg.blvStepCtl (stepGo abs force &&& 6) = d
  have hwd : cellsWf d.regs = true := hd ▸ Dev.wr_wf hw _ _
  have hblv : d.blv = s.dev.blv := hd ▸ rfl
  have hmem : d.mem = s.dev.mem := hd ▸ rfl
  have hcount : d.rd Reg.blvStepCount = s.dev.rd Reg.blvStepCount := hd ▸ Dev.rd_wr_ne (d := s.clear) hw _ (by decide)
  have hval : d.rd64 Reg.blvStepLo = s.dev.rd64 Reg.blvStepLo := hd ▸ Dev.rd64_wr_ne (d := s.clear) hw _ (by decide) (by decide)
  have hdelta : d.stepDelta = s.dev.stepDelta := by rw [Dev.stepDelta, hval]; rfl
  have hgo : ¬(d.blv.servo = .locked ∧ (!force) = true) := by
    rintro ⟨hs, hf⟩
    rcases h with h | rfl
    · exact h (hblv ▸ hs)
    · cases hf
  refine ⟨(Dev.softStep_mem ..).trans hmem, ?_⟩
  rw [Dev.softStep, if_neg hgo, hval, hdelta, ← hcount, ← hblv]
  cases abs with
  | true =>
    obtain ⟨hstep, hvt, hacc⟩ := Dev.stepVt_view hwd 0 (some (s.dev.rd64 Reg.blvStepLo))
    exact ⟨hstep, fun _ => ⟨hvt.trans (Nat.mod_eq_of_lt (Dev.rd64_lt ..)), hacc⟩, nofun⟩
  | false =>
    obtain ⟨hstep, hvt, hacc⟩ := Dev.stepVt_view hwd s.dev.stepDelta none
    refine ⟨hstep, nofun, fun _ hlo hhi => ⟨?_, hacc⟩⟩
    rw [if_neg Bool.false_ne_true, hvt]
    simp only [Blv.stepped]
    omega

theorem steeringAndStepping : Claims.SteeringAndStepping := by
  unfold Claims.SteeringAndStepping
  intro s v abs force hInv
  refine ⟨fun h => ⟨does_rateWrite hInv.regs h v, after_slewWrite h v⟩, fun h c hc => does_steering_refused hInv.regs h hc, ?_,
    does_vtStep_taken hInv.regs⟩
  rintro hs rfl
  exact does_vtStep_refused hInv.regs hs abs

/-! ### The time links -/

/-- What a parent sends, and the number of its next SYNC (R181, R182). -/
theorem after_timeSyncSend {s : State} (hlen : s.dev.itm.length = 5) {n : Fin 5} (hon : s.dev.timeOn n.val = true)
    (hparent : s.dev.timeParent n.val = true) : After (.timeSyncSend n) s fun d =>
      (∃ g, .sync n.val (s.dev.link n.val).timeSeq s.dev.vtStamp (s.dev.appliedRate % 2 ^ 32).toNat s.dev.sourceCode s.dev.timeSteps g
        ∈ d.out) ∧
        (d.link n.val).timeSeq = ((s.dev.link n.val).timeSeq + 1) % 65536 := by
  refine after_act (·.sendSync n.val) (by unfold exec; rfl) ?_
  have hcond : (s.clear.timeOn n.val && s.clear.timeParent n.val) = true := Bool.and_eq_true_iff.mpr ⟨hon, hparent⟩
  rw [Dev.sendSync, if_pos hcond]
  refine ⟨⟨_, settle_out _ _ _ (List.mem_append_right _ (List.mem_singleton_self _))⟩, ?_⟩
  exact (settle_link_timeSeq ..).trans (congrArg Link.timeSeq (Dev.link_onLink (State.link_lt hlen n) _))

theorem exec_timeSync (n : Fin 5) (seqid tx : Nat) (rate : Int) (source steps gm : Nat) (s : State) :
    exec (.timeSync n seqid tx rate source steps gm) s =
      s.act fun d => if d.timeOn n.val && d.timeChild n.val then d.syncUpdate n.val tx steps gm else d := by unfold exec; rfl

/-- A SYNC of the source link (R252). -/
theorem Dev.syncUpdate_of_source {d : Dev} {n : Nat} {src : BlvSource} (huse : d.blv.use = some src) (hlink : d.srcLink src = some n)
    (htype : d.srcType src = 2) (tx steps gm : Nat) : d.syncUpdate n tx steps gm =
      (d.onBlv fun b => { b with steps := (steps + 1) % 256, gm := gm }).servoUpdate ((tx : Int) + d.syncDelay n - d.vtStamp) := by
  simp only [Dev.syncUpdate, huse, hlink, htype, and_self, if_true]

theorem does_timeSync {s : State} (hw : cellsWf s.dev.regs = true) {n : Fin 5} {src : BlvSource} (hon : s.dev.timeOn n.val = true)
    (hchild : s.dev.timeChild n.val = true) (huse : s.dev.blv.use = some src) (hlink : s.dev.srcLink src = some n.val)
    (htype : s.dev.srcType src = 2) (seqid tx : Nat) (rate : Int) (source steps gm : Nat) :
    Does (.timeSync n seqid tx rate source steps gm) s fun d => d.blv.steps = (steps + 1) % 256 ∧ d.blv.gm = gm ∧
      d.rd Reg.blvOffset = BitVec.ofInt 32 (clampTo (2 ^ 31 - 1) (((tx : Int) + s.dev.syncDelay n.val - s.dev.vtStamp) / 4096)) := by
  refine does_act _ (exec_timeSync ..) ?_
  have hcond : (s.clear.timeOn n.val && s.clear.timeChild n.val) = true := Bool.and_eq_true_iff.mpr ⟨hon, hchild⟩
  rw [if_pos hcond, Dev.syncUpdate_of_source (d := s.clear) huse hlink htype]
  obtain ⟨hoffset, hbeside⟩ := Dev.servoUpdate_view (d := s.clear.onBlv fun b => { b with steps := (steps + 1) % 256, gm := gm }) hw
    ((tx : Int) + s.clear.syncDelay n.val - s.clear.vtStamp)
  exact ⟨congrArg (·.1) hbeside, congrArg (·.2.1) hbeside, hoffset⟩

theorem quiet_timeSync {s : State} {n : Fin 5} (h : s.dev.timeOn n.val = false ∨ s.dev.timeChild n.val = false) (seqid tx : Nat) (rate : Int)
    (source steps gm : Nat) : Quiet (.timeSync n seqid tx rate source steps gm) s := by
  refine does_act _ (exec_timeSync ..) (if_neg ?_)
  have hcond : (s.clear.timeOn n.val && s.clear.timeChild n.val) = false := Bool.and_eq_false_iff.mpr h
  rw [hcond]
  exact Bool.false_ne_true

/-! ### The counter pair -/

/-- A counter and the check counter are more than 80 ns apart (R241). -/
def farApart (check x : Nat) : Bool := decide (x + 80 < check) || decide (check + 80 < x)

theorem farApart_iff {check x : Nat} : farApart check x = true ↔ x + 80 < check ∨ check + 80 < x := by simp [farApart]

/-- What a mismatch does, by which of the two counters are far from the check counter (R241). -/
def Dev.counterPair (d : Dev) (second : Nat) (vtFar secondFar : Bool) : Dev :=
  let d := (d.onBlv fun b => { b with ctrFault := true }).bump Reg.blvCtrMismatch
  match vtFar, secondFar with
  | true, false => d.onBlv fun b => { b with vt := second % 2 ^ 64, ctrInvalid := false }
  | false, true => d.onBlv fun b => { b with ctrInvalid := false }
  | _, _ => d.onBlv fun b => { b with ctrInvalid := true }

theorem exec_counterMismatch (second check : Nat) (s : State) : exec (.counterMismatch second check) s =
    s.act fun d => d.counterPair second (farApart check d.blv.vt) (farApart check second) := by unfold exec; rfl

theorem Dev.counterPair_view {d : Dev} (hw : cellsWf d.regs = true) (second : Nat) (vtFar secondFar : Bool) :
    let e := d.counterPair second vtFar secondFar
    e.blv.ctrFault = true ∧ e.counts d Reg.blvCtrMismatch ∧
      (vtFar = true → secondFar = false → e.blv.vt = second % 2 ^ 64 ∧ e.blv.ctrInvalid = false) ∧
      (vtFar = false → secondFar = true → e.blv.vt = d.blv.vt ∧ e.blv.ctrInvalid = false) ∧
      (vtFar = secondFar → e.blv.vt = d.blv.vt ∧ e.blv.ctrInvalid = true) := by
  have hcounts : ∀ f, (((d.onBlv fun b => { b with ctrFault := true }).bump Reg.blvCtrMismatch).onBlv f).counts d Reg.blvCtrMismatch :=
    fun _ => Dev.onlyReg_of_bump hw rfl rfl
  cases vtFar <;> cases secondFar
  · exact ⟨rfl, hcounts _, nofun, nofun, fun _ => ⟨rfl, rfl⟩⟩
  · exact ⟨rfl, hcounts _, nofun, fun _ _ => ⟨rfl, rfl⟩, nofun⟩
  · exact ⟨rfl, hcounts _, fun _ _ => ⟨rfl, rfl⟩, nofun, nofun⟩
  · exact ⟨rfl, hcounts _, nofun, nofun, fun _ => ⟨rfl, rfl⟩⟩

theorem does_counterMismatch {s : State} (hw : cellsWf s.dev.regs = true) (second check : Nat) :
    Does (.counterMismatch second check) s fun d =>
      let far := fun x : Nat => x + 80 < check ∨ check + 80 < x
      d.blv.ctrFault = true ∧ d.counts s.dev Reg.blvCtrMismatch ∧
      (far s.dev.blv.vt → ¬far second → d.blv.vt = second % 2 ^ 64 ∧ d.blv.ctrInvalid = false) ∧
      (¬far s.dev.blv.vt → far second → d.blv.vt = s.dev.blv.vt ∧ d.blv.ctrInvalid = false) ∧
      ((far s.dev.blv.vt ↔ far second) → d.blv.vt = s.dev.blv.vt ∧ d.blv.ctrInvalid = true) := by
  refine does_act _ (exec_counterMismatch second check s) ?_
  obtain ⟨hfault, hcounts, hreload, hkeep, hboth⟩ :=
    Dev.counterPair_view (d := s.clear) hw second (farApart check s.dev.blv.vt) (farApart check second)
  have hnear : ∀ {x}, ¬(x + 80 < check ∨ check + 80 < x) → farApart check x = false := fun h => Bool.eq_false_iff.mpr (h ∘ farApart_iff.mp)
  exact ⟨hfault, hcounts, fun hv hs => hreload (farApart_iff.mpr hv) (hnear hs), fun hv hs => hkeep (hnear hv) (farApart_iff.mpr hs),
    fun h => hboth (Bool.eq_iff_iff.mpr (farApart_iff.trans (h.trans farApart_iff.symm)))⟩

theorem timeLinksAndCounters : Claims.TimeLinksAndCounters := by
  unfold Claims.TimeLinksAndCounters
  intro s n seqid tx rate source steps gm second check hInv hlen
  exact ⟨after_timeSyncSend hlen, fun src hon hchild huse hlink htype => does_timeSync hInv.regs hon hchild huse hlink htype ..,
    fun h => quiet_timeSync h .., does_counterMismatch hInv.regs second check⟩

/-! ### Sources -/

theorem exec_sourceValid (src : BlvSource) (s : State) :
    exec (.sourceValid src) s = s.act fun d => if d.srcHolds src then d.setSource src true else d := by unfold exec; rfl

theorem quiet_sourceValid {s : State} {src : BlvSource} (h : s.dev.srcHolds src = false) : Quiet (.sourceValid src) s := by
  refine does_act _ (exec_sourceValid src s) (if_neg ?_)
  rw [show s.clear.srcHolds src = false from h]
  exact Bool.false_ne_true

theorem does_sourceValid {s : State} {src : BlvSource} (h : s.dev.srcHolds src = true) {P : Dev → Prop} (hP : P (s.clear.setSource src true)) :
    Does (.sourceValid src) s P :=
  does_act _ (exec_sourceValid src s) (by rwa [if_pos (show s.clear.srcHolds src = true from h)])

theorem after_sourceValid {s : State} {src : BlvSource} (h : s.dev.srcHolds src = true) :
    After (.sourceValid src) s fun d => d.blv.ok src = true := by
  refine after_act _ (exec_sourceValid src s) ?_
  rw [if_pos (show s.clear.srcHolds src = true from h), settle_blv]
  exact (Dev.useSource_ok ..).trans (Blv.setOk_same ..)

/-- Outside STANDBY a valid primary is wanted where the secondary is not in use, and the secondary where the primary is invalid (R243). -/
theorem Dev.wantSource_primary {d : Dev} (hstandby : d.standby = false) (huse : d.blv.use ≠ some .secondary) (hok : d.blv.priOk = true) :
    d.wantSource = some .primary := by
  simp [Dev.wantSource, hstandby, huse, hok]

theorem Dev.wantSource_not_primary {d : Dev} (hstandby : d.standby = false) (huse : d.blv.use ≠ some .secondary) (hok : d.blv.priOk = false) :
    d.wantSource = if d.blv.secOk then some .secondary else none := by
  simp [Dev.wantSource, hstandby, huse, hok]

/-- The first source comes into use (R243), and the servo acquires it (R244). -/
theorem does_sourceValid_first {s : State} (hw : cellsWf s.dev.regs = true) (h : s.dev.srcHolds .primary = true)
    (hstandby : s.dev.standby = false) (huse : s.dev.blv.use = none) : Does (.sourceValid .primary) s fun d =>
      d.blv.use = some .primary ∧ d.counts s.dev Reg.blvSrcSwitch ∧
      ((s.dev.blv.servo = .free ∨ s.dev.blv.servo = .holdover) → d.blv.servo = .acquire) := by
  refine does_sourceValid h ?_
  generalize hd : s.clear.onBlv (·.setOk .primary true) = d
  have hset : s.clear.setSource .primary true = d.useSource d.wantSource := hd ▸ rfl
  have huse' : d.blv.use = none := hd ▸ huse
  have hwant : d.wantSource = some .primary :=
    Dev.wantSource_primary (hd ▸ hstandby) (by rw [huse']; exact nofun) (hd ▸ rfl)
  have hservo : d.blv.servo = s.dev.blv.servo := hd ▸ rfl
  have hcounts : (d.switched (some .primary)).counts s.dev Reg.blvSrcSwitch := hd ▸ Dev.onlyReg_of_bump hw rfl rfl
  rw [hset, hwant, Dev.useSource_some (by rw [huse']; exact nofun), hservo]
  split
  next => exact ⟨rfl, hcounts, fun _ => rfl⟩
  next hstay => exact ⟨rfl, hcounts, fun hleft => absurd hleft hstay⟩

theorem exec_sourceInvalid (src : BlvSource) (s : State) : exec (.sourceInvalid src) s = s.act fun d => d.setSource src false := by
  unfold exec; rfl

/-- The primary becomes invalid while it is in use: what follows is the choice between the secondary and none (R243). -/
theorem does_sourceInvalid_primary {s : State} (hstandby : s.dev.standby = false) (huse : s.dev.blv.use = some .primary) {P : Dev → Prop}
    (hP : P ((s.clear.onBlv (·.setOk .primary false)).useSource (if s.dev.blv.secOk then some .secondary else none))) :
    Does (.sourceInvalid .primary) s P := by
  refine does_act _ (exec_sourceInvalid .primary s) ?_
  have hwant := Dev.wantSource_not_primary (d := s.clear.onBlv (·.setOk .primary false)) hstandby
    (show s.dev.blv.use ≠ some .secondary by rw [huse]; exact nofun) rfl
  rw [Dev.setSource, hwant]
  exact hP

theorem does_sourceInvalid_secondary {s : State} (hw : cellsWf s.dev.regs = true) (hstandby : s.dev.standby = false)
    (huse : s.dev.blv.use = some .primary) (hsec : s.dev.blv.secOk = true) : Does (.sourceInvalid .primary) s fun d =>
      d.blv.use = some .secondary ∧ d.blv.priOk = false ∧ d.counts s.dev Reg.blvSrcSwitch := by
  refine does_sourceInvalid_primary hstandby huse ?_
  have hne : (s.clear.onBlv (·.setOk .primary false)).blv.use ≠ some .secondary := show s.dev.blv.use ≠ _ by rw [huse]; exact nofun
  rw [if_pos hsec, Dev.useSource_some hne]
  exact SettleClosed.ite (P := fun d => d.blv.use = some .secondary ∧ d.blv.priOk = false ∧ d.counts s.dev Reg.blvSrcSwitch)
    ⟨rfl, rfl, Dev.onlyReg_of_bump hw rfl rfl⟩ ⟨rfl, rfl, Dev.onlyReg_of_bump hw rfl rfl⟩

theorem does_sourceInvalid_holdover {s : State} (hw : cellsWf s.dev.regs = true) (hstandby : s.dev.standby = false)
    (huse : s.dev.blv.use = some .primary) (hsec : s.dev.blv.secOk = false) (hservo : s.dev.blv.servo = .acquire ∨ s.dev.blv.servo = .locked) :
    Does (.sourceInvalid .primary) s fun d => d.blv.use = none ∧ d.blv.servo = .holdover ∧ d.blv.slew = 0 ∧
      d.rd Reg.blvRate = BitVec.ofInt 32 (meanRate s.dev.blv.rates) ∧ d.rd Reg.blvSrcSwitch = s.dev.rd Reg.blvSrcSwitch + 1 := by
  refine does_sourceInvalid_primary hstandby huse ?_
  generalize hd : s.clear.onBlv (·.setOk .primary false) = d
  have hwd : cellsWf d.regs = true := hd ▸ hw
  have hne : d.blv.use ≠ none := hd ▸ show s.dev.blv.use ≠ _ by rw [huse]; exact nofun
  have hwswitch : cellsWf (d.switched none).regs = true := Dev.bump_wf (d := d.onBlv _) hwd _ _
  have hcount : (d.switched none).rd Reg.blvSrcSwitch = s.dev.rd Reg.blvSrcSwitch + 1 := (Dev.switched_counts hwd none).1.trans (hd ▸ rfl)
  rw [if_neg (by rw [hsec]; exact Bool.false_ne_true), Dev.useSource_none hne, if_pos (hd ▸ hservo)]
  exact ⟨rfl, rfl, rfl, (Dev.rd_wr_same hwswitch ..).trans (hd ▸ rfl), (Dev.rd_wr_ne hwswitch _ (by decide)).trans hcount⟩

theorem exec_revertHoldExpiry (s : State) : exec .revertHoldExpiry s = s.act fun d =>
    if d.flag Reg.blvSrcCfg 18 ∧ d.blv.use = some .secondary ∧ d.blv.priOk then d.useSource (some .primary) else d := by unfold exec; rfl

theorem does_revertHoldExpiry {s : State} (hw : cellsWf s.dev.regs = true) (hrevert : s.dev.flag Reg.blvSrcCfg 18 = true)
    (huse : s.dev.blv.use = some .secondary) (hok : s.dev.blv.priOk = true) :
    Does .revertHoldExpiry s fun d => d.blv.use = some .primary ∧ d.counts s.dev Reg.blvSrcSwitch := by
  refine does_act _ (exec_revertHoldExpiry s) ?_
  have hne : s.clear.blv.use ≠ some .primary := show s.dev.blv.use ≠ _ by rw [huse]; exact nofun
  rw [if_pos ⟨hrevert, huse, hok⟩, Dev.useSource_some hne]
  exact SettleClosed.ite (P := fun d => d.blv.use = some .primary ∧ d.counts s.dev Reg.blvSrcSwitch)
    ⟨rfl, Dev.onlyReg_of_bump hw rfl rfl⟩ ⟨rfl, Dev.onlyReg_of_bump hw rfl rfl⟩

theorem quiet_revertHoldExpiry {s : State} (h : s.dev.flag Reg.blvSrcCfg 18 = false) : Quiet .revertHoldExpiry s := by
  refine does_act _ (exec_revertHoldExpiry s) (if_neg fun hrevert => ?_)
  rw [State.clear_flag, h] at hrevert
  exact Bool.false_ne_true hrevert.1

/-- Ten seconds in HOLDOVER make VT invalid (R241, R244). -/
theorem after_holdoverLimit {s : State} (h : s.dev.blv.servo = .holdover) :
    After .holdoverLimit s fun d => d.blv.holdExc = true ∧ d.vtValid = false := by
  refine after_act (fun d => if d.blv.servo = .holdover then d.onBlv fun b => { b with holdExc := true } else d) (by unfold exec; rfl) ?_
  rw [if_pos (show s.clear.blv.servo = .holdover from h), Dev.vtValid, settle_blv]
  simp [h]

/-! ### Pulses -/

theorem Dev.srcType_congr {d e : Dev} (h : e.rd Reg.blvSrcCfg = d.rd Reg.blvSrcCfg) (x : BlvSource) : e.srcType x = d.srcType x := by
  cases x <;> simp only [Dev.srcType, Dev.fld, h]

theorem Dev.srcArg_congr {d e : Dev} (h : e.rd Reg.blvSrcCfg = d.rd Reg.blvSrcCfg) (x : BlvSource) : e.srcArg x = d.srcArg x := by
  cases x <;> simp only [Dev.srcArg, Dev.fld, h]

/-- The update that an edge of a pulse pin gives where the pin is the source in use (R253). -/
def Dev.ppsUpdate (d : Dev) (pin v : Nat) : Dev :=
  match d.blv.use with
  | some src =>
    if d.srcType src = 3 ∧ d.srcArg src = pin then d.servoUpdate (ppsOffset v (d.fld Reg.blvPpsCfg 0 30) * 65536) else d
  | none => d

theorem exec_ppsEdge (pin : Fin 48) (s : State) : exec (.ppsEdge pin) s = s.act fun d =>
    if d.fld (Reg.blvTioCfg + 4 * pin.val) 0 3 ≠ 3 then d else (d.capture pin.val false).ppsUpdate pin.val (d.captureVt pin.val) := by
  unfold exec; rfl

theorem quiet_ppsEdge {s : State} {pin : Fin 48} (h : s.dev.fld (Reg.blvTioCfg + 4 * pin.val) 0 3 ≠ 3) : Quiet (.ppsEdge pin) s :=
  does_act _ (exec_ppsEdge pin s) (if_pos h)

/-- An update leaves the captures. -/
theorem Dev.ppsUpdate_caps {d : Dev} (hw : cellsWf d.regs = true) (pin v : Nat) : (d.ppsUpdate pin v).blv.caps = d.blv.caps := by
  unfold Dev.ppsUpdate
  split
  · exact SettleClosed.ite (P := fun e => e.blv.caps = d.blv.caps) (congrArg (·.2.2) (Dev.servoUpdate_view hw _).2) rfl
  · rfl

theorem does_ppsEdge_offset {s : State} (hw : cellsWf s.dev.regs = true) {pin : Fin 48}
    (hmode : s.dev.fld (Reg.blvTioCfg + 4 * pin.val) 0 3 = 3) {x : BlvSource} (huse : s.dev.blv.use = some x) (htype : s.dev.srcType x = 3)
    (harg : s.dev.srcArg x = pin.val) : Does (.ppsEdge pin) s fun d => d.rd Reg.blvOffset =
      BitVec.ofInt 32 (clampTo (2 ^ 31 - 1) (ppsOffset (s.dev.captureVt pin.val) (s.dev.fld Reg.blvPpsCfg 0 30) * 65536 / 4096)) := by
  refine does_act _ (exec_ppsEdge pin s) ?_
  obtain ⟨hwc, hrd, husec⟩ := Dev.capture_view (d := s.clear) hw pin.val false
  have hcfg := hrd Reg.blvSrcCfg (by decide)
  have hphase : (s.clear.capture pin.val false).fld Reg.blvPpsCfg 0 30 = s.dev.fld Reg.blvPpsCfg 0 30 :=
    congrArg (fieldOf · 0 30) (hrd Reg.blvPpsCfg (by decide))
  have htypec := (Dev.srcType_congr hcfg x).trans htype
  have hargc := (Dev.srcArg_congr hcfg x).trans harg
  rw [if_neg (show ¬s.clear.fld (Reg.blvTioCfg + 4 * pin.val) 0 3 ≠ 3 from not_not.mpr hmode)]
  simp only [Dev.ppsUpdate, husec, State.clear_blv, huse, htypec, hargc, and_self, if_true, hphase]
  exact (Dev.servoUpdate_view hwc _).1

theorem after_ppsEdge_capture {s : State} (hw : cellsWf s.dev.regs = true) {pin : Fin 48}
    (hmode : s.dev.fld (Reg.blvTioCfg + 4 * pin.val) 0 3 = 3) (hroom : s.dev.blv.caps.length < 512)
    (hfirst : (s.dev.tioPin pin.val).lastCap = none) : After (.ppsEdge pin) s fun d => d.blv.caps = s.dev.blv.caps ++
      [leBytes 8 (s.dev.captureVt pin.val) ++ leBytes 1 (pin.val + 128 * b2n (s.dev.tioPin pin.val).ovr) ++ leBytes 7 0] := by
  refine after_act _ (exec_ppsEdge pin s) ?_
  have hwc := (Dev.capture_view (d := s.clear) hw pin.val false).1
  rw [if_neg (show ¬s.clear.fld (Reg.blvTioCfg + 4 * pin.val) 0 3 ≠ 3 from not_not.mpr hmode), settle_blv, Dev.ppsUpdate_caps hwc]
  exact Dev.capture_caps (d := s.clear) hroom hfirst false

theorem timeSources : Claims.TimeSources := by
  unfold Claims.TimeSources
  intro s src pin hInv
  have hw := hInv.regs
  exact ⟨quiet_sourceValid, after_sourceValid, does_sourceValid_first hw,
    fun hstandby huse => ⟨does_sourceInvalid_secondary hw hstandby huse, does_sourceInvalid_holdover hw hstandby huse⟩,
    does_revertHoldExpiry hw, quiet_revertHoldExpiry, after_holdoverLimit, quiet_ppsEdge,
    fun hmode => ⟨fun x => does_ppsEdge_offset hw hmode, after_ppsEdge_capture hw hmode⟩⟩

/-- Settles O38: its three parts. -/
theorem timeBase : Obligations.TimeBase := by
  unfold Obligations.TimeBase
  exact ⟨steeringAndStepping, timeLinksAndCounters, timeSources⟩

end Sys2Proof.Machine
end

section
/-!
O39: schedule slots (R254, R256, R258, R259).
-/
namespace Sys2Proof.Machine

/-! ### Words and images of slots -/

/-- The words of the slots lie above the unit's registers (R254, R271). -/
theorem slotWord_ne {a off : Nat} (ha : a < 0x84_0000) (hoff : 0x84_0000 ≤ off) : off ≠ a := by omega

/-- The image of a slot and the checks of R256 read only the slots' words and SYS_DEVID. -/
theorem Dev.slotImg_congr {d e : Dev} (h : ∀ off, 0x84_0000 ≤ off → e.rd off = d.rd off) (i : Nat) : e.slotImg i = d.slotImg i := by
  have hword : ∀ k, e.rd (0x84_0000 + 32 * i + 4 * k) = d.rd (0x84_0000 + 32 * i + 4 * k) := fun k => h _ (by omega)
  simp only [Dev.slotImg, hword]

theorem Dev.armOk_congr {d e : Dev} (h : e.rd Reg.sysDevid = d.rd Reg.sysDevid) (img : Nat) : e.armOk img = d.armOk img := by
  simp only [Dev.armOk, Dev.devid, Dev.fld, h]

theorem slotOfOff (i : Fin 4096) (w : Fin 8) : (0x84_0000 + 32 * i.val + 4 * w.val - 0x84_0000) / 32 = i.val := by omega

theorem exec_slotWrite (i : Fin 4096) (w : Fin 8) (v : Word) (be : BitVec 4) (s : State) : exec (.slotWrite i w v be) s = s.act fun d =>
    d.slotWrite (0x84_0000 + 32 * i.val + 4 * w.val) (mergeWord (d.rd (0x84_0000 + 32 * i.val + 4 * w.val)) v be) := by
  unfold exec; rfl

theorem Dev.slotWrite_eq (d : Dev) (i : Fin 4096) (w : Fin 8) (v : Word) : d.slotWrite (0x84_0000 + 32 * i.val + 4 * w.val) v =
    if (d.armedSlot? i.val).isSome then d.bump Reg.sysAccessReject else d.wr (0x84_0000 + 32 * i.val + 4 * w.val) v := by
  rw [Dev.slotWrite, slotOfOff]

/-! ### BLV_ARM -/

/-- The word that arms (`op` = 1) or disarms (`op` = 2) a slot (R274). -/
def armWord (op i : Nat) : Word := BitVec.ofNat 32 (0x1000 * op + i)

theorem armWord_fields {op i : Nat} (hop : op < 4) (hi : i < 4096) : fieldOf (armWord op i) 12 2 = op ∧ fieldOf (armWord op i) 0 12 = i := by
  simp only [fieldOf, bitsOf, armWord, BitVec.toNat_ofNat]
  omega

/-- BLV_ARM holds what has been written to it. -/
def Dev.armTold (d : Dev) (op i : Nat) : Dev := d.wr Reg.blvArm (armWord op i &&& 0x3FFF)

theorem exec_slotArm (i : Fin 4096) (s : State) : exec (.slotArm i) s = s.act fun d => (d.armTold 1 i.val).armSlot i.val := by
  obtain ⟨hop, hslot⟩ := armWord_fields (op := 1) (by decide) i.isLt
  have hexec : exec (.slotArm i) s = s.act fun d => d.armWrite (armWord 1 i.val) := by unfold exec; rfl
  simp only [hexec, Dev.armWrite, hop, hslot]
  rfl

theorem exec_slotDisarm (i : Fin 4096) (s : State) : exec (.slotDisarm i) s = s.act fun d => (d.armTold 2 i.val).disarmSlot i.val := by
  obtain ⟨hop, hslot⟩ := armWord_fields (op := 2) (by decide) i.isLt
  have hexec : exec (.slotDisarm i) s = s.act fun d => d.armWrite (armWord 2 i.val) := by unfold exec; rfl
  simp only [hexec, Dev.armWrite, hop, hslot]
  rfl

/-! ### Writing and arming -/

/-- An armed slot refuses both (R254). -/
theorem does_armed_refused {s : State} (hw : cellsWf s.dev.regs = true) {i : Fin 4096} {w : Fin 8} {v : Word} {be : BitVec 4}
    (h : (s.dev.armedSlot? i.val).isSome = true) {c : Instr} (hc : c = .slotWrite i w v be ∨ c = .slotArm i) : Does c s fun d =>
      d.rd Reg.sysAccessReject = s.dev.rd Reg.sysAccessReject + 1 ∧ d.blv = s.dev.blv ∧
        d.rd (0x84_0000 + 32 * i.val + 4 * w.val) = s.dev.rd (0x84_0000 + 32 * i.val + 4 * w.val) ∧ d.mem = s.dev.mem := by
  have hoff : 0x84_0000 + 32 * i.val + 4 * w.val ≠ Reg.sysAccessReject := slotWord_ne (by decide) (by omega)
  rcases hc with rfl | rfl
  · refine does_act _ (exec_slotWrite ..) ?_
    rw [Dev.slotWrite_eq, if_pos (show (s.clear.armedSlot? i.val).isSome = true from h)]
    exact ⟨(Dev.rd_bump (d := s.clear) hw ..).trans (if_pos rfl), rfl, (Dev.rd_bump (d := s.clear) hw ..).trans (if_neg hoff), rfl⟩
  · refine does_act _ (exec_slotArm i s) ?_
    have hw1 : cellsWf (s.clear.armTold 1 i.val).regs = true := Dev.wr_wf hw _ _
    rw [Dev.armSlot, if_pos (show ((s.clear.armTold 1 i.val).armedSlot? i.val).isSome = true from h)]
    refine ⟨((Dev.rd_bump hw1 ..).trans (if_pos rfl)).trans ?_, rfl, ((Dev.rd_bump hw1 ..).trans (if_neg hoff)).trans ?_, rfl⟩
    · exact congrArg (· + 1) (Dev.rd_wr_ne (d := s.clear) hw _ (by decide))
    · exact Dev.rd_wr_ne (d := s.clear) hw _ (slotWord_ne (by decide) (by omega))

theorem does_slotWrite {s : State} (hw : cellsWf s.dev.regs = true) {i : Fin 4096} (h : s.dev.armedSlot? i.val = none) (w : Fin 8) (v : Word)
    (be : BitVec 4) : Does (.slotWrite i w v be) s fun d => d.onlyReg s.dev (0x84_0000 + 32 * i.val + 4 * w.val)
      (mergeWord (s.dev.rd (0x84_0000 + 32 * i.val + 4 * w.val)) v be) ∧ d.blv = s.dev.blv := by
  refine does_act _ (exec_slotWrite ..) ?_
  have hfree : ¬(s.clear.armedSlot? i.val).isSome = true := by
    rw [show s.clear.armedSlot? i.val = none from h]
    exact Bool.false_ne_true
  rw [Dev.slotWrite_eq, if_neg hfree]
  exact ⟨Dev.onlyReg_of_wr hw rfl rfl, rfl⟩

/-- What the checks of an arm read is as before BLV_ARM was written. -/
theorem armTold_checks {s : State} (hw : cellsWf s.dev.regs = true) (i : Nat) : (s.clear.armTold 1 i).slotImg i = s.dev.slotImg i ∧
    ∀ img, (s.clear.armTold 1 i).armOk img = s.dev.armOk img :=
  ⟨Dev.slotImg_congr (d := s.dev) (fun _ hoff => Dev.rd_wr_ne (d := s.clear) hw _ (slotWord_ne (by decide) hoff)) i,
    Dev.armOk_congr (d := s.dev) (Dev.rd_wr_ne (d := s.clear) hw _ (by decide))⟩

theorem does_slotArm_rejected {s : State} (hw : cellsWf s.dev.regs = true) {i : Fin 4096} (h : s.dev.armedSlot? i.val = none)
    (hbad : s.dev.armOk (s.dev.slotImg i.val) = false) : Does (.slotArm i) s fun d =>
      d.rd Reg.blvArmReject = s.dev.rd Reg.blvArmReject + 1 ∧ d.blv = s.dev.blv ∧ d.mem = s.dev.mem := by
  refine does_act _ (exec_slotArm i s) ?_
  obtain ⟨himg, hcheck⟩ := armTold_checks hw i.val
  have hw1 : cellsWf (s.clear.armTold 1 i.val).regs = true := Dev.wr_wf hw _ _
  have hfree : (s.clear.armTold 1 i.val).armedSlot? i.val = none := h
  simp only [Dev.armSlot, hfree, himg, hcheck, hbad]
  refine ⟨((Dev.rd_bump hw1 ..).trans (if_pos rfl)).trans ?_, rfl, rfl⟩
  exact congrArg (· + 1) (Dev.rd_wr_ne (d := s.clear) hw _ (by decide))

/-! ### Skips -/

theorem firstFrom_of_le {img x next : Nat} (h : x ≤ bitsOf img 0 64) : firstFrom img x next = next := by
  simp only [firstFrom, if_pos h]

/-- Of a slot with one event, the first that is due after the event is the one after it. -/
theorem firstFrom_single {img x : Nat} (hperiod : bitsOf img 64 32 = 0) (h : bitsOf img 0 64 < x) : firstFrom img x 0 = 1 := by
  simp [firstFrom, hperiod, Nat.not_le.mpr h]

/-- Nothing is skipped where the next event is not before the instant. -/
theorem Dev.skipSlot_of_firstFrom_le {d : Dev} {i x : Nat} {a : ArmedSlot} (ha : d.armedSlot? i = some a)
    (h : firstFrom (d.slotImg i) x a.next ≤ a.next) : d.skipSlot i x = d := by
  simp only [Dev.skipSlot, ha]
  refine if_pos ?_
  split
  · exact (Nat.min_le_right ..).trans h
  · exact h

theorem Dev.armSlot_passed {d : Dev} {i : Nat} (h : d.armedSlot? i = none) (hok : d.armOk (d.slotImg i) = true)
    (hsoon : d.blv.vt ≤ bitsOf (d.slotImg i) 0 64 + slotTol (d.slotImg i)) :
    d.armSlot i = d.onBlv fun b => { b with armed := b.armed ++ [{ slot := i, ref := d.fab.nextSeq }] } := by
  have hfound : (d.onBlv fun b => { b with armed := b.armed ++ [{ slot := i, ref := d.fab.nextSeq }] }).armedSlot? i =
      some { slot := i, ref := d.fab.nextSeq } := by
    have hnone : (d.blv.armed.find? fun a => a.slot == i) = none := h
    simp [Dev.armedSlot?, List.find?_append, hnone]
  have hearly : d.blv.vt - slotTol (d.slotImg i) ≤ bitsOf (d.slotImg i) 0 64 := by omega
  simp only [Dev.armSlot, h, hok]
  exact Dev.skipSlot_of_firstFrom_le hfound (firstFrom_of_le hearly).le

theorem after_slotArm {s : State} (hw : cellsWf s.dev.regs = true) {i : Fin 4096} (h : s.dev.armedSlot? i.val = none)
    (hok : s.dev.armOk (s.dev.slotImg i.val) = true)
    (hsoon : s.dev.blv.vt ≤ bitsOf (s.dev.slotImg i.val) 0 64 + slotTol (s.dev.slotImg i.val)) : After (.slotArm i) s fun d =>
      d.blv.armed = s.dev.blv.armed ++ [{ slot := i.val, ref := s.dev.fab.nextSeq }] ∧ d.blv.res = s.dev.blv.res := by
  refine after_act _ (exec_slotArm i s) ?_
  obtain ⟨himg, hcheck⟩ := armTold_checks hw i.val
  rw [settle_blv, Dev.armSlot_passed (d := s.clear.armTold 1 i.val) h (by rw [himg, hcheck, hok]) (by rw [himg]; exact hsoon)]
  exact ⟨rfl, rfl⟩

theorem after_slotDisarm (s : State) (i : Fin 4096) : After (.slotDisarm i) s fun d =>
    d.blv.armed = s.dev.blv.armed.filter (fun a => a.slot != i.val) ∧ d.blv.events = s.dev.blv.events := by
  refine after_act _ (exec_slotDisarm i s) ?_
  rw [settle_blv]
  exact ⟨rfl, rfl⟩

/-! ### Enabling the scheduler -/

theorem exec_schedulerEnable (s : State) : exec .schedulerEnable s = s.act Dev.enableSched := by unfold exec; rfl

theorem quiet_schedulerEnable {s : State} (h : s.dev.flag Reg.blvSchedCfg 16 = true) : Quiet .schedulerEnable s :=
  does_act _ (exec_schedulerEnable s) (if_pos h)

/-- The armed slots of an enabled scheduler are looked through for events that lie in the past. -/
theorem Dev.enableSched_of_off {d : Dev} (h : d.flag Reg.blvSchedCfg 16 = false) : d.enableSched =
    (d.blv.armed.map (·.slot)).foldl (fun d i => d.skipPast i) (d.setFld Reg.blvSchedCfg 16 1 1) :=
  if_neg (by rw [h]; exact Bool.false_ne_true)

theorem Dev.enableSched_flag {d : Dev} (hw : cellsWf d.regs = true) (h : d.flag Reg.blvSchedCfg 16 = false) :
    d.enableSched.flag Reg.blvSchedCfg 16 = true := by
  have hskipped : (d.setFld Reg.blvSchedCfg 16 1 1).Skipped d.enableSched := by
    rw [Dev.enableSched_of_off h]
    exact SettleClosed.foldl _ (fun e i he => he.skipSlot i _) _ _ (.refl (Dev.setFld_wf hw ..))
  rw [Dev.flag, Dev.fld, hskipped.rd _ (by decide), Dev.rd_setFld hw, if_pos rfl, fieldOf_setField_same _ (by decide)]
  rfl

/-- A record finds room in the result FIFO. -/
theorem Dev.pushResult_room {d : Dev} (h : d.blv.res.length < 256) (vt slot type err event data : Nat) (late : Int) (skips : Nat) :
    ∃ x, d.pushResult vt slot type err event data late skips = d.onBlv fun b => { b with res := b.res ++ [x] } :=
  ⟨_, if_neg (Nat.not_le.mpr h)⟩

/-- The only armed slot, none of whose events is dispatched any more and none left, disarms itself (R254). -/
theorem Dev.slotDone_single {d : Dev} {a : ArmedSlot} (harmed : d.blv.armed = [a]) (hend : eventsOf (d.slotImg a.slot) = some a.next)
    (hevents : d.blv.events = []) :
    d.slotDone a.slot = d.onBlv fun b => { b with armed := b.armed.filter fun y => y.slot != a.slot } := by
  have hfound : d.armedSlot? a.slot = some a := by simp [Dev.armedSlot?, harmed]
  simp only [Dev.slotDone, hfound]
  exact if_pos ⟨hend, by simp [hevents]⟩

/-- An armed slot after its first event has been skipped. -/
def Dev.pastFirst (d : Dev) (a : ArmedSlot) : ArmedSlot := { a with next := 1, ref := d.fab.nextSeq }

/-- The device with the first event of a slot skipped, counted and recorded, before the slot is done (R259, R262). -/
def Dev.firstSkipped (d : Dev) (i : Nat) (record : List Byte) : Dev :=
  ((d.bump Reg.blvSkipCount 1).onBlv fun b => { b with res := b.res ++ [record] }).onBlv fun b =>
    { b with armed := b.armed.map fun y => if y.slot = i then d.pastFirst y else y }

/-- The only armed slot, with one event and none dispatched, is skipped and disarms itself (R254, R259). -/
theorem Dev.skipPast_single {d : Dev} (hw : cellsWf d.regs = true) {a : ArmedSlot} (harmed : d.blv.armed = [a]) (hnext : a.next = 0)
    (hperiod : bitsOf (d.slotImg a.slot) 64 32 = 0) (hevents : d.blv.events = []) (hroom : d.blv.res.length < 256)
    (hpast : bitsOf (d.slotImg a.slot) 0 64 + slotTol (d.slotImg a.slot) < d.blv.vt) :
    (d.skipPast a.slot).blv.armed = [] ∧ (d.skipPast a.slot).blv.res.length = d.blv.res.length + 1 ∧
      (d.skipPast a.slot).rd Reg.blvSkipCount = d.rd Reg.blvSkipCount + 1 := by
  have hfound : d.armedSlot? a.slot = some a := by simp [Dev.armedSlot?, harmed]
  have hone : eventsOf (d.slotImg a.slot) = some 1 := if_pos hperiod
  have hfirst : firstFrom (d.slotImg a.slot) (d.blv.vt - slotTol (d.slotImg a.slot)) 0 = 1 := firstFrom_single hperiod (by omega)
  obtain ⟨x, hpush⟩ := Dev.pushResult_room (d := d.bump Reg.blvSkipCount 1) hroom (dueOf (d.slotImg a.slot) 0) a.slot 3 0 0 0 0 1
  have hskip : d.skipPast a.slot = (d.firstSkipped a.slot x).slotDone (d.pastFirst a).slot := by
    simp only [Dev.skipPast, Dev.skipSlot, hfound, hone, hnext, hfirst, Nat.min_self, Nat.sub_zero, hpush]
    rfl
  have hrd : ∀ off, (d.firstSkipped a.slot x).rd off = if off = Reg.blvSkipCount then d.rd Reg.blvSkipCount + 1 else d.rd off :=
    fun off => Dev.rd_bump hw ..
  have himg : (d.firstSkipped a.slot x).slotImg a.slot = d.slotImg a.slot :=
    Dev.slotImg_congr (fun off hoff => (hrd off).trans (if_neg (slotWord_ne (by decide) hoff))) _
  have harmed' : (d.firstSkipped a.slot x).blv.armed = [d.pastFirst a] := by simp [Dev.firstSkipped, harmed]
  rw [hskip, Dev.slotDone_single harmed' ((congrArg eventsOf himg).trans hone) hevents]
  refine ⟨?_, by simp [Dev.firstSkipped], (hrd _).trans (if_pos rfl)⟩
  simp [harmed']

theorem does_schedulerEnable {s : State} (hw : cellsWf s.dev.regs = true) (h : s.dev.flag Reg.blvSchedCfg 16 = false) :
    Does .schedulerEnable s fun d => d.flag Reg.blvSchedCfg 16 = true ∧ d.mem = s.dev.mem ∧
      ∀ a : ArmedSlot, s.dev.blv.armed = [a] → a.next = 0 → bitsOf (s.dev.slotImg a.slot) 64 32 = 0 → s.dev.blv.events = [] →
        s.dev.blv.res.length < 256 → bitsOf (s.dev.slotImg a.slot) 0 64 + slotTol (s.dev.slotImg a.slot) < s.dev.blv.vt →
        d.blv.armed = [] ∧ d.blv.res.length = s.dev.blv.res.length + 1 ∧ d.rd Reg.blvSkipCount = s.dev.rd Reg.blvSkipCount + 1 := by
  refine does_act _ (exec_schedulerEnable s) ⟨Dev.enableSched_flag (d := s.clear) hw h, Dev.enableSched_mem _, ?_⟩
  intro a harmed hnext hperiod hevents hroom hpast
  have hw1 : cellsWf (s.clear.setFld Reg.blvSchedCfg 16 1 1).regs = true := Dev.setFld_wf hw ..
  have himg : (s.clear.setFld Reg.blvSchedCfg 16 1 1).slotImg a.slot = s.dev.slotImg a.slot :=
    Dev.slotImg_congr (fun _ hoff => Dev.rd_wr_ne (d := s.clear) hw _ (slotWord_ne (by decide) hoff)) _
  obtain ⟨hdisarmed, hres, hcount⟩ := Dev.skipPast_single hw1 (a := a) harmed hnext (himg.symm ▸ hperiod) hevents hroom (himg.symm ▸ hpast)
  have henabled : s.clear.enableSched = (s.clear.setFld Reg.blvSchedCfg 16 1 1).skipPast a.slot := by
    rw [Dev.enableSched_of_off (d := s.clear) h, State.clear_blv, harmed]
    rfl
  rw [henabled]
  exact ⟨hdisarmed, hres, hcount.trans (congrArg (· + 1) (Dev.rd_wr_ne (d := s.clear) hw _ (by decide)))⟩

/-! ### Dispatch -/

theorem exec_eventDispatch (s : State) : exec .eventDispatch s = s.act fun d =>
    if !d.schedOn then d else match d.nextDispatch with | some a => d.dispatch a | none => d := by
  unfold exec; rfl

@[simp] theorem State.clear_schedOn (s : State) : s.clear.schedOn = s.dev.schedOn := rfl
@[simp] theorem State.clear_nextDispatch (s : State) : s.clear.nextDispatch = s.dev.nextDispatch := rfl

theorem quiet_eventDispatch {s : State} (h : s.dev.schedOn = false ∨ s.dev.nextDispatch = none) : Quiet .eventDispatch s := by
  refine does_act _ (exec_eventDispatch s) ?_
  rcases h with h | h
  · exact if_pos (by rw [State.clear_schedOn, h]; rfl)
  · simp only [State.clear_nextDispatch, h, ite_self]

/-- The next event of an armed slot, as it is dispatched (R257, R258). -/
def Dev.nextEvent (d : Dev) (a : ArmedSlot) : BlvEvent :=
  { slot := a.slot, img := d.slotImg a.slot, n := a.next, due := dueOf (d.slotImg a.slot) a.next, ref := a.ref, id := d.blv.nextId }

/-- Outside STANDBY the event joins the dispatched ones, and its slot goes on to the next (R258). -/
theorem Dev.dispatch_of_not_standby {d : Dev} (h : d.standby = false) (a : ArmedSlot) :
    (d.dispatch a).blv.events = d.blv.events ++ [d.nextEvent a] ∧
    (d.dispatch a).blv.armed = d.blv.armed.map fun (x : ArmedSlot) => if x.slot = a.slot then { x with next := a.next + 1 } else x := by
  have hkept : ∀ f P, ¬((d.onBlv f).standby = true ∧ P) := fun _ _ hs => Bool.false_ne_true (h.symm.trans hs.1)
  unfold Dev.dispatch
  extract_lets img e d1
  rw [if_neg (hkept _ _)]
  exact ⟨rfl, rfl⟩

theorem after_eventDispatch {s : State} {a : ArmedSlot} (hon : s.dev.schedOn = true) (hnext : s.dev.nextDispatch = some a)
    (hstandby : s.dev.standby = false) : After .eventDispatch s fun d =>
      d.blv.events = s.dev.blv.events ++ [s.dev.nextEvent a] ∧
      d.blv.armed = s.dev.blv.armed.map fun (x : ArmedSlot) => if x.slot = a.slot then { x with next := a.next + 1 } else x := by
  refine after_act _ (exec_eventDispatch s) ?_
  simp only [State.clear_schedOn, hon, State.clear_nextDispatch, hnext, settle_blv]
  exact Dev.dispatch_of_not_standby (d := s.clear) hstandby a

/-- Settles O39, an operation at a time. -/
theorem schedulerSlots : Obligations.SchedulerSlots := by
  unfold Obligations.SchedulerSlots
  intro s i w v be hInv
  have hw := hInv.regs
  exact ⟨fun h c hc => does_armed_refused hw h hc,
    fun h => ⟨does_slotWrite hw h w v be, does_slotArm_rejected hw h, after_slotArm hw h⟩,
    after_slotDisarm s i, quiet_schedulerEnable, does_schedulerEnable hw, quiet_eventDispatch, fun _ => after_eventDispatch⟩

end Sys2Proof.Machine
end

section
/-!
O4: the invariant of the block, over one step (R282, R416, R417, R457).
-/
namespace Sys2Proof.Machine

/-- The invariant speaks of the device alone, so the queue may hold any commands. -/
theorem Inv.withPending {s : State} (h : Inv s) (q : List Instr) : Inv { s with pending := q } := h

/-- A TIME edge with no command waiting keeps the invariant. -/
theorem idle_inv (s : State) (h : Inv s) (t : State) (ht : idle s = .next t) : Inv t :=
  State.act_inv s _ h (fun d hd => d.timeEdge_sound hd) t ht

/-- Every command keeps the invariant: in the order of the commands, each by the lemma about its own meaning. -/
theorem exec_inv (c : Instr) (s : State) (h : Inv s) (t : State) (ht : exec c s = .next t) : Inv t := by
  unfold exec at ht
  cases c with
  | registerWrite => exact execRegisterWrite_inv (h := h) (ht := ht) ..
  | setAliasWrite => exact execSetAliasWrite_inv (h := h) (ht := ht) ..
  | clearAliasWrite => exact execClearAliasWrite_inv (h := h) (ht := ht) ..
  | toggleAliasWrite => exact execToggleAliasWrite_inv (h := h) (ht := ht) ..
  | maskedWrite => exact execMaskedWrite_inv (h := h) (ht := ht) ..
  | keyedArm => exact execKeyedArm_inv (h := h) (ht := ht) ..
  | keyedCommit => exact execKeyedCommit_inv (h := h) (ht := ht) ..
  | keyedExpiry => exact execKeyedExpiry_inv (h := h) (ht := ht) ..
  | rwsApply => exact execRwsApply_inv (h := h) (ht := ht) ..
  | rw64LowWrite => exact execRw64LowWrite_inv (h := h) (ht := ht) ..
  | rw64HighWrite => exact execRw64HighWrite_inv (h := h) (ht := ht) ..
  | rw64FullWrite => exact execRw64FullWrite_inv (h := h) (ht := ht) ..
  | cfgParityMismatch => exact execCfgParityMismatch_inv (h := h) (ht := ht) ..
  | warmReset => exact execWarmReset_inv (h := h) (ht := ht) ..
  | blockReset => exact execBlockReset_inv (h := h) (ht := ht) ..
  | restoreFactory => exact execRestoreFactory_inv (h := h) (ht := ht) ..
  | calEraseDone => exact execCalEraseDone_inv (h := h) (ht := ht) ..
  | vtLoRead => exact execVtLoRead_inv (h := h) (ht := ht) ..
  | hostMwr => exact execHostMwr_inv (h := h) (ht := ht) ..
  | hostMrd => exact execHostMrd_inv (h := h) (ht := ht) ..
  | hostFetchadd => exact execHostFetchadd_inv (h := h) (ht := ht) ..
  | hostSwap => exact execHostSwap_inv (h := h) (ht := ht) ..
  | hostCas => exact execHostCas_inv (h := h) (ht := ht) ..
  | hostConfigRequest => exact execHostConfigRequest_inv (h := h) (ht := ht) ..
  | hostIoRequest => exact execHostIoRequest_inv (h := h) (ht := ht) ..
  | hostMessage => exact execHostMessage_inv (h := h) (ht := ht) ..
  | hostBar4Access => exact execHostBar4Access_inv (h := h) (ht := ht) ..
  | msixUnmask => exact execMsixUnmask_inv (h := h) (ht := ht) ..
  | hostCompletionReturn => exact execHostCompletionReturn_inv (h := h) (ht := ht) ..
  | inbWatchdogExpiry => exact execInbWatchdogExpiry_inv (h := h) (ht := ht) ..
  | outboundWrite => exact execOutboundWrite_inv (h := h) (ht := ht) ..
  | outboundReadIssue => exact execOutboundReadIssue_inv (h := h) (ht := ht) ..
  | outboundCompletion => exact execOutboundCompletion_inv (h := h) (ht := ht) ..
  | outboundCplTimeout => exact execOutboundCplTimeout_inv (h := h) (ht := ht) ..
  | msixMessageSend => exact execMsixMessageSend_inv (h := h) (ht := ht) ..
  | hostLinkLoss => exact execHostLinkLoss_inv (h := h) (ht := ht) ..
  | functionLevelReset => exact execFunctionLevelReset_inv (h := h) (ht := ht) ..
  | d3hotEntry => exact execD3hotEntry_inv (h := h) (ht := ht) ..
  | hostLinkUp => exact execHostLinkUp_inv (h := h) (ht := ht) ..
  | hpReconfig => exact execHpReconfig_inv (h := h) (ht := ht) ..
  | linkRetrain => exact execLinkRetrain_inv (h := h) (ht := ht) ..
  | windowDisable => exact execWindowDisable_inv (h := h) (ht := ht) ..
  | orderBarrier => exact execOrderBarrier_inv (h := h) (ht := ht) ..
  | completeBarrier => exact execCompleteBarrier_inv (h := h) (ht := ht) ..
  | barrierDone => exact execBarrierDone_inv (h := h) (ht := ht) ..
  | lwBarrierRead => exact execLwBarrierRead_inv (h := h) (ht := ht) ..
  | hostSemClaim => exact execHostSemClaim_inv (h := h) (ht := ht) ..
  | hostSemRelease => exact execHostSemRelease_inv (h := h) (ht := ht) ..
  | hostSemGrant => exact execHostSemGrant_inv (h := h) (ht := ht) ..
  | endpointRequest => exact execEndpointRequest_inv (h := h) (ht := ht) ..
  | writePerformed => exact execWritePerformed_inv (h := h) (ht := ht) ..
  | pwbEntryFree => exact execPwbEntryFree_inv (h := h) (ht := ht) ..
  | cwbLineAgeExpiry => exact execCwbLineAgeExpiry_inv (h := h) (ht := ht) ..
  | waitingReadRelease => exact execWaitingReadRelease_inv (h := h) (ht := ht) ..
  | reservationExpiry => exact execReservationExpiry_inv (h := h) (ht := ht) ..
  | prefetchExpiry => exact execPrefetchExpiry_inv (h := h) (ht := ht) ..
  | zoneRequestArrive => exact execZoneRequestArrive_inv (h := h) (ht := ht) ..
  | zoneRequestStart => exact execZoneRequestStart_inv (h := h) (ht := ht) ..
  | zoneLockedRmw => exact execZoneLockedRmw_inv (h := h) (ht := ht) ..
  | lbusCycleTermination => exact execLbusCycleTermination_inv (h := h) (ht := ht) ..
  | retryReissue => exact execRetryReissue_inv (h := h) (ht := ht) ..
  | zoneTimeout => exact execZoneTimeout_inv (h := h) (ht := ht) ..
  | busRequest => exact execBusRequest_inv (h := h) (ht := ht) ..
  | arbitration => exact execArbitration_inv (h := h) (ht := ht) ..
  | extGrant => exact execExtGrant_inv (h := h) (ht := ht) ..
  | guardWindowStart => exact execGuardWindowStart_inv (h := h) (ht := ht) ..
  | busMonitorObserve => exact execBusMonitorObserve_inv (h := h) (ht := ht) ..
  | slavePostedWrite => exact execSlavePostedWrite_inv (h := h) (ht := ht) ..
  | slaveRead => exact execSlaveRead_inv (h := h) (ht := ht) ..
  | slaveDelayedWrite => exact execSlaveDelayedWrite_inv (h := h) (ht := ht) ..
  | slaveCondStore => exact execSlaveCondStore_inv (h := h) (ht := ht) ..
  | slaveLockedCycle => exact execSlaveLockedCycle_inv (h := h) (ht := ht) ..
  | slaveFlushCycle => exact execSlaveFlushCycle_inv (h := h) (ht := ht) ..
  | lwBarrierWrite => exact execLwBarrierWrite_inv (h := h) (ht := ht) ..
  | slaveSlotCollect => exact execSlaveSlotCollect_inv (h := h) (ht := ht) ..
  | drCompletion => exact execDrCompletion_inv (h := h) (ht := ht) ..
  | lholdExpiry => exact execLholdExpiry_inv (h := h) (ht := ht) ..
  | drDiscardExpiry => exact execDrDiscardExpiry_inv (h := h) (ht := ht) ..
  | lockRelease => exact execLockRelease_inv (h := h) (ht := ht) ..
  | lockLimitExpiry => exact execLockLimitExpiry_inv (h := h) (ht := ht) ..
  | lresetRelease => exact execLresetRelease_inv (h := h) (ht := ht) ..
  | lclkLoss => exact execLclkLoss_inv (h := h) (ht := ht) ..
  | lclkRecovery => exact execLclkRecovery_inv (h := h) (ht := ht) ..
  | lirqSample => exact execLirqSample_inv (h := h) (ht := ht) ..
  | lirqAccept => exact execLirqAccept_inv (h := h) (ht := ht) ..
  | lirqEffect => exact execLirqEffect_inv (h := h) (ht := ht) ..
  | lirqQueueRoom => exact execLirqQueueRoom_inv (h := h) (ht := ht) ..
  | linkTrained => exact execLinkTrained_inv (h := h) (ht := ht) ..
  | trainingRetry => exact execTrainingRetry_inv (h := h) (ht := ht) ..
  | helloSend => exact execHelloSend_inv (h := h) (ht := ht) ..
  | helloReceive => exact execHelloReceive_inv (h := h) (ht := ht) ..
  | itmLinkRestart => exact execItmLinkRestart_inv (h := h) (ht := ht) ..
  | flitCrcFail => exact execFlitCrcFail_inv (h := h) (ht := ht) ..
  | replayNak => exact execReplayNak_inv (h := h) (ht := ht) ..
  | replayTimeout => exact execReplayTimeout_inv (h := h) (ht := ht) ..
  | retrainTimeout => exact execRetrainTimeout_inv (h := h) (ht := ht) ..
  | laneFailure => exact execLaneFailure_inv (h := h) (ht := ht) ..
  | laneSwap => exact execLaneSwap_inv (h := h) (ht := ht) ..
  | laneSwapResend => exact execLaneSwapResend_inv (h := h) (ht := ht) ..
  | role => exact execRole_inv (h := h) (ht := ht) ..
  | retrainReq => exact execRetrainReq_inv (h := h) (ht := ht) ..
  | itmMwr => exact execItmMwr_inv (h := h) (ht := ht) ..
  | itmMwrNp => exact execItmMwrNp_inv (h := h) (ht := ht) ..
  | itmMrd => exact execItmMrd_inv (h := h) (ht := ht) ..
  | itmRsvLd => exact execItmRsvLd_inv (h := h) (ht := ht) ..
  | itmCondSt => exact execItmCondSt_inv (h := h) (ht := ht) ..
  | itmFetchadd => exact execItmFetchadd_inv (h := h) (ht := ht) ..
  | itmSwap => exact execItmSwap_inv (h := h) (ht := ht) ..
  | itmCas => exact execItmCas_inv (h := h) (ht := ht) ..
  | itmWbar => exact execItmWbar_inv (h := h) (ht := ht) ..
  | itmCompletion => exact execItmCompletion_inv (h := h) (ht := ht) ..
  | itmReqTimeout => exact execItmReqTimeout_inv (h := h) (ht := ht) ..
  | wbarTimeout => exact execWbarTimeout_inv (h := h) (ht := ht) ..
  | intAssert => exact execIntAssert_inv (h := h) (ht := ht) ..
  | intDeassert => exact execIntDeassert_inv (h := h) (ht := ht) ..
  | faultNote => exact execFaultNote_inv (h := h) (ht := ht) ..
  | itmFrame => exact execItmFrame_inv (h := h) (ht := ht) ..
  | timeSyncSend => exact execTimeSyncSend_inv (h := h) (ht := ht) ..
  | timeSync => exact execTimeSync_inv (h := h) (ht := ht) ..
  | delayReqSend => exact execDelayReqSend_inv (h := h) (ht := ht) ..
  | delayReq => exact execDelayReq_inv (h := h) (ht := ht) ..
  | delayResp => exact execDelayResp_inv (h := h) (ht := ht) ..
  | stateReg => exact execStateReg_inv (h := h) (ht := ht) ..
  | stateMem => exact execStateMem_inv (h := h) (ht := ht) ..
  | stateMirror => exact execStateMirror_inv (h := h) (ht := ht) ..
  | stateStarted => exact execStateStarted_inv (h := h) (ht := ht) ..
  | stateRetired => exact execStateRetired_inv (h := h) (ht := ht) ..
  | stateExecuted => exact execStateExecuted_inv (h := h) (ht := ht) ..
  | stateHeartbeat => exact execStateHeartbeat_inv (h := h) (ht := ht) ..
  | stateBulk => exact execStateBulk_inv (h := h) (ht := ht) ..
  | stateSyncDone => exact execStateSyncDone_inv (h := h) (ht := ht) ..
  | counterMismatch => exact execCounterMismatch_inv (h := h) (ht := ht) ..
  | sourceValid => exact execSourceValid_inv (h := h) (ht := ht) ..
  | sourceInvalid => exact execSourceInvalid_inv (h := h) (ht := ht) ..
  | revertHoldExpiry => exact execRevertHoldExpiry_inv (h := h) (ht := ht) ..
  | holdoverLimit => exact execHoldoverLimit_inv (h := h) (ht := ht) ..
  | ppsEdge => exact execPpsEdge_inv (h := h) (ht := ht) ..
  | rateWrite => exact execRateWrite_inv (h := h) (ht := ht) ..
  | slewWrite => exact execSlewWrite_inv (h := h) (ht := ht) ..
  | vtStep => exact execVtStep_inv (h := h) (ht := ht) ..
  | slotWrite => exact execSlotWrite_inv (h := h) (ht := ht) ..
  | slotArm => exact execSlotArm_inv (h := h) (ht := ht) ..
  | slotDisarm => exact execSlotDisarm_inv (h := h) (ht := ht) ..
  | schedulerEnable => exact execSchedulerEnable_inv (h := h) (ht := ht) ..
  | eventDispatch => exact execEventDispatch_inv (h := h) (ht := ht) ..
  | triggerExecute => exact execTriggerExecute_inv (h := h) (ht := ht) ..
  | pulseReturn => exact execPulseReturn_inv (h := h) (ht := ht) ..
  | timedWriteExecute => exact execTimedWriteExecute_inv (h := h) (ht := ht) ..
  | timedReadExecute => exact execTimedReadExecute_inv (h := h) (ht := ht) ..
  | canReleaseExecute => exact execCanReleaseExecute_inv (h := h) (ht := ht) ..
  | timedAccessComplete => exact execTimedAccessComplete_inv (h := h) (ht := ht) ..
  | tioCapture => exact execTioCapture_inv (h := h) (ht := ht) ..
  | resultPop => exact execResultPop_inv (h := h) (ht := ht) ..
  | capturePop => exact execCapturePop_inv (h := h) (ht := ht) ..
  | txtsPop => exact execTxtsPop_inv (h := h) (ht := ht) ..
  | elPop => exact execElPop_inv (h := h) (ht := ht) ..
  | intEoi => exact execIntEoi_inv (h := h) (ht := ht) ..
  | intVectorWrite => exact execIntVectorWrite_inv (h := h) (ht := ht) ..
  | resetDrainEnd => exact execResetDrainEnd_inv (h := h) (ht := ht) ..
  | supplyCollapse => exact execSupplyCollapse_inv (h := h) (ht := ht) ..
  | gzbPiWrite => exact execGzbPiWrite_inv (h := h) (ht := ht) ..
  | gzbChannelCtl => exact execGzbChannelCtl_inv (h := h) (ht := ht) ..
  | gzbRunStart => exact execGzbRunStart_inv (h := h) (ht := ht) ..
  | gzbDescFetchDone => exact execGzbDescFetchDone_inv (h := h) (ht := ht) ..
  | gzbReadCompletion => exact execGzbReadCompletion_inv (h := h) (ht := ht) ..
  | gzbHandback => exact execGzbHandback_inv (h := h) (ht := ht) ..
  | gzbHalt => exact execGzbHalt_inv (h := h) (ht := ht) ..
  | gzbDrainDone => exact execGzbDrainDone_inv (h := h) (ht := ht) ..
  | restartResume => exact execRestartResume_inv (h := h) (ht := ht) ..
  | restartSkip => exact execRestartSkip_inv (h := h) (ht := ht) ..
  | canFrameRx => exact execCanFrameRx_inv (h := h) (ht := ht) ..
  | linFrameRx => exact execLinFrameRx_inv (h := h) (ht := ht) ..
  | linHeaderRx => exact execLinHeaderRx_inv (h := h) (ht := ht) ..
  | ethFrameRx => exact execEthFrameRx_inv (h := h) (ht := ht) ..
  | trlLookup => exact execTrlLookup_inv (h := h) (ht := ht) ..
  | lookupResult => exact execLookupResult_inv (h := h) (ht := ht) ..
  | authVerify => exact execAuthVerify_inv (h := h) (ht := ht) ..
  | authGenerate => exact execAuthGenerate_inv (h := h) (ht := ht) ..
  | macsecRx => exact execMacsecRx_inv (h := h) (ht := ht) ..
  | macsecTx => exact execMacsecTx_inv (h := h) (ht := ht) ..
  | canEgress => exact execCanEgress_inv (h := h) (ht := ht) ..
  | canTransmit => exact execCanTransmit_inv (h := h) (ht := ht) ..
  | canTxDone => exact execCanTxDone_inv (h := h) (ht := ht) ..
  | canBusOff => exact execCanBusOff_inv (h := h) (ht := ht) ..
  | canBusRecovery => exact execCanBusRecovery_inv (h := h) (ht := ht) ..
  | txload => exact execTxload_inv (h := h) (ht := ht) ..
  | linEgress => exact execLinEgress_inv (h := h) (ht := ht) ..
  | linScheduleEntry => exact execLinScheduleEntry_inv (h := h) (ht := ht) ..
  | ethEgress => exact execEthEgress_inv (h := h) (ht := ht) ..
  | ethTransmit => exact execEthTransmit_inv (h := h) (ht := ht) ..
  | tasGateChange => exact execTasGateChange_inv (h := h) (ht := ht) ..
  | tunnelEgress => exact execTunnelEgress_inv (h := h) (ht := ht) ..
  | tunnelFlush => exact execTunnelFlush_inv (h := h) (ht := ht) ..
  | captureRecordCommit => exact execCaptureRecordCommit_inv (h := h) (ht := ht) ..
  | pduTriggeredSend => exact execPduTriggeredSend_inv (h := h) (ht := ht) ..
  | pduCyclicSend => exact execPduCyclicSend_inv (h := h) (ht := ht) ..
  | pduGapEnd => exact execPduGapEnd_inv (h := h) (ht := ht) ..
  | agePromoteExpiry => exact execAgePromoteExpiry_inv (h := h) (ht := ht) ..
  | seqLossTimeout => exact execSeqLossTimeout_inv (h := h) (ht := ht) ..
  | planeDisable => exact execPlaneDisable_inv (h := h) (ht := ht) ..
  | trlInsert => exact execTrlInsert_inv (h := h) (ht := ht) ..
  | trlDelete => exact execTrlDelete_inv (h := h) (ht := ht) ..
  | trlFind => exact execTrlFind_inv (h := h) (ht := ht) ..
  | sweeperVisit => exact execSweeperVisit_inv (h := h) (ht := ht) ..
  | parkRetry => exact execParkRetry_inv (h := h) (ht := ht) ..
  | parkLockLimit => exact execParkLockLimit_inv (h := h) (ht := ht) ..
  | tableSwitch => exact execTableSwitch_inv (h := h) (ht := ht) ..
  | genAdvance => exact execGenAdvance_inv (h := h) (ht := ht) ..
  | rehashPop => exact execRehashPop_inv (h := h) (ht := ht) ..
  | keySlotLoad => exact execKeySlotLoad_inv (h := h) (ht := ht) ..
  | keySlotErase => exact execKeySlotErase_inv (h := h) (ht := ht) ..
  | keySlotExport => exact execKeySlotExport_inv (h := h) (ht := ht) ..
  | keyOpDone => exact execKeyOpDone_inv (h := h) (ht := ht) ..
  | failPop => exact execFailPop_inv (h := h) (ht := ht) ..
  | canWup => exact execCanWup_inv (h := h) (ht := ht) ..
  | canWakeFrame => exact execCanWakeFrame_inv (h := h) (ht := ht) ..
  | linWake => exact execLinWake_inv (h := h) (ht := ht) ..
  | phyWake => exact execPhyWake_inv (h := h) (ht := ht) ..
  | wakePin => exact execWakePin_inv (h := h) (ht := ht) ..
  | wakeTimer => exact execWakeTimer_inv (h := h) (ht := ht) ..
  | itemStart => exact execItemStart_inv (h := h) (ht := ht) ..
  | itemReady => exact execItemReady_inv (h := h) (ht := ht) ..
  | standbyEntry => exact execStandbyEntry_inv (h := h) (ht := ht) ..
  | sleepEntry => exact execSleepEntry_inv (h := h) (ht := ht) ..
  | itemSwitchOff => exact execItemSwitchOff_inv (h := h) (ht := ht) ..
  | evtPop => exact execEvtPop_inv (h := h) (ht := ht) ..
  | xtalFail => exact execXtalFail_inv (h := h) (ht := ht) ..
  | lockstepMismatch => exact execLockstepMismatch_inv (h := h) (ht := ht) ..
  | clockOutOfRange => exact execClockOutOfRange_inv (h := h) (ht := ht) ..
  | supplyOutOfRange => exact execSupplyOutOfRange_inv (h := h) (ht := ht) ..
  | planeFault => exact execPlaneFault_inv (h := h) (ht := ht) ..
  | arcadeHeartbeatMissing => exact execArcadeHeartbeatMissing_inv (h := h) (ht := ht) ..
  | unitFault => exact execUnitFault_inv (h := h) (ht := ht) ..
  | safeRestart => exact execSafeRestart_inv (h := h) (ht := ht) ..
  | scrubVisit => exact execScrubVisit_inv (h := h) (ht := ht) ..
  | swapIn => exact execSwapIn_inv (h := h) (ht := ht) ..
  | notePop => exact execNotePop_inv (h := h) (ht := ht) ..
  | twinPreferWait => exact execTwinPreferWait_inv (h := h) (ht := ht) ..
  | twinDualActive => exact execTwinDualActive_inv (h := h) (ht := ht) ..
  | twinTieRound => exact execTwinTieRound_inv (h := h) (ht := ht) ..
  | takeover => exact execTakeover_inv (h := h) (ht := ht) ..
  | stateStreamTimeout => exact execStateStreamTimeout_inv (h := h) (ht := ht) ..
  | heartbeatSend => exact execHeartbeatSend_inv (h := h) (ht := ht) ..
  | resyncStart => exact execResyncStart_inv (h := h) (ht := ht) ..
  | mirrorAck => exact execMirrorAck_inv (h := h) (ht := ht) ..
  | mirrorAckTimeout => exact execMirrorAckTimeout_inv (h := h) (ht := ht) ..
  | plannedHandover => exact execPlannedHandover_inv (h := h) (ht := ht) ..
  | alwaysOnPowerUp => exact execAlwaysOnPowerUp_inv (h := h) (ht := ht) ..
  | powerOnReset => exact execPowerOnReset_inv (h := h) (ht := ht) ..
  | dramTrainingDone => exact execDramTrainingDone_inv (h := h) (ht := ht) ..
  | dramInitDone => exact execDramInitDone_inv (h := h) (ht := ht) ..
  | dramDriftCheck => exact execDramDriftCheck_inv (h := h) (ht := ht) ..
  | cfgReapply => exact execCfgReapply_inv (h := h) (ht := ht) ..
  | flashRead => exact execFlashRead_inv (h := h) (ht := ht) ..
  | flashWrite => exact execFlashWrite_inv (h := h) (ht := ht) ..
  | slotState => exact execSlotState_inv (h := h) (ht := ht) ..
  | keyLoad => exact execKeyLoad_inv (h := h) (ht := ht) ..
  | keyProvision => exact execKeyProvision_inv (h := h) (ht := ht) ..
  | devkeyPub => exact execDevkeyPub_inv (h := h) (ht := ht) ..
  | calWrite => exact execCalWrite_inv (h := h) (ht := ht) ..
  | sleep => exact execSleep_inv (h := h) (ht := ht) ..
  | arcRestart => exact execArcRestart_inv (h := h) (ht := ht) ..
  | kioskRd => exact execKioskRd_inv (h := h) (ht := ht) ..
  | kioskDump => exact execKioskDump_inv (h := h) (ht := ht) ..
  | kioskWr => exact execKioskWr_inv (h := h) (ht := ht) ..
  | kioskWin => exact execKioskWin_inv (h := h) (ht := ht) ..
  | kioskTab => exact execKioskTab_inv (h := h) (ht := ht) ..
  | kioskTime => exact execKioskTime_inv (h := h) (ht := ht) ..
  | kioskTwin => exact execKioskTwin_inv (h := h) (ht := ht) ..
  | kioskTwinSwitch => exact execKioskTwinSwitch_inv (h := h) (ht := ht) ..
  | kioskSpare => exact execKioskSpare_inv (h := h) (ht := ht) ..
  | kioskSpareSwap => exact execKioskSpareSwap_inv (h := h) (ht := ht) ..
  | kioskLog => exact execKioskLog_inv (h := h) (ht := ht) ..
  | kioskLogPop => exact execKioskLogPop_inv (h := h) (ht := ht) ..
  | kioskRestoreFactory => exact execKioskRestoreFactory_inv (h := h) (ht := ht) ..
  | kioskUnlock => exact execKioskUnlock_inv (h := h) (ht := ht) ..
  | kioskUnlockResponse => exact execKioskUnlockResponse_inv (h := h) (ht := ht) ..
  | kioskLock => exact execKioskLock_inv (h := h) (ht := ht) ..
  | kioskReboot => exact execKioskReboot_inv (h := h) (ht := ht) ..
  | kioskRebootCold => exact execKioskRebootCold_inv (h := h) (ht := ht) ..
  | kioskLockoutExpiry => exact execKioskLockoutExpiry_inv (h := h) (ht := ht) ..
  | kioskIdleTimeout => exact execKioskIdleTimeout_inv (h := h) (ht := ht) ..
  | ethLinkChange => exact execEthLinkChange_inv (h := h) (ht := ht) ..
  | twinFailNChange => exact execTwinFailNChange_inv (h := h) (ht := ht) ..
  | canBusError => exact execCanBusError_inv (h := h) (ht := ht) ..
  | canBusIntegration => exact execCanBusIntegration_inv (h := h) (ht := ht) ..
  | linDomStuck => exact execLinDomStuck_inv (h := h) (ht := ht) ..
  | linNoResponse => exact execLinNoResponse_inv (h := h) (ht := ht) ..

/-- Settles O4: a step performs the command at the front of the queue, which keeps the invariant whichever it is (`exec_inv`), or, with no
command waiting, one TIME edge (`idle_inv`). -/
theorem stepsKeepSound : Obligations.StepsKeepSound := by
  unfold Obligations.StepsKeepSound
  intro s t h ht
  unfold step at ht
  split at ht
  · exact exec_inv _ _ (h.withPending _) t ht
  · exact idle_inv s h t ht

end Sys2Proof.Machine
end

section
/-!
SUPPORT. The channels of the Gazebo, and what issuing a request leaves of them.
-/
namespace Sys2Proof.Machine

/-! ### A channel -/

theorem Dev.chan_onChan {d : Dev} {c : Nat} (hc : c < d.gzb.chans.length) (f : GzbChan → GzbChan) : (d.onChan c f).chan c = f (d.chan c) := by
  simp [Dev.chan, Dev.onChan, hc]

theorem gzbReg_ne {a b : Nat} (h : a ≠ b) (c : Nat) : gzbReg a c ≠ gzbReg b c := fun he => h (Nat.add_right_cancel he)

theorem Dev.pi_lt (d : Dev) (c : Nat) : d.pi c < 65536 := Nat.mod_lt _ (by decide)

theorem Dev.ci_lt (d : Dev) (c : Nat) : d.ci c < 65536 := Nat.mod_lt _ (by decide)

/-! ### Issuing a request -/

theorem FabricClosed.issue {P : Dev → Prop} (hP : FabricClosed P) (d : Dev) (r : Req) (h : P d) : P (d.issue r) := by
  unfold Dev.issue
  extract_lets q
  split
  · exact hP.onFab d _ h
  · exact SettleClosed.ite (hP.onFab d _ h) (hP.accept d q h)

theorem fabricClosed_gzb (x : Gzb) : FabricClosed fun e => e.gzb = x where
  bump := fun _ _ _ _ h => h
  elog := fun _ _ h => h
  emit := fun _ _ h => h
  fab := fun _ _ _ h => h
  msgs := fun _ _ _ h => h
  intb := fun _ _ h => h

/-- A register of the GZB block other than EVT and BYTES, whose offsets in the block are those of HITS in a window's registers. -/
def GzbPlain (off : Nat) : Prop := off / 0x100000 = 9 ∧ off % 0x20 ≠ 0x18

theorem GzbPlain.not_fabricCounter {off : Nat} (h : GzbPlain off) : ¬FabricCounter off := by
  obtain ⟨hblock, hplace⟩ := h
  rintro (hoff | ⟨t, rfl⟩ | ⟨f, n, rfl⟩)
  · simp only [Reg.winDecodeMiss, Reg.hpLateCpl, Reg.intElOvf, Reg.intElWritten, List.mem_cons, List.not_mem_nil, or_false] at hoff
    omega
  · have hcode : errCode t < 256 := by cases t <;> decide
    simp only [Reg.intTypeCount] at hblock
    omega
  · cases f <;> simp only [winBase, Reg.winIwCtl, Reg.winOwCtl, Reg.winLwCtl, Reg.winLzCtl] at hplace <;> omega

theorem gzbPlain_gzbReg {base : Nat} (h : base ∈ [Reg.gzbChCtl, Reg.gzbChPi, Reg.gzbChCi]) (c : Fin 16) : GzbPlain (gzbReg base c) := by
  have hc := c.isLt
  simp only [List.mem_cons, List.not_mem_nil, or_false] at h
  rcases h with rfl | rfl | rfl <;> simp only [GzbPlain, gzbReg, Reg.gzbChCtl, Reg.gzbChPi, Reg.gzbChCi] <;> omega

theorem gzbPlain_gzbCtl : GzbPlain Reg.gzbCtl := ⟨rfl, by decide⟩

@[simp] theorem Dev.issue_gzb (d : Dev) (r : Req) : (d.issue r).gzb = d.gzb := (fabricClosed_gzb d.gzb).issue d r rfl

theorem Dev.rd_issue {d : Dev} (hw : cellsWf d.regs = true) (r : Req) {off : Nat} (h : GzbPlain off) : (d.issue r).rd off = d.rd off :=
  ((fabricClosed_keeps h.not_fabricCounter (d.rd off) d.fab).issue d r ⟨hw, rfl, .refl _⟩).2.1

/-! ### Fetching ahead -/

section
variable (d : Dev) (c kind idx pos ga len : Nat) (op : ReqOp) (data : WData) (entries : Nat)

theorem Dev.gzbRead_gzb : (d.gzbRead c kind idx pos ga len op data entries).gzb =
    { d.gzb with nextId := d.gzb.nextId + 1
                 reads := d.gzb.reads ++ [{ id := d.gzb.nextId, ch := c, kind := kind, idx := idx, pos := pos, len := entries }] } :=
  Dev.issue_gzb ..

@[simp] theorem Dev.chan_gzbRead (k : Nat) : (d.gzbRead c kind idx pos ga len op data entries).chan k = d.chan k := by
  simp only [Dev.chan, Dev.gzbRead_gzb]

theorem Dev.rd_gzbRead (hw : cellsWf d.regs = true) {off : Nat} (h : GzbPlain off) :
    (d.gzbRead c kind idx pos ga len op data entries).rd off = d.rd off := by
  unfold Dev.gzbRead
  exact Dev.rd_issue (d := d.onGzb _) hw _ h

end

@[simp] theorem Dev.chan_gzbFetch (d : Dev) (c k : Nat) : (d.gzbFetch c).chan k = d.chan k := by
  unfold Dev.gzbFetch
  extract_lets y ahead next
  split
  · rfl
  · split
    · rfl
    · exact Dev.chan_gzbRead ..

theorem Dev.rd_gzbFetch {d : Dev} (hw : cellsWf d.regs = true) (c : Nat) {off : Nat} (h : GzbPlain off) : (d.gzbFetch c).rd off = d.rd off := by
  unfold Dev.gzbFetch
  extract_lets y ahead next
  split
  · rfl
  · split
    · rfl
    · exact Dev.rd_gzbRead _ _ _ _ _ _ _ _ _ _ hw h

/-- An idle channel that owns descriptors fetches the one at CI, where nothing is being read (R307, R313). -/
theorem Dev.gzbFetch_first {d : Dev} {c : Nat} (hdrain : d.gzb.draining = false) (hlive : d.live = true) (hmiss : (d.chan c).ownWait = false)
    (howned : d.owned c ≠ 0) (hwork : (d.chan c).work = []) (hfetched : (d.chan c).fetched = []) (hreads : d.gzb.reads = []) :
    d.gzbFetch c = d.gzbRead c 0 (d.ci c) 0 (d.descGa c (d.ci c) / 64 * 64) 64 .read [] 1 := by
  have hroom : d.gzbRoom 1 = true := by simp [Dev.gzbRoom, Dev.queueUsed, hreads]
  have hci : d.ci c % 65536 = d.ci c := Nat.mod_eq_of_lt (d.ci_lt c)
  simp [Dev.gzbFetch, hdrain, hlive, hmiss, howned, hwork, hfetched, hreads, hroom, hci]

/-! ### Going on with a channel -/

/-- Where nothing is in processing and nothing is fetched, there is nothing to go on with. -/
theorem Dev.gzbPump_idle {d : Dev} {c : Nat} (hwork : (d.chan c).work = []) (hfetched : (d.chan c).fetched = []) (fuel : Nat) :
    d.gzbPump c fuel = d := by
  cases fuel with
  | zero => rfl
  | succ n => simp [Dev.gzbPump, hwork, hfetched]

/-- A run does not end while a descriptor it may begin is being fetched (R319). -/
theorem Dev.endRun_fetching {d : Dev} {c : Nat} (hbegin : d.mayBegin c = true) (hmiss : (d.chan c).ownWait = false)
    (hfetch : (d.gzb.reads.any fun r => r.ch == c && r.kind == 0) = true) : d.endRun c = d := by
  simp [Dev.endRun, hbegin, hmiss, hfetch]

end Sys2Proof.Machine
end

section
/-!
O42: the producer index, the control and the next run of a channel of the Gazebo (R305, R319, R320, R326).
-/
namespace Sys2Proof.Machine

/-! ### The producer index -/

/-- A channel whose PI has been written may run again, but for HOLD (R305, R320). -/
def GzbChan.resumed (y : GzbChan) : GzbChan := { y with ownWait := false, stopped := false, cause := if y.held then 1 else 0 }

/-- A PI for which the ring has no room is refused. -/
theorem Dev.piWrite_refused {d : Dev} {c : Nat} {v : Word}
    (h : d.ringSize c - d.owned c < ((maskedValue (d.rd (gzbReg Reg.gzbChPi c)) v 0xFFFF).toNat % 65536 + 65536 - d.pi c) % 65536) :
    d.piWrite c v = d.bump Reg.sysAccessReject := if_pos h

/-- A PI for which the ring has room is taken; of a channel that does not run, the descriptor at CI may be fetched. -/
theorem Dev.piWrite_taken {d : Dev} (hw : cellsWf d.regs = true) (c : Fin 16) {v : Word} (hc : c.val < d.gzb.chans.length)
    (h : ((maskedValue (d.rd (gzbReg Reg.gzbChPi c)) v 0xFFFF).toNat % 65536 + 65536 - d.pi c) % 65536 ≤ d.ringSize c - d.owned c)
    (hrun : d.gzb.running ≠ some c.val) :
    (d.piWrite c v).pi c = (maskedValue (d.rd (gzbReg Reg.gzbChPi c)) v 0xFFFF).toNat % 65536 ∧
      (d.piWrite c v).chan c = (d.chan c).resumed := by
  unfold Dev.piWrite
  extract_lets off new e
  have hwe : cellsWf e.regs = true := Dev.setFld_wf hw ..
  have hpi : e.pi c = new := (Dev.fld_setFld_same hw (by decide) off new).trans (Nat.mod_mod ..)
  have hchan : e.chan c = (d.chan c).resumed := Dev.chan_onChan (d := d.setFld off 0 16 new) hc _
  have hfetched : (e.gzbFetch c).pi c = new := by
    rw [Dev.pi, Dev.fld, Dev.rd_gzbFetch hwe c.val (gzbPlain_gzbReg (by decide) c)]
    exact hpi
  rw [if_neg (Nat.not_lt.mpr h), if_neg (show e.gzb.running ≠ some c.val from hrun)]
  split
  · exact ⟨hfetched, (Dev.chan_gzbFetch ..).trans hchan⟩
  · exact ⟨hpi, hchan⟩

/-! ### The control -/

/-- A channel that is enabled: it starts anew, held or not (R305, R320). -/
def GzbChan.enabled (y : GzbChan) (hold : Bool) : GzbChan :=
  { y with off := false, stopped := false, held := hold, pend := 0, ownWait := false, cause := if hold then 1 else 0, fetched := [],
           lastRaw := none, skipNext := false }

/-- CI takes the value of PI: the ring is empty (R305). -/
def Dev.emptied (d : Dev) (c : Nat) : Dev := d.setFld (gzbReg Reg.gzbChCi c) 0 16 (d.pi c)

theorem Dev.emptied_view {d : Dev} (hw : cellsWf d.regs = true) (c : Nat) :
    (d.emptied c).ci c = d.pi c ∧ (d.emptied c).rd (gzbReg Reg.gzbChCtl c) = d.rd (gzbReg Reg.gzbChCtl c) :=
  ⟨(Dev.fld_setFld_same hw (by decide) _ _).trans (Nat.mod_eq_of_lt (d.pi_lt c)), Dev.rd_wr_ne hw _ (gzbReg_ne (by decide) c)⟩

theorem Dev.pi_wr_ctl {d : Dev} (hw : cellsWf d.regs = true) (c : Nat) (x : Word) : (d.wr (gzbReg Reg.gzbChCtl c) x).pi c = d.pi c := by
  rw [Dev.pi, Dev.fld, Dev.rd_wr_ne hw x (gzbReg_ne (by decide) c)]
  rfl

/-- A channel that is disabled outside a run (R320). -/
def GzbChan.disabled (y : GzbChan) : GzbChan := { y with off := true, stopped := false, held := false, cause := 5, pend := 0, fetched := [] }

/-- A channel that HOLD stops outside a run (R320). -/
def GzbChan.holding (y : GzbChan) : GzbChan := { y with held := true, cause := 1, fetched := [] }

section
variable {d : Dev} {c : Nat} {v old new : Word} (hold : d.rd (gzbReg Reg.gzbChCtl c) = old) (hnew : maskedValue old v 0x1FF#32 = new)
include hold hnew

/-- An enabled channel keeps its ring size (R326). -/
theorem Dev.chanCtl_refused (hen : fieldOf old 0 1 = 1) (hsize : fieldOf old 4 4 ≠ fieldOf new 4 4) :
    d.chanCtl c v = d.bump Reg.sysAccessReject := by
  subst hold hnew
  exact if_pos ⟨hen, hsize⟩

variable (hrun : d.gzb.running ≠ some c)
include hrun

theorem Dev.chanCtl_enabled (hen : fieldOf old 0 1 = 0) (hen' : fieldOf new 0 1 = 1) (hhalted : d.gzb.halted = 0) :
    d.chanCtl c v = ((d.wr (gzbReg Reg.gzbChCtl c) new).emptied c).onChan c fun y => y.enabled (fieldOf new 1 1 == 1) := by
  simp [Dev.chanCtl, hold, hnew, hen, hen', hrun, Dev.onChan, Dev.emptied, hhalted, GzbChan.enabled]

theorem Dev.chanCtl_disabled (hen : fieldOf old 0 1 = 1) (hsize : fieldOf old 4 4 = fieldOf new 4 4) (hen' : fieldOf new 0 1 = 0) :
    d.chanCtl c v = (d.wr (gzbReg Reg.gzbChCtl c) new).onChan c fun y => y.disabled := by
  simp [Dev.chanCtl, hold, hnew, hen, hen', hsize, hrun, Dev.onChan, GzbChan.disabled]

theorem Dev.chanCtl_holding (hen : fieldOf old 0 1 = 1) (hsize : fieldOf old 4 4 = fieldOf new 4 4) (hen' : fieldOf new 0 1 = 1)
    (hhold : fieldOf old 1 1 = 0) (hhold' : fieldOf new 1 1 = 1) :
    d.chanCtl c v = (d.wr (gzbReg Reg.gzbChCtl c) new).onChan c fun y => y.holding := by
  simp [Dev.chanCtl, hold, hnew, hen, hen', hsize, hhold, hhold', hrun, Dev.onChan, GzbChan.holding]

end

/-! ### The next run -/

/-- A waiting channel has no cause to be stopped and owns descriptors (R319, R327). -/
theorem Dev.waiting_of_chanWaits {d : Dev} {c : Nat} (h : d.chanWaits c = true) :
    ((d.chan c).stopped = false ∧ (d.chan c).held = false) ∧ d.owned c ≠ 0 ∧ (d.chan c).ownWait = false := by
  simp [Dev.chanWaits, Dev.chanState, ite_eq_iff] at h
  obtain ⟨⟨-, -, -, hstop, howned⟩, hmiss⟩ := h
  exact ⟨hstop.symm, howned, hmiss⟩

/-- The channel of the next run is one that waits (R319). -/
theorem Dev.chanWaits_of_nextRun {d : Dev} {c : Nat} (h : d.nextRun = some c) : d.chanWaits c = true := by
  obtain ⟨p, -, hc⟩ := List.mem_flatMap.mp (List.mem_of_mem_head? h)
  exact (Bool.and_eq_true_iff.mp (List.mem_filter.mp hc).2).2

/-- The device once channel `c` has been chosen for the next run. -/
def Dev.chosen (d : Dev) (c : Nat) : Dev :=
  d.onGzb fun g => { g with running := some c, runDone := 0, served := g.served.set (d.fld (gzbReg Reg.gzbChCtl c) 2 2) c }

section
variable {d : Dev} {c : Nat}

/-- A channel that waits, is enabled and not held may begin a descriptor as its run starts: the run has handed none back (R319, R320). -/
theorem Dev.mayBegin_chosen (hwait : d.chanWaits c = true) (hon : d.flag Reg.gzbCtl 0 = true) (hen : d.chanEn c = true)
    (hhold : d.chanHold c = false) (hpend : (d.chan c).pend = 0) (hwork : (d.chan c).work = []) : (d.chosen c).mayBegin c = true := by
  obtain ⟨⟨hstopped, hheld⟩, -, -⟩ := Dev.waiting_of_chanWaits hwait
  have hlimit : (d.fld Reg.gzbCtl 8 8 == 0 || decide (0 < d.fld Reg.gzbCtl 8 8)) = true := by
    cases d.fld Reg.gzbCtl 8 8 <;> simp
  show (some c == some c && d.chanEn c && !d.chanHold c && (d.chan c).pend == 0 && !(d.chan c).stopped && !(d.chan c).held &&
    (d.fld Reg.gzbCtl 8 8 == 0 || decide (0 < d.fld Reg.gzbCtl 8 8)) && d.flag Reg.gzbCtl 0 && (d.chan c).work.all _) = true
  rw [hlimit]
  simp [hen, hhold, hpend, hstopped, hheld, hon, hwork]

/-- Whether a channel may begin a descriptor is a matter of its registers and of the engine, not of what is being read. -/
theorem Dev.mayBegin_gzbRead (hw : cellsWf d.regs = true) (c : Fin 16) (k kind idx pos ga len : Nat) (op : ReqOp) (data : WData) (entries : Nat) :
    (d.gzbRead k kind idx pos ga len op data entries).mayBegin c = d.mayBegin c := by
  have hctl := Dev.rd_gzbRead d k kind idx pos ga len op data entries hw gzbPlain_gzbCtl
  have hchan := Dev.rd_gzbRead d k kind idx pos ga len op data entries hw (gzbPlain_gzbReg (base := Reg.gzbChCtl) (by decide) c)
  simp only [Dev.mayBegin, Dev.chan_gzbRead, Dev.gzbRead_gzb, Dev.chanEn, Dev.chanHold, Dev.flag, Dev.fld, hctl, hchan]
  rfl

end

/-- A run that starts with nothing fetched and nothing being read fetches the descriptor at CI (R307, R319). -/
theorem Dev.startRun_fetches {d : Dev} (hw : cellsWf d.regs = true) {c : Fin 16} (hrun : d.gzb.running = none) (hdrain : d.gzb.draining = false)
    (hon : d.flag Reg.gzbCtl 0 = true) (hlive : d.live = true) (hnext : d.nextRun = some c.val) (hen : d.chanEn c = true)
    (hhold : d.chanHold c = false) (hpend : (d.chan c).pend = 0) (hwork : (d.chan c).work = []) (hfetched : (d.chan c).fetched = [])
    (hreads : d.gzb.reads = []) :
    d.startRun = (d.chosen c).gzbRead c 0 (d.ci c) 0 (d.descGa c (d.ci c) / 64 * 64) 64 .read [] 1 := by
  have hwait := Dev.chanWaits_of_nextRun hnext
  obtain ⟨-, howned, hmiss⟩ := Dev.waiting_of_chanWaits hwait
  have hgo : d.startRun = (d.chosen c).gzbGo c := by simp [Dev.startRun, hrun, hdrain, hon, hlive, hnext, Dev.chosen]
  have hlive' : (d.chosen c).live = true := hlive
  have hfetch : (d.chosen c).gzbFetch c = (d.chosen c).gzbRead c 0 (d.ci c) 0 (d.descGa c (d.ci c) / 64 * 64) 64 .read [] 1 :=
    Dev.gzbFetch_first (d := d.chosen c) hdrain hlive hmiss howned hwork hfetched hreads
  have hbegin := Dev.mayBegin_chosen hwait hon hen hhold hpend hwork
  rw [← Dev.mayBegin_gzbRead (d := d.chosen c) hw c c 0 (d.ci c) 0 (d.descGa c (d.ci c) / 64 * 64) 64 .read [] 1] at hbegin
  rw [hgo, Dev.gzbGo, if_neg (by simp [hlive']), Dev.gzbPump_idle (d := d.chosen c) hwork hfetched, hfetch]
  generalize hread : (d.chosen c).gzbRead c 0 (d.ci c) 0 (d.descGa c (d.ci c) / 64 * 64) 64 .read [] 1 = e at hbegin
  have hchan : e.chan c = d.chan c := hread ▸ Dev.chan_gzbRead ..
  rw [Dev.gzbPump_idle (hchan ▸ hwork) (hchan ▸ hfetched), Dev.endRun_fetching hbegin (hchan ▸ hmiss) (by simp [← hread, Dev.gzbRead_gzb])]

/-! ### The commands -/

theorem exec_gzbPiWrite (c : Fin 16) (v : Word) (s : State) : exec (.gzbPiWrite c v) s = s.act fun d => d.piWrite c.val v := by unfold exec; rfl

theorem exec_gzbChannelCtl (c : Fin 16) (v : Word) (s : State) : exec (.gzbChannelCtl c v) s = s.act fun d => d.chanCtl c.val v := by
  unfold exec
  rfl

theorem exec_gzbRunStart (s : State) : exec .gzbRunStart s = s.act Dev.startRun := by unfold exec; rfl

section
variable {s : State} (hw : cellsWf s.dev.regs = true) (hlen : s.dev.gzb.chans.length = 16) (c : Fin 16) {v : Word}

include hw in
theorem does_gzbPiWrite_refused (h : s.dev.ringSize c - s.dev.owned c <
      ((maskedValue (s.dev.rd (gzbReg Reg.gzbChPi c)) v 0xFFFF).toNat % 65536 + 65536 - s.dev.pi c) % 65536) :
    Does (.gzbPiWrite c v) s fun d => d.counts s.dev Reg.sysAccessReject ∧ d.gzb = s.dev.gzb := by
  refine does_act _ (exec_gzbPiWrite c v s) ?_
  rw [Dev.piWrite_refused (d := s.clear) h]
  exact ⟨Dev.bump_counts (d := s.clear) hw _, rfl⟩

include hw hlen in
theorem does_gzbPiWrite_taken (h : ((maskedValue (s.dev.rd (gzbReg Reg.gzbChPi c)) v 0xFFFF).toNat % 65536 + 65536 - s.dev.pi c) % 65536 ≤
      s.dev.ringSize c - s.dev.owned c) (hrun : s.dev.gzb.running ≠ some c.val) :
    Does (.gzbPiWrite c v) s fun d => d.pi c = (maskedValue (s.dev.rd (gzbReg Reg.gzbChPi c)) v 0xFFFF).toNat % 65536 ∧
      (d.chan c).ownWait = false ∧ (d.chan c).stopped = false ∧ d.mem = s.dev.mem := by
  refine does_act _ (exec_gzbPiWrite c v s) ?_
  obtain ⟨hpi, hchan⟩ := Dev.piWrite_taken (d := s.clear) hw c (lt_of_lt_of_eq c.isLt hlen.symm) h hrun
  rw [hchan]
  exact ⟨hpi, rfl, rfl, Dev.piWrite_mem ..⟩

section
variable {old new : Word} (hold : s.dev.rd (gzbReg Reg.gzbChCtl c) = old) (hnew : maskedValue old v 0x1FF#32 = new)
include hw hold hnew

theorem does_gzbChannelCtl_refused (hen : fieldOf old 0 1 = 1) (hsize : fieldOf old 4 4 ≠ fieldOf new 4 4) :
    Does (.gzbChannelCtl c v) s fun d => d.counts s.dev Reg.sysAccessReject ∧ d.gzb = s.dev.gzb := by
  refine does_act _ (exec_gzbChannelCtl c v s) ?_
  rw [Dev.chanCtl_refused (d := s.clear) hold hnew hen hsize]
  exact ⟨Dev.bump_counts (d := s.clear) hw _, rfl⟩

variable (hrun : s.dev.gzb.running ≠ some c.val)
include hlen hrun

theorem does_gzbChannelCtl_enabled (hen : fieldOf old 0 1 = 0) (hen' : fieldOf new 0 1 = 1) (hhalted : s.dev.gzb.halted = 0) :
    Does (.gzbChannelCtl c v) s fun d => d.rd (gzbReg Reg.gzbChCtl c) = new ∧ d.ci c = s.dev.pi c ∧ (d.chan c).off = false ∧
      (d.chan c).stopped = false ∧ (d.chan c).held = (fieldOf new 1 1 == 1) ∧ d.mem = s.dev.mem := by
  refine does_act _ (exec_gzbChannelCtl c v s) ?_
  rw [Dev.chanCtl_enabled (d := s.clear) hold hnew hrun hen hen' hhalted]
  have hpi : (s.clear.wr (gzbReg Reg.gzbChCtl c) new).pi c = s.dev.pi c := Dev.pi_wr_ctl (d := s.clear) hw c new
  obtain ⟨hci, hctl⟩ := Dev.emptied_view (d := s.clear.wr (gzbReg Reg.gzbChCtl c) new) (Dev.wr_wf hw ..) c
  rw [Dev.chan_onChan (d := (s.clear.wr _ _).emptied _) (lt_of_lt_of_eq c.isLt hlen.symm)]
  exact ⟨hctl.trans (Dev.rd_wr_same (d := s.clear) hw ..), hci.trans hpi, rfl, rfl, rfl, rfl⟩

theorem does_gzbChannelCtl_disabled (hen : fieldOf old 0 1 = 1) (hsize : fieldOf old 4 4 = fieldOf new 4 4) (hen' : fieldOf new 0 1 = 0) :
    Does (.gzbChannelCtl c v) s fun d => d.onlyReg s.dev (gzbReg Reg.gzbChCtl c) new ∧ (d.chan c).off = true ∧ (d.chan c).cause = 5 := by
  refine does_act _ (exec_gzbChannelCtl c v s) ?_
  rw [Dev.chanCtl_disabled (d := s.clear) hold hnew hrun hen hsize hen',
    Dev.chan_onChan (d := s.clear.wr _ _) (lt_of_lt_of_eq c.isLt hlen.symm)]
  exact ⟨Dev.onlyReg_of_wr hw rfl rfl, rfl, rfl⟩

theorem does_gzbChannelCtl_holding (hen : fieldOf old 0 1 = 1) (hsize : fieldOf old 4 4 = fieldOf new 4 4) (hen' : fieldOf new 0 1 = 1)
    (hhold : fieldOf old 1 1 = 0) (hhold' : fieldOf new 1 1 = 1) :
    Does (.gzbChannelCtl c v) s fun d => d.onlyReg s.dev (gzbReg Reg.gzbChCtl c) new ∧ (d.chan c).held = true ∧ (d.chan c).cause = 1 := by
  refine does_act _ (exec_gzbChannelCtl c v s) ?_
  rw [Dev.chanCtl_holding (d := s.clear) hold hnew hrun hen hsize hen' hhold hhold',
    Dev.chan_onChan (d := s.clear.wr _ _) (lt_of_lt_of_eq c.isLt hlen.symm)]
  exact ⟨Dev.onlyReg_of_wr hw rfl rfl, rfl, rfl⟩

end

theorem quiet_gzbRunStart (h : s.dev.gzb.running.isSome = true ∨ s.dev.gzb.draining = true) : Quiet .gzbRunStart s := by
  refine does_act _ (exec_gzbRunStart s) (if_pos ?_)
  rcases h with h | h <;> simp [h]

include hw in
theorem does_gzbRunStart (hrun : s.dev.gzb.running = none) (hdrain : s.dev.gzb.draining = false) (hon : s.dev.flag Reg.gzbCtl 0 = true)
    (hlive : s.dev.live = true) (hnext : s.dev.nextRun = some c.val) (hen : s.dev.chanEn c = true) (hhold : s.dev.chanHold c = false)
    (hpend : (s.dev.chan c).pend = 0) (hwork : (s.dev.chan c).work = []) (hfetched : (s.dev.chan c).fetched = []) (hreads : s.dev.gzb.reads = []) :
    Does .gzbRunStart s fun d => d.gzb.running = some c.val ∧ ∃ x ∈ d.gzb.reads, x.ch = c.val ∧ x.kind = 0 ∧ x.idx = s.dev.ci c := by
  refine does_act _ (exec_gzbRunStart s) ?_
  rw [Dev.startRun_fetches (d := s.clear) hw hrun hdrain hon hlive hnext hen hhold hpend hwork hfetched hreads, Dev.gzbRead_gzb]
  exact ⟨rfl, _, List.mem_append_right _ (List.mem_singleton_self _), rfl, rfl, rfl⟩

end

/-- Settles O42: a write of PI that is refused or taken, a write of CTL that is refused, enables, disables or holds, and a run that starts or
not. -/
theorem dmaChannels : Obligations.DmaChannels := by
  unfold Obligations.DmaChannels
  intro s c v hInv hlen pi' room step old new
  have hw := hInv.regs
  refine ⟨does_gzbPiWrite_refused hw c, does_gzbPiWrite_taken hw hlen c, does_gzbChannelCtl_refused hw c rfl rfl, ?_, ?_, quiet_gzbRunStart,
    does_gzbRunStart hw c⟩
  · exact fun hen hen' hhalted hrun => does_gzbChannelCtl_enabled hw hlen c rfl rfl hrun hen hen' hhalted
  · exact fun hen hsize hrun => ⟨does_gzbChannelCtl_disabled hw hlen c rfl rfl hrun hen hsize,
      does_gzbChannelCtl_holding hw hlen c rfl rfl hrun hen hsize⟩

end Sys2Proof.Machine
end

section
/-!
O43: the clause on what returns after a halt (R321) fails. A combining line that waits for room holds its acceptance number from the time it was
emitted (R218, `Dev.place`), and `Inv` lets a waiting line hold the number of a read of the Gazebo that stands accepted. Taking the read's completion
makes room, so the waiting line is accepted (`Dev.retryHeld`), under the number that should have gone.
-/
namespace Sys2Proof.Machine

/-- A read of 64 bytes by GZB0, numbered 5, that has ended and that the engine no longer waits for. -/
def forgottenRead5 : Req :=
  { seq := 5, agent := 40, ident := 40, orig := 0, ing := .gzb 0, op := .read, posted := false, ga := 0x1_0000_0000, len := 64, ts := 0,
    st := .ended }

/-- The reset device with that read, and with a combining line of the same number that waits to be accepted. -/
def sharedReadNumber : State :=
  { State.reset with dev := { Dev.reset with fab := { reqs := [forgottenRead5], held := [heldWrite5], nextSeq := 6 } } }

theorem sharedReadNumber_inv : Inv sharedReadNumber := Dev.reset_sound.of rfl rfl rfl rfl rfl rfl

theorem gzbReq?_sharedReadNumber : sharedReadNumber.dev.gzbReq? 0 = some forgottenRead5 := by decide +kernel

theorem numbersAfter_gzbReadCompletion_sharedReadNumber :
    numbersAfter (exec (.gzbReadCompletion 0) sharedReadNumber) = [5] := by decide +kernel

/-- Refutes O43: in `sharedReadNumber`, which meets `Inv`, the completion of the forgotten read 5 leaves a request numbered 5. -/
theorem not_dmaWork : ¬ Obligations.DmaWork := by
  unfold Obligations.DmaWork Claims.DmaDescriptors
  rintro ⟨h, -⟩
  obtain ⟨-, hdiscard, -⟩ := h sharedReadNumber 0 0 sharedReadNumber_inv rfl
  obtain ⟨d, hexec, -, hgone⟩ := hdiscard forgottenRead5 gzbReq?_sharedReadNumber rfl (by decide)
  have hleft : (5 : Nat) ∉ numbersAfter (exec (.gzbReadCompletion 0) sharedReadNumber) := Does.notMem_numbersAfter ⟨d, hexec, hgone⟩
  rw [numbersAfter_gzbReadCompletion_sharedReadNumber] at hleft
  exact hleft (List.mem_singleton_self 5)

end Sys2Proof.Machine
end

section
/-! Registers that an operation leaves, and what a log entry (R282) leaves of the device. -/
namespace Sys2Proof.Machine

/-- From one device to another the registers that satisfy `p` stand, and the register file stays canonical. -/
structure Dev.RegsKept (p : Nat → Prop) (d e : Dev) : Prop where
  wf : cellsWf e.regs = true
  rd : ∀ a, p a → e.rd a = d.rd a

namespace Dev.RegsKept

variable {p : Nat → Prop} {d e f : Dev}

theorem refl (hw : cellsWf d.regs = true) : RegsKept p d d := ⟨hw, fun _ _ => rfl⟩

theorem trans (h : RegsKept p d e) (h' : RegsKept p e f) : RegsKept p d f := ⟨h'.wf, fun a ha => (h'.rd a ha).trans (h.rd a ha)⟩

/-- A step that writes no register. -/
theorem step (h : RegsKept p d e) (hregs : f.regs = e.regs := by rfl) : RegsKept p d f :=
  ⟨hregs ▸ h.wf, fun a ha => by rw [← h.rd a ha, Dev.rd, Dev.rd, hregs]⟩

/-- A write of a register that is not asked about. -/
theorem wr (h : RegsKept p d e) {off : Nat} (hoff : ¬p off) (v : Word) : RegsKept p d (e.wr off v) :=
  ⟨Dev.wr_wf h.wf _ _, fun a ha => (Dev.rd_wr_ne h.wf v fun he => hoff (by rwa [← he])).trans (h.rd a ha)⟩

theorem bump (h : RegsKept p d e) {off : Nat} (hoff : ¬p off) (n : Nat := 1) : RegsKept p d (e.bump off n) := h.wr hoff _

theorem setFld (h : RegsKept p d e) {off : Nat} (hoff : ¬p off) (lo n x : Nat) : RegsKept p d (e.setFld off lo n x) := h.wr hoff _

theorem wr64 (h : RegsKept p d e) {off : Nat} (hlo : ¬p off) (hhi : ¬p (off + 4)) (v : Nat) : RegsKept p d (e.wr64 off v) := (h.wr hlo _).wr hhi _

theorem bump64 (h : RegsKept p d e) {off : Nat} (hlo : ¬p off) (hhi : ¬p (off + 4)) (n : Nat := 1) : RegsKept p d (e.bump64 off n) :=
  (h.wr hlo _).wr hhi _

theorem ite {c : Prop} [Decidable c] (ht : RegsKept p d e) (hf : RegsKept p d f) : RegsKept p d (if c then e else f) := SettleClosed.ite ht hf

theorem foldl {α : Type} {g : Dev → α → Dev} {l : List α} (h : RegsKept p d e) (hg : ∀ e, RegsKept p d e → ∀ a ∈ l, RegsKept p d (g e a)) :
    RegsKept p d (l.foldl g e) := List.foldlRecOn l g h hg

theorem fld (h : RegsKept p d e) {a : Nat} (ha : p a) (lo n : Nat) : e.fld a lo n = d.fld a lo n := by
  rw [Dev.fld, Dev.fld, h.rd a ha]

theorem flag (h : RegsKept p d e) {a : Nat} (ha : p a) (i : Nat) : e.flag a i = d.flag a i := by
  rw [Dev.flag, Dev.flag, h.fld ha]

/-- The registers that a log entry writes: its two counters and those of the types (R284). -/
theorem log (h : RegsKept p d e) {type : ErrType} (hovf : ¬p Reg.intElOvf) (hwritten : ¬p Reg.intElWritten)
    (htype : ¬p (Reg.intTypeCount + 4 * errCode type)) (c : Culprit) (ga detail : Nat) (count : Nat := 1) :
    RegsKept p d (e.log c type ga detail count) := by
  have hcount := h.bump htype count
  unfold Dev.log
  dsimp only
  exact ite (step (hcount.bump hovf)) (bump (step hcount) hwritten)

end Dev.RegsKept

/-! ### The effect of a command, named -/

/-- As `does_act`, with the command's own effect named: its parts are then compared with nothing unfolded. -/
theorem does_of_eq {c : Instr} {s : State} {P : Dev → Prop} {f : Dev → Dev} {e : Dev} (h : exec c s = s.act f) (he : f s.clear = e) (hP : P e) :
    Does c s P := does_act f h (he ▸ hP)

theorem after_of_eq {c : Instr} {s : State} {P : Dev → Prop} {f : Dev → Dev} {e : Dev} (h : exec c s = s.act f) (he : f s.clear = e)
    (hP : P (settle s.dev e)) : After c s P := after_act f h (he ▸ hP)

/-! ### What a log entry leaves -/

/-- The device with the registers and the error log set aside. -/
def Dev.unlogged (d : Dev) : Dev := { d with regs := [], elog := {} }

@[simp] theorem Dev.log_unlogged (d : Dev) (c : Culprit) (type : ErrType) (ga detail count : Nat) :
    (d.log c type ga detail count).unlogged = d.unlogged := by
  unfold Dev.log
  dsimp only
  split <;> rfl

/-- A part of the device beside the registers and the error log is as it was. -/
theorem Dev.log_keeps {α : Type} (g : Dev → α) (hg : ∀ d, g d.unlogged = g d) (d : Dev) (c : Culprit) (type : ErrType) (ga detail count : Nat) :
    g (d.log c type ga detail count) = g d := by
  rw [← hg, Dev.log_unlogged, hg]

end Sys2Proof.Machine
end

section
/-!
O56: the clause on the acknowledgement of a mirrored entry (R443) fails. A combining line that waits for room holds its acceptance number from the
time it was emitted (R218, `Dev.place`), and `Inv` lets a waiting line hold the number of a request in flight. The acknowledgement tries the waiting
requests again (`Dev.retryHeld`), so the line is accepted under that number, as an entry whose own records are not acknowledged yet.
-/
namespace Sys2Proof.Machine

/-! ### What follows a command mirrors no request -/

/-- Every request in flight satisfies `P`. -/
def Dev.AllReqs (P : Req → Prop) (d : Dev) : Prop := ∀ q ∈ d.fab.reqs, P q

/-- A property of requests that the marks made by what follows a command keep. -/
structure MarkClosed (P : Req → Prop) : Prop where
  orphan : ∀ r, P r → P { r with orphan := 2 }
  startedSent : ∀ r, P r → P { r with startedSent := true }

namespace Dev.AllReqs

variable {P : Req → Prop} {d e : Dev}

theorem of_fab (h : d.AllReqs P) (he : e.fab = d.fab) : e.AllReqs P := by
  unfold Dev.AllReqs
  rwa [he]

/-- Requests that go and requests that are marked. -/
theorem filter_map (h : d.AllReqs P) (p : Req → Bool) (f : Req → Req) (hf : ∀ r, P r → P (f r)) (he : e.fab.reqs = (d.fab.reqs.filter p).map f) :
    e.AllReqs P := by
  intro q hq
  rw [he, List.mem_map] at hq
  obtain ⟨r, hr, rfl⟩ := hq
  exact hf r (h r (List.mem_of_mem_filter hr))

theorem loseRsv (h : d.AllReqs P) (p : Rsv → Bool) : (d.loseRsv p).AllReqs P := by
  unfold Dev.loseRsv
  refine SettleClosed.foldl _ ?_ _ _ h
  exact fun _ _ he => he

theorem arcRestart (hP : MarkClosed P) (h : d.AllReqs P) : d.arcRestart.AllReqs P := by
  have hheld : d.arcHeld.AllReqs P :=
    (h.filter_map _ _ (fun r hr => by split; exacts [hP.orphan r hr, hr]) rfl).loseRsv _
  unfold Dev.arcRestart
  extract_lets e1 recent e2 e3
  exact SettleClosed.ite (hheld.of_fab rfl) (hheld.of_fab rfl)

theorem contain (hP : MarkClosed P) (h : d.AllReqs P) (b : Nat) : (d.contain b).AllReqs P := by
  unfold Dev.contain
  split
  · exact h.of_fab d.restoreShadows_fab
  · exact h.arcRestart hP
  · exact h.of_fab (foldl_fab _ _ _ fun _ _ => by simp)
  · exact h

theorem leaveActive (h : d.AllReqs P) (t : TwinState) : (d.leaveActive t).AllReqs P := by
  unfold Dev.leaveActive
  extract_lets cells tt e1 e2
  have h2 : e2.AllReqs P := h.of_fab (by simp [e2, e1])
  exact SettleClosed.ite h2 fun q hq => h2 q (List.mem_of_mem_filter hq)

theorem faultRise (hP : MarkClosed P) (h : d.AllReqs P) (b : Nat) : (d.faultRise b).AllReqs P := by
  unfold Dev.faultRise
  extract_lets set act code rises e1
  have h1 : e1.AllReqs P := h.of_fab (by simp [e1])
  clear_value code
  split
  · exact h1.contain hP b
  · exact (h1.leaveActive .failed).of_fab rfl
  · exact h1.of_fab (e1.enterSafe_fab b)
  · exact h1

theorem faultSettle (hP : MarkClosed P) (h : d.AllReqs P) (o : Dev) : (faultSettle o d).AllReqs P :=
  SettleClosed.foldl _ (fun _ b he => he.faultRise hP b) _ _ (SettleClosed.foldl _ (fun _ b he => he.faultRise hP b) _ _ h)

theorem gzbSettle (h : d.AllReqs P) : (gzbSettle d).AllReqs P := by
  unfold Machine.gzbSettle
  extract_lets new e1 e2
  have h1 : e1.AllReqs P := h.of_fab (foldl_fab _ _ _ fun e f => e.gzbFailed_fab f)
  have h2 : e2.AllReqs P := h1
  exact h2.of_fab (foldl_fab _ _ _ fun e c => by simp)

theorem sendStarted (hP : MarkClosed P) (h : d.AllReqs P) : d.sendStarted.AllReqs P := by
  refine SettleClosed.foldl _ (fun f r hf => ?_) _ _ h
  have hsent := hf.of_fab (foldl_sendRec_fab 4 (fun i => leBytes 1 r.mirPath ++ leBytes 1 i) r.mirIdx f)
  exact hsent.filter_map (fun _ => true) (fun q => if q.seq = r.seq then { q with startedSent := true } else q)
    (fun q hq => by split; exacts [hP.startedSent q hq, hq]) (by simp [Dev.updReq])

theorem mirrorSettle (hP : MarkClosed P) (h : d.AllReqs P) (o : Dev) : (mirrorSettle o d).AllReqs P := by
  unfold Machine.mirrorSettle
  extract_lets fresh e1 gone
  have h1 : e1.AllReqs P := (h.of_fab (foldl_fab _ _ _ fun e r => e.sendMirror_fab r)).sendStarted hP
  exact SettleClosed.ite h (h1.of_fab (foldl_fab _ _ _ fun e r => foldl_sendRec_fab 5 _ r.mirIdx e))

theorem settle (hP : MarkClosed P) (h : d.AllReqs P) (o : Dev) : (settle o d).AllReqs P :=
  ((((h.gzbSettle.faultSettle hP o).of_fab (twinSettle_fab _)).mirrorSettle hP o).of_fab (intSettle_fab _ _))

end Dev.AllReqs

/-- Not being mirrored under a number is no matter of the marks. -/
theorem markClosed_unmirrored (n : Nat) : MarkClosed fun q => q.seq = n → q.mirrored = false := ⟨fun _ h => h, fun _ h => h⟩

/-! ### An acknowledged entry and a line of the same number -/

/-- A posted write of 4 bytes of LBM0 through long window 0, numbered 5, whose MIRROR and STARTED records have been sent. -/
def mirroredWrite5 : Req :=
  { seq := 5, agent := 56, ident := 56, orig := 0, ing := .lw 0 0, op := .write, posted := true, ga := 0x1_0000_0000, len := 4,
    data := allOn [1, 2, 3, 4], path := .l2h, entries := 1, ts := 0, mirrored := true, mirIdx := [0], startedSent := true }

/-- An emitted combining line with the same number that waits for room in its buffer. -/
def heldLine5 : Req :=
  { mirroredWrite5 with ga := 0x1_0000_0040, len := 64, data := allOn (List.replicate 64 7), mirrored := false, mirIdx := [], startedSent := false,
                        noComb := true }

/-- The reset device as the ACTIVE member of a protected pair, with the one in flight and the other waiting. -/
def sharedMirrorNumber : State :=
  { State.reset with dev := { Dev.reset with
      twin := { en := true, state := .active, prot := true, streaming := true }
      fab := { reqs := [mirroredWrite5], held := [heldLine5], nextSeq := 6 } } }

theorem sharedMirrorNumber_inv : Inv sharedMirrorNumber := Dev.reset_sound.of rfl rfl rfl rfl rfl rfl

/-- The numbers of the requests a command leaves, each with whether it is mirrored. -/
def mirroredAfter : Host.Outcome State Fault Refusal → List (Nat × Bool)
  | .next t => t.dev.fab.reqs.map fun r => (r.seq, r.mirrored)
  | _ => []

theorem mirroredAfter_mirrorAck_sharedMirrorNumber :
    mirroredAfter (exec (.mirrorAck 5) sharedMirrorNumber) = [(5, false), (5, true)] := by decide +kernel

/-- What a command's own effect leaves unmirrored is unmirrored after the command. -/
theorem Does.unmirrored_of_mem_mirroredAfter {c : Instr} {s : State} {n : Nat} {m : Bool} (h : Does c s fun d => d.eachReq n fun q => q.mirrored = false)
    (hmem : (n, m) ∈ mirroredAfter (exec c s)) : m = false := by
  obtain ⟨d, hexec, hfree⟩ := h
  have hsettled : (settle s.dev d).AllReqs fun q => q.seq = n → q.mirrored = false := Dev.AllReqs.settle (markClosed_unmirrored n) hfree s.dev
  generalize settle s.dev d = e at hexec hsettled
  rw [hexec] at hmem
  obtain ⟨q, hq, hqn⟩ := List.mem_map.mp hmem
  obtain ⟨rfl, rfl⟩ := Prod.mk.injEq .. ▸ hqn
  exact hsettled q hq rfl

/-- Refutes O56: in `sharedMirrorNumber`, which meets `Inv`, the acknowledgement of `mirroredWrite5` leaves a mirrored entry numbered 5. -/
theorem not_stateStream : ¬ Obligations.StateStream := by
  unfold Obligations.StateStream Claims.StreamSending
  rintro ⟨h, -⟩
  obtain ⟨-, -, -, -, hreq, -⟩ := h sharedMirrorNumber 5 false sharedMirrorNumber_inv rfl
  obtain ⟨-, -, hack, -⟩ := hreq mirroredWrite5 rfl (by decide)
  have hleft : (5, true) ∈ mirroredAfter (exec (.mirrorAck 5) sharedMirrorNumber) := by
    rw [mirroredAfter_mirrorAck_sharedMirrorNumber]
    exact List.mem_cons_of_mem _ (List.mem_singleton_self _)
  exact absurd ((hack rfl rfl).unmirrored_of_mem_mirroredAfter hleft) (by decide)

end Sys2Proof.Machine
end

section
/-! O52: wake events (R414–R417), each through the record and the plan of the one event. -/
namespace Sys2Proof.Machine

/-! ### A wake plan and a wake event -/

@[simp] theorem Dev.wakePlan_events (d : Dev) (cls : Nat) : (d.wakePlan cls).wkt.events = d.wkt.events := rfl
@[simp] theorem Dev.wakePlan_entered (d : Dev) (cls : Nat) : (d.wakePlan cls).wkt.entered = d.wkt.entered := rfl

/-- A class's plan wants each of its items that is off (R417). -/
theorem Dev.wakePlan_wanted {d : Dev} {cls j : Nat} (hj : j < d.wkt.items.length) (hplan : d.flag (Reg.wktPlan + 4 * (cls - 1)) j = true)
    (hoff : (d.item j).on = false) : ((d.wakePlan cls).item j).wanted = true := by
  have hitem : d.wkt.items[j].on = false := by rwa [Dev.item, List.getD_eq_getElem _ _ hj] at hoff
  simp [Dev.wakePlan, Dev.item, Dev.onWkt, Dev.bump, Dev.wr, hj, hplan, hitem]

/-- The record of an event: the time, the class and the input (R416). -/
def Dev.wakeRecord (d : Dev) (cls index : Nat) : List Byte :=
  leBytes 6 (d.rd64 Reg.wktAonTime) ++ leBytes 1 cls ++ leBytes 1 index ++ leBytes 1 (wktCode d.wkt.mode) ++ leBytes 7 0

theorem Dev.wakeRecord_time (d : Dev) (cls index : Nat) : (d.wakeRecord cls index).take 6 = leBytes 6 (d.rd64 Reg.wktAonTime) := rfl
theorem Dev.wakeRecord_class (d : Dev) (cls index : Nat) : (d.wakeRecord cls index).getD 6 0 = BitVec.ofNat 8 cls := by
  simp [Dev.wakeRecord, leBytes]
theorem Dev.wakeRecord_index (d : Dev) (cls index : Nat) : (d.wakeRecord cls index).getD 7 0 = BitVec.ofNat 8 index := by
  simp [Dev.wakeRecord, leBytes]

/-- Where the FIFO has room, an event leaves its record behind the others, and outside RUN its class's plan (R416, R417). -/
theorem Dev.wakeEvent_woke {d : Dev} (hroom : d.wkt.events.length < 32) (hitems : d.wkt.items.length = 16) (cls index : Nat) :
    (d.wakeEvent cls index).woke d cls index := by
  have hevents : (d.wakeEvent cls index).wkt.events = d.wkt.events ++ [d.wakeRecord cls index] := by
    simp only [Dev.wakeEvent, if_neg (Nat.not_le.mpr hroom)]
    cases h : d.wkt.mode <;> simp [Dev.onWkt, Dev.onItem, Dev.wakeRecord, h]
  refine ⟨⟨_, hevents, d.wakeRecord_time cls index, d.wakeRecord_class cls index, d.wakeRecord_index cls index⟩, fun hmode j hplan hoff => ?_,
    d.wakeEvent_mem cls index⟩
  have hj : (j : Nat) < d.wkt.items.length := by omega
  simp only [Dev.wakeEvent, if_neg (Nat.not_le.mpr hroom)]
  rcases hmode with h | h <;> simp only [h, Dev.onWkt] <;> exact Dev.wakePlan_wanted hj hplan hoff

@[simp] theorem Dev.wakeEvent_entered (d : Dev) (cls index : Nat) : (d.wakeEvent cls index).wkt.entered = d.wkt.entered := by
  unfold Dev.wakeEvent
  extract_lets rec' e
  have he : e.wkt.entered = d.wkt.entered := by
    unfold e
    split <;> rfl
  split <;> exact he

/-- What follows a command takes nothing from an event. -/
theorem Dev.woke.settle {d o : Dev} {cls index : Nat} (h : d.woke o cls index) (o' : Dev) : (settle o' d).woke o cls index := by
  simpa [Dev.woke, Dev.item] using h

section
variable {s : State} (hInv : Inv s) (hroom : s.dev.wkt.events.length < 32)
include hInv hroom

/-- A command whose effect is an event wakes. -/
theorem after_wakeEvent {c : Instr} (f : Dev → Dev) (hexec : exec c s = s.act f) {cls index : Nat} (hf : f s.clear = s.clear.wakeEvent cls index) :
    After c s fun d => d.woke s.dev cls index := by
  refine after_act f hexec ?_
  rw [hf]
  exact (Dev.wakeEvent_woke (d := s.clear) hroom hInv.items cls index).settle s.dev

theorem after_wakeTimer {e : Nat} (hentered : s.dev.wkt.entered = some e) (htimer : s.dev.fld Reg.wktTimer 0 32 ≠ 0)
    (hmode : s.dev.wkt.mode = .standby ∨ s.dev.wkt.mode = .sleep) (hdue : e + s.dev.fld Reg.wktTimer 0 32 ≤ s.dev.rd64 Reg.wktAonTime) :
    After .wakeTimer s fun d => d.woke s.dev 6 0 ∧ d.wkt.entered = none := by
  refine after_act _ (by unfold exec; rfl) ?_
  have hentered' : s.clear.wkt.entered = some e := hentered
  simp only [hentered', if_pos (show s.clear.fld Reg.wktTimer 0 32 ≠ 0 ∧ (s.clear.wkt.mode = .standby ∨ s.clear.wkt.mode = .sleep) ∧
    e + s.clear.fld Reg.wktTimer 0 32 ≤ s.clear.rd64 Reg.wktAonTime from ⟨htimer, hmode, hdue⟩)]
  have hwoke := Dev.wakeEvent_woke (d := s.clear.onWkt fun w => { w with entered := none }) hroom hInv.items 6 0
  exact ⟨hwoke.settle s.dev, by rw [settle_wkt, Dev.wakeEvent_entered]; rfl⟩

end

/-! ### The inputs -/

theorem quiet_of_stale {s : State} (ch : Fin 64) (l : Fin 32) (i : Fin 14) (k : Fin 8) (us : Nat) (high : Bool) {stale : Bool}
    (h : s.dev.inputCounts stale = false) :
    ∀ c ∈ [Instr.canWup ch us stale, .linWake l us stale, .phyWake i high us stale, .wakePin k high us stale], Quiet c s := by
  have hstale : ¬s.dev.inputCounts stale = true := by simp [h]
  simp only [List.forall_mem_cons, List.not_mem_nil, false_implies, implies_true, and_true]
  refine ⟨does_act _ (by unfold exec; rfl) (if_neg ?_), does_act _ (by unfold exec; rfl) (if_neg ?_),
    does_act _ (by unfold exec; rfl) (if_neg ?_), does_act _ (by unfold exec; rfl) (if_neg ?_)⟩
  · exact fun ⟨_, _, hc⟩ => hstale hc
  · exact fun ⟨_, _, hc⟩ => hstale hc
  · exact fun ⟨_, _, _, hc⟩ => hstale hc
  · exact fun ⟨_, _, _, hc⟩ => hstale hc

theorem quiet_wakeTimer {s : State} (h : s.dev.wkt.entered = none) : Quiet .wakeTimer s :=
  does_act _ (by unfold exec; rfl) (by
    have h' : s.clear.wkt.entered = none := h
    simp only [h'])

section
variable {s : State} (ch : Fin 64) (rate : Fin 4) (id : BitVec 29) (ide rtr : Bool) (dlc : Fin 16) (data : List Byte)

theorem after_canWakeFrame (hon : s.dev.flag (Reg.wktCanCfg + 4 * ch) 1 = true) (hrate : s.dev.fld (Reg.wktCanCfg + 4 * ch) 2 2 = rate.val) (hInv : Inv s) (hroom : s.dev.wkt.events.length < 32) {p : Nat}
    (hfind : ((List.range 64).find? fun p => s.dev.patMatches p ch.val id.toNat ide rtr dlc.val data) = some p) :
    After (.canWakeFrame ch rate id ide rtr dlc data) s fun d => d.woke s.dev 1 p := by
  refine after_wakeEvent hInv hroom _ (by unfold exec; rfl) ?_
  have hfind' : ((List.range 64).find? fun p => s.clear.patMatches p ch.val id.toNat ide rtr dlc.val data) = some p := hfind
  simp only [hfind']
  exact if_pos ⟨hon, hrate⟩

theorem quiet_canWakeFrame (hfind : ((List.range 64).find? fun p => s.dev.patMatches p ch.val id.toNat ide rtr dlc.val data) = none) :
    Quiet (.canWakeFrame ch rate id ide rtr dlc data) s := by
  refine does_act _ (by unfold exec; rfl) ?_
  have hfind' : ((List.range 64).find? fun p => s.clear.patMatches p ch.val id.toNat ide rtr dlc.val data) = none := hfind
  simp only [hfind', ite_self]

end

/-- Settles O52: every input that counts leaves its record and its plan by `Dev.wakeEvent_woke`; a stale one, and a frame that no pattern matches,
leave nothing. -/
theorem wakeEvents : Obligations.WakeEvents := by
  unfold Obligations.WakeEvents
  intro s ch l i k us high stale rate id ide rtr dlc data hInv hroom find
  refine ⟨fun hcounts => ⟨fun hon hlong => ?_, fun hon hlong => ?_, fun hlong => ⟨fun hon hlevel => ?_, fun hon hlevel => ?_⟩⟩,
    quiet_of_stale ch l i k us high,
    fun hon hrate => ⟨fun p => after_canWakeFrame ch rate id ide rtr dlc data hon hrate hInv hroom, quiet_canWakeFrame ch rate id ide rtr dlc data⟩,
    fun e => after_wakeTimer hInv hroom, quiet_wakeTimer⟩
  · refine after_wakeEvent hInv hroom _ (by unfold exec; rfl) (if_pos ?_)
    exact ⟨hon, hlong, hcounts⟩
  · refine after_wakeEvent hInv hroom _ (by unfold exec; rfl) (if_pos ?_)
    exact ⟨hon, hlong, hcounts⟩
  · refine after_wakeEvent hInv hroom _ (by unfold exec; rfl) (if_pos ?_)
    exact ⟨hon, hlevel, hlong, hcounts⟩
  · refine after_wakeEvent hInv hroom _ (by unfold exec; rfl) (if_pos ?_)
    exact ⟨hon, hlevel, hlong, hcounts⟩

end Sys2Proof.Machine
end

section
/-!
O13: the resets of the whole device (R464, R467, R475, R483), and the start-up that finds no valid header copy and ends in recovery.
-/
namespace Sys2Proof.Machine

/-! ### The reset of the whole device -/

/-- A register after a reset of the whole device: as it was where the reset keeps it, its power-on value elsewhere (R464). -/
theorem Dev.rd_coldReset {d : Dev} (hw : cellsWf d.regs = true) (kind : StartKind) (x : Nat) :
    (d.coldReset kind).rd x = if coldKeeps kind x then d.rd x else Dev.reset.rd x := by
  have hregs : (d.coldReset kind).regs =
      cellsPut (Dev.reset.regs.filter fun c => !coldKeeps kind c.1) (d.regs.filter fun c => coldKeeps kind c.1) := rfl
  have hfresh : cellsWf (Dev.reset.regs.filter fun c => !coldKeeps kind c.1) = true := cellsWf_filter _ reset_regs_wf
  have hkept : cellsWf (d.regs.filter fun c => coldKeeps kind c.1) = true := cellsWf_filter _ hw
  have hreset : cellsWf Dev.reset.regs = true := reset_regs_wf
  rw [Dev.rd, hregs, cellGet_put x hfresh hkept, cellGet_filter (coldKeeps kind) x hw, cellGet_filter (fun k => !coldKeeps kind k) x hreset]
  cases coldKeeps kind x with
  | false => simp [Dev.rd]
  | true =>
    simp only [if_true, Bool.not_true, Bool.false_eq_true, if_false, Dev.rd]
    split
    case isTrue hzero => exact hzero.symm
    case isFalse => rfl

theorem Dev.coldReset_mem {d : Dev} {kind : StartKind} (h : kind ≠ .standbyWake) : (d.coldReset kind).mem = [] :=
  if_neg fun hk => h (beq_iff_eq.mp hk)

theorem Dev.coldReset_vt {d : Dev} {kind : StartKind} (h : kind ≠ .standbyWake) : (d.coldReset kind).blv.vt = 0 := by
  have hk : (kind == .standbyWake) = false := beq_eq_false_iff_ne.mpr h
  simp [Dev.coldReset, Dev.withPins, hk]

@[simp] theorem Dev.coldReset_flash (d : Dev) (kind : StartKind) : (d.coldReset kind).ldg.flash = d.ldg.flash := rfl
@[simp] theorem Dev.coldReset_items (d : Dev) (kind : StartKind) : (d.coldReset kind).wkt.items = d.wkt.items := rfl
@[simp] theorem Dev.coldReset_safe (d : Dev) (kind : StartKind) : (d.coldReset kind).dep.safe = false := rfl

theorem Dev.coldReset_wf {d : Dev} (kind : StartKind) : cellsWf (d.coldReset kind).regs = true := cellsWf_put _ (cellsWf_filter _ reset_regs_wf)

theorem Dev.noHeader_congr {d e : Dev} (h : e.ldg.flash = d.ldg.flash) : e.noHeader ↔ d.noHeader := by
  simp only [Dev.noHeader, Dev.headerOk_congr h]

/-! ### A start-up that ends in recovery -/

/-- What a start-up without a configuration keeps: the memory, the flash, the dependability block and DEP_TWIN_LOST. -/
structure Dev.Unconfigured (d e : Dev) : Prop where
  wf : cellsWf e.regs = true
  mem : e.mem = d.mem
  flash : e.ldg.flash = d.ldg.flash
  dep : e.dep = d.dep
  lost : e.rd Reg.depTwinLost = d.rd Reg.depTwinLost

namespace Dev.Unconfigured

variable {d e f : Dev}

theorem refl (hw : cellsWf d.regs = true) : d.Unconfigured d := ⟨hw, rfl, rfl, rfl, rfl⟩

/-- A step that touches none of it, and no register. -/
theorem step (h : d.Unconfigured e) (hregs : f.regs = e.regs := by rfl) (hmem : f.mem = e.mem := by rfl)
    (hflash : f.ldg.flash = e.ldg.flash := by rfl) (hdep : f.dep = e.dep := by rfl) : d.Unconfigured f :=
  ⟨hregs ▸ h.wf, hmem.trans h.mem, hflash.trans h.flash, hdep.trans h.dep, by rw [← h.lost, Dev.rd, Dev.rd, hregs]⟩

/-- A write of another register. -/
theorem wr (h : d.Unconfigured e) {off : Nat} (hoff : Reg.depTwinLost ≠ off) (v : Word) : d.Unconfigured (e.wr off v) :=
  ⟨Dev.wr_wf h.wf _ _, h.mem, h.flash, h.dep, (Dev.rd_wr_ne h.wf v hoff).trans h.lost⟩

theorem setFld (h : d.Unconfigured e) {off : Nat} (hoff : Reg.depTwinLost ≠ off) (lo n x : Nat) : d.Unconfigured (e.setFld off lo n x) := h.wr hoff _

/-- The latencies of the MACs are kept in the 15 registers from BLV_PTP_LAT on (R489). -/
theorem calApply (h : d.Unconfigured e) {x : Nat × List Byte} (hx : calKnown x = true) : d.Unconfigured (e.calApply x) := by
  unfold Dev.calApply
  extract_lets trims lat
  split
  case h_4 => exact h.wr (by decide) _
  case h_5 hid =>
    have hlen : lat.length = 15 := by
      have hbytes : 60 = x.2.length := by simpa [calKnown, calLen, hid] using hx
      simp [lat, numsOf, ← hbytes]
    refine List.foldlRecOn _ _ (motive := d.Unconfigured) h.step fun e he p hp => he.wr ?_ _
    have hidx : p.2 < 15 := hlen ▸ List.snd_lt_of_mem_zipIdx hp
    simp only [Reg.depTwinLost, Reg.blvPtpLat]
    omega
  all_goals exact h.step

theorem calAll (h : d.Unconfigured e) (xs : List (Nat × List Byte)) :
    d.Unconfigured ((xs.filter calKnown).foldl (fun d x => d.calApply x) e) :=
  List.foldlRecOn _ _ (motive := d.Unconfigured) h fun _ he _ hx => he.calApply (List.mem_filter.mp hx).2

theorem calibrate (h : d.Unconfigured e) : d.Unconfigured e.calibrate := by
  unfold Dev.calibrate
  refine SettleClosed.ite (h.setFld (by decide) ..) ?_
  dsimp only
  split
  · exact (h.calAll _).setFld (by decide) ..
  · exact ((((h.calAll _).wr (by decide) _).calAll _).setFld (by decide) ..)

theorem defaults (h : d.Unconfigured e) : d.Unconfigured e.defaults := by
  have hid := ((((h.wr (off := Reg.sysDevid) (by decide) 0).wr (off := Reg.winDramSize) (by decide) 0).wr (off := Reg.winBarCfg)
    (by decide) 0).wr (off := Reg.depTwinRole) (by decide) 0)
  exact (hid.step.setFld (by decide) 0 1 1).setFld (by decide) 1 2 0

end Dev.Unconfigured

/-- What recovery shows (R483). -/
structure Dev.InRecovery (d : Dev) : Prop where
  recovery : d.ldg.recovery = true
  state : d.fld Reg.ldgStatus 0 3 = 6
  done : d.flag Reg.hpLinkCtl 5 = true
  twin : d.twin.state = .none

theorem Dev.startRecovery_regs (e : Dev) : e.startRecovery.regs =
    (((e.defaults.calibrate.setFld Reg.hpLinkCtl 5 1 1).setFld Reg.ldgStatus 0 3 6).setFld Reg.ldgStatus 3 3 0).regs := by
  unfold Dev.startRecovery
  generalize e.defaults.calibrate = c
  rfl

theorem Dev.startRecovery_stores (e : Dev) : e.startRecovery.mem = e.defaults.calibrate.mem ∧
    e.startRecovery.ldg.flash = e.defaults.calibrate.ldg.flash ∧ e.startRecovery.dep = e.defaults.calibrate.dep := by
  unfold Dev.startRecovery
  generalize e.defaults.calibrate = c
  exact ⟨rfl, rfl, rfl⟩

theorem Dev.startRecovery_spec {d e : Dev} (h : d.Unconfigured e) : d.Unconfigured e.startRecovery ∧ e.startRecovery.InRecovery := by
  have hcal : d.Unconfigured e.defaults.calibrate := h.defaults.calibrate
  have hw := hcal.wf
  have hlink := hcal.setFld (off := Reg.hpLinkCtl) (by decide) 5 1 1
  have hrun := (hlink.setFld (off := Reg.ldgStatus) (by decide) 0 3 6)
  have hend := hrun.setFld (off := Reg.ldgStatus) (by decide) 3 3 0
  have hregs := e.startRecovery_regs
  have hrd : ∀ x, e.startRecovery.rd x =
      (((e.defaults.calibrate.setFld Reg.hpLinkCtl 5 1 1).setFld Reg.ldgStatus 0 3 6).setFld Reg.ldgStatus 3 3 0).rd x := fun x =>
    congrArg (cellGet · x) hregs
  obtain ⟨hmem, hflash, hdep⟩ := e.startRecovery_stores
  refine ⟨hend.step hregs hmem hflash hdep, rfl, ?_, ?_, rfl⟩
  · rw [Dev.fld, hrd, ← Dev.fld, Dev.fld_setFld_apart hrun.wf (by decide) _ _ (by decide), Dev.fld_setFld_same hlink.wf (by decide)]
    rfl
  · rw [Dev.flag, Dev.fld, hrd, Dev.rd_setFld hrun.wf, if_neg (by decide), Dev.rd_setFld hlink.wf, if_neg (by decide), ← Dev.fld]
    exact Dev.flag_setFld_one hw _ (by decide)

/-- A start-up that finds no valid header copy ends in recovery (R475), and keeps what was not configured. -/
theorem Dev.startUp_recovers {d : Dev} (hw : cellsWf d.regs = true) (hno : d.noHeader) (peer : Bool) :
    d.Unconfigured (d.startUp peer) ∧ (d.startUp peer).InRecovery := by
  unfold Dev.startUp
  extract_lets lost d1 d2 mode hdr d3
  have h1 : d.Unconfigured d1 := ((Dev.Unconfigured.refl hw).wr (off := Reg.sysBootStatus) (by decide) _).step
  have h2 : d.Unconfigured d2 := by
    unfold d2
    cases lost
    · exact h1
    · exact h1.wr (by decide) _
  have h3 : d.Unconfigured d3 := h2.wr (by decide) _
  have hnone : hdr = none := Dev.header?_of_noHeader h2.flash hno
  clear_value d3 hdr
  subst hnone
  exact Dev.startRecovery_spec h3

/-! ### Resets and what they lead to -/

/-- A reset of the whole device without a valid header copy, where the Lodge's item is ready: what it keeps, and recovery. -/
theorem Dev.resetAndStart_recovers {d : Dev} {kind : StartKind} (hkind : kind ≠ .standbyWake) (hready : d.lodgeReady = true) (hno : d.noHeader)
    (peer : Bool) : (d.coldReset kind).Unconfigured (d.resetAndStart kind peer) ∧ (d.resetAndStart kind peer).InRecovery ∧
      (d.resetAndStart kind peer).mem = [] ∧ (d.resetAndStart kind peer).ldg.flash = d.ldg.flash := by
  have hstart : d.resetAndStart kind peer = (d.coldReset kind).startUp peer := if_pos hready
  obtain ⟨hkept, hrec⟩ := Dev.startUp_recovers (d := d.coldReset kind) (Dev.coldReset_wf kind) ((Dev.noHeader_congr (d.coldReset_flash kind)).mpr hno) peer
  rw [hstart]
  exact ⟨hkept, hrec, hkept.mem.trans (Dev.coldReset_mem hkind), hkept.flash⟩

/-- A power-on reset wants every item, and leaves on what is on (R464). -/
def Dev.porst (d : Dev) : Dev := { d with wkt := { d.wkt with mode := .run, items := d.wkt.items.map fun i => { i with wanted := true } } }

theorem exec_powerOnReset (peer : Bool) (s : State) : exec (.powerOnReset peer) s = s.act fun d => d.porst.resetAndStart .powerOn peer := by
  unfold exec
  rfl

@[simp] theorem Dev.porst_lodgeReady (d : Dev) : d.porst.lodgeReady = d.lodgeReady := by
  simp only [Dev.lodgeReady, Dev.porst, List.getD_eq_getElem?_getD, List.getElem?_map]
  cases d.wkt.items[9]? <;> rfl

theorem does_powerOnReset_recovery {s : State} (hready : s.dev.lodgeReady = true) (hno : s.dev.noHeader) (peer : Bool) :
    Does (.powerOnReset peer) s fun d => d.mem = [] ∧ d.ldg.recovery = true ∧ d.fld Reg.ldgStatus 0 3 = 6 ∧ d.flag Reg.hpLinkCtl 5 = true ∧
      d.twin.state = .none ∧ d.ldg.flash = s.dev.ldg.flash := by
  refine does_act _ (exec_powerOnReset peer s) ?_
  have hno' : s.clear.porst.noHeader := (Dev.noHeader_congr (d := s.dev) (e := s.clear.porst) rfl).mpr hno
  have hready' : s.clear.porst.lodgeReady = true := s.clear.porst_lodgeReady.trans hready
  obtain ⟨-, hrec, hmem, hflash⟩ := Dev.resetAndStart_recovers (d := s.clear.porst) (kind := .powerOn) nofun hready' hno' peer
  exact ⟨hmem, hrec.recovery, hrec.state, hrec.done, hrec.twin, hflash⟩

theorem does_powerOnReset_waits {s : State} (hw : cellsWf s.dev.regs = true) (hready : s.dev.lodgeReady = false) (peer : Bool) :
    Does (.powerOnReset peer) s fun d => d.mem = [] ∧ d.blv.vt = 0 ∧ d.ldg.flash = s.dev.ldg.flash ∧
      ∀ x, blockOf x ≠ 12 → x ≠ Reg.intBrownoutLost → d.rd x = Dev.reset.rd x := by
  refine does_act _ (exec_powerOnReset peer s) ?_
  have hwait : ¬(s.clear.porst.coldReset .powerOn).lodgeReady = true := by
    rw [show (s.clear.porst.coldReset .powerOn).lodgeReady = s.clear.lodgeReady from s.clear.porst_lodgeReady]
    exact Bool.not_eq_true _ ▸ hready
  have hreset : s.clear.porst.resetAndStart .powerOn peer = s.clear.porst.coldReset .powerOn := if_neg hwait
  rw [hreset]
  refine ⟨Dev.coldReset_mem nofun, Dev.coldReset_vt nofun, rfl, fun x hblock hx => ?_⟩
  rw [Dev.rd_coldReset (d := s.clear.porst) hw, if_neg]
  have hkind : (StartKind.powerOn == StartKind.restart) = false := by decide
  simp [coldKeeps, hblock, hx, hkind]

theorem does_alwaysOnPowerUp (straps : Fin 4) (s : State) : Does (.alwaysOnPowerUp straps []) s fun d =>
    d.regs = Dev.reset.regs ∧ d.mem = [] ∧ d.ldg.straps = straps.val ∧ d.blv.vt = 0 ∧ d.ldg.flash = s.dev.ldg.flash ∧
      (d.wkt.items.all fun i => !i.on && i.wanted) = true :=
  does_act _ (by unfold exec; rfl) ⟨rfl, rfl, rfl, rfl, rfl, rfl⟩

theorem does_supplyCollapse (s : State) : Does .supplyCollapse s fun d => d.mem = [] ∧ d.blv.vt = 0 ∧ d.ldg.flash = s.dev.ldg.flash ∧
    d.ldg.brownout = some (min 65535 (((drainPaths true).map s.dev.pwbUsed).sum + s.dev.fab.cwb.length)) := by
  refine does_act (fun d => (d.onLdg fun l => { l with
    brownout := some (min 65535 (((drainPaths true).map d.pwbUsed).foldl (· + ·) 0 + d.fab.cwb.length)) }).coldReset .powerOn)
    (by unfold exec; rfl) ?_
  refine ⟨Dev.coldReset_mem nofun, Dev.coldReset_vt nofun, rfl, ?_⟩
  rw [List.sum_eq_foldl]
  rfl

theorem exec_safeRestart (peer : Bool) (s : State) : exec (.safeRestart peer) s = s.act fun d =>
    if (d.dep.safe ∨ d.twin.state = .failed) ∧ d.fld Reg.depSafeCfg 0 16 ≠ 0 then d.resetAndStart .restart peer else d := by
  unfold exec
  rfl

theorem does_safeRestart {s : State} (hw : cellsWf s.dev.regs = true) (hsafe : s.dev.dep.safe = true) (hms : s.dev.fld Reg.depSafeCfg 0 16 ≠ 0)
    (hno : s.dev.noHeader) (peer : Bool) : Does (.safeRestart peer) s fun d => d.dep.safe = false ∧ d.mem = [] ∧
      d.rd Reg.depTwinLost = s.dev.rd Reg.depTwinLost ∧ d.ldg.flash = s.dev.ldg.flash := by
  refine does_act _ (exec_safeRestart peer s) ?_
  rw [if_pos ⟨Or.inl hsafe, hms⟩]
  have hlost : (s.clear.coldReset .restart).rd Reg.depTwinLost = s.dev.rd Reg.depTwinLost := (Dev.rd_coldReset (d := s.clear) hw ..).trans (if_pos (by decide))
  cases hready : s.dev.lodgeReady with
  | true =>
    obtain ⟨hkept, -, hmem, hflash⟩ := Dev.resetAndStart_recovers (d := s.clear) (kind := .restart) nofun hready 
      ((Dev.noHeader_congr (d := s.dev) (e := s.clear) rfl).mpr hno) peer
    exact ⟨by rw [hkept.dep]; rfl, hmem, hkept.lost.trans hlost, hflash⟩
  | false =>
    have hreset : s.clear.resetAndStart .restart peer = s.clear.coldReset .restart :=
      if_neg fun h => Bool.false_ne_true (hready.symm.trans h)
    rw [hreset]
    exact ⟨rfl, Dev.coldReset_mem nofun, hlost, rfl⟩

/-- Settles O13: every reset of the whole device is `Dev.coldReset`; where a start-up follows it, it finds no header and ends in recovery. -/
theorem deviceResets : Obligations.DeviceResets := by
  unfold Obligations.DeviceResets
  intro s straps peer hInv
  exact ⟨does_alwaysOnPowerUp straps s, fun hready hno => does_powerOnReset_recovery hready hno peer,
    fun hready => does_powerOnReset_waits hInv.regs hready peer, does_supplyCollapse s,
    fun hms => does_act _ (exec_safeRestart peer s) (if_neg fun h => h.2 hms), fun hsafe hms hno => does_safeRestart hInv.regs hsafe hms hno peer⟩

end Sys2Proof.Machine
end

section
/-! O53: the power sequencer (R417, R418), and the entry into STANDBY and SLEEP (R413, R419). -/
namespace Sys2Proof.Machine

/-! ### Items -/

/-- The item that has been changed. -/
theorem Dev.item_onItem {d : Dev} {j : Nat} (hj : j < d.wkt.items.length) (f : Item → Item) : (d.onItem j f).item j = f (d.item j) := by
  simp [Dev.item, Dev.onItem, Dev.onWkt, hj]

@[simp] theorem Dev.emit_item (d : Dev) (e : Emit) (j : Nat) : (d.emit e).item j = d.item j := rfl
@[simp] theorem Dev.bump_item (d : Dev) (a n j : Nat) : (d.bump a n).item j = d.item j := rfl

theorem settle_item (o d : Dev) (j : Nat) : (settle o d).item j = d.item j := by
  rw [Dev.item, Dev.item, settle_wkt]

theorem Dev.mem_out_emit (d : Dev) (e : Emit) : e ∈ (d.emit e).out := List.mem_append_right _ (List.mem_singleton_self _)

/-! ### Starting an item -/

/-- The Wicket counts a start of `cost` and switches item `j` on (R418). -/
def Dev.startedItem (d : Dev) (j cost : Nat) : Dev :=
  (d.onWkt fun w => { w with starts := d.wcuStarts ++ [(w.now, cost)] }).onItem j fun _ =>
    { on := true, ready := false, wanted := true, since := d.wkt.now }

@[simp] theorem Dev.startedItem_mem (d : Dev) (j cost : Nat) : (d.startedItem j cost).mem = d.mem := rfl

theorem Dev.itemStart_within {d : Dev} {j cost : Nat} (hnext : d.nextItem = some j) (hcost : cost = min (d.itemCost j) d.wcuBudget)
    (hroom : d.wcuUsed + cost ≤ d.wcuBudget) :
    d.itemStart = if j < 8 then (d.startedItem j cost).emit (.pwrEn j true) else d.startedItem j cost := by
  subst hcost
  simp only [Dev.itemStart, hnext, if_pos hroom]
  rfl

theorem Dev.itemStart_over {d : Dev} {j : Nat} (hnext : d.nextItem = some j) (hover : d.wcuBudget < d.wcuUsed + min (d.itemCost j) d.wcuBudget) :
    d.itemStart = if (d.item j).waited then d else (d.onItem j fun i => { i with waited := true }).bump Reg.wktBudgetWait := by
  simp only [Dev.itemStart, hnext, if_neg (Nat.not_le.mpr hover)]

theorem exec_itemStart (s : State) : exec .itemStart s = s.act Dev.itemStart := by unfold exec; rfl

section
variable {s : State} {j : Fin 16} (hInv : Inv s) (hnext : s.dev.nextItem = some j.val)

include hInv hnext in
theorem after_itemStart {cost : Nat} (hcost : cost = min (s.dev.itemCost j) s.dev.wcuBudget) (hroom : s.dev.wcuUsed + cost ≤ s.dev.wcuBudget) :
    After .itemStart s fun d => d.item j = { on := true, ready := false, wanted := true, since := s.dev.wkt.now } ∧
      d.wkt.starts = s.dev.wcuStarts ++ [(s.dev.wkt.now, cost)] ∧ (j.val < 8 → .pwrEn j true ∈ d.out) ∧ d.mem = s.dev.mem := by
  refine after_act _ (exec_itemStart s) ?_
  rw [Dev.itemStart_within (d := s.clear) hnext hcost hroom, settle_item, settle_wkt, settle_mem]
  have hitem : (s.clear.startedItem j cost).item j = { on := true, ready := false, wanted := true, since := s.dev.wkt.now } :=
    Dev.item_onItem (d := s.clear.onWkt _) (show j.val < s.dev.wkt.items.length by rw [hInv.items]; exact j.isLt) _
  split
  next hpin => exact ⟨hitem, rfl, fun _ => settle_out _ _ _ (Dev.mem_out_emit ..), by simp⟩
  next hpin => exact ⟨hitem, rfl, fun h => absurd h hpin, rfl⟩

include hInv hnext in
theorem does_itemStart_waits (hover : s.dev.wcuBudget < s.dev.wcuUsed + min (s.dev.itemCost j) s.dev.wcuBudget)
    (hfirst : (s.dev.item j).waited = false) : Does .itemStart s fun d => d.counts s.dev Reg.wktBudgetWait ∧ (d.item j).waited = true ∧
      (d.item j).on = (s.dev.item j).on := by
  refine does_act _ (exec_itemStart s) ?_
  have hfirst' : ¬(s.clear.item j).waited = true := Bool.not_eq_true _ ▸ hfirst
  rw [Dev.itemStart_over (d := s.clear) hnext hover, if_neg hfirst', Dev.bump_item,
    Dev.item_onItem (d := s.clear) (lt_of_lt_of_eq j.isLt hInv.items.symm)]
  exact ⟨Dev.bump_counts (d := s.clear.onItem j _) hInv.regs _, rfl, rfl⟩

include hnext in
theorem quiet_itemStart_waited (hover : s.dev.wcuBudget < s.dev.wcuUsed + min (s.dev.itemCost j) s.dev.wcuBudget)
    (hagain : (s.dev.item j).waited = true) : Quiet .itemStart s := by
  refine does_act _ (exec_itemStart s) ?_
  rw [Dev.itemStart_over (d := s.clear) hnext hover]
  exact if_pos hagain

end

theorem quiet_itemStart {s : State} (hnone : s.dev.nextItem = none) : Quiet .itemStart s := by
  refine does_act _ (exec_itemStart s) ?_
  have hnone' : s.clear.nextItem = none := hnone
  simp only [Dev.itemStart, hnone']

/-! ### An item becomes ready -/

theorem exec_itemReady (j : Fin 16) (peer : Bool) (s : State) : exec (.itemReady j peer) s = s.act fun d => d.itemReady j peer := by
  unfold exec
  rfl

theorem quiet_itemReady {s : State} {j : Fin 16} (hsoon : s.dev.wkt.now < (s.dev.item j).since + s.dev.itemSettle j) (peer : Bool) :
    Quiet (.itemReady j peer) s :=
  does_act _ (exec_itemReady j peer s) (if_pos (Or.inr (Or.inr hsoon)))

/-- An item that is on becomes ready when its SETTLE is over (R417). -/
theorem Dev.itemReady_due {d : Dev} {j : Nat} (hon : (d.item j).on = true) (hready : (d.item j).ready = false)
    (hdue : (d.item j).since + d.itemSettle j ≤ d.wkt.now) (peer : Bool) :
    d.itemReady j peer = if j = 9 then (d.onItem j fun i => { i with ready := true }).resetAndStart
      (if d.wkt.mode = .standby then .standbyWake else .powerOn) peer else d.onItem j fun i => { i with ready := true } := by
  have hnot : ¬((!(d.item j).on) = true ∨ (d.item j).ready = true ∨ d.wkt.now < (d.item j).since + d.itemSettle j) := by
    simp [hon, hready, hdue]
  exact if_neg hnot

section
variable {s : State} {j : Fin 16} (hInv : Inv s) (hon : (s.dev.item j).on = true) (hready : (s.dev.item j).ready = false)
  (hdue : (s.dev.item j).since + s.dev.itemSettle j ≤ s.dev.wkt.now) (peer : Bool)
include hInv hon hready hdue

theorem after_itemReady (hj : j.val ≠ 9) : After (.itemReady j peer) s fun d => (d.item j).ready = true ∧ d.mem = s.dev.mem := by
  refine after_act _ (exec_itemReady j peer s) ?_
  rw [Dev.itemReady_due (d := s.clear) hon hready hdue, if_neg hj, settle_item, settle_mem,
    Dev.item_onItem (d := s.clear) (lt_of_lt_of_eq j.isLt hInv.items.symm)]
  exact ⟨rfl, rfl⟩

/-- The Lodge's item brings start-up (R464, R467). -/
theorem does_itemReady_lodge (hj : j.val = 9) (hmode : s.dev.wkt.mode ≠ .standby) (hno : s.dev.noHeader) : Does (.itemReady j peer) s fun d =>
    d.ldg.recovery = true ∧ d.fld Reg.ldgStatus 0 3 = 6 ∧ d.mem = [] ∧ d.ldg.flash = s.dev.ldg.flash := by
  refine does_act _ (exec_itemReady j peer s) ?_
  rw [Dev.itemReady_due (d := s.clear) hon hready hdue, if_pos hj, if_neg (show ¬s.clear.wkt.mode = .standby from hmode), hj]
  rw [hj] at hon
  have hitem : (s.clear.onItem 9 fun i => { i with ready := true }).item 9 = { s.clear.item 9 with ready := true } :=
    Dev.item_onItem (d := s.clear) (by rw [State.clear_wkt, hInv.items]; decide) _
  have hlodge : (s.clear.onItem 9 fun i => { i with ready := true }).lodgeReady = true := by
    rw [Dev.lodgeReady, ← Dev.item, hitem]
    simpa using! hon
  have hno' : (s.clear.onItem 9 fun i => { i with ready := true }).noHeader := (Dev.noHeader_congr (d := s.dev) (e := s.clear.onItem 9 _) rfl).mpr hno
  obtain ⟨-, hrec, hmem, hflash⟩ := Dev.resetAndStart_recovers (kind := .powerOn) nofun hlodge hno' peer
  exact ⟨hrec.recovery, hrec.state, hmem, hflash⟩

end

/-! ### Entering a mode -/

theorem does_entry_denied {s : State} (hw : cellsWf s.dev.regs = true) {who : Requester} (hwho : who.val ≠ 63) :
    ∀ c ∈ [Instr.standbyEntry who, .sleepEntry who], Does c s fun d => d.oneMore s.dev .perm ∧ d.wkt = s.dev.wkt := by
  have hdenied : ∀ m, (s.clear.sleepCommit who.val m).oneMore s.dev .perm ∧ (s.clear.sleepCommit who.val m).wkt = s.dev.wkt := by
    intro m
    rw [Dev.sleepCommit, if_neg hwho]
    exact ⟨Dev.log_oneMore (d := s.clear) hw _ _ _ _, Dev.standing_keeps (d := s.clear) Dev.wkt (fun _ => rfl) (Dev.log_standing ..)⟩
  simp only [List.forall_mem_cons, List.not_mem_nil, false_implies, implies_true, and_true]
  exact ⟨does_act _ (by unfold exec; rfl) (hdenied 1), does_act _ (by unfold exec; rfl) (hdenied 2)⟩

/-- What the commit of a mode's entry does in RUN (R419). -/
theorem Dev.wktEnter_run {d : Dev} (hrun : d.wkt.mode = .run) {n : Nat} (hn : n = 1 ∨ n = 2) : (d.wktEnter n).wkt =
    if d.wkt.events = [] then { d.wkt with mode := .entering, target := if n = 1 then .standby else .sleep } else { d.wkt with lastEntry := 2 } := by
  have hok : ¬(d.wkt.mode ≠ .run ∨ (n ≠ 1 ∧ n ≠ 2)) := by rintro (h | h); exacts [h hrun, by omega]
  rw [Dev.wktEnter, if_neg hok]
  cases h : d.wkt.events <;> simp

/-- The commands of entry, each with the mode and the value it commits. -/
theorem after_entry {s : State} {who : Requester} (hwho : who.val = 63) (hrun : s.dev.wkt.mode = .run) {c : Instr} {m : WktMode}
    (hc : (c, m) ∈ [(Instr.standbyEntry who, WktMode.standby), (Instr.sleepEntry who, WktMode.sleep)]) :
    (s.dev.wkt.events = [] → After c s fun d => d.wkt.mode = .entering ∧ d.wkt.target = m) ∧
      (s.dev.wkt.events ≠ [] → After c s fun d => d.wkt.mode = .run ∧ d.wkt.lastEntry = 2) := by
  obtain ⟨n, hn, htarget, hexec⟩ : ∃ n, (n = 1 ∨ n = 2) ∧ m = (if n = 1 then .standby else .sleep) ∧
      exec c s = s.act fun d => d.sleepCommit who.val n := by
    simp only [List.mem_cons, Prod.mk.injEq, List.not_mem_nil, or_false] at hc
    rcases hc with ⟨rfl, rfl⟩ | ⟨rfl, rfl⟩
    · exact ⟨1, Or.inl rfl, rfl, by unfold exec; rfl⟩
    · exact ⟨2, Or.inr rfl, rfl, by unfold exec; rfl⟩
  have hwkt : (s.clear.sleepCommit who.val n).wkt = _ := (congrArg Dev.wkt (if_pos hwho)).trans (Dev.wktEnter_run (d := s.clear) hrun hn)
  refine ⟨fun hnone => after_act _ hexec ?_, fun hsome => after_act _ hexec ?_⟩
  · rw [settle_wkt, hwkt, if_pos (show s.clear.wkt.events = [] from hnone)]
    exact ⟨rfl, htarget.symm⟩
  · rw [settle_wkt, hwkt, if_neg (show ¬s.clear.wkt.events = [] from hsome)]
    exact ⟨hrun, rfl⟩

/-! ### Switching off -/

theorem exec_itemSwitchOff (s : State) : exec .itemSwitchOff s = s.act Dev.switchOff := by unfold exec; rfl

/-- With no item left to switch off the mode is entered (R419). -/
theorem Dev.switchOff_enters {d : Dev} (hmode : d.wkt.mode = .entering) (hnone : d.nextOff = none) :
    d.switchOff = d.onWkt fun w => { w with mode := w.target, lastEntry := 1, entered := some (d.rd64 Reg.wktAonTime) } := by
  simp [Dev.switchOff, hmode, hnone]

theorem after_itemSwitchOff_enters {s : State} (hmode : s.dev.wkt.mode = .entering) (hnone : s.dev.nextOff = none) : After .itemSwitchOff s fun d =>
    d.wkt.mode = s.dev.wkt.target ∧ d.wkt.lastEntry = 1 ∧ d.wkt.entered = some (s.dev.rd64 Reg.wktAonTime) ∧ d.mem = s.dev.mem := by
  refine after_act _ (exec_itemSwitchOff s) ?_
  rw [Dev.switchOff_enters (d := s.clear) hmode hnone, settle_wkt, settle_mem]
  exact ⟨rfl, rfl, rfl, rfl⟩

/-- The items 3 to 7 power nothing of the device itself (R417). -/
theorem Dev.switchOff_item {d : Dev} (hmode : d.wkt.mode = .entering) {j : Nat} (hnext : d.nextOff = some j) (hlo : 3 ≤ j) (hhi : j < 8) :
    let off := (d.onItem j fun _ => { on := false, ready := false, wanted := false }).emit (.pwrEn j false)
    d.switchOff = if off.nextOff.isSome then off
      else off.onWkt fun w => { w with mode := w.target, lastEntry := 1, entered := some (off.rd64 Reg.wktAonTime) } := by
  intro off
  have hlost : ∀ e : Dev, e.itemLost j = e := by
    intro e
    interval_cases j <;> rfl
  simp only [Dev.switchOff, hmode, hnext, hlost, ne_eq, not_true_eq_false, if_false, if_pos hhi]
  rfl

theorem after_itemSwitchOff_item {s : State} (hInv : Inv s) {j : Fin 16} (hmode : s.dev.wkt.mode = .entering) (hnext : s.dev.nextOff = some j.val)
    (hlo : 3 ≤ j.val) (hhi : j.val < 8) :
    After .itemSwitchOff s fun d => (d.item j).on = false ∧ .pwrEn j false ∈ d.out ∧ d.mem = s.dev.mem := by
  refine after_act _ (exec_itemSwitchOff s) ?_
  rw [settle_item, settle_mem, Dev.switchOff_item (d := s.clear) hmode hnext hlo hhi]
  have hitem : (s.clear.onItem j fun _ => { on := false, ready := false, wanted := false }).item j = { on := false, ready := false, wanted := false } :=
    Dev.item_onItem (d := s.clear) (lt_of_lt_of_eq j.isLt hInv.items.symm) _
  have hoff := congrArg Item.on hitem
  generalize hd : (s.clear.onItem j fun _ => { on := false, ready := false, wanted := false }) = d at hoff ⊢
  have hmem : d.mem = s.dev.mem := hd ▸ rfl
  split
  · exact ⟨hoff, settle_out _ _ _ (d.mem_out_emit _), hmem⟩
  · exact ⟨hoff, settle_out _ _ _ (d.mem_out_emit _), hmem⟩

/-- Settles O53: the rules of `Dev.itemStart`, `Dev.itemReady`, `Dev.sleepCommit` and `Dev.switchOff`, case by case. -/
theorem powerItems : Obligations.PowerItems := by
  unfold Obligations.PowerItems
  intro s j peer who hInv cost
  refine ⟨quiet_itemStart, fun hnext => ⟨after_itemStart hInv hnext rfl, does_itemStart_waits hInv hnext, quiet_itemStart_waited hnext⟩,
    fun hsoon => quiet_itemReady hsoon peer, fun hon hready hdue => ⟨after_itemReady hInv hon hready hdue peer,
      does_itemReady_lodge hInv hon hready hdue peer⟩, does_entry_denied hInv.regs, fun hwho hrun c m => after_entry hwho hrun, fun hmode => ?_,
    after_itemSwitchOff_enters, after_itemSwitchOff_item hInv, ?_⟩
  · exact does_act _ (exec_itemSwitchOff s) (if_pos hmode)
  · refine after_act _ (by unfold exec; rfl) ?_
    rw [settle_wkt, settle_mem]
    exact ⟨rfl, rfl, rfl⟩

end Sys2Proof.Machine
end

section
/-! Spares (R450, R455, R462): what a swap records, and the registers it writes. -/
namespace Sys2Proof.Machine

/-! ### Registers that the spares write -/

/-- The registers that the record of a swap writes (R455, R457): the map, its counter and the notes lost. -/
def spareReg (a : Nat) : Prop := a = Reg.depSpareCount ∨ a = Reg.depNoteOvf ∨ (Reg.depSpareMap ≤ a ∧ a < Reg.depSpareMap + 0x200)

theorem not_spareReg {a : Nat} (h : a ≠ Reg.depSpareCount ∧ a ≠ Reg.depNoteOvf ∧ (a < Reg.depSpareMap ∨ Reg.depSpareMap + 0x200 ≤ a)) :
    ∀ x, spareReg x → ¬x = a := by
  rintro x hx rfl
  obtain ⟨hcount, hovf, hmap⟩ := h
  rcases hx with hx | hx | hx
  · exact hcount hx
  · exact hovf hx
  · omega

namespace Dev.RegsKept

variable {p : Nat → Prop} {d e : Dev}

theorem sendNote (h : RegsKept p d e) (hovf : ¬p Reg.depNoteOvf) (ntype bit map : Nat) : RegsKept p d (e.sendNote ntype bit map) := by
  have hplaced : ∀ note, RegsKept p d (e.placeNote note) := fun _ => ite (h.bump hovf) h.step
  unfold Dev.sendNote
  refine ite (hplaced _) ?_
  split
  · exact h.step
  · exact h

/-- The map has room for 64 entries (R455). -/
theorem spareEntry (h : RegsKept p d e) (hp : ∀ a, spareReg a → ¬p a) {k : Nat} (hk : k < 64) (x : Nat) :
    RegsKept p d (e.wr64 (Reg.depSpareMap + 8 * k) x) :=
  h.wr64 (hp _ (Or.inr (Or.inr ⟨by omega, by omega⟩))) (hp _ (Or.inr (Or.inr ⟨by omega, by omega⟩))) x

theorem recordSpare (h : RegsKept p d e) (hp : ∀ a, spareReg a → ¬p a) (kind cause unit spare : Nat) :
    RegsKept p d (e.recordSpare kind cause unit spare) := by
  unfold Dev.recordSpare
  refine sendNote (bump ?_ (hp _ (Or.inl rfl))) (hp _ (Or.inr (Or.inl rfl))) _ _ _
  split
  next hroom => exact (h.spareEntry hp hroom _).step
  next => exact h

theorem retireRow (h : RegsKept p d e) (hp : ∀ a, spareReg a → ¬p a) (row cause : Nat) : RegsKept p d (e.retireRow row cause) := by
  unfold Dev.retireRow Dev.keepRemap
  exact ite h.step (recordSpare (ite h.step h.step) hp ..)

theorem swapBank (h : RegsKept p d e) (hp : ∀ a, spareReg a → ¬p a) (m word : Nat) (column : Option Nat) (cause : Nat) :
    RegsKept p d (e.swapBank m word column cause) := by
  unfold Dev.swapBank Dev.keepRemap
  exact ite h (ite h.step (recordSpare (ite h.step h.step) hp ..))

/-- A correction enters the wear tracker, and may swap (R453). -/
theorem wear (h : RegsKept p d e) (hp : ∀ a, spareReg a → ¬p a) (m loc col : Nat) : RegsKept p d ((e.wearEntry m loc col).wearSwap m loc col) := by
  have hentry : RegsKept p d (e.wearEntry m loc col) := by
    unfold Dev.wearEntry
    dsimp only
    split <;> exact h.step
  unfold Dev.wearSwap
  dsimp only
  split
  · exact hentry
  · exact ite hentry (ite (hentry.retireRow hp ..) (hentry.swapBank hp ..))

theorem loseRsv (h : RegsKept p d e) (q : Rsv → Bool) : RegsKept p d (e.loseRsv q) := h.step.foldl fun _ he _ _ => he.step

theorem eccUncorr (h : RegsKept p d e) (hp : ∀ a, spareReg a → ¬p a) (huncorr : ¬p Reg.depUncorrCount) (hdram : ¬p Reg.depDramUncorr) (m word : Nat) :
    RegsKept p d (e.eccUncorr m word) :=
  ite (((h.bump huncorr).bump hdram).retireRow hp ..) ((h.bump huncorr).swapBank hp ..)

end Dev.RegsKept

/-! ### The record of a swap -/

/-- The device with the registers, the notes and what leaves set aside. -/
def Dev.unnoted (d : Dev) : Dev := { d with regs := [], itm := [], out := [], dep := { d.dep with notes := [] } }

theorem Dev.sendNote_unnoted (d : Dev) (ntype bit map : Nat) : (d.sendNote ntype bit map).unnoted = d.unnoted := by
  unfold Dev.sendNote Dev.placeNote
  dsimp only
  split
  · split <;> rfl
  · split <;> rfl

/-- A swap is recorded (R455): the dependability block beside the notes, and the counter. -/
theorem Dev.recordSpare_dep {d : Dev} (kind cause unit spare : Nat) : { (d.recordSpare kind cause unit spare).dep with notes := [] } =
    { d.dep with notes := [], mapUsed := d.dep.mapUsed + (if d.dep.mapUsed < 64 then 1 else 0) } := by
  unfold Dev.recordSpare
  refine (congrArg Dev.dep (Dev.sendNote_unnoted ..)).trans ?_
  split <;> rfl

theorem Dev.recordSpare_count {d : Dev} (hw : cellsWf d.regs = true) (kind cause unit spare : Nat) :
    (d.recordSpare kind cause unit spare).rd Reg.depSpareCount = d.rd Reg.depSpareCount + 1 := by
  unfold Dev.recordSpare
  extract_lets e d1
  have h1 : d.RegsKept (· = Reg.depSpareCount) d1 := by
    unfold d1
    split
    next hroom =>
      refine ((Dev.RegsKept.refl hw).wr64 ?_ ?_ e).step <;> simp only [Reg.depSpareMap, Reg.depSpareCount] <;> omega
    next => exact .refl hw
  have hnote : (d1.bump Reg.depSpareCount).RegsKept (· = Reg.depSpareCount) ((d1.bump Reg.depSpareCount).sendNote 2 0xFF e) :=
    (Dev.RegsKept.refl (Dev.bump_wf h1.wf ..)).sendNote (by decide) _ _ _
  rw [hnote.rd _ rfl, Dev.rd_bump h1.wf, if_pos rfl, h1.rd _ rfl]
  rfl

/-! ### Swap-in -/

/-- The spare that a unit moves onto (R449): the lowest of its pool that is not in use. -/
def Dev.nextSpare (d : Dev) (kind unit : Nat) : SpareUse :=
  { kind := kind, unit := unit, spare := (d.dep.spares.filter fun s => s.kind == kind && sparePool kind s.unit == sparePool kind unit).length }

/-- The device as a unit moves onto a spare, before the swap is recorded (R450). -/
structure Dev.UnitMoved (d : Dev) (kind unit : Nat) (e : Dev) : Prop where
  dep : e.dep = { d.dep with spares := d.dep.spares ++ [d.nextSpare kind unit], unitFaults := d.dep.unitFaults.filter fun u => u != (kind, unit) }
  regs : d.RegsKept (· ≠ Reg.depSpareLost) e

theorem Dev.swapUnit_moves {d : Dev} (hw : cellsWf d.regs = true) (kind unit cause : Nat) :
    ∃ e spare, d.UnitMoved kind unit e ∧ d.swapUnit kind unit cause = e.recordSpare kind cause unit spare := by
  have hkept := Dev.RegsKept.refl (p := (· ≠ Reg.depSpareLost)) hw
  unfold Dev.swapUnit
  extract_lets spare d1 c held frm d2 m d3
  refine ⟨_, _, ?_, rfl⟩
  unfold d3
  split
  · exact ⟨rfl, (hkept.step).bump (by simp) _⟩
  · exact ⟨rfl, hkept.step⟩
  · exact ⟨rfl, (hkept.step).bump (by simp) _⟩
  · exact ⟨rfl, hkept.step⟩

/-- What a swap-in shows (R450, R455, R462). -/
structure Dev.SwappedIn (d : Dev) (kind unit : Nat) (e : Dev) : Prop where
  spare : ∃ x, e.dep.spares = d.dep.spares ++ [x] ∧ x.kind = kind ∧ x.unit = unit
  mapUsed : d.dep.mapUsed < 64 → e.dep.mapUsed = d.dep.mapUsed + 1
  cleared : (kind, unit) ∉ e.dep.unitFaults
  counted : e.rd Reg.depSpareCount = d.rd Reg.depSpareCount + 1

theorem Dev.swapUnit_swapsIn {d : Dev} (hw : cellsWf d.regs = true) (kind unit cause : Nat) : d.SwappedIn kind unit (d.swapUnit kind unit cause) := by
  obtain ⟨e, spare, ⟨hdep, hregs⟩, hswap⟩ := Dev.swapUnit_moves hw kind unit cause
  have hrec := Dev.recordSpare_dep (d := e) kind cause unit spare
  have hcount := Dev.recordSpare_count hregs.wf kind cause unit spare
  rw [hregs.rd _ (by decide)] at hcount
  rw [hswap]
  generalize e.recordSpare kind cause unit spare = f at hrec hcount
  rw [hdep] at hrec
  have hspares := congrArg Dep.spares hrec
  have hused := congrArg Dep.mapUsed hrec
  have hfaults := congrArg Dep.unitFaults hrec
  refine ⟨⟨_, hspares, rfl, rfl⟩, fun hroom => ?_, ?_, hcount⟩
  · dsimp only at hused
    rwa [if_pos hroom] at hused
  · dsimp only at hfaults
    simp [hfaults]

/-- The value that SWAP_IN commits (R462): OP 1, the kind and the unit. -/
def swapInWord (kind : Fin 16) (u : BitVec 24) : Word := BitVec.ofNat 32 (kind.val + 16 * u.toNat + 2 ^ 28)

theorem swapInWord_fields (kind : Fin 16) (u : BitVec 24) : fieldOf (swapInWord kind u) 0 4 = kind.val ∧ fieldOf (swapInWord kind u) 4 24 = u.toNat ∧
    fieldOf (swapInWord kind u) 28 4 = 1 := by
  have hk := kind.isLt
  have hu := u.isLt
  simp only [fieldOf, bitsOf, swapInWord, BitVec.toNat_ofNat]
  omega

/-- A committed SWAP_IN of a unit with a checker: onto its spare, or refused where none is free (R462). -/
theorem Dev.spareCommit_swapIn (d : Dev) {kind : Fin 16} (hlo : 5 ≤ kind.val) (hhi : kind.val ≤ 8) (u : BitVec 24) :
    let e := d.wr Reg.depSpareCmd (swapInWord kind u &&& 0x0FFFFFFF)
    d.spareCommit (swapInWord kind u) = if d.spareFree kind u.toNat then e.swapUnit kind u.toNat 3 else e.reject := by
  intro e
  obtain ⟨hkind, hunit, hop⟩ := swapInWord_fields kind u
  simp only [Dev.spareCommit, hkind, hunit, hop, hlo, hhi, and_self, if_true]
  rfl

theorem Dev.spareCommit_swapsIn {d : Dev} (hw : cellsWf d.regs = true) {kind : Fin 16} (hlo : 5 ≤ kind.val) (hhi : kind.val ≤ 8) {u : BitVec 24}
    (hfree : d.spareFree kind u.toNat = true) : d.SwappedIn kind u.toNat (d.spareCommit (swapInWord kind u)) := by
  rw [Dev.spareCommit_swapIn d hlo hhi, if_pos hfree]
  obtain ⟨hspare, hused, hcleared, hcounted⟩ := Dev.swapUnit_swapsIn (Dev.wr_wf hw Reg.depSpareCmd (swapInWord kind u &&& 0x0FFFFFFF)) kind.val u.toNat 3
  exact ⟨hspare, hused, hcleared, hcounted.trans (by rw [Dev.rd_wr_ne hw _ (by decide)])⟩

end Sys2Proof.Machine
end

section
/-! O54, first part: what the checkers find (R426, R431, R494), the scrubber (R429) and the swap-in command (R462). -/
namespace Sys2Proof.Machine

/-! ### Checkers -/

/-- A plane that is found faulted is out, and the other is as it was. -/
theorem planeOut_testBit : ∀ (n : Fin 4) (k : Fin 2),
    (if n.val.testBit k.val then n.val - 2 ^ k.val else n.val).testBit k.val = false ∧
    (if n.val.testBit k.val then n.val - 2 ^ k.val else n.val).testBit (1 - k.val) = n.val.testBit (1 - k.val) := by decide

theorem does_planeFault {s : State} (h : s.dev.dep.planeOk < 4) (k : Fin 2) : Does (.planeFault k) s fun d => d.dep.planeOk.testBit k = false ∧
    d.dep.planeOk.testBit (1 - k.val) = s.dev.dep.planeOk.testBit (1 - k.val) ∧ d.sameStores s.dev := by
  obtain ⟨hout, hother⟩ := planeOut_testBit ⟨s.dev.dep.planeOk, h⟩ k
  exact does_of_eq (f := fun d => d.onDep fun p => { p with planeOk := if p.planeOk.testBit k.val then p.planeOk - 2 ^ k.val else p.planeOk })
    (by unfold exec; rfl) rfl ⟨hout, hother, Dev.onDep_regs .., Dev.onDep_mem ..⟩

theorem exec_unitFault (kind : Fin 16) (unit : Nat) (s : State) : exec (.unitFault kind unit) s = s.act fun d =>
    if unitExists kind.val unit ∧ !d.dep.unitFaults.contains (kind.val, unit) then
      d.onDep fun p => { p with unitFaults := p.unitFaults ++ [(kind.val, unit)] }
    else d := by
  unfold exec
  rfl

theorem does_unitFault {s : State} {kind : Fin 16} {unit : Nat} (hunit : unitExists kind unit = true)
    (hnew : (kind.val, unit) ∉ s.dev.dep.unitFaults) : Does (.unitFault kind unit) s fun d =>
      d.dep.unitFaults = s.dev.dep.unitFaults ++ [(kind.val, unit)] ∧ d.sameStores s.dev := by
  refine does_act _ (exec_unitFault kind unit s) ?_
  have hfirst : (!s.clear.dep.unitFaults.contains (kind.val, unit)) = true := by
    rw [Bool.not_eq_true', List.contains_eq_mem]
    exact decide_eq_false hnew
  rw [if_pos ⟨hunit, hfirst⟩]
  exact ⟨rfl, rfl, rfl⟩

theorem quiet_unitFault {s : State} {kind : Fin 16} {unit : Nat} (hno : unitExists kind unit = false) : Quiet (.unitFault kind unit) s :=
  does_act _ (exec_unitFault kind unit s) (if_neg fun h => Bool.false_ne_true (hno.symm.trans h.1))

theorem exec_arcadeHeartbeatMissing (s : State) : exec .arcadeHeartbeatMissing s = s.act fun d =>
    if d.fld Reg.ldgStatus 3 3 = 2 then d.onDep fun p => { p with arcadeMissing := true } else d := by
  unfold exec
  rfl

/-! ### The scrubber -/

/-- DEP_SCRUB_CFG holds the rate of a memory's scrubber (R429). -/
def Dev.scrubRate (d : Dev) (m : Nat) : Nat := d.fld Reg.depScrubCfg (if m = 2 then 8 else 0) (if m = 2 then 16 else 8)

theorem exec_scrubVisit (m : Fin 15) (w : Nat) (f : ScrubFind) (s : State) : exec (.scrubVisit m w f) s = s.act fun d => d.scrub m w f := by
  unfold exec
  rfl

section
variable {d : Dev} {m w : Nat} (hrate : d.scrubRate m ≠ 0)
include hrate

theorem Dev.scrub_clean : d.scrub m w .clean = d.onDep fun p => { p with scrubbed := p.scrubbed.filter (· != eccDetail m w) } := if_neg hrate

theorem Dev.scrub_corrected (b : Fin 79) : d.scrub m w (.corrected b) = d.eccCorrected m w b ∨
    ∃ ga, d.scrub m w (.corrected b) = (d.eccCorrected m w b).rsvStore 70 70 true ga 8 := by
  simp only [Dev.scrub]
  cases wordAddr m w with
  | none => exact Or.inl (if_neg hrate)
  | some a => exact Or.inr ⟨_, if_neg hrate⟩

theorem Dev.scrub_again (hseen : eccDetail m w ∈ d.dep.scrubbed) : d.scrub m w .uncorrectable = d :=
  (if_neg hrate).trans (if_pos (List.elem_iff.mpr hseen))

/-- An uncorrectable word is found for the first time: it is taken out of use, remembered and logged. -/
theorem Dev.scrub_uncorrectable (hnew : eccDetail m w ∉ d.dep.scrubbed) : ∃ e c ga, (e = d.eccUncorr m w ∨ ∃ a, e = d.markBad a) ∧
    d.scrub m w .uncorrectable = (e.onDep fun p => { p with scrubbed := p.scrubbed ++ [eccDetail m w] }).log c .decUncorr ga (eccDetail m w) := by
  have hfirst : ¬d.dep.scrubbed.contains (eccDetail m w) = true := fun h => hnew (List.elem_iff.mp h)
  simp only [Dev.scrub]
  cases wordAddr m w with
  | none => exact ⟨d.eccUncorr m w, _, _, Or.inl rfl, (if_neg hrate).trans (if_neg hfirst)⟩
  | some a => exact ⟨d.markBad a, _, _, Or.inr ⟨a, rfl⟩, (if_neg hrate).trans (if_neg hfirst)⟩

end

section
variable {s : State} {m : Fin 15} {w : Nat}

theorem quiet_scrubVisit_off (hrate : s.dev.scrubRate m = 0) (f : ScrubFind) : Quiet (.scrubVisit m w f) s :=
  does_act _ (exec_scrubVisit m w f s) (if_pos hrate)

variable (hrate : s.dev.scrubRate m ≠ 0)
include hrate

theorem does_scrubVisit_clean : Does (.scrubVisit m w .clean) s fun d => eccDetail m w ∉ d.dep.scrubbed ∧ d.sameStores s.dev := by
  refine does_act _ (exec_scrubVisit m w .clean s) ?_
  rw [Dev.scrub_clean (d := s.clear) hrate]
  exact ⟨by simp [Dev.onDep], rfl, rfl⟩

/-- A correction outside the DRAM is counted in DEP_CORR_COUNT. -/
theorem does_scrubVisit_corrected (hw : cellsWf s.dev.regs = true) (b : Fin 79) (hm : m.val ≠ 2) : Does (.scrubVisit m w (.corrected b)) s fun d =>
    d.rd Reg.depCorrCount = s.dev.rd Reg.depCorrCount + 1 ∧ d.mem = s.dev.mem := by
  refine does_act _ (exec_scrubVisit m w (.corrected b) s) ⟨?_, Dev.scrub_mem ..⟩
  have hcount : (s.clear.bump Reg.depCorrCount).RegsKept (· = Reg.depCorrCount) (s.clear.eccCorrected m w b) := by
    unfold Dev.eccCorrected
    rw [if_neg hm]
    exact (Dev.RegsKept.refl (Dev.bump_wf (d := s.clear) hw ..)).wear (not_spareReg (by decide)) ..
  have hbump : (s.clear.bump Reg.depCorrCount).rd Reg.depCorrCount = s.dev.rd Reg.depCorrCount + 1 := (Dev.rd_bump (d := s.clear) hw ..).trans (if_pos rfl)
  rcases Dev.scrub_corrected (d := s.clear) hrate b with hscrub | ⟨ga, hscrub⟩ <;> rw [hscrub]
  · exact (hcount.rd _ rfl).trans hbump
  · exact ((hcount.loseRsv _).rd _ rfl).trans hbump

theorem quiet_scrubVisit_again (hseen : eccDetail m w ∈ s.dev.dep.scrubbed) : Quiet (.scrubVisit m w .uncorrectable) s :=
  does_act _ (exec_scrubVisit m w .uncorrectable s) (Dev.scrub_again (d := s.clear) hrate hseen)

theorem does_scrubVisit_uncorrectable (hw : cellsWf s.dev.regs = true) (hnew : eccDetail m w ∉ s.dev.dep.scrubbed) :
    Does (.scrubVisit m w .uncorrectable) s fun d => d.oneMore s.dev .decUncorr ∧ eccDetail m w ∈ d.dep.scrubbed ∧ d.mem = s.dev.mem := by
  have hmem := Dev.scrub_mem s.clear m w .uncorrectable
  refine does_of_eq (exec_scrubVisit m w .uncorrectable s) rfl ?_
  obtain ⟨e, c, ga, he, hscrub⟩ := Dev.scrub_uncorrectable (d := s.clear) hrate hnew
  rw [hscrub] at hmem ⊢
  have hkept : s.clear.RegsKept (· = Reg.intTypeCount + 4 * errCode .decUncorr) e := by
    have huncorr : ∀ f : Dev, s.clear.RegsKept (· = Reg.intTypeCount + 4 * errCode .decUncorr) f → ∀ m w,
        s.clear.RegsKept (· = Reg.intTypeCount + 4 * errCode .decUncorr) (f.eccUncorr m w) := fun f hf m w =>
      hf.eccUncorr (not_spareReg (by decide)) (by decide) (by decide) m w
    have hself : s.clear.RegsKept (· = Reg.intTypeCount + 4 * errCode .decUncorr) s.clear := .refl hw
    rcases he with rfl | ⟨a, rfl⟩
    · exact huncorr _ hself _ _
    · exact .ite hself (huncorr _ hself.step _ _)
  refine ⟨?_, ?_, hmem⟩
  · exact (Dev.log_oneMore (d := e.onDep _) hkept.wf c .decUncorr ga _).trans (congrArg (· + 1) (hkept.rd _ rfl))
  · rw [Dev.log_keeps Dev.dep (fun _ => rfl)]
    exact List.mem_append_right _ (List.mem_singleton_self _)

end

/-! ### Swap-in -/

theorem exec_swapIn (kind : Fin 16) (u : BitVec 24) (s : State) : exec (.swapIn kind u) s = s.act fun d => d.spareCommit (swapInWord kind u) := by
  unfold exec
  rfl

section
variable {s : State} (hw : cellsWf s.dev.regs = true) {kind : Fin 16} (hlo : 5 ≤ kind.val) (hhi : kind.val ≤ 8) {u : BitVec 24}
include hw hlo hhi

theorem does_swapIn (hfree : s.dev.spareFree kind u.toNat = true) (hroom : s.dev.dep.mapUsed < 64) : Does (.swapIn kind u) s fun d =>
    (∃ x, d.dep.spares = s.dev.dep.spares ++ [x] ∧ x.kind = kind.val ∧ x.unit = u.toNat) ∧ d.dep.mapUsed = s.dev.dep.mapUsed + 1 ∧
      (kind.val, u.toNat) ∉ d.dep.unitFaults ∧ d.rd Reg.depSpareCount = s.dev.rd Reg.depSpareCount + 1 ∧ d.mem = s.dev.mem := by
  refine does_of_eq (exec_swapIn kind u s) rfl ?_
  have hswap := Dev.spareCommit_swapsIn (d := s.clear) hw hlo hhi hfree
  exact ⟨hswap.spare, hswap.mapUsed hroom, hswap.cleared, hswap.counted, Dev.spareCommit_mem ..⟩

theorem does_swapIn_refused (hfree : s.dev.spareFree kind u.toNat = false) : Does (.swapIn kind u) s fun d =>
    d.dep = s.dev.dep ∧ d.rd Reg.sysAccessReject = s.dev.rd Reg.sysAccessReject + 1 ∧ d.mem = s.dev.mem := by
  refine does_of_eq (exec_swapIn kind u s) rfl ?_
  rw [Dev.spareCommit_swapIn s.clear hlo hhi, if_neg (show ¬s.clear.spareFree kind u.toNat = true from Bool.eq_false_iff.mp hfree)]
  refine ⟨rfl, ?_, rfl⟩
  rw [Dev.reject, Dev.rd_bump (Dev.wr_wf (d := s.clear) hw ..), if_pos rfl, Dev.rd_wr_ne (d := s.clear) hw _ (by decide)]
  rfl

end

theorem checkersAndSpares : Claims.CheckersAndSpares := by
  unfold Claims.CheckersAndSpares
  intro s out k kind unit u m w f hInv
  have hw := hInv.regs
  refine ⟨does_act _ (by unfold exec; rfl) rfl, does_act _ (by unfold exec; rfl) rfl, does_act _ (by unfold exec; rfl) rfl,
    fun h => does_planeFault h k, fun h => does_act _ (exec_arcadeHeartbeatMissing s) (if_pos h),
    fun h => does_act _ (exec_arcadeHeartbeatMissing s) (if_neg h), does_unitFault, quiet_unitFault, fun h => quiet_scrubVisit_off h f,
    fun h => ⟨does_scrubVisit_clean h, does_scrubVisit_corrected h hw, quiet_scrubVisit_again h, does_scrubVisit_uncorrectable h hw⟩,
    fun hlo hhi => ⟨does_swapIn hw hlo hhi, does_swapIn_refused hw hlo hhi⟩⟩

end Sys2Proof.Machine
end

section
/-! Bytes and the numbers they spell (R5), and bytes of memory after a store. -/
namespace Sys2Proof.Machine

/-! ### Numbers -/

theorem leNat_lt : ∀ bs : List Byte, leNat bs < 256 ^ bs.length
  | [] => by simp [leNat]
  | b :: t => by
    have ht := leNat_lt t
    have hb : b.toNat < 256 := b.isLt
    rw [leNat, List.length_cons, Nat.pow_succ]
    omega

theorem leBytes_leNat : ∀ bs : List Byte, leBytes bs.length (leNat bs) = bs
  | [] => rfl
  | b :: t => by
    have hb : b.toNat < 256 := b.isLt
    have hhead : BitVec.ofNat 8 (b.toNat + 256 * leNat t) = b := BitVec.eq_of_toNat_eq (by rw [BitVec.toNat_ofNat]; omega)
    have htail : (b.toNat + 256 * leNat t) / 256 = leNat t := by omega
    rw [leNat, List.length_cons, leBytes, hhead, htail, leBytes_leNat t]

theorem leNat_append : ∀ a b : List Byte, leNat (a ++ b) = leNat a + 256 ^ a.length * leNat b
  | [], b => by simp [leNat]
  | x :: a, b => by
    rw [List.cons_append, leNat, leNat_append a b, leNat, List.length_cons, Nat.pow_succ]
    ring

/-- A number of no more than `n` bytes is spelled by them. -/
theorem leNat_leBytes_of_lt {n x : Nat} (h : x < 256 ^ n) : leNat (leBytes n x) = x := by rw [leNat_leBytes, Nat.mod_eq_of_lt h]

/-! ### Bytes of memory -/

variable {d : Dev}

theorem Dev.byteAt_setByte (hw : Memory.wf d.mem = true) (a c : Nat) (b : Byte) : (d.setByte a b).byteAt c = if c = a then b else d.byteAt c :=
  cellGet_set hw a c b

theorem Dev.setByte_memWf (hw : Memory.wf d.mem = true) (a : Nat) (b : Byte) : Memory.wf (d.setByte a b).mem = true := cellsWf_set a b hw

theorem Dev.setBytes_memWf : ∀ (x : WData) {d : Dev} (a : Nat), Memory.wf d.mem = true → Memory.wf (d.setBytes a x).mem = true
  | [], _, _, hw => hw
  | none :: t, _, a, hw => Dev.setBytes_memWf t (a + 1) hw
  | some b :: t, _, a, hw => Dev.setBytes_memWf t (a + 1) (Dev.setByte_memWf hw a b)

/-- A byte outside the range stored to is as it was. -/
theorem Dev.byteAt_setBytes_apart : ∀ (x : WData) {d : Dev} {a c : Nat}, Memory.wf d.mem = true → c < a ∨ a + x.length ≤ c →
    (d.setBytes a x).byteAt c = d.byteAt c
  | [], _, _, _, _, _ => rfl
  | none :: t, _, a, c, hw, hc => by
    rw [List.length_cons] at hc
    exact Dev.byteAt_setBytes_apart t hw (by omega)
  | some b :: t, d, a, c, hw, hc => by
    rw [List.length_cons] at hc
    rw [Dev.setBytes, Dev.byteAt_setBytes_apart t (Dev.setByte_memWf hw a b) (by omega), Dev.byteAt_setByte hw, if_neg (by omega)]

theorem Dev.bytesAt_congr {e : Dev} : ∀ {n a : Nat}, (∀ c, a ≤ c → c < a + n → e.byteAt c = d.byteAt c) → e.bytesAt a n = d.bytesAt a n
  | 0, _, _ => rfl
  | n + 1, a, h => by
    rw [Dev.bytesAt, Dev.bytesAt, h a le_rfl (by omega), Dev.bytesAt_congr fun c hlo hhi => h c (by omega) (by omega)]

theorem Dev.bytesAt_length : ∀ (n a : Nat), (d.bytesAt a n).length = n
  | 0, _ => rfl
  | n + 1, a => by rw [Dev.bytesAt, List.length_cons, Dev.bytesAt_length n]

/-- What a store leaves where it stored. -/
theorem Dev.bytesAt_setBytes : ∀ (bs : List Byte) {d : Dev} (a : Nat), Memory.wf d.mem = true → (d.setBytes a (bs.map some)).bytesAt a bs.length = bs
  | [], _, _, _ => rfl
  | b :: t, d, a, hw => by
    have hw' := Dev.setByte_memWf hw a b
    rw [List.map_cons, Dev.setBytes, List.length_cons, Dev.bytesAt, Dev.bytesAt_setBytes t (a + 1) hw',
      Dev.byteAt_setBytes_apart _ hw' (Or.inl (Nat.lt_succ_self a)), Dev.byteAt_setByte hw, if_pos rfl]

/-- A range apart from the one stored to is as it was. -/
theorem Dev.bytesAt_setBytes_apart (x : WData) {a c n : Nat} (hw : Memory.wf d.mem = true) (h : c + n ≤ a ∨ a + x.length ≤ c) :
    (d.setBytes a x).bytesAt c n = d.bytesAt c n :=
  Dev.bytesAt_congr fun k hlo hhi => Dev.byteAt_setBytes_apart x hw (by omega)

/-- A number stored to memory is read back. -/
theorem Dev.numAt_setNum (hw : Memory.wf d.mem = true) {a n x : Nat} (hx : x < 256 ^ n) : (d.setNum a n x).numAt a n = x := by
  have hread := Dev.bytesAt_setBytes (leBytes n x) a hw
  rw [leBytes_length] at hread
  rw [Dev.numAt, Dev.setNum, hread, leNat_leBytes_of_lt hx]

theorem Dev.numAt_setNum_apart (hw : Memory.wf d.mem = true) {a c n k : Nat} (x : Nat) (h : c + k ≤ a ∨ a + n ≤ c) :
    (d.setNum a n x).numAt c k = d.numAt c k := by
  rw [Dev.numAt, Dev.setNum, Dev.bytesAt_setBytes_apart _ hw (by simpa [leBytes_length] using h), Dev.numAt]

end Sys2Proof.Machine
end

section
/-!
O47: the clause on generation fails. Generation itself advances the profile's freshness value (R401), but the frame then goes on to the Pergola, and
`Inv` does not bound the input port a frame entered by: PGL_IN_CELLS of an input port beyond the Pergola's can be the address of LAST_FV of a
profile, and the frame's cell is counted there.
-/
namespace Sys2Proof.Machine

/-! ### What follows a command lowers no register that it does not name -/

/-- A set of one cell lowers no other one, in a store that need not be canonical. -/
theorem cellGet_le_cellSet {w : Nat} {a c : Nat} (hc : c ≠ a) (v : BitVec w) (m : Sparse w) : cellGet m c ≤ cellGet (cellSet m a v) c := by
  induction m with
  | nil => exact Nat.zero_le _
  | cons p t ih =>
    obtain ⟨k, x⟩ := p
    have hac : a ≠ c := Ne.symm hc
    have hcons : ∀ y : BitVec w, cellGet ((a, y) :: t) c ≤ cellGet t c := fun y => by
      simp only [cellGet, if_neg hac]
      split
      · exact Nat.zero_le _
      · exact BitVec.le_refl _
    have hfront : a < k → cellGet ((a, v) :: (k, x) :: t) c = cellGet ((k, x) :: t) c := fun hak => by
      simp only [cellGet, if_neg hac]
      by_cases hca : c < a
      · rw [if_pos hca, if_neg (by omega), if_pos (by omega)]
      · rw [if_neg hca]
    simp only [cellSet]
    split
    · rename_i hak
      split
      · exact BitVec.le_refl _
      · rw [hfront hak]
        exact BitVec.le_refl _
    · split
      · rename_i hak
        subst hak
        split
        · exact hcons x
        · simp only [cellGet, if_neg hac]
          exact BitVec.le_refl _
      · simp only [cellGet]
        split
        · exact BitVec.le_refl _
        · split
          · exact BitVec.le_refl _
          · exact ih

/-- From one device to another the register `off` has not been lowered, unless the register hub has restored what it could (R435). -/
def Dev.NotLowered (off : Nat) (d e : Dev) : Prop :=
  e.gzb.chans.length = d.gzb.chans.length ∧ ((∀ x ∈ e.hub.damaged, x.ok = false) ∨ d.rd off ≤ e.rd off)

namespace Dev.NotLowered

variable {off : Nat} {d e : Dev}

theorem wr (h : NotLowered off d e) {a : Nat} (ha : off ≠ a) (v : Word) : NotLowered off d (e.wr a v) :=
  ⟨h.1, h.2.imp_right fun hle => BitVec.le_trans hle (cellGet_le_cellSet ha v e.regs)⟩

theorem restoreShadows (h : NotLowered off d e) : NotLowered off d e.restoreShadows := by
  have hgzb := Dev.foldl_wr_keeps Dev.gzb (fun _ _ _ => rfl) (e.hub.damaged.filter (·.ok)) e
  refine ⟨(congrArg (fun g : Gzb => g.chans.length) hgzb).trans h.1, .inl fun x hx => ?_⟩
  simpa using (List.mem_filter.mp hx).2

end Dev.NotLowered

theorem settle_chans_length (o d : Dev) : (settle o d).gzb.chans.length = d.gzb.chans.length := by
  have hP : SettleClosed fun e => e.gzb.chans.length = d.gzb.chans.length := {
    wr := fun _ _ _ _ h => h, wrMap := fun _ _ _ _ h => h, wrGzb := fun _ _ _ _ h => ⟨h, h⟩
    shadow := fun e h => (congrArg (fun g : Gzb => g.chans.length)
      (Dev.foldl_wr_keeps Dev.gzb (fun _ _ _ => rfl) (e.hub.damaged.filter (·.ok)) e)).trans h
    emit := fun _ _ h => h, fab := fun _ _ _ _ _ _ _ _ h => h, twin := fun _ _ h => h, dep := fun _ _ _ _ _ _ _ _ h => h
    chan := fun e c f h => by simpa [Dev.onChan] using h
    msgs := fun _ _ _ h => h, hp := fun _ _ h => h, intb := fun _ _ h => h, bus := fun _ _ _ _ _ _ h => h, can := fun _ _ _ _ _ h => h
    lin := fun _ _ _ h => h, mac := fun _ _ h => h, restarts := fun _ _ h => h }
  exact hP.settle o d rfl

theorem settle_notLowered (o : Dev) {d : Dev} (hlen : d.gzb.chans.length = 16) {off : Nat} (h : settleWrites off = false) :
    d.NotLowered off (settle o d) := by
  have hne : ∀ a, settleWrites a = true → off ≠ a := fun a ha e => by rw [e, ha] at h; exact absurd h (by decide)
  have hP : SettleClosed (d.NotLowered off) := {
    wr := fun e a v ha he => he.wr (hne a (by
      simp only [settleWrites, Bool.or_eq_true, List.contains_eq_mem, decide_eq_true_eq]
      exact .inl (.inl ha))) v
    wrMap := fun e k v hk he => he.wr (hne _ (by
      simp only [settleWrites, Bool.or_eq_true, Bool.and_eq_true, decide_eq_true_eq]
      exact .inl (.inr ⟨by omega, by omega⟩))) v
    wrGzb := fun e c v hc he => by
      have hc16 : c ∈ List.range 16 := by rwa [he.1, hlen, ← List.mem_range] at hc
      have hany : ∀ a, (a = gzbReg Reg.gzbChEvt c ∨ a = gzbReg Reg.gzbChWrFail c) → off ≠ a := fun a ha => hne a (by
        simp only [settleWrites, Bool.or_eq_true, List.any_eq_true, beq_iff_eq]
        exact .inr ⟨c, hc16, ha⟩)
      exact ⟨he.wr (hany _ (.inl rfl)) v, he.wr (hany _ (.inr rfl)) v⟩
    shadow := fun _ he => he.restoreShadows
    emit := fun _ _ h => h
    fab := fun _ _ _ _ _ _ _ _ h => h
    twin := fun _ _ h => h
    dep := fun _ _ _ _ _ _ _ _ h => h
    chan := fun e c f h => ⟨by simpa [Dev.onChan] using h.1, h.2⟩
    msgs := fun _ _ _ h => h
    hp := fun _ _ h => h
    intb := fun _ _ h => h
    bus := fun _ _ _ _ _ _ h => h
    can := fun _ _ _ _ _ h => h
    lin := fun _ _ _ h => h
    mac := fun _ _ h => h
    restarts := fun _ _ h => h }
  exact hP.settle o d ⟨rfl, .inr (BitVec.le_refl _)⟩

/-- While a damaged register can still be restored, what has followed the command has lowered no register that it does not name. -/
theorem rd_le_settle_rd {o d : Dev} (hlen : (settle o d).gzb.chans.length = 16) (hok : ((settle o d).hub.damaged.any (·.ok)) = true) {off : Nat}
    (h : settleWrites off = false) : d.rd off ≤ (settle o d).rd off := by
  rw [settle_chans_length] at hlen
  refine (settle_notLowered o hlen h).2.resolve_left fun hnone => ?_
  obtain ⟨x, hx, hxok⟩ := List.any_eq_true.mp hok
  rw [hnone x hx] at hxok
  exact absurd hxok (by decide)

/-! ### A frame that is counted in LAST_FV -/

/-- A frame of two bytes for CAN channel 0, to be signed under profile 2. The address of PGL_IN_CELLS of its input port is that of LAST_FV of the
profile. -/
def countedFrame : InFrame :=
  { id := 4, chan := 63, port := 0x97C1, frame := { kind := 1, src := 63, data := [1, 2], dmask := 1 }, stage := .verify, action := 2 * 2 ^ 38 }

/-- Profile 2 generates with the key of slot 5, and two freshness values are left in the low word of LAST_FV. A damaged register waits to be
restored. -/
def nearlyWrapped : State :=
  { pending := []
    dev := {
      regs := [(Reg.gthCtl, 1), (profReg 2 0, BitVec.ofNat 32 (4 + 5 * 2 ^ 16)), (profReg 2 2, 0x18), (profReg 2 4, 0xFFFFFFFE)]
      frm := { nextId := 20, ins := [countedFrame] }
      gth := { slots := [{ slot := 5, use := 1, key := List.replicate 16 3, version := 1 }] }
      hub := { damaged := [{ off := Reg.gthGuardAck, shadow := 0, ok := true }] } } }

theorem nearlyWrapped_inv : Inv nearlyWrapped :=
  ⟨by decide, rfl, rfl, Nat.zero_le _, Nat.zero_le _, rfl, Nat.zero_le _⟩

theorem pglInCells_eq_lastFv : pglReg Reg.pglInCells countedFrame.port = profReg 2 4 := by decide

/-- The command has left no freshness value behind in profile 2, and the damaged register still damaged. -/
def wrappedAfter : Host.Outcome State Fault Refusal → Bool
  | .next t => t.dev.gzb.chans.length == 16 && t.dev.hub.damaged.any (·.ok) && t.dev.lastFv 2 == 0
  | _ => false

theorem wrappedAfter_authGenerate_nearlyWrapped : wrappedAfter (exec (.authGenerate 4) nearlyWrapped) = true := by decide +kernel

/-- Where what a command leaves holds no freshness value, its own effect left none. -/
theorem Does.lastFv_of_wrappedAfter {c : Instr} {s : State} {P : Dev → Prop} (h : Does c s P) (hw : wrappedAfter (exec c s) = true) :
    ∃ d, P d ∧ d.lastFv 2 = 0 := by
  obtain ⟨d, hexec, hP⟩ := h
  rw [hexec] at hw
  simp only [wrappedAfter, Bool.and_eq_true, beq_iff_eq] at hw
  obtain ⟨⟨hlen, hok⟩, hfv⟩ := hw
  refine ⟨d, hP, ?_⟩
  have hlo : d.rd (profReg 2 4) ≤ (settle s.dev d).rd (profReg 2 4) := rd_le_settle_rd hlen hok (by decide)
  have hhi : d.rd (profReg 2 4 + 4) ≤ (settle s.dev d).rd (profReg 2 4 + 4) := rd_le_settle_rd hlen hok (by decide)
  rw [BitVec.le_def] at hlo hhi
  simp only [Dev.lastFv, Dev.rd64] at hfv ⊢
  omega

theorem exists_ok_of_isSome {ε α : Type} {e : Except ε α} (h : e.toOption.isSome = true) : ∃ b, e = .ok b := by
  cases e with
  | ok b => exact ⟨b, rfl⟩
  | error c => exact absurd h (by simp [Except.toOption])

/-- Refutes O47: in `nearlyWrapped`, which meets `Inv`, generation advances LAST_FV of profile 2 to the end of its low word, and the cell of
`countedFrame` is counted there: LAST_FV is 0 after the command. -/
theorem not_gatehouse : ¬ Obligations.Gatehouse := by
  unfold Obligations.Gatehouse Claims.FrameSecurity
  rintro ⟨h, -⟩
  have hstate : nearlyWrapped.dev.inFrame? 4 = some countedFrame ∧ nearlyWrapped.dev.firstOfChan countedFrame = true ∧
      nearlyWrapped.dev.authProf countedFrame = some 2 ∧ nearlyWrapped.dev.profMode 2 = 4 ∧ nearlyWrapped.dev.lastFv 2 + 1 < 2 ^ 64 := by
    decide +kernel
  obtain ⟨hfound, hfirst, hprof, hmode, hroom⟩ := hstate
  have htag : (nearlyWrapped.dev.genTag 2 countedFrame.frame.data).toOption.isSome = true := by decide +kernel
  obtain ⟨b, hb⟩ := exists_ok_of_isSome htag
  obtain ⟨-, hauth, -⟩ := h nearlyWrapped 4 0 nearlyWrapped_inv
  have hgen := (hauth countedFrame 2 hfound rfl hfirst rfl hprof).2 b hmode hb hroom
  obtain ⟨d, ⟨-, hadvanced, -⟩, hzero⟩ := hgen.lastFv_of_wrappedAfter wrappedAfter_authGenerate_nearlyWrapped
  omega

end Sys2Proof.Machine
end

section
/-!
O58: the clause on `tab` fails. The Kiosk writes the key into TRL_CMD_ENTRY before it starts the FIND (R503), and `Inv` does not bound the number of
the active area: the registers of an area beyond the two can be the words of TRL_CMD_ENTRY, and the FIND then searches the area that the key itself
describes.
-/
namespace Sys2Proof.Machine

/-- A CAN key with no other byte set. -/
def bareKey : List Byte := 1 :: List.replicate 15 0

/-- The active area's registers are at the address of TRL_CMD_ENTRY. Those hold 0; with `bareKey` in them the area begins one byte later, and its
first bucket of the key holds a valid entry of that key. TRL_CMD_STATUS is at the end of its SEQ, and a damaged register waits to be restored. -/
def keyNamesArea : State :=
  { pending := []
    dev := {
      regs := [(Reg.trlCmdStatus, 0xFF00), (Reg.ldgStatus, 5)]
      mem := [(0x10_0000_0001 + 128 * (trlHash bareKey 0 % 1024), 1), (0x10_0000_0001 + 128 * (trlHash bareKey 0 % 1024) + 30, 3)]
      trl := { active := 0x1FFE }
      hub := { damaged := [{ off := Reg.gthGuardAck, shadow := 0, ok := true }] } } }

theorem keyNamesArea_inv : Inv keyNamesArea :=
  ⟨by decide, by decide +kernel, rfl, Nat.zero_le _, Nat.zero_le _, rfl, Nat.zero_le _⟩

theorem areaRegs_eq_cmdEntry : Reg.trlTabBase + 0x20 * keyNamesArea.dev.trl.active = 0x64_0000 := by decide

/-- TRL_CMD_STATUS shows DONE, RESULT 0 and slot 0, with SEQ at 0 again. -/
def foundAfter : Host.Outcome State Fault Refusal → Bool
  | .next t => t.dev.gzb.chans.length == 16 && t.dev.hub.damaged.any (·.ok) && t.dev.rd Reg.trlCmdStatus == 1
  | _ => false

theorem foundAfter_kioskTab_keyNamesArea : foundAfter (exec (.kioskTab bareKey) keyNamesArea) = true := by decide +kernel

/-- Where TRL_CMD_STATUS is 1 after a command, its own effect has not ended a command as NOT_FOUND. -/
theorem Does.found_of_foundAfter {c : Instr} {s : State} {P : Dev → Prop} (h : Does c s P) (hf : foundAfter (exec c s) = true) :
    ∃ d, P d ∧ d.fld Reg.trlCmdStatus 2 3 = 0 := by
  obtain ⟨d, hexec, hP⟩ := h
  rw [hexec] at hf
  simp only [foundAfter, Bool.and_eq_true, beq_iff_eq] at hf
  obtain ⟨⟨hlen, hok⟩, hst⟩ := hf
  refine ⟨d, hP, ?_⟩
  have hle : d.rd Reg.trlCmdStatus ≤ (settle s.dev d).rd Reg.trlCmdStatus := rd_le_settle_rd hlen hok (by decide)
  rw [hst, BitVec.le_def] at hle
  have hlt : (d.rd Reg.trlCmdStatus).toNat ≤ 1 := hle
  simp only [Dev.fld, fieldOf, bitsOf]
  omega

/-- Refutes O58: in `keyNamesArea`, which meets `Inv`, no entry of the active area has `bareKey`, and `tab` with that key finds one. -/
theorem not_kiosk : ¬ Obligations.Kiosk := by
  unfold Obligations.Kiosk Claims.KioskCommands
  rintro ⟨h, -⟩
  have hnone : keyNamesArea.dev.findIn keyNamesArea.dev.trl.active bareKey = none := by decide +kernel
  obtain ⟨-, -, -, -, -, -, htab, -⟩ := h keyNamesArea none 0 0 .lz 0 bareKey 0 0 false keyNamesArea_inv (by decide)
  obtain ⟨d, ⟨⟨-, -, hresult⟩, -⟩, hzero⟩ := (htab rfl rfl hnone).found_of_foundAfter foundAfter_kioskTab_keyNamesArea
  omega

end Sys2Proof.Machine
end

section
/-!
O51: the clause on the sweeper fails. A visit goes through the four slots of a bucket one after the other (R382) and counts an entry it removes, and
`Inv` does not bound the number of the active area: TRL_AGE_REMOVE can be the upper word of that area's base, and the visit then goes on with the
slots of another bucket.
-/
namespace Sys2Proof.Machine

theorem settle_entAt (o d : Dev) (a : Nat) : (settle o d).entAt a = d.entAt a := by
  simp [Dev.entAt, Dev.numAt, Dev.bytesAt]

/-- The base of area 7 has TRL_AGE_REMOVE as its upper word. The first slot of its first bucket holds an entry that the next visit removes, the
second one an entry with its hit mark set. -/
def movingArea : State :=
  { pending := []
    dev := {
      regs := [(Reg.trlAgePeriod, 0x1000)]
      mem := [(0x10_0000_001E, 0x23), (0x10_0000_003E, 0x13)]
      trl := { active := 7 } } }

theorem movingArea_inv : Inv movingArea := ⟨by decide, by decide +kernel, rfl, Nat.zero_le _, Nat.zero_le _, rfl, Nat.zero_le _⟩

theorem areaBaseHi_eq_ageRemove : Reg.trlTabBase + 0x20 * movingArea.dev.trl.active + 4 = Reg.trlAgeRemove := by decide

/-- The hit mark of the second slot after a command. -/
def hitAfter : Host.Outcome State Fault Refusal → Bool
  | .next t => entHit (t.dev.entAt 0x10_0000_0020)
  | _ => false

theorem hitAfter_sweeperVisit_movingArea : hitAfter (exec .sweeperVisit movingArea) = true := by decide +kernel

/-- A hit mark that stands after a command stands after its own effect. -/
theorem Does.hit_of_hitAfter {c : Instr} {s : State} {P : Dev → Prop} (h : Does c s P) (hh : hitAfter (exec c s) = true) :
    ∃ d, P d ∧ entHit (d.entAt 0x10_0000_0020) = true := by
  obtain ⟨d, hexec, hP⟩ := h
  rw [hexec] at hh
  exact ⟨d, hP, by simpa only [hitAfter, settle_entAt] using hh⟩

/-- Refutes O51: in `movingArea`, which meets `Inv`, the visit leaves the hit mark of the second slot. -/
theorem not_tableCommands : ¬ Obligations.TableCommands := by
  unfold Obligations.TableCommands Claims.TableUpkeep
  rintro ⟨-, h⟩
  have hstate : movingArea.dev.flag Reg.trlAgePeriod 12 = true ∧ movingArea.dev.standby = false ∧ movingArea.dev.shadowOn = false ∧
      movingArea.dev.slotAddr 7 (movingArea.dev.trl.sweep % movingArea.dev.areaNb 7) 1 = 0x10_0000_0020 ∧
      entValid (movingArea.dev.entAt 0x10_0000_0020) = true ∧ entLock (movingArea.dev.entAt 0x10_0000_0020) = false ∧
      typeOk (entType (movingArea.dev.entAt 0x10_0000_0020)) = true ∧ entHit (movingArea.dev.entAt 0x10_0000_0020) = true := by decide +kernel
  obtain ⟨hon, hrole, hshadow, haddr, hvalid, hlock, htype, hhit⟩ := hstate
  obtain ⟨-, hvisit, -⟩ := h movingArea 1 0 0 movingArea_inv
  obtain ⟨d, ⟨-, -, hswept⟩, hleft⟩ := (hvisit hon hrole hshadow).hit_of_hitAfter hitAfter_sweeperVisit_movingArea
  have haddr' : movingArea.dev.slotAddr movingArea.dev.trl.active (movingArea.dev.trl.sweep % movingArea.dev.areaNb movingArea.dev.trl.active)
      (1 : Fin 4) = 0x10_0000_0020 := haddr
  rw [haddr'] at hswept
  obtain ⟨hcleared, -⟩ := (hswept hvalid hlock htype).1 hhit
  rw [hleft] at hcleared
  exact absurd hcleared (by decide)

end Sys2Proof.Machine
end

section
/-! What the stores of the frame path and the Trellis leave of the device: each changes the memory, its codes and the reservations, and a record to
the twin beside them. -/
namespace Sys2Proof.Machine

/-- A part of the device that neither the memory, nor its codes, nor the bridge's fabric is in. -/
structure StoreApart {α : Type} (g : Dev → α) : Prop where
  mem : ∀ d x, g { d with mem := x } = g d
  bad : ∀ d x, g { d with bad := x } = g d
  fab : ∀ d x, g { d with fab := x } = g d

namespace StoreApart

variable {α : Type} {g : Dev → α} (hg : StoreApart g)
include hg

theorem setBytes (d : Dev) (a : Nat) (l : WData) : g (d.setBytes a l) = g d := by
  induction l generalizing d a with
  | nil => rfl
  | cons b l ih =>
    cases b with
    | none => exact ih d (a + 1)
    | some b => exact (ih (d.setByte a b) (a + 1)).trans (hg.mem d _)

theorem setNum (d : Dev) (a n x : Nat) : g (d.setNum a n x) = g d := hg.setBytes d a _

theorem freshWords (d : Dev) (a len : Nat) : g (d.freshWords a len) = g d := hg.bad d _

theorem loseRsv (d : Dev) (p : Rsv → Bool) : g (d.loseRsv p) = g d :=
  List.foldlRecOn (motive := fun e => g e = g d) _ _ (hg.fab d _) fun e he _ _ => (hg.fab e _).trans he

theorem rsvStore (d : Dev) (agent ident : Nat) (internal : Bool) (ga len : Nat) : g (d.rsvStore agent ident internal ga len) = g d :=
  hg.loseRsv d _

theorem setImage (d : Dev) (n x : Nat) : g (d.setImage n x) = g d := by
  unfold Dev.setImage
  split
  · rfl
  · rw [hg.rsvStore, hg.freshWords, hg.setNum]

end StoreApart

/-- A part of the device that a record to the twin leaves as well: neither the links, nor the twin's state, nor the outputs. -/
structure RecordApart {α : Type} (g : Dev → α) : Prop extends StoreApart g where
  itm : ∀ d x, g { d with itm := x } = g d
  twin : ∀ d x, g { d with twin := x } = g d
  out : ∀ d x, g { d with out := x } = g d

namespace RecordApart

variable {α : Type} {g : Dev → α} (hg : RecordApart g)
include hg

theorem emit (d : Dev) (e : Emit) : g (d.emit e) = g d := hg.out d _

theorem sendGen (d : Dev) (n : Nat) (t : Transfer) (gen : Nat) : g (d.sendGen n t gen) = g d := (hg.out _ _).trans (hg.itm d _)

theorem sendRec (d : Dev) (rtype : Nat) (body : List Byte) : g (d.sendRec rtype body) = g d := by
  unfold Dev.sendRec
  split
  · split
    · exact (hg.twin _ _).trans (hg.sendGen d _ _ _)
    · rfl
  · rfl

theorem putEnt (d : Dev) (a e : Nat) : g (d.putEnt a e) = g d := by
  unfold Dev.putEnt
  rw [hg.sendRec, hg.rsvStore, hg.freshWords, hg.setNum]

theorem pipeWrite (d : Dev) (a e : Nat) : g (d.pipeWrite a e) = g d := hg.putEnt d a _

end RecordApart

end Sys2Proof.Machine
end

section
/-! O46: the action of a frame that is only forwarded (R346, R347), capture records (R348) and the sends of a PDU (R353). -/
namespace Sys2Proof.Machine

/-! ### Forwarding -/

@[simp] theorem rewrite_dmask (action : Nat) (f : Frame) : (rewrite action f).dmask = f.dmask := by
  unfold rewrite
  dsimp only
  split
  · split <;> rfl
  · split <;> rfl
  · split <;> rfl
  · rfl

/-- The egresses of a mask of one bit, the frame's own channel aside. -/
theorem filter_range_dmask {e own : Nat} (he : e < 124) (hown : e ≠ own) :
    ((List.range 124).filter fun k => (2 ^ e).testBit k && k != own) = [e] := by
  have hp : ∀ k ∈ List.range 124, ((2 ^ e).testBit k && k != own) = (k == e) := fun k _ => by
    rw [Nat.testBit_two_pow, Bool.eq_iff_iff]
    simp only [Bool.and_eq_true, decide_eq_true_eq, bne_iff_ne, ne_eq, beq_iff_eq]
    constructor
    · exact fun h => h.1.symm
    · rintro rfl
      exact ⟨rfl, hown⟩
  rw [List.filter_congr hp, List.filter_beq, List.count_eq_one_of_mem List.nodup_range (List.mem_range.mpr he), List.replicate_one]

/-- A frame for one CAN channel crosses to the Pavilions (R347). -/
theorem Dev.forward_can {d : Dev} {chan e : Nat} {f : Frame} (hlive : d.live = true) (hmask : f.dmask = 2 ^ e) (he : e < 64) (hchan : e ≠ chan)
    (port : Nat) : d.forward port chan f = d.sendXfer f port 8 [e] none := by
  have hown : e ≠ if chan < 128 then chan else 128 := by split <;> omega
  have h96 : e < 96 := by omega
  have h1 : ¬96 ≤ e := by omega
  have h2 : ¬120 ≤ e := by omega
  have hitm : ∀ n ∈ List.range 5, (112 + n == e) = false := fun n _ => by simp; omega
  have hfold : ∀ x : Dev, (List.range 5).foldl (fun d n => if [e].contains (112 + n) then d.sendItm f port n else d) x = x := fun x =>
    List.foldlRecOn (motive := fun y => y = x) _ _ rfl fun y hy n hn => by
      rw [if_neg, hy]
      simpa using hitm n hn
  unfold Dev.forward
  rw [hmask]
  dsimp only
  rw [filter_range_dmask (by omega) hown, hfold]
  simp [hlive, h96, h1, h2]

theorem Dev.sendXfer_of_admits {d : Dev} {f : Frame} {port out : Nat} {egr : List Nat} (h : d.admits port out f.cls (frameCells f.data.length) = true)
    (secured : Option Nat) : d.sendXfer f port out egr secured =
      (d.onFrm fun p => { p with
        nextId := p.nextId + 1
        xfers := p.xfers ++ [{ id := p.nextId, frame := f, inPort := port, outPort := out, cls := f.cls, left := egr,
                               cells := frameCells f.data.length, secured := secured }] }).crossCells port out (frameCells f.data.length) := by
  simp [Dev.sendXfer, h, Dev.onFrm]

/-- The stages of a frame whose action only forwards it (R346): it is rewritten, forwarded and gone. -/
theorem Dev.finishStages_of_forward {d : Dev} {x : InFrame} (f : Frame) (hlog : x.action.testBit 20 = false) (hcap : x.action.testBit 24 = false)
    (hmeter : x.action.testBit 37 = false) (hsigs : x.sigs = []) : d.finishStages x f =
      (d.forward x.port x.chan (rewrite x.action { f with yellow := false })).dropIn x.id := by
  have hsig : ∀ y : InFrame, y.sigs = [] → d.applySignals y = d := fun y hy =>
    List.foldlRecOn (motive := fun e => e = d) _ _ rfl fun e he o _ => by simp [hy, he]
  simp [Dev.finishStages, Dev.logCopy, hlog, hcap, hmeter, hsig { x with frame := { f with yellow := false } } hsigs]

/-- A whole frame that stage 4 does not concern goes through its stages at once (R346). -/
theorem Dev.applyAction_of_unprofiled {d : Dev} {x : InFrame} (hlive : d.live = true) (hstatus : x.frame.status = 0) (hhit : x.hit ≠ 2)
    (hprof : d.authProf x = none) : d.applyAction x = d.finishStages x x.frame := by
  have hsilent : d.silent = false := by
    simp only [Dev.live, Bool.and_eq_true, Bool.not_eq_true'] at hlive
    exact hlive.1
  simp [Dev.applyAction, hsilent, hstatus, hhit, hprof]

theorem Dev.authProf_of_off {d : Dev} (h : d.flag Reg.gthCtl 0 = false) (x : InFrame) : d.authProf x = none := by
  simp [Dev.authProf, h]

section
variable {s : State} {id e : Nat} {x : InFrame}

theorem lookupResult_forwards (hfound : s.dev.inFrame? id = some x) (hready : x.stage = .ready) (hfirst : s.dev.firstOfChan x = true)
    (hlive : s.dev.live = true) (hstatus : x.frame.status = 0) (hhit : x.hit ≠ 2) (hlog : x.action.testBit 20 = false)
    (hcap : x.action.testBit 24 = false) (hmeter : x.action.testBit 37 = false) (hsigs : x.sigs = []) (hauth : s.dev.flag Reg.gthCtl 0 = false)
    (hmask : x.frame.dmask = 2 ^ e) (he : e < 64) (hchan : e ≠ x.chan) :
    let f := rewrite x.action { x.frame with yellow := false }
    s.dev.admits x.port 8 f.cls (frameCells f.data.length) = true → Does (.lookupResult id) s (fun d =>
      d.frm.xfers = s.dev.frm.xfers ++ [{ id := s.dev.frm.nextId, frame := f, inPort := x.port, outPort := 8, cls := f.cls, left := [e],
                                          cells := frameCells f.data.length }] ∧
      d.frm.ins = s.dev.frm.ins.filter (fun y => y.id != x.id) ∧ d.mem = s.dev.mem) := by
  intro f hadmits
  have hfound' : s.clear.inFrame? id = some x := hfound
  have hfirst' : s.clear.firstOfChan x = true := hfirst
  have hlive' : s.clear.live = true := hlive
  have hadmits' : s.clear.admits x.port 8 f.cls (frameCells f.data.length) = true := hadmits
  have hprof : s.clear.authProf x = none := Dev.authProf_of_off hauth x
  refine does_act _ (by unfold exec; rfl) ?_
  simp only [hfound', hready, hfirst', and_self, if_true]
  rw [Dev.applyAction_of_unprofiled hlive' hstatus hhit hprof, Dev.finishStages_of_forward x.frame hlog hcap hmeter hsigs,
    Dev.forward_can hlive' (by rw [rewrite_dmask]; exact hmask) he hchan, Dev.sendXfer_of_admits hadmits']
  exact ⟨rfl, rfl, rfl⟩

end

/-! ### What forwarding leaves of the PDU engine -/

@[simp] theorem Dev.sendXfer_pdus (d : Dev) (f : Frame) (port out : Nat) (egr : List Nat) (secured : Option Nat) :
    (d.sendXfer f port out egr secured).frm.pdus = d.frm.pdus := by
  unfold Dev.sendXfer
  dsimp only
  split
  · split <;> rfl
  · rfl

@[simp] theorem Dev.sendItm_pdus (d : Dev) (f : Frame) (port n : Nat) : (d.sendItm f port n).frm.pdus = d.frm.pdus := by
  unfold Dev.sendItm
  dsimp only
  split
  · split <;> rfl
  · split <;> rfl

@[simp] theorem Dev.forward_pdus (d : Dev) (port chan : Nat) (f : Frame) : (d.forward port chan f).frm.pdus = d.frm.pdus := by
  unfold Dev.forward
  extract_lets own bits sec pav eth d1 d2 d3
  have h1 : d1.frm.pdus = d.frm.pdus := by
    unfold d1
    split
    · rfl
    · exact Dev.sendXfer_pdus ..
  have h2 : d2.frm.pdus = d.frm.pdus := by
    unfold d2
    split
    · exact h1
    · exact (Dev.sendXfer_pdus ..).trans h1
  have h3 : d3.frm.pdus = d.frm.pdus :=
    List.foldlRecOn (motive := fun e : Dev => e.frm.pdus = d.frm.pdus) _ _ h2 fun e he _ _ => (Dev.sendXfer_pdus ..).trans he
  split
  · rfl
  · exact List.foldlRecOn (motive := fun e : Dev => e.frm.pdus = d.frm.pdus) _ _ h3 fun e he n _ => by
      split
      · exact (Dev.sendItm_pdus ..).trans he
      · exact he

@[simp] theorem Dev.pduOut_pdus (d : Dev) (n : Nat) (f : Frame) : (d.pduOut n f).frm.pdus = d.frm.pdus := by
  unfold Dev.pduOut
  split
  · rfl
  · dsimp only
    split
    · split <;> rfl
    · exact Dev.forward_pdus ..

/-! ### Sends -/

theorem Dev.pduSt_of_pdus {d e : Dev} (h : e.frm.pdus = d.frm.pdus) (n : Nat) : e.pduSt n = d.pduSt n := by
  rw [Dev.pduSt, Dev.pduSt, h]

@[simp] theorem Dev.pduSt_setPdu (d : Dev) (x : PduSt) : (d.setPdu x).pduSt x.n = x := by
  simp [Dev.setPdu, Dev.pduSt, Dev.onFrm]

@[simp] theorem Dev.setImage_blv (d : Dev) (n x : Nat) : (d.setImage n x).blv = d.blv :=
  StoreApart.setImage (g := Dev.blv) ⟨fun _ _ => rfl, fun _ _ => rfl, fun _ _ => rfl⟩ d n x

/-- A send leaves its time with the PDU, and nothing of what asked for it (R353). -/
theorem Dev.pduSt_pduSend (d : Dev) (n : Nat) : (d.pduSend n).pduSt n = { n := n, last := some d.blv.vt } := by
  unfold Dev.pduSend
  extract_lets img e f d1 d2
  have hvt : d1.blv = d.blv := d.setImage_blv ..
  have h2 : d2.pduSt n = { n := n, last := some d.blv.vt } :=
    (d1.pduSt_setPdu { n := n, last := some d1.blv.vt }).trans (by rw [hvt])
  clear_value d2 f
  split
  · exact (Dev.pduSt_of_pdus (d := d2) rfl n).trans h2
  · exact (Dev.pduSt_of_pdus (d2.pduOut_pdus n f) n).trans h2

theorem Dev.pduSt_n (d : Dev) (n : Nat) : (d.pduSt n).n = n := by
  unfold Dev.pduSt
  cases h : d.frm.pdus.find? fun p => p.n == n with
  | none => rfl
  | some p => simpa using List.find?_some h

/-- A send that waits for MIN_GAP (R353). -/
theorem Dev.pduSt_wait (d : Dev) (n : Nat) :
    (d.setPdu { d.pduSt n with trig := false, wait := true }).pduSt n = { d.pduSt n with trig := false, wait := true } := by
  have h := d.pduSt_setPdu { d.pduSt n with trig := false, wait := true }
  rwa [show ({ d.pduSt n with trig := false, wait := true } : PduSt).n = n from d.pduSt_n n] at h

section
variable {s : State} {n : Fin 2048}

/-- The command has the PDU sent, where MIN_GAP lets it (R353). -/
def PduDue (n : Fin 2048) (s : State) (c : Instr) : Prop :=
  (c = .pduTriggeredSend n ∧ s.dev.pduMode n % 2 = 1 ∧ (s.dev.pduSt n).trig = true) ∨ (c = .pduCyclicSend n ∧ s.dev.cyclicDue n = true)

theorem PduDue.exec {c : Instr} (h : PduDue n s c) : ∃ f, exec c s = s.act f ∧ f s.clear = s.clear.pduDue n := by
  rcases h with ⟨rfl, hmode, htrig⟩ | ⟨rfl, hcyclic⟩
  · have hdue : s.clear.pduMode n % 2 = 1 ∧ (s.clear.pduSt n).trig = true := ⟨hmode, htrig⟩
    exact ⟨_, by unfold Machine.exec; rfl, if_pos hdue⟩
  · have hdue : s.clear.cyclicDue n = true := hcyclic
    exact ⟨_, by unfold Machine.exec; rfl, if_pos hdue⟩

theorem gapEnd_exec (hwait : (s.dev.pduSt n).wait = true) (hmode : s.dev.pduMode n ≠ 0) (hgap : s.dev.gapOver n = true) :
    ∃ f, exec (.pduGapEnd n) s = s.act f ∧ f s.clear = s.clear.pduSend n := by
  have hdue : (s.clear.pduSt n).wait = true ∧ s.clear.pduMode n ≠ 0 ∧ s.clear.gapOver n = true := ⟨hwait, hmode, hgap⟩
  exact ⟨_, by unfold Machine.exec; rfl, if_pos hdue⟩

theorem after_pduSend {c : Instr} {f : Dev → Dev} (hexec : exec c s = s.act f) (hf : f s.clear = s.clear.pduSend n) :
    After c s fun d => (d.pduSt n).last = some s.dev.blv.vt ∧ (d.pduSt n).trig = false ∧ (d.pduSt n).wait = false := by
  refine after_of_eq hexec hf ?_
  rw [Dev.pduSt_of_pdus (settle_frm_pdus s.dev _), Dev.pduSt_pduSend]
  exact ⟨rfl, rfl, rfl⟩

theorem after_pduDue (hgap : s.dev.gapOver n = true) {c : Instr} (h : PduDue n s c) :
    After c s fun d => (d.pduSt n).last = some s.dev.blv.vt ∧ (d.pduSt n).trig = false ∧ (d.pduSt n).wait = false := by
  obtain ⟨f, hexec, hf⟩ := h.exec
  have hgap' : s.clear.gapOver n = true := hgap
  exact after_pduSend hexec (hf.trans (if_pos hgap'))

theorem does_pduWait (hgap : s.dev.gapOver n = false) {c : Instr} (h : PduDue n s c) :
    Does c s fun d => (d.pduSt n).wait = true ∧ (d.pduSt n).trig = false ∧ (d.pduSt n).last = (s.dev.pduSt n).last ∧ d.sameStores s.dev := by
  obtain ⟨f, hexec, hf⟩ := h.exec
  have hgap' : ¬s.clear.gapOver n = true := by rw [show s.clear.gapOver n = false from hgap]; decide
  refine does_of_eq hexec (hf.trans (if_neg hgap')) ?_
  rw [Dev.pduSt_wait]
  exact ⟨rfl, rfl, rfl, rfl, rfl⟩

theorem quiet_pduGapEnd (hgap : s.dev.gapOver n = false) : Quiet (.pduGapEnd n) s := by
  have hgap' : s.clear.gapOver n = false := hgap
  refine does_act _ (by unfold exec; rfl) ?_
  simp [hgap']

end

/-! ### Capture records and the statement -/

section
variable {s : State} {r : Fin 8}

theorem quiet_captureRecordCommit (h : (s.dev.frm.caps.find? fun c => c.ring == r.val) = none) : Quiet (.captureRecordCommit r) s := by
  have h' : (s.clear.frm.caps.find? fun c => c.ring == r.val) = none := h
  refine does_act _ (by unfold exec; rfl) ?_
  simp only [Dev.capCommit, h']

theorem does_captureRecordCommit (hInv : Inv s) {c : CapRec} (h : (s.dev.frm.caps.find? fun c => c.ring == r.val) = some c)
    (hdone : s.dev.capDone c = true) : Does (.captureRecordCommit r) s (fun d =>
      d.fld (capReg Reg.pglCrWi r) 0 16 = (s.dev.fld (capReg Reg.pglCrWi r) 0 16 + c.slots) % 65536 ∧ d.frm.caps = s.dev.frm.caps.erase c ∧
      d.mem = s.dev.mem) := by
  have h' : (s.clear.frm.caps.find? fun c => c.ring == r.val) = some c := h
  have hdone' : s.clear.capDone c = true := hdone
  refine does_act _ (by unfold exec; rfl) ?_
  simp only [Dev.capCommit, h', hdone', if_true]
  exact ⟨Dev.fld_setFld_same (d := s.clear) hInv.regs (show 0 + 16 ≤ 32 by decide) _ _, rfl, rfl⟩

end

/-- Settles O46: the frame goes through its stages with nothing but the forwarding left of them, and a PDU's send is read off its engine state. -/
theorem frameActions : Obligations.FrameActions := by
  intro s id e r n hInv
  refine ⟨fun hfound => ?_, fun x hfound hstage => ?_, fun x hfound hready hfirst hlive hstatus hhit hlog hcap hmeter hsigs hauth hmask he hchan =>
    lookupResult_forwards hfound hready hfirst hlive hstatus hhit hlog hcap hmeter hsigs hauth hmask he hchan, quiet_captureRecordCommit,
    fun c h hdone => does_captureRecordCommit hInv h hdone, fun hgap c hc => ?_, fun hgap => ⟨quiet_pduGapEnd hgap, fun c hc => does_pduWait hgap hc⟩⟩
  · have hfound' : s.clear.inFrame? id = none := hfound
    refine does_act _ (by unfold exec; rfl) ?_
    simp only [hfound']
  · have hfound' : s.clear.inFrame? id = some x := hfound
    refine does_act _ (by unfold exec; rfl) ?_
    simp [hfound', hstage]
  · rcases hc with hc | hc | ⟨rfl, hwait, hmode⟩
    · exact after_pduDue hgap (.inl hc)
    · exact after_pduDue hgap (.inr hc)
    · obtain ⟨f, hexec, hf⟩ := gapEnd_exec hwait hmode hgap
      exact after_pduSend hexec hf

end Sys2Proof.Machine
end

section
/-! Bit fields of numbers: what setting one leaves of the others. -/
namespace Sys2Proof.Machine

theorem putBits_eq (e lo n x : Nat) : putBits e lo n x = e % 2 ^ lo + 2 ^ lo * (x % 2 ^ n + 2 ^ n * (e / 2 ^ (lo + n))) := by
  have hlow : e = e % 2 ^ lo + 2 ^ lo * (e / 2 ^ lo) := (Nat.mod_add_div e (2 ^ lo)).symm
  have hhigh : e / 2 ^ lo = e / 2 ^ lo % 2 ^ n + 2 ^ n * (e / 2 ^ (lo + n)) := by
    rw [Nat.pow_add, ← Nat.div_div_eq_div_mul]
    exact (Nat.mod_add_div _ _).symm
  have hsplit : e = (e % 2 ^ lo + 2 ^ lo * (2 ^ n * (e / 2 ^ (lo + n)))) + bitsOf e lo n * 2 ^ lo := by
    rw [bitsOf]
    calc e = e % 2 ^ lo + 2 ^ lo * (e / 2 ^ lo % 2 ^ n + 2 ^ n * (e / 2 ^ (lo + n))) := by rw [← hhigh]; exact hlow
      _ = _ := by ring
  have hsub : e - bitsOf e lo n * 2 ^ lo = e % 2 ^ lo + 2 ^ lo * (2 ^ n * (e / 2 ^ (lo + n))) := Nat.sub_eq_of_eq_add hsplit
  rw [putBits, hsub]
  ring

theorem putBits_mod {lo k : Nat} (h : k ≤ lo) (e n x : Nat) : putBits e lo n x % 2 ^ k = e % 2 ^ k := by
  have hdvd : 2 ^ k ∣ 2 ^ lo := Nat.pow_dvd_pow 2 h
  rw [putBits_eq, Nat.add_mod, Nat.mod_mod_of_dvd _ hdvd, Nat.mod_eq_zero_of_dvd (hdvd.mul_right _), Nat.add_zero, Nat.mod_mod]

theorem putBits_div {lo n k : Nat} (h : lo + n ≤ k) (e x : Nat) : putBits e lo n x / 2 ^ k = e / 2 ^ k := by
  obtain ⟨j, rfl⟩ := Nat.exists_eq_add_of_le h
  have hfield : e % 2 ^ lo + 2 ^ lo * (x % 2 ^ n) < 2 ^ (lo + n) := by
    have h1 : e % 2 ^ lo < 2 ^ lo := Nat.mod_lt _ (Nat.two_pow_pos lo)
    have h2 : x % 2 ^ n + 1 ≤ 2 ^ n := Nat.mod_lt _ (Nat.two_pow_pos n)
    rw [Nat.pow_add]
    calc e % 2 ^ lo + 2 ^ lo * (x % 2 ^ n) < 2 ^ lo + 2 ^ lo * (x % 2 ^ n) := by omega
      _ = 2 ^ lo * (x % 2 ^ n + 1) := by ring
      _ ≤ 2 ^ lo * 2 ^ n := Nat.mul_le_mul_left _ h2
  have hcut : putBits e lo n x / 2 ^ (lo + n) = e / 2 ^ (lo + n) := by
    rw [putBits_eq, show e % 2 ^ lo + 2 ^ lo * (x % 2 ^ n + 2 ^ n * (e / 2 ^ (lo + n))) =
      (e % 2 ^ lo + 2 ^ lo * (x % 2 ^ n)) + 2 ^ (lo + n) * (e / 2 ^ (lo + n)) by rw [Nat.pow_add]; ring,
      Nat.add_mul_div_left _ _ (Nat.two_pow_pos _), Nat.div_eq_of_lt hfield, Nat.zero_add]
  rw [Nat.pow_add 2 (lo + n) j, ← Nat.div_div_eq_div_mul, ← Nat.div_div_eq_div_mul, hcut]

theorem bitsOf_putBits_below {lo lo' n' : Nat} (h : lo' + n' ≤ lo) (e n x : Nat) : bitsOf (putBits e lo n x) lo' n' = bitsOf e lo' n' := by
  have hmod : ∀ y : Nat, y / 2 ^ lo' % 2 ^ n' = y % 2 ^ (lo' + n') / 2 ^ lo' := fun y => by rw [Nat.pow_add, Nat.mod_mul_right_div_self]
  rw [bitsOf, bitsOf, hmod, hmod, putBits_mod h]

theorem bitsOf_putBits_above {lo n lo' : Nat} (h : lo + n ≤ lo') (e n' x : Nat) : bitsOf (putBits e lo n x) lo' n' = bitsOf e lo' n' := by
  rw [bitsOf, bitsOf, putBits_div h]

theorem putBits_lt {e lo n k : Nat} (he : e < 2 ^ k) (h : lo + n ≤ k) (x : Nat) : putBits e lo n x < 2 ^ k := by
  have hzero : putBits e lo n x / 2 ^ k = 0 := by rw [putBits_div h, Nat.div_eq_of_lt he]
  exact (Nat.div_eq_zero_iff_lt (Nat.two_pow_pos k)).mp hzero

end Sys2Proof.Machine
end

section
/-! What a lookup of the Trellis leaves of the device, and what of the device its answer depends on (R373, R376). -/
namespace Sys2Proof.Machine

/-! ### Lookups and the frame path -/

/-- The device with its frame path and its outputs replaced. -/
def Dev.reframed (d : Dev) (p : FramePath) (o : List Emit) : Dev := { d with frm := p, out := o }

@[simp] theorem Dev.reframed_frm (d : Dev) (p : FramePath) (o : List Emit) : (d.reframed p o).frm = p := rfl
@[simp] theorem Dev.reframed_mem (d : Dev) (p : FramePath) (o : List Emit) : (d.reframed p o).mem = d.mem := rfl
@[simp] theorem Dev.reframed_rd (d : Dev) (p : FramePath) (o : List Emit) (a : Nat) : (d.reframed p o).rd a = d.rd a := rfl
@[simp] theorem Dev.reframed_entAt (d : Dev) (p : FramePath) (o : List Emit) (a : Nat) : (d.reframed p o).entAt a = d.entAt a := rfl

theorem State.clear_onFrm (s : State) (f : FramePath → FramePath) : s.clear.onFrm f = s.dev.reframed (f s.dev.frm) [] := rfl

theorem Dev.reframed_ite {c : Prop} [Decidable c] (d e : Dev) (p : FramePath) (o : List Emit) :
    (if c then d else e).reframed p o = if c then d.reframed p o else e.reframed p o := apply_ite (Dev.reframed · p o) c d e

/-- The answer of a read or a lookup on a device with another frame path. -/
def reframe {α : Type} (p : FramePath) (o : List Emit) (r : Dev × α) : Dev × α := (r.1.reframed p o, r.2)

theorem Dev.log_reframed (d : Dev) (p : FramePath) (o : List Emit) (c : Culprit) (type : ErrType) (ga detail count : Nat) :
    (d.reframed p o).log c type ga detail count = (d.log c type ga detail count).reframed p o := by
  unfold Dev.log
  dsimp only
  rw [Dev.reframed_ite]
  rfl

theorem Dev.readBucket_reframed (d : Dev) (p : FramePath) (o : List Emit) (b : Nat) :
    (d.reframed p o).readBucket b = reframe p o (d.readBucket b) := by
  unfold Dev.readBucket
  extract_lets e a d1 a1
  have he : e = d1.reframed p o := by
    unfold e d1
    rw [Dev.reframed_ite]
    rfl
  clear_value e
  subst he
  have hbad : (d1.reframed p o).badIn a 128 = d1.badIn a1 128 := rfl
  rw [hbad]
  cases d1.badIn a1 128 with
  | none => rfl
  | some w => exact congrArg (·, false) (d1.log_reframed p o ..)

theorem Dev.lookup_reframed (d : Dev) (p : FramePath) (o : List Emit) (key : List Byte) :
    (d.reframed p o).lookup key = reframe p o (d.lookup key) := by
  have hfirst : ∀ b, ((d.bump64 Reg.trlLookups).reframed p o).readBucket b = reframe p o ((d.bump64 Reg.trlLookups).readBucket b) :=
    Dev.readBucket_reframed _ p o
  unfold Dev.lookup
  extract_lets e t h r q e' t' h' r' q'
  have hr : r = reframe p o r' := hfirst h.1
  have hq : q = reframe p o q' := by
    unfold q q'
    rw [hr]
    exact r'.1.readBucket_reframed p o h.2
  clear_value r q r' q'
  subst hr hq
  have hflag : e.flag Reg.trlCtrl 0 = e'.flag Reg.trlCtrl 0 := rfl
  have hslot : ∀ (x : Dev) b f, (x.reframed p o).slotIn t b f = x.slotIn t' b f := fun _ _ _ => rfl
  simp only [reframe, hslot, hflag]
  by_cases hon : !e'.flag Reg.trlCtrl 0
  · rw [if_pos hon, if_pos hon]
    rfl
  by_cases hbad : !r'.2
  · rw [if_neg hon, if_neg hon, if_pos hbad, if_pos hbad]
  rw [if_neg hon, if_neg hon, if_neg hbad, if_neg hbad]
  have hbucket : h = h' := rfl
  rw [hbucket]
  cases r'.1.slotIn t' h'.1 fun e => entMatches e key with
  | some s => rfl
  | none =>
    dsimp only
    by_cases hbad2 : !q'.2
    · rw [if_pos hbad2, if_pos hbad2]
    · rw [if_neg hbad2, if_neg hbad2]
      rfl

theorem Dev.lookup_frm (d : Dev) (key : List Byte) : (d.lookup key).1.frm = d.frm :=
  congrArg (fun r : Dev × Option Nat => r.1.frm) (d.lookup_reframed d.frm d.out key)

/-! ### What a lookup leaves -/

/-- The device with the registers, the error log and the fresh numbers set aside. -/
def Dev.unread (d : Dev) : Dev := { d with regs := [], elog := {}, fresh := 0 }

theorem Dev.readBucket_unread (d : Dev) (b : Nat) : (d.readBucket b).1.unread = d.unread := by
  unfold Dev.readBucket
  extract_lets e a
  have he : e.unread = d.unread := by
    unfold e
    split <;> rfl
  split
  · exact (congrArg Dev.unread (e.log_unlogged ..)).trans he
  · exact he

theorem Dev.lookup_unread (d : Dev) (key : List Byte) : (d.lookup key).1.unread = d.unread := by
  unfold Dev.lookup
  extract_lets e t h r q
  have hr : r.1.unread = d.unread := e.readBucket_unread h.1
  have hq : q.1.unread = d.unread := (r.1.readBucket_unread h.2).trans hr
  split
  · rfl
  · split
    · exact hr
    · split
      · exact hr
      · split
        · exact hq
        · exact hq

/-- A part of the device beside the registers, the error log and the fresh numbers is as it was. -/
theorem Dev.lookup_keeps {α : Type} (g : Dev → α) (hg : ∀ d, g d.unread = g d) (d : Dev) (key : List Byte) : g (d.lookup key).1 = g d := by
  rw [← hg, Dev.lookup_unread, hg]

/-- A register that a lookup does not count in: neither of the Trellis's counters of lookups, nor of the error log. -/
def LookupApart (a : Nat) : Prop :=
  a ∉ [Reg.trlLookups, Reg.trlLookups + 4, Reg.trlCacheMiss, Reg.trlCacheMiss + 4, Reg.intElOvf, Reg.intElWritten,
    Reg.intTypeCount + 4 * errCode .decUncorr]

namespace Dev.RegsKept

variable {d e : Dev}

theorem readBucket (h : RegsKept LookupApart d e) (b : Nat) : RegsKept LookupApart d (e.readBucket b).1 := by
  unfold Dev.readBucket
  extract_lets e1 a
  have h1 : RegsKept LookupApart d e1 := 
    ite (step (h.bump64 (off := Reg.trlCacheMiss) (by simp [LookupApart]) (by simp [LookupApart]))) (step h)
  split
  · exact h1.log (by simp [LookupApart]) (by simp [LookupApart]) (by simp [LookupApart]) _ _ _
  · exact h1

theorem lookup (h : RegsKept LookupApart d e) (key : List Byte) : RegsKept LookupApart d (e.lookup key).1 := by
  unfold Dev.lookup
  extract_lets e1 t b r q
  have h1 : RegsKept LookupApart d e1 := h.bump64 (by simp [LookupApart]) (by simp [LookupApart])
  have hr : RegsKept LookupApart d r.1 := h1.readBucket b.1
  have hq : RegsKept LookupApart d q.1 := hr.readBucket b.2
  split
  · exact h1
  · split
    · exact hr
    · split
      · exact hr
      · split
        · exact hq
        · exact hq

end Dev.RegsKept

end Sys2Proof.Machine
end

section
/-! Entries of the Trellis in memory: what writing one leaves of it (R366, R376). -/
namespace Sys2Proof.Machine

variable {d e : Dev}

theorem Dev.entAt_congr (h : e.mem = d.mem) (a : Nat) : e.entAt a = d.entAt a := by
  have hbytes : e.bytesAt a 32 = d.bytesAt a 32 := Dev.bytesAt_congr fun c _ _ => by simp [Dev.byteAt, h]
  rw [Dev.entAt, Dev.entAt, Dev.numAt, Dev.numAt, hbytes]

theorem Dev.entAt_lt (a : Nat) : d.entAt a < 2 ^ 256 := by
  have h := leNat_lt (d.bytesAt a 32)
  rwa [Dev.bytesAt_length] at h

theorem Dev.putEnt_mem (a x : Nat) : (d.putEnt a x).mem = (d.setNum a 32 x).mem := by
  simp [Dev.putEnt, Dev.freshWords]

theorem Dev.entAt_putEnt (hw : Memory.wf d.mem = true) {a x : Nat} (hx : x < 2 ^ 256) : (d.putEnt a x).entAt a = x :=
  (Dev.entAt_congr (Dev.putEnt_mem a x) a).trans (Dev.numAt_setNum hw hx)

/-- What an entry shows of itself: its type and its action. -/
def entShows (x y : Nat) : Prop := entType x = entType y ∧ entAction x = entAction y

/-- A bit or a field above the type leaves what the entry shows. -/
theorem entShows_putBits {lo : Nat} (h : 244 ≤ lo) (e n x : Nat) : entShows (putBits e lo n x) e :=
  ⟨bitsOf_putBits_below (by omega) e n x, bitsOf_putBits_below (by omega) e n x⟩

theorem entShows.trans {x y z : Nat} (h : entShows x y) (h' : entShows y z) : entShows x z := ⟨h.1.trans h'.1, h.2.trans h'.2⟩

/-- A hit mark leaves what the entry shows (R376). -/
theorem Dev.entShows_hitMark (hw : Memory.wf d.mem = true) (a : Nat) : entShows ((d.hitMark a).entAt a) (d.entAt a) := by
  unfold Dev.hitMark
  extract_lets x
  split
  · exact ⟨rfl, rfl⟩
  · split
    · have hmark : putBits (putBits x 244 1 1) 245 1 0 < 2 ^ 256 := putBits_lt (putBits_lt (Dev.entAt_lt a) (by decide) _) (by decide) _
      rw [Dev.pipeWrite, Dev.entAt_putEnt hw (putBits_lt hmark (by decide) _)]
      exact ((entShows_putBits (by decide) _ _ _).trans (entShows_putBits (by decide) _ _ _)).trans (entShows_putBits (by decide) _ _ _)
    · exact ⟨rfl, rfl⟩

@[simp] theorem Dev.hitMark_frm (a : Nat) : (d.hitMark a).frm = d.frm := by
  unfold Dev.hitMark
  extract_lets x
  split
  · rfl
  · split
    · exact RecordApart.pipeWrite (g := Dev.frm)
        { mem := fun _ _ => rfl, bad := fun _ _ => rfl, fab := fun _ _ => rfl, itm := fun _ _ => rfl, twin := fun _ _ => rfl, out := fun _ _ => rfl } d _ _
    · rfl

end Sys2Proof.Machine
end

section
/-! O45: the lookups of frames (R346, R373, R384), one outcome of a lookup at a time. -/
namespace Sys2Proof.Machine

/-! ### The outcomes of a lookup -/

section
variable {d : Dev} {k : LookupKey} {a : Nat}

theorem Dev.entAt_lookup (d : Dev) (key : List Byte) (a : Nat) : (d.lookup key).1.entAt a = d.entAt a :=
  Dev.entAt_congr (d.lookup_keeps Dev.mem (fun _ => rfl) key) a

theorem Dev.tryKey_of_hit (h : (d.lookup k.key).2 = some a) (hlock : entLock (d.entAt a) = false) (since : Option Nat) :
    d.tryKey k since = ((d.lookup k.key).1.hitMark a).keyHit k (((d.lookup k.key).1.hitMark a).entAt a) := by
  simp only [Dev.tryKey, h, Dev.entAt_lookup, hlock, Bool.false_eq_true, if_false]

theorem Dev.tryKey_of_locked (h : (d.lookup k.key).2 = some a) (hlock : entLock (d.entAt a) = true) (hroom : d.frm.parked.length < 64) :
    d.tryKey k none = ((d.lookup k.key).1.bump Reg.trlParked).onFrm fun p =>
      { p with parked := p.parked ++ [{ key := k, since := (d.lookup k.key).1.blv.vt }] } := by
  have hroom' : ¬64 ≤ d.frm.parked.length := by omega
  simp only [Dev.tryKey, h, Dev.entAt_lookup, hlock, if_true, Dev.lookup_frm, if_neg hroom']

theorem Dev.tryKey_of_lockedAgain (h : (d.lookup k.key).2 = some a) (hlock : entLock (d.entAt a) = true) (t : Nat) :
    d.tryKey k (some t) = (d.lookup k.key).1.onFrm fun p => { p with parked := p.parked ++ [{ key := k, since := t }] } := by
  simp only [Dev.tryKey, h, Dev.entAt_lookup, hlock, if_true]

theorem Dev.tryKey_of_miss (h : (d.lookup k.key).2 = none) (since : Option Nat) : d.tryKey k since = (d.lookup k.key).1.keyMiss k := by
  simp only [Dev.tryKey, h]

end

/-! ### What an outcome does to the frames -/

section
variable {d : Dev} {k : LookupKey} {x : InFrame}

theorem find?_map_id {l : List InFrame} {id : Nat} {x y : InFrame} (h : l.find? (fun z => z.id == id) = some x) (hy : y.id = id) :
    (l.map fun z => if z.id = id then y else z).find? (fun z => z.id == id) = some y := by
  induction l with
  | nil => exact absurd h (by simp)
  | cons z l ih =>
    by_cases hz : z.id = id
    · simp [hz, hy]
    · have hl : l.find? (fun z => z.id == id) = some x := by simpa [hz] using h
      simp [hz, ih hl]

theorem Dev.id_of_inFrame {id : Nat} (h : d.inFrame? id = some x) : x.id = id := by
  simpa using List.find?_some h

theorem Dev.inFrame_keyHit (hord : k.ord = none) (hfound : d.inFrame? k.id = some x) (e : Nat) :
    (d.keyHit k e).inFrame? k.id = some (d.takeAction x (entType e) (entAction e)) := by
  have hid : x.id = k.id := Dev.id_of_inFrame hfound
  simp only [Dev.keyHit, hfound, hord]
  exact find?_map_id hfound hid

theorem Dev.keyMiss_parked (d : Dev) (k : LookupKey) : (d.keyMiss k).frm.parked = d.frm.parked := by
  unfold Dev.keyMiss
  split
  · rfl
  · rfl
  · unfold Dev.frameMiss
    split
    · rfl
    · split <;> rfl

theorem Dev.keyMiss_regs (d : Dev) (k : LookupKey) : (d.keyMiss k).regs = d.regs := by
  unfold Dev.keyMiss
  split
  · rfl
  · rfl
  · unfold Dev.frameMiss
    split
    · rfl
    · split <;> rfl

theorem Dev.missGroup_of_kept {p : Nat → Prop} {e : Dev} (h : Dev.RegsKept p d e) (hcan : ∀ ch < 64, p (canReg Reg.pavCanCtl ch))
    (heth : ∀ i < 14, p (ethReg Reg.ethCtl i)) (x : InFrame) : e.missGroup x = d.missGroup x := by
  unfold Dev.missGroup
  split
  · rename_i hx
    rw [h.flag (hcan _ hx.2), h.fld (hcan _ hx.2)]
  · split
    · rename_i hx
      have hi : x.chan - 96 < 14 := by omega
      rw [h.flag (heth _ hi), h.fld (heth _ hi)]
    · rfl

end

/-! ### The commands -/

section
variable {s : State} {k : LookupKey} {a : Nat}

/-- The device on which the next key is tried: the key is off the bus. -/
def State.atKey (s : State) (k : LookupKey) : Dev := s.dev.reframed { s.dev.frm with keys := s.dev.frm.keys.erase k } []

theorem exec_trlLookup (hnext : s.dev.nextKey = some k) : ∃ f, exec .trlLookup s = s.act f ∧ f s.clear = (s.atKey k).tryKey k none := by
  have hnext' : s.clear.nextKey = some k := hnext
  refine ⟨_, by unfold exec; rfl, ?_⟩
  simp only [Dev.trlLookup, hnext']
  rfl

theorem State.lookup_atKey (s : State) (k : LookupKey) (key : List Byte) :
    (s.atKey k).lookup key = reframe { s.dev.frm with keys := s.dev.frm.keys.erase k } [] (s.dev.lookup key) := s.dev.lookup_reframed _ _ _

theorem does_trlLookup_hit (hInv : Inv s) (hnext : s.dev.nextKey = some k) (hord : k.ord = none) (ha : (s.dev.lookup k.key).2 = some a)
    (hlock : entLock (s.dev.entAt a) = false) {x : InFrame} (hx : s.dev.inFrame? k.id = some x) : Does .trlLookup s (fun d =>
      ∃ y, d.inFrame? k.id = some y ∧ y.hit = entType (s.dev.entAt a) ∧ y.action = entAction (s.dev.entAt a) ∧
        y.frame.group = bitsOf (entAction (s.dev.entAt a)) 0 12 ∧ y.frame.data = x.frame.data) := by
  obtain ⟨f, hexec, hf⟩ := exec_trlLookup hnext
  have ha' : ((s.atKey k).lookup k.key).2 = some a := by rw [State.lookup_atKey]; exact ha
  have hmem : ((s.atKey k).lookup k.key).1.mem = s.dev.mem := (s.atKey k).lookup_keeps Dev.mem (fun _ => rfl) k.key
  refine does_of_eq hexec (hf.trans (Dev.tryKey_of_hit ha' hlock none)) ?_
  generalize hr : ((s.atKey k).lookup k.key).1 = r at hmem
  have hshows := Dev.entShows_hitMark (d := r) (by rw [hmem]; exact hInv.mem) a
  rw [Dev.entAt_congr hmem a] at hshows
  have hfound : (r.hitMark a).inFrame? k.id = some x := by
    rw [Dev.inFrame?, Dev.hitMark_frm, ← hr, Dev.lookup_frm]
    exact hx
  refine ⟨_, Dev.inFrame_keyHit hord hfound _, hshows.1, hshows.2, ?_, rfl⟩
  rw [← hshows.2]
  rfl

theorem does_trlLookup_park (hInv : Inv s) (hnext : s.dev.nextKey = some k) (ha : (s.dev.lookup k.key).2 = some a)
    (hlock : entLock (s.dev.entAt a) = true) (hroom : s.dev.frm.parked.length < 64) : Does .trlLookup s (fun d =>
      d.frm.parked = s.dev.frm.parked ++ [{ key := k, since := s.dev.blv.vt }] ∧
      d.rd Reg.trlParked = s.dev.rd Reg.trlParked + 1 ∧ d.mem = s.dev.mem) := by
  obtain ⟨f, hexec, hf⟩ := exec_trlLookup hnext
  have ha' : ((s.atKey k).lookup k.key).2 = some a := by rw [State.lookup_atKey]; exact ha
  have hmem : ((s.atKey k).lookup k.key).1.mem = s.dev.mem := (s.atKey k).lookup_keeps Dev.mem (fun _ => rfl) k.key
  have hblv : ((s.atKey k).lookup k.key).1.blv = s.dev.blv := (s.atKey k).lookup_keeps Dev.blv (fun _ => rfl) k.key
  have hfrm : ((s.atKey k).lookup k.key).1.frm.parked = s.dev.frm.parked := by
    rw [Dev.lookup_frm]; rfl
  have hregs : Dev.RegsKept LookupApart s.dev ((s.atKey k).lookup k.key).1 := Dev.RegsKept.lookup (.step (.refl hInv.regs)) k.key
  refine does_of_eq hexec (hf.trans (Dev.tryKey_of_locked ha' hlock hroom)) ?_
  rw [← hblv, ← hfrm, ← hregs.rd Reg.trlParked (by unfold LookupApart; decide)]
  exact ⟨rfl, (Dev.bump_counts hregs.wf Reg.trlParked).1, hmem⟩

theorem lookupApart_missRegs : (∀ ch < 64, LookupApart (canReg Reg.pavCanCtl ch)) ∧ ∀ i < 14, LookupApart (ethReg Reg.ethCtl i) := by
  constructor
  · intro ch hch
    simp only [LookupApart, canReg, errCode, Reg.pavCanCtl, Reg.trlLookups, Reg.trlCacheMiss, Reg.intElOvf, Reg.intElWritten, Reg.intTypeCount,
      List.mem_cons, List.not_mem_nil, or_false]
    omega
  · intro i hi
    simp only [LookupApart, ethReg, errCode, Reg.ethCtl, Reg.trlLookups, Reg.trlCacheMiss, Reg.intElOvf, Reg.intElWritten, Reg.intTypeCount,
      List.mem_cons, List.not_mem_nil, or_false]
    omega

theorem does_trlLookup_missNext (hnext : s.dev.nextKey = some k) (hord : k.ord = none) (hmiss : (s.dev.lookup k.key).2 = none) {b : List Byte}
    (halt : k.alt = some b) : Does .trlLookup s (fun d => d.frm.keys = { k with key := b, alt := none } :: s.dev.frm.keys.erase k) := by
  obtain ⟨f, hexec, hf⟩ := exec_trlLookup hnext
  have hmiss' : ((s.atKey k).lookup k.key).2 = none := by rw [State.lookup_atKey]; exact hmiss
  have hfrm : ((s.atKey k).lookup k.key).1.frm = { s.dev.frm with keys := s.dev.frm.keys.erase k } := (s.atKey k).lookup_frm k.key
  refine does_of_eq hexec (hf.trans (Dev.tryKey_of_miss hmiss' none)) ?_
  generalize ((s.atKey k).lookup k.key).1 = r at hfrm
  simp only [Dev.keyMiss, hord, halt, Dev.onFrm, hfrm]

theorem does_trlLookup_missDrops (hInv : Inv s) (hnext : s.dev.nextKey = some k) (hord : k.ord = none) (hmiss : (s.dev.lookup k.key).2 = none)
    (halt : k.alt = none) {x : InFrame} (hx : s.dev.inFrame? k.id = some x) (hgroup : s.dev.missGroup x = none) :
    Does .trlLookup s (fun d => d.frm.ins = s.dev.frm.ins.filter fun y => y.id != k.id) := by
  obtain ⟨f, hexec, hf⟩ := exec_trlLookup hnext
  have hmiss' : ((s.atKey k).lookup k.key).2 = none := by rw [State.lookup_atKey]; exact hmiss
  have hfrm : ((s.atKey k).lookup k.key).1.frm = { s.dev.frm with keys := s.dev.frm.keys.erase k } := (s.atKey k).lookup_frm k.key
  have hregs : Dev.RegsKept LookupApart s.dev ((s.atKey k).lookup k.key).1 := Dev.RegsKept.lookup (.step (.refl hInv.regs)) k.key
  have hgroup' := (Dev.missGroup_of_kept hregs lookupApart_missRegs.1 lookupApart_missRegs.2 x).trans hgroup
  refine does_of_eq hexec (hf.trans (Dev.tryKey_of_miss hmiss' none)) ?_
  generalize ((s.atKey k).lookup k.key).1 = r at hfrm hgroup'
  have hx' : r.inFrame? k.id = some x := by rw [Dev.inFrame?, hfrm]; exact hx
  simp only [Dev.keyMiss, hord, halt, Dev.frameMiss, hx', hgroup', Dev.dropIn, Dev.onFrm, hfrm]

theorem quiet_trlLookup (hnext : s.dev.nextKey = none) : Quiet .trlLookup s := by
  have hnext' : s.clear.nextKey = none := hnext
  refine does_act _ (by unfold exec; rfl) ?_
  simp only [Dev.trlLookup, hnext']

end

/-! ### Parked lookups -/

section
variable {s : State} {i : Nat}

theorem quiet_parked (hp : s.dev.frm.parked[i]? = none) : Quiet (.parkRetry i) s ∧ Quiet (.parkLockLimit i) s := by
  have hp' : s.clear.frm.parked[i]? = none := hp
  constructor
  · refine does_act _ (by unfold exec; rfl) ?_
    simp only [Dev.parkRetry, hp']
  · refine does_act _ (by unfold exec; rfl) ?_
    simp only [Dev.parkLimit, hp']

variable {p : ParkedKey} (hp : s.dev.frm.parked[i]? = some p)
include hp

theorem does_parkRetry_locked {a : Nat} (ha : (s.dev.lookup p.key.key).2 = some a) (hlock : entLock (s.dev.entAt a) = true) :
    Does (.parkRetry i) s (fun d => d.frm.parked = s.dev.frm.parked ∧ d.frm.ins = s.dev.frm.ins) := by
  have hp' : s.clear.frm.parked[i]? = some p := hp
  let e : Dev := s.dev.reframed { s.dev.frm with parked := s.dev.frm.parked.take i } []
  have ha' : (e.lookup p.key.key).2 = some a := by
    unfold e
    rw [Dev.lookup_reframed]
    exact ha
  have hfrm : (e.lookup p.key.key).1.frm = { s.dev.frm with parked := s.dev.frm.parked.take i } := e.lookup_frm p.key.key
  have htry : (s.clear.onFrm fun q => { q with parked := q.parked.take i }).tryKey p.key (some p.since) = _ :=
    Dev.tryKey_of_lockedAgain (d := e) ha' hlock p.since
  refine does_act _ (by unfold exec; rfl) ?_
  simp only [Dev.parkRetry, hp', htry]
  simp only [Dev.onFrm, hfrm]
  refine ⟨?_, trivial⟩
  have hlt : i < s.dev.frm.parked.length := (List.getElem?_eq_some_iff.mp hp).1
  have hget : s.dev.frm.parked[i] = p := (List.getElem?_eq_some_iff.mp hp).2
  rw [List.append_assoc, List.singleton_append, ← hget, State.clear_frm, List.getElem_cons_drop, List.take_append_drop]

theorem quiet_parkLockLimit (h : s.dev.blv.vt < p.since + s.dev.lockLimit) : Quiet (.parkLockLimit i) s := by
  have hp' : s.clear.frm.parked[i]? = some p := hp
  have h' : s.clear.blv.vt < p.since + s.clear.lockLimit := h
  refine does_act _ (by unfold exec; rfl) ?_
  simp only [Dev.parkLimit, hp', if_pos h']

theorem does_parkLockLimit (hInv : Inv s) (h : p.since + s.dev.lockLimit ≤ s.dev.blv.vt) : Does (.parkLockLimit i) s (fun d =>
    d.frm.parked = s.dev.frm.parked.take i ++ s.dev.frm.parked.drop (i + 1) ∧
    d.rd Reg.trlLockOverrun = s.dev.rd Reg.trlLockOverrun + 1 ∧ d.mem = s.dev.mem) := by
  have hp' : s.clear.frm.parked[i]? = some p := hp
  have h' : ¬s.clear.blv.vt < p.since + s.clear.lockLimit := Nat.not_lt.mpr h
  refine does_act _ (by unfold exec; rfl) ?_
  simp only [Dev.parkLimit, hp', if_neg h']
  refine ⟨?_, ?_, ?_⟩
  · rw [Dev.keyGiveUp, Dev.keyMiss_parked]
    rfl
  · rw [Dev.keyGiveUp, Dev.rd, Dev.keyMiss_regs]
    exact (Dev.bump_counts (d := s.dev) hInv.regs Reg.trlLockOverrun).1
  · simp [Dev.keyGiveUp]

end

/-- Settles O45: a lookup reads the device past its frame path, so each outcome is that of the state's own lookup. -/
theorem frameLookups : Obligations.FrameLookups := by
  intro s i hInv
  refine ⟨quiet_trlLookup, fun k hnext hord => ⟨fun a ha hlock x hx => does_trlLookup_hit hInv hnext hord ha hlock hx,
    fun a ha hlock hroom => does_trlLookup_park hInv hnext ha hlock hroom,
    fun hmiss => ⟨fun b halt => does_trlLookup_missNext hnext hord hmiss halt,
      fun halt x hx hgroup => does_trlLookup_missDrops hInv hnext hord hmiss halt hx hgroup⟩⟩,
    quiet_parked, fun p hp => ⟨fun a ha hlock => does_parkRetry_locked hp ha hlock, quiet_parkLockLimit hp, does_parkLockLimit hp hInv⟩⟩

end Sys2Proof.Machine
end

section
/-! What learning a source leaves of the device (R377): it counts among the Trellis's registers and logs, and the frame path stands. -/
namespace Sys2Proof.Machine

/-- A register of neither the Trellis nor the interrupt block. -/
def TrlApart (a : Nat) : Prop := a / 0x10_0000 ≠ 6 ∧ a / 0x10_0000 ≠ 14

theorem TrlApart.not_of_trl {a : Nat} (h : a / 0x10_0000 = 6) : ¬TrlApart a := fun ha => ha.1 h

theorem TrlApart.not_of_int {a : Nat} (h : a / 0x10_0000 = 14) : ¬TrlApart a := fun ha => ha.2 h

theorem recordApart_regs : RecordApart Dev.regs where
  mem _ _ := rfl
  bad _ _ := rfl
  fab _ _ := rfl
  itm _ _ := rfl
  twin _ _ := rfl
  out _ _ := rfl

theorem recordApart_frm : RecordApart Dev.frm where
  mem _ _ := rfl
  bad _ _ := rfl
  fab _ _ := rfl
  itm _ _ := rfl
  twin _ _ := rfl
  out _ _ := rfl

/-- From one device to another the Trellis has worked, and the frame path stands. -/
structure Dev.TrlWork (d e : Dev) : Prop where
  regs : Dev.RegsKept TrlApart d e
  frm : e.frm = d.frm

namespace Dev.TrlWork

variable {d e f : Dev}

theorem refl (hw : cellsWf d.regs = true) : TrlWork d d := ⟨.refl hw, rfl⟩

/-- A step beside the registers and the frame path. -/
theorem step (h : TrlWork d e) (hregs : f.regs = e.regs := by rfl) (hfrm : f.frm = e.frm := by rfl) : TrlWork d f :=
  ⟨h.regs.step hregs, hfrm.trans h.frm⟩

theorem ite {c : Prop} [Decidable c] (ht : TrlWork d e) (hf : TrlWork d f) : TrlWork d (if c then e else f) := SettleClosed.ite ht hf

theorem bump (h : TrlWork d e) {a : Nat} (ha : a / 0x10_0000 = 6) (n : Nat := 1) : TrlWork d (e.bump a n) :=
  ⟨h.regs.bump (TrlApart.not_of_trl ha) n, h.frm⟩

theorem putEnt (h : TrlWork d e) (a x : Nat) : TrlWork d (e.putEnt a x) := h.step (recordApart_regs.putEnt e a x) (recordApart_frm.putEnt e a x)

theorem pipeWrite (h : TrlWork d e) (a x : Nat) : TrlWork d (e.pipeWrite a x) := h.putEnt a _

theorem sendRec (h : TrlWork d e) (t : Nat) (b : List Byte) : TrlWork d (e.sendRec t b) :=
  h.step (recordApart_regs.sendRec e t b) (recordApart_frm.sendRec e t b)

theorem lookup (h : TrlWork d e) (key : List Byte) : TrlWork d (e.lookup key).1 where
  regs :=
    { wf := (Dev.RegsKept.lookup (.refl h.regs.wf) key).wf
      rd := fun a ha => ((Dev.RegsKept.lookup (.refl h.regs.wf) key).rd a (by
        obtain ⟨htrl, hint⟩ := ha
        simp only [LookupApart, errCode, Reg.trlLookups, Reg.trlCacheMiss, Reg.intElOvf, Reg.intElWritten, Reg.intTypeCount, List.mem_cons,
          List.not_mem_nil, or_false]
        omega)).trans (h.regs.rd a ha) }
  frm := (e.lookup_frm key).trans h.frm

theorem cuckooMove (h : TrlWork d e) (t : Nat) : ∀ p : List (Nat × Nat), TrlWork d (e.cuckooMove t p)
  | [] => h
  | [_] => h
  | x :: y :: rest => by
    rw [Dev.cuckooMove]
    exact (((h.cuckooMove t (y :: rest)).putEnt _ _).bump (by decide)).putEnt _ _

theorem insertFail (h : TrlWork d e) (x : Nat) (learned : Bool) : TrlWork d (e.insertFail x learned).1 := by
  unfold Dev.insertFail
  extract_lets e1
  have h1 : TrlWork d e1 := h.bump (by decide)
  split
  · exact (step h1).sendRec _ _
  · dsimp only
    split
    · exact h1.bump (by decide)
    · exact h1

theorem insertIn (h : TrlWork d e) (t x : Nat) (learned : Bool) : TrlWork d (e.insertIn t x learned).1 := by
  unfold Dev.insertIn
  extract_lets key x' b put path e1
  have hput : ∀ {g : Dev} (b s : Nat), TrlWork d g → TrlWork d (put g b s).1 := fun b s hg => hg.pipeWrite _ _
  have h1 : TrlWork d e1 := step h
  split
  · exact h
  · split
    · exact hput _ _ h
    · split
      · exact hput _ _ h
      · clear_value path
        cases path with
        | none => exact h1.insertFail _ _
        | some p =>
          have hp : TrlWork d (e1.cuckooMove t p) := h1.cuckooMove t p
          cases p with
          | nil => exact hp.insertFail _ _
          | cons y rest => exact hput _ _ hp

theorem insert (h : TrlWork d e) (x : Nat) (learned : Bool) : TrlWork d (e.insert x learned).1 := by
  unfold Dev.insert
  extract_lets r
  have hr : TrlWork d r.1 := h.insertIn _ x learned
  clear_value r
  split
  · exact hr.insertIn _ x learned
  · exact hr

theorem hitMark (h : TrlWork d e) (a : Nat) : TrlWork d (e.hitMark a) := by
  unfold Dev.hitMark
  extract_lets x
  split
  · exact h
  · split
    · exact h.pipeWrite _ _
    · exact h

theorem learn (h : TrlWork d e) (i : Nat) (key : List Byte) : TrlWork d (e.learn i key) := by
  unfold Dev.learn
  split
  · exact h
  · split
    · exact h.bump (by decide)
    · extract_lets r e1 x q
      have h1 : TrlWork d e1 := h.lookup key
      clear_value e1
      cases r.2 with
      | none =>
        have hq : TrlWork d q.1 := h1.insert x true
        clear_value q
        exact ite (hq.bump (by decide)) hq
      | some a =>
        have h2 : TrlWork d (e1.hitMark a) := h1.hitMark a
        refine ite h1 (ite h2 ?_)
        have h3 := (h2.pipeWrite a (putBits ((e1.hitMark a).entAt a) 128 12 ((e1.hitMark a).learnGroup i))).bump (a := Reg.trlLearnMove) (by decide)
        dsimp only
        generalize ((e1.hitMark a).pipeWrite a _).bump Reg.trlLearnMove = e3 at h3 ⊢
        refine ite ?_ h3
        split
        · exact ite h3 (h3.pipeWrite _ _)
        · exact h3

end Dev.TrlWork

end Sys2Proof.Machine
end

section
/-! O44: the frames received from CAN, LIN, Ethernet and the links (R328, R329, R333, R335, R340, R342). -/
namespace Sys2Proof.Machine

/-- A frame enters the ingress path behind the others, with its key. -/
theorem Dev.enterFrame_entered {d o : Dev} {P : InFrame → Prop} (hins : d.frm.ins = o.frm.ins) (f : Frame) (port chan blocks : Nat) (key : List Byte)
    (alt : Option (List Byte)) (hP : P { id := d.frm.nextId, chan := chan, port := port, frame := f, blocks := blocks }) :
    (d.enterFrame f port chan blocks key alt).entered o P :=
  ⟨_, { id := d.frm.nextId, ord := none, chan := chan, key := key, alt := alt }, by rw [← hins]; rfl, rfl,
    List.mem_append_right _ (List.mem_singleton_self _), hP⟩

/-- An update of one channel that leaves what is read of each. -/
theorem getD_modify_keeps {α β : Type} (g : α → β) (l : List α) (n k : Nat) (f : α → α) (x : α) (h : ∀ a, g (f a) = g a) :
    g ((l.modify n f).getD k x) = g (l.getD k x) := by
  simp only [List.getD_eq_getElem?_getD, List.getElem?_modify]
  cases l[k]? with
  | none => rfl
  | some a =>
    by_cases hn : n = k
    · simp [hn, h]
    · simp [hn]

/-! ### CAN -/

/-- The error counters take no buffer of the pool (R335). -/
theorem Dev.poolFree_errDown (d : Dev) (ch p : Nat) (tx : Bool) : (d.errDown ch tx).poolFree p = d.poolFree p := by
  have hbufs : ∀ f : CanCh → CanCh, (∀ c, (f c).bufs = c.bufs) → (d.onCan ch f).poolFree p = d.poolFree p := fun f hf => by
    simp only [Dev.poolFree, Dev.onCan, getD_modify_keeps CanCh.bufs d.can ch _ f {} hf]
  cases tx with
  | true => exact hbufs _ fun _ => rfl
  | false => exact hbufs _ fun _ => rfl

section
variable {s : State} {ch : Fin 64} {r : CanRecord} {x : Received}

theorem quiet_canFrameRx (hoff : s.dev.flag (canReg Reg.pavCanCtl ch) 0 = false) : Quiet (.canFrameRx ch r x) s := by
  refine does_act _ (by unfold exec; rfl) ?_
  simp [Dev.canRx, hoff]

theorem does_canFrameRx (hInv : Inv s) (hsilent : s.dev.silent = false) (hon : s.dev.flag (canReg Reg.pavCanCtl ch) 0 = true)
    (hbus : (s.dev.canCh ch).busOff = false) (hfmt : r.fmt.val = 0) (hlen : x.data.length ≤ 8) (hguard : s.dev.flag Reg.gthCtl 1 = false)
    (hheld : (s.dev.frm.ins.filter fun y => y.port == 8 && y.chan == ch.val).length < 32) (hpool : 1 ≤ s.dev.poolFree (ch / 8)) :
    Does (.canFrameRx ch r x) s (fun d => d.rd (canReg Reg.pavCanRxOk ch) = s.dev.rd (canReg Reg.pavCanRxOk ch) + 1 ∧
      d.entered s.dev fun y => y.frame.kind = 1 ∧ y.frame.src = ch.val ∧ y.frame.data = x.data ∧ y.frame.sof = x.sof ∧ y.chan = ch.val) := by
  have hblocks : poolBlocks x.data.length = 1 := by
    unfold poolBlocks
    omega
  let e := (s.clear.bump (canReg Reg.pavCanRxOk ch)).errDown ch false
  have hfrm : e.frm = s.dev.frm := rfl
  have hne : Reg.gthCtl ≠ canReg Reg.pavCanRxOk ch := by
    have := ch.isLt
    simp only [canReg, Reg.gthCtl, Reg.pavCanRxOk]
    omega
  have hpool' : ¬(32 ≤ (e.frm.ins.filter fun y => y.port == 8 && y.chan == ch.val).length ∨ e.poolFree (ch / 8) < poolBlocks x.data.length) := by
    rw [hfrm, hblocks, Dev.poolFree_errDown]
    have : (s.clear.bump (canReg Reg.pavCanRxOk ch)).poolFree (ch / 8) = s.dev.poolFree (ch / 8) := rfl
    omega
  have hguard' : e.flag Reg.gthCtl 1 = false := by
    rw [← hguard]
    exact (Dev.RegsKept.bump (p := (· ≠ canReg Reg.pavCanRxOk ch)) (.refl hInv.regs) (by simp)).flag hne 1
  have heffect : s.clear.canRx ch r x = e.enterFrame (e.newFrame 1 ch x (canRecordBytes r)) 8 ch (poolBlocks x.data.length)
      (e.newFrame 1 ch x (canRecordBytes r)).fieldKey none := by
    have hsilent' : s.clear.silent = false := hsilent
    have hbus' : (s.clear.can.getD ch {}).busOff = false := hbus
    have hadmit : e.guardsAdmit ch r.id.toNat r.ide x.sof = (e, true) := by simp [Dev.guardsAdmit, hguard']
    have hlenOk : canLenOk r.fmt.val x.data.length = true := by simp [canLenOk, hfmt, hlen]
    unfold Dev.canRx
    extract_lets ctl fmtOk g d2 held blocks f
    have hfmtOk : fmtOk = true := by simp only [fmtOk, hfmt]
    have hg : g = (e, true) := hadmit
    clear_value fmtOk g
    subst hfmtOk hg
    have hgate : ¬(s.clear.silent || !s.clear.flag ctl 0 || (s.clear.can.getD ch {}).busOff || !true ||
        !canLenOk r.fmt.val x.data.length) = true := by
      rw [hsilent', hlenOk, hbus', show s.clear.flag ctl 0 = true from hon]
      decide
    exact (if_neg hgate).trans (if_neg hpool')
  refine does_of_eq (f := fun d => d.canRx ch r x) (by unfold exec; rfl) heffect ⟨?_, Dev.enterFrame_entered (d := e) rfl _ _ _ _ _ _ ?_⟩
  · exact (Dev.bump_counts (d := s.clear) hInv.regs _).1
  · exact ⟨rfl, rfl, rfl, rfl, rfl⟩

end

/-! ### LIN -/

section
variable {s : State} {l : Fin 32} {id : Fin 64} {enh : Bool} {x : Received} (hsilent : s.dev.silent = false)
  (hon : s.dev.flag (linReg Reg.pavLinCtl l) 0 = true) (hdata : 1 ≤ x.data.length) (hlen : x.data.length ≤ 8)
include hsilent hon hdata hlen

theorem linRx_gate : ¬(s.clear.silent || !s.clear.flag (linReg Reg.pavLinCtl l) 0 || x.data.isEmpty || decide (8 < x.data.length)) = true := by
  have hempty : x.data.isEmpty = false := by
    rw [List.isEmpty_eq_false_iff]
    exact List.ne_nil_of_length_pos hdata
  rw [show s.clear.silent = false from hsilent, State.clear_flag, hon, hempty]
  simpa using hlen

theorem does_linFrameRx_ok (hInv : Inv s) : Does (.linFrameRx l id enh true x) s (fun d =>
    d.rd (linReg Reg.pavLinRxOk l) = s.dev.rd (linReg Reg.pavLinRxOk l) + 1 ∧
    d.entered s.dev fun y => y.frame.kind = 2 ∧ y.frame.src = 64 + l.val ∧ y.frame.data = x.data) := by
  refine does_of_eq (f := fun d => d.linRx l id enh true x) (by unfold exec; rfl) (if_neg (linRx_gate hsilent hon hdata hlen)) ?_
  rw [if_neg (by decide)]
  exact ⟨(Dev.bump_counts (d := s.clear) hInv.regs _).1, Dev.enterFrame_entered rfl _ _ _ _ _ _ ⟨rfl, rfl, rfl⟩⟩

theorem does_linFrameRx_bad (hInv : Inv s) : Does (.linFrameRx l id enh false x) s (fun d => d.counts s.dev (linReg Reg.pavLinRxErr l) ∧ d.frm = s.dev.frm) := by
  refine does_of_eq (f := fun d => d.linRx l id enh false x) (by unfold exec; rfl) (if_neg (linRx_gate hsilent hon hdata hlen)) ?_
  rw [if_pos (by decide)]
  exact ⟨Dev.onlyReg_of_bump hInv.regs rfl rfl, rfl⟩

end

/-! ### Ethernet -/

/-- A frame that no tunnel can carry is looked up, and its source learned (R342, R377). -/
theorem Dev.ethParse_of_plain (d : Dev) (i : Nat) {f : Frame} (htype : (ethType f.data).1 ≠ 0x22F0) (hstatus : f.status = 0) :
    d.ethParse i f = (d.enterFrame f 7 (96 + i) 0 (d.streamKey i f.data) (some (d.l2Key i f.data (f.data.take 6)))).learn i
      ((d.enterFrame f 7 (96 + i) 0 (d.streamKey i f.data) (some (d.l2Key i f.data (f.data.take 6)))).l2Key i f.data ((f.data.drop 6).take 6)) := by
  simp [Dev.ethParse, htype, hstatus]

theorem Dev.entered_of_frm {d e o : Dev} {P : InFrame → Prop} (h : d.entered o P) (he : e.frm = d.frm) : e.entered o P := by
  obtain ⟨y, k, hins, hid, hk, hP⟩ := h
  exact ⟨y, k, by rw [he, hins], hid, by rwa [he], hP⟩

section
variable {s : State} {i : Fin 14} {x : Received} (hsilent : s.dev.silent = false)
  (hon : s.dev.flag (ethReg Reg.ethCtl i) 0 = true) (hlink : (s.dev.mac.getD i {}).link = true)
include hsilent hon hlink

theorem ethRx_gate : ¬(s.clear.silent || !s.clear.flag (ethReg Reg.ethCtl i) 0 || !(s.clear.mac.getD i {}).link) = true := by
  rw [show s.clear.silent = false from hsilent, State.clear_flag, hon, State.clear_mac, hlink]
  decide

theorem does_ethFrameRx_badFcs (hInv : Inv s) (h4 : s.dev.cutThrough 7 4 = false) (h5 : s.dev.cutThrough 7 5 = false) : Does (.ethFrameRx i false x) s (fun d =>
    d.counts s.dev (ethReg Reg.ethRxFcsErr i) ∧ d.frm = s.dev.frm) := by
  have hcut : (!false) = true ∧ (!s.clear.cutThrough 7 4) = true ∧ (!s.clear.cutThrough 7 5) = true := by
    rw [show s.clear.cutThrough 7 4 = false from h4, show s.clear.cutThrough 7 5 = false from h5]
    decide
  refine does_of_eq (f := fun d => d.ethRx i false x) (by unfold exec; rfl)
    ((if_neg (ethRx_gate hsilent hon hlink)).trans (if_pos hcut)) ?_
  exact ⟨Dev.onlyReg_of_bump hInv.regs rfl rfl, rfl⟩

theorem does_ethFrameRx_ok (hInv : Inv s) (hmin : 60 ≤ x.data.length)
    (hmax : x.data.length + 4 ≤ min 9216 (max 64 (s.dev.fld (ethReg Reg.ethCfg i) 0 14))) (hctrl : (ethType x.data).1 ≠ 0x8808)
    (havtp : (ethType x.data).1 ≠ 0x22F0) (hgptp : s.dev.flag (ethReg Reg.ethCtl i) 3 = false)
    (hsec : s.dev.flag (secReg Reg.gthMsCtl i) 1 = false) : Does (.ethFrameRx i true x) s (fun d =>
      d.rd (ethReg Reg.ethRxOk i) = s.dev.rd (ethReg Reg.ethRxOk i) + 1 ∧
      d.entered s.dev fun y => y.frame.kind = 3 ∧ y.frame.src = 96 + i.val ∧ y.frame.data = x.data) := by
  let e := s.clear.bump (ethReg Reg.ethRxOk i)
  have hcount : e.rd (ethReg Reg.ethRxOk i) = s.dev.rd (ethReg Reg.ethRxOk i) + 1 := (Dev.bump_counts (d := s.clear) hInv.regs _).1
  have hkept : Dev.RegsKept (· ≠ ethReg Reg.ethRxOk i) s.dev e := Dev.RegsKept.bump (d := s.dev) (e := s.clear) ⟨hInv.regs, fun _ _ => rfl⟩ (by simp)
  have hctlNe : ethReg Reg.ethCtl i ≠ ethReg Reg.ethRxOk i := by
    simp only [ethReg, Reg.ethCtl, Reg.ethRxOk]
    omega
  have hsecNe : secReg Reg.gthMsCtl i ≠ ethReg Reg.ethRxOk i := by
    have := i.isLt
    simp only [secReg, ethReg, Reg.gthMsCtl, Reg.ethRxOk]
    omega
  have hgptp' : e.flag (ethReg Reg.ethCtl i) 3 = false := (hkept.flag hctlNe 3).trans hgptp
  have hsec' : e.flag (secReg Reg.gthMsCtl i) 1 = false := (hkept.flag hsecNe 1).trans hsec
  have hsize : ¬(x.data.length + 4 < 64 ∨ min 9216 (max 64 (s.clear.fld (ethReg Reg.ethCfg i) 0 14)) < x.data.length + 4) := by
    rw [State.clear_fld]
    omega
  obtain ⟨f, hparse, hf⟩ : ∃ f : Frame, s.clear.ethRx i true x = e.ethParse i f ∧
      f.kind = 3 ∧ f.src = 96 + i.val ∧ f.data = x.data ∧ f.status = 0 := by
    let stamped : Received := { x with sof := e.rxStamp i x / 2 ^ 16, frac := ⟨e.rxStamp i x % 65536, Nat.mod_lt _ (by decide)⟩ }
    refine ⟨{ e.newFrame 3 (96 + i) stamped (List.replicate 12 0) with status := 0 }, ?_, rfl, rfl, rfl, rfl⟩
    have hgptpNot : ¬(true = true ∧ e.flag (ethReg Reg.ethCtl i) 3 = true ∧ (ethType x.data).1 = 0x88F7 ∧
        natBytes (x.data.take 6) = [0x01, 0x80, 0xC2, 0x00, 0x00, 0x0E]) := by simp [hgptp']
    have hsecNot : ¬(e.flag (secReg Reg.gthMsCtl i) 1 = true ∧ x.data.getD 12 0 = 0x88 ∧ x.data.getD 13 0 = 0xE5) := by simp [hsec']
    refine (if_neg (ethRx_gate hsilent hon hlink)).trans ((if_neg (by simp)).trans ((if_neg hsize).trans ((if_neg hctrl).trans
      ((if_neg hgptpNot).trans ((if_neg hsecNot).trans ?_)))))
    simp only [if_true, show s.clear.bump (ethReg Reg.ethRxOk i) = e from rfl, hsec']
    simp [stamped]
  obtain ⟨hkind, hsrc, hdata, hstatus⟩ := hf
  rw [← hdata] at havtp
  rw [Dev.ethParse_of_plain e i havtp hstatus] at hparse
  refine does_of_eq (f := fun d => d.ethRx i true x) (by unfold exec; rfl) hparse ?_
  have hwork := Dev.TrlWork.learn (.refl (d := e.enterFrame f 7 (96 + i) 0 (e.streamKey i f.data) (some (e.l2Key i f.data (f.data.take 6)))) hkept.wf) i
    ((e.enterFrame f 7 (96 + i) 0 (e.streamKey i f.data) (some (e.l2Key i f.data (f.data.take 6)))).l2Key i f.data ((f.data.drop 6).take 6))
  have hapart : TrlApart (ethReg Reg.ethRxOk i) := by
    have := i.isLt
    simp only [TrlApart, ethReg, Reg.ethRxOk]
    omega
  refine ⟨(hwork.regs.rd _ hapart).trans hcount, Dev.entered_of_frm ?_ hwork.frm⟩
  exact Dev.enterFrame_entered rfl _ _ _ _ _ _ ⟨hkind, hsrc, hdata⟩

end

/-! ### Links -/

theorem Dev.protoErr_frm (d : Dev) (n : Nat) (t : Option Transfer) : (d.protoErr n t).frm = d.frm := by
  have hlog : ∀ c ga, ((d.bump (itmReg Reg.itmProtoErr n)).log c .decode ga 5).frm = d.frm := fun c ga =>
    Dev.log_keeps Dev.frm (fun _ => rfl) ..
  unfold Dev.protoErr
  extract_lets c e
  have he : e.frm = d.frm := hlog _ _
  split
  · split <;> exact he
  · exact he

section
variable {s : State} {n : Fin 5} {t : Transfer} (hup : s.dev.linkUp n = true) (hsilent : s.dev.silent = false)
include hup hsilent

theorem itmFrame_gate : ¬(!s.clear.linkUp n || s.clear.silent) = true := by
  rw [show s.clear.linkUp n = true from hup, show s.clear.silent = false from hsilent]
  decide

theorem does_itmFrame_wrongOp (hInv : Inv s) (hop : t.op ≠ 0x30) : Does (.itmFrame n t) s (fun d =>
    d.rd (itmReg Reg.itmProtoErr n) = s.dev.rd (itmReg Reg.itmProtoErr n) + 1 ∧ d.frm = s.dev.frm) :=
  does_of_eq (f := fun d => d.itmFrame n t) (by unfold exec; rfl) ((if_neg (itmFrame_gate hup hsilent)).trans (if_pos (.inl hop)))
    ⟨(Dev.protoErr_view (d := s.clear) hInv.regs n (some t)).1, Dev.protoErr_frm ..⟩

theorem does_itmFrame_ok (hop : t.op = 0x30) (hmin : 1 ≤ t.length) (hmax : t.length ≤ 9216) (hdata : t.data.length = t.length + 56)
    (hlen : leNat ((t.data.drop 2).take 2) % 2 ^ 14 = t.length) (hkind : (t.data.getD 0 0).toNat % 16 = 1 ∨ (t.data.getD 0 0).toNat % 16 = 2)
    (hstatus : t.data.getD (48 + t.length) 0 = 0) : Does (.itmFrame n t) s (fun d =>
      d.entered s.dev fun y => y.frame.data = (t.data.drop 48).take t.length ∧ y.frame.orig = t.orig ∧ y.frame.ts = t.ts ∧
        y.frame.src = (t.data.getD 1 0).toNat ∧ y.port = 2 + n.val) := by
  have hform : ¬(t.op ≠ 0x30 ∨ t.length = 0 ∨ 9216 < t.length ∨ t.data.length ≠ t.length + 56 ∨
      leNat ((t.data.drop 2).take 2) % 2 ^ 14 ≠ t.length) := by
    simp only [hop, hdata, hlen]
    omega
  have hhead : ∀ k < 48, (t.data.take 48).getD k 0 = t.data.getD k 0 := fun k hk => by
    simp [List.getD_eq_getElem?_getD, hk]
  have htrail : (t.data.drop (48 + t.length)).getD 0 0 = 0 := by
    rwa [List.getD_eq_getElem?_getD, List.getElem?_drop, Nat.add_zero, ← List.getD_eq_getElem?_getD]
  have hwhole : ¬((((t.data.drop (48 + t.length)).getD 0 0).toNat ≠ 0) ∧ (!s.clear.cutThrough (2 + n) 4) = true ∧
      (!s.clear.cutThrough (2 + n) 5) = true) := by
    rw [htrail]
    simp
  have hsrc : ((t.data.take 48).getD 1 0).toNat = (t.data.getD 1 0).toNat := by rw [hhead 1 (by decide)]
  refine does_of_eq (f := fun d => d.itmFrame n t) (by unfold exec; rfl)
    ((if_neg (itmFrame_gate hup hsilent)).trans ((if_neg hform).trans (if_neg hwhole))) ?_
  dsimp only
  rw [hhead 0 (by decide)]
  rcases hkind with hkind | hkind
  · rw [hkind]
    exact Dev.enterFrame_entered rfl _ _ _ _ _ _ ⟨rfl, rfl, rfl, hsrc, rfl⟩
  · rw [hkind]
    exact Dev.enterFrame_entered rfl _ _ _ _ _ _ ⟨rfl, rfl, rfl, hsrc, rfl⟩

end

/-- Settles O44, an ingress at a time. -/
theorem framesReceived : Obligations.FramesReceived := by
  intro s ch r x l id enh i n t hInv _
  exact ⟨quiet_canFrameRx, does_canFrameRx hInv,
    fun hsilent hon hdata hlen => ⟨does_linFrameRx_ok hsilent hon hdata hlen hInv, does_linFrameRx_bad hsilent hon hdata hlen hInv⟩,
    fun hsilent hon hlink => ⟨does_ethFrameRx_ok hsilent hon hlink hInv, does_ethFrameRx_badFcs hsilent hon hlink hInv⟩,
    fun hup hsilent => ⟨does_itmFrame_wrongOp hup hsilent hInv, does_itmFrame_ok hup hsilent⟩⟩

end Sys2Proof.Machine
end

section
/-! O48, its first half: the transmit buffers of a CAN channel (R336–R338, R363, R450). -/
namespace Sys2Proof.Machine

theorem getD_modify_same {α : Type} {l : List α} {n : Nat} (h : n < l.length) (f : α → α) (x : α) : (l.modify n f).getD n x = f (l.getD n x) := by
  simp [List.getD_eq_getElem?_getD, h]

theorem Dev.canCh_onCan {d : Dev} {ch : Nat} (h : ch < d.can.length) (f : CanCh → CanCh) : (d.onCan ch f).canCh ch = f (d.canCh ch) :=
  getD_modify_same h f {}

section
variable {s : State} {ch : Fin 64} (hInv : Inv s) (hlen : s.dev.can.length = 64)

theorem quiet_canEgress {xid : Nat} (h : s.dev.xferAt xid ch = none) : Quiet (.canEgress xid ch) s := by
  have h' : s.clear.xferAt xid ch = none := h
  refine does_act _ (by unfold exec; rfl) ?_
  simp only [h']

/-! ### Taking a frame -/

section
variable {xid : Nat} {y : Xfer} (hy : s.dev.xferAt xid ch = some y)
include hy

theorem exec_canEgress : ∃ f, exec (.canEgress xid ch) s = s.act f ∧ f s.clear = (s.clear.xferTaken xid ch).canTake ch y.frame := by
  have hy' : s.clear.xferAt xid ch = some y := hy
  refine ⟨_, by unfold exec; rfl, ?_⟩
  simp only [hy']

include hInv in
theorem does_canEgress_busOff (hbus : (s.dev.canCh ch).busOff = true) :
    Does (.canEgress xid ch) s (fun d => d.counts s.dev (canReg Reg.pavCanTxDrop ch) ∧ d.can = s.dev.can) := by
  obtain ⟨f, hexec, hf⟩ := exec_canEgress hy
  have hbus' : ((s.clear.xferTaken xid ch).can.getD ch {}).busOff = true := hbus
  have hdrop : (s.clear.xferTaken xid ch).canTake ch y.frame = (s.clear.xferTaken xid ch).bump (canReg Reg.pavCanTxDrop ch) := by
    unfold Dev.canTake
    split
    · exact if_pos (by simp only [hbus', Bool.true_or])
    · rfl
  exact does_of_eq hexec (hf.trans hdrop) ⟨Dev.onlyReg_of_bump hInv.regs rfl rfl, rfl⟩

include hlen in
theorem does_canEgress_taken {b : Nat} (hb : s.dev.freeBuf ch = some b) (hbus : (s.dev.canCh ch).busOff = false)
    (hon : s.dev.flag (canReg Reg.pavCanCtl ch) 0 = true) (hsend : s.dev.canSendable ch y.frame = true)
    (hpool : poolBlocks y.frame.data.length ≤ s.dev.poolFree (ch / 8)) : Does (.canEgress xid ch) s (fun d =>
      (b, ({ frame := y.frame } : CanBuf)) ∈ (d.canCh ch).bufs ∧ (∀ z ∈ (s.dev.canCh ch).bufs, z ∈ (d.canCh ch).bufs) ∧ d.sameStores s.dev) := by
  obtain ⟨f, hexec, hf⟩ := exec_canEgress hy
  have hb' : (s.clear.xferTaken xid ch).freeBuf ch = some b := hb
  have hgate : ¬(((s.clear.xferTaken xid ch).can.getD ch {}).busOff || !(s.clear.xferTaken xid ch).flag (canReg Reg.pavCanCtl ch) 0 ||
      !(s.clear.xferTaken xid ch).canSendable ch y.frame ||
      decide ((s.clear.xferTaken xid ch).poolFree (ch / 8) < poolBlocks y.frame.data.length)) = true := by
    rw [show ((s.clear.xferTaken xid ch).can.getD ch {}).busOff = false from hbus,
      show (s.clear.xferTaken xid ch).flag (canReg Reg.pavCanCtl ch) 0 = true from hon,
      show (s.clear.xferTaken xid ch).canSendable ch y.frame = true from hsend,
      decide_eq_false (show ¬(s.clear.xferTaken xid ch).poolFree (ch / 8) < poolBlocks y.frame.data.length from Nat.not_lt.mpr hpool)]
    decide
  have hfree : ∀ z ∈ (s.dev.canCh ch).bufs, z.1 ≠ b := fun z hz hzb => by
    have hp := List.find?_some hb
    simp only [Bool.and_eq_true, Bool.not_eq_true', List.any_eq_false, beq_iff_eq] at hp
    exact hp.2 z hz hzb
  have htake : (s.clear.xferTaken xid ch).canTake ch y.frame = (s.clear.xferTaken xid ch).onCan ch fun c =>
      { c with bufs := c.bufs.filter (fun x => x.1 < b) ++ (b, { frame := y.frame }) :: c.bufs.filter fun x => b < x.1 } := by
    simp only [Dev.canTake, hb']
    exact if_neg hgate
  refine does_of_eq hexec (hf.trans htake) ?_
  have hch : (ch : Nat) < (s.clear.xferTaken xid ch).can.length := by
    rw [show (s.clear.xferTaken xid ch).can.length = 64 from hlen]
    exact ch.isLt
  rw [Dev.canCh_onCan hch]
  refine ⟨List.mem_append_right _ (List.mem_cons_self ..), fun z hz => ?_, rfl, rfl⟩
  rcases Nat.lt_or_gt_of_ne (hfree z hz) with hlt | hgt
  · exact List.mem_append_left _ (List.mem_filter.mpr ⟨hz, decide_eq_true hlt⟩)
  · exact List.mem_append_right _ (List.mem_cons_of_mem _ (List.mem_filter.mpr ⟨hz, decide_eq_true hgt⟩))

end

/-! ### Sending -/

theorem quiet_canIdle (h : s.dev.canActive ch = false) : Quiet (.canTransmit ch) s ∧ Quiet (.canTxDone ch) s := by
  have h' : s.clear.canActive ch = false := h
  constructor
  · refine does_act _ (by unfold exec; rfl) ?_
    simp only [h', Bool.false_eq_true, if_false]
  · refine does_act _ (by unfold exec; rfl) ?_
    simp only [h', Bool.false_eq_true, if_false]

/-- The frame that would win the bus is offered, where it is not too old (R336). -/
theorem Dev.canChoose_of_young {d : Dev} {ch b : Nat} {x : CanBuf} (hwin : winner (d.can.getD ch {}).bufs = some (b, x))
    (hyoung : d.tooOld x.frame.ts x.frame.maxAge = false) (n : Nat) : d.canChoose ch (n + 1) = d.onCan ch fun c => { c with offer := some b } := by
  simp only [Dev.canChoose, hwin, hyoung, Bool.false_eq_true, if_false]

section
variable (hactive : s.dev.canActive ch = true)
include hactive hlen

theorem does_canTransmit {b : Nat} {x : CanBuf} (hwin : winner (s.dev.canCh ch).bufs = some (b, x))
    (hyoung : s.dev.tooOld x.frame.ts x.frame.maxAge = false) : Does (.canTransmit ch) s (fun d =>
      (d.canCh ch).offer = some b ∧ (d.canCh ch).bufs = (s.dev.canCh ch).bufs ∧ d.sameStores s.dev) := by
  have hactive' : s.clear.canActive ch = true := hactive
  have hwin' : winner (s.clear.can.getD ch {}).bufs = some (b, x) := hwin
  have hyoung' : s.clear.tooOld x.frame.ts x.frame.maxAge = false := hyoung
  have hch : (ch : Nat) < s.clear.can.length := by rw [State.clear_can, hlen]; exact ch.isLt
  refine does_act _ (by unfold exec; rfl) ?_
  rw [hactive', if_pos rfl, Dev.canChoose_of_young hwin' hyoung', Dev.canCh_onCan hch]
  exact ⟨rfl, rfl, rfl, rfl⟩

include hInv in
theorem does_canTxDone {b : Nat} {x : CanBuf} (hoffer : (s.dev.canCh ch).offer = some b)
    (hbuf : ((s.dev.canCh ch).bufs.find? fun y => y.1 == b) = some (b, x)) (htimed : s.dev.timedBuf ch b = false) :
    Does (.canTxDone ch) s (fun d => .can ch x.frame.fmeta x.frame.data ∈ d.out ∧ d.counts s.dev (canReg Reg.pavCanTxOk ch) ∧
      (d.canCh ch).offer = none ∧ (d.canCh ch).bufs = (s.dev.canCh ch).bufs.filter (fun y => y.1 != b) ∧
      (d.canCh ch).txErr = (s.dev.canCh ch).txErr - 1) := by
  have hactive' : s.clear.canActive ch = true := hactive
  have hfound : ((s.clear.can.getD ch {}).offer.bind fun b => (s.clear.can.getD ch {}).bufs.find? fun y => y.1 == b) = some (b, x) := by
    rw [show (s.clear.can.getD ch {}).offer = some b from hoffer]
    exact hbuf
  have htimed' : s.clear.timedBuf ch b = false := htimed
  have hch : (ch : Nat) < s.clear.can.length := by rw [State.clear_can, hlen]; exact ch.isLt
  let emptied := s.clear.onCan ch fun c => { c with bufs := (s.clear.can.getD ch {}).bufs.filter fun y => y.1 != b, offer := none }
  refine does_act _ (by unfold exec; rfl) ?_
  simp only [hactive', if_true, Dev.canSent, hfound, htimed', Bool.false_and, Bool.false_eq_true, if_false]
  have hcan : (((emptied.bump (canReg Reg.pavCanTxOk ch)).errDown ch true).emit (.can ch x.frame.fmeta x.frame.data)).canCh ch =
      { s.clear.canCh ch with bufs := (s.clear.canCh ch).bufs.filter fun y => y.1 != b, offer := none, txErr := (s.clear.canCh ch).txErr - 1 } := by
    have h1 := Dev.canCh_onCan (d := emptied.bump (canReg Reg.pavCanTxOk ch)) (by simpa [emptied, Dev.onCan, Dev.bump, Dev.wr] using hch)
      fun c => { c with txErr := c.txErr - 1 }
    have h2 : (emptied.bump (canReg Reg.pavCanTxOk ch)).canCh ch = _ := Dev.canCh_onCan hch _
    rw [h2] at h1
    exact h1
  refine ⟨List.mem_append_right _ (List.mem_singleton_self _), Dev.onlyReg_of_bump hInv.regs rfl rfl, ?_⟩
  rw [hcan]
  exact ⟨rfl, rfl, rfl⟩

end

/-! ### The bus -/

section
variable (hon : s.dev.flag (canReg Reg.pavCanCtl ch) 0 = true) (hbus : (s.dev.canCh ch).busOff = false)

section
include hon hbus hlen

include hInv in
theorem does_canBusOff : Does (.canBusOff ch) s (fun d => (d.canCh ch).busOff = true ∧ (d.canCh ch).offer = none ∧
    d.rd (canReg Reg.pavCanBusOffCount ch) = s.dev.rd (canReg Reg.pavCanBusOffCount ch) + 1 ∧
    ∀ z ∈ (d.canCh ch).bufs, s.dev.timedBuf ch z.1 = true) := by
  have hgate : s.clear.flag (canReg Reg.pavCanCtl ch) 0 = true ∧ (!(s.clear.can.getD ch {}).busOff) = true :=
    ⟨hon, by rw [show (s.clear.can.getD ch {}).busOff = false from hbus]; rfl⟩
  have hch : (ch : Nat) < s.clear.can.length := by rw [State.clear_can, hlen]; exact ch.isLt
  refine does_of_eq (e := s.clear.canBusOff ch) (by unfold exec; rfl) (if_pos hgate) ?_
  have hcan : (s.clear.canBusOff ch).canCh ch = { s.clear.canCh ch with
      busOff := true, sync := false, offer := none
      bufs := (s.clear.canCh ch).bufs.filter fun x => (s.clear.rd (canReg Reg.pavCanTxtimed ch)).getLsbD x.1 } := Dev.canCh_onCan hch _
  rw [hcan]
  refine ⟨rfl, rfl, ?_, fun z hz => (List.mem_filter.mp hz).2⟩
  have hne : canReg Reg.pavCanBusOffCount ch ≠ canReg Reg.pavCanTxDrop ch := by
    simp only [canReg, Reg.pavCanBusOffCount, Reg.pavCanTxDrop]
    omega
  have hdrop : Dev.RegsKept (· ≠ canReg Reg.pavCanTxDrop ch) s.dev
      ((s.clear.onCan ch fun c => { c with busOff := true, sync := false, offer := none, bufs := c.bufs.filter fun x =>
        (s.clear.rd (canReg Reg.pavCanTxtimed ch)).getLsbD x.1 }).bump (canReg Reg.pavCanTxDrop ch) (s.clear.untimed ch).length) :=
    Dev.RegsKept.bump (.step (.refl hInv.regs)) (by simp) _
  rw [← hdrop.rd _ hne]
  exact (Dev.bump_counts hdrop.wf _).1

include hInv in
theorem does_canBusError (tx eight : Bool) : Does (.canBusError ch tx eight) s (fun d => d.counts s.dev (canReg Reg.pavCanBusErr ch) ∧
    (d.canCh ch).txErr = (if tx then min 255 ((s.dev.canCh ch).txErr + if eight then 8 else 1) else (s.dev.canCh ch).txErr) ∧
    (d.canCh ch).rxErr = if tx then (s.dev.canCh ch).rxErr else min 255 ((s.dev.canCh ch).rxErr + if eight then 8 else 1)) := by
  have hgate : s.clear.flag (canReg Reg.pavCanCtl ch) 0 = true ∧ (!(s.clear.can.getD ch {}).busOff) = true :=
    ⟨hon, by rw [show (s.clear.can.getD ch {}).busOff = false from hbus]; rfl⟩
  have hch : (ch : Nat) < s.clear.can.length := by rw [State.clear_can, hlen]; exact ch.isLt
  refine does_of_eq (e := s.clear.canErr ch tx eight) (by unfold exec; rfl) (if_pos hgate) ⟨Dev.onlyReg_of_bump hInv.regs rfl rfl, ?_⟩
  have hcan : (s.clear.canErr ch tx eight).canCh ch = _ := Dev.canCh_onCan hch _
  rw [hcan]
  cases tx <;> exact ⟨rfl, rfl⟩

theorem does_canBusIntegration : Does (.canBusIntegration ch) s (fun d => (d.canCh ch).sync = true ∧ (d.canCh ch).bufs = (s.dev.canCh ch).bufs ∧
    d.sameStores s.dev) := by
  have hgate : s.clear.flag (canReg Reg.pavCanCtl ch) 0 = true ∧ (!(s.clear.can.getD ch {}).busOff) = true :=
    ⟨hon, by rw [show (s.clear.can.getD ch {}).busOff = false from hbus]; rfl⟩
  have hch : (ch : Nat) < s.clear.can.length := by rw [State.clear_can, hlen]; exact ch.isLt
  refine does_of_eq (e := s.clear.onCan ch fun c => { c with sync := true }) (by unfold exec; rfl) (if_pos hgate) ?_
  rw [Dev.canCh_onCan hch]
  exact ⟨rfl, rfl, rfl, rfl⟩

end

end

include hlen in
theorem does_canBusRecovery (hauto : s.dev.flag (canReg Reg.pavCanCtl ch) 4 = true) (hbus : (s.dev.canCh ch).busOff = true) :
    Does (.canBusRecovery ch) s (fun d => (d.canCh ch).busOff = false ∧ (d.canCh ch).txErr = 0 ∧ (d.canCh ch).rxErr = 0 ∧ (d.canCh ch).sync = true ∧
      d.sameStores s.dev) := by
  have hgate : s.clear.flag (canReg Reg.pavCanCtl ch) 4 = true ∧ (s.clear.can.getD ch {}).busOff = true := ⟨hauto, hbus⟩
  have hch : (ch : Nat) < s.clear.can.length := by rw [State.clear_can, hlen]; exact ch.isLt
  refine does_of_eq (e := s.clear.canReturn ch) (by unfold exec; rfl) (if_pos hgate) ?_
  rw [Dev.canReturn, Dev.canCh_onCan hch]
  exact ⟨rfl, rfl, rfl, rfl, rfl, rfl⟩

theorem quiet_canBusRecovery (hauto : s.dev.flag (canReg Reg.pavCanCtl ch) 4 = false) : Quiet (.canBusRecovery ch) s := by
  refine does_act _ (by unfold exec; rfl) ?_
  simp [hauto]

/-! ### Timed buffers -/

theorem canRecordBytes_length (r : CanRecord) : (canRecordBytes r).length = 12 := by simp [canRecordBytes, leBytes_length]

theorem b2n_le_one (b : Bool) : b2n b ≤ 1 := by cases b <;> decide

/-- The header of the staging area that holds a record of a classic or an FD frame and a length the format allows passes the checks of a load
(R337). -/
theorem stagedHeader_clean {r : CanRecord} {n : Nat} (hfmt : r.fmt.val < 2) (hlen : canLenOk r.fmt.val n = true) :
    let h := canRecordBytes r ++ leBytes 4 n
    n ≤ 64 ∧ leNat (h.drop 14) = 0 ∧ (h.getD 4 0).toNat % 4 = r.fmt.val ∧ leNat (h.take 4) < 2 ^ 31 ∧ bitsOf (leNat (h.drop 4)) 5 3 = 0 ∧
      h.getD 7 0 = 0 ∧ leNat ((h.drop 12).take 2) = n := by
  intro h
  have hn : n ≤ 64 := by
    have hcases : r.fmt.val = 0 ∨ r.fmt.val = 1 := by omega
    rcases hcases with hr | hr
    · rw [hr] at hlen
      have : n ≤ 8 := of_decide_eq_true hlen
      omega
    · rw [hr] at hlen
      simp only [canLenOk, Bool.or_eq_true, decide_eq_true_eq, List.contains_eq_mem, List.mem_cons, List.not_mem_nil, or_false] at hlen
      omega
  have hid : r.id.toNat + 2 ^ 29 * b2n r.ide + 2 ^ 30 * b2n r.rtr < 2 ^ 31 := by
    have := r.id.isLt
    have := b2n_le_one r.ide
    have := b2n_le_one r.rtr
    omega
  have hflags : r.fmt.val + 4 * b2n r.brs + 8 * b2n r.esi + 16 * b2n r.sec < 32 ∧
      (r.fmt.val + 4 * b2n r.brs + 8 * b2n r.esi + 16 * b2n r.sec) % 4 = r.fmt.val := by
    have := b2n_le_one r.brs
    have := b2n_le_one r.esi
    have := b2n_le_one r.sec
    omega
  unfold h
  rw [canRecordBytes]
  generalize r.id.toNat + 2 ^ 29 * b2n r.ide + 2 ^ 30 * b2n r.rtr = v at hid
  generalize r.fmt.val + 4 * b2n r.brs + 8 * b2n r.esi + 16 * b2n r.sec = w at hflags
  generalize r.af.toNat = af
  simp [leBytes, leNat, bitsOf]
  omega

include hInv in
theorem does_txload_untimed {b : Fin 32} (h : s.dev.timedBuf ch b = false) :
    Does (.txload ch b) s (fun d => d.counts s.dev Reg.sysAccessReject ∧ d.can = s.dev.can) := by
  have hgate : ∀ p : Prop, ¬(s.clear.timedBuf ch b = true ∧ p) := fun p hc => by
    rw [show s.clear.timedBuf ch b = false from h] at hc
    exact absurd hc.1 (by decide)
  exact does_of_eq (f := fun d => d.txLoad ch b) (by unfold exec; rfl) (if_neg (hgate _)) ⟨Dev.onlyReg_of_bump hInv.regs rfl rfl, rfl⟩

include hlen in
theorem does_txload_timed {b : Fin 32} {r : CanRecord} {bs : List Byte} (htimed : s.dev.timedBuf ch b = true) (hfmt : r.fmt.val < 2)
    (hok : canLenOk r.fmt.val bs.length = true) (hhead : s.dev.blockBytes (stageReg ch) 16 = canRecordBytes r ++ leBytes 4 bs.length)
    (hbody : s.dev.blockBytes (stageReg ch + 16) bs.length = bs) : Does (.txload ch b) s (fun d => d.sameStores s.dev ∧
      ∃ x, (b.val, x) ∈ (d.canCh ch).bufs ∧ x.pending = false ∧ x.frame.data = bs ∧ x.frame.fmeta = canRecordBytes r) := by
  obtain ⟨hn, hpad, hcode, hid, hflags, hzero, hcount⟩ := stagedHeader_clean hfmt hok
  have hhead' : s.clear.blockBytes (stageReg ch) 16 = canRecordBytes r ++ leBytes 4 bs.length := hhead
  have hmeta : (canRecordBytes r ++ leBytes 4 bs.length).take 12 = canRecordBytes r := by
    rw [← canRecordBytes_length r, List.take_left]
  have hmin : min bs.length 2048 = bs.length := by omega
  have hbody' : s.clear.blockBytes (stageReg ch + 16) bs.length = bs := hbody
  have htimed' : s.clear.timedBuf ch b = true := htimed
  have hch : (ch : Nat) < s.clear.can.length := by rw [State.clear_can, hlen]; exact ch.isLt
  let f : Frame := { kind := 1, src := 0x7F, fmeta := canRecordBytes r, data := bs, orig := s.clear.devid }
  have hcanFmt : f.canFmt = r.fmt.val := by
    rw [← hcode, List.getD_append _ _ _ _ (by rw [canRecordBytes_length]; decide)]
    rfl
  have heffect : s.clear.txLoad ch b = s.clear.loadTimed ch b f := by
    simp only [Dev.txLoad, hhead', hmeta, hcount, hmin, hbody']
    refine if_pos ⟨htimed', ?_, hpad, ?_, hid, hflags, hzero⟩
    · rw [show Frame.canFmt _ = r.fmt.val from hcanFmt]
      exact hok
    · rw [show Frame.canFmt _ = r.fmt.val from hcanFmt]
      omega
  refine does_of_eq (f := fun d => d.txLoad ch b) (by unfold exec; rfl) heffect ⟨⟨rfl, rfl⟩, ?_⟩
  rw [Dev.loadTimed, Dev.canCh_onCan hch]
  exact ⟨_, List.mem_append_right _ (List.mem_cons_self ..), rfl, rfl, rfl⟩

end

theorem canTransmission : Claims.CanTransmission := by
  intro s ch b tx eight xid hInv hlen
  exact ⟨quiet_canEgress, fun y hy => ⟨does_canEgress_busOff hInv hy, fun f hb hbus hon hsend hpool => does_canEgress_taken hlen hy hb hbus hon hsend hpool⟩,
    quiet_canIdle, fun hactive => ⟨fun f x hwin hyoung => does_canTransmit hlen hactive hwin hyoung,
      fun f x hoffer hbuf htimed => does_canTxDone hInv hlen hactive hoffer hbuf htimed⟩,
    fun hon hbus => ⟨does_canBusOff hInv hlen hon hbus, does_canBusError hInv hlen hon hbus tx eight, does_canBusIntegration hlen hon hbus⟩,
    does_canBusRecovery hlen, quiet_canBusRecovery, does_txload_untimed hInv,
    fun r bs htimed hfmt hok hhead hbody => does_txload_timed hlen htimed hfmt hok hhead hbody⟩

end Sys2Proof.Machine
end

section
/-! O48, its second half: the response tables and schedules of a LIN channel (R340, R363). -/
namespace Sys2Proof.Machine

theorem Dev.lin_onLin {d : Dev} {l : Nat} (h : l < d.lin.length) (f : LinCh → LinCh) : (d.onLin l f).lin.getD l {} = f (d.lin.getD l {}) :=
  getD_modify_same h f {}

section
variable {s : State} {l : Fin 32} {id : Fin 64} (hInv : Inv s) (hlen : s.dev.lin.length = 32)

theorem quiet_linEgress {xid : Nat} (h : s.dev.xferAt xid (64 + l) = none) : Quiet (.linEgress xid l) s := by
  have h' : s.clear.xferAt xid (64 + l) = none := h
  refine does_act _ (by unfold exec; rfl) ?_
  simp only [h']

/-! ### The response table -/

/-- What a word of a register says of its low byte: length, checksum model, publishing and validity of a response-table entry (R363). -/
theorem Dev.linFlags {d : Dev} {off n c p : Nat} (hn : n < 16) (hc : c < 2) (hp : p < 2) (h : d.fld off 0 8 = n + 16 * c + 32 * p + 64) :
    d.fld off 0 4 = n ∧ d.flag off 6 = true ∧ d.fld off 5 1 = p := by
  simp only [Dev.flag, Dev.fld, fieldOf, bitsOf, beq_iff_eq] at h ⊢
  omega

/-- A register of the response table is not one of the entry's other words. -/
theorem linEntry_inj (l id : Nat) {w w' : Nat} (h : w ≠ w') : linEntry l id w ≠ linEntry l id w' := by
  unfold linEntry
  omega

theorem Dev.linTake_of_linFrame (d : Dev) (l : Nat) {f : Frame} {id : Nat} (hkind : f.kind = 2) (hmin : 1 ≤ f.data.length) (hmax : f.data.length ≤ 8)
    (hid : (f.fmeta.getD 0 0).toNat % 64 = id) : d.linTake l f =
      ((d.wr (linEntry l id 0) (BitVec.ofNat 32 (leNat f.data))).wr (linEntry l id 1) (BitVec.ofNat 32 (leNat f.data / 2 ^ 32))).setFld
        (linEntry l id 2) 0 8 (f.data.length + 16 * ((f.fmeta.getD 0 0).toNat / 64 % 2) + 32 * d.fld (linEntry l id 2) 5 1 + 64) := by
  have hgate : ¬(f.kind ≠ 2 ∨ f.data = [] ∨ 8 < f.data.length) := by
    rintro (h | h | h)
    · exact h hkind
    · rw [h] at hmin
      exact absurd hmin (by decide)
    · omega
  subst hid
  exact if_neg hgate

include hInv in
theorem does_linEgress {xid : Nat} {y : Xfer} (hy : s.dev.xferAt xid (64 + l) = some y) (hkind : y.frame.kind = 2) (hmin : 1 ≤ y.frame.data.length)
    (hmax : y.frame.data.length ≤ 8) (hid : (y.frame.fmeta.getD 0 0).toNat % 64 = id.val) : Does (.linEgress xid l) s (fun d =>
      d.rd64 (linEntry l id 0) = leNat y.frame.data ∧ d.fld (linEntry l id 2) 0 4 = y.frame.data.length ∧ d.flag (linEntry l id 2) 6 = true ∧
      d.flag (linEntry l id 2) 5 = s.dev.flag (linEntry l id 2) 5 ∧ d.mem = s.dev.mem) := by
  have hy' : s.clear.xferAt xid (64 + l) = some y := hy
  let e := s.clear.xferTaken xid (64 + l)
  have hw : cellsWf e.regs = true := hInv.regs
  have hpub : e.fld (linEntry l id 2) 5 1 = s.dev.fld (linEntry l id 2) 5 1 := rfl
  have hval : leNat y.frame.data < 2 ^ 64 := by
    calc leNat y.frame.data < 256 ^ y.frame.data.length := leNat_lt _
      _ ≤ 256 ^ 8 := Nat.pow_le_pow_right (by decide) hmax
      _ = 2 ^ 64 := by decide
  refine does_of_eq (e := e.linTake l y.frame) (by unfold exec; rfl) (by simp only [hy']; rfl) ?_
  rw [Dev.linTake_of_linFrame e l hkind hmin hmax hid, hpub]
  generalize hlo : e.wr (linEntry l id 0) (BitVec.ofNat 32 (leNat y.frame.data)) = e1
  generalize hhi : e1.wr (linEntry l id 1) (BitVec.ofNat 32 (leNat y.frame.data / 2 ^ 32)) = e2
  have hw1 : cellsWf e1.regs = true := hlo ▸ Dev.wr_wf hw _ _
  have hw2 : cellsWf e2.regs = true := hhi ▸ Dev.wr_wf hw1 _ _
  have hp : s.dev.fld (linEntry l id 2) 5 1 < 2 := Nat.mod_lt _ (by decide)
  have hflags := Dev.linFlags (d := e2.setFld (linEntry l id 2) 0 8 (y.frame.data.length + 16 * ((y.frame.fmeta.getD 0 0).toNat / 64 % 2) +
    32 * s.dev.fld (linEntry l id 2) 5 1 + 64)) (off := linEntry l id 2) (n := y.frame.data.length) (c := (y.frame.fmeta.getD 0 0).toNat / 64 % 2)
    (p := s.dev.fld (linEntry l id 2) 5 1) (by omega) (by omega) hp (by
      rw [Dev.fld_setFld_same hw2 (by decide)]
      exact Nat.mod_eq_of_lt (by omega))
  obtain ⟨hlength, hvalid, hkept⟩ := hflags
  refine ⟨?_, hlength, hvalid, by rw [Dev.flag, hkept, Dev.flag], ?_⟩
  · have hword0 : ∀ x, (e2.setFld (linEntry l id 2) 0 8 x).rd (linEntry l id 0) = BitVec.ofNat 32 (leNat y.frame.data) := fun x => by
      rw [Dev.rd_setFld hw2, if_neg (linEntry_inj _ _ (by decide)), ← hhi, Dev.rd_wr_ne hw1 _ (linEntry_inj _ _ (by decide)), ← hlo,
        Dev.rd_wr_same hw]
    have hword1 : ∀ x, (e2.setFld (linEntry l id 2) 0 8 x).rd (linEntry l id 0 + 4) = BitVec.ofNat 32 (leNat y.frame.data / 2 ^ 32) := fun x => by
      rw [show linEntry l id 0 + 4 = linEntry l id 1 from rfl, Dev.rd_setFld hw2, if_neg (linEntry_inj _ _ (by decide)), ← hhi,
        Dev.rd_wr_same hw1]
    rw [Dev.rd64, hword0, hword1, BitVec.toNat_ofNat, BitVec.toNat_ofNat]
    omega
  · rw [← hhi, ← hlo]
    rfl

/-! ### Headers -/

theorem silent_of_live (h : s.dev.live = true) : s.dev.silent = false := by
  simp only [Dev.live, Bool.and_eq_true, Bool.not_eq_true'] at h
  exact h.1

/-- The answer to a header stands beside the place in the schedule. -/
theorem Dev.linAnswer_place (d : Dev) (l id : Nat) :
    ((d.linAnswer l id).lin.getD l {}).active = (d.lin.getD l {}).active ∧ ((d.linAnswer l id).lin.getD l {}).pos = (d.lin.getD l {}).pos ∧
      ∀ e ∈ d.out, e ∈ (d.linAnswer l id).out := by
  have hplace : ∀ f : LinCh → LinCh, (∀ c, (f c).active = c.active ∧ (f c).pos = c.pos) →
      ((d.onLin l f).lin.getD l {}).active = (d.lin.getD l {}).active ∧ ((d.onLin l f).lin.getD l {}).pos = (d.lin.getD l {}).pos := fun f hf =>
    ⟨getD_modify_keeps LinCh.active d.lin l l f {} fun c => (hf c).1, getD_modify_keeps LinCh.pos d.lin l l f {} fun c => (hf c).2⟩
  unfold Dev.linAnswer
  split
  · obtain ⟨hactive, hpos⟩ := hplace (fun x => { x with header := none }) fun _ => ⟨rfl, rfl⟩
    exact ⟨hactive, hpos, fun e he => List.mem_append_left _ he⟩
  · obtain ⟨hactive, hpos⟩ := hplace (fun x => { x with header := some id }) fun _ => ⟨rfl, rfl⟩
    exact ⟨hactive, hpos, fun e he => he⟩

section
variable (hlive : s.dev.live = true) (hon : s.dev.flag (linReg Reg.pavLinCtl l) 0 = true)
include hlive hon

section
variable (hslave : s.dev.flag (linReg Reg.pavLinCtl l) 1 = false)
include hslave

theorem linHeaderRx_gate : (!s.clear.silent && s.clear.flag (linReg Reg.pavLinCtl l) 0 && !s.clear.flag (linReg Reg.pavLinCtl l) 1) = true := by
  rw [show s.clear.silent = false from silent_of_live hlive, State.clear_flag, hon, State.clear_flag, hslave]
  decide

include hInv hlen in
theorem does_linHeaderRx_answered {e : Bool} {data : List Byte} (h : s.dev.linResponse l id = some (e, data)) : Does (.linHeaderRx l id) s (fun d =>
    .linResponse l id e data ∈ d.out ∧ d.counts s.dev (linReg Reg.pavLinTxOk l) ∧ (d.lin.getD l {}).header = none) := by
  have hlive' : s.clear.live = true := hlive
  have h' : s.clear.linResponse l id = some (e, data) := h
  have hl : (l : Nat) < s.clear.lin.length := by rw [State.clear_lin, hlen]; exact l.isLt
  have hanswer : s.clear.linAnswer l id =
      ((s.clear.onLin l fun x => { x with header := none }).bump (linReg Reg.pavLinTxOk l)).emit (.linResponse l id e data) := by
    simp only [Dev.linAnswer, hlive', if_true, h']
  refine does_of_eq (by unfold exec; rfl) ((if_pos (linHeaderRx_gate hlive hon hslave)).trans hanswer)
    ⟨List.mem_append_right _ (List.mem_singleton_self _), Dev.onlyReg_of_bump hInv.regs rfl rfl, ?_⟩
  exact congrArg LinCh.header (Dev.lin_onLin hl fun x => { x with header := none })

include hlen in
theorem does_linHeaderRx_waits (h : s.dev.linResponse l id = none) : Does (.linHeaderRx l id) s (fun d =>
    (d.lin.getD l {}).header = some id.val ∧ d.sameStores s.dev) := by
  have hlive' : s.clear.live = true := hlive
  have h' : s.clear.linResponse l id = none := h
  have hl : (l : Nat) < s.clear.lin.length := by rw [State.clear_lin, hlen]; exact l.isLt
  have hanswer : s.clear.linAnswer l id = s.clear.onLin l fun x => { x with header := some id.val } := by
    simp only [Dev.linAnswer, hlive', if_true, h']
  refine does_of_eq (by unfold exec; rfl) ((if_pos (linHeaderRx_gate hlive hon hslave)).trans hanswer) ⟨?_, rfl, rfl⟩
  exact congrArg LinCh.header (Dev.lin_onLin hl fun x => { x with header := some id.val })

end

include hlen in
theorem does_linScheduleEntry (hmaster : s.dev.flag (linReg Reg.pavLinCtl l) 1 = true) (hrun : s.dev.flag (linReg Reg.pavLinCtl l) 2 = true) :
    let pos := if (s.dev.lin.getD l {}).active then ((s.dev.lin.getD l {}).pos + 1) % s.dev.linLen l else 0
    Does (.linScheduleEntry l) s (fun d => (d.lin.getD l {}).active = true ∧ (d.lin.getD l {}).pos = pos ∧
      .linHeader l (s.dev.fld (linMem l + 8 * pos) 0 6) ∈ d.out) := by
  intro pos
  have hgate : ¬(!(s.clear.live && s.clear.flag (linReg Reg.pavLinCtl l) 0 && s.clear.flag (linReg Reg.pavLinCtl l) 1 &&
      s.clear.flag (linReg Reg.pavLinCtl l) 2)) = true := by
    rw [show s.clear.live = true from hlive, State.clear_flag, hon, State.clear_flag, hmaster, State.clear_flag, hrun]
    decide
  have hl : (l : Nat) < s.clear.lin.length := by rw [State.clear_lin, hlen]; exact l.isLt
  let header := (s.clear.onLin l fun x => { x with active := true, pos := pos }).emit (.linHeader l (s.dev.fld (linMem l + 8 * pos) 0 6))
  have hheader : header.lin.getD l {} = { s.clear.lin.getD l {} with active := true, pos := pos } := Dev.lin_onLin hl _
  obtain ⟨hactive, hpos, hout⟩ := header.linAnswer_place l (s.dev.fld (linMem l + 8 * pos) 0 6)
  rw [hheader] at hactive hpos
  exact does_of_eq (f := fun d => d.linStep l) (by unfold exec; rfl) (if_neg hgate)
    ⟨hactive, hpos, hout _ (List.mem_append_right _ (List.mem_singleton_self _))⟩

end

/-! ### A stuck bus and a header without an answer -/

include hlen in
theorem does_linDomStuck (stuck : Bool) : Does (.linDomStuck l stuck) s (fun d => (d.lin.getD l {}).domStuck = stuck ∧ d.sameStores s.dev) := by
  have hl : (l : Nat) < s.clear.lin.length := by rw [State.clear_lin, hlen]; exact l.isLt
  refine does_act _ (by unfold exec; rfl) ⟨?_, rfl, rfl⟩
  exact congrArg LinCh.domStuck (Dev.lin_onLin hl fun x => { x with domStuck := stuck })

include hInv hlen in
theorem does_linNoResponse (h : (s.dev.lin.getD l {}).header.isSome = true) : Does (.linNoResponse l) s (fun d =>
    (d.lin.getD l {}).header = none ∧ d.counts s.dev (linReg Reg.pavLinNoResp l)) := by
  have hl : (l : Nat) < s.clear.lin.length := by rw [State.clear_lin, hlen]; exact l.isLt
  have h' : (s.clear.lin.getD l {}).header.isSome = true := h
  refine does_of_eq (e := (s.clear.onLin l fun x => { x with header := none }).bump (linReg Reg.pavLinNoResp l)) (by unfold exec; rfl) (if_pos h')
    ⟨?_, Dev.onlyReg_of_bump hInv.regs rfl rfl⟩
  exact congrArg LinCh.header (Dev.lin_onLin hl fun x => { x with header := none })

theorem quiet_linNoResponse (h : (s.dev.lin.getD l {}).header = none) : Quiet (.linNoResponse l) s := by
  have h' : ¬(s.clear.lin.getD l {}).header.isSome = true := by rw [State.clear_lin, h]; decide
  exact does_act _ (by unfold exec; rfl) (if_neg h')

end

theorem linChannels : Claims.LinChannels := by
  intro s l id xid stuck hInv hlen
  exact ⟨quiet_linEgress, fun y hy hkind hmin hmax hid => does_linEgress hInv hy hkind hmin hmax hid,
    fun hlive hon hslave => ⟨fun e data h => does_linHeaderRx_answered hInv hlen hlive hon hslave h, does_linHeaderRx_waits hlen hlive hon hslave⟩,
    does_linScheduleEntry hlen, does_linDomStuck hlen stuck, does_linNoResponse hInv hlen, quiet_linNoResponse⟩

/-- Settles O48, an operation of a channel at a time. -/
theorem fieldTransmission : Obligations.FieldTransmission := ⟨canTransmission, linChannels⟩

end Sys2Proof.Machine
end

section
/-! O49: the queues, gates and link of a MAC (R341, R343, R344) and the tunnels (R349). -/
namespace Sys2Proof.Machine

theorem Dev.mac_onMac {d : Dev} {i : Nat} (h : i < d.mac.length) (f : Mac → Mac) : (d.onMac i f).mac.getD i {} = f (d.mac.getD i {}) :=
  getD_modify_same h f {}

/-- Bringing the credits up to date leaves the queue. -/
theorem Dev.queue_creditNow (d : Dev) (i : Nat) : ((d.creditNow i).mac.getD i {}).queue = (d.mac.getD i {}).queue :=
  getD_modify_keeps Mac.queue d.mac i i _ {} fun _ => rfl

theorem Dev.mac_length_onMac (d : Dev) (i : Nat) (f : Mac → Mac) : (d.onMac i f).mac.length = d.mac.length := List.length_modify ..

theorem Dev.mac_length_creditNow (d : Dev) (i : Nat) : (d.creditNow i).mac.length = d.mac.length := d.mac_length_onMac i _

theorem Dev.ethTake_of_ethernet (d : Dev) (i : Nat) {f : Frame} (h : f.kind = 3) :
    d.ethTake i f = (d.creditNow i).onMac i fun m => { m with queue := m.queue ++ [(d.ethQueue i f, f)] } := if_neg fun hk => hk h

/-- An Ethernet frame joins the queue of its MAC (R343). -/
theorem Dev.queue_ethTake {d : Dev} {i : Nat} (hi : i < d.mac.length) {f : Frame} (h : f.kind = 3) :
    ((d.ethTake i f).mac.getD i {}).queue = (d.mac.getD i {}).queue ++ [(d.ethQueue i f, f)] := by
  rw [Dev.ethTake_of_ethernet d i h, Dev.mac_onMac (by rwa [Dev.mac_length_creditNow])]
  exact congrArg (· ++ _) (d.queue_creditNow i)

theorem Dev.ethTake_sameStores (d : Dev) (i : Nat) {f : Frame} (h : f.kind = 3) : (d.ethTake i f).sameStores d := by
  rw [Dev.ethTake_of_ethernet d i h]
  exact ⟨rfl, rfl⟩

section
variable {s : State} {i : Fin 14} (hInv : Inv s) (hlen : s.dev.mac.length = 15)

theorem mac_lt (hlen : s.dev.mac.length = 15) : (i : Nat) < s.clear.mac.length := by
  rw [State.clear_mac, hlen]
  omega

/-! ### Frames for a MAC -/

include hlen in
theorem does_ethEgress_xfer {xid : Nat} {y : Xfer} (hy : s.dev.xferAt xid (96 + i) = some y) (hsec : y.secured = none) (hkind : y.frame.kind = 3) :
    Does (.ethEgress (.xfer xid) i) s (fun d =>
      (d.mac.getD i {}).queue = (s.dev.mac.getD i {}).queue ++ [(s.dev.ethQueue i y.frame, y.frame)] ∧ d.sameStores s.dev) := by
  have hy' : s.clear.xferAt xid (96 + i) = some y := hy
  refine does_of_eq (e := (s.clear.xferTaken xid (96 + i)).ethTake i y.frame) (by unfold exec; rfl) (by simp [hy', hsec])
    ⟨Dev.queue_ethTake (d := s.clear.xferTaken xid (96 + i)) (mac_lt hlen) hkind, Dev.ethTake_sameStores _ i hkind⟩

include hlen in
theorem does_ethEgress_gptp (data : List Byte) : Does (.ethEgress (.gptp data) i) s (fun d =>
    ∃ q f, (d.mac.getD i {}).queue = (s.dev.mac.getD i {}).queue ++ [(q, f)] ∧ f.data = data ∧ d.sameStores s.dev) := by
  let f : Frame := { kind := 3, src := 0x7F, data := data, ts := s.clear.stamp, orig := s.clear.devid, gen := s.clear.generation }
  exact does_of_eq (e := s.clear.ethTake i f) (by unfold exec; rfl) rfl
    ⟨_, f, Dev.queue_ethTake (mac_lt hlen) rfl, rfl, Dev.ethTake_sameStores _ i rfl⟩

/-! ### Transmission -/

theorem quiet_ethTransmit (h : s.dev.ethReady i = false) : Quiet (.ethTransmit i) s := by
  have h' : ¬s.clear.ethReady i = true := by rw [show s.clear.ethReady i = false from h]; decide
  exact does_act _ (by unfold exec; rfl) (if_neg h')

/-- A transmit timestamp stands beside the MACs, the memory and every register but one. -/
theorem Dev.ptpStamp_keeps {d : Dev} (hw : cellsWf d.regs = true) (i : Nat) (data : List Byte) :
    (d.ptpStamp i data).mac = d.mac ∧ (d.ptpStamp i data).mem = d.mem ∧ Dev.RegsKept (· ≠ Reg.blvTxtsOvf) d (d.ptpStamp i data) := by
  unfold Dev.ptpStamp
  extract_lets e mt t
  split
  · split
    · exact ⟨rfl, rfl, Dev.RegsKept.bump (.refl hw) (by simp)⟩
    · exact ⟨rfl, rfl, .step (.refl hw)⟩
  · exact ⟨rfl, rfl, .refl hw⟩

/-- The frame a MAC has chosen leaves its queue (R343). -/
def Dev.dequeued (d : Dev) (i q : Nat) (f : Frame) : Dev := d.onMac i fun m => { m with queue := m.queue.erase (q, f) }

/-- The MAC is busy with a frame, which its shaper is charged for (R343, R345). -/
def Dev.started (d : Dev) (i q : Nat) (f : Frame) : Dev :=
  d.onMac i fun m => { m with
    busyTo := d.blv.vt + wireBits f.data * 1_000_000 / d.ethRate i
    shapers := m.shapers.modify q fun s => { s with credit := s.credit - (wireBits f.data * 1_000_000 : Nat) } }

theorem Dev.ethStart_of_young {d : Dev} {i q : Nat} {f : Frame} (hpick : d.ethPick i = some (q, f)) (hyoung : d.tooOld f.ts f.maxAge = false)
    (n : Nat) : d.ethStart i (n + 1) =
      ((((d.dequeued i q f).started i q f).bump (ethReg (if f.status = 0 then Reg.ethTxOk else Reg.ethTxStomp) i)).ptpStamp i f.data).emit
        (.eth i (f.data ++ List.replicate (60 - f.data.length) 0) (f.status != 0)) := by
  have hyoung' : ¬(d.dequeued i q f).tooOld f.ts f.maxAge = true := by
    rw [show (d.dequeued i q f).tooOld f.ts f.maxAge = d.tooOld f.ts f.maxAge from rfl, hyoung]
    decide
  rw [Dev.ethStart, hpick]
  refine (if_neg hyoung').trans ?_
  split <;> rfl

/-- The frame that starts is sent and counted, and gone from the queue. -/
theorem Dev.ethStart_sends {d : Dev} (hw : cellsWf d.regs = true) {i q : Nat} {f : Frame} (hi : i < d.mac.length)
    (hpick : d.ethPick i = some (q, f)) (hyoung : d.tooOld f.ts f.maxAge = false) (n : Nat) :
    let count := ethReg (if f.status = 0 then Reg.ethTxOk else Reg.ethTxStomp) i
    .eth i (f.data ++ List.replicate (60 - f.data.length) 0) (f.status != 0) ∈ (d.ethStart i (n + 1)).out ∧
      ((d.ethStart i (n + 1)).mac.getD i {}).queue = (d.mac.getD i {}).queue.erase (q, f) ∧
      (d.ethStart i (n + 1)).rd count = d.rd count + 1 ∧ (d.ethStart i (n + 1)).mem = d.mem := by
  intro count
  rw [Dev.ethStart_of_young hpick hyoung]
  have hgone : ((d.dequeued i q f).mac.getD i {}).queue = (d.mac.getD i {}).queue.erase (q, f) := congrArg Mac.queue (Dev.mac_onMac hi _)
  have hbegun : (((d.dequeued i q f).started i q f).mac.getD i {}).queue = ((d.dequeued i q f).mac.getD i {}).queue :=
    getD_modify_keeps Mac.queue _ i i _ {} fun _ => rfl
  have hregs : ((d.dequeued i q f).started i q f).regs = d.regs := rfl
  have hmem : ((d.dequeued i q f).started i q f).mem = d.mem := rfl
  generalize (d.dequeued i q f).started i q f = e at hbegun hregs hmem ⊢
  have hwe : cellsWf e.regs = true := hregs ▸ hw
  obtain ⟨hmac', hmem', hregs'⟩ := Dev.ptpStamp_keeps (Dev.bump_wf hwe count 1) i f.data
  have hcount : count ≠ Reg.blvTxtsOvf := by
    simp only [count, ethReg, Reg.blvTxtsOvf, Reg.ethTxOk, Reg.ethTxStomp]
    split <;> omega
  refine ⟨List.mem_append_right _ (List.mem_singleton_self _), ?_, ?_, hmem'.trans hmem⟩
  · exact (congrArg (fun l : List Mac => (l.getD i {}).queue) hmac').trans (hbegun.trans hgone)
  · refine (hregs'.rd _ hcount).trans ?_
    rw [(Dev.bump_counts hwe count).1, Dev.rd, Dev.rd, hregs]

include hInv hlen in
theorem does_ethTransmit {q : Nat} {f : Frame} (hready : s.dev.ethReady i = true) (hpick : (s.dev.creditNow i).ethPick i = some (q, f))
    (hyoung : s.dev.tooOld f.ts f.maxAge = false) : Does (.ethTransmit i) s (fun d =>
      .eth i (f.data ++ List.replicate (60 - f.data.length) 0) (f.status != 0) ∈ d.out ∧
      (d.mac.getD i {}).queue = (s.dev.mac.getD i {}).queue.erase (q, f) ∧
      d.rd (ethReg (if f.status = 0 then Reg.ethTxOk else Reg.ethTxStomp) i) =
        s.dev.rd (ethReg (if f.status = 0 then Reg.ethTxOk else Reg.ethTxStomp) i) + 1 ∧ d.mem = s.dev.mem) := by
  have hready' : s.clear.ethReady i = true := hready
  have hpick' : (s.clear.creditNow i).ethPick i = some (q, f) := hpick
  have hyoung' : (s.clear.creditNow i).tooOld f.ts f.maxAge = false := hyoung
  obtain ⟨hout, hqueue, hcount, hmem⟩ := Dev.ethStart_sends (d := s.clear.creditNow i) hInv.regs (by rw [Dev.mac_length_creditNow]; exact mac_lt hlen)
    hpick' hyoung' ((s.clear.creditNow i).mac.getD i {}).queue.length
  exact does_of_eq (by unfold exec; rfl) (if_pos hready')
    ⟨hout, hqueue.trans (congrArg (List.erase · (q, f)) (s.clear.queue_creditNow i)), hcount, hmem⟩

/-! ### Gates and the link -/

include hlen in
theorem does_tasGateChange_off (h : s.dev.flag (ethReg Reg.ethTasCtl i) 0 = false) : Does (.tasGateChange i) s (fun d =>
    (d.mac.getD i {}).gates = 255 ∧ (d.mac.getD i {}).tasRun = false ∧ d.sameStores s.dev) := by
  have hoff : (!s.clear.flag (ethReg Reg.ethTasCtl i) 0) = true := by rw [State.clear_flag, h]; rfl
  refine does_of_eq (f := fun d => d.tasChange i) (by unfold exec; rfl) (if_pos hoff) ?_
  rw [Dev.mac_onMac (mac_lt hlen)]
  exact ⟨rfl, rfl, rfl, rfl⟩

section
variable (h : s.dev.flag (ethReg Reg.ethTasCtl i) 0 = true)
include h

theorem tasChange_on : ¬(!s.clear.flag (ethReg Reg.ethTasCtl i) 0) = true := by rw [State.clear_flag, h]; decide

theorem quiet_tasGateChange (hbase : s.dev.blv.vt < s.dev.rd64 (ethReg Reg.ethTasBaseLo i)) : Quiet (.tasGateChange i) s :=
  does_of_eq (f := fun d => d.tasChange i) (by unfold exec; rfl) ((if_neg (tasChange_on h)).trans (if_pos hbase)) rfl

include hlen in
theorem does_tasGateChange_on {p : Nat × Nat × Nat} (hbase : s.dev.rd64 (ethReg Reg.ethTasBaseLo i) ≤ s.dev.blv.vt)
    (hrun : (s.dev.mac.getD i {}).tasRun = true)
    (hpiece : ((s.dev.tasPieces i).find? fun p => decide (p.2.1 ≤ s.dev.tasOffset i) && decide (s.dev.tasOffset i < p.2.2)) = some p) :
    Does (.tasGateChange i) s (fun d => (d.mac.getD i {}).gates = p.1 ∧ d.sameStores s.dev) := by
  have hbase' : ¬s.clear.blv.vt < s.clear.rd64 (ethReg Reg.ethTasBaseLo i) := Nat.not_lt.mpr hbase
  have hpiece' : ((s.clear.tasPieces i).find? fun p => decide (p.2.1 ≤ s.clear.tasOffset i) && decide (s.clear.tasOffset i < p.2.2)) = some p := hpiece
  have heffect : s.clear.tasChange i = s.clear.onMac i fun m => { m with tasRun := true, gates := p.1 } := by
    refine (if_neg (tasChange_on h)).trans ((if_neg hbase').trans ?_)
    dsimp only
    rw [hpiece']
    exact if_pos (.inl hrun)
  refine does_of_eq (f := fun d => d.tasChange i) (by unfold exec; rfl) heffect ?_
  rw [Dev.mac_onMac (mac_lt hlen)]
  exact ⟨rfl, rfl, rfl⟩

end

include hlen in
theorem does_ethLinkChange (up other : Bool) : Does (.ethLinkChange i up other) s (fun d => (d.mac.getD i {}).link = (up && !other) ∧
    (d.mac.getD i {}).speedErr = other ∧ d.sameStores s.dev) := by
  refine does_of_eq (e := s.clear.onMac i fun m => { m with link := up && !other, speedErr := other }) (by unfold exec; rfl) rfl ?_
  rw [Dev.mac_onMac (mac_lt hlen)]
  exact ⟨rfl, rfl, rfl, rfl⟩

end

/-! ### Tunnels -/

theorem Dev.tun_modify {d : Dev} {t : Nat} (h : t < d.tun.length) (f : Tunnel → Tunnel) :
    ({ d with tun := d.tun.modify t f } : Dev).tun.getD t {} = f (d.tun.getD t {}) := getD_modify_same h f {}

@[simp] theorem Dev.sendXfer_tun (d : Dev) (f : Frame) (port out : Nat) (egr : List Nat) (secured : Option Nat) :
    (d.sendXfer f port out egr secured).tun = d.tun := by
  unfold Dev.sendXfer
  dsimp only
  split
  · split <;> rfl
  · rfl

@[simp] theorem Dev.ethTake_tun (d : Dev) (i : Nat) (f : Frame) : (d.ethTake i f).tun = d.tun := by
  unfold Dev.ethTake
  split <;> rfl

/-- A flush empties the tunnel and advances its sequence number (R349). -/
theorem Dev.tun_tunFlush {d : Dev} {t : Nat} (ht : t < d.tun.length) (hmsgs : (d.tun.getD t {}).msgs ≠ []) :
    (d.tunFlush t).tun.getD t {} = { d.tun.getD t {} with msgs := [], gens := [], txSeq := ((d.tun.getD t {}).txSeq + 1) % 256 } := by
  have hempty : ¬(d.tun.getD t {}).msgs.isEmpty = true := by rwa [List.isEmpty_iff]
  unfold Dev.tunFlush
  extract_lets u i payload vid pcp tag mac data f e
  have he : e.tun.getD t {} = { u with msgs := [], gens := [], txSeq := (u.txSeq + 1) % 256 } := Dev.tun_modify ht _
  clear_value e
  rw [if_neg hempty]
  split
  · exact he
  · split
    · rw [Dev.sendXfer_tun]
      exact he
    · rw [Dev.ethTake_tun]
      exact he

section
variable {s : State} {t : Fin 4} {xid : Nat} {y : Xfer}

theorem exec_tunnelEgress (hy : s.dev.xferAt xid (120 + t) = some y) : ∃ f, exec (.tunnelEgress xid t) s = s.act f ∧ f s.clear = (s.clear.xferTaken xid (120 + t)).tunTake t y.frame := by
  have hy' : s.clear.xferAt xid (120 + t) = some y := hy
  exact ⟨_, by unfold exec; rfl, by simp only [hy']⟩

variable (hon : s.dev.flag (tunReg Reg.ethTunCtl t) 0 = true) (hkind : y.frame.kind = 1)
include hon hkind

theorem tunTake_gate : ¬(!(s.clear.xferTaken xid (120 + t)).flag (tunReg Reg.ethTunCtl t) 0 || (y.frame.kind != 1 && y.frame.kind != 2)) = true := by
  rw [show (s.clear.xferTaken xid (120 + t)).flag (tunReg Reg.ethTunCtl t) 0 = true from hon, hkind]
  decide

theorem does_tunnelEgress_xl (hy : s.dev.xferAt xid (120 + t) = some y) (hInv : Inv s) (hfmt : y.frame.canFmt = 2) : Does (.tunnelEgress xid t) s (fun d =>
    d.counts s.dev (tunReg Reg.ethTunXlDrop t) ∧ d.tun = s.dev.tun) := by
  obtain ⟨f, hexec, hf⟩ := exec_tunnelEgress hy
  exact does_of_eq hexec (hf.trans ((if_neg (tunTake_gate hon hkind)).trans (if_pos ⟨hkind, hfmt⟩))) ⟨Dev.onlyReg_of_bump hInv.regs rfl rfl, rfl⟩

theorem after_tunnelEgress (hy : s.dev.xferAt xid (120 + t) = some y) (hlen : s.dev.tun.length = 4) (hfmt : y.frame.canFmt ≠ 2) :
    let x := acfMessage (s.dev.flag (tunReg Reg.ethTunCtl t) 3) y.frame
    s.dev.avtpHead t + (s.dev.tun.getD t {}).msgs.flatten.length + x.length ≤ 64 → After (.tunnelEgress xid t) s (fun d =>
      (d.tun.getD t {}).msgs = (s.dev.tun.getD t {}).msgs ++ [x] ∧ d.mem = s.dev.mem) := by
  intro x hfits
  obtain ⟨f, hexec, hf⟩ := exec_tunnelEgress hy
  let e := s.clear.xferTaken xid (120 + t)
  have ht : (t : Nat) < e.tun.length := by
    rw [show e.tun = s.dev.tun from rfl, hlen]
    exact t.isLt
  have hxl : ¬(y.frame.kind = 1 ∧ y.frame.canFmt = 2) := fun h => hfmt h.2
  have hroom : ¬min 1500 (max 64 (e.fld (tunReg Reg.ethTunCtl t) 8 11)) < e.avtpHead t + (e.tun.getD t {}).msgs.flatten.length +
      (acfMessage (e.flag (tunReg Reg.ethTunCtl t) 3) y.frame).length := by
    have : e.avtpHead t + (e.tun.getD t {}).msgs.flatten.length + (acfMessage (e.flag (tunReg Reg.ethTunCtl t) 3) y.frame).length ≤ 64 := hfits
    omega
  have htake : ((e.tunTake t y.frame).tun.getD t {}).msgs = (s.dev.tun.getD t {}).msgs ++ [x] := by
    have hstep : e.tunTake t y.frame = _ := (if_neg (tunTake_gate hon hkind)).trans (if_neg hxl)
    rw [hstep]
    dsimp only
    rw [if_neg hroom]
    exact congrArg Tunnel.msgs (Dev.tun_modify ht _)
  refine after_of_eq hexec hf ?_
  rw [settle_tun, settle_mem, Dev.tunTake_mem]
  exact ⟨htake, rfl⟩

end

section
variable {s : State} {t : Fin 4} (hdue : (s.dev.tun.getD t {}).since + 1000 * min 1000 (s.dev.fld (tunReg Reg.ethTunCtl t) 19 10) ≤ s.dev.blv.vt)
include hdue

theorem exec_tunnelFlush : ∃ f, exec (.tunnelFlush t) s = s.act f ∧ f s.clear = s.clear.tunFlush t := by
  have hdue' : (s.clear.tun.getD t {}).since + 1000 * min 1000 (s.clear.fld (tunReg Reg.ethTunCtl t) 19 10) ≤ s.clear.blv.vt := hdue
  exact ⟨_, by unfold exec; rfl, if_pos hdue'⟩

theorem quiet_tunnelFlush (hmsgs : (s.dev.tun.getD t {}).msgs = []) : Quiet (.tunnelFlush t) s := by
  obtain ⟨f, hexec, hf⟩ := exec_tunnelFlush hdue
  have hempty : (s.clear.tun.getD t {}).msgs.isEmpty = true := by rw [State.clear_tun, hmsgs]; rfl
  exact does_of_eq hexec (hf.trans (if_pos hempty)) rfl

theorem after_tunnelFlush (hlen : s.dev.tun.length = 4) (hmsgs : (s.dev.tun.getD t {}).msgs ≠ []) : After (.tunnelFlush t) s (fun d =>
    (d.tun.getD t {}).msgs = [] ∧ (d.tun.getD t {}).txSeq = ((s.dev.tun.getD t {}).txSeq + 1) % 256 ∧ d.mem = s.dev.mem) := by
  obtain ⟨f, hexec, hf⟩ := exec_tunnelFlush hdue
  have ht : (t : Nat) < s.clear.tun.length := by
    rw [State.clear_tun, hlen]
    exact t.isLt
  refine after_of_eq hexec hf ?_
  rw [settle_tun, settle_mem, Dev.tunFlush_mem, Dev.tun_tunFlush ht hmsgs]
  exact ⟨rfl, rfl, rfl⟩

end

/-- Settles O49, an operation of a MAC or a tunnel at a time. -/
theorem ethernetTransmission : Obligations.EthernetTransmission := by
  intro s i t xid data up other hInv hmac htun
  exact ⟨fun y hy hsec hkind => does_ethEgress_xfer hmac hy hsec hkind, does_ethEgress_gptp hmac data, quiet_ethTransmit,
    fun q f hready hpick hyoung => does_ethTransmit hInv hmac hready hpick hyoung, does_tasGateChange_off hmac,
    fun hon => ⟨quiet_tasGateChange hon, fun p hbase hrun hpiece => does_tasGateChange_on hmac hon hbase hrun hpiece⟩, does_ethLinkChange hmac up other,
    fun y hy hon hkind => ⟨does_tunnelEgress_xl hon hkind hy hInv, after_tunnelEgress hon hkind hy htun⟩,
    fun hdue => ⟨quiet_tunnelFlush hdue, after_tunnelFlush hdue htun⟩⟩

end Sys2Proof.Machine
end

section
/-! O55: which member of a twin pair becomes ACTIVE (R438, R444, R447). -/
namespace Sys2Proof.Machine

/-! ### Becoming ACTIVE -/

theorem Dev.sendRoles_eq (d : Dev) (role : Nat) : ∃ out, d.sendRoles role = { d with out := out } := by
  unfold Dev.sendRoles
  refine SettleClosed.foldl (P := fun e => ∃ out, e = { d with out := out }) _ ?_ _ d ⟨d.out, rfl⟩
  rintro _ n ⟨out, rfl⟩
  split
  · exact ⟨_, rfl⟩
  · exact ⟨out, rfl⟩

theorem Dev.enterActive_eq (d : Dev) : ∃ out, d.enterActive =
    { d with
      out := out, twin := { d.twin with state := .active, prot := false, streaming := false, mirror := [], executed := [] },
      lbu := { d.lbu with lreset := !d.flag Reg.lbuCtl 0 } } := by
  obtain ⟨out, h⟩ := Dev.sendRoles_eq ((d.onTwin fun t =>
    { t with state := .active, prot := false, streaming := false, mirror := [], executed := [] }).onLbu fun l =>
      { l with lreset := !d.flag Reg.lbuCtl 0 }) 1
  exact ⟨out, h⟩

/-- The end of a wait (R438): SYNCING where the peer rose, and otherwise ACTIVE with LRESET_N high where BUS_EN = 1. -/
theorem Dev.waitOver_view (d : Dev) (rose : Bool) : (d.waitOver rose).mem = d.mem ∧
    (rose = true → (d.waitOver rose).twin.state = .syncing ∧ (d.waitOver rose).twin.peerAct = true) ∧
    (rose = false → (d.waitOver rose).twin.state = .active ∧ (d.waitOver rose).lbu.lreset = !d.flag Reg.lbuCtl 0) := by
  cases rose with
  | true => exact ⟨rfl, fun _ => ⟨rfl, rfl⟩, nofun⟩
  | false =>
    obtain ⟨out, h⟩ := Dev.enterActive_eq d
    have hwait : d.waitOver false = d.enterActive := rfl
    rw [hwait, h]
    exact ⟨rfl, nofun, fun _ => ⟨rfl, rfl⟩⟩

theorem does_wait {c : Instr} {s : State} {rose : Bool}
    (h : (c = .twinPreferWait rose ∧ s.dev.twin.state = .starting ∧ s.dev.twin.en = true ∧ s.dev.fld Reg.ldgStatus 0 3 = 5) ∨
      (c = .twinTieRound rose ∧ s.dev.twin.state = .unsync ∧ s.dev.twin.tieRound.isSome = true)) :
    Does c s fun d => d.mem = s.dev.mem ∧ (rose = true → d.twin.state = .syncing ∧ d.twin.peerAct = true) ∧
      (rose = false → d.twin.state = .active ∧ d.lbu.lreset = !s.dev.flag Reg.lbuCtl 0) := by
  obtain ⟨rfl, hwait⟩ | ⟨rfl, hround⟩ := h
  · exact does_of_eq (f := fun d => if d.twin.state = .starting ∧ d.twin.en ∧ d.fld Reg.ldgStatus 0 3 = 5 then d.waitOver rose else d)
      (by unfold exec; rfl) (if_pos hwait) (s.clear.waitOver_view rose)
  · exact does_of_eq (f := fun d => if d.twin.state = .unsync ∧ d.twin.tieRound.isSome then d.waitOver rose else d)
      (by unfold exec; rfl) (if_pos hround) (s.clear.waitOver_view rose)

theorem quiet_twinPreferWait {s : State} (h : s.dev.twin.state ≠ .starting) (rose : Bool) : Quiet (.twinPreferWait rose) s :=
  does_of_eq (f := fun d => if d.twin.state = .starting ∧ d.twin.en ∧ d.fld Reg.ldgStatus 0 3 = 5 then d.waitOver rose else d)
    (by unfold exec; rfl) (if_neg fun hc => h hc.1) rfl

theorem quiet_twinTieRound {s : State} (h : s.dev.twin.tieRound = none) (rose : Bool) : Quiet (.twinTieRound rose) s :=
  does_of_eq (f := fun d => if d.twin.state = .unsync ∧ d.twin.tieRound.isSome then d.waitOver rose else d)
    (by unfold exec; rfl) (if_neg fun hc => by simp [h] at hc) rfl

/-! ### Leaving ACTIVE -/

/-- Leaving ACTIVE writes DEP_TWIN_LOST and no other register. -/
theorem Dev.RegsKept.leaveActive {d e : Dev} {p : Nat → Prop} (h : Dev.RegsKept p d e) (hlo : ¬p Reg.depTwinLost) (hhi : ¬p (Reg.depTwinLost + 4))
    (dest : TwinState) : Dev.RegsKept p d (e.leaveActive dest) := by
  unfold Dev.leaveActive
  extract_lets cells tt d1 d2
  have h2 : Dev.RegsKept p d d2 := Dev.RegsKept.step (h.wr64 hlo hhi _)
  exact h2.ite h2.step

theorem Dev.leaveActive_twin (d : Dev) (dest : TwinState) :
    (d.leaveActive dest).twin = { d.twin with state := dest, prot := false, streaming := false, handover := false } := by
  unfold Dev.leaveActive
  dsimp only
  split <;> rfl

/-- Where both are ACTIVE, the one that leaves counts it (R438). -/
theorem Dev.leaveDual_count {d e : Dev} (hw : cellsWf d.regs = true) (hregs : e.regs = d.regs) (dest : TwinState) {f : Dev}
    (hf : f.regs = (e.leaveActive dest).regs) : (f.bump Reg.depDualActive).rd Reg.depDualActive = d.rd Reg.depDualActive + 1 := by
  have hkept : Dev.RegsKept (· = Reg.depDualActive) d f :=
    (((Dev.RegsKept.refl hw).step hregs).leaveActive (by decide) (by decide) dest).step hf
  rw [Dev.rd_bump hkept.wf, if_pos rfl, hkept.rd _ rfl]
  rfl

theorem does_twinDualActive_same {s : State} (hw : cellsWf s.dev.regs = true) (h : s.dev.twin.state = .active) :
    Does (.twinDualActive true) s fun d => d.twin.state = .unsync ∧ d.twin.tieRound.isSome = true ∧
      d.rd Reg.depDualActive = s.dev.rd Reg.depDualActive + 1 := by
  refine does_act _ (by unfold exec; rfl) ?_
  rw [if_neg (not_not_intro (show s.clear.twin.state = .active from h)), if_pos rfl]
  refine ⟨congrArg Twin.state (Dev.leaveActive_twin s.clear .unsync), rfl, ?_⟩
  exact Dev.leaveDual_count (d := s.clear) hw rfl .unsync rfl

theorem does_twinDualActive_yields {s : State} (hw : cellsWf s.dev.regs = true) (h : s.dev.twin.state = .active) (hp : s.dev.twin.prefer = false) :
    Does (.twinDualActive false) s fun d => d.twin.state = .syncing ∧ d.rd Reg.depDualActive = s.dev.rd Reg.depDualActive + 1 := by
  have hp' : (!s.clear.twin.prefer) = true := by rw [show s.clear.twin.prefer = false from hp]; rfl
  refine does_act _ (by unfold exec; rfl) ?_
  rw [if_neg (not_not_intro (show s.clear.twin.state = .active from h)), if_neg (by decide), if_pos hp']
  exact ⟨rfl, Dev.leaveDual_count (d := s.clear) (e := s.clear.onTwin fun t => { t with peerAct := true }) hw rfl .syncing rfl⟩

theorem quiet_twinDualActive_preferred {s : State} (h : s.dev.twin.state = .active) (hp : s.dev.twin.prefer = true) : Quiet (.twinDualActive false) s := by
  have hp' : ¬(!s.clear.twin.prefer) = true := by rw [show s.clear.twin.prefer = true from hp]; decide
  refine does_act _ (by unfold exec; rfl) ?_
  rw [if_neg (not_not_intro (show s.clear.twin.state = .active from h)), if_neg (by decide), if_neg hp']

theorem quiet_twinDualActive {s : State} (h : s.dev.twin.state ≠ .active) (same : Bool) : Quiet (.twinDualActive same) s := by
  refine does_act _ (by unfold exec; rfl) ?_
  rw [if_pos (show s.clear.twin.state ≠ .active from h)]

/-! ### Takeover -/

/-- What a takeover has made of the device, while the mirrored entries are replayed. -/
structure Dev.TakenOver (planned lreset : Bool) (takeovers : Word) (d : Dev) : Prop where
  wf : cellsWf d.regs = true
  count : d.rd Reg.depTwinTakeovers = takeovers
  state : d.twin.state = .active
  mirror : d.twin.mirror = []
  planned : d.twin.planned = planned
  lreset : d.lbu.lreset = lreset

namespace Dev.TakenOver

variable {planned lreset : Bool} {n : Word} {d : Dev}

theorem depTwinTakeovers_not_fabricCounter : ¬FabricCounter Reg.depTwinTakeovers := by
  rintro (h | ⟨t, h⟩ | ⟨f, n, h⟩)
  · revert h
    decide
  · simp only [Reg.depTwinTakeovers, Reg.intTypeCount] at h
    omega
  · simp only [Reg.depTwinTakeovers] at h
    cases f <;> simp only [winBase, Reg.winIwCtl, Reg.winOwCtl, Reg.winLwCtl, Reg.winLzCtl] at h <;> omega

theorem wr (h : d.TakenOver planned lreset n) {off : Nat} (hoff : Reg.depTwinTakeovers ≠ off) (v : Word) : (d.wr off v).TakenOver planned lreset n :=
  ⟨Dev.wr_wf h.wf _ _, (Dev.rd_wr_ne h.wf v hoff).trans h.count, h.state, h.mirror, h.planned, h.lreset⟩

/-- Accepting requests leaves it. -/
theorem fabricClosed : FabricClosed (Dev.TakenOver planned lreset n) where
  bump := fun _ _ _ ha h => h.wr (fun he => depTwinTakeovers_not_fabricCounter (he ▸ ha)) _
  elog := fun _ _ h => ⟨h.wf, h.count, h.state, h.mirror, h.planned, h.lreset⟩
  emit := fun _ _ h => ⟨h.wf, h.count, h.state, h.mirror, h.planned, h.lreset⟩
  fab := fun _ _ _ h => ⟨h.wf, h.count, h.state, h.mirror, h.planned, h.lreset⟩
  msgs := fun _ _ _ h => ⟨h.wf, h.count, h.state, h.mirror, h.planned, h.lreset⟩
  intb := fun _ _ h => ⟨h.wf, h.count, h.state, h.mirror, h.planned, h.lreset⟩

theorem replayNote (h : d.TakenOver planned lreset n) (m : MirrorEntry) (k : Nat) : (d.replayNote m k).TakenOver planned lreset n := by
  unfold Dev.replayNote
  extract_lets ea0 sl flags entry d1 d2
  have h2 : d2.TakenOver planned lreset n := (fabricClosed.log d _ _ _ _ _ h).wr (by decide) _
  split
  · exact ⟨h2.wf, h2.count, h2.state, h2.mirror, h2.planned, h2.lreset⟩
  · exact h2

theorem replaySlot (h : d.TakenOver planned lreset n) (m : MirrorEntry) (idx seq : Nat) (store : Bool) :
    (d.replaySlot m idx seq store).TakenOver planned lreset n := ⟨h.wf, h.count, h.state, h.mirror, h.planned, h.lreset⟩

theorem replay (h : d.TakenOver planned lreset n) (m : MirrorEntry) (k : Nat) : (d.replay m k).TakenOver planned lreset n := by
  unfold Dev.replay
  extract_lets d1 r
  have h1 : d1.TakenOver planned lreset n := SettleClosed.ite (h.replayNote m k) h
  split
  · exact h1.replaySlot ..
  · exact (fabricClosed.accept _ _ h1).replaySlot ..
  · exact fabricClosed.accept _ _ h1

theorem onFab (h : d.TakenOver planned lreset n) (f : Fabric → Fabric) : (d.onFab f).TakenOver planned lreset n :=
  ⟨h.wf, h.count, h.state, h.mirror, h.planned, h.lreset⟩

theorem gzbClear (h : d.TakenOver planned lreset n) : d.gzbClear.TakenOver planned lreset n :=
  SettleClosed.foldl _ (fun e _ he => fabricClosed.rsvException e _ _ he) _ _ ⟨h.wf, h.count, h.state, h.mirror, h.planned, h.lreset⟩

theorem sendNote (h : d.TakenOver planned lreset n) (ntype bit map : Nat) : (d.sendNote ntype bit map).TakenOver planned lreset n := by
  unfold Dev.sendNote Dev.placeNote
  dsimp only
  split
  · exact SettleClosed.ite (h.wr (by decide) _) ⟨h.wf, h.count, h.state, h.mirror, h.planned, h.lreset⟩
  · split
    · exact fabricClosed.sendMsg _ _ _ h
    · exact h

end Dev.TakenOver

/-- A takeover (R444, R463), through the replay of every mirrored entry (R445). -/
theorem Dev.takeover_takenOver {d : Dev} (hw : cellsWf d.regs = true) :
    d.takeover.TakenOver (!d.twin.peerUnfit) (!d.flag Reg.lbuCtl 0) (d.rd Reg.depTwinTakeovers + 1) := by
  unfold Dev.takeover
  extract_lets mirror planned d1 d2 d3 r
  obtain ⟨out, hout⟩ := Dev.enterActive_eq (d.onTwin fun t => { t with peerAct := false, planned := planned, replayLog := [] })
  have h1 : d1.TakenOver planned (!d.flag Reg.lbuCtl 0) (d.rd Reg.depTwinTakeovers) := by
    rw [show d1 = _ from hout]
    exact ⟨hw, rfl, rfl, rfl, rfl, rfl⟩
  clear_value d1
  have hlost := Dev.TakenOver.fabricClosed.loseRsv _ (fun _ => true) h1.gzbClear
  have h2 : d2.TakenOver planned (!d.flag Reg.lbuCtl 0) (d.rd Reg.depTwinTakeovers) :=
    hlost.onFab _
  clear_value d2
  have hcount : (d2.bump Reg.depTwinTakeovers).TakenOver planned (!d.flag Reg.lbuCtl 0) (d.rd Reg.depTwinTakeovers + 1) :=
    ⟨Dev.bump_wf h2.wf .., by rw [Dev.rd_bump h2.wf, if_pos rfl, h2.count]; rfl, h2.state, h2.mirror, h2.planned, h2.lreset⟩
  have hreplay := (hcount.wr (off := Reg.depReplayCount) (by decide) 0).wr (off := Reg.depReplayAck) (by decide) 0
  have h3 : d3.TakenOver planned (!d.flag Reg.lbuCtl 0) (d.rd Reg.depTwinTakeovers + 1) :=
    ⟨hreplay.wf, hreplay.count, hreplay.state, hreplay.mirror, hreplay.planned, hreplay.lreset⟩
  have hr : r.1.TakenOver planned (!d.flag Reg.lbuCtl 0) (d.rd Reg.depTwinTakeovers + 1) :=
    List.foldlRecOn mirror _ (motive := fun (p : Dev × Nat) => p.1.TakenOver planned (!d.flag Reg.lbuCtl 0) (d.rd Reg.depTwinTakeovers + 1)) h3
      fun p hp m _ => hp.replay m p.2
  exact hr.sendNote ..

theorem does_takeover {s : State} (hw : cellsWf s.dev.regs = true) (h : s.dev.twin.state = .standby) :
    Does .takeover s fun d => d.twin.state = .active ∧ d.twin.mirror = [] ∧ d.twin.planned = !s.dev.twin.peerUnfit ∧
      d.lbu.lreset = (!s.dev.flag Reg.lbuCtl 0) ∧ d.rd Reg.depTwinTakeovers = s.dev.rd Reg.depTwinTakeovers + 1 ∧ d.mem = s.dev.mem := by
  have ht := Dev.takeover_takenOver (d := s.clear) hw
  exact does_of_eq (f := fun d => if d.twin.state = .standby then d.takeover else d.onTwin fun t => { t with peerAct := false })
    (by unfold exec; rfl) (if_pos h) ⟨ht.state, ht.mirror, ht.planned, ht.lreset, ht.count, Dev.takeover_mem s.clear⟩

theorem does_takeover_ignored {s : State} (h : s.dev.twin.state ≠ .standby) :
    Does .takeover s fun d => d = { s.clear with twin := { s.dev.twin with peerAct := false } } :=
  does_of_eq (f := fun d => if d.twin.state = .standby then d.takeover else d.onTwin fun t => { t with peerAct := false })
    (by unfold exec; rfl) (if_neg h) rfl

/-! ### Planned handover -/

/-- Where nothing protects the device, a switch is refused (R447). -/
theorem does_plannedHandover_refused {s : State} (hw : cellsWf s.dev.regs = true) (h : s.dev.twin.handover = false)
    (hprot : s.dev.twin.prot = false) :
    Does .plannedHandover s fun d => d.counts s.dev Reg.sysAccessReject ∧ d.twin = s.dev.twin := by
  have hstart : s.clear.handoverStart = s.clear.reject := if_pos (by rw [show s.clear.twin.prot = false from hprot]; rfl)
  have hoff : ¬s.clear.twin.handover = true := by rw [show s.clear.twin.handover = false from h]; decide
  refine does_act _ (by unfold exec; rfl) ?_
  rw [if_neg hoff, hstart]
  dsimp only
  rw [if_neg fun hc => hoff hc.1]
  exact ⟨Dev.onlyReg_of_bump hw rfl rfl, rfl⟩

/-- The twin and the drain at the end of a planned handover. -/
structure Dev.HandedOver (d : Dev) : Prop where
  state : d.twin.state = .syncing
  planned : d.twin.planned = true
  handover : d.twin.handover = false
  draining : d.lbu.draining = false

theorem Dev.HandedOver.fabricClosed : FabricClosed Dev.HandedOver where
  bump := fun _ _ _ _ h => ⟨h.state, h.planned, h.handover, h.draining⟩
  elog := fun _ _ h => ⟨h.state, h.planned, h.handover, h.draining⟩
  emit := fun _ _ h => ⟨h.state, h.planned, h.handover, h.draining⟩
  fab := fun _ _ _ h => ⟨h.state, h.planned, h.handover, h.draining⟩
  msgs := fun _ _ _ h => ⟨h.state, h.planned, h.handover, h.draining⟩
  intb := fun _ _ h => ⟨h.state, h.planned, h.handover, h.draining⟩

theorem Dev.leaveActive_draining (d : Dev) (dest : TwinState) : (d.leaveActive dest).lbu.draining = d.lbu.draining := by
  unfold Dev.leaveActive
  dsimp only
  split <;> rfl

theorem Dev.handoverEnd_handedOver (d : Dev) : d.handoverEnd.HandedOver := by
  unfold Dev.handoverEnd
  extract_lets d1
  have hdrain : d1.lbu.draining = false := rfl
  clear_value d1
  exact Dev.HandedOver.fabricClosed.retryHeld _ ⟨rfl, rfl, rfl, (d1.leaveActive_draining .syncing).trans hdrain⟩

theorem does_plannedHandover {s : State} (h : s.dev.twin.handover = true) :
    Does .plannedHandover s fun d => d.twin.state = .syncing ∧ d.twin.planned = true ∧ d.twin.handover = false ∧
      d.lbu.draining = false ∧ d.mem = s.dev.mem := by
  have hend := s.clear.handoverEnd_handedOver
  have hmem : s.clear.handoverEnd.mem = s.clear.mem := by simp [Dev.handoverEnd]
  exact does_of_eq (f := fun d =>
    if d.twin.handover then d.handoverEnd
    else
      let d := d.handoverStart
      if d.twin.handover ∧ d.pwbsEmpty then d.handoverEnd else d) (by unfold exec; rfl) (if_pos h)
    ⟨hend.state, hend.planned, hend.handover, hend.draining, hmem⟩

/-- Settles O55: each decision of the pair is a case of its command, and a takeover is followed through the replay of its mirrored entries. -/
theorem twinDecisions : Obligations.TwinDecisions := by
  unfold Obligations.TwinDecisions
  intro s rose same hInv
  refine ⟨fun c hc => does_wait hc, fun h => quiet_twinPreferWait h rose, fun h => quiet_twinTieRound h rose,
    fun h => quiet_twinDualActive h same, fun h => ⟨?_, ?_, ?_⟩, does_takeover hInv.regs, does_takeover_ignored,
    does_plannedHandover_refused hInv.regs, does_plannedHandover⟩
  · rintro rfl
    exact does_twinDualActive_same hInv.regs h
  · rintro rfl hp
    exact does_twinDualActive_yields hInv.regs h hp
  · rintro rfl hp
    exact quiet_twinDualActive_preferred h hp

end Sys2Proof.Machine
end

section
/-! O54: a fault of fixed action brings the device into the safe state (R432–R434). -/
namespace Sys2Proof.Machine

/-! ### What the levels of the fault bits are read from -/

/-- The registers that the fault manager reads: those behind the levels of its bits, and the actions. -/
def FaultReg (a : Nat) : Prop :=
  a ∈ [Reg.lbuCtl, Reg.depUncorrCount, Reg.depUncorrAck, Reg.depFaultAct] ∨ ∃ n < 5, a = Reg.itmLinkCtl + 0x40 * n

/-- From one device to another all that the levels of the fault bits are read from stands. -/
structure Dev.LevelsKept (d e : Dev) : Prop where
  links : e.links = d.links
  damaged : e.hub.damaged = d.hub.damaged
  dep : { e.dep with safe := false, notes := [] } = { d.dep with safe := false, notes := [] }
  clkOk : e.lbu.clkOk = d.lbu.clkOk
  blv : e.blv = d.blv
  en : e.twin.en = d.twin.en
  unfit : e.twin.peerUnfit = d.twin.peerUnfit
  regs : Dev.RegsKept FaultReg d e

theorem find?_congr_mem {α : Type} {p q : α → Bool} : ∀ {l : List α}, (∀ x ∈ l, p x = q x) → l.find? p = l.find? q
  | [], _ => rfl
  | x :: l, h => by
    rw [List.find?_cons, List.find?_cons, h x List.mem_cons_self, find?_congr_mem fun y hy => h y (List.mem_cons_of_mem _ hy)]

theorem faultReg_cases {a : Nat} (h : FaultReg a) : a < Reg.gzbChEvt ∨ a ∈ [Reg.depUncorrCount, Reg.depUncorrAck, Reg.depFaultAct] := by
  obtain h | ⟨n, hn, rfl⟩ := h
  · obtain rfl | h := List.mem_cons.mp h
    · exact .inl (by decide)
    · exact .inr h
  · exact .inl (by simp only [Reg.itmLinkCtl, Reg.gzbChEvt]; omega)

theorem depNoteOvf_not_faultReg : ¬FaultReg Reg.depNoteOvf := fun h => absurd (faultReg_cases h) (by decide)

theorem depFaultLast_not_faultReg : ¬FaultReg Reg.depFaultLast := fun h => absurd (faultReg_cases h) (by decide)

theorem gzbChWrFail_not_faultReg (c : Nat) : ¬FaultReg (gzbReg Reg.gzbChWrFail c) := fun h => by
  have hcases := faultReg_cases h
  simp only [gzbReg, Reg.gzbChWrFail, Reg.gzbChEvt, Reg.depUncorrCount, Reg.depUncorrAck, Reg.depFaultAct, List.mem_cons, List.not_mem_nil,
    or_false] at hcases
  omega

theorem gzbChEvt_not_faultReg {c : Nat} (hc : c < 16) : ¬FaultReg (gzbReg Reg.gzbChEvt c) := fun h => by
  have hcases := faultReg_cases h
  simp only [gzbReg, Reg.gzbChEvt, Reg.depUncorrCount, Reg.depUncorrAck, Reg.depFaultAct, List.mem_cons, List.not_mem_nil, or_false] at hcases
  omega

/-- A part of the device beside the registers, the links, the notes and what leaves is as it was. -/
theorem Dev.sendNote_keeps {α : Type} (g : Dev → α) (hg : ∀ d, g d.unnoted = g d) (d : Dev) (ntype bit map : Nat) :
    g (d.sendNote ntype bit map) = g d := by
  rw [← hg, Dev.sendNote_unnoted, hg]

theorem Dev.sendNote_links (d : Dev) (ntype bit map : Nat) : (d.sendNote ntype bit map).links = d.links := by
  unfold Dev.sendNote Dev.placeNote
  dsimp only
  split
  · split <;> rfl
  · split
    · exact (fabricClosed_links d.links).sendMsg d _ _ rfl
    · rfl

namespace Dev.LevelsKept

variable {d e f : Dev}

theorem refl (hw : cellsWf d.regs = true) : d.LevelsKept d := ⟨rfl, rfl, rfl, rfl, rfl, rfl, rfl, .refl hw⟩

theorem trans (h : d.LevelsKept e) (h' : e.LevelsKept f) : d.LevelsKept f :=
  ⟨h'.links.trans h.links, h'.damaged.trans h.damaged, h'.dep.trans h.dep, h'.clkOk.trans h.clkOk, h'.blv.trans h.blv, h'.en.trans h.en,
    h'.unfit.trans h.unfit, h.regs.trans h'.regs⟩

theorem link_state (h : d.LevelsKept e) (n : Nat) : (e.link n).state = (d.link n).state := Dev.link_of_links Link.state (fun _ => rfl) h.links n

theorem roleLink (h : d.LevelsKept e) (role : Nat) : e.roleLink role = d.roleLink role :=
  find?_congr_mem fun n hn => by rw [Dev.linkRole, Dev.linkRole, h.regs.fld (.inr ⟨n, List.mem_range.mp hn, rfl⟩)]

theorem twinLinkUp (h : d.LevelsKept e) : e.twinLinkUp = d.twinLinkUp := by
  unfold Dev.twinLinkUp
  rw [h.roleLink 4]
  split
  · exact congrArg (· == .up) (h.link_state _)
  · rfl

theorem anyHeld (h : d.LevelsKept e) : (e.itm.any fun l => l.state == .held) = d.itm.any fun l => l.state == .held := by
  have hany : ∀ x : Dev, (x.itm.any fun l => l.state == .held) = x.links.any fun l => l.state == .held := fun x => by
    rw [Dev.links, List.any_map]
    rfl
  rw [hany, hany, h.links]

/-- Then every fault bit has its level. -/
theorem faultLevel (h : d.LevelsKept e) (b : Nat) : e.faultLevel b = d.faultLevel b := by
  have hdep {α : Type} (g : Dep → α) (hg : ∀ x : Dep, g { x with safe := false, notes := [] } = g x) : g e.dep = g d.dep := by
    rw [← hg, h.dep, hg]
  unfold Dev.faultLevel
  split
  · rw [h.damaged]
  · exact hdep (·.lockstep) fun _ => rfl
  · exact hdep (fun x => x.planeOk != 3) fun _ => rfl
  · exact h.anyHeld
  · exact hdep (·.clockBad) fun _ => rfl
  · rw [h.regs.flag (.inl (by simp)), h.clkOk]
  · exact hdep (·.supplyBad) fun _ => rfl
  · exact hdep (·.arcadeMissing) fun _ => rfl
  · rw [h.blv]
  · rw [h.regs.rd _ (.inl (by simp)), h.regs.rd _ (.inl (by simp))]
  · exact hdep (fun x => !x.unitFaults.isEmpty) fun _ => rfl
  · exact hdep (·.exhausted) fun _ => rfl
  · rw [h.en, h.twinLinkUp]
  · rw [h.en, h.unfit]
  · exact hdep (·.dramPhy) fun _ => rfl
  · rfl

/-- Nothing rises between two such devices. -/
theorem faultRises (h : d.LevelsKept e) : faultRises d e = [] := by
  refine List.filter_eq_nil_iff.mpr fun b _ => ?_
  rw [h.faultLevel b]
  cases d.faultLevel b <;> decide

theorem sendNote (h : d.LevelsKept e) (ntype bit map : Nat) : d.LevelsKept (e.sendNote ntype bit map) :=
  h.trans ⟨e.sendNote_links .., e.sendNote_keeps (·.hub.damaged) (fun _ => rfl) .., e.sendNote_keeps (fun x => { x.dep with safe := false, notes := [] })
    (fun _ => rfl) .., e.sendNote_keeps (·.lbu.clkOk) (fun _ => rfl) .., e.sendNote_keeps (·.blv) (fun _ => rfl) ..,
    e.sendNote_keeps (·.twin.en) (fun _ => rfl) .., e.sendNote_keeps (·.twin.peerUnfit) (fun _ => rfl) ..,
    (Dev.RegsKept.refl h.regs.wf).sendNote depNoteOvf_not_faultReg ..⟩

/-- A write of DEP_FAULT_LAST. -/
theorem wrFaultLast (h : d.LevelsKept e) (v : Word) : d.LevelsKept (e.wr Reg.depFaultLast v) :=
  ⟨h.links, h.damaged, h.dep, h.clkOk, h.blv, h.en, h.unfit, h.regs.wr depFaultLast_not_faultReg v⟩

end Dev.LevelsKept

/-! ### What follows at once in the Gazebo -/

/-- The device with what follows at once in the Gazebo set aside. -/
def Dev.ungazed (d : Dev) : Dev := { d with regs := [], fab := {}, gzb := {} }

/-- From one device to another only the Gazebo has changed, and the fabric that it watches. -/
structure Dev.GazeboOnly (d e : Dev) : Prop where
  same : e.ungazed = d.ungazed
  regs : Dev.RegsKept FaultReg d e

namespace Dev.GazeboOnly

variable {d e : Dev}

theorem onChan (h : d.GazeboOnly e) (c : Nat) (g : GzbChan → GzbChan) : d.GazeboOnly (e.onChan c g) := ⟨h.same, h.regs.step⟩

theorem gzbFailed (h : d.GazeboOnly e) (x : GzbFail) : d.GazeboOnly (e.gzbFailed x) := by
  have hcount (c : Nat) (g : GzbChan → GzbChan) : d.GazeboOnly ((e.onChan c g).bump (gzbReg Reg.gzbChWrFail c)) :=
    ⟨h.same, h.regs.step.bump (gzbChWrFail_not_faultReg c)⟩
  unfold Dev.gzbFailed
  dsimp only
  split
  · exact h
  · exact SettleClosed.ite (hcount _ _) (SettleClosed.ite (hcount _ _) h)

theorem gzbEvent (h : d.GazeboOnly e) {c : Nat} (hc : c < 16) : d.GazeboOnly (e.gzbEvent c) :=
  ⟨h.same, h.regs.setFld (gzbChEvt_not_faultReg hc) ..⟩

theorem gzbWatch (h : d.GazeboOnly e) {c : Nat} (hc : c < 16) : d.GazeboOnly (e.gzbWatch c) := by
  unfold Dev.gzbWatch
  split
  · exact h
  · exact onChan (SettleClosed.foldl _ (fun _ _ he => he.gzbEvent hc) _ _ h) _ _

theorem of_gzbSettle (hw : cellsWf d.regs = true) : d.GazeboOnly (gzbSettle d) := by
  unfold Machine.gzbSettle
  extract_lets new d1 d2
  have h1 : d.GazeboOnly d1 := SettleClosed.foldl _ (fun _ x he => he.gzbFailed x) _ _ ⟨rfl, .refl hw⟩
  have h2 : d.GazeboOnly d2 := ⟨h1.same, h1.regs.step⟩
  refine List.foldlRecOn _ _ h2 fun x hx c hc => ?_
  exact SettleClosed.ite (hx.gzbWatch (List.mem_range.mp hc)) hx

/-- A part of the device that does not lie in the Gazebo is as it was. -/
theorem keeps {α : Type} (h : d.GazeboOnly e) (g : Dev → α) (hg : ∀ d, g d.ungazed = g d) : g e = g d := by
  rw [← hg, h.same, hg]

theorem levels (h : d.GazeboOnly e) : d.LevelsKept e :=
  ⟨h.keeps (·.links) fun _ => rfl, h.keeps (·.hub.damaged) fun _ => rfl, h.keeps (fun x => { x.dep with safe := false, notes := [] }) fun _ => rfl,
    h.keeps (·.lbu.clkOk) fun _ => rfl, h.keeps (·.blv) fun _ => rfl, h.keeps (·.twin.en) fun _ => rfl, h.keeps (·.twin.peerUnfit) fun _ => rfl,
    h.regs⟩

end Dev.GazeboOnly

/-! ### The fault manager -/

/-- The safe state, as the fault manager has entered it (R434). -/
structure Dev.InSafe (v : Word) (d : Dev) : Prop where
  wf : cellsWf d.regs = true
  last : d.rd Reg.depFaultLast = v
  safe : d.dep.safe = true
  lreset : d.lbu.lreset = true

theorem Dev.InSafe.sendNote {v : Word} {d : Dev} (h : d.InSafe v) (ntype bit map : Nat) : (d.sendNote ntype bit map).InSafe v := by
  have hregs : Dev.RegsKept (· = Reg.depFaultLast) d (d.sendNote ntype bit map) := (Dev.RegsKept.refl h.wf).sendNote (by decide) ..
  exact ⟨hregs.wf, (hregs.rd _ rfl).trans h.last, (d.sendNote_keeps (·.dep.safe) (fun _ => rfl) ..).trans h.safe,
    (d.sendNote_keeps (·.lbu.lreset) (fun _ => rfl) ..).trans h.lreset⟩

/-- The device as it enters the safe state, before its note (R434). -/
def Dev.madeSafe (d : Dev) : Dev :=
  { (d.onDep fun p => { p with safe := true }).cutBus with
    lbu := { (d.onDep fun p => { p with safe := true }).cutBus.lbu with lreset := true }, twin := { d.twin with prot := false, streaming := false } }

theorem Dev.enterSafe_eq {d : Dev} (h : d.dep.safe = false) (bit : Nat) : d.enterSafe bit = d.madeSafe.sendNote 4 bit :=
  if_neg (by rw [h]; decide)

/-- The safe state is entered (R434): the levels of the fault bits stand. -/
theorem Dev.enterSafe_view {d e : Dev} (h : d.LevelsKept e) (hsafe : e.dep.safe = false) (bit : Nat) :
    d.LevelsKept (e.enterSafe bit) ∧ (e.enterSafe bit).InSafe (e.rd Reg.depFaultLast) := by
  have hlevels : d.LevelsKept e.madeSafe := ⟨h.links, h.damaged, h.dep, h.clkOk, h.blv, h.en, h.unfit, h.regs.step⟩
  have hin : e.madeSafe.InSafe (e.rd Reg.depFaultLast) := ⟨h.regs.wf, rfl, rfl, rfl⟩
  rw [Dev.enterSafe_eq hsafe]
  exact ⟨hlevels.sendNote .., hin.sendNote ..⟩

/-- What DEP_FAULT_LAST shows of a bit that led to the safe state, after an earlier value (R432). -/
def safeLast (b : Nat) (was : Nat) : Word := BitVec.ofNat 32 (b + 16 * 3 + 65536 * ((was + 1) % 65536))

/-- A fault bit of fixed action rises, its action the takeover, and no twin stands ready (R433). -/
theorem Dev.faultRise_view {d e : Dev} (h : d.LevelsKept e) {b : Nat} (hfix : fixedFault b = true) (hact : e.fld Reg.depFaultAct (2 * b) 2 = 2)
    (hpeer : e.peerStandby = false) (hsafe : e.dep.safe = false) :
    d.LevelsKept (e.faultRise b) ∧ (e.faultRise b).InSafe (safeLast b (e.fld Reg.depFaultLast 16 16)) := by
  unfold Dev.faultRise
  extract_lets set act code rises d1
  have hcode : code = 3 := by
    have hset : set = 2 := hact
    have hact2 : act = 2 := by rw [show act = if _ then 2 else set from rfl, hset, ite_self]
    rw [show code = if act = 2 then _ else _ from rfl, if_pos hact2, if_neg (by rw [hpeer]; decide), if_pos hfix]
  have h1 : d.LevelsKept d1 := (h.wrFaultLast _).sendNote ..
  have hlast : d1.rd Reg.depFaultLast = safeLast b (e.fld Reg.depFaultLast 16 16) := by
    have hregs : Dev.RegsKept (· = Reg.depFaultLast) (e.wr Reg.depFaultLast (BitVec.ofNat 32 (b + 16 * code + 65536 * rises))) d1 :=
      (Dev.RegsKept.refl (Dev.wr_wf h.regs.wf _ _)).sendNote (by decide) ..
    rw [hregs.rd _ rfl, Dev.rd_wr_same h.regs.wf, hcode]
    rfl
  have hsafe1 : d1.dep.safe = false := (Dev.sendNote_keeps (·.dep.safe) (fun _ => rfl) _ 1 b 0).trans hsafe
  clear_value d1
  rw [hcode, ← hlast]
  exact Dev.enterSafe_view h1 hsafe1 b

/-! ### What else follows the command -/

/-- A property that messages, records and interrupts sent leave. -/
structure SignalClosed (P : Dev → Prop) : Prop where
  emit : ∀ d e, P d → P (d.emit e)
  fab : ∀ d f, P d → P (d.onFab f)
  twin : ∀ d f, P d → P (d.onTwin f)
  msgs : ∀ d n m, P d → P { d with itm := d.itm.modify n fun l => { l with msgs := l.msgs ++ [m] } }
  intb : ∀ d x, P d → P { d with intb := { d.intb with remote := x } }
  hp : ∀ d v, P d → P { d with hp := { d.hp with msgs := d.hp.msgs ++ [v] } }
  sent : ∀ d, P d → P (d.bump Reg.intMsgSent)

namespace SignalClosed

variable {P : Dev → Prop} (hP : SignalClosed P)
include hP

theorem sendMsg (d : Dev) (n : Nat) (t : Transfer) (h : P d) : P (d.sendMsg n t) := hP.emit _ _ (hP.msgs d _ _ h)

theorem sendRec (d : Dev) (rtype : Nat) (body : List Byte) (h : P d) : P (d.sendRec rtype body) := by
  unfold Dev.sendRec
  split
  · split
    · exact hP.twin _ _ (hP.sendMsg d _ _ h)
    · exact h
  · exact h

theorem twinSettle (d : Dev) (h : P d) : P (twinSettle d) := SettleClosed.ite (hP.twin _ _ h) h

theorem mirrorSettle (o d : Dev) (h : P d) : P (mirrorSettle o d) := by
  unfold Machine.mirrorSettle
  refine SettleClosed.ite h ?_
  extract_lets fresh d1 gone
  have h1 : P d1 := by
    refine SettleClosed.foldl _ (fun e r he => hP.fab _ _ (SettleClosed.foldl _ (fun e i he => hP.sendRec e _ _ he) _ _ he)) _ _ ?_
    exact SettleClosed.foldl _ (fun e r he => SettleClosed.foldl _ (fun e p he => hP.sendRec e _ _ he) _ _ he) _ _ h
  exact SettleClosed.foldl _ (fun e r he => SettleClosed.foldl _ (fun e i he => hP.sendRec e _ _ he) _ _ he) _ _ h1

theorem itmosLevel (d : Dev) (s : Nat) (on : Bool) (h : P d) : P (d.itmosLevel s on) := by
  unfold Dev.itmosLevel
  extract_lets root
  refine SettleClosed.ite (hP.intb d _ h) ?_
  split
  · exact hP.sendMsg _ _ _ h
  · exact h

theorem intSettle (o d : Dev) (h : P d) : P (intSettle o d) := by
  unfold Machine.intSettle
  extract_lets was now d1 d2 fw d3 d4 v
  have h1 : P d1 := SettleClosed.foldl _ (fun e s he => hP.itmosLevel e s _ he) _ _ h
  have h2 : P d2 := SettleClosed.foldl _ (fun e s he => hP.itmosLevel e s _ he) _ _ h1
  have h3 : P d3 := SettleClosed.foldl _ (fun e s he => hP.emit e _ he) _ _ h2
  have h4 : P d4 := SettleClosed.foldl _ (fun e s he => hP.emit e _ he) _ _ h3
  exact SettleClosed.foldl _ (fun e v he => hP.sent _ (hP.hp e v he)) _ _ h4

end SignalClosed

theorem Dev.InSafe.signalClosed (v : Word) : SignalClosed (Dev.InSafe v) where
  emit _ _ h := ⟨h.wf, h.last, h.safe, h.lreset⟩
  fab _ _ h := ⟨h.wf, h.last, h.safe, h.lreset⟩
  twin _ _ h := ⟨h.wf, h.last, h.safe, h.lreset⟩
  msgs _ _ _ h := ⟨h.wf, h.last, h.safe, h.lreset⟩
  intb _ _ h := ⟨h.wf, h.last, h.safe, h.lreset⟩
  hp _ _ h := ⟨h.wf, h.last, h.safe, h.lreset⟩
  sent _ h := ⟨Dev.bump_wf h.wf .., (Dev.rd_wr_ne h.wf _ (by decide)).trans h.last, h.safe, h.lreset⟩

/-! ### The lockstep comparison -/

/-- The device whose Lodge has found the two cores apart (R494). -/
def Dev.mismatched (d : Dev) : Dev := d.onDep fun p => { p with lockstep := true }

theorem Dev.mismatched_faultLevel (d : Dev) {b : Nat} (hb : b ≠ 1) : d.mismatched.faultLevel b = d.faultLevel b := by
  unfold Dev.faultLevel
  split
  case h_2 => exact absurd rfl hb
  all_goals rfl

/-- Of a lockstep mismatch alone, bit 1 alone rises. -/
theorem faultRises_mismatched {o d : Dev} (h : o.mismatched.LevelsKept d) (hoff : o.dep.lockstep = false) : faultRises o d = [1] := by
  have hrise : ∀ b ∈ List.range 15, (d.faultLevel b && !o.faultLevel b) = (b == 1) := fun b _ => by
    rw [h.faultLevel b]
    by_cases hb : b = 1
    · subst hb
      show (true && !o.dep.lockstep) = true
      rw [hoff]
      rfl
    · rw [Dev.mismatched_faultLevel o hb, beq_eq_false_iff_ne.mpr hb]
      cases o.faultLevel b <;> rfl
  exact (List.filter_congr hrise).trans (by decide)

/-- The fault manager answers the mismatch with the safe state, and no bit rises after it. -/
theorem faultSettle_mismatched {o d : Dev} (h : o.mismatched.LevelsKept d) (hoff : o.dep.lockstep = false)
    (hact : d.fld Reg.depFaultAct 2 2 = 2) (hpeer : d.peerStandby = false) (hsafe : d.dep.safe = false) :
    (faultSettle o d).InSafe (safeLast 1 (d.fld Reg.depFaultLast 16 16)) := by
  obtain ⟨hlevels, hin⟩ := Dev.faultRise_view (Dev.LevelsKept.refl h.regs.wf) (b := 1) rfl hact hpeer hsafe
  unfold faultSettle
  rw [faultRises_mismatched h hoff, List.foldl_cons, List.foldl_nil]
  dsimp only
  rw [hlevels.faultRises]
  exact hin

theorem safeLast_names {b : Nat} (hb : b < 16) (was : Nat) : fieldOf (safeLast b was) 0 4 = b := by
  simp only [fieldOf, safeLast, BitVec.toNat_ofNat, bitsOf]
  omega

/-- What follows a mismatch at once, to its end. -/
theorem settle_mismatched {o d : Dev} (h : o.mismatched.LevelsKept d) (hoff : o.dep.lockstep = false)
    (hact : d.fld Reg.depFaultAct 2 2 = 2) (hpeer : d.peerStandby = false) (hsafe : d.dep.safe = false) :
    ∃ was, (settle o d).InSafe (safeLast 1 was) := by
  have hgzb : d.GazeboOnly (gzbSettle d) := .of_gzbSettle h.regs.wf
  unfold settle
  generalize gzbSettle d = g at hgzb ⊢
  have hin := faultSettle_mismatched (h.trans hgzb.levels) hoff ((hgzb.regs.fld (.inl (by simp)) 2 2).trans hact)
    ((hgzb.keeps (·.peerStandby) fun _ => rfl).trans hpeer) ((hgzb.keeps (·.dep.safe) fun _ => rfl).trans hsafe)
  have hsig := Dev.InSafe.signalClosed (safeLast 1 (g.fld Reg.depFaultLast 16 16))
  exact ⟨_, hsig.intSettle o _ (hsig.mirrorSettle o _ (hsig.twinSettle _ hin))⟩

theorem safeState : Claims.SafeState := by
  unfold Claims.SafeState
  intro s hInv hoff _ hact hpeer hsafe
  have hclear : s.dev.mismatched.LevelsKept s.clear.mismatched := ⟨rfl, rfl, rfl, rfl, rfl, rfl, rfl, ⟨hInv.regs, fun _ _ => rfl⟩⟩
  obtain ⟨was, hin⟩ := settle_mismatched hclear hoff hact hpeer hsafe
  have hmem : (settle s.dev s.clear.mismatched).mem = s.dev.mem := settle_mem ..
  refine after_of_eq (f := Dev.mismatched) (by unfold exec; rfl) rfl ?_
  generalize settle s.dev s.clear.mismatched = e at hin hmem ⊢
  refine ⟨hin.safe, ?_, hin.lreset, (congrArg (fieldOf · 0 4) hin.last).trans (safeLast_names (by decide) was), hmem⟩
  rw [Dev.silent, hin.safe]
  rfl

/-- Settles O54: the checkers, the scrubber and the spares one by one, and the safe state through what follows a command at once. -/
theorem dependabilityUnits : Obligations.DependabilityUnits := ⟨checkersAndSpares, safeState⟩

end Sys2Proof.Machine
end

section
/-! What a store to memory (R427, R428) and a programming of the flash leave to be read. -/
namespace Sys2Proof.Machine

/-! ### A store to memory, word by word -/

/-- The value a store puts into a byte, where it puts one. -/
def storedAt (a : Nat) (data : WData) (c : Nat) : Option Byte := if a ≤ c then data.getD (c - a) none else none

/-- The step of a store for one word of eight bytes. -/
def Dev.storeWord (a : Nat) (data : WData) (p : Dev × Option Nat) (w : Nat) : Dev × Option Nat :=
  let x := dwordData a data w
  if x.all (·.isSome) then (((p.1.setBytes w x).freshWords w 8).sendArea w x, p.2)
  else if x.any (·.isSome) ∧ (p.1.badIn w 8).isSome then (p.1, p.2.orElse fun _ => some w)
  else ((p.1.setBytes w x).sendArea w x, p.2)

theorem Dev.memStore_eq (d : Dev) (a : Nat) (data : WData) :
    d.memStore a data = (dwordsOf a data.length).foldl (Dev.storeWord a data) (d, none) := rfl

/-- A part of the device that a store and its record to the twin leave. -/
theorem RecordApart.sendArea {α : Type} {g : Dev → α} (hg : RecordApart g) (d : Dev) (w : Nat) (x : WData) : g (d.sendArea w x) = g d := by
  unfold Dev.sendArea
  dsimp only
  split
  · exact hg.sendRec ..
  · rfl

theorem RecordApart.memStore {α : Type} {g : Dev → α} (hg : RecordApart g) (d : Dev) (a : Nat) (data : WData) :
    g (d.memStore a data).1 = g d := by
  rw [Dev.memStore_eq]
  refine List.foldlRecOn (motive := fun p : Dev × Option Nat => g p.1 = g d) _ _ rfl fun p hp w _ => ?_
  unfold Dev.storeWord
  dsimp only
  split
  · exact (hg.sendArea ..).trans ((hg.freshWords ..).trans ((hg.setBytes ..).trans hp))
  · split
    · exact hp
    · exact (hg.sendArea ..).trans ((hg.setBytes ..).trans hp)

theorem dwordData_getElem? (a : Nat) (data : WData) (w i : Nat) :
    (dwordData a data w)[i]? = if i < 8 then some (storedAt a data (w + i)) else none := by
  by_cases hi : i < 8
  · rw [if_pos hi, dwordData, List.getElem?_map, List.getElem?_range hi]
    rfl
  · rw [if_neg hi, List.getElem?_eq_none]
    rw [dwordData, List.length_map, List.length_range]
    omega

/-- A byte after enabled bytes have been set. -/
theorem Dev.byteAt_setBytes : ∀ (x : WData) {d : Dev} (a c : Nat), Memory.wf d.mem = true →
    (d.setBytes a x).byteAt c = if a ≤ c then (x.getD (c - a) none).getD (d.byteAt c) else d.byteAt c
  | [], _, _, _, _ => by simp [Dev.setBytes]
  | none :: t, d, a, c, hw => by
    rw [Dev.setBytes, Dev.byteAt_setBytes t (a + 1) c hw]
    obtain hc | rfl | hc := Nat.lt_trichotomy c a
    · rw [if_neg (by omega), if_neg (by omega)]
    · rw [if_neg (by omega), if_pos le_rfl, Nat.sub_self]
      rfl
    · rw [if_pos (by omega), if_pos (by omega), show c - a = (c - (a + 1)) + 1 by omega]
      rfl
  | some b :: t, d, a, c, hw => by
    rw [Dev.setBytes, Dev.byteAt_setBytes t (a + 1) c (Dev.setByte_memWf hw a b), Dev.byteAt_setByte hw]
    obtain hc | rfl | hc := Nat.lt_trichotomy c a
    · rw [if_neg (by omega), if_neg (by omega), if_neg (by omega)]
    · rw [if_neg (by omega), if_pos rfl, if_pos le_rfl, Nat.sub_self]
      rfl
    · rw [if_pos (by omega), if_neg (by omega), if_pos (by omega), show c - a = (c - (a + 1)) + 1 by omega]
      rfl

/-- A byte after one word of a store. -/
theorem Dev.byteAt_setWord {d : Dev} (hw : Memory.wf d.mem = true) (a : Nat) (data : WData) (w c : Nat) :
    (d.setBytes w (dwordData a data w)).byteAt c = if w ≤ c ∧ c < w + 8 then (storedAt a data c).getD (d.byteAt c) else d.byteAt c := by
  rw [Dev.byteAt_setBytes _ w c hw, List.getD_eq_getElem?_getD, dwordData_getElem?]
  by_cases hlo : w ≤ c
  · by_cases hhi : c < w + 8
    · rw [if_pos hlo, if_pos (by omega), if_pos ⟨hlo, hhi⟩, show w + (c - w) = c by omega]
      rfl
    · rw [if_pos hlo, if_neg (by omega), if_neg fun h => hhi h.2]
      rfl
  · rw [if_neg hlo, if_neg fun h => hlo h.1]

theorem Dev.setBytes_bad : ∀ (x : WData) (d : Dev) (a : Nat), (d.setBytes a x).bad = d.bad
  | [], _, _ => rfl
  | none :: t, d, a => Dev.setBytes_bad t d (a + 1)
  | some b :: t, d, a => Dev.setBytes_bad t (d.setByte a b) (a + 1)

theorem Dev.sendArea_mem_bad (d : Dev) (w : Nat) (x : WData) : (d.sendArea w x).mem = d.mem ∧ (d.sendArea w x).bad = d.bad := by
  unfold Dev.sendArea Dev.sendRec
  dsimp only
  split
  · split
    · split <;> exact ⟨rfl, rfl⟩
    · exact ⟨rfl, rfl⟩
  · exact ⟨rfl, rfl⟩

/-- A store under way in a device without uncorrectable words: what the words done so far have left in each byte. -/
structure Dev.Storing (d : Dev) (a : Nat) (data : WData) (done : Nat → Prop) (e : Dev) : Prop where
  mem : Memory.wf e.mem = true
  bad : e.bad = []
  hit : ∀ c, done c → e.byteAt c = (storedAt a data c).getD (d.byteAt c)
  miss : ∀ c, ¬done c → e.byteAt c = d.byteAt c

namespace Dev.Storing

variable {d e f : Dev} {a : Nat} {data : WData} {done : Nat → Prop}

theorem of_mem (h : d.Storing a data done e) (hmem : f.mem = e.mem) (hbad : f.bad = []) : d.Storing a data done f := by
  have hbyte : ∀ c, f.byteAt c = e.byteAt c := fun c => by rw [Dev.byteAt, Dev.byteAt, hmem]
  exact ⟨hmem ▸ h.mem, hbad, fun c hc => (hbyte c).trans (h.hit c hc), fun c hc => (hbyte c).trans (h.miss c hc)⟩

/-- The word as it is set: twice is as once. -/
theorem setWord (h : d.Storing a data done e) (w : Nat) :
    d.Storing a data (fun c => done c ∨ w ≤ c ∧ c < w + 8) (e.setBytes w (dwordData a data w)) where
  mem := Dev.setBytes_memWf _ w h.mem
  bad := (Dev.setBytes_bad _ e w).trans h.bad
  hit := fun c hc => by
    rw [Dev.byteAt_setWord h.mem]
    by_cases hdone : done c
    · rw [h.hit c hdone]
      cases storedAt a data c <;> simp
    · rw [if_pos (hc.resolve_left hdone), h.miss c hdone]
  miss := fun c hc => by
    rw [Dev.byteAt_setWord h.mem, if_neg fun hw => hc (.inr hw), h.miss c fun hdone => hc (.inl hdone)]

theorem storeWord {p : Dev × Option Nat} (h : d.Storing a data done p.1) (w : Nat) :
    d.Storing a data (fun c => done c ∨ w ≤ c ∧ c < w + 8) (Dev.storeWord a data p w).1 := by
  have hset := h.setWord w
  unfold Dev.storeWord
  extract_lets x
  split
  · have hfresh : ((p.1.setBytes w x).freshWords w 8).bad = [] := by rw [Dev.freshWords, hset.bad, List.filter_nil]
    obtain ⟨hmem, hbad⟩ := Dev.sendArea_mem_bad ((p.1.setBytes w x).freshWords w 8) w x
    exact hset.of_mem hmem (hbad.trans hfresh)
  · have hnone : p.1.badIn w 8 = none := by rw [Dev.badIn, h.bad, List.find?_nil]
    rw [if_neg fun hc => by simp [hnone] at hc]
    obtain ⟨hmem, hbad⟩ := Dev.sendArea_mem_bad (p.1.setBytes w x) w x
    exact hset.of_mem hmem (hbad.trans hset.bad)

theorem foldl : ∀ (ws : List Nat) {done : Nat → Prop} {p : Dev × Option Nat}, d.Storing a data done p.1 →
    d.Storing a data (fun c => done c ∨ ∃ w ∈ ws, w ≤ c ∧ c < w + 8) (ws.foldl (Dev.storeWord a data) p).1
  | [], _, _, h => by simpa using h
  | w :: ws, done, p, h => by
    have hrest := foldl ws (h.storeWord w)
    simpa only [List.exists_mem_cons_iff, or_assoc, List.foldl_cons] using hrest

end Dev.Storing

/-- The words of a store cover its bytes. -/
theorem exists_dwordsOf {a len c : Nat} (hlo : a ≤ c) (hhi : c < a + len) : ∃ w ∈ dwordsOf a len, w ≤ c ∧ c < w + 8 := by
  refine ⟨c / 8 * 8, List.mem_map.mpr ⟨c / 8 - a / 8, List.mem_range.mpr ?_, ?_⟩, ?_, ?_⟩
  all_goals omega

variable {d : Dev}

/-- What a store leaves of a device without uncorrectable words (R427, R428): the bytes put where they are put, and every other byte. -/
theorem Dev.memStore_storing (hw : Memory.wf d.mem = true) (hbad : d.bad = []) (a : Nat) (data : WData) :
    d.Storing a data (fun _ => True) (d.memStore a data).1 := by
  have h := Dev.Storing.foldl (dwordsOf a data.length) (p := (d, none)) (done := fun _ => False) (d := d) (a := a) (data := data)
    ⟨hw, hbad, fun _ hc => hc.elim, fun _ _ => rfl⟩
  rw [Dev.memStore_eq]
  refine ⟨h.mem, h.bad, fun c _ => ?_, fun c hc => absurd trivial hc⟩
  by_cases hin : a ≤ c ∧ c < a + data.length
  · exact h.hit c (.inr (exists_dwordsOf hin.1 hin.2))
  · have hnone : storedAt a data c = none := by
      rw [storedAt]
      split
      · exact List.getD_eq_default _ _ (by omega)
      · rfl
    by_cases hdone : False ∨ ∃ w ∈ dwordsOf a data.length, w ≤ c ∧ c < w + 8
    · exact h.hit c hdone
    · rw [h.miss c hdone, hnone]
      rfl

/-- The bytes stored are read back. -/
theorem Dev.bytesAt_memStore (hw : Memory.wf d.mem = true) (hbad : d.bad = []) (a : Nat) (bs : List Byte) :
    (d.memStore a (allOn bs)).1.bytesAt a bs.length = bs := by
  have hset := Dev.bytesAt_setBytes bs (d := d) a hw
  refine (Dev.bytesAt_congr fun c hlo hhi => ?_).trans hset
  rw [(Dev.memStore_storing hw hbad a (allOn bs)).hit c trivial, Dev.byteAt_setBytes _ a c hw, if_pos hlo, storedAt, if_pos hlo]
  rfl

/-- A range apart from the one stored to is as it was. -/
theorem Dev.bytesAt_memStore_apart (hw : Memory.wf d.mem = true) (hbad : d.bad = []) {a c n : Nat} {data : WData}
    (h : c + n ≤ a ∨ a + data.length ≤ c) : (d.memStore a data).1.bytesAt c n = d.bytesAt c n := by
  refine Dev.bytesAt_congr fun k hlo hhi => ?_
  have hnone : storedAt a data k = none := by
    rw [storedAt]
    split
    · exact List.getD_eq_default _ _ (by omega)
    · rfl
  rw [(Dev.memStore_storing hw hbad a data).hit k trivial, hnone]
  rfl

/-! ### The flash -/

theorem cellGet_foldl_put (off : Nat) : ∀ (bs : List Byte) (k : Nat) (m : Sparse 8), cellsWf m = true → ∀ a,
    cellGet ((bs.zipIdx k).foldl (fun m p => cellSet m (off + p.2) (~~~ p.1)) m) a =
      if off + k ≤ a ∧ a < off + k + bs.length then ~~~ bs.getD (a - (off + k)) 0 else cellGet m a
  | [], k, m, _, a => by
    rw [if_neg (by simp only [List.length_nil]; omega)]
    rfl
  | b :: t, k, m, hw, a => by
    rw [List.zipIdx_cons, List.foldl_cons, cellGet_foldl_put off t (k + 1) _ (cellsWf_set _ _ hw), cellGet_set hw, List.length_cons]
    obtain hlt | rfl | hgt := Nat.lt_trichotomy a (off + k)
    · rw [if_neg (by omega), if_neg (by omega), if_neg (by omega)]
    · rw [if_neg (by omega), if_pos rfl, if_pos (by omega), Nat.sub_self]
      rfl
    · by_cases hin : a < off + k + (t.length + 1)
      · rw [if_pos (by omega), if_pos (by omega), show a - (off + k) = a - (off + (k + 1)) + 1 by omega]
        rfl
      · rw [if_neg (by omega), if_neg (by omega), if_neg (by omega)]

theorem Dev.flashBytes_of_bytes : ∀ (bs : List Byte) {d : Dev} (off : Nat), (∀ i < bs.length, d.flashByte (off + i) = bs.getD i 0) →
    d.flashBytes off bs.length = bs
  | [], _, _, _ => rfl
  | b :: t, d, off, h => by
    have hhead : d.flashByte off = b := h 0 (by simp)
    have htail := Dev.flashBytes_of_bytes t (d := d) (off + 1) fun i hi => by
      have hnext := h (i + 1) (by simpa using hi)
      rwa [show off + (i + 1) = off + 1 + i by omega] at hnext
    rw [List.length_cons, Dev.flashBytes, hhead, htail]

theorem Dev.flashBytes_length : ∀ (n off : Nat), (d.flashBytes off n).length = n
  | 0, _ => rfl
  | n + 1, off => by rw [Dev.flashBytes, List.length_cons, Dev.flashBytes_length n]

/-- What has been programmed is read back. -/
theorem Dev.flashBytes_flashPut (hw : cellsWf d.ldg.flash = true) (off : Nat) (bs : List Byte) : (d.flashPut off bs).flashBytes off bs.length = bs := by
  refine Dev.flashBytes_of_bytes bs off fun i hi => ?_
  have hget := cellGet_foldl_put off bs 0 d.ldg.flash hw (off + i)
  rw [if_pos (by omega), show off + i - (off + 0) = i by omega] at hget
  exact (congrArg (~~~ ·) hget).trans BitVec.not_not

end Sys2Proof.Machine
end

section
/-! O57: the Lodge's mailbox services (R483, R490, R491, R494–R499). -/
namespace Sys2Proof.Machine

/-! ### The end of a command -/

/-- The device with everything set aside that the end of a mailbox command may change. -/
def Dev.unserved (d : Dev) : Dev :=
  { d with
    regs := [], mem := [], bad := [], fab := {}, itm := [], twin := {}, out := []
    ldg := { d.ldg with mbx := none, erasing := false, eraseWait := false } }

theorem recordApart_unserved : RecordApart Dev.unserved :=
  ⟨⟨fun _ _ => rfl, fun _ _ => rfl, fun _ _ => rfl⟩, fun _ _ => rfl, fun _ _ => rfl, fun _ _ => rfl⟩

/-- The result of a command stored in its parameter block (R498). -/
def Dev.mbxStored (d : Dev) (c : MbxCmd) (result : Nat) (data : List Byte) : Dev :=
  (d.memStore (c.addr + 32) (allOn (leBytes 4 result ++ data))).1.rsvStore 63 63 false (d.devid * 2 ^ 38 + (c.addr + 32)) (4 + data.length)

theorem RecordApart.mbxStored {α : Type} {g : Dev → α} (hg : RecordApart g) (d : Dev) (c : MbxCmd) (result : Nat) (data : List Byte) :
    g (d.mbxStored c result data) = g d := (hg.rsvStore ..).trans (hg.memStore ..)

section
variable {d : Dev} (c : MbxCmd) (result : Nat) (data : List Byte)

/-- A part of the device that the end of a command leaves. -/
theorem Dev.mbxEnd_keeps {α : Type} (g : Dev → α) (hg : ∀ d, g d.unserved = g d) : g (d.mbxEnd c result data) = g d := by
  have hsame : (d.mbxEnd c result data).unserved = d.unserved := recordApart_unserved.mbxStored d c result data
  rw [← hg, hsame, hg]

theorem Dev.mbxEnd_regs : (d.mbxEnd c result data).regs = (d.wr Reg.ldgMbxStatus (setField (d.rd Reg.ldgMbxStatus) 0 5 (2 + 4 * result))).regs := by
  have hregs : (d.mbxStored c result data).regs = d.regs := recordApart_regs.mbxStored d c result data
  change cellSet (d.mbxStored c result data).regs Reg.ldgMbxStatus
    (setField (cellGet (d.mbxStored c result data).regs Reg.ldgMbxStatus) 0 5 (2 + 4 * result)) = _
  rw [hregs]
  rfl

theorem Dev.mbxEnd_answered (hw : cellsWf d.regs = true) (hr : result ≤ 5) : (d.mbxEnd c result data).answered result := by
  refine ⟨rfl, ?_⟩
  rw [Dev.fld, Dev.rd, Dev.mbxEnd_regs, ← Dev.rd, Dev.rd_wr_same hw, fieldOf_setField_same _ (by decide)]
  omega

theorem Dev.mbxEnd_fld (hw : cellsWf d.regs = true) {a : Nat} (ha : a ≠ Reg.ldgMbxStatus) (lo n : Nat) :
    (d.mbxEnd c result data).fld a lo n = d.fld a lo n := by
  rw [Dev.fld, Dev.rd, Dev.mbxEnd_regs, ← Dev.rd, Dev.rd_wr_ne hw _ ha, Dev.fld]

theorem Dev.loseRsv_byteAt (e : Dev) (p : Rsv → Bool) (a : Nat) : (e.loseRsv p).byteAt a = e.byteAt a := by
  rw [Dev.byteAt, Dev.byteAt, Dev.loseRsv_mem]

/-- Memory apart from the parameter block's result. -/
theorem Dev.bytesAt_mbxEnd (hw : Memory.wf d.mem = true) (hbad : d.bad = []) {a n : Nat}
    (h : c.addr + 36 + data.length ≤ a ∨ a + n ≤ c.addr + 32) : (d.mbxEnd c result data).bytesAt a n = d.bytesAt a n := by
  have hlen : (allOn (leBytes 4 result ++ data)).length = 4 + data.length := by
    rw [allOn, List.length_map, List.length_append, leBytes_length]
  refine .trans ?_ (Dev.bytesAt_memStore_apart hw hbad (a := c.addr + 32) (data := allOn (leBytes 4 result ++ data)) (by omega))
  exact Dev.bytesAt_congr fun k _ _ => Dev.loseRsv_byteAt _ _ k

end

/-! ### A command served -/

/-- The pending command, served by the Lodge's firmware (R498). -/
structure Dev.Pending (d : Dev) (c : MbxCmd) : Prop where
  mbx : d.ldg.mbx = some c
  runs : d.lodgeRuns = true
  firmware : d.ldg.recovery = false

section
variable {s : State} {c : MbxCmd} {x : Instr} {code : Nat} {f : Dev → MbxCmd → Dev × Nat × List Byte} {P : Dev → Prop}

theorem does_served (h : s.dev.Pending c) (hx : exec x s = s.act fun d => d.mbxServe code f) (hcode : c.cmd = code) {e : Dev} {r : Nat}
    {data : List Byte} (hf : f s.clear c = (e, r, data)) (hP : P (e.mbxEnd c r data)) : Does x s P := by
  refine does_of_eq (e := e.mbxEnd c r data) hx ?_ hP
  have hgate : ¬(c.cmd ≠ code ∨ (!s.clear.lodgeRuns) = true) := by
    rw [show s.clear.lodgeRuns = true from h.runs]
    exact fun hc => hc.elim (fun hne => hne hcode) (by decide)
  have hfirm : ∀ p : Prop, ¬(s.clear.ldg.recovery = true ∧ p) := fun p hc => by
    rw [show s.clear.ldg.recovery = false from h.firmware] at hc
    exact absurd hc.1 (by decide)
  rw [Dev.mbxServe, show s.clear.ldg.mbx = some c from h.mbx]
  dsimp only
  rw [if_neg hgate, if_neg (hfirm _), hf]

/-- A service that changes nothing but the flash, or nothing at all, and what it answers. -/
theorem does_served_answered (h : s.dev.Pending c) (hInv : Inv s) (hx : exec x s = s.act fun d => d.mbxServe code f) (hcode : c.cmd = code)
    {r : Nat} {data : List Byte} (hf : f s.clear c = (s.clear, r, data)) (hr : r ≤ 5) :
    Does x s fun d => d.answered r ∧ d.ldg.flash = s.dev.ldg.flash ∧ d.gth = s.dev.gth :=
  does_served h hx hcode hf ⟨Dev.mbxEnd_answered c r data hInv.regs hr, Dev.mbxEnd_keeps c r data (·.ldg.flash) fun _ => rfl,
    Dev.mbxEnd_keeps c r data (·.gth) fun _ => rfl⟩

/-- A pending command of another code is not served. -/
theorem quiet_served (h : s.dev.ldg.mbx = some c) (hx : exec x s = s.act fun d => d.mbxServe code f) (hcode : c.cmd ≠ code) : Quiet x s := by
  refine does_of_eq hx ?_ rfl
  rw [Dev.mbxServe, show s.clear.ldg.mbx = some c from h]
  exact if_pos (.inl hcode)

end

end Sys2Proof.Machine
end

section
/-! O57: each of the Lodge's mailbox services (R495–R499). -/
namespace Sys2Proof.Machine

/-! ### What the services read and write -/

section
variable {d : Dev}

theorem Dev.svcRead_outside {ga len : Nat} (h : d.ownMemory ga len = none) (b : List Byte) :
    d.svcRead ga len (some b) = if b.length = len then some b else none := by
  rw [Dev.svcRead, h]

/-- The header in use is a matter of the flash alone (R475). -/
theorem Dev.header?_congr {e : Dev} (h : e.ldg.flash = d.ldg.flash) : e.header? = d.header? := by
  simp only [Dev.header?, Dev.headerOk_congr h, Dev.flashNum_congr h]

/-- So is the user copy of the calibration (R490). -/
theorem Dev.userCal?_congr {e : Dev} (h : e.ldg.flash = d.ldg.flash) : e.userCal? = d.userCal? := by
  simp only [Dev.userCal?, Dev.calOk, Dev.flashBytes_congr h, Dev.flashNum_congr h]

/-- Whether the Arcade's image verifies is a matter of the flash and of the registers of the start (R494). -/
theorem Dev.arcImageOk_congr {e : Dev} (h : e.ldg.flash = d.ldg.flash) (hregs : e.regs = d.regs) : e.arcImageOk = d.arcImageOk := by
  have hfld : ∀ a lo n, e.fld a lo n = d.fld a lo n := fun a lo n => by rw [Dev.fld, Dev.fld, Dev.rd, Dev.rd, hregs]
  simp only [Dev.arcImageOk, Dev.headerUsed, hfld, Dev.section?, Dev.sections_congr h, Dev.firmwareOk, Dev.flashBytes_congr h,
    Dev.flashNum_congr h]

/-- The result of loading a key blob, and the key store after it, are a matter of the key store. -/
theorem Dev.loadBlob_congr {e : Dev} (h : e.gth = d.gth) (k : Nat) (b : List Byte) :
    (e.loadBlob k b).2 = (d.loadBlob k b).2 ∧ (e.loadBlob k b).1.gth = (d.loadBlob k b).1.gth := by
  have hver : e.keyVersion k = d.keyVersion k := by rw [Dev.keyVersion, Dev.keyVersion, h]
  have hkey : e.deviceKey = d.deviceKey := rfl
  have hinst : ∀ use version key, (e.installKey k use version key).gth = (d.installKey k use version key).gth := fun use version key => by
    rw [Dev.installKey, Dev.installKey, Dev.onGth, Dev.onGth, h]
  unfold Dev.loadBlob
  rw [hver, hkey]
  dsimp only
  split
  · exact ⟨rfl, h⟩
  · split
    · exact ⟨rfl, h⟩
    · split
      · exact ⟨rfl, h⟩
      · split
        · exact ⟨rfl, h⟩
        · split
          · exact ⟨rfl, h⟩
          · exact ⟨rfl, hinst ..⟩

theorem fabricClosed_ldg (x : Lodge) : FabricClosed fun e => e.ldg = x where
  bump := fun _ _ _ _ h => h
  elog := fun _ _ h => h
  emit := fun _ _ h => h
  fab := fun _ _ _ h => h
  msgs := fun _ _ _ h => h
  intb := fun _ _ h => h

theorem fabricClosed_bad (x : List Nat) : FabricClosed fun e => e.bad = x where
  bump := fun _ _ _ _ h => h
  elog := fun _ _ h => h
  emit := fun _ _ h => h
  fab := fun _ _ _ h => h
  msgs := fun _ _ _ h => h
  intb := fun _ _ h => h

theorem Dev.svcWrite_ldg (d : Dev) (ga : Nat) (bs : List Byte) : (d.svcWrite ga bs).ldg = d.ldg := by
  have hstore : RecordApart Dev.ldg := ⟨⟨fun _ _ => rfl, fun _ _ => rfl, fun _ _ => rfl⟩, fun _ _ => rfl, fun _ _ => rfl, fun _ _ => rfl⟩
  unfold Dev.svcWrite
  split
  · exact (hstore.rsvStore ..).trans (hstore.memStore ..)
  · exact SettleClosed.foldl (P := fun e => e.ldg = d.ldg) _ (fun e k he => (fabricClosed_ldg d.ldg).issue e _ he) _ _ rfl

/-- What a service has written to the device's own memory. -/
theorem Dev.bytesAt_svcWrite (hw : Memory.wf d.mem = true) (hbad : d.bad = []) {ga a : Nat} {bs : List Byte} (h : d.ownMemory ga bs.length = some a) :
    (d.svcWrite ga bs).bytesAt a bs.length = bs ∧ Memory.wf (d.svcWrite ga bs).mem = true ∧ (d.svcWrite ga bs).bad = [] := by
  have hsto := Dev.memStore_storing hw hbad a (allOn bs)
  have hread := Dev.bytesAt_memStore hw hbad a bs
  rw [Dev.svcWrite, h]
  dsimp only
  generalize (d.memStore a (allOn bs)).1 = e at hsto hread ⊢
  refine ⟨(Dev.bytesAt_congr fun k _ _ => Dev.loseRsv_byteAt _ _ k).trans hread, ?_, (fabricClosed_bad e.bad).loseRsv e _ rfl |>.trans hsto.bad⟩
  exact (congrArg Memory.wf (Dev.loseRsv_mem e _)).trans hsto.mem

end

section
variable {s : State} {c : MbxCmd}

theorem Inv.clear (hInv : Inv s) : s.clear.Sound := ⟨hInv.regs, hInv.mem, hInv.flash, hInv.log, hInv.events, hInv.items, hInv.notes⟩

variable (h : s.dev.Pending c)
include h

/-- What a service answers. -/
theorem does_served_result {x : Instr} {code : Nat} {f : Dev → MbxCmd → Dev × Nat × List Byte} (hx : exec x s = s.act fun d => d.mbxServe code f)
    (hcode : c.cmd = code) (hs : (f s.clear c).1.Sound) {r : Nat} (hf : (f s.clear c).2.1 = r) (hr : r ≤ 5) : Does x s fun d => d.answered r :=
  does_served h hx hcode (e := (f s.clear c).1) (r := r) (data := (f s.clear c).2.2) (by rw [← hf]) (Dev.mbxEnd_answered c r _ hs.regs hr)

variable (hInv : Inv s)
include hInv

/-! ### CFG_REAPPLY -/

theorem does_cfgReapply (hcode : c.cmd = 1) (hcfg : (configOf s.dev.ldg.config).getD [] = []) : Does .cfgReapply s fun d => d.answered 0 := by
  have hre : s.clear.reapply (c.num 0 4) = (s.clear, 0, false) := by
    rw [Dev.reapply, show (configOf s.clear.ldg.config).getD [] = [] from hcfg, List.filter_nil, Dev.applyRecords]
  refine does_served h (code := 1) (by unfold exec; rfl) hcode (e := s.clear) (r := 0) (data := leBytes 4 0) ?_
    (Dev.mbxEnd_answered c 0 _ hInv.regs (by decide))
  dsimp only
  rw [hre]
  rfl

/-! ### FLASH_READ -/

theorem does_flashRead_long (hcode : c.cmd = 2) (fails : Bool) (hlen : 65536 < c.num 4 4) : Does (.flashRead fails) s fun d => d.answered 1 := by
  refine does_served h (code := 2) (by unfold exec; rfl) hcode (e := s.clear) (r := 1) (data := []) (if_pos hlen) ?_
  exact Dev.mbxEnd_answered c 1 _ hInv.regs (by decide)

theorem does_flashRead_fails (hcode : c.cmd = 2) (hlen : c.num 4 4 ≤ 65536) : Does (.flashRead true) s fun d => d.answered 3 := by
  refine does_served h (code := 2) (by unfold exec; rfl) hcode (e := s.clear) (r := 3) (data := []) ((if_neg (Nat.not_lt.mpr hlen)).trans (if_pos rfl)) ?_
  exact Dev.mbxEnd_answered c 3 _ hInv.regs (by decide)

theorem does_flashRead (hcode : c.cmd = 2) (hlen : c.num 4 4 ≤ 65536) : Does (.flashRead false) s fun d =>
    d.answered 0 ∧ d.ldg.flash = s.dev.ldg.flash ∧ ∀ a, s.dev.ownMemory (c.num 8 6) (c.num 4 4) = some a → s.dev.bad = [] →
      (c.addr + 36 ≤ a ∨ a + c.num 4 4 ≤ c.addr + 32) → d.bytesAt a (c.num 4 4) = s.dev.flashBytes (c.num 0 4) (c.num 4 4) := by
  have hbytes : s.clear.flashBytes (c.num 0 4) (c.num 4 4) = s.dev.flashBytes (c.num 0 4) (c.num 4 4) := Dev.flashBytes_congr (d := s.dev) (e := s.clear) rfl _ _
  have hlength : (s.dev.flashBytes (c.num 0 4) (c.num 4 4)).length = c.num 4 4 := Dev.flashBytes_length ..
  refine does_served h (code := 2) (by unfold exec; rfl) hcode
    (e := s.clear.svcWrite (c.num 8 6) (s.dev.flashBytes (c.num 0 4) (c.num 4 4))) (r := 0) (data := []) ?_ ?_
  · rw [← hbytes]
    exact (if_neg (Nat.not_lt.mpr hlen)).trans (if_neg (by decide))
  · generalize s.dev.flashBytes (c.num 0 4) (c.num 4 4) = bs at hlength ⊢
    rw [← hlength]
    refine ⟨Dev.mbxEnd_answered c 0 _ (Dev.svcWrite_sound _ _ _ hInv.clear).regs (by decide), ?_, fun a hown hbad hapart => ?_⟩
    · exact (Dev.mbxEnd_keeps c 0 [] (·.ldg.flash) fun _ => rfl).trans (congrArg (·.flash) (Dev.svcWrite_ldg ..))
    · obtain ⟨hread, hmem, hbad'⟩ := Dev.bytesAt_svcWrite (d := s.clear) hInv.mem hbad hown
      exact (Dev.bytesAt_mbxEnd c 0 [] hmem hbad' hapart).trans hread

/-! ### FLASH_WRITE -/

section
variable (hcode : c.cmd = 3) (b : List Byte) (fails : Bool)
include hcode

theorem does_flashWrite_misfit (hbad : c.num 0 4 % 4096 ≠ 0 ∨ c.num 4 4 % 4096 ≠ 0 ∨ 65536 < c.num 4 4) :
    Does (.flashWrite (some b) fails) s fun d => d.answered 1 ∧ d.ldg.flash = s.dev.ldg.flash := by
  obtain ⟨d, hexec, hans, hflash, -⟩ := does_served_answered h hInv (x := .flashWrite (some b) fails) (code := 3) (by unfold exec; rfl) hcode
    (r := 1) (data := []) (if_pos (show 65536 < c.num 4 4 ∨ c.num 0 4 % 4096 ≠ 0 ∨ c.num 4 4 % 4096 ≠ 0 by omega)) (by decide)
  exact ⟨d, hexec, hans, hflash⟩

variable (hoff : c.num 0 4 % 4096 = 0) (hlen : c.num 4 4 % 4096 = 0) (hmax : c.num 4 4 ≤ 65536)
include hoff hlen hmax

theorem does_flashWrite_protected (hin : c.num 0 4 < 0xF000 ∧ 0x1000 < c.num 0 4 + c.num 4 4) :
    Does (.flashWrite (some b) fails) s fun d => d.answered 2 ∧ d.ldg.flash = s.dev.ldg.flash := by
  have hfit : ¬(65536 < c.num 4 4 ∨ c.num 0 4 % 4096 ≠ 0 ∨ c.num 4 4 % 4096 ≠ 0) := by omega
  have htouch : (decide (c.num 0 4 < 0xF000) && decide (0x1000 < c.num 0 4 + c.num 4 4)) = true ∨
      (decide (c.num 0 4 < 0x20000) && decide (0x10000 < c.num 0 4 + c.num 4 4)) = true := .inl (by simpa using hin)
  obtain ⟨d, hexec, hans, hflash, -⟩ := does_served_answered h hInv (x := .flashWrite (some b) fails) (code := 3) (by unfold exec; rfl) hcode
    (r := 2) (data := []) ((if_neg hfit).trans (if_pos htouch)) (by decide)
  exact ⟨d, hexec, hans, hflash⟩

variable (hfree : c.num 0 4 + c.num 4 4 ≤ 0x1000 ∨ 0x20000 ≤ c.num 0 4) (hown : s.dev.ownMemory (c.num 8 6) (c.num 4 4) = none)
include hfree hown

omit h hInv hcode in
theorem mbxFlashWrite_free : s.clear.mbxFlashWrite c (some b) fails =
    if b.length = c.num 4 4 then
      (if fails then (s.clear.flashLost (c.num 0 4) (c.num 4 4), 3, [])
      else ((s.clear.flashErase (c.num 0 4) (c.num 4 4)).flashPut (c.num 0 4) b, 0, []))
    else (s.clear, 4, []) := by
  have hfit : ¬(65536 < c.num 4 4 ∨ c.num 0 4 % 4096 ≠ 0 ∨ c.num 4 4 % 4096 ≠ 0) := by omega
  unfold Dev.mbxFlashWrite
  extract_lets off len touches
  have htouch : ¬(touches 0x1000 0xF000 = true ∨ touches 0x10000 0x20000 = true) := by
    simp only [touches, off, len, Bool.and_eq_true, decide_eq_true_eq]
    omega
  rw [if_neg hfit, if_neg htouch, Dev.svcRead_outside (d := s.clear) hown]
  by_cases hb : b.length = c.num 4 4
  · rw [if_pos hb, if_pos hb]
  · rw [if_neg hb, if_neg hb]

theorem does_flashWrite_short (hb : b.length ≠ c.num 4 4) :
    Does (.flashWrite (some b) fails) s fun d => d.answered 4 ∧ d.ldg.flash = s.dev.ldg.flash := by
  obtain ⟨d, hexec, hans, hflash, -⟩ := does_served_answered h hInv (x := .flashWrite (some b) fails) (code := 3) (by unfold exec; rfl) hcode
    (r := 4) (data := []) ((mbxFlashWrite_free b fails hoff hlen hmax hfree hown).trans (if_neg hb)) (by decide)
  exact ⟨d, hexec, hans, hflash⟩

theorem does_flashWrite (hb : b.length = c.num 4 4) :
    Does (.flashWrite (some b) false) s fun d => d.answered 0 ∧ d.flashBytes (c.num 0 4) (c.num 4 4) = b := by
  have hs : ((s.clear.flashErase (c.num 0 4) (c.num 4 4)).flashPut (c.num 0 4) b).Sound :=
    Dev.flashPut_sound _ _ _ (Dev.flashErase_sound _ _ _ hInv.clear)
  refine does_served h (code := 3) (by unfold exec; rfl) hcode (r := 0) (data := [])
    (e := (s.clear.flashErase (c.num 0 4) (c.num 4 4)).flashPut (c.num 0 4) b)
    ((mbxFlashWrite_free b false hoff hlen hmax hfree hown).trans (if_pos hb))
    ⟨Dev.mbxEnd_answered c 0 [] hs.regs (by decide), ?_⟩
  rw [← hb]
  refine (Dev.flashBytes_congr (Dev.mbxEnd_keeps c 0 [] (·.ldg.flash) fun _ => rfl) _ _).trans ?_
  exact Dev.flashBytes_flashPut (cellsWf_clear _ _ hInv.flash) _ b

end

/-! ### SLOT_STATE -/

theorem does_slotState_badSlot (hcode : c.cmd = 4) (fails : Bool) (hslot : 4 ≤ c.num 0 1) : Does (.slotState fails) s fun d => d.answered 1 :=
  does_served_result h (by unfold exec; rfl) hcode (Dev.mbxSlotState_sound _ _ _ hInv.clear) (r := 1)
    (by rw [Dev.mbxSlotState, if_pos hslot]) (by decide)

theorem does_slotState (hcode : c.cmd = 4) (fails : Bool) (hslot : c.num 0 1 < 4) :
    Does (.slotState fails) s fun d => d.answered (if s.dev.header?.isNone then 4 else if fails then 3 else 0) := by
  have hresult : (s.clear.mbxSlotState c fails).2.1 = if s.dev.header?.isNone then 4 else if fails then 3 else 0 := by
    unfold Dev.mbxSlotState
    dsimp only
    rw [if_neg (by omega), Dev.header?_congr (d := s.dev) (e := s.clear) rfl]
    cases s.dev.header? with
    | none => rfl
    | some n => cases fails <;> rfl
  exact does_served_result h (by unfold exec; rfl) hcode (Dev.mbxSlotState_sound _ _ _ hInv.clear) hresult (by grind)

/-! ### KEY_LOAD, KEY_PROVISION and DEVKEY_PUB -/

theorem does_keyLoad (hcode : c.cmd = 5) {b : List Byte} (hown : s.dev.ownMemory (c.num 0 6) 64 = none) (hb : b.length = 64) :
    Does (.keyLoad (some b)) s fun d =>
      let r := s.dev.loadBlob (leNat (b.take 2) % 1024) b
      d.answered (if r.2 = 0 then 0 else 4) ∧ d.gth.slots = r.1.gth.slots := by
  obtain ⟨hresult, hgth⟩ := Dev.loadBlob_congr (d := s.dev) (e := s.clear) rfl (leNat (b.take 2) % 1024) b
  have hf : s.clear.mbxKeyLoad c (some b) = ((s.clear.loadBlob (leNat (b.take 2) % 1024) b).1,
      (if (s.dev.loadBlob (leNat (b.take 2) % 1024) b).2 = 0 then 0 else 4), leBytes 1 (s.dev.loadBlob (leNat (b.take 2) % 1024) b).2) := by
    rw [Dev.mbxKeyLoad, Dev.svcRead_outside (d := s.clear) hown, if_pos hb, ← hresult]
  have hsound := Dev.loadBlob_sound s.clear (leNat (b.take 2) % 1024) b hInv.clear
  refine does_served h (code := 5) (by unfold exec; rfl) hcode hf ⟨Dev.mbxEnd_answered c _ _ hsound.regs (by split <;> decide), ?_⟩
  exact (Dev.mbxEnd_keeps c _ _ (·.gth.slots) fun _ => rfl).trans (congrArg (·.slots) hgth)

theorem does_keyProvision (hcode : c.cmd = 6) {b : List Byte} (hown : s.dev.ownMemory (c.num 0 6) 112 = none) (hform : (b.getD 67 0).toNat ≠ 1)
    (hb : b.length = 112) : Does (.keyProvision (some b)) s fun d => d.answered 4 ∧ d.gth = s.dev.gth := by
  have hbyte : (((b.drop 64).take 8).getD 3 0).toNat ≠ 1 := by
    simpa [List.getD_eq_getElem?_getD, List.getElem?_take, List.getElem?_drop] using hform
  have hf : s.clear.mbxKeyProvision c (some b) = (s.clear, 4, leBytes 1 1) := by
    rw [Dev.mbxKeyProvision, Dev.svcRead_outside (d := s.clear) hown, if_pos hb]
    exact if_pos hbyte
  obtain ⟨d, hexec, hans, -, hgth⟩ := does_served_answered h hInv (x := .keyProvision (some b)) (code := 6) (by unfold exec; rfl) hcode hf (by decide)
  exact ⟨d, hexec, hans, hgth⟩

theorem does_devkeyPub (hcode : c.cmd = 7) : Does .devkeyPub s fun d => d.answered 0 :=
  does_served_result h (by unfold exec; rfl) hcode (Dev.svcWrite_sound _ _ _ hInv.clear) rfl (by decide)

/-! ### CAL_WRITE -/

section
variable (hcode : c.cmd = 8)
include hcode

theorem does_calWrite_long (b : List Byte) (fails : Bool) (hlen : 0x4000 < c.num 8 4) :
    Does (.calWrite (some b) fails) s fun d => d.answered 1 ∧ d.ldg.flash = s.dev.ldg.flash := by
  obtain ⟨d, hexec, hans, hflash, -⟩ := does_served_answered h hInv (x := .calWrite (some b) fails) (code := 8) (by unfold exec; rfl) hcode
    (r := 1) (data := []) (if_pos hlen) (by decide)
  exact ⟨d, hexec, hans, hflash⟩

theorem does_calWrite_late (b : List Byte) (fails : Bool) (hlen : c.num 8 4 ≤ 0x4000) (hlate : c.late = true) :
    Does (.calWrite (some b) fails) s fun d => d.answered 5 ∧ d.ldg.flash = s.dev.ldg.flash := by
  obtain ⟨d, hexec, hans, hflash, -⟩ := does_served_answered h hInv (x := .calWrite (some b) fails) (code := 8) (by unfold exec; rfl) hcode
    (r := 5) (data := []) ((if_neg (Nat.not_lt.mpr hlen)).trans (if_pos hlate)) (by decide)
  exact ⟨d, hexec, hans, hflash⟩

theorem does_calWrite_nothing (hlen : c.num 8 4 = 0) (hlate : c.late = false) (huser : s.dev.userCal? = none) :
    Does (.calWrite (some []) false) s fun d => d.answered 0 := by
  have hresult : (s.clear.mbxCalWrite c (some []) false).2.1 = 0 := by
    have hown : s.clear.ownMemory (c.num 0 6) 0 = none := if_neg fun hc => hc.2.2.1 rfl
    unfold Dev.mbxCalWrite
    dsimp only
    rw [hlen, if_neg (by decide), if_neg (by rw [hlate]; decide), Dev.svcRead_outside hown, if_pos List.length_nil,
      (Dev.userCal?_congr (d := s.dev) (e := s.clear) rfl).trans huser]
    rfl
  exact does_served_result h (by unfold exec; rfl) hcode (Dev.mbxCalWrite_sound _ _ _ _ hInv.clear) hresult (by decide)

end

/-! ### ARC_RESTART -/

theorem does_arcRestart_refused (hcode : c.cmd = 10) (harc : s.dev.fld Reg.ldgStatus 3 3 ≠ 4) : Does .arcRestart s fun d => d.answered 5 :=
  does_served_result h (by unfold exec; rfl) hcode (Dev.mbxArcRestart_sound _ hInv.clear)
    (r := 5) (by rw [Dev.mbxArcRestart, if_pos (show s.clear.fld Reg.ldgStatus 3 3 ≠ 4 from harc)]) (by decide)

theorem does_arcRestart (hcode : c.cmd = 10) (harc : s.dev.fld Reg.ldgStatus 3 3 = 4) :
    Does .arcRestart s fun d => d.answered (if s.dev.arcImageOk then 0 else 4) ∧
      d.fld Reg.ldgStatus 3 3 = if s.dev.arcImageOk then 2 else 4 := by
  have himage : s.clear.arcImageOk = s.dev.arcImageOk := Dev.arcImageOk_congr rfl rfl
  have hs := Dev.mbxArcRestart_sound _ hInv.clear
  have hresult : s.clear.mbxArcRestart.2.1 = (if s.dev.arcImageOk then 0 else 4) ∧
      s.clear.mbxArcRestart.1.fld Reg.ldgStatus 3 3 = if s.dev.arcImageOk then 2 else 4 := by
    unfold Dev.mbxArcRestart
    rw [if_neg (not_not_intro (show s.clear.fld Reg.ldgStatus 3 3 = 4 from harc)), himage]
    cases s.dev.arcImageOk with
    | false => exact ⟨rfl, harc⟩
    | true =>
      have hw : cellsWf (s.clear.arcHeld.bump Reg.ldgArcRestarts).regs = true := Dev.bump_wf (Dev.arcHeld_sound _ hInv.clear).regs ..
      generalize s.clear.arcHeld.bump Reg.ldgArcRestarts = e at hw ⊢
      exact ⟨rfl, Dev.fld_setFld_same hw (by decide) _ 2⟩
  generalize hr : s.clear.mbxArcRestart = r at hs hresult
  refine does_served h (code := 10) (by unfold exec; rfl) hcode (e := r.1) (r := r.2.1) (data := r.2.2) hr ⟨?_, ?_⟩
  · exact hresult.1 ▸ Dev.mbxEnd_answered c _ _ hs.regs (by rw [hresult.1]; split <;> decide)
  · exact (Dev.mbxEnd_fld c _ _ hs.regs (by decide) 3 3).trans hresult.2

end

end Sys2Proof.Machine
end

section
/-! O57: the mailbox command SLEEP (R496), and the services together. -/
namespace Sys2Proof.Machine

/-! ### The buffered paths -/

/-- No request in the bridge is a posted write in a buffer that a drain of the device empties. -/
def Dev.Unbuffered (d : Dev) : Prop :=
  ∀ r ∈ d.fab.reqs, ∀ p ∈ drainPaths true, (r.posted && r.path == p && decide (0 < r.entries)) = false

theorem Dev.pathsEmpty_iff (d : Dev) : d.pathsEmpty = true ↔ d.Unbuffered := by
  simp only [Dev.pathsEmpty, List.all_eq_true, Dev.pathWrites, List.isEmpty_iff, List.filter_eq_nil_iff, Bool.not_eq_true]
  exact ⟨fun h r hr p hp => h p hp r hr, fun h p hp r hr => h r hr p hp⟩

namespace Dev.Unbuffered

variable {d e : Dev}

theorem of_reqs (h : d.Unbuffered) (hreqs : ∀ r ∈ e.fab.reqs, r ∈ d.fab.reqs) : e.Unbuffered := fun r hr => h r (hreqs r hr)

/-- A request that ends keeps its place. -/
theorem finish (h : d.Unbuffered) (hw : cellsWf d.regs = true) (seq : Nat) (status : Option ErrType) (failAt : Nat) (data : List Byte) :
    (d.finish seq status failAt data).Unbuffered := by
  unfold Dev.finish Dev.finishAt
  extract_lets e
  have he : e.Unbuffered := by
    intro r hr
    obtain ⟨q, hq, rfl⟩ := List.mem_map.mp hr
    split
    · exact h q hq
    · exact h q hq
  have hwe : cellsWf e.regs = true := hw
  clear_value e
  split
  · exact SettleClosed.ite he (he.of_reqs ((Dev.Answered.refl hwe).deliver _).reqs)
  · exact he

theorem zoneEnd (h : d.Unbuffered) (hw : cellsWf d.regs = true) (r : Req) (timer : Nat) : (d.zoneEnd r timer).Unbuffered := by
  unfold Dev.zoneEnd Dev.failReq
  extract_lets e
  have he : e.Unbuffered := h
  have hwe : cellsWf e.regs = true := Dev.bump_wf hw ..
  clear_value e
  have hlog : (e.logFail r .timeout (timer + 16 * r.zoneOf) 0).fab = e.fab := by
    unfold Dev.logFail
    exact Dev.log_keeps (·.fab) (fun _ => rfl) ..
  exact finish (he.of_reqs fun q hq => hlog ▸ hq) (Dev.logFail_wf hwe ..) _ _ _ _

theorem endQueued (h : d.Unbuffered) (hs : d.Sound) (running : Bool) : (d.endQueued running).Unbuffered :=
  (SettleClosed.foldl (P := fun e => e.Unbuffered ∧ e.Sound) _ (fun e r he => ⟨he.1.zoneEnd he.2.regs r 7, Dev.zoneEnd_sound e r 7 he.2⟩) _ _
    ⟨h, hs⟩).1

/-- The beginning of a drain, where no combining line waits. -/
theorem drainStart (h : d.Unbuffered) (hs : d.Sound) (hcwb : d.fab.cwb = []) (all : Bool) : (d.drainStart all).Unbuffered := by
  have hlines : (d.onLbu fun l => { l with draining := true }).emitLines (fun l => (drainPaths all).contains l.path) =
      d.onLbu fun l => { l with draining := true } := by
    rw [Dev.emitLines, show (d.onLbu fun l => { l with draining := true }).fab.cwb = [] from hcwb]
    rfl
  unfold Dev.drainStart
  dsimp only
  rw [hlines]
  exact endQueued (d := d.onLbu fun l => { l with draining := true }) h (Dev.onLbu_sound d _ hs) false

end Dev.Unbuffered

/-! ### The channels -/

/-- The device with the registers and the CAN channels set aside. -/
def Dev.unwired (d : Dev) : Dev := { d with regs := [], can := [] }

theorem Dev.canCtlWrite_unwired (d : Dev) (ch off : Nat) (new : Word) : (d.canCtlWrite ch off new).unwired = d.unwired := by
  unfold Dev.canCtlWrite
  dsimp only
  split
  · rfl
  · split <;> rfl

theorem Dev.setFld_unwired (d : Dev) (off lo n x : Nat) : (d.setFld off lo n x).unwired = d.unwired := rfl

theorem foldl_unwired {α : Type} (g : Dev → α → Dev) (l : List α) (d : Dev) (h : ∀ d a, (g d a).unwired = d.unwired) :
    (l.foldl g d).unwired = d.unwired :=
  SettleClosed.foldl (P := fun e => e.unwired = d.unwired) g (fun e a he => (h e a).trans he) l d rfl

/-- Turning the channels off leaves all but their registers and the CAN channels. -/
theorem Dev.channelsOff_unwired (d : Dev) : d.channelsOff.unwired = d.unwired := by
  unfold Dev.channelsOff
  dsimp only
  rw [foldl_unwired _ _ _ fun e i => e.setFld_unwired .., foldl_unwired _ _ _ fun e l => e.setFld_unwired ..,
    foldl_unwired _ _ _ fun e ch => e.canCtlWrite_unwired ..]

theorem Dev.channelsOff_keeps {α : Type} (g : Dev → α) (hg : ∀ d, g d.unwired = g d) (d : Dev) : g d.channelsOff = g d := by
  rw [← hg, Dev.channelsOff_unwired, hg]

/-! ### SLEEP -/

/-- Nothing is left to send, and nothing keeps the device in RUN (R419, R496). -/
structure Dev.Restful (d : Dev) : Prop where
  paths : d.Unbuffered
  cwb : d.fab.cwb = []
  tx : d.txEmpty = true
  draining : d.lbu.draining = false
  mode : d.wkt.mode = .run
  events : d.wkt.events = []

section
variable {d : Dev} {c : MbxCmd}

/-- The commit that ends the preparation of STANDBY enters it (R419). -/
theorem Dev.sleepEnd_standby (hmode : d.wkt.mode = .run) (hevents : d.wkt.events = []) (hs : d.Sound) :
    (d.sleepEnd c 1).answered 0 ∧ (d.sleepEnd c 1).wkt.mode = .entering ∧ (d.sleepEnd c 1).wkt.target = .standby := by
  have hwkt : (d.drainEnd true).wkt = d.wkt := Dev.standing_keeps (d := d.onLbu _) Dev.wkt (fun _ => rfl) (d.drainEnd_standing true)
  have hw : cellsWf (d.drainEnd true).regs = true := (Dev.drainEnd_sound d true hs).regs
  unfold Dev.sleepEnd
  generalize d.drainEnd true = e at hwkt hw ⊢
  have henter : e.wktEnter 1 = { e with wkt := { e.wkt with mode := .entering, target := .standby } } := by
    unfold Dev.wktEnter
    rw [if_neg (by rw [hwkt, hmode]; decide), if_neg (by rw [hwkt, hevents]; decide), if_pos rfl]
  rw [henter]
  dsimp only
  rw [if_pos rfl]
  exact ⟨Dev.mbxEnd_answered c 0 [] hw (by decide), Dev.mbxEnd_keeps c 0 [] (·.wkt.mode) fun _ => rfl,
    Dev.mbxEnd_keeps c 0 [] (·.wkt.target) fun _ => rfl⟩

/-- The device with the channels off and the drain begun. -/
theorem Dev.drained_view (h : d.Restful) (hs : d.Sound) :
    (d.channelsOff.drainStart true).Sound ∧ (d.channelsOff.drainStart true).lbu.draining = true ∧
      (d.channelsOff.drainStart true).pathsEmpty = true ∧ (d.channelsOff.drainStart true).wkt = d.wkt := by
  have hoff := Dev.channelsOff_sound d hs
  have hfab : d.channelsOff.fab = d.fab := Dev.channelsOff_keeps (·.fab) (fun _ => rfl) d
  have hwkt : d.channelsOff.wkt = d.wkt := Dev.channelsOff_keeps (·.wkt) (fun _ => rfl) d
  generalize d.channelsOff = e at hoff hfab hwkt ⊢
  refine ⟨Dev.drainStart_sound e true hoff, ?_, ?_, ?_⟩
  · exact Dev.standing_keeps (d := e.onLbu _) (fun x => x.lbu.draining) (fun _ => rfl) (e.drainStart_standing true)
  · exact (Dev.pathsEmpty_iff _).mpr (Dev.Unbuffered.drainStart (h.paths.of_reqs fun r hr => hfab ▸ hr) hoff (hfab ▸ h.cwb) true)
  · exact (Dev.standing_keeps (d := e.onLbu _) Dev.wkt (fun _ => rfl) (e.drainStart_standing true)).trans hwkt

/-- With nothing left to send, SLEEP goes through to its mode at once (R496). -/
theorem Dev.sleepStage_standby (h : d.Restful) (hs : d.Sound) (hmode : c.num 0 1 = 1) (expired : Bool) :
    (d.sleepStage c expired).answered 0 ∧ (d.sleepStage c expired).wkt.mode = .entering ∧ (d.sleepStage c expired).wkt.target = .standby := by
  unfold Dev.sleepStage
  extract_lets m d1 was d2
  have hm : m = 1 := hmode
  have h1 : d1.Restful ∧ d1.Sound ∧ d1.wkt = d.wkt :=
    SettleClosed.ite (P := fun e => e.Restful ∧ e.Sound ∧ e.wkt = d.wkt) ⟨h, hs, rfl⟩
      ⟨⟨h.paths, h.cwb, h.tx, h.draining, h.mode, h.events⟩, Dev.setFld_sound _ _ _ _ _ (Dev.setFld_sound _ _ _ _ _ (Dev.setFld_sound _ _ _ _ _ hs)), rfl⟩
  clear_value d1
  obtain ⟨hrest, hs1, -⟩ := h1
  have hbegin : d2 = d1.channelsOff.drainStart true := if_pos (by rw [show was = false from hrest.draining, hrest.tx]; rfl)
  obtain ⟨hs2, hdrain, hpaths, hwkt⟩ := Dev.drained_view hrest hs1
  rw [← hbegin] at hs2 hdrain hpaths hwkt
  clear_value d2
  rw [if_neg (by rw [hm]; decide), if_pos (by rw [hdrain, hpaths]; rfl), hm]
  exact Dev.sleepEnd_standby (hwkt ▸ hrest.mode) (hwkt ▸ hrest.events) hs2

end

section
variable {s : State} {c : MbxCmd}

/-- SLEEP, served by the Lodge's firmware. -/
theorem does_sleep_stage (h : s.dev.Pending c) (hcode : c.cmd = 9) (expired : Bool) {P : Dev → Prop} (hP : P (s.clear.sleepStage c expired)) :
    Does (.sleep expired) s P := by
  refine does_of_eq (f := fun d =>
    match d.ldg.mbx with
    | some c => if c.cmd ≠ 9 ∨ !d.lodgeRuns then d else if d.ldg.recovery then d.mbxEnd c 5 [] else d.sleepStage c expired
    | none => d) (e := s.clear.sleepStage c expired) (by unfold exec; rfl) ?_ hP
  rw [show s.clear.ldg.mbx = some c from h.mbx]
  dsimp only
  have hgate : ¬(c.cmd ≠ 9 ∨ (!s.clear.lodgeRuns) = true) := by
    rw [show s.clear.lodgeRuns = true from h.runs, hcode]
    decide
  rw [if_neg hgate, if_neg (by rw [show s.clear.ldg.recovery = false from h.firmware]; decide)]

theorem quiet_sleep (h : s.dev.ldg.mbx = some c) (hcode : c.cmd ≠ 9) (expired : Bool) : Quiet (.sleep expired) s := by
  refine does_of_eq (f := fun d =>
    match d.ldg.mbx with
    | some c => if c.cmd ≠ 9 ∨ !d.lodgeRuns then d else if d.ldg.recovery then d.mbxEnd c 5 [] else d.sleepStage c expired
    | none => d) (e := s.clear) (by unfold exec; rfl) ?_ rfl
  rw [show s.clear.ldg.mbx = some c from h]
  exact if_pos (.inl hcode)

theorem does_sleep_badMode (h : s.dev.Pending c) (hInv : Inv s) (hcode : c.cmd = 9) (expired : Bool) (hmode : c.num 0 1 ≠ 1 ∧ c.num 0 1 ≠ 2) :
    Does (.sleep expired) s fun d => d.answered 1 := by
  have hstage : s.clear.sleepStage c expired = s.clear.mbxEnd c 1 [] := if_pos hmode
  exact does_sleep_stage h hcode expired (hstage ▸ Dev.mbxEnd_answered c 1 [] hInv.regs (by decide))

/-- A pending command of another code is served by none of the services. -/
theorem quiet_services (h : s.dev.ldg.mbx = some c) (b : List Byte) (fails expired : Bool) {k : Nat} {x : Instr}
    (hx : (k, x) ∈ [(1, Instr.cfgReapply), (2, .flashRead fails), (3, .flashWrite (some b) fails), (4, .slotState fails), (5, .keyLoad (some b)),
      (6, .keyProvision (some b)), (7, .devkeyPub), (8, .calWrite (some b) fails), (9, .sleep expired), (10, .arcRestart)])
    (hcode : c.cmd ≠ k) : Quiet x s := by
  simp only [List.mem_cons, Prod.mk.injEq, List.not_mem_nil, or_false] at hx
  obtain ⟨rfl, rfl⟩ | ⟨rfl, rfl⟩ | ⟨rfl, rfl⟩ | ⟨rfl, rfl⟩ | ⟨rfl, rfl⟩ | ⟨rfl, rfl⟩ | ⟨rfl, rfl⟩ | ⟨rfl, rfl⟩ | ⟨rfl, rfl⟩ | ⟨rfl, rfl⟩ := hx
  case inr.inr.inr.inr.inr.inr.inr.inr.inl => exact quiet_sleep h hcode expired
  all_goals exact quiet_served h (by unfold exec; rfl) hcode

end

/-- Settles O57, a service at a time. -/
theorem mailboxServices : Obligations.MailboxServices := by
  unfold Obligations.MailboxServices
  intro s c b fails expired hInv hruns hmbx hfirm off len
  have h : s.dev.Pending c := ⟨hmbx, hruns, hfirm⟩
  refine ⟨does_cfgReapply h hInv, fun hc => ⟨does_flashRead_long h hInv hc fails, ?_, ?_⟩,
    fun hc => ⟨does_flashWrite_misfit h hInv hc b fails, fun hoff hlen _ hmax => ⟨does_flashWrite_protected h hInv hc b fails hoff hlen hmax,
      fun hfree hown => ⟨does_flashWrite_short h hInv hc b fails hoff hlen hmax hfree hown, ?_⟩⟩⟩,
    fun hc => ⟨does_slotState_badSlot h hInv hc fails, does_slotState h hInv hc fails⟩, fun hc => does_keyLoad h hInv hc, fun hc => does_keyProvision h hInv hc,
    does_devkeyPub h hInv, fun hc => ⟨does_calWrite_long h hInv hc b fails, does_calWrite_late h hInv hc b fails, ?_⟩,
    fun hc => ⟨does_sleep_badMode h hInv hc expired, ?_⟩, fun hc => ⟨does_arcRestart_refused h hInv hc, does_arcRestart h hInv hc⟩,
    fun _ _ => quiet_services hmbx b fails expired⟩
  · rintro hmax rfl
    exact does_flashRead_fails h hInv hc hmax
  · rintro hmax rfl
    exact does_flashRead h hInv hc hmax
  · rintro hb rfl
    exact does_flashWrite h hInv hc b hoff hlen hmax hfree hown hb
  · rintro hlen hlate huser rfl rfl
    exact does_calWrite_nothing h hInv hc hlen hlate huser
  · intro hmode htx hpaths hcwb _ hdrain hrun hevents
    have hrest : s.clear.Restful := ⟨(Dev.pathsEmpty_iff s.dev).mp hpaths, hcwb, htx, hdrain, hrun, hevents⟩
    exact does_sleep_stage h hc expired (Dev.sleepStage_standby hrest hInv.clear hmode expired)

end Sys2Proof.Machine
end
